-- ==== Sys2Proof/Word.lean ====
section
/-!
DEFINITION. The word types of the model: bytes, and the plainest arithmetic on them.
Counts, times and physical values are `Nat` or `Int` (their field widths are applied where they are stored
or returned); bit fields that software reads as bits are `BitVec`.
-/

namespace Sys2Proof

/-- One byte of a packet, settings block, record or buffer. -/
abbrev Byte := BitVec 8

/-- One byte of a sparse memory at an address. -/
abbrev Cell := Nat × Byte

/-- `n` little-endian bytes of `v` (R6); higher bits are cut off. -/
def le : Nat → Nat → List Byte
  | 0, _ => []
  | n + 1, v => BitVec.ofNat 8 v :: le n (v / 256)

/-- The value of little-endian bytes (R6). -/
def unle : List Byte → Nat
  | [] => 0
  | b :: bs => b.toNat + 256 * unle bs

/-- `n` little-endian bytes of a signed value in two's complement (R6). -/
def leInt (n : Nat) (v : Int) : List Byte :=
  le n (v % (2 ^ (8 * n) : Nat)).toNat

/-- A `w`-bit unsigned value read as two's complement. -/
def signed (w : Nat) (v : Nat) : Int :=
  if v < 2 ^ (w - 1) then (v : Int) else (v : Int) - (2 ^ w : Nat)

/-- Saturating unsigned addition at `w` bits. -/
def satAdd (w a b : Nat) : Nat := min (a + b) (2 ^ w - 1)

/-- Bit `i` of a number. -/
def bit (v i : Nat) : Bool := v.testBit i

/-- Bits `hi` to `lo` of a number. -/
def bits (v hi lo : Nat) : Nat := v / 2 ^ lo % 2 ^ (hi + 1 - lo)

/-- A Bool as 0 or 1. -/
def b2n (b : Bool) : Nat := if b then 1 else 0

end Sys2Proof
end

