-- ==== Sys2Proof/Config.lean ====
section
/-!
DEFINITION. What the spec leaves to the implementation or to the individual device: opaque constants without a body,
so that every statement holds for every value of them (assumption log entries 4, 5 and 301).
-/

namespace Sys2Proof.Config

/-- FW_VER of the firmware set a new device runs (R423). -/
opaque factoryFwVer : Nat
/-- MET_VER of the legally relevant metrology part of that set (R423). -/
opaque factoryMetVer : Nat
/-- SEC_VER of that set (R423). -/
opaque factorySecVer : Nat
/-- Manifest bytes of that set (R423). -/
opaque factoryManifest : List Byte
/-- Part images of that set: part type and bytes (R424). -/
opaque factoryParts : List (Nat × List Byte)
/-- The DER certificate stored at index `k` of role 0 before delivery (R407, R413). -/
opaque certDer : Nat → List Byte
/-- The device serial (R390). -/
opaque serial : BitVec 64
/-- The factory MAC address (R390). -/
opaque mac : BitVec 48
/-- Random byte number `k`: the device's true random source, fresh at each draw. -/
opaque rand : Nat → Byte
/-- The SHA-384 digest of a byte string. -/
opaque sha384 : List Byte → BitVec 384
/-- The ECDSA signature made by the private key of a key blob over a byte string (nonce draw `k`), 96 bytes. -/
opaque ecdsaSign : (key : Nat) → (k : Nat) → List Byte → BitVec 768
/-- Whether a signature verifies over a byte string under a public key. -/
opaque ecdsaVerify : (pub : List Byte) → (msg : List Byte) → (sig : List Byte) → Bool
/-- Byte `k` of the public key of a key blob (R421). -/
opaque pubByte : (key : Nat) → (k : Nat) → Byte
/-- What X.509 reads from the DER of a certificate: the algorithm of its key as a KEY_TYPE, its public key, its subject key
identifier, and its validity in µs since 2000; none where it does not parse (R413, R416, R421). -/
opaque certParse : List Byte → Option (Nat × List Byte × List Byte × Nat × Nat)
/-- Odvora's public key for debug tokens (R420, R452). -/
opaque debugPub : List Byte
/-- Odvora's public key for update packages (R423). -/
opaque updatePub : List Byte
/-- The silicon revision of the device (R423). -/
opaque siliconRev : Nat
/-- The FORMAT a firmware set declares for each settings block identifier that differs from 1, as its images hold it: the place is
not stated (R433). -/
opaque declaredFormats : (parts : List (Nat × List Byte)) → List (Nat × Nat)
/-- The boot code that is measured (R418). -/
opaque bootCode : List Byte
/-- An unstated value, drawn with the counter of free values: nothing constrains it. -/
opaque freeNat : Nat → Nat
/-- An unstated signed value. -/
opaque freeInt : Nat → Int

/-- The 40-bit word, in 1/65,536 LSB, of a bitstream of ones: the spec does not state which density is full scale (R48, R50). -/
opaque allOnes : Int
/-- Coefficient `k` of the FIR of stage S2 to S7, in units of 2^-64, for the first half of its taps and the middle one; the FIRs
are linear-phase, and their coefficients are not stated (R48, R49). -/
opaque firTap : (stage : Nat) → (k : Nat) → Int
/-- L_BG, the bandgap +400 mV level measured at final test, 1/256 LSB (R30). -/
opaque lBg : Nat
/-- L_BZ, the zener +400 mV level measured at final test, 1/256 LSB (R30). -/
opaque lBz : Nat
/-- TONE_DLY, the synthesiser's delay, steps of 3.90625 ns (R30). -/
opaque toneDly : Int
/-- NOISE_F of a modulator, LSB RMS (R30). -/
opaque noiseF : Nat → Nat
/-- Factory OFFSET of a modulator, 1/256 LSB (R37). -/
opaque factoryOffset : Nat → Int
/-- Factory GAIN of a modulator, Q2.30 (R37). -/
opaque factoryGain : Nat → Nat
/-- Factory PHASE of a modulator, steps of 3.90625 ns (R37). -/
opaque factoryPhase : Nat → Int
/-- Die temperature at the factory calibration, 0.01 °C (R37). -/
opaque factoryTemp : Nat → Int
/-- Time of the factory calibration (R37). -/
opaque factoryTime : Nat

/-- Bounds of the temperature bands of a waveform part, BAND_LO[0..NB] in 0.1 °C: their place in the part is not stated (R345). -/
opaque waveBounds : (part : List Byte) → List Int
/-- Place in a waveform part of the waveform with an index (256 for the clearing one) of a band, variant A or B (R345). -/
opaque waveAt : (part : List Byte) → (band : Nat) → (variantB : Bool) → (index : Nat) → Nat
/-- Level of pixel (x, y) of a legal line in the legal font of a metrology part: the glyphs and their places are not stated
(R354). -/
opaque legalPixel : (part : List Byte) → (line : Nat) → (shown : Nat) → (x : Nat) → (y : Nat) → BitVec 4
/-- ANG_U2 or ANG_U3 (`k` 1 or 2), 0.01°, of the window that starts at a time and lacks a crossing the angle needs (R87, R96). -/
opaque angleOpen : (start : Nat) → (k : Nat) → BitVec 16
/-- The demand of a DC point while no voltage of G0 is measured, mA: R332 divides by 0 there. -/
opaque dcNeedNoVoltage : Nat
/-- Newest event-log entries at most held outside the MRAM: the size of the tail is not stated (R128, R147). -/
opaque logTail : Nat

end Sys2Proof.Config
end

