-- ==== Sys2Proof/Syntax.lean ====
section
/-!
DEFINITION. The commands and events the block takes, as syntax: the packet of a host command, the operands the world
supplies at an event, and the one inductive of all of them.
-/

namespace Sys2Proof

/-- A source of commands: the SPI port, or one pair of IP address and UDP port (R377). -/
inductive Source where
  | spi
  | net (ip port : Nat)
  deriving DecidableEq, Repr

/-- The host's part of a command packet: every header field the host chooses, and the payload (R365). The opcode is
the command's own; LEN is the payload's length; VER, CRC, STATUS and BOOT are correct (SPI_WRITE and REJECTED_PACKET
carry raw packets for the other cases). -/
structure Pkt where
  src : Source := .spi
  /-- ADDR. -/
  addr : Nat := 0xFE
  /-- SEQ. -/
  seq : Nat := 0
  /-- FLAGS, bits 0 to 3: FENCE_BEFORE, FENCE_AFTER, NO_REPLY, URGENT. -/
  flags : Nat := 0
  payload : List Byte := []
  deriving DecidableEq, Repr

/-- What the steps of a rotation slot measure (R30, R33, R35), in 1/256 LSB where not said otherwise. -/
structure SlotMeas where
  /-- RMS of the difference and RMS of the channel at the first comparison. -/
  cmp1 : Nat × Nat := (0, 0)
  zero : Int := 0
  bgPos : Int := 0
  bgNeg : Int := 0
  bzPos : Int := 0
  bzNeg : Int := 0
  /-- Tone amplitude, peak. -/
  toneAmp : Nat := 0
  /-- Tone delay, steps of 3.90625 ns. -/
  toneDelay : Int := 0
  /-- Zero-input noise, LSB RMS. -/
  noise : Nat := 0
  /-- Die temperature, 0.01 °C. -/
  temp : Int := 0
  /-- RMS of the difference and RMS of the channel at the second comparison. -/
  cmp2 : Nat × Nat := (0, 0)
  /-- The step of R33 in which the slot is cut by a fault, 0 when it runs to its end. -/
  cut : Nat := 0
  deriving DecidableEq, Repr

/-- What shows a modulator faulty (R38): clock periods without a transition, or the ones in 256 periods together with
whether another modulator on the same lands shows OVR. -/
inductive ModEvidence where
  | stuck (periods : Nat)
  | density (ones : Nat) (otherOvr : Bool)
  deriving DecidableEq, Repr

/-- What step 1 of a safety cycle latches for one point (R203, R204, R229, R235, R236). -/
structure PtIn where
  /-- Mean of V_SNS over the excitation period, µV, as S0 receives it. -/
  vsns : Int := 0
  /-- The same as S1 receives it. -/
  vsns1 : Int := 0
  /-- Largest |V_SNS| within the period, µV. -/
  peak : Nat := 5000000
  /-- The excitation current reached saturation in both half-periods. -/
  saturated : Bool := true
  /-- Readback of SAFE_CUTn. -/
  cut : Bool := false
  /-- Coil current, mA. -/
  coilI : Nat := 0
  deriving DecidableEq, Repr

/-- What shows a safety-pair fault (R228 to R231): three tick intervals measured by a core in periods of its oscillator,
a step overrun in µs, cycle numbers or check values of the two cycle words (`check`), the items of a point that the cores compare over
time (1 DC or AC residual, 2 wideband, 3 pilot state, 4 decision vector), cycles without a cycle word, or a failed self-test. -/
inductive PairFault where
  | tick (s1 : Bool) (periods : List Nat)
  | overrun (us : Nat)
  | words (check : Bool) (a b : Nat)
  | lasting (n : Fin 8) (item : Nat)
  | silent (cycles : Nat)
  | selfTest
  deriving DecidableEq, Repr

/-- What arrives on the network as a command: a datagram whose bytes are whole (`frag`: it completes the reassembly with
this identifier), or a fragment that begins one (R366, R374). -/
inductive NetIn where
  | datagram (src : Source) (data : List Byte) (frag : Option Nat)
  | fragment (id : Nat)
  deriving DecidableEq, Repr

/-- A PTP message as the port takes it (R382, R383): an announce with the grandmaster, currentUtcOffset and the PTP_STATE code
the best-master algorithm of IEEE 1588 decides; a sync with the offset in ns and the PTP time in µs since 1970; a delay message
with the offset it gives. -/
inductive PtpMsg where
  | announce (gm : Nat) (utc : Int) (decision : Nat)
  | sync (offset : Int) (ptpUs : Nat)
  | delay (offset : Int)
  deriving DecidableEq, Repr

/-- A type A target in the field (R284 to R286): its UID in reception order, whether it supports ISO/IEC 14443-4, and the walk in
which it answers its own SELECT: 0 the first, 1 the repeat, 2 neither. -/
structure ATgt where
  uid : List Byte := []
  iso4 : Bool := false
  walk : Nat := 0
  deriving DecidableEq, Repr

/-- What a poll meets (R283): µs for which an external carrier was present in step 1, the type A targets, the PUPIs of the type B
targets with whether they support ISO/IEC 14443-4, the UIDs of the ISO/IEC 15693 targets, and the data bytes the application
answered with status 0x9000, and the highest rate the application's target supports, as MAX_RATE codes it. -/
structure PollIn where
  ext : Nat := 0
  a : List ATgt := []
  b : List (List Byte × Bool) := []
  v : List (List Byte) := []
  app : Option (List Byte) := none
  rate : Nat := 0
  deriving DecidableEq, Repr

/-- A TLS cipher suite (R178). -/
inductive TlsSuite where
  | aes128CbcSha256 | aes256GcmSha384 | chacha20Poly1305Sha256 | other
  deriving DecidableEq, Repr

/-- What a TLS handshake shows (R178, R179): the version is TLS 1.3, the leaf's role chosen (4, 5 or 6), the suite both sides agree on,
the handshake's own operations succeed, and the DER form of the anchor the vehicle's chain leads to, empty without a chain. -/
structure TlsIn where
  v13 : Bool := false
  role : Nat := 4
  suite : TlsSuite := .aes128CbcSha256
  ok : Bool := true
  oem : List Byte := []
  deriving DecidableEq, Repr

/-- A contract certificate chain as the vehicle sends it (R180): the contract's EMAID, of each certificate its validity as first and last
instant in µs of device time and whether its signature verifies, and the DER form of the anchor the chain leads to. -/
structure ChainIn where
  emaid : List Byte := []
  certs : List (Nat × Nat × Bool) := []
  anchor : List Byte := []
  deriving DecidableEq, Repr

/-- What a vehicle tells in a parameter or loop request (R183, R187, R193): state of charge in %, target voltage in mV, signed
target current in mA, and maximum voltage in mV. -/
structure EvIn where
  soc : Nat := 0xFF
  u : Nat := 0
  i : Int := 0
  maxU : Nat := 0
  deriving DecidableEq, Repr

/-- What a node finds in a span beside its own slots (R326): candidate offsets of the sync word with their erasures and matching
bits, and the frames decoded at a second offset, as offset and SRC. -/
structure SpanIn where
  syncs : List (Nat × Nat × Nat) := []
  others : List (Nat × Nat) := []
  deriving DecidableEq, Repr

/-- The commands and events of the PNV8: one constructor per row of spec/opcode_table.json.
A host command carries its packet; an event carries what the world supplies at it. -/
inductive Instr where
  /-- SYS_INFO (R390). Host command that returns the serial, part name, firmware and metrology versions, MAC, address and port start counter. -/
  | sysInfo (p : Pkt)
  /-- SYS_STATUS (R391). Host command that returns port state, held points, missing blocks, ring and PTP state. -/
  | sysStatus (p : Pkt)
  /-- NET_COMMIT (R389). Host command that replies under the old network settings; the network block is then applied within 10 ms. -/
  | netCommit (p : Pkt)
  /-- NET_COMMIT_APPLY (R389). The committed network block takes effect after the NET_COMMIT reply has been sent. -/
  | netCommitApply
  /-- EVT_SUBSCRIBE (R380). Host command that sets or removes an event sink's destination and mask and sets its acknowledgement point. -/
  | evtSubscribe (p : Pkt)
  /-- EVT_READ (R380). Host command that acknowledges entries of a sink and returns up to COUNT unacknowledged log entries. -/
  | evtRead (p : Pkt)
  /-- PARTING_FENCE (R384). Host command that fixes T_FENCE, splits every meter's window there and freezes a snapshot of all registers. -/
  | partingFence (p : Pkt)
  /-- PARTING_FENCE_COMPLETE (R384). The fence replies once its snapshot is complete and every domain watermark has reached T_FENCE. -/
  | partingFenceComplete (marks : Vector Nat 16)
  /-- PARTING_FENCE_TIMEOUT (R385). One second after the snapshot completes with watermarks still lagging, the fence replies with INCOMPLETE and names the lagging domains. -/
  | partingFenceTimeout (marks : Vector Nat 16)
  /-- EVT_STATE (R404). Host command that returns the active bits of the level events and the coalesced count. -/
  | evtState (p : Pkt)
  /-- MBX_STATUS (R405). Host command that returns the binding and state of all 32 mailboxes. -/
  | mbxStatus (p : Pkt)
  /-- BLK_WRITE (R516). Host command that checks one settings block and stores it as the block's stored copy. -/
  | blkWrite (p : Pkt)
  /-- BLK_READ (R517). Host command that returns the committed or stored copy of one settings block with its state. -/
  | blkRead (p : Pkt)
  /-- MTR_COMMIT (R45). Host command that requests application of the stored group blocks named in GROUP_MASK. -/
  | mtrCommit (p : Pkt)
  /-- MTR_COMMIT_APPLY (R45). At the first 2 ms boundary with no named spare in rotation, the group blocks are applied together and the reply is sent. -/
  | mtrCommitApply
  /-- MTR_CAL_STATUS (R45). Host command that returns the current and factory coefficient sets and the role of one modulator. -/
  | mtrCalStatus (p : Pkt)
  /-- MTR_REQUALIFY (R46). Host command that clears the faulty verdict of a modulator whose last three calibrations passed and returns it to service. -/
  | mtrRequalify (p : Pkt)
  /-- MTR_DETECT (R67). Host command that returns the peak, half-cycle RMS and flags of every channel of one group. -/
  | mtrDetect (p : Pkt)
  /-- MTR_VALUES (R96). Host command that returns the window quantities and lifetime accumulators of one meter. -/
  | mtrValues (p : Pkt)
  /-- MTR_ENERGY_COMMIT (R95). Host command that requests application of the stored meter and pulse blocks named in MASK. -/
  | mtrEnergyCommit (p : Pkt)
  /-- MTR_ENERGY_COMMIT_APPLY (R95). Each named meter block applies at the close of its window, and the pulse block at the next 2 ms boundary; the reply follows. -/
  | mtrEnergyCommitApply
  /-- BIL_COMMIT (R122). Host command that requests application of the stored calendar, billing and prepayment blocks. -/
  | bilCommit (p : Pkt)
  /-- BIL_COMMIT_APPLY (R122). At the next 2 ms boundary the billing blocks take effect and a boundary of R72 is signalled. -/
  | bilCommitApply
  /-- BIL_REGS (R123). Host command that returns the registers of one meter and one tariff with their wrapping forms. -/
  | bilRegs (p : Pkt)
  /-- BIL_DEMAND (R124). Host command that returns the last demand values and the maximum demands of one meter. -/
  | bilDemand (p : Pkt)
  /-- BIL_SNAPSHOT (R124). Host command that returns one stored billing-period snapshot of one meter. -/
  | bilSnapshot (p : Pkt)
  /-- BIL_PERIOD_END (R125). Host command that requests closing of the billing period of every meter. -/
  | bilPeriodEnd (p : Pkt)
  /-- BIL_PERIOD_END_CLOSE (R125). At the next 2 ms boundary every meter's billing period closes flagged BY_COMMAND and LAST_FIRED[PERIOD] is set. -/
  | bilPeriodEndClose
  /-- BIL_TIME_SET (R125). Host command that slews or steps the device time. -/
  | bilTimeSet (p : Pkt)
  /-- BIL_CREDIT (R126). Host command that adds or subtracts credit, activates emergency credit, reconnects the supply or clears PP_FAULT. -/
  | bilCredit (p : Pkt)
  /-- LED_READ (R145). Host command that returns records of the session or daily chain, or entries of the interval profile. -/
  | ledRead (p : Pkt)
  /-- LED_ACK (R145). Host command that acknowledges session-chain records below UPTO and frees their slots. -/
  | ledAck (p : Pkt)
  /-- LED_STATUS (R145). Host command that returns chain pointers, free slots, drop counts and the policy. -/
  | ledStatus (p : Pkt)
  /-- LED_LOG_READ (R147). Host command that returns entries of the event log starting at FROM. -/
  | ledLogRead (p : Pkt)
  /-- LED_POLICY (R146). Host command that sets the OVERWRITE policy of the session chain. -/
  | ledPolicy (p : Pkt)
  /-- PT_COMMIT (R168). Host command that requests application of the stored pilot blocks of the named points. -/
  | ptCommit (p : Pkt)
  /-- PT_COMMIT_APPLY (R168). At the next period start of each named point its pilot block takes effect; the reply follows. -/
  | ptCommitApply
  /-- PT_STATUS (R169). Host command that returns pilot and proximity state of one point. -/
  | ptStatus (p : Pkt)
  /-- SES_START (R192). Host command that binds an authorisation to a point and opens the session if it is not yet open. -/
  | sesStart (p : Pkt)
  /-- SES_STOP (R192). Host command that stops a session, refuses a pending authorisation request, or puts the point out of service. -/
  | sesStop (p : Pkt)
  /-- SES_LIMIT (R192). Host command that sets the session current, power and discharge limits. -/
  | sesLimit (p : Pkt)
  /-- SES_STATUS (R193). Host command that returns the session state of one point. -/
  | sesStatus (p : Pkt)
  /-- HLC_COMMIT (R200). Host command that applies the stored HLC blocks and the CAN block. -/
  | hlcCommit (p : Pkt)
  /-- HLC_EXCHANGE (R194). Host command that reads a certificate request chunk, writes a response chunk, or refuses the exchange. -/
  | hlcExchange (p : Pkt)
  /-- HLC_MODEM_TEST (R195). Host command that runs the modem loopback of one point and clears a modem fault on a pass. -/
  | hlcModemTest (p : Pkt)
  /-- SAF_COMMIT (R247). Host command that applies the stored safety blocks after the cross-block checks. -/
  | safCommit (p : Pkt)
  /-- SAF_STATUS (R248). Host command that returns the safety state, hold and trip causes and check value of one point. -/
  | safStatus (p : Pkt)
  /-- SAF_CONFIRM (R248). Host command that sets CONFIRMED_n to a check value equal to CHECK_n. -/
  | safConfirm (p : Pkt)
  /-- SAF_RESET (R249). Host command that resets tripped points, with a path test where needed, or clears WELDED. -/
  | safReset (p : Pkt)
  /-- EF_COMMIT (R224). Host command that applies the stored PE, residual and insulation blocks. -/
  | efCommit (p : Pkt)
  /-- EF_STATUS (R225). Host command that returns residual, insulation and PE supervision values of one point. -/
  | efStatus (p : Pkt)
  /-- EF_TEST (R226). Host command that starts the test-winding procedure on one point. -/
  | efTest (p : Pkt)
  /-- SW_COMMIT (R272). Host command that applies the stored channel and lock blocks. -/
  | swCommit (p : Pkt)
  /-- SW_SET (R273). Host command that switches a load or PWM channel off, on or to a duty. -/
  | swSet (p : Pkt)
  /-- SW_STATUS (R274). Host command that returns the state, flags, latches, temperature and current of one channel. -/
  | swStatus (p : Pkt)
  /-- SW_CLEAR (R275). Host command that clears a channel's latch bits, LOCK_FAULT and open-load findings and zeroes its retry counter. -/
  | swClear (p : Pkt)
  /-- SW_SENSE (R276). Host command that selects the channel shown on ISENSE. -/
  | swSense (p : Pkt)
  /-- SW_LOCK (R277). Host command that starts a lock or unlock operation of a point's socket lock. -/
  | swLock (p : Pkt)
  /-- AUTH_COMMIT (R296). Host command that requests application of the reader and point authorisation blocks. -/
  | authCommit (p : Pkt)
  /-- AUTH_COMMIT_APPLY (R296). Once any poll in progress ends the authorisation blocks take effect and the reply is sent. -/
  | authCommitApply
  /-- AUTH_LIST_WRITE (R297). Host command that clears, copies, adds to or deletes from the staging list bank. -/
  | authListWrite (p : Pkt)
  /-- AUTH_LIST_COMMIT (R297). Host command that makes the staging bank active through the bank selector and copies it back to staging. -/
  | authListCommit (p : Pkt)
  /-- RDR_STATUS (R298). Host command that returns the state of one antenna and the active list counts. -/
  | rdrStatus (p : Pkt)
  /-- RDR_SELFTEST (R299). Host command that runs, once any poll ends, an antenna self-test and optionally records its reference. -/
  | rdrSelftest (p : Pkt)
  /-- TDR_COMMIT (R338). Host command that applies the Tider block and restarts joining when identity fields change. -/
  | tdrCommit (p : Pkt)
  /-- TDR_STATUS (R339). Host command that returns the Tider link state and counters. -/
  | tdrStatus (p : Pkt)
  /-- TDR_BUDGET (R340). Host command that replaces the holder's SITE_I from the next span end. -/
  | tdrBudget (p : Pkt)
  /-- DSP_COMMIT (R361). Host command that requests application of the display block. -/
  | dspCommit (p : Pkt)
  /-- DSP_COMMIT_APPLY (R361). Once no update runs the display block applies, faults clear, legal rendering starts and a full clearing may be queued. -/
  | dspCommitApply
  /-- DSP_WRITE (R362). Host command that writes pixels into the next buffer outside the legal region. -/
  | dspWrite (p : Pkt)
  /-- DSP_UPDATE (R362). Host command that queues a normal or clearing update of a rectangle. -/
  | dspUpdate (p : Pkt)
  /-- DSP_STATUS (R362). Host command that returns display state, band, flags, temperature and counters. -/
  | dspStatus (p : Pkt)
  /-- DSP_STRESS (R363). Host command that reads or zeroes the region stress counters. -/
  | dspStress (p : Pkt)
  /-- SEC_KEY (R421). Host command that generates a key blob in K or deletes one. -/
  | secKey (p : Pkt)
  /-- SEC_STORE (R421). Host command that stores or deletes a certificate by role and index. -/
  | secStore (p : Pkt)
  /-- SEC_READ (R421). Host command that returns a stored certificate. -/
  | secRead (p : Pkt)
  /-- SEC_CHALLENGE (R417). Host command that returns a fresh 32-byte nonce for the source. -/
  | secChallenge (p : Pkt)
  /-- SEC_PROVE (R417). Host command that verifies a signature over the nonce and grants the credential's authorities to the source. -/
  | secProve (p : Pkt)
  /-- SEC_ATTEST (R418). Host command that returns an attestation statement signed with the attestation key. -/
  | secAttest (p : Pkt)
  /-- UPD_BEGIN (R426). Host command that carries a package header, runs checks 1 to 7 and starts receiving. -/
  | updBegin (p : Pkt)
  /-- UPD_DATA (R427). Host command that carries the next manifest or payload bytes of the package being received. -/
  | updData (p : Pkt)
  /-- UPD_SLOT_WRITTEN (R426). The inactive slot write and its checks complete, and the update becomes READY or is rejected. -/
  | updSlotWritten
  /-- UPD_ACTIVATE (R428). Host command that accepts activation of a READY package and replies. -/
  | updActivate (p : Pkt)
  /-- UPD_ACTIVATION (R428). 10 ms after the reply the activation steps run and the device takes a warm or cold reset into the new slot on trial. -/
  | updActivation
  /-- UPD_CONFIRM (R432). Host command that confirms a trial set, raises the security version and applies the settings rule. -/
  | updConfirm (p : Pkt)
  /-- UPD_STATUS (R426). Host command that returns the update state. -/
  | updStatus (p : Pkt)
  /-- UPD_ABORT (R427). Host command that empties staging and invalidates the inactive slot. -/
  | updAbort (p : Pkt)
  /-- TRIAL_FAILURE (R431). A trial failure condition is met and the device reverts to the old slot with a reset of the activation's class. -/
  | trialFailure
  /-- TRIAL_CONFIRM_TIMEOUT (R430). CONFIRM_T passes without UPD_CONFIRM and the trial fails, or with CONFIRM_T 0 the set confirms itself after 60 s. -/
  | trialConfirmTimeout
  /-- PWR_STATUS (R462). Host command that returns power state, supplies, reset counters and option state. -/
  | pwrStatus (p : Pkt)
  /-- PWR_RESET (R463). Host command that replies and schedules a warm, block or cold reset or SHELF entry. -/
  | pwrReset (p : Pkt)
  /-- PWR_RESET_EXECUTE (R463). 10 ms after the PWR_RESET reply the requested reset or SHELF entry begins. -/
  | pwrResetExecute
  /-- PWR_OPTION_READ (R463). Host command that returns one option record copy. -/
  | pwrOptionRead (p : Pkt)
  /-- PWR_OPTION_WRITE (R454). SPI-only command that writes both option record copies with a new generation. -/
  | pwrOptionWrite (p : Pkt)
  /-- PWR_COMMIT (R461). Host command that applies the power block. -/
  | pwrCommit (p : Pkt)
  /-- TST_POINT (R474). Host command that takes a point out of service or clears HOST, GEN_FAULT and REVERSE after a generator check. -/
  | tstPoint (p : Pkt)
  /-- TST_DEGRADED (R475). Host command that returns device, group and point degradation. -/
  | tstDegraded (p : Pkt)
  /-- FS_READ (R312). Host command that reads one field-store record through the wired side. -/
  | fsRead (p : Pkt)
  /-- FS_WRITE (R313). Host command that writes the SITE record through the wired side. -/
  | fsWrite (p : Pkt)
  /-- FS_CTL (R314). Host command that makes the field store writable or read-only to the field side. -/
  | fsCtl (p : Pkt)
  /-- SPI_WRITE (R369). SPI transaction with type 0x5A that delivers one command packet. -/
  | spiWrite (mosi : List Byte)
  /-- SPI_READ (R369). SPI transaction with type 0xA5 that clocks out the oldest waiting reply. -/
  | spiRead (n : Nat)
  /-- SPI_STATUS (R368). SPI transaction that exchanges only the status word, also for unknown type bytes. -/
  | spiStatus (type : Byte)
  /-- FRAGMENT_TIMEOUT (R374). An IP reassembly not completed within 100 ms is discarded and counted in RX_DROP. -/
  | fragmentTimeout
  /-- NET_SERVICE_REQUEST (R374). An ARP, ICMP echo or ICMPv6 neighbour discovery or echo request is answered. -/
  | netServiceRequest (kind dst : Nat) (data : List Byte)
  /-- EVT_NOTIFY (R381). An unsolicited notification with up to 32 entries is sent to a network sink once a new entry is unacknowledged. -/
  | evtNotify (k : Fin 4)
  /-- EVT_NOTIFY_RESEND (R381). Every 100 ms a notification is resent until EVT_READ moves the sink's acknowledgement point. -/
  | evtNotifyResend (k : Fin 4)
  /-- RING_TEST_SEND (R372). The ring manager sends a TEST frame out of each port every 100 µs. -/
  | ringTestSend
  /-- RING_TEST_RECEIVE (R373). A ring TEST frame is received, counting toward closing the ring or detecting a second manager. -/
  | ringTestReceive (port : Fin 2) (own : Bool)
  /-- RING_TEST_MISSING (R373). Missing TEST frames open the ring at the manager, or stop data forwarding on ETH2 at a member after 10 ms. -/
  | ringTestMissing (port : Fin 2)
  /-- LINK_DOWN (R372). A LINK_DOWN ring-control frame is received and the manager opens the ring. -/
  | linkDown (port : Fin 2)
  /-- FLUSH (R372). A FLUSH ring-control frame is received; the MAC table is cleared and the frame forwarded. -/
  | flush (port : Fin 2)
  /-- ETH_LINK_CHANGE (R372). An Ethernet port loses or regains its link; a ring member sends LINK_DOWN on loss. -/
  | ethLinkChange (port : Fin 2) (up : Bool)
  /-- MAC_AGEING (R371). A learned MAC address ages out of the switch table after 300 s. -/
  | macAgeing
  /-- PTP_MESSAGE (R382). A PTP sync, announce or delay message is received and the PTP state and offset are updated. -/
  | ptpMessage (m : PtpMsg)
  /-- PTP_ANNOUNCE_TIMEOUT (R383). Lapsed announce or sync messages move the PTP state to HOLDOVER. -/
  | ptpAnnounceTimeout
  /-- MAILBOX_RING (R396). The bound sender writes RING to a mailbox doorbell, posting the message and interrupting or waking the receiver. -/
  | mailboxRing (k : Fin 32) (who count : Nat)
  /-- MAILBOX_ACK (R397). The bound receiver writes ACK with CODE and TAKEN, clearing PENDING. -/
  | mailboxAck (k : Fin 32) (who code : Nat)
  /-- REGISTER_WRITE (R395). A write to a register that has no row of its own, such as mailbox data words, is applied or refused. -/
  | registerWrite (k : Fin 32) (who : Nat) (word : Fin 16) (v : BitVec 32)
  /-- MAILBOX_PENDING_TIMEOUT (R398). A mailbox pending 500 ms with its receiver powered and out of reset raises E14. -/
  | mailboxPendingTimeout (k : Fin 32)
  /-- EVENT_COALESCE_FLUSH (R402). When room returns in a full event queue, one coalesced entry per event is logged and E15 raised. -/
  | eventCoalesceFlush
  /-- POWER_ON (R436). VSYS becomes valid and a cold start begins. -/
  | powerOn (mv : Nat) (lost : Bool)
  /-- COLD_RESET (R451). A cold or pin reset runs the boot sequence up to the host port being ready. -/
  | coldReset (straps : Nat) (test : Bool)
  /-- RESET_N_PIN (R446). RESET_N low for at least 10 µs causes a pin reset held while the land stays low. -/
  | resetNPin (low : Bool)
  /-- VIO_INVALID (R436). VIO falls below 2.90 V for 10 µs and the cold reset is held with cause VIO_LOW. -/
  | vioInvalid
  /-- VIO_VALID (R436). VIO at least 3.10 V for 1 ms releases the held cold reset. -/
  | vioValid
  /-- VSYS_INVALID (R436). VSYS falls below 12.0 V and the cold reset is held. -/
  | vsysInvalid (mv : Nat)
  /-- VBAT_LOW (R436). VBAT crosses 2.60 V and VBAT_LOW is set or cleared with E4. -/
  | vbatLow (mv : Nat)
  /-- POWER_FAIL_WARNING (R129). An armed source triggers the power-fail warning and steps 1 to 4 of the sequence split windows, fire boundaries, persist and write the record. -/
  | powerFailWarning (mv us : Nat)
  /-- PFW_N_SAMPLE (R438). PFW_N is sampled every 10 µs; three low samples raise the warning and 1 ms high arms it. -/
  | pfwNSample (high : Bool)
  /-- PFW_STOP (R129). 8 ms after the warning metering stops, the last window is split and P100, RES and display PFW content are written. -/
  | pfwStop
  /-- PFW_RECOVERED (R439). After the sequence, VSYS valid again for 1 ms causes a cold reset with cause PFW_RECOVERED. -/
  | pfwRecovered
  /-- PFW_WITHDRAWN (R439). Every triggering warning source is withdrawn before the cold reset and E0 is entered as withdrawn. -/
  | pfwWithdrawn
  /-- WATCHDOG_EXPIRY (R446). An A core not refreshing its watchdog for 1 s causes a warm reset. -/
  | watchdogExpiry
  /-- ECC_ERROR (R446). An uncorrectable error in code or stack memory of an A, P, T or K core causes a warm reset. -/
  | eccError
  /-- WARM_RESET (R447). A warm reset of the application side begins; pilots go to X1 and high-level sessions are lost. -/
  | warmReset
  /-- WARM_RESET_END (R447). The warm reset ends 2 ms after it began and the reached domains restart. -/
  | warmResetEnd
  /-- APP_RUNNING (R21). The application cluster runs again after a reset and sessions affected close as WARM_RESET once their contactor is confirmed open. -/
  | appRunning
  /-- BLOCK_RESET_REQUEST (R449). A block reset of a unit is requested and its cores are asked to quiesce. -/
  | blockResetRequest (unit : Nat)
  /-- BLOCK_RESET_BEGIN (R449). Every core of the unit has confirmed idle and the block reset begins with E2. -/
  | blockResetBegin
  /-- BLOCK_RESET_ESCALATE (R449). A core not confirming idle within 50 ms turns the block reset into a warm reset with cause ESCALATED. -/
  | blockResetEscalate
  /-- BLOCK_RESET_END (R449). The reset unit is running again and E2 is raised. -/
  | blockResetEnd
  /-- POWER_STATE_DESCEND (R441). After DESCEND_T without interruption the device descends to the lowest permitted power state. -/
  | powerStateDescend
  /-- POWER_STATE_WAKE (R443). A packet, pilot state, reader detection, event, doorbell or timer wakes a powered-down domain. -/
  | powerStateWake (src : Nat)
  /-- ENTER_IDLE (R441). Every A core waits for an interrupt and the device enters IDLE. -/
  | enterIdle
  /-- SHELF_WAKE (R445). The wake detector sees voltage on MT0_U1 or WAKE_N is low 10 ms, and a cold start follows. -/
  | shelfWake
  /-- RTC_CORRECTION (R457). Once per second with VSYS valid the RTC is corrected to the device time, clearing RTC_LOSS when due. -/
  | rtcCorrection
  /-- CLOCK_MONITOR (R459). Every 10 ms the 27.12 MHz and 32.768 kHz clocks are counted against CLK_META and faults set or cleared. -/
  | clockMonitor (nfc rtc : Bool)
  /-- MAIN_CLOCK_FAIL (R459). The 25 MHz crystal or CLK_META PLL fails, metering and the tick stop and the device safe state is entered. -/
  | mainClockFail (pll : Bool)
  /-- PLL_LOCK_LOSS (R459). CLK_NOC or CLK_APP PLL loses lock, causing a warm reset with cause PLL. -/
  | pllLockLoss (app lost : Bool)
  /-- DIE_TEMP_WARNING (R465). DIE_TEMP reaches 115 °C or falls below 105 °C and E5 is set or cleared. -/
  | dieTempWarning (t : Int)
  /-- MRAM_SCRUB (R465). Background scrubbing reads a word, corrects single-bit errors and reports uncorrectable ones. The word address counts from 0 over all partitions. -/
  | mramScrub (word : Nat) (bad : Bool)
  /-- COVER_TAMPER (R482). A debounced change of TAMPER_IN sampled every 2 ms records a cover opening or closing. -/
  | coverTamper (isOpen : Bool)
  /-- ROTATION_SLOT_START (R33). Every 7.5 s a rotation slot starts and its calibration steps run for one modulator. -/
  | rotationSlotStart (x : SlotMeas)
  /-- MODULATOR_FAULT (R39). A serving modulator is found faulty, the spare is connected within 1 ms and samples are substituted. -/
  | modulatorFault (m : Fin 72) (e : ModEvidence)
  /-- BITSTREAM_STUCK (R27). No transition for 64 clock periods marks an external bitstream stuck and its samples INVALID. -/
  | bitstreamStuck (c : Fin 72) (periods : Nat)
  /-- BITSTREAM_RECOVER (R27). Transitions for 1 ms end a bitstream stuck fault. -/
  | bitstreamRecover (c : Fin 72) (us : Nat)
  /-- BITSTREAM_OVERRANGE (R27). A ones density beyond 0.95 or 0.05 over 256 periods flags OVR. -/
  | bitstreamOverrange (c : Fin 72) (ones : Nat)
  /-- CROSS_CHECK_WINDOW (R28). Every 1 s a bitstream channel is compared with its partner and mismatches counted. -/
  | crossCheckWindow (c : Fin 72)
  /-- FAST_PATH_SAMPLE (R57). Every 16 µs each chain issues a fast-path sample to the safety queue and detectors. For each channel the 64 bits of its modulator and of its XBS land in the 16 µs, the first in bit 0. -/
  | fastPathSample (xs : List (Fin 72 × BitVec 64 × BitVec 64))
  /-- PRESET_OUTPUT_SAMPLE (R48). A preset output sample is issued on the sample grid and fed to the energy engine. -/
  | presetOutputSample (g : Fin 9) (preset : Nat)
  /-- ZERO_CROSSING (R60). A zero crossing of a voltage channel is accepted, closing detector windows and emitting a half-cycle record. -/
  | zeroCrossing (c : Fin 72)
  /-- ZC_MISSING (R62). No crossing within 1.5 tracked half-periods closes the half-cycle with ZC_MISSING. -/
  | zcMissing (c : Fin 72)
  /-- METERING_WINDOW_CLOSE (R77). A metering window closes and its quantities are computed and increments delivered to billing. -/
  | meteringWindowClose (m : Fin 9)
  /-- NETTING_PERIOD_END (R82). At a UTC multiple of T_NET the netting sums are distributed to the quantities. -/
  | nettingPeriodEnd (m : Fin 9)
  /-- GRID_BOUNDARY (R112). At each 2 ms grid boundary with valid time, demand, period and daily boundaries fire and the tariff is evaluated. -/
  | gridBoundary
  /-- P100_PERSIST (R128). At every 100 ms multiple of device time the P100 class is written to the alternate copy. -/
  | p100Persist (ok : Bool)
  /-- PULSE_ISSUE (R91). On the 2 ms grid a pending pulse is started or ended on an MPLS land. -/
  | pulseIssue (k : Fin 4)
  /-- PP_AUX_CHECK (R119). AUX_T after a supply-contactor command, a mismatching auxiliary contact sets PP_FAULT. -/
  | ppAuxCheck
  /-- LEDGER_RECORD_WRITE (R140). A queued record is assigned SEQ and PREV_HASH, signed by K, written and the write pointer advanced. `done` is false when the write pointer was not advanced. -/
  | ledgerRecordWrite (done : Bool)
  /-- SAFETY_CYCLE (R229). Every 100 µs each safety core latches inputs, evaluates detectors and conditions, exchanges cycle words and refreshes its paths. -/
  | safetyCycle (pts : List PtIn) (npe : Int)
  /-- TRIP_CONFIRMED (R237). A trip condition has held for its CONF and the point trips, de-energising the coil. -/
  | tripConfirmed (n : Fin 8)
  /-- SAFE_CUT_DROP (R234). 1 ms after commanding the coil off, S1 drives SAFE_CUTn low. -/
  | safeCutDrop (n : Fin 8)
  /-- PATH_TEST_STEP_END (R236). A 2 ms step of the path test ends, passing to the next step or latching PATH_FAIL. -/
  | pathTestStepEnd (n : Fin 8)
  /-- CLOSING_TIMEOUT (R241). WELD_T after step 3 begins without confirmation, the point trips as closing not confirmed. -/
  | closingTimeout (n : Fin 8)
  /-- WELD_CHECK (R242). At the end of WELD_T after coil off the contactor is confirmed open or WELDED latches. -/
  | weldCheck (n : Fin 8)
  /-- DC_VOLTAGE_CHECK_TIMEOUT (R242). On a DC point, no A or B within 10 s of coil off leaves the voltage indicator unchecked. -/
  | dcVoltageCheckTimeout (n : Fin 8)
  /-- WELD_WHILE_OPEN (R242). An indicator showing closed or present for 100 ms with the contactor commanded open latches WELDED. -/
  | weldWhileOpen (n : Fin 8)
  /-- PATH_ENABLE_TIMEOUT (R233). An enable not refreshed for 300 µs drops its coil channel or SAFE_CUTn. -/
  | pathEnableTimeout (n : Fin 8) (cut : Bool)
  /-- CUT_FAULT (R235). SAFE_CUTn readback differing for 3 cycles latches CUT_FAULT and takes the point out of service. -/
  | cutFault (n : Fin 8)
  /-- SAFETY_PAIR_FAULT (R231). A cross-comparison, timing, oscillator or self-test failure puts the device in the safe state within 1 ms. -/
  | safetyPairFault (x : PairFault)
  /-- SAFE_STATE_SESSION_END (R231). WELD_T after the safe state is entered, open sessions close as SAFETY_TRIP with WELDED or UNCONFIRMED. -/
  | safeStateSessionEnd (n : Fin 8)
  /-- SAFE_RST_PULSE (R240). 100 ms after the rising edge of a valid SAFE_RST pulse, points in mode 2 or 3 with cleared triggers reset. -/
  | safeRstPulse (idle low high : Nat) (both : Bool)
  /-- SAFE_RST_STUCK (R240). SAFE_RST low beyond 10 s is reported stuck and ignored until high for 1 s. -/
  | safeRstStuck (low : Nat)
  /-- APP_RESET_OPEN_TIMEOUT (R450). 3 s after a reset or an X2-to-X1 change with the vehicle still in C, the contactor is opened. -/
  | appResetOpenTimeout (n : Fin 8)
  /-- PILOT_PERIOD (R149). At each 1 kHz period start the pending output mode or duty takes effect and plateaus are measured. The samples of the two converters and the two generator nodes, mV. -/
  | pilotPeriod (n : Fin 8) (l0 l1 : List Int) (gen : Int × Int)
  /-- PILOT_STATE_ACCEPT (R156). A pilot state is accepted after 10 periods or 10 ms in its band and the point responds. -/
  | pilotStateAccept (n : Fin 8)
  /-- PILOT_STATE_INVALID (R153). Gaps lasting 10 ms make the pilot state INVALID, a pilot state error. -/
  | pilotStateInvalid (n : Fin 8)
  /-- DIODE_FAULT (R154). Three consecutive X2 periods with the low plateau out of range are a diode fault. -/
  | diodeFault (n : Fin 8)
  /-- PILOT_ERROR_HOLD_END (R156). The 3 s X1 hold after a pilot state error ends and recovery on A or B is allowed. -/
  | pilotErrorHoldEnd (n : Fin 8)
  /-- PROXIMITY_ACCEPT (R165). A proximity code accepted after its consecutive readings changes I_CABLE or signals an open or faulty circuit. The latest samples of PPn, mV. -/
  | proximityAccept (n : Fin 8) (mv : List Nat)
  /-- DUTY_INCREASE_DUE (R160). 5 s after the previous duty change a pending increase of I_SIG is applied. -/
  | dutyIncreaseDue (n : Fin 8)
  /-- OVERCURRENT (R162). Current above the limit for 10 s (AC) or 2 s (DC) ends the session with SAFETY_TRIP and sets OVERCURRENT. -/
  | overcurrent (n : Fin 8)
  /-- BIND_LAPSE (R294). BIND_T after a binding with state A still accepted, the binding lapses and the session closes UNPLUGGED. -/
  | bindLapse (n : Fin 8)
  /-- MODEM_LOOPBACK (R173). Every 10 min an idle point's modem runs its loopback test. -/
  | modemLoopback (n : Fin 8) (pass : Bool)
  /-- MODEM_NO_ANSWER (R173). A modem not answering P0 or P1 for 100 ms is a modem fault. -/
  | modemNoAnswer (n : Fin 8) (us : Nat)
  /-- CM_SLAC_PARM_REQ (R174). The vehicle's SLAC parameter request is received and answered. -/
  | cmSlacParmReq (n : Fin 8)
  /-- CM_MNBC_SOUND_IND (R174). A sounding message is received and attenuation measured. -/
  | cmMnbcSoundInd (n : Fin 8) (atten : Nat)
  /-- CM_ATTEN_CHAR_RSP (R174). After the sounding window the attenuation profile is sent to the vehicle. -/
  | cmAttenCharRsp (n : Fin 8)
  /-- CM_SLAC_MATCH_REQ (R174). The match request is answered and a new network membership key set in the modem. -/
  | cmSlacMatchReq (n : Fin 8)
  /-- SLAC_TIMEOUT (R175). A SLAC wait expires and SLAC fails, retrying after 4 s of X1 or failing the high-level session. -/
  | slacTimeout (n : Fin 8)
  /-- SLAC_RETRY (R175). 4 s of X1 after a SLAC failure the output returns to 5 % duty. -/
  | slacRetry (n : Fin 8)
  /-- SDP_REQUEST (R176). The vehicle's SDP request is answered and one TCP connection accepted. -/
  | sdpRequest (n : Fin 8)
  /-- TLS_HANDSHAKE (R178). A TLS handshake with the vehicle completes or fails. -/
  | tlsHandshake (n : Fin 8) (x : TlsIn)
  /-- SUPPORTED_APP_PROTOCOL (R177). The vehicle's protocol list is received and the highest-ranked enabled protocol chosen. -/
  | supportedAppProtocol (n : Fin 8) (offers : List (Nat × Nat))
  /-- AUTHORIZATION_REQUEST (R182). The vehicle's Authorization request is answered Ongoing, Finished or FAILED, verifying a contract if PnC. -/
  | authorizationRequest (n : Fin 8) (contract : Option ChainIn)
  /-- CHARGE_PARAMETER_DISCOVERY (R183). The vehicle's parameter request is answered with the present limits. -/
  | chargeParameterDiscovery (n : Fin 8) (x : EvIn)
  /-- CABLE_CHECK_REQUEST (R187). A CableCheck request requests closing and runs the insulation cable check. -/
  | cableCheckRequest (n : Fin 8)
  /-- PRECHARGE_REQUEST (R187). A PreCharge request drives the power stage in MODE 2. -/
  | prechargeRequest (n : Fin 8) (u a : Nat)
  /-- POWER_DELIVERY_REQUEST (R187). A PowerDelivery Start or Stop request starts energy transfer or the stop sequence. -/
  | powerDeliveryRequest (n : Fin 8) (op : Fin 3)
  /-- CHARGE_LOOP_REQUEST (R183). A current-demand or status loop request is answered with present limits and targets. -/
  | chargeLoopRequest (n : Fin 8) (x : EvIn)
  /-- CERTIFICATE_REQUEST (R181). A certificate installation or update request is held for the host with E55+n KIND 3. -/
  | certificateRequest (n : Fin 8) (body : List Byte)
  /-- METERING_RECEIPT (R176). A MeteringReceipt request is answered when MTR_RECEIPT is 1. -/
  | meteringReceipt (n : Fin 8)
  /-- CERT_EXCHANGE_TIMEOUT (R181). 4.0 s without a host response answers the vehicle FAILED. -/
  | certExchangeTimeout (n : Fin 8)
  /-- AUTHORIZATION_TIMEOUT (R182). 55 s after the first Authorization request without decision the PNV8 answers FAILED. -/
  | authorizationTimeout (n : Fin 8)
  /-- HLC_MESSAGE_TIMEOUT (R188). 60 s without the next vehicle request ends the high-level session. -/
  | hlcMessageTimeout (n : Fin 8)
  /-- DC_STEP_TIMEOUT (R187). A DC session step exceeding its duration ends the session with SAFETY_TRIP. -/
  | dcStepTimeout (n : Fin 8)
  /-- HOST_STOP_TIMEOUT (R189). 5 s after a host stop without PowerDelivery Stop the PNV8 proceeds with ramp down or R161. -/
  | hostStopTimeout (n : Fin 8)
  /-- TCP_LOSS (R190). The TCP connection or TLS session to the vehicle fails and the high-level session fails. -/
  | tcpLoss (n : Fin 8) (cause : Nat)
  /-- HLC_FALLBACK (R163). After a failed high-level session the output goes to X1 and, with FALLBACK, to basic duty 3 s later. -/
  | hlcFallback (n : Fin 8)
  /-- CAN_FRAME_TRANSMIT (R199). Every PERIOD ms a transmit frame is sent with its newest signal values. -/
  | canFrameTransmit (f : Fin 24)
  /-- CAN_FRAME_RECEIVE (R198). A receive frame is decoded, checked for checksum and ALIVE, and its signals updated. -/
  | canFrameReceive (f : Fin 24) (data : List Byte)
  /-- CAN_RECEIVE_TIMEOUT (R199). A receive frame missing for TIMEOUT sets CAN_TIMEOUT and PS_FAULT. -/
  | canReceiveTimeout (f : Fin 24)
  /-- PS_FAULT_CLEAR (R190). 1 s of good frames with FAULT 0 clears PS_FAULT. -/
  | psFaultClear (n : Fin 8)
  /-- PS_FAULT_OPEN_TIMEOUT (R190). 100 ms after a power-stage fault with no readable current, the contactor opens. -/
  | psFaultOpenTimeout (n : Fin 8)
  /-- OFFSET_MEASUREMENT (R208). A 200 ms fluxgate offset measurement completes and passes, is repeated or becomes a sensor fault. -/
  | offsetMeasurement (n : Fin 8)
  /-- RESIDUAL_MISMATCH (R211). CMP_N mismatching periods between computed residual and sensor raise a mismatch. -/
  | residualMismatch (n : Fin 8)
  /-- TEST_WINDING_STEP_END (R213). A step of the test-winding procedure ends and the next is started or the test passes or fails. -/
  | testWindingStepEnd (n : Fin 8)
  /-- TEST_WINDING_DUE (R214). A test-winding run falls due after sessions, daily or at state B, and starts when the contactor is confirmed open. -/
  | testWindingDue (n : Fin 8)
  /-- EARTH_TRIGGER_CLEAR (R221). After detectors stay below level for 1 s with the contactor open, an offset measurement is started to clear the trigger. -/
  | earthTriggerClear (n : Fin 8)
  /-- INSULATION_STEP_END (R216). An insulation cycle step ends; after step 1 R_ISO is computed and the status set. -/
  | insulationStepEnd (n : Fin 8) (step tapP tapN us : Nat) (settled : Bool)
  /-- PE_CHK_PULSE (R219). A low pulse on PE_CHK is recognised for the PE continuity check. -/
  | peChkPulse (us : Nat)
  /-- SHORT_CIRCUIT (R254). Channel current above I_SC switches the channel off within 10 µs. -/
  | shortCircuit (c : Fin 32) (ma : Nat)
  /-- CHANNEL_OVERCURRENT (R254). Current above OC_LIM for OC_T switches the channel off. -/
  | channelOvercurrent (c : Fin 24) (ma us : Nat)
  /-- CHANNEL_THERMAL (R254). A channel junction reaching 165 °C switches the channel off. -/
  | channelThermal (c : Fin 32) (temp : Int)
  /-- SUPPLY_UNDER_VOLTAGE (R254). VSYS below 15.0 V for 50 µs switches every HS and LP channel off. -/
  | supplyUnderVoltage (mv us : Nat)
  /-- UNDER_VOLTAGE_RELEASE (R255). VSYS at least 16.0 V for 1 ms restarts commanded channels. -/
  | underVoltageRelease (mv us : Nat)
  /-- INRUSH_WINDOW_END (R255). The inrush window ends and the channel moves from INRUSH to ON. -/
  | inrushWindowEnd (c : Fin 24)
  /-- RESTART_EVALUATION (R256). Every RETRY_T a tripped or blocked channel is restarted or kept BLOCKED. -/
  | restartEvaluation (c : Fin 24) (temp : Int)
  /-- RETRY_COUNTER_DECAY (R257). Every 10 s of uninterrupted ON decreases the retry counter by 1. -/
  | retryCounterDecay (c : Fin 24)
  /-- OFF_STATE_TEST (R260). Every second an OFF channel is tested for open load. A bridge has two outputs. -/
  | offStateTest (c : Fin 32) (mv mvB : Nat)
  /-- ON_STATE_OPEN_LOAD (R260). Current below the threshold for 1 s in ON sets OL_ON, latching a coil channel. -/
  | onStateOpenLoad (c : Fin 24) (ma us : Nat)
  /-- ECONOMISER_UPDATE (R261). After T_PULL and every 1 ms the coil hold duty is recomputed from VSYS. -/
  | economiserUpdate (c : Fin 24) (mv : Nat)
  /-- FEEDBACK_CHANGE (R262). A debounced auxiliary-contact level on FBk changes. `us0` and `us1` say for how long each safety core has sampled the level. -/
  | feedbackChange (k : Fin 16) (high : Bool) (us0 us1 : Nat)
  /-- LOCK_OPERATION (R263). A lock or unlock drive of a socket lock starts at state B, session close or command. -/
  | lockOperation (n : Fin 8)
  /-- LOCK_DRIVE_END (R263). LK_PULSE or a stall ends the lock drive and the bridge brakes. -/
  | lockDriveEnd (n : Fin 8) (ma us : Nat)
  /-- LOCK_CONFIRM (R263). LKSn shows the position or LK_CONF expires, ending the operation, retrying or setting LOCK_FAULT. The level of LKSn and how long it has stood. -/
  | lockConfirm (n : Fin 8) (high : Bool) (us : Nat)
  /-- LOCK_LOST (R264). LKSn showing unlocked for 100 ms while the contactor is closed sets LOCK_FAULT. -/
  | lockLost (n : Fin 8) (high : Bool) (us : Nat)
  /-- LIMP_HOME_CHANGE (R266). Limp-home is entered or left as LH_EN and the application state change. -/
  | limpHomeChange (lhEn refreshed : Bool)
  /-- APP_REFRESH_TIMEOUT (R266). A running application cluster not refreshing the channels for 100 ms puts them in limp-home. -/
  | appRefreshTimeout
  /-- LH_INPUT_CHANGE (R266). In limp-home a debounced LH_IN change drives the mapped channels within 2 ms. -/
  | lhInputChange (k : Fin 4) (high : Bool)
  /-- ANTENNA_PING (R281). Every PING_T an antenna is pinged, tracking the baseline or detecting. -/
  | antennaPing (k : Fin 8) (amp : Nat)
  /-- POLL (R283). A detection starts a poll that reads identifiers by anticollision. -/
  | poll (k : Fin 8) (x : PollIn)
  /-- POLL_END (R287). The poll ends and its identifiers enter the decision flow or are refused. -/
  | pollEnd (k : Fin 8)
  /-- HOST_DECISION_TIMEOUT (R291). HOST_T without a host answer binds offline or refuses with REFUSED_TIMEOUT. -/
  | hostDecisionTimeout (n : Fin 8)
  /-- PRESENTATION_END (R288). 3 s without a detection on an antenna ends the presentation. -/
  | presentationEnd (k : Fin 8)
  /-- ANTENNA_SELFTEST (R289). Every 10 min an antenna measures I_TX and phase and sets or clears ANT_FAULT. -/
  | antennaSelftest (k : Fin 8) (ma : Nat) (phase : Int)
  /-- BASELINE_STORE (R282). Every 10 min A_base and die temperature are persisted. -/
  | baselineStore
  /-- FIELD_POWER_UP (R302). The field domain is powered by a phone's field and draws a new random UID. -/
  | fieldPowerUp (mAm : Nat)
  /-- NDEF_READ (R302). A reader selects the NDEF application and reads its files. -/
  | ndefRead (file : Nat)
  /-- FIELD_READ (R309). A commissioning APDU INS 0x10 reads one record. -/
  | fieldRead (p1 : Nat) (data : List Byte)
  /-- FIELD_WRITE (R305). A commissioning APDU INS 0x12 writes one record under the write protocol. -/
  | fieldWrite (p1 : Nat) (data : List Byte) (bad : Nat × Nat)
  /-- CONFIRM_PROCESS (R311). The wired side processes a CONFIRM_n record at cold start or within 1 s after a field write. -/
  | confirmProcess (n : Fin 8)
  /-- HALF_CYCLE_RECORD (R318). T takes a half-cycle record and updates the mains-locked loop and its lock state. -/
  | halfCycleRecord
  /-- TIDER_SLOT (R317). At a slot centre the node drives a pulse or forms the notch metric of the slot. -/
  | tiderSlot (pos : Nat) (neg : Bool) (samples : List Int) (amp : Nat)
  /-- SPAN_END (R325). At span end channels are decoded, frames handled, sync assessed and allocations recomputed. -/
  | spanEnd (x : SpanIn)
  /-- JOIN_LISTEN_END (R331). After listening two spans and a random wait without sync the node starts its own span timing. -/
  | joinListenEnd
  /-- NEIGHBOUR_TIMEOUT (R329). A neighbour not heard for 3 × BEACON_T is removed. -/
  | neighbourTimeout
  /-- BEACON_DUE (R330). At BEACON_T a BEACON is queued for the next span. -/
  | beaconDue
  /-- DEMAND_DUE (R332). DEM_PERIOD, a demand change or an unanswered DEMAND queues a DEMAND frame. -/
  | demandDue
  /-- ALLOC_TIMEOUT (R334). ALLOC_TIMEOUT without an ALLOC sets FAILSAFE and applies FAILSAFE_I. -/
  | allocTimeout
  /-- DISPLAY_UPDATE_START (R348). A queued update starts with the faceplate check, band choice and rail power-on. -/
  | displayUpdateStart (found : List Nat)
  /-- RAIL_POWER_ON_STEP (R343). A rail power-on step ends and the next rail starts or RAIL_FAULT is set. -/
  | railPowerOnStep (mv : Int)
  /-- DISPLAY_FRAME (R348). A frame of drive codes is scanned to the panel. -/
  | displayFrame
  /-- DISPLAY_UPDATE_COMPLETE (R348). The last frame ends and buffers, counters and marker are updated. -/
  | displayUpdateComplete
  /-- RAIL_HOLD_EXPIRY (R344). RAIL_HOLD after an update the rails are discharged. -/
  | railHoldExpiry
  /-- RAIL_RETRY (R343). 1 s after a rail failure the update is tried again. -/
  | railRetry
  /-- NTC_MEASURE (R350). Every second the panel NTC is measured and TEMP_FAULT or TEMP_RANGE updated. -/
  | ntcMeasure (t : Option Int)
  /-- TEMP_DEFERRAL_RETRY (R350). Every 10 s a temperature-deferred update is retried. -/
  | tempDeferralRetry
  /-- LEGAL_RENDER (R355). M0/M1 render the legal region, write it into next and queue a legal update. -/
  | legalRender
  /-- RECOVERY_START (R359). T finds an ACTIVE or INTERRUPTED marker and queues a clearing recovery. -/
  | recoveryStart
  /-- KAT_RUN (R419). K runs its known-answer tests at start, every 24 h, and retests failed algorithms every 10 min. -/
  | katRun (fails : List Nat)
  /-- CHUCK_WAIT_TIMEOUT (R411). A request waiting 100 ms for a free Chuck slot fails. -/
  | chuckWaitTimeout
  /-- GRANT_EXPIRY (R417). A proven grant ends 8 h after proof. -/
  | grantExpiry
  /-- SERVICE_SELECTION (R177). The vehicle's service selection request is answered, fixing the session's SERVICE code and, for AC_BPT or DC_BPT, starting export authorisation with E55+n KIND 1. -/
  | serviceSelection (n : Fin 8) (code : Nat) (dynamic : Bool) (evccid : Nat)
  /-- REJECTED_PACKET (R366). A network packet that fails a packet check, carries REPLY set or names an undefined or reserved opcode is discarded or answered with its packet status. -/
  | rejectedPacket (x : NetIn)
  /-- FIELD_COLLAPSE (R305). The phone's field collapses and the field domain loses supply, ending any field-side read or write at the point the write table gives. -/
  | fieldCollapse (cut : Option (Nat × List Byte × Nat))
  /-- MODULATOR_OVERDUE (R41). 600 s pass since a modulator's last passing calibration and it becomes overdue, with E17 cause OVERDUE. -/
  | modulatorOverdue (m : Fin 72)
  /-- NONCE_EXPIRY (R417). 60 s after SEC_CHALLENGE the nonce of a source stops being valid. -/
  | nonceExpiry
  /-- KEPT_COMMAND_EXPIRY (R378). 60 s after it was kept, a command and its reply are no longer kept, so a repeat of its SEQ executes afresh. -/
  | keptCommandExpiry
  /-- DHCPV4_MESSAGE (R388). With IP4_MODE 2, a DHCPv4 message from a server is received and the device's IPv4 address is obtained or renewed. -/
  | dhcpv4Message (ip : Nat) (ack : Bool)
  /-- FRAME_FORWARDING (R371). A frame arriving at ETH1 or ETH2 is forwarded cut-through, and its source MAC address is learned into the switch table. -/
  | frameForwarding (port : Fin 2) (src dst len : Nat)
  /-- SYNC_INTERVAL (R382). In a master-capable or boundary role, the 125 ms sync interval and 1 s announce interval expire and PTP messages are sent. -/
  | syncInterval (announce : Bool)
  deriving DecidableEq, Repr

end Sys2Proof
end

