-- ==== Sys2Proof/Decode.lean ====
section
/-!
DEFINITION. The decoder the host's interface asks for. The table of operations gives no row any bits (every `fields` is
empty): a command is not spelled by a word but by a packet, which spec/16_host_command_port.md lays out and
Machine/Packet.lean reads. So no word spells a command.
-/

namespace Sys2Proof

/-- The command a word spells by the table's bits: none, because no row gives bits. -/
def decodeTableWord (_nbits _w : Nat) : Option Instr := none

end Sys2Proof
end

