-- ==== Sys2Proof/Machine/Bytes.lean ====
section
/-!
DEFINITION. Reading and writing fields of packets, settings blocks and records, the checksums the spec names, vectors
indexed by unit, and the option record a new device holds.
-/

namespace Sys2Proof.Machine

/-- The `n`-byte little-endian field at `off` (R6). -/
def fld (n off : Nat) (b : List Byte) : Nat := unle ((b.drop off).take n)

/-- One byte at `off`. -/
def u8 (off : Nat) (b : List Byte) : Nat := fld 1 off b
/-- A u16 at `off`. -/
def u16 (off : Nat) (b : List Byte) : Nat := fld 2 off b
/-- A u32 at `off`. -/
def u32 (off : Nat) (b : List Byte) : Nat := fld 4 off b
/-- A u64 at `off`. -/
def u64 (off : Nat) (b : List Byte) : Nat := fld 8 off b
/-- A signed `n`-byte field at `off`. -/
def sfld (n off : Nat) (b : List Byte) : Int := signed (8 * n) (fld n off b)

/-- `n` bytes at `off`. -/
def slice (off n : Nat) (b : List Byte) : List Byte := (b.drop off).take n

/-- `n` zero bytes. -/
def zeros (n : Nat) : List Byte := List.replicate n 0

/-- Exactly `n` bytes: cut or zero-padded. -/
def fit (n : Nat) (b : List Byte) : List Byte := (b ++ zeros n).take n

/-- Every byte is zero: how a reserved field must be written (R7). -/
def allZero (b : List Byte) : Bool := b.all (· == 0)

/-- The reserved bytes from `off` to `off + n - 1` are zero (R7). -/
def rsv (off n : Nat) (b : List Byte) : Bool := allZero (slice off n b)

/-- Replace the bytes at `off` by `v`. -/
def patch (off : Nat) (v b : List Byte) : List Byte := b.take off ++ v ++ b.drop (off + v.length)

/-- A signed value as the unsigned value of its two's complement at `n` bytes. -/
def i2n (n : Nat) (v : Int) : Nat := (v % (2 ^ (8 * n) : Nat)).toNat

/-- One bit of the reflected CRC-32 of IEEE 802.3. -/
def crcBit (c : Nat) : Nat := if c % 2 = 1 then (c / 2) ^^^ 0xEDB88320 else c / 2

/-- One byte of the reflected CRC-32. -/
def crcByte (c : Nat) (b : Byte) : Nat :=
  crcBit (crcBit (crcBit (crcBit (crcBit (crcBit (crcBit (crcBit (c ^^^ b.toNat))))))))

/-- CRC-32 with the IEEE 802.3 polynomial (R365). -/
def crc32 (bs : List Byte) : Nat := (bs.foldl crcByte 0xFFFFFFFF) ^^^ 0xFFFFFFFF

/-- A block or record whose last four bytes are the CRC-32 of the others. -/
def crcOk (b : List Byte) : Bool :=
  decide (4 ≤ b.length) && u32 (b.length - 4) b == crc32 (b.take (b.length - 4))

/-- Bytes with their CRC-32 appended. -/
def withCrc (b : List Byte) : List Byte := b ++ le 4 (crc32 b)

/-- Big-endian bytes of a bit string whose first byte is the most significant (R134). -/
def be (n v : Nat) : List Byte := (le n v).reverse

/-- The SHA-384 of bytes, as the 48 bytes SHA-384 produces (R134). -/
def sha (b : List Byte) : List Byte := be 48 (Config.sha384 b).toNat

/-- A unit's entry of a vector. -/
def vget {α : Type} {n : Nat} (v : Vector α n) (i : Fin n) : α := v[i]

/-- A vector with one unit's entry replaced. -/
def vset {α : Type} {n : Nat} (v : Vector α n) (i : Fin n) (x : α) : Vector α n := v.set i x

/-- A vector with one unit's entry changed by a function. -/
def vmod {α : Type} {n : Nat} (v : Vector α n) (i : Fin n) (f : α → α) : Vector α n := v.set i (f v[i])

/-- The entry at a number, if there is one. -/
def vat {α : Type} {n : Nat} (v : Vector α n) (i : Nat) (d : α) : α := if h : i < n then v[i] else d

/-- A vector with the entry at a number changed, if there is one. -/
def vatMod {α : Type} {n : Nat} (v : Vector α n) (i : Nat) (f : α → α) : Vector α n :=
  if h : i < n then v.set i (f v[i]) else v

/-- All numbers below `n`, as unit indexes. -/
def units (n : Nat) : List (Fin n) := List.finRange n

/-- The factory pairs of mailboxes: the even mailbox carries messages from the first identity to the second (R399). -/
def factoryPairs : List (Nat × Nat) :=
  [(2, 6), (2, 7), (3, 8), (3, 9), (4, 10), (5, 11), (6, 11), (6, 10), (7, 10), (2, 11), (8, 11), (9, 11), (7, 6), (12, 2)]

/-- MB_BIND of a bound mailbox (R399). -/
def bindWord (snd rcv : Nat) : Nat := snd + 16 * rcv + 256

/-- The reset value of MB_BIND: unbound, both codes 15 (R399). -/
def unboundWord : Nat := 0xFF

/-- The 64 bytes of the factory mailbox binding (R399). -/
def factoryBind : List Byte :=
  (factoryPairs.flatMap fun p => le 2 (bindWord p.1 p.2) ++ le 2 (bindWord p.2 p.1)) ++
    (List.replicate 4 unboundWord).flatMap (le 2)

/-- The option record written before delivery: the factory mailbox binding of R399 and reset values elsewhere, in the
layout of R452. Its generation is a DESIGN CHOICE (log entry 2). -/
def factoryOption : List Byte :=
  withCrc (le 4 0x4F564E50 ++ le 2 1 ++ zeros 2 ++ le 4 1 ++ zeros 4 ++ factoryBind ++ zeros 16 ++ zeros 4 ++ zeros 4 ++
    zeros 112 ++ zeros 4)

end Sys2Proof.Machine
end

