-- ==== Sys2Proof/Machine/State.lean ====
section
/-!
DEFINITION. The state of the PNV8: every register, block, record, counter, mode and land the spec gives the device, as
plain data. The default of a field is its value in the machine right after reset (`State.reset`); log entries 2 and 3
name the values the spec does not give. Fields named with "elapsed time" hold a value of `Clk.mono`.
-/

namespace Sys2Proof.Machine

/-- family member (R1; spec/00_scope.md). -/
inductive Member where
  | pnv1
  | pnv2
  | pnv4
  | pnv8
  deriving DecidableEq, Repr

/-- life phase of the device: off VSYS invalid; held cold reset held; boot boot not finished; testHold TEST_MODE high, no core released; run started; pfwSeq power-fail sequence running; pfwWait sequence ended; shelf SHELF (R436, R439, R445, R451, R486; spec/20_power_reset_clocks.md). -/
inductive PhaseKind where
  | off
  | held
  | boot
  | testHold
  | run
  | pfwSeq
  | pfwWait
  | shelf
  deriving DecidableEq, Repr

/-- power state (R441; spec/20_power_reset_clocks.md). -/
inductive PState where
  | run
  | idle
  | doze
  | watch
  deriving DecidableEq, Repr

/-- pilot output mode (R149; spec/07_pilot_and_proximity.md); x2 carries the duty code DC in 0.05 %. -/
inductive OutMode where
  | F
  | X1
  | X2 (dc : Nat)
  deriving DecidableEq, Repr

/-- pilot state (R152, R153; spec/07_pilot_and_proximity.md). -/
inductive PilotSt where
  | A
  | B
  | C
  | D
  | E
  | NEG
  | INVALID
  deriving DecidableEq, Repr

/-- END_REASON of a session record (after R134; spec/06_ledger_persistence.md). -/
inductive EndReason where
  | vehicleStop
  | hostStop
  | unplugged
  | safetyTrip
  | warmReset
  | powerLoss
  | reverseFlow
  | creditExhausted
  | supplyCredit
  | outOfService
  deriving DecidableEq, Repr

/-- channel protection state (R255; spec/11_switch_channels.md). -/
inductive ChState where
  | off
  | inrush
  | on
  | tripped
  | blocked
  | uvOff
  deriving DecidableEq, Repr

/-- prepayment state (R119, R125; spec/05_billing_tariffs.md). -/
inductive PpState where
  | off
  | credit
  | low
  | emergency
  | exhausted
  | friendlyHold
  | ppFault
  deriving DecidableEq, Repr

/-- mains-locked loop state (R319, R320; spec/14_tider_mains_link.md). -/
inductive LoopSt where
  | unlocked
  | locked
  | holdover
  deriving DecidableEq, Repr

/-- USTATE (R426; spec/19_firmware_update.md). -/
inductive UpdSt where
  | empty
  | receiving
  | writing
  | ready
  | trial
  | reverted
  deriving DecidableEq, Repr

/-- PHASE of SES_STATUS (R193; spec/08_high_level_communication.md). -/
inductive HlcPhase where
  | idle
  | slac
  | setup
  | auth
  | parameters
  | cableCheck
  | precharge
  | energy
  | paused
  | stopping
  | weldCheck
  | basic
  deriving DecidableEq, Repr

/-- PTP_STATE of SYS_STATUS (R391; spec/16_host_command_port.md). -/
inductive PtpSt where
  | off
  | listening
  | uncalibrated
  | slave
  | master
  | passive
  | holdover
  deriving DecidableEq, Repr

/-- RING_STATE of SYS_STATUS (R391; spec/16_host_command_port.md). -/
inductive RingSt where
  | line
  | closed
  | opened
  | memberNoManager
  | dual
  deriving DecidableEq, Repr

/-- what a boundary of R72 asks once the side it ends has been delivered: close a demand sub-interval with flags, at a device time, in a tariff, with the interval length in minutes and the sub-intervals of the settings it ran under; close a billing period; take the meter's part of a daily snapshot; freeze the meter for the fence; take the registers a session starts from; close the session's billing values (R101, R109, R111, R139, R384; spec/05_billing_tariffs.md). -/
inductive BAct where
  | demand (flags t tariff len sub : Nat)
  | period (flags tOpen tClose : Nat)
  | daily
  | fence
  | opened
  | demandStart
  | session
  deriving DecidableEq, Repr

/-- time base (R8, R113, R114, R457; spec/00_scope.md, spec/05_billing_tariffs.md, spec/20_power_reset_clocks.md). Times are counted
without a bound, and cut to 64 bits where they leave the device (DESIGN CHOICE, log entry 102). -/
structure Clk where
  /-- elapsed microseconds, monotonic (R136, R147). -/
  mono : Nat := 0
  /-- device time, u64 us since 2000-01-01 UTC (R8). -/
  time : Nat := 0
  /-- time is valid (R113). -/
  timeValid : Bool := false
  /-- us of slewing still to apply, signed (R114). -/
  slew : Int := 0
  /-- elapsed us since the last slewed us (R114). -/
  slewAcc : Nat := 0
  /-- counter of the free values drawn so far. -/
  free : Nat := 0
  /-- T_START, u64 (R462). -/
  tStart : Nat := 0
  deriving DecidableEq, Repr

/-- supplies, power-fail warning, power states, resets and clocks (spec/20_power_reset_clocks.md). -/
structure Pwr where
  /-- life phase (R436, R451). -/
  phase : PhaseKind := .off
  /-- VSYS valid (R436). -/
  vsysValid : Bool := false
  /-- VIO valid (R436). -/
  vioValid : Bool := false
  /-- VSYS, u16 mV (R462). -/
  vsysMv : Nat := 0
  /-- VBAT, u16 mV (R462). -/
  vbatMv : Nat := 0
  /-- VBAT_LOW flag (R436, R455). -/
  vbatLow : Bool := false
  /-- DIE_TEMP, s16 0.01 C (R462). -/
  dieTemp : Int := 0
  /-- power state (R441). -/
  pstate : PState := .run
  /-- elapsed time since which R442 allows a descent below IDLE (R441). -/
  allowedSince : Option Nat := none
  /-- an A core is running a task (R442). -/
  aTask : Bool := true
  /-- a timer of P0, P1 or K is due (R444). -/
  timerDue : Bool := false
  /-- level of RESET_N (R446). -/
  resetN : Bool := true
  /-- level of TEST_MODE (R486). -/
  testMode : Bool := false
  /-- ADDR[5:0] as sampled, 6 bits (R485). -/
  straps : Nat := 0
  /-- cause code of the cold reset held or run (R446). -/
  heldCause : Nat := 0
  /-- kind of the reset held or run, 0 cold 1 pin (R446). -/
  heldKind : Nat := 0
  /-- elapsed time at which a warm reset in progress began (R447). -/
  warmAt : Option Nat := none
  /-- a warm reset is due, with its cause (R446). -/
  warmReq : Option Nat := none
  /-- its cause code (R446). -/
  warmCause : Nat := 0
  /-- the application side is held in warm reset (R14, R447). -/
  inWarm : Bool := false
  /-- application firmware runs (R15, R451). -/
  appRunning : Bool := false
  /-- start of the last warm or UNIT 4 reset until the application runs (R450). -/
  appResetAt : Option Nat := none
  /-- K runs (R449, R451). -/
  kRunning : Bool := false
  /-- T runs (R449, R451). -/
  tRunning : Bool := false
  /-- P0, P1 run (R449, R451). -/
  pRunning : Vector Bool 2 := Vector.replicate 2 false
  /-- UNIT of the block reset requested or running (R449). -/
  blkUnit : Option Nat := none
  /-- elapsed time of the request to quiesce (R449). -/
  blkReqAt : Nat := 0
  /-- elapsed time at which the block reset began (R449). -/
  blkBegan : Option Nat := none
  /-- accepted PWR_RESET waiting: KIND, UNIT, elapsed time of the reply (R463). -/
  resetReq : Option (Nat × Nat × Nat) := none
  /-- source of the warning sequence (0 PFW_N, 1 mains, 2 VSYS) (R438). -/
  pfwSrc : Option Nat := none
  /-- elapsed time of the warning (R129). -/
  pfwAt : Nat := 0
  /-- elapsed time at which the sequence ended (R439). -/
  pfwEndAt : Nat := 0
  /-- PFW_N source armed (R438). -/
  pfwnArmed : Bool := false
  /-- PFW_N level (R462). -/
  pfwnLevel : Bool := true
  /-- consecutive low samples (R438). -/
  pfwnLow : Nat := 0
  /-- consecutive high samples (10 us each) (R438). -/
  pfwnHigh : Nat := 0
  /-- mains source armed (R438). -/
  mainsArmed : Bool := false
  /-- consecutive half-cycles at or above the arming level (R438). -/
  mainsGood : Nat := 0
  /-- consecutive low half-cycles (R438). -/
  mainsLow : Nat := 0
  /-- consecutive half-cycles of the reference voltage of G0 closed with ZC_MISSING (R438). -/
  zcMiss : Nat := 0
  /-- elapsed time since which G0 c4 half-cycle RMS is below 10 V with metering valid (R445). -/
  c4LowSince : Option Nat := none
  /-- clock faults, by the clock codes of E6 (R459). -/
  clkFault : Vector Bool 6 := Vector.replicate 6 false
  /-- E7 raised since the last cold start (R475). -/
  e7Raised : Bool := false
  /-- option record in force, 224 bytes, loaded and locked at boot step 3 (R451, R452). -/
  optLoaded : Option (List Byte) := none
  /-- copy 1 was valid at the start (R462). -/
  optA : Bool := false
  /-- copy 2 was valid at the start (R462). -/
  optB : Bool := false
  /-- device address 0-63 (R375, R485). -/
  addr : Nat := 0
  /-- 0 straps, 1 option record (R390). -/
  addrSrc : Nat := 0
  deriving DecidableEq, Repr

/-- one copy of the boot selector (R429; spec/19_firmware_update.md). -/
structure SelCopy where
  /-- u32 generation (R429). -/
  gen : Nat := 0
  /-- active slot, 0 A 1 B (R429). -/
  slot : Nat := 0
  /-- TRIAL (R429). -/
  trial : Bool := false
  /-- restart class 0 none 1 warm 2 cold (R429). -/
  cls : Nat := 0
  /-- elapsed-time trial deadline, 0 none (R429, R430). -/
  deadline : Nat := 0
  /-- security version to raise at confirmation (R429). -/
  secVer : Nat := 0
  deriving DecidableEq, Repr

/-- a firmware set held in a firmware slot (R12, R423, R424; spec/19_firmware_update.md). -/
structure FwSet where
  /-- u32 FW_VER (R423). -/
  fwVer : Nat := Config.factoryFwVer
  /-- u32 MET_VER (R423). -/
  metVer : Nat := Config.factoryMetVer
  /-- u32 SEC_VER (R423). -/
  secVer : Nat := Config.factorySecVer
  /-- manifest bytes (R423). -/
  manifest : List Byte := Config.factoryManifest
  /-- image of each part type (R424). -/
  parts : List (Nat × List Byte) := Config.factoryParts
  /-- FORMAT expected for each block identifier that differs from 1 (R433, R519). -/
  formats : List (Nat × Nat) := []
  /-- the slot holds a complete set not marked invalid (R427, R431). -/
  valid : Bool := true
  deriving DecidableEq, Repr

/-- Tailstock domain (R455; spec/20_power_reset_clocks.md). -/
structure Tail where
  /-- RTC, us since 2000 (R455, R457). -/
  rtc : Nat := 0
  /-- integrity word correct (R455). -/
  intact : Bool := false
  /-- RTC_LOSS (R455). -/
  rtcLoss : Bool := true
  /-- u32 saturating COLD (R456). -/
  cold : Nat := 0
  /-- u32 saturating PIN (R456). -/
  pin : Nat := 0
  /-- u32 saturating WARM (R456). -/
  warm : Nat := 0
  /-- u32 saturating BLOCK (R456). -/
  block : Nat := 0
  /-- LAST_KIND, 0 cold 1 pin 2 warm 3 block (R455, R462). -/
  lastKind : Nat := 0
  /-- LAST_CAUSE (R455, R462). -/
  lastCause : Nat := 0
  /-- mirror of LAST_FIRED[DEMAND, PERIOD, DAILY] (R112, R455). -/
  lastFired : Vector Nat 3 := Vector.replicate 3 0
  /-- debounced cover state (R482). -/
  coverOpen : Bool := false
  /-- level of the last TAMPER_IN sample (true: open) (R482). -/
  coverCand : Bool := false
  /-- consecutive equal samples (R482). -/
  coverRun : Nat := 0
  /-- cover openings, u32 saturating (R136). -/
  openCount : Nat := 0
  /-- latched time of an opening while unpowered (R136). -/
  openTime : Nat := 0
  /-- an opening while unpowered is latched (R136). -/
  latched : Bool := false
  deriving DecidableEq, Repr

/-- one copy of a settings block (R516, R517; spec/24_command_reference.md). -/
structure BlkCopy where
  /-- block identifier (R519). -/
  id : Nat := 0
  /-- the block, from BLOCK_ID to CRC (R516). -/
  bytes : List Byte := []
  /-- u32 write count (R516). -/
  wcount : Nat := 0
  /-- BSTATE 1 valid, 2 superseded, 3 reset by an update (R517). -/
  bstate : Nat := 1
  /-- time at which the copy took effect, 0 for a stored copy (R517). -/
  tCommit : Nat := 0
  /-- stored by BLK_WRITE (R518). -/
  byHost : Bool := true
  deriving DecidableEq, Repr

/-- a command received and not yet replied to (R366, R377; spec/16_host_command_port.md). -/
structure Flight where
  /-- the packet (R377). -/
  pkt : Pkt := {}
  /-- opcode (R377). -/
  opcode : Nat := 0
  /-- receipt number, counting the commands received (R377). -/
  no : Nat := 0
  /-- elapsed time of receipt (R367). -/
  t0 : Nat := 0
  /-- what the command waits for (mask, point or unit named). -/
  tag : Nat := 0
  deriving DecidableEq, Repr

/-- settings-blocks partition (R12, R516-R519; spec/24_command_reference.md). -/
structure Blocks where
  /-- stored copies (R516). -/
  stored : List BlkCopy := []
  /-- committed copies (R518). -/
  committed : List BlkCopy := []
  /-- stored copies kept for the trial (R433). -/
  keepStored : List BlkCopy := []
  /-- committed copies kept for the trial (R433). -/
  keepCommitted : List BlkCopy := []
  /-- write count of each identifier (R516). -/
  counts : List (Nat × Nat) := []
  /-- waiting commits with the copies they took at their start (R518). -/
  taken : List (Flight × List BlkCopy) := []
  deriving DecidableEq, Repr

/-- a reply packet (R365, R367; spec/16_host_command_port.md). -/
structure Reply where
  /-- source the reply goes to (R377). -/
  src : Source := .spi
  /-- ADDR (R367). -/
  addr : Nat := 0
  /-- SEQ u16 (R367). -/
  seq : Nat := 0
  /-- OPCODE u16 (R367). -/
  opcode : Nat := 0
  /-- FLAGS u16, bit 15 REPLY (R367). -/
  flags : Nat := 0
  /-- STATUS u16 (R367). -/
  status : Nat := 0
  /-- BOOT u16 (R367). -/
  boot : Nat := 0
  /-- payload (R367). -/
  payload : List Byte := []
  deriving DecidableEq, Repr

/-- a kept command of R378 (spec/16_host_command_port.md). -/
structure Kept where
  /-- source (R378). -/
  src : Source := .spi
  /-- SEQ (R378). -/
  seq : Nat := 0
  /-- OPCODE (R378). -/
  opcode : Nat := 0
  /-- its reply once completed (R378). -/
  reply : Option Reply := none
  /-- elapsed time at which it was kept (R378). -/
  t0 : Nat := 0
  deriving DecidableEq, Repr

/-- event sink (R380; spec/16_host_command_port.md). -/
structure Sink where
  /-- subscribed (R380). -/
  on : Bool := false
  /-- 0 IPv4 1 IPv6 (R380). -/
  family : Nat := 0
  /-- destination UDP port (R380). -/
  port : Nat := 0
  /-- destination address (R380). -/
  ip : Nat := 0
  /-- bit e selects Ee (R380). -/
  mask : BitVec 128 := 0
  /-- acknowledgement point (R380). -/
  ack : Nat := 0
  /-- LOST u32 (R380). -/
  lost : Nat := 0
  deriving DecidableEq, Repr

/-- notification state of a network sink (R381; spec/16_host_command_port.md). -/
structure Notify where
  /-- per-sink SEQ counter u16 (R381). -/
  seq : Nat := 0
  /-- elapsed time of the last notification not yet answered (R381). -/
  sentAt : Option Nat := none
  /-- first entry of that notification (R381). -/
  fst0 : Nat := 0
  /-- log number up to which entries have been notified (R381). -/
  upto : Nat := 0
  deriving DecidableEq, Repr

/-- learned MAC address (R371; spec/16_host_command_port.md). -/
structure Mac where
  /-- 48-bit address (R371). -/
  mac : Nat := 0
  /-- 0 internal, 1 ETH1, 2 ETH2 (R371). -/
  port : Nat := 0
  /-- elapsed time it was last seen (R371). -/
  t0 : Nat := 0
  deriving DecidableEq, Repr

/-- a frame, datagram or notification leaving the device, recorded (R371-R374, R381, R382; spec/16_host_command_port.md). -/
structure Frame where
  /-- 1 ETH1, 2 ETH2, 0 either (R371). -/
  port : Nat := 0
  /-- 1 reply, 2 notification, 3 TEST, 4 LINK_DOWN, 5 FLUSH, 6 network service answer, 7 PTP, 8 forwarded. -/
  kind : Nat := 0
  /-- destination. -/
  dst : Nat := 0
  /-- bytes. -/
  data : List Byte := []
  deriving DecidableEq, Repr

/-- a running Parting fence (R384; spec/16_host_command_port.md). -/
structure Fence where
  /-- its command (R384). -/
  flight : Flight := {}
  /-- T_FENCE (R384). -/
  t : Nat := 0
  /-- frozen registers (9 x 12) and quality word of each meter (R384). -/
  regs : Vector (Option (List Nat × Nat)) 9 := Vector.replicate 9 none
  /-- elapsed time at which the snapshot completed (R385). -/
  doneAt : Option Nat := none
  /-- the window of a meter has been split at T_FENCE (R384). -/
  split : Vector Bool 9 := Vector.replicate 9 false
  deriving DecidableEq, Repr

/-- host command port, SPI, Ethernet switch and ring, PTP, fence (spec/16_host_command_port.md). -/
structure Port where
  /-- the port executes commands (R15, R368). -/
  ready : Bool := false
  /-- wait state, WAIT_OPTION (R368, R387). -/
  wait : Bool := false
  /-- number of commands received so far (R377). -/
  rxNo : Nat := 0
  /-- u32 saturating (R391). -/
  rxOk : Nat := 0
  /-- u32 saturating (R391). -/
  rxDrop : Nat := 0
  /-- kept commands, newest first (R378). -/
  kept : List Kept := []
  /-- commands started and not yet replied to (R366). -/
  flights : List Flight := []
  /-- commands received and not yet started, oldest first (R377). -/
  held : List Flight := []
  /-- replies waiting on SPI, oldest first, at most 8 (R369). -/
  spiOut : List Reply := []
  /-- OVERRUN (R368). -/
  overrun : Bool := false
  /-- bytes returned on SPI_MISO by the last transaction (R368, R369). -/
  spiMiso : List Byte := []
  /-- frames sent, newest first. -/
  out : List Frame := []
  /-- IP reassemblies in progress: id, elapsed start (R374). -/
  reasm : List (Nat × Nat) := []
  /-- notification state per sink (R381). -/
  notify : Vector Notify 5 := Vector.replicate 5 {}
  /-- MAC table, newest first, at most 1024 (R371). -/
  macs : List Mac := []
  /-- link of ETH1, ETH2 (R372, R480). -/
  link : Vector Bool 2 := Vector.replicate 2 false
  /-- RING_STATE (R391). -/
  ring : RingSt := .line
  /-- consecutive missing TEST frames per port (R373). -/
  testMiss : Vector Nat 2 := Vector.replicate 2 0
  /-- consecutive intervals with TEST frames returned (R373). -/
  testRet : Nat := 0
  /-- elapsed time of the last TEST frame seen (R372). -/
  testSeenAt : Nat := 0
  /-- data blocked on ETH2 (R372, R373). -/
  eth2Blk : Bool := false
  /-- network block in effect (R388, R389). -/
  netApplied : Option (List Byte) := none
  /-- NET_COMMIT replied and not yet applied (R389). -/
  netPend : Option Flight := none
  /-- IPv4 address obtained by DHCPv4 (R388). -/
  dhcp : Option Nat := none
  /-- PTP_STATE (R391). -/
  ptp : PtpSt := .off
  /-- PTP_OFFSET s32 ns (R391). -/
  ptpOffset : Int := 0
  /-- GM_ID u64 (R391). -/
  gmId : Nat := 0
  /-- elapsed time of the last announce (R382). -/
  lastAnn : Nat := 0
  /-- elapsed time of the last sync (R382). -/
  lastSync : Nat := 0
  /-- currentUtcOffset, s (R383). -/
  utcOfs : Int := 0
  /-- running fence (R384). -/
  fence : Option Fence := none
  /-- watermark of each master identity (R384). -/
  marks : Vector Nat 16 := Vector.replicate 16 0
  deriving DecidableEq, Repr

/-- event-log entry (R147; spec/06_ledger_persistence.md). -/
structure LogEnt where
  /-- TIME u64 (R147). -/
  time : Nat := 0
  /-- EVENT (R147). -/
  ev : Nat := 0
  /-- ORIGIN (R147). -/
  origin : Nat := 0
  /-- FLAGS u16 (R147). -/
  flags : Nat := 0
  /-- PARAM, 16 bytes (R147, R522). -/
  param : List Byte := []
  /-- entry number u32 (R147). -/
  no : Nat := 0
  deriving DecidableEq, Repr

/-- occurrences coalesced and not yet entered (R402; spec/17_mailboxes_events.md). -/
structure Coal where
  /-- event (R402). -/
  ev : Nat := 0
  /-- source domain (R402). -/
  origin : Nat := 0
  /-- occurrences (R402). -/
  count : Nat := 0
  /-- latest level (R402). -/
  lvl : Bool := false
  /-- parameters of the latest occurrence (R402). -/
  param : List Byte := []
  deriving DecidableEq, Repr

/-- event-log engine (R400-R402; spec/17_mailboxes_events.md). -/
structure EvLog where
  /-- level-event conditions that hold: event, condition key (R401). -/
  active : List (Nat × Nat) := []
  /-- entries taken from each domain's 32-entry queue since the engine last emptied it (R402). -/
  used : Vector Nat 16 := Vector.replicate 16 0
  /-- coalesced occurrences waiting (R402). -/
  coal : List Coal := []
  /-- COALESCED u32 saturating (R404). -/
  coalTotal : Nat := 0
  deriving DecidableEq, Repr

/-- mailbox MBk (R394; spec/17_mailboxes_events.md). -/
structure Mbx where
  /-- data words W0-W15 (R394). -/
  w : Vector (BitVec 32) 16 := Vector.replicate 16 0
  /-- DOORBELL.PENDING (R394). -/
  pending : Bool := false
  /-- DOORBELL.COUNT, 5 bits (R394). -/
  count : Nat := 0
  /-- ACK.CODE u16 (R394). -/
  code : Nat := 0
  /-- ACK.TAKEN (R394). -/
  taken : Bool := false
  /-- REFUSED u16 saturating (R395, R405). -/
  refused : Nat := 0
  /-- elapsed time since which PENDING is 1 (R398, R405). -/
  since : Nat := 0
  /-- E14 stands for this mailbox (R398). -/
  e14 : Bool := false
  /-- receiver's mailbox interrupt posted (R396). -/
  irq : Bool := false
  deriving DecidableEq, Repr

/-- coefficient set (R37; spec/02_metering_front_end.md). -/
structure Coef where
  /-- s32, 1/256 LSB (R37). -/
  offset : Int := 0
  /-- u32 Q2.30 (R37). -/
  gain : Nat := 0x40000000
  /-- s16, 3.90625 ns (R37). -/
  phase : Int := 0
  /-- s16, 0.01 C (R37). -/
  temp : Int := 0
  /-- u16 FLAGS (R37). -/
  flags : Nat := 0
  /-- u64 time of calibration (R37). -/
  time : Nat := 0
  deriving DecidableEq, Repr

/-- persistent state of a modulator (R37, R40; spec/02_metering_front_end.md). -/
structure NvMod where
  /-- stored current set with its CRC-32, 28 bytes, first copy; none written yet (R37). -/
  copyA : List Byte := []
  /-- second copy (R37). -/
  copyB : List Byte := []
  /-- the second copy is the newer (R37). -/
  newerB : Bool := false
  /-- faulty verdict (R40). -/
  faulty : Bool := false
  /-- PASSES, consecutive passing calibrations, saturating 255 (R45). -/
  passes : Nat := 0
  deriving DecidableEq, Repr

/-- a modulator in service (R32-R41; spec/02_metering_front_end.md). -/
structure Modu where
  /-- current coefficient set (R37, R42). -/
  cur : Coef := {}
  /-- the set before the last calibration, which a spare taken away in steps 9 to 11 leaves the modulator with (R40). -/
  prev : Coef := {}
  /-- COLD flag (R42). -/
  cold : Bool := true
  /-- elapsed time of the last passing calibration (R41). -/
  lastPass : Option Nat := none
  /-- overdue (R41). -/
  overdue : Bool := false
  /-- failed comparisons not yet cleared (R40). -/
  cmpFails : Nat := 0
  deriving DecidableEq, Repr

/-- supervision of a bitstream channel (R27, R28; spec/02_metering_front_end.md). -/
structure XCh where
  /-- stuck fault (R27). -/
  stuck : Bool := false
  /-- ones-density overrange (R27). -/
  ovr : Bool := false
  /-- consecutive mismatching windows (R28). -/
  misRun : Nat := 0
  /-- XCHK flag of R28 (R28). -/
  xchk : Bool := false
  /-- elapsed time of the last restart of the chain or end of a stuck fault: INVALID lasts while it lies within the impulse
  response of an output (R27, R54, R56, R58). -/
  inv : Option Nat := none
  /-- elapsed start of the metering the fast path settles after (R58). -/
  fpInv : Option Nat := none
  /-- elapsed time at which the spare was connected in place of a faulty modulator (R39, R58). -/
  subst : Option Nat := none
  /-- elapsed end of the last overrange (R27, R56). -/
  ovrEnd : Option Nat := none
  /-- last good sample of each preset output (R39). -/
  good : Vector Int 4 := Vector.replicate 4 0
  /-- last good fast-path sample (R39, R58). -/
  goodFp : Int := 0
  /-- sum, sum of squares and number of the channel's samples of its group's PRESET since metering became valid (R28). -/
  tot : Int × Nat × Nat := (0, 0, 0)
  /-- the same at the start of the running cross-check window, of the channel and of its partner (R28). -/
  tot0 : (Int × Nat × Nat) × (Int × Nat × Nat) := ((0, 0, 0), (0, 0, 0))
  /-- elapsed start of the running cross-check window (R28). -/
  xAt : Nat := 0
  deriving DecidableEq, Repr

/-- decimation chain of one modulator or bitstream (R48, R50, R52; spec/03_filter_chain.md). -/
structure Chain where
  /-- bitstream, newest first, over the longest delay line and the response of S1 (R52). -/
  bits : List Bool := []
  /-- 40-bit words of S1 to S6 over the taps of the stage that follows, and the last word of S7, newest first (R48, R50). -/
  s1 : List Int := []
  /-- words of S2 (R48). -/
  s2 : List Int := []
  /-- words of S3 (R48). -/
  s3 : List Int := []
  /-- words of S4 (R48). -/
  s4 : List Int := []
  /-- words of S5 (R48). -/
  s5 : List Int := []
  /-- words of S6 (R48). -/
  s6 : List Int := []
  /-- last word of S7 (R48). -/
  s7 : List Int := []
  deriving DecidableEq, Repr

/-- one output instant of a preset in a group, not yet delivered (R48, R55; spec/03_filter_chain.md). -/
structure PreOut where
  /-- preset (R48). -/
  preset : Nat := 0
  /-- output instant, modulator periods of the sample grid (R55). -/
  at_ : Nat := 0
  /-- 40-bit words of the group's eight chains (R48, R50). -/
  words : List Int := []
  deriving DecidableEq, Repr

/-- metering front end (spec/02_metering_front_end.md). -/
structure Fe where
  /-- metering is valid (R15). -/
  valid : Bool := false
  /-- calibration frozen (R31). -/
  frozen : Bool := false
  /-- consecutive calibrations in which the references agree (R31). -/
  agreeRun : Nat := 0
  /-- next rotation slot 0-71 (R32). -/
  slot : Nat := 0
  /-- modulators of inserted extra slots, next first (R40). -/
  extra : List Nat := []
  /-- first full rotation completed (E21 raised) (R42). -/
  firstDone : Bool := false
  /-- channel the spare serves in rotation (steps 3 to 11) per group (R33, R45). -/
  spareBusy : Vector (Option Nat) 9 := Vector.replicate 9 none
  /-- modulator of the slot that stands in a step of R33, and what that slot measures (its `cut` is the step); none between
  slots (R33, R45). -/
  slotAt : Option (Nat × SlotMeas) := none
  /-- modulators (R22). -/
  mods : Vector Modu 72 := Vector.replicate 72 {}
  /-- channel supervision, index 8g + c (R22). -/
  xch : Vector XCh 72 := Vector.replicate 72 {}
  /-- elapsed time at which metering became valid: origin of the sample grid (R55). -/
  validAt : Nat := 0
  /-- modulator periods of 0.25 µs of the sample grid so far (R55). -/
  grid : Nat := 0
  /-- decimation chains (R48). -/
  chain : Vector Chain 72 := Vector.replicate 72 {}
  /-- preset outputs of each group not yet delivered, oldest first (R48). -/
  outs : Vector (List PreOut) 9 := Vector.replicate 9 []
  /-- samples of each group's channels at each preset over a tracked period, newest first (R39). -/
  past : Vector (Vector (List (List Int)) 4) 9 := Vector.replicate 9 (Vector.replicate 4 [])
  /-- requalified modulators that return to their channels next (R46). -/
  back : List Nat := []
  /-- MTR_COMMIT waiting (R45). -/
  commit : Option Flight := none
  deriving DecidableEq, Repr

/-- persistent state of the front end (R37, R40; spec/02_metering_front_end.md). -/
structure NvFe where
  /-- per modulator (R37, R40). -/
  mods : Vector NvMod 72 := Vector.replicate 72 {}
  /-- channel the spare serves after a substitution, per group (R40). -/
  subst : Vector (Option Nat) 9 := Vector.replicate 9 none
  /-- group degraded (R40). -/
  degraded : Vector Bool 9 := Vector.replicate 9 false
  deriving DecidableEq, Repr

/-- detectors of one channel (R60-R63, R67; spec/03_filter_chain.md). -/
structure Det where
  /-- PEAK_MAX of the last window (R61). -/
  peakMax : Int := 0
  /-- PEAK_MIN of the last window (R61). -/
  peakMin : Int := 0
  /-- running maximum (R61). -/
  runMax : Option Int := none
  /-- running minimum (R61). -/
  runMin : Option Int := none
  /-- HC_RMS of the last window (R61). -/
  hcRms : Nat := 0
  /-- running sum of squares (R61). -/
  sumSq : Nat := 0
  /-- samples in it (R61). -/
  n : Nat := 0
  /-- NO_HISTORY of the cycle-difference detector (R61). -/
  noHistory : Bool := true
  /-- NO_HISTORY of the half-cycle RMS: no window has completed (R61). -/
  hcNone : Bool := true
  /-- DFLAGS bits 0-4 of the last half-cycle window (R67). -/
  flags : Nat := 0
  /-- DFLAGS bits 0-4 of the last peak window (R56, R67). -/
  peakFlags : Nat := 0
  /-- flags gathered in the running peak window (R56). -/
  runPeak : Nat := 0
  /-- flags gathered in the running window (R67). -/
  runFlags : Nat := 0
  /-- fast-path samples of the last tracked period, newest first (R61). -/
  hist : List Int := []
  /-- peak magnitude over the previous tracked period, fast-path LSB (R60, R61). -/
  peakPrev : Nat := 8
  /-- peak magnitude of the running one (R60). -/
  peakRun : Nat := 0
  /-- ABRUPT found in the running half-cycle (R61). -/
  abrupt : Bool := false
  /-- last fast-path sample (R60). -/
  lastX : Option Int := none
  /-- the one before it (R60). -/
  prevX : Option Int := none
  /-- output instant of the last fast-path sample, elapsed 1/64 us (R60). -/
  lastT : Nat := 0
  /-- beyond +H since the last accepted crossing (R60). -/
  wentPos : Bool := false
  /-- below -H since the last accepted crossing (R60). -/
  wentNeg : Bool := false
  /-- last accepted or synthesised crossings, newest first, elapsed 1/64 us (R60, R61). -/
  zc : List Nat := []
  /-- upward ones among them with the tracked period at each, newest first, at most 8 (R71, R74, R87). -/
  zcUps : List (Nat × Option Nat) := []
  /-- direction of the newest crossing (R60). -/
  zcUp : Bool := false
  /-- crossings accepted since the last gap of 15 ms, at most 3 (R61). -/
  acc : Nat := 0
  /-- last accepted crossing, elapsed 1/64 us (R60, R61). -/
  accAt : Nat := 0
  /-- tracked period, 1/64 us (R61). -/
  period : Option Nat := none
  /-- Roughing samples in the running peak window (R61). -/
  peakN : Nat := 0
  /-- SEQ of half-cycle records, modulo 256 (R63). -/
  hcSeq : Nat := 0
  /-- the crossing that starts the running half-cycle was shifted (R63, R65). -/
  hcShift : Bool := false
  /-- FLAGS gathered for the running half-cycle (R63). -/
  hcFlags : Nat := 0
  /-- predicted upward crossing written by the mains-locked loop, 1/64 us of device time (R65). -/
  predUp : Option Nat := none
  /-- predicted downward crossing (R65). -/
  predDn : Option Nat := none
  deriving DecidableEq, Repr

/-- half-cycle record (R63; spec/03_filter_chain.md). -/
structure HcRec where
  /-- T_ZC, 1/64 us of device time (R63). -/
  tZc : Nat := 0
  /-- FLAGS u16 (R63). -/
  flags : Nat := 0
  /-- 0 U1 1 U2 2 U3 (R63). -/
  ch : Nat := 0
  /-- positive half-cycle (R63). -/
  pos : Bool := false
  /-- SEQ (R63). -/
  seq : Nat := 0
  /-- HC_RMS (R63). -/
  rms : Nat := 0
  /-- time of the closing crossing (the next record's T_ZC) (R63). -/
  tEnd : Nat := 0
  deriving DecidableEq, Repr

/-- detectors and half-cycle queue (spec/03_filter_chain.md). -/
structure Filt where
  /-- detectors, index 8g + c (R60, R61). -/
  det : Vector Det 72 := Vector.replicate 72 {}
  /-- queue to T, oldest first, at most 256 (R66). -/
  hcq : List HcRec := []
  /-- fast-path samples issued since the last safety cycle: channel, value, flags (R59). -/
  safeq : List (Nat × Int × Nat) := []
  deriving DecidableEq, Repr

/-- one side of a metering window (R72; spec/04_energy_quantities.md). -/
structure Side where
  /-- end time, none for the running side (R72). -/
  tEnd : Option Nat := none
  /-- the same on the sample grid, elapsed 1/64 us (R53, R72). -/
  endE : Option Nat := none
  /-- the side ends at a boundary of R72 (R72). -/
  split : Bool := false
  /-- the side belongs to the open session of the point (R19, R101). -/
  sess : Bool := false
  /-- tariff in force over the side (R100). -/
  tariff : Nat := 0
  /-- price in force over the side, none with prepayment off (R118, R122). -/
  price : Option Nat := none
  /-- time invalid over the side (R113). -/
  tInv : Bool := false
  /-- what the boundary that ends the side asks once it is delivered (R72). -/
  acts : List BAct := []
  deriving DecidableEq, Repr

/-- metering window in progress (R71; spec/04_energy_quantities.md). -/
structure Win where
  /-- device time of its start (R71). -/
  start : Nat := 0
  /-- its start on the sample grid, elapsed 1/64 us (R71, R74). -/
  startE : Nat := 0
  /-- tracked period at the crossing that starts it, 1/64 us (R74). -/
  period : Option Nat := none
  /-- sides, oldest first; the running one is the last (R72). -/
  sides : List Side := [{}]
  /-- samples not yet counted in a closed window, oldest first: nominal timestamp in elapsed 1/64 us, the seven samples and their
  flags (R53, R71). -/
  smp : List (Int × List Int × List Nat) := []
  deriving DecidableEq, Repr

/-- window quantities of one meter (R75, R96; spec/04_energy_quantities.md). -/
structure MtrVals where
  /-- T_READ (R96). -/
  tRead : Nat := 0
  /-- FREQ mHz (R73). -/
  freq : Nat := 0
  /-- uV (R75). -/
  urms : Vector Nat 3 := Vector.replicate 3 0
  /-- uA (R75). -/
  irms : Vector Nat 3 := Vector.replicate 3 0
  /-- mW (R75). -/
  p : Vector Int 3 := Vector.replicate 3 0
  /-- mvar (R75). -/
  q : Vector Int 3 := Vector.replicate 3 0
  /-- mVA (R75). -/
  s : Vector Nat 3 := Vector.replicate 3 0
  /-- mW (R75). -/
  p1 : Vector Int 3 := Vector.replicate 3 0
  /-- IN_RMS uA (R96). -/
  inRms : Nat := 0
  /-- mW (R96). -/
  pTot : Int := 0
  /-- mvar (R96). -/
  qTot : Int := 0
  /-- mVA (R96). -/
  sTot : Nat := 0
  /-- PF_TOT s16 (R75). -/
  pf : Int := 0
  /-- ANG_U2 0.01 deg (R96). -/
  angU2 : Nat := 0
  /-- ANG_U3 0.01 deg (R96). -/
  angU3 : Nat := 0
  /-- bits 0-6 of QFLAGS of the last window (R96). -/
  wflags : Nat := 0
  deriving DecidableEq, Repr

/-- persistence of one wiring or tamper finding (R87; spec/04_energy_quantities.md). -/
structure Find where
  /-- declared (R87). -/
  on : Bool := false
  /-- consecutive windows toward a change (R87). -/
  run : Nat := 0
  /-- their summed length in us (R87). -/
  len : Nat := 0
  deriving DecidableEq, Repr

/-- energy engine of one meter, not persistent part (spec/04_energy_quantities.md). -/
structure Meter where
  /-- window in progress (R71). -/
  win : Win := {}
  /-- last completed window (R96). -/
  vals : MtrVals := {}
  /-- SEQ_REVERSED, SEQ_UNDET, MISSING_NEUTRAL, REVERSED_CT, BYPASS, NEUTRAL_TAMPER (R87). -/
  finds : Vector Find 6 := Vector.replicate 6 {}
  /-- UTC end of the netting period in progress (R82). -/
  netT : Option Nat := none
  /-- quality word of the last window side (R384). -/
  lastQual : Nat := 0
  /-- MTR_ENERGY_COMMIT waits for this meter's window close (R95). -/
  commit : Bool := false
  deriving DecidableEq, Repr

/-- pulse stage (R90, R91; spec/04_energy_quantities.md). -/
structure Pls where
  /-- PACC u64 (R90). -/
  pacc : Nat := 0
  /-- PENDING u16 (R91). -/
  pend : Nat := 0
  /-- elapsed time at which the pulse in progress ends (R91). -/
  onUntil : Option Nat := none
  /-- earliest elapsed time of the next pulse (R91). -/
  nextAt : Nat := 0
  /-- issue period of the pulses of the last window, us (R91). -/
  period : Nat := 0
  /-- pulses added by the increments of the window being closed (R91). -/
  added : Nat := 0
  /-- level driven on MPLS (true high); meaningful from metering valid (R93, R480). -/
  land : Bool := false
  deriving DecidableEq, Repr

/-- energy engine (spec/04_energy_quantities.md). -/
structure Energy where
  /-- meters (R68). -/
  m : Vector Meter 9 := Vector.replicate 9 {}
  /-- pulse stages (R90). -/
  pls : Vector Pls 4 := Vector.replicate 4 {}
  /-- MTR_ENERGY_COMMIT waiting (R95). -/
  commit : Option Flight := none
  /-- its pulse block not yet applied (R95). -/
  commitPls : Bool := false
  deriving DecidableEq, Repr

/-- a demand value (R109; spec/05_billing_tariffs.md). -/
structure DemVal where
  /-- mW (R109). -/
  mw : Nat := 0
  /-- LFLAGS (R124). -/
  flags : Nat := 0
  deriving DecidableEq, Repr

/-- maximum demand (R110; spec/05_billing_tariffs.md). -/
structure MaxD where
  /-- mW (R110). -/
  mw : Nat := 0
  /-- MAXD_T, 0 none (R124). -/
  t : Nat := 0
  deriving DecidableEq, Repr

/-- billing-period snapshot of one meter (R111, R124; spec/05_billing_tariffs.md). -/
structure Snap where
  /-- T_OPEN (R124). -/
  tOpen : Nat := 0
  /-- T_CLOSE (R124). -/
  tClose : Nat := 0
  /-- SFLAGS (R124). -/
  flags : Nat := 0
  /-- 9 x 12 registers, mWh (R124). -/
  regs : List Nat := []
  /-- 4 x 8 maximum demands (R124). -/
  maxd : List MaxD := []
  deriving DecidableEq, Repr

/-- per-meter content of class P100 (R128; spec/06_ledger_persistence.md). -/
structure MeterP where
  /-- ACC[q] uWh, 64-bit (R78). -/
  acc : Vector Nat 12 := Vector.replicate 12 0
  /-- tariff accumulators T1-T8, uWh (R98). -/
  tacc : Vector (Vector Nat 12) 8 := Vector.replicate 8 (Vector.replicate 12 0)
  /-- pending netting sum of P, 1/65536 uW.sample (R81, R82). -/
  netP : Int := 0
  /-- pending netting sum of P1_tot x N (R81). -/
  net1 : Int := 0
  /-- pending netting sum of Q_tot x N (R81). -/
  netQ : Int := 0
  /-- pending netting sum of S_tot x N (R81). -/
  netS : Nat := 0
  /-- flags gathered over the netting period (R89). -/
  netFlags : Nat := 0
  /-- CREDIT s64, 1/100,000 CU (R118). -/
  credit : Int := 0
  /-- prepayment state (R119). -/
  ppState : PpState := .off
  /-- emergency credit taken in this exhaustion (R119). -/
  emergUsed : Bool := false
  /-- emergency credit activated (R119). -/
  emergOn : Bool := false
  /-- 16 newest TOKEN_ID, newest first (R126). -/
  tokens : List Nat := []
  /-- demand sums of the sub-interval in progress, uWh (R108, R128). -/
  demCur : Vector Nat 4 := Vector.replicate 4 0
  /-- sums of the last closed sub-intervals, newest first (R109). -/
  demPast : List (List Nat) := []
  /-- sub-intervals elapsed since INCOMPLETE started, saturating (R109). -/
  demRun : Nat := 0
  /-- SHORT, OUTAGE and TIME_STEP flags of the interval in progress (R109). -/
  demShort : Nat := 0
  /-- maximum demands (R110). -/
  maxd : Vector (Vector MaxD 8) 4 := Vector.replicate 4 (Vector.replicate 8 {})
  /-- direction is export (R83). -/
  dirExport : Bool := false
  /-- count of consecutive windows toward a change (R83). -/
  dirRun : Nat := 0
  /-- start time of the first window counted toward a change (R83). -/
  dirAt : Nat := 0
  /-- profile base readings A+, A-, R+, R- (R138). -/
  profBase : Vector Nat 4 := Vector.replicate 4 0
  /-- quality word of the interval in progress (R137, R138). -/
  profQual : Nat := 0
  /-- quality word of the day in progress (R137). -/
  dayQual : Nat := 0
  /-- an increment of the billing period carried a flag (R124). -/
  perFlag : Bool := false
  /-- a time step fell in the billing period (R124). -/
  perStep : Bool := false
  /-- time was invalid in the billing period (R124). -/
  perInv : Bool := false
  deriving DecidableEq, Repr

/-- session accumulators of one point, class P100 (R101, R130; spec/05_billing_tariffs.md, spec/06_ledger_persistence.md). -/
structure SessP where
  /-- a session is open (R101). -/
  on : Bool := false
  /-- SESSION_NO u32 (R16). -/
  no : Nat := 0
  /-- T_OPEN (R17). -/
  tOpen : Nat := 0
  /-- total registers at open (R101). -/
  start : Vector Nat 12 := Vector.replicate 12 0
  /-- session accumulators uWh (R101). -/
  acc : Vector Nat 12 := Vector.replicate 12 0
  /-- A+ per tariff uWh (R130). -/
  apT : Vector Nat 8 := Vector.replicate 8 0
  /-- A- per tariff uWh (R130). -/
  amT : Vector Nat 8 := Vector.replicate 8 0
  /-- prepayment charge of the session (R134). -/
  charge : Nat := 0
  /-- quality word of the session (R137). -/
  qual : Nat := 0
  /-- its record waits in the pending-record queue (R17, R140). -/
  queued : Bool := false
  /-- close requested at a boundary and not yet complete: reason, SFLAGS to add, T_CLOSE (R19). -/
  closing : Option (EndReason × Nat × Nat) := none
  /-- SFLAGS gathered (R134). -/
  sflags : Nat := 0
  /-- SERVICE code, 0xFF before selection (R177, R193). -/
  service : Nat := 0xFF
  /-- AUTH_TYPE bound, 0 none (R134). -/
  authType : Nat := 0
  /-- AUTH_ID bytes used (R134). -/
  authId : List Byte := []
  deriving DecidableEq, Repr

/-- entry of the pending-record queue (R140; spec/06_ledger_persistence.md). -/
structure PendRec where
  /-- TYPE (R133). -/
  type : Nat := 0
  /-- TIME (R141). -/
  time : Nat := 0
  /-- body bytes (64-287 of a session record, 16-575 less hashes of a daily one) (R140). -/
  body : List Byte := []
  /-- POINT, for ordering (R141). -/
  point : Nat := 0
  /-- belongs to a restoration (R141, R143). -/
  rest : Bool := false
  deriving DecidableEq, Repr

/-- a daily snapshot being gathered (R111, R139; spec/06_ledger_persistence.md). -/
structure DailyP where
  /-- TIME (R139). -/
  time : Nat := 0
  /-- LABEL (R139). -/
  label : Nat := 0
  /-- RFLAGS (R139). -/
  rflags : Nat := 0
  /-- registers A+ to RQ4 and quality word of each meter taken so far (R139). -/
  regs : Vector (Option (List Nat × Nat)) 9 := Vector.replicate 9 none
  deriving DecidableEq, Repr

/-- class P100, live values (R128; spec/06_ledger_persistence.md). -/
structure P100 where
  /-- per meter (R128). -/
  m : Vector MeterP 9 := Vector.replicate 9 {}
  /-- per point (R128). -/
  sess : Vector SessP 8 := Vector.replicate 8 {}
  /-- LAST_FIRED[DEMAND, PERIOD, DAILY], 0 none (R112). -/
  lastFired : Vector Nat 3 := Vector.replicate 3 0
  /-- last T_END written (R138). -/
  profLast : Nat := 0
  /-- device time a forward step reached since the last window close (R138). -/
  profStepTo : Nat := 0
  /-- device time up to which an outage reached (R138). -/
  profOutTo : Nat := 0
  /-- a time step fell in the day in progress (R139). -/
  dayStep : Bool := false
  /-- daily snapshot being gathered (R111). -/
  day : Option DailyP := none
  /-- pending-record queue, at most 64 (R140). -/
  queue : List PendRec := []
  /-- OVERWRITE policy (R146). -/
  overwrite : Bool := false
  /-- T_OPEN of the billing period (R112). -/
  perOpen : Nat := 0
  /-- device time of the values (time of the last write once persisted) (R135). -/
  time : Nat := 0
  deriving DecidableEq, Repr

/-- class PFW, live values (R128; spec/06_ledger_persistence.md). -/
structure Pfw where
  /-- RES[q] of every meter (R77). -/
  res : Vector (Vector Nat 12) 9 := Vector.replicate 9 (Vector.replicate 12 0)
  /-- CRES of every meter (R118). -/
  cres : Vector Nat 9 := Vector.replicate 9 0
  /-- number of the first event-log entry after those the last write covered: the tail begins there (R128, R147). -/
  logNext : Nat := 0
  deriving DecidableEq, Repr

/-- persistent billing state (R112, R128; spec/06_ledger_persistence.md). -/
structure NvBill where
  /-- first P100 copy with write count (R128). -/
  copyA : Option (Nat × P100) := none
  /-- second P100 copy (R128). -/
  copyB : Option (Nat × P100) := none
  /-- RES and CRES as last saved (R80, R128). -/
  pfw : Pfw := {}
  /-- a warning saved state: TIME and source of the power-fail record (R129, R135). -/
  warned : Option (Nat × Nat) := none
  /-- the last write was made by steps 1 to 3 of R129 without a record (R428, R448). -/
  planned : Bool := false
  /-- snapshots, newest first, at most 24 (R111). -/
  snaps : Vector (List Snap) 9 := Vector.replicate 9 []
  deriving DecidableEq, Repr

/-- billing, not persistent part (spec/05_billing_tariffs.md). -/
structure Bill where
  /-- tariff in force, 0 T1 ... 7 T8 (R107). -/
  tariff : Nat := 0
  /-- FRIENDLY bit of the action in force (R119). -/
  friendly : Bool := false
  /-- last closed demand values (R124). -/
  last : Vector (Vector DemVal 4) 9 := Vector.replicate 9 (Vector.replicate 4 {})
  /-- end of the last closed sub-interval (R124). -/
  tLast : Nat := 0
  /-- BIL_COMMIT waiting for the 2 ms boundary (R122). -/
  commit : Option Flight := none
  /-- BIL_PERIOD_END waiting (R125). -/
  perEnd : Option Flight := none
  /-- supply contactor commanded closed (R119). -/
  supOn : Bool := false
  /-- elapsed time of the last supply-contactor command not yet checked (R119). -/
  supAt : Option Nat := none
  /-- restoration not yet completed (R117, R143). -/
  restPend : Bool := false
  /-- T_FAIL of the restoration (R135). -/
  restT : Nat := 0
  /-- WARNED (R135). -/
  restWarned : Bool := false
  deriving DecidableEq, Repr

/-- suppression of legal-event records (R136; spec/06_ledger_persistence.md). -/
structure Legal where
  /-- elapsed time of the last record of this EVENT (R136). -/
  last : Option Nat := none
  /-- SUPPRESSED (R136). -/
  supp : Nat := 0
  deriving DecidableEq, Repr

/-- ledger partition and its pointers, persistent (spec/06_ledger_persistence.md). -/
structure Ledger where
  /-- session-chain slots held: SEQ, 384-byte record, newest first (R131, R132). -/
  chain : List (Nat × List Byte) := []
  /-- SESS_NEXT (R145). -/
  nxt : Nat := 0
  /-- a record written whole in the slot at a write pointer that has not advanced: in the daily chain or not, and its bytes (R140). -/
  slot : Option (Bool × List Byte) := none
  /-- SESS_ACKED (R145). -/
  acked : Nat := 0
  /-- daily chain, newest first (R131). -/
  daily : List (Nat × List Byte) := []
  /-- DAILY_NEXT (R145). -/
  dailyNext : Nat := 0
  /-- TIME of the previous daily record (R139). -/
  dailyTime : Nat := 0
  /-- interval profile: T_END, 192-byte entry, newest first (R131, R138). -/
  profile : List (Nat × List Byte) := []
  /-- DROPPED u32 saturating (R145). -/
  dropped : Nat := 0
  /-- OVERWRITTEN u32 saturating (R145). -/
  overwritten : Nat := 0
  /-- free slots are below 9,284 (E41) (R145). -/
  low : Bool := false
  /-- new sessions are refused (E42 raised) (R142, R145). -/
  refusing : Bool := false
  /-- E16, E17, E18, E23, E36, activation of a metrology part (R136). -/
  legal : Vector Legal 6 := Vector.replicate 6 {}
  /-- event log, newest first, at most 196,608 (R147). -/
  log : List LogEnt := []
  /-- LOG_NEXT (R145). -/
  logNext : Nat := 0
  /-- event sinks (R380). -/
  sinks : Vector Sink 5 := Vector.replicate 5 {}
  /-- FENCE_NO (R385). -/
  fenceNo : Nat := 0
  /-- session counter (R16). -/
  sesNo : Nat := 0
  /-- port start counter u32 (R379). -/
  bootCnt : Nat := 0
  deriving DecidableEq, Repr

/-- persistent state of one point (spec/10_safety_functions.md, spec/21_live_test_degraded.md). -/
structure NvPoint where
  /-- OOS cause mask (R468). -/
  oos : BitVec 16 := 0
  /-- T_OOS, s since 2000 (R475). -/
  tOos : Nat := 0
  /-- TRIP causes of the last trip (R248). -/
  trip : BitVec 32 := 0
  /-- T_TRIP (R248). -/
  tTrip : Nat := 0
  /-- a trip awaits reset (R239). -/
  tripped : Bool := false
  /-- causes recorded in the trip that awaits reset (R238). -/
  await : BitVec 32 := 0
  /-- latched after a fourth automatic reset (R239). -/
  latch4 : Bool := false
  /-- device times of the automatic resets of the last 24 h (R239). -/
  autoAt : List Nat := []
  /-- CONFIRMED_n, first copy (R244). -/
  confirmed : Nat := 0
  /-- CONFIRMED_n, second copy (R244). -/
  confirmed2 : Nat := 0
  /-- modem fault (R173). -/
  modemFault : Bool := false
  /-- PATH_FAIL (R236). -/
  pathFail : Bool := false
  /-- CUT_FAULT (R235). -/
  cutFault : Bool := false
  /-- WELDED (R242). -/
  welded : Bool := false
  /-- SENSOR_FAULT (held with OOS EARTH) (R205, R468). -/
  sensorFault : Bool := false
  /-- MISMATCH (R211, R468). -/
  mismatch : Bool := false
  /-- LOCK_FAULT (R263, R468). -/
  lockFault : Bool := false
  /-- GEN_FAULT (R155, R468). -/
  genFault : Bool := false
  /-- T_TEST, device time of the last passed test (R225). -/
  tTest : Nat := 0
  /-- sessions closed since the last due test (R214). -/
  sessCnt : Nat := 0
  deriving DecidableEq, Repr

/-- persistent state of the device for safety (R231; spec/10_safety_functions.md). -/
structure NvSafe where
  /-- safety-pair fault held: kind and item of R230 (R231). -/
  fault : Option (Nat × Nat) := none
  /-- reported by E79 at the first start after it (R250). -/
  told : Bool := false
  deriving DecidableEq, Repr

/-- what one safety core follows of a point's plateaus (R151, R153, R154; spec/07_pilot_and_proximity.md). -/
structure PilotEval where
  /-- state the latest plateaus lie in (R153). -/
  cand : Option PilotSt := none
  /-- consecutive values in that band (10 in X2, 100 of 100 us in X1) (R153). -/
  count : Nat := 0
  /-- length of the gap in progress, us (R153). -/
  gapUs : Nat := 0
  /-- consecutive X2 periods with the low plateau out of range (R154). -/
  diodeBad : Nat := 0
  /-- consecutive X2 periods that passed the diode check since X2 was entered (R154). -/
  diodeOk : Nat := 0
  deriving DecidableEq, Repr

/-- pilot and proximity channel of one point (spec/07_pilot_and_proximity.md). -/
structure Pilot where
  /-- what S0 and S1 follow of the plateaus (R151, R153, R154, R157). -/
  ev : Vector PilotEval 2 := Vector.replicate 2 {}
  /-- output in force (R149, R150). -/
  out : OutMode := .F
  /-- the generator's internal nodes as last measured, mV (R155). -/
  gen : Int × Int := (12000, -12000)
  /-- accepted state of the point, which S0 has accepted; none = unknown (7) (R153). -/
  st : Option PilotSt := none
  /-- state S1 has accepted (R157). -/
  st1 : Option PilotSt := none
  /-- elapsed time since which A or B is the accepted state (R242). -/
  abAt : Option Nat := none
  /-- state accepted before it (R17). -/
  prevSt : Option PilotSt := none
  /-- S0 accepted state C while the output is X2 (R18, R154). -/
  cX2 : Bool := false
  /-- S1 accepted state C while the output is X2 (R18, R154, R157). -/
  cX21 : Bool := false
  /-- DIODE_FAULT (R169). -/
  diodeFault : Bool := false
  /-- STATE_ERROR (R169). -/
  stErr : Bool := false
  /-- OVERCURRENT (R162). -/
  overcur : Bool := false
  /-- SAFETY_OVERRIDE (R169). -/
  override : Bool := true
  /-- elapsed end of the 3 s X1 hold (R156). -/
  holdUntil : Nat := 0
  /-- the hold, or the wait for A or B after it, is in force (R156). -/
  holdOn : Bool := false
  /-- V_HIGH s16 mV (R169). -/
  vHigh : Int := 0
  /-- V_LOW s16 mV (R169). -/
  vLow : Int := 0
  /-- PP_CODE (R165, R169). -/
  ppCode : Nat := 0
  /-- PP_OHM (R169). -/
  ppOhm : Nat := 0
  /-- I_CABLE in force, mA (R158, R165). -/
  iCable : Nat := 0
  /-- T_CHANGE (R169). -/
  tChange : Nat := 0
  /-- elapsed time of the last duty change (R160). -/
  lastDuty : Nat := 0
  /-- I_SIG applied, mA (R158). -/
  iSig : Nat := 0
  /-- pending increase of I_SIG, mA (R160). -/
  iPend : Option Nat := none
  /-- elapsed time of the last reduction of I_SIG (R162). -/
  lastDec : Nat := 0
  /-- elapsed time of an X2-to-X1 change with the vehicle in C (R161). -/
  x1cSince : Option Nat := none
  /-- elapsed time since which an overcurrent lasts (R162, R185). -/
  ocSince : Option Nat := none
  /-- in F with PP_MODE 1: true A, false not A (R153). -/
  fA : Option Bool := none
  /-- elapsed time since which state A (or output F) lasts (R214). -/
  aSince : Option Nat := some 0
  deriving DecidableEq, Repr

/-- a request awaiting the host's decision (R291, R292; spec/12_authorisation_reader.md). -/
structure Req where
  /-- AUTH_TYPE (R292). -/
  type : Nat := 0
  /-- AUTH_ID (R292). -/
  id : List Byte := []
  /-- elapsed time from which HOST_T counts (R291, R292). -/
  t0 : Nat := 0
  /-- HOST_T in force when it was raised, s (R296). -/
  hostT : Nat := 0
  /-- raised by a card (R292). -/
  card : Bool := false
  /-- antenna (R287). -/
  ant : Nat := 0
  /-- OFFLINE_ACCEPT in force when it was raised (R296). -/
  offline : Bool := false
  deriving DecidableEq, Repr

/-- session of one point, not persistent part (spec/01_device_and_session.md, spec/08_high_level_communication.md, spec/12_authorisation_reader.md). -/
structure Sess where
  /-- an authorisation is bound (R18, R192). -/
  bound : Bool := false
  /-- its AUTH_TYPE (R193). -/
  type : Nat := 0
  /-- its AUTH_ID (R192). -/
  id : List Byte := []
  /-- elapsed time of the binding (R294). -/
  boundAt : Nat := 0
  /-- export permission of the binding (ALLOW_BPT) (R186, R291). -/
  bpt : Bool := false
  /-- LIMIT_I mA, 0 MAX_I (R192). -/
  limI : Nat := 0
  /-- LIMIT_P W (R192). -/
  limP : Nat := 0
  /-- LIMIT_DIS_P W (R192). -/
  limD : Nat := 0
  /-- the session ends with this reason once opening is confirmed (R19). -/
  ending : Option EndReason := none
  /-- the point left A but the session could not open yet (R17). -/
  wantOpen : Bool := false
  /-- SES_STOP MODE 0 signalled to the vehicle at this elapsed time (R189). -/
  hostStop : Option Nat := none
  /-- request pending (R291). -/
  req : Option Req := none
  /-- identifiers waiting for the flow: type, id, card, antenna (R291). -/
  waiting : List (Nat × List Byte × Bool × Nat) := []
  /-- a warm or block reset affected this session (R21). -/
  x1Arm : Bool := false
  /-- elapsed time at which that reset began (R450). -/
  x1At : Nat := 0
  /-- the contactor has closed in this session (R175, R190). -/
  hasClosed : Bool := false
  deriving DecidableEq, Repr

/-- high-level communication of one point (spec/08_high_level_communication.md). -/
structure Hlc where
  /-- PHASE (R193). -/
  phase : HlcPhase := .idle
  /-- a high-level session runs (R163). -/
  active : Bool := false
  /-- the high-level session of this plug-in has failed (R163). -/
  failed : Bool := false
  /-- FALLBACK_ACTIVE (R193). -/
  fallback : Bool := false
  /-- elapsed start of the 3 s of X1 before basic mode (R163). -/
  fallAt : Option Nat := none
  /-- SLAC wait: 0 none, 1 PARM.REQ, 2 sounds, 3 ATTEN_CHAR.RSP, 4 MATCH.REQ, 5 matched (R174). -/
  slac : Nat := 0
  /-- elapsed start of that wait (R174). -/
  slacAt : Nat := 0
  /-- SLAC failures so far (R175). -/
  retries : Nat := 0
  /-- elapsed start of the 4 s of X1 (R175). -/
  slacX1 : Option Nat := none
  /-- soundings received (R174). -/
  sounds : Nat := 0
  /-- ATTEN dB (R193). -/
  atten : Nat := 0
  /-- sum of measured attenuations (R174). -/
  attSum : Nat := 0
  /-- network membership keys generated so far (R174). -/
  nmk : Nat := 0
  /-- TCP connection accepted (R176). -/
  tcp : Bool := false
  /-- TLS (R193). -/
  tls : Bool := false
  /-- the version is TLS 1.3 (R178). -/
  tls13 : Bool := false
  /-- PNC (R193). -/
  pnc : Bool := false
  /-- cipher suite of the connection (R178). -/
  suite : Option TlsSuite := none
  /-- ephemeral ECDHE keys that K has generated, used once and erased (R178, R412). -/
  ecdhe : Nat := 0
  /-- protocol chosen: 1 DIN 70121, 2 ISO 15118-2, 3 ISO 15118-20 (R177). -/
  proto : Nat := 0
  /-- version of that protocol (R177). -/
  version : Nat := 0
  /-- elapsed start of setup (R187). -/
  setupAt : Nat := 0
  /-- elapsed time of the vehicle's last request (R188). -/
  lastReq : Nat := 0
  /-- elapsed time of the first Authorization request (R182). -/
  authAt : Option Nat := none
  /-- last answer to Authorization: 0 none 1 Ongoing 2 Finished 3 FAILED 4 the certificate-failure code (R180, R182). -/
  authAns : Nat := 0
  /-- EVCCID 48 bits (R193). -/
  evccid : Nat := 0
  /-- SOC (R193). -/
  soc : Nat := 0xFF
  /-- CTRL_MODE (R193). -/
  ctrl : Nat := 0
  /-- EV_TARGET_U mV (R193). -/
  evU : Nat := 0
  /-- EV_TARGET_I mA (R193). -/
  evI : Int := 0
  /-- OFFER_I mA (R193). -/
  offI : Nat := 0
  /-- OFFER_P W, 0 no power limit on AC (R193). -/
  offP : Nat := 0
  /-- discharge limit offered, W (R183, R186). -/
  offD : Nat := 0
  /-- DC voltage limit offered, mV (R183). -/
  offU : Nat := 0
  /-- elapsed time of the last change offered (R184). -/
  offAt : Nat := 0
  /-- elapsed time of the last reduction offered (R185). -/
  offDec : Nat := 0
  /-- SLAC_FAIL (R193). -/
  slacFail : Bool := false
  /-- PS_FAULT (R190). -/
  psFault : Bool := false
  /-- elapsed time since which frames are good with FAULT 0 (R190). -/
  psGood : Option Nat := none
  /-- elapsed time of the power-stage fault (R190). -/
  psAt : Nat := 0
  /-- FAULT as last read from the power stage (R190). -/
  psBit : Bool := false
  /-- CAN_TIMEOUT (R199). -/
  canTo : Bool := false
  /-- RENEGOTIATING (R193). -/
  reneg : Bool := false
  /-- certificate request held and elapsed time of E55+n (R181). -/
  cert : Option (List Byte × Nat) := none
  /-- response chunks written (R194). -/
  certResp : List (Nat × List Byte) := []
  /-- TOTAL of the response (R194). -/
  certTot : Nat := 0
  /-- response last sent to the vehicle (R194). -/
  certAns : List Byte := []
  /-- energy of the MeterInfo last sent, A+ session accumulator in Wh (R101, R196). -/
  meterInfo : Nat := 0
  /-- its meter identifier, empty before the first (R196). -/
  meterId : List Byte := []
  /-- isolation status of the DC response last sent, as ISO_STATUS (R217). -/
  isoSent : Nat := 0
  /-- DC session step 1-7, 0 none (R187). -/
  dcStep : Nat := 0
  /-- elapsed start of that step (R187). -/
  dcAt : Nat := 0
  /-- the precharge has reached its voltage (R187). -/
  stepDone : Bool := false
  /-- EV maximum voltage, mV (R187). -/
  evMaxU : Nat := 0
  /-- MODE sent to the power stage (R197, R199). -/
  mode : Nat := 0
  /-- ENABLE (R199). -/
  enable : Bool := false
  /-- TARGET_U mV (R197). -/
  tgtU : Int := 0
  /-- TARGET_I mA (R199). -/
  tgtI : Int := 0
  /-- READY received (R197). -/
  ready : Bool := false
  /-- MEAS_U mV (R197). -/
  measU : Int := 0
  /-- MEAS_I mA (R197). -/
  measI : Int := 0
  /-- a current can be read (R190). -/
  measOk : Bool := false
  /-- AVAIL_U_MAX (R197). -/
  avU : Int := 0
  /-- AVAIL_I_MAX (R197). -/
  avI : Int := 0
  /-- AVAIL_P_MAX (R197). -/
  avP : Int := 0
  /-- elapsed time since which MEAS_U is within 2 % of the cable-check voltage (R218). -/
  uStable : Option Nat := none
  /-- cable-check result: 0 none, else ISO_STATUS (R218). -/
  cable : Nat := 0
  /-- elapsed time of the last loopback (R173). -/
  loopAt : Nat := 0
  /-- MeteringReceipt requests answered (R176). -/
  receipt : Nat := 0
  deriving DecidableEq, Repr

/-- state of one CAN frame entry (R197-R199; spec/08_high_level_communication.md). -/
structure CanFrm where
  /-- ALIVE of the last transmission or reception (R197). -/
  alive : Nat := 0
  /-- a frame has been received (R198). -/
  seen : Bool := false
  /-- elapsed time of the last transmission or accepted reception (R199). -/
  lastAt : Nat := 0
  /-- data of the last frame (R198). -/
  data : List Byte := []
  /-- the frame is missing for TIMEOUT (R199). -/
  tout : Bool := false
  /-- signals of it clamped at the last transmission: VAR (R198). -/
  clamped : List Nat := []
  deriving DecidableEq, Repr

/-- the residual detectors of a point as one safety core evaluates them (R204, R206; spec/09_earth_fault_insulation.md). -/
structure ResDet where
  /-- values of r, uA, newest first, of the longest window (R203, R206). -/
  r : List Int := []
  /-- DC_OP (R206). -/
  dcOp : Bool := false
  /-- AC_OP (R206). -/
  acOp : Bool := false
  /-- WB_OP (R206). -/
  wbOp : Bool := false
  /-- I_DC uA (R225). -/
  iDc : Int := 0
  /-- I_AC uA (R225). -/
  iAc : Nat := 0
  /-- I_WB uA (R225). -/
  iWb : Nat := 0
  /-- elapsed time at which the DC, AC and wideband detectors first operated in the test step in progress (R213). -/
  opAt : Vector (Option Nat) 3 := Vector.replicate 3 none
  deriving DecidableEq, Repr

/-- residual and insulation supervision of one point (spec/09_earth_fault_insulation.md). -/
structure Earth where
  /-- the detectors of S0 and S1 (R204, R206). -/
  res : Vector ResDet 2 := Vector.replicate 2 {}
  /-- OFFSET uA (R208). -/
  offset : Int := 0
  /-- OFFSET_VALID, measured since the last cold or pin reset (R209). -/
  offOk : Bool := false
  /-- invalid measurements so far (R208). -/
  offTry : Nat := 0
  /-- an offset measurement is in progress or due (R208, R209). -/
  offRun : Bool := false
  /-- the 20 ms means of the measurement in progress, uA, newest first (R208). -/
  offMeans : List Int := []
  /-- periods in the running 20 ms mean, and their sum, uA (R208). -/
  offAcc : Nat × Int := (0, 0)
  /-- COMP_OP (R211). -/
  compOp : Bool := false
  /-- I_CALC uA (R225). -/
  iCalc : Nat := 0
  /-- consecutive mismatching periods (R211). -/
  misRun : Nat := 0
  /-- computed residual of the last tracked period and at least 10 ms, uA, newest first (R211). -/
  comp : List Int := []
  /-- computed residual available (R210). -/
  compAvail : Bool := false
  /-- a residual trigger has not cleared (R221). -/
  pend : Bool := false
  /-- elapsed time since which every detector is below its never level with the contactor open (R221). -/
  lowSince : Option Nat := none
  /-- the offset measurement that clears the trigger is due (R221). -/
  clrOff : Bool := false
  /-- consecutive periods without saturation (R205). -/
  openRun : Nat := 0
  /-- consecutive periods with V_SNS within 2 mV (R205). -/
  flatRun : Nat := 0
  /-- elapsed time since which |r| exceeds 300 mA with the contactor open (R205). -/
  bigSince : Option Nat := none
  /-- test-winding step 1-5, 0 none (R213). -/
  tst : Nat := 0
  /-- elapsed start of that step (R213). -/
  tstAt : Nat := 0
  /-- current sourced on RDCn_TST, nA (rms for AC), and its frequency, mHz, 0 for DC (R213). -/
  tstOut : Option (Nat × Nat) := none
  /-- TEST_FAILED (R225). -/
  tstFailed : Bool := false
  /-- a test is due (R214). -/
  tstDue : Bool := false
  /-- EF_TEST waiting (R226). -/
  tstCmd : Option Flight := none
  /-- M_DC uA (R226). -/
  mDc : Int := 0
  /-- M_AC uA (R226). -/
  mAc : Nat := 0
  /-- elapsed time of the last daily test (R214). -/
  dailyAt : Nat := 0
  /-- ISO_STATUS (R217, R225). -/
  iso : Nat := 0
  /-- pole voltages Vp0, Vn0 of step 0, mV (R216). -/
  isoV0 : Option (Nat × Nat) := none
  /-- ISOn_DRV switches R_UNB on (R215, R216). -/
  isoDrv : Bool := false
  /-- elapsed start of the insulation cycle in progress (R218). -/
  isoAt : Nat := 0
  /-- R_ISO kOhm (R225). -/
  rIso : Nat := 0
  /-- R_ISO_P (R225). -/
  rIsoP : Nat := 0
  /-- R_ISO_N (R225). -/
  rIsoN : Nat := 0
  /-- U_BUS mV (R225). -/
  uBus : Nat := 0
  deriving DecidableEq, Repr

/-- PE and N-PE supervision (R219-R221; spec/09_earth_fault_insulation.md). -/
structure EarthDev where
  /-- PE_LOSS (R219). -/
  peLoss : Bool := false
  /-- positive half-cycles or 20 ms spans without a PE_CHK pulse (R219). -/
  peMiss : Nat := 0
  /-- a pulse was recognised in the running half-cycle (R219). -/
  peSeen : Bool := false
  /-- elapsed start of the running 20 ms span (R219). -/
  peSpanAt : Nat := 0
  /-- NPE_HIGH (R220). -/
  npeHigh : Bool := false
  /-- consecutive periods toward a change (R220). -/
  npeRun : Nat := 0
  /-- U_NPE mV (R225). -/
  uNpe : Nat := 0
  /-- sum of squares of the N-PE voltage in the running period, mV^2 (R220). -/
  npeSq : Nat := 0
  /-- values in it (R220). -/
  npeN : Nat := 0
  deriving DecidableEq, Repr

/-- safety state of one point, not persistent part (spec/10_safety_functions.md). -/
structure Safe where
  /-- CHECK_n (R243). -/
  check : Nat := 0
  /-- S0's coil enable (R233). -/
  coil : Bool := false
  /-- SAFE_CUTn driven high (R233). -/
  cut : Bool := false
  /-- elapsed time of the last refresh of the coil enable (R233). -/
  coilRef : Nat := 0
  /-- elapsed time of the last refresh of SAFE_CUTn (R233). -/
  cutRef : Nat := 0
  /-- elapsed time at which S1 drives SAFE_CUTn low (R234). -/
  cutDropAt : Option Nat := none
  /-- consecutive cycles of a differing readback (R235). -/
  cutBad : Nat := 0
  /-- SAFE_CUTn readback (R235). -/
  cutRead : Bool := false
  /-- path-test step in progress 1-3, 0 none (R236). -/
  path : Nat := 0
  /-- elapsed start of that step (R236). -/
  pathAt : Nat := 0
  /-- coil current reached 20 mA in the step (R236). -/
  pathBad : Bool := false
  /-- the path test runs for SAF_RESET and closes nothing (R248, R249). -/
  pathOnly : Bool := false
  /-- the contactor is closed (closing confirmed, not yet confirmed open) (R241, R242). -/
  closed : Bool := false
  /-- the contactor is confirmed open (R242). -/
  openConf : Bool := true
  /-- elapsed time since which it is confirmed open (R208, R242). -/
  openAt : Nat := 0
  /-- elapsed time of the coil off whose welding check is due (R242). -/
  coilOffAt : Option Nat := none
  /-- the last check of R242 passed (R242). -/
  weldOk : Bool := true
  /-- VOLT_UNCHECKED (R242). -/
  voltUnch : Bool := false
  /-- a DC point's voltage indicator is still to be evaluated (R242). -/
  dcVolt : Bool := false
  /-- elapsed time since which an indicator shows closed or present with the contactor commanded open (R242). -/
  indSince : Option Nat := none
  /-- elapsed time since which both indicators show open and absent (R242). -/
  clearSince : Option Nat := none
  /-- load-side voltage present (R248). -/
  lsv : Bool := false
  /-- load-side voltage exceeded LSV_ABS since step 3 began (R241). -/
  lsvSeen : Bool := false
  /-- closing requested (R156, R187). -/
  reqClose : Bool := false
  /-- HOLD (R248). -/
  hold : BitVec 16 := 0
  /-- elapsed time since which the DC, AC, WB, PE, ISO and sensor triggers hold, for S0 and S1 (R230, R237). -/
  since : Vector (Vector (Option Nat) 6) 2 := Vector.replicate 2 (Vector.replicate 6 none)
  /-- causes a trip has been decided for while their condition holds (R237, R238). -/
  acted : BitVec 32 := 0
  /-- elapsed time of the last trip (R238). -/
  tripAt : Option Nat := none
  /-- the decision vectors S0 and S1 exchanged last: permit, trip causes (R230). -/
  vec : Vector (Bool × BitVec 32) 2 := Vector.replicate 2 (false, 0)
  /-- consecutive cycles in which the DC or AC residual values differ (R230). -/
  resDiff : Nat := 0
  /-- consecutive cycles in which the wideband residual values differ (R230). -/
  wbDiff : Nat := 0
  /-- elapsed time since which the accepted pilot states differ (R230). -/
  pilDiff : Option Nat := none
  /-- elapsed time since which only the decision vectors differ (R230). -/
  vecDiff : Option Nat := none
  /-- demands already reported by E76 for this closing request (R250). -/
  sent76 : BitVec 8 := 0
  deriving DecidableEq, Repr

/-- safety pair (spec/10_safety_functions.md). -/
structure SafeDev where
  /-- cycle words have been issued since the start (R15, R231). -/
  running : Bool := false
  /-- the device safe state is in force (R231). -/
  safeState : Bool := false
  /-- elapsed time at which it was entered (R231). -/
  safeAt : Nat := 0
  /-- SAFE_RST is stuck (R240). -/
  srStuck : Bool := false
  /-- points that command has reset so far (R248). -/
  resetMask : Nat := 0
  /-- SAF_RESET waiting for a path test (R248). -/
  resetCmd : Option Flight := none
  /-- cycle number (R230). -/
  cycle : Nat := 0
  deriving DecidableEq, Repr

/-- counter and latches of a channel, mirrored persistently (R257; spec/11_switch_channels.md). -/
structure NvChan where
  /-- retry counter, 4 bits (R257). -/
  retry : Nat := 0
  /-- LATCH_SC (R257). -/
  sc : Bool := false
  /-- LATCH_THERM (R257). -/
  therm : Bool := false
  /-- LATCH_COIL (R258). -/
  coil : Bool := false
  deriving DecidableEq, Repr

/-- switch channel HS or LP, index 0-23 (spec/11_switch_channels.md). -/
structure Chan where
  /-- protection state (R255). -/
  st : ChState := .off
  /-- COMMANDED_ON (R274). -/
  cmd : Bool := false
  /-- DUTY 0.1 % (R273, R274). -/
  duty : Nat := 0
  /-- detector of the last switch-off: 0 none 1 SC 2 OC 3 thermal 4 UV (R274). -/
  det : Nat := 0
  /-- elapsed time of the last switch-on (R254). -/
  onAt : Nat := 0
  /-- elapsed time of the last switch-off or evaluation (R256). -/
  offAt : Nat := 0
  /-- elapsed start of the 10 s of uninterrupted ON (R257). -/
  goodAt : Nat := 0
  /-- TEMP 0.01 C (R274). -/
  temp : Int := 0
  /-- I mA (R274). -/
  cur : Int := 0
  /-- OL_OFF (R260). -/
  olOff : Bool := false
  /-- OL_ON (R260). -/
  olOn : Bool := false
  /-- economiser duty 0.1 % (R261). -/
  hold : Nat := 1000
  /-- HOLD_V could not be reached (E88) (R278). -/
  e88 : Bool := false
  deriving DecidableEq, Repr

/-- socket lock of one point (R263; spec/11_switch_channels.md). -/
structure Lock where
  /-- LKSn debounced shows the locked position (R263). -/
  lks : Bool := false
  /-- operation in progress: 0 none 1 lock 2 unlock (R263). -/
  op : Nat := 0
  /-- bridge: 0 off or brake, 1 lock direction, 2 unlock direction (R263). -/
  drive : Nat := 0
  /-- both halves low (R263). -/
  brake : Bool := false
  /-- elapsed start of the drive or of the confirmation (R263). -/
  t0 : Nat := 0
  /-- attempts made (R263). -/
  tries : Nat := 0
  /-- the drive in the opposite direction runs (R263). -/
  back : Bool := false
  /-- SW_LOCK waiting (R277). -/
  cmd : Option Flight := none
  /-- an unlock waits for its conditions (R264). -/
  wantUnlock : Bool := false
  /-- the lock must be confirmed before the pilot leaves X1 (R264). -/
  needLock : Bool := false
  /-- OL_OFF of the bridge (R260). -/
  olOff : Bool := false
  /-- bridge switched off: 0 no, 1 short circuit, 3 thermal (R254). -/
  tripped : Nat := 0
  /-- TEMP 0.01 C (R274). -/
  temp : Int := 0
  /-- I mA (R274). -/
  cur : Int := 0
  /-- operation cut by a reset, to repeat (R268). -/
  repeatOp : Nat := 0
  deriving DecidableEq, Repr

/-- high-voltage die, common part (spec/11_switch_channels.md). -/
structure Switch where
  /-- HS1-HS16, LP1-LP8 (R251). -/
  ch : Vector Chan 24 := Vector.replicate 24 {}
  /-- LK1-LK8 (R251). -/
  lk : Vector Lock 8 := Vector.replicate 8 {}
  /-- SENSE_SEL 5 bits (R265). -/
  sense : Nat := 0
  /-- level of FB1-FB16 as S0 has debounced it, true high (R262). -/
  fb : Vector Bool 16 := Vector.replicate 16 true
  /-- the same as S1 has debounced it (R262). -/
  fb1 : Vector Bool 16 := Vector.replicate 16 true
  /-- under-voltage response in force (R254). -/
  uv : Bool := false
  /-- limp-home in force (R266). -/
  limp : Bool := false
  /-- LH_EN debounced (R266). -/
  lhEn : Bool := true
  /-- LH_IN1-4 debounced (R266). -/
  lhIn : Vector Bool 4 := Vector.replicate 4 true
  /-- channels whose state limp-home set and SW_SET has not named (R267). -/
  lhMapped : BitVec 24 := 0
  /-- the option record has been read since the cold reset (R266). -/
  lhOk : Bool := false
  /-- limp-home map in force, absent and coil channels removed (R267). -/
  lhMap : List Nat := [0, 0, 0, 0]
  /-- the application cluster has not refreshed the channels for 100 ms (R266). -/
  stale : Bool := false
  deriving DecidableEq, Repr

/-- last presentation at an antenna (R288; spec/12_authorisation_reader.md). -/
structure Pres where
  /-- identifiers read in the presentation (R288). -/
  ids : List (Nat × List Byte) := []
  /-- elapsed time of the last detection (R288). -/
  detAt : Nat := 0
  /-- a presentation is in progress (R288). -/
  on : Bool := false
  deriving DecidableEq, Repr

/-- antenna, not persistent part (spec/12_authorisation_reader.md). -/
structure Ant where
  /-- A_base, millionths of nominal (R282). -/
  base : Option Nat := none
  /-- first pings towards the baseline (R282). -/
  fst0 : List Nat := []
  /-- LAST_AMP, millionths of nominal (R298). -/
  last : Nat := 0
  /-- consecutive detections whose poll found no target (R282). -/
  noTgt : Nat := 0
  /-- elapsed start of the poll in progress (R283). -/
  poll : Option Nat := none
  /-- identifiers read by it: type, id, RANDOM (R284). -/
  pollIds : List (Nat × List Byte × Bool) := []
  /-- targets found by it (R283). -/
  pollTg : Nat := 0
  /-- its steps have run and its end is due (R283). -/
  pollDone : Bool := false
  /-- SELECT frames that the walks of the last poll sent to the targets read (R285). -/
  sel : List (List Byte) := []
  /-- rate of the last application read as MAX_RATE codes it (R280). -/
  rate : Nat := 0
  /-- EXT_FIELD (R298). -/
  ext : Bool := false
  /-- BASE_REUSED (R298). -/
  reused : Bool := false
  /-- LAST_TYPE (R298). -/
  lastType : Nat := 0
  /-- LAST_ID (R298). -/
  lastId : List Byte := []
  /-- T_LAST (R298). -/
  tLast : Nat := 0
  /-- presentation (R288). -/
  pres : Pres := {}
  /-- elapsed time of the last ping (R281). -/
  lastPing : Nat := 0
  /-- elapsed time of the last self-test (R289). -/
  selfAt : Nat := 0
  /-- ANT_FAULT (R289). -/
  fault : Bool := false
  /-- RDR_SELFTEST waiting (R299). -/
  stCmd : Option Flight := none
  deriving DecidableEq, Repr

/-- persistent state of an antenna (R282, R289; spec/12_authorisation_reader.md). -/
structure NvAnt where
  /-- stored A_base, millionths of nominal, and die temperature (R282). -/
  base : Option (Nat × Int) := none
  /-- recorded reference: I_TX mA and phase 0.1 deg (R289). -/
  ref : Option (Nat × Int) := none
  deriving DecidableEq, Repr

/-- list entry (R290; spec/12_authorisation_reader.md). -/
structure LEntry where
  /-- AUTH_TYPE (R290). -/
  type : Nat := 0
  /-- AUTH_LEN (R290). -/
  len : Nat := 0
  /-- 0 allow 1 deny (R290). -/
  list : Nat := 0
  /-- POINTS (R290). -/
  points : Nat := 0
  /-- EFLAGS (R290). -/
  eflags : Nat := 0
  /-- AUTH_ID, 16 bytes (R290). -/
  id : List Byte := []
  /-- EXPIRY (R290). -/
  expiry : Nat := 0
  deriving DecidableEq, Repr

/-- authorisation-lists partition (R290; spec/12_authorisation_reader.md). -/
structure Lists where
  /-- active bank (R290). -/
  active : List LEntry := []
  /-- staging bank (R290). -/
  staging : List LEntry := []
  /-- LIST_VER (R298). -/
  ver : Nat := 0
  /-- generation of the bank selector (R290). -/
  gen : Nat := 0
  /-- persistent state of the antennas (R282, R289). -/
  ants : Vector NvAnt 8 := Vector.replicate 8 {}
  deriving DecidableEq, Repr

/-- reader (spec/12_authorisation_reader.md). -/
structure Reader where
  /-- antennas 1-8 (R279). -/
  ant : Vector Ant 8 := Vector.replicate 8 {}
  /-- reads of the last 500 ms: type, id, antenna, elapsed time (R287). -/
  recent : List (Nat × List Byte × Nat × Nat) := []
  /-- NFCn_ASEL high: the front end drives its antenna of even number (R279). -/
  asel : Vector Bool 4 := Vector.replicate 4 false
  /-- elapsed time of the last writing of the baselines (R282). -/
  storeAt : Nat := 0
  deriving DecidableEq, Repr

/-- field store and field domain, reached by no reset (spec/13_field_store.md). -/
structure FStore where
  /-- 16 KiB MRAM macro, canonical, unlisted as at manufacture (R303, R304). -/
  mem : List Cell := []
  /-- the field domain is powered by a field (R301). -/
  powered : Bool := false
  /-- UID, first byte 0x08 (R302). -/
  uid : Nat := 0x08000000
  /-- last status word answered to the field side (R309). -/
  sw : Nat := 0
  /-- last response data to the field side (R309). -/
  ans : List Byte := []
  /-- FS_MODE word of the field domain (R314). -/
  modeWord : Nat := 0
  /-- records written by the field side and not yet processed (R311). -/
  confW : BitVec 32 := 0
  deriving DecidableEq, Repr

/-- wired side's persistent words (R307, R311, R314; spec/13_field_store.md). -/
structure NvStore where
  /-- GEN last seen per record (R307). -/
  lastGen : Vector Nat 32 := Vector.replicate 32 0
  /-- PROC_GEN (R310). -/
  procGen : Vector Nat 8 := Vector.replicate 8 0
  /-- RESULT (R310). -/
  result : Vector Nat 8 := Vector.replicate 8 0
  /-- FS_MODE (R314). -/
  mode : Nat := 0
  deriving DecidableEq, Repr

/-- mains-locked loop of one phase (R318-R320; spec/14_tider_mains_link.md). -/
structure Loop where
  /-- state (R319). -/
  st : LoopSt := .unlocked
  /-- predicted crossing, 1/64 us x 64 (R318). -/
  pred : Int := 0
  /-- T_P (R318). -/
  per : Int := 0
  /-- consecutive used crossings with |e| at most 50 us (R319). -/
  good : Nat := 0
  /-- consecutive unused crossings (R320). -/
  bad : Nat := 0
  /-- FLAGS of the last half-cycle record (R318). -/
  lastFlag : Nat := 0
  /-- SEQ of the last record (R66). -/
  lastSeq : Option Nat := none
  deriving DecidableEq, Repr

/-- the two slots of a bit of the span (R321, R324; spec/14_tider_mains_link.md). -/
structure TSlot where
  /-- position (R322). -/
  pos : Nat := 0
  /-- notch metric of the positive slot in 1/256 LSB, then the soft value in half levels (R324). -/
  val : Int := 0
  /-- a half-cycle lay outside LOCKED and HOLDOVER (R324). -/
  lost : Bool := false
  /-- centre of the slot in the positive half-cycle, 1/64 us of device time (R321). -/
  tP : Int := 0
  /-- centre of the slot in the negative half-cycle (R321). -/
  tN : Int := 0
  /-- an unflagged record of the positive half-cycle has come (R64, R66). -/
  okP : Bool := false
  /-- an unflagged record of the negative half-cycle has come (R64, R66). -/
  okN : Bool := false
  deriving DecidableEq, Repr

/-- neighbour (R329; spec/14_tider_mains_link.md). -/
structure Neigh where
  /-- node identifier (R329). -/
  node : Nat := 0
  /-- LQ (R329). -/
  lq : Nat := 0
  /-- COST (R329). -/
  cost : Nat := 0xFF
  /-- PLEN (R329). -/
  plen : Nat := 0
  /-- HPATH (R329). -/
  hpath : List Nat := []
  /-- HOLDER (R327). -/
  holder : Nat := 0xFFFF
  /-- elapsed time last heard (R329). -/
  t0 : Nat := 0
  deriving DecidableEq, Repr

/-- a node known to the holder (R333; spec/14_tider_mains_link.md). -/
structure TNode where
  /-- node (R333). -/
  node : Nat := 0
  /-- DEM per phase 0.1 A (R332). -/
  dem : List Nat := [0, 0, 0]
  /-- allocation last sent (R333). -/
  alloc : List Nat := [0, 0, 0]
  /-- allocation last acknowledged (R333). -/
  old : List Nat := [0, 0, 0]
  /-- allocation as last recomputed (R333). -/
  want : List Nat := [0, 0, 0]
  /-- a DEMAND of the node awaits its answer (R330, R332). -/
  ans : Bool := false
  /-- last ALLOC acknowledged (R333). -/
  acked : Bool := true
  /-- FSEQ of the last ALLOC (R327). -/
  fseq : Nat := 0
  /-- reversed PATH (R330). -/
  path : List Nat := []
  /-- elapsed time last heard (R333). -/
  t0 : Nat := 0
  deriving DecidableEq, Repr

/-- Tider mains link (spec/14_tider_mains_link.md). -/
structure Tider where
  /-- Tider block in force (R338). -/
  applied : Option (List Byte) := none
  /-- block whose other fields take effect at the next span start (R338). -/
  nxt : Option (List Byte) := none
  /-- loops of L1-L3 (R318). -/
  loops : Vector Loop 3 := Vector.replicate 3 {}
  /-- F_NOM (R322). -/
  fnom : Nat := 50
  /-- joining: 0 locking, 1 listening, 2 random wait, 3 aligned (R331). -/
  join : Nat := 0
  /-- full spans listened (R331). -/
  spans : Nat := 0
  /-- elapsed time at which the random wait began (R331). -/
  waitAt : Nat := 0
  /-- random wait, 1/1000 span (R331). -/
  waitN : Nat := 0
  /-- consecutive spans with sync at the same offset (R326). -/
  syncRun : Nat := 0
  /-- that offset (R326). -/
  syncOfs : Nat := 0
  /-- consecutive spans with frames at a second offset (R326). -/
  otherRun : Nat := 0
  /-- that offset (R326). -/
  otherOfs : Nat := 0
  /-- lowest SRC decoded at it (R326). -/
  otherLow : Nat := 0xFFFF
  /-- lowest SRC at the own offset meanwhile (R326). -/
  selfLow : Nat := 0xFFFF
  /-- half-cycles of L1 since the span started, as its records have come (R322). -/
  halves : Int := 0
  /-- bits of the span whose negative slot is still to come (R321, R324). -/
  mpos : List TSlot := []
  /-- bits of the span with their soft values (R324). -/
  metrics : List TSlot := []
  /-- neighbours, at most 64 (R329). -/
  nb : List Neigh := []
  /-- PARENT (R330). -/
  parent : Nat := 0xFFFF
  /-- COST (R330). -/
  cost : Nat := 0xFF
  /-- HOLDER_ID (R339). -/
  holder : Nat := 0xFFFF
  /-- ALLOC 0.1 A (R339). -/
  alloc : Vector Nat 3 := Vector.replicate 3 0
  /-- elapsed time of the last ALLOC (R334). -/
  allocAt : Option Nat := none
  /-- elapsed time since which L1 is UNLOCKED (R334). -/
  l1Unl : Option Nat := none
  /-- FAILSAFE (R334). -/
  failsafe : Bool := false
  /-- ACK, FSEQ of the last ALLOC applied (R327). -/
  ackF : Nat := 0
  /-- DUP_ID (R335). -/
  dup : Bool := false
  /-- TX_FAULT of each phase (R335). -/
  txFault : Vector Bool 3 := Vector.replicate 3 false
  /-- FRAMES_OK (R339). -/
  ok : Nat := 0
  /-- FRAMES_FAIL (R339). -/
  bad : Nat := 0
  /-- ERASURES (R339). -/
  eras : Nat := 0
  /-- REPEAT_DROP (R339). -/
  repDrop : Nat := 0
  /-- frames to repeat, oldest first, at most 8 (R328). -/
  repq : List (List Byte) := []
  /-- last 256 (SRC, FSEQ) (R328). -/
  seen : List (Nat × Nat) := []
  /-- FSEQ counter (R327). -/
  fseq : Nat := 0
  /-- nodes known to the holder (R333). -/
  nodes : List TNode := []
  /-- elapsed time until which the holder sends no ALLOC (R333). -/
  quiet : Nat := 0
  /-- SITE_I of TDR_BUDGET, 0 block value (R340). -/
  budget : List Nat := [0, 0, 0]
  /-- budget to take at the next span end (R340). -/
  budNext : Option (List Nat) := none
  /-- elapsed time of the last BEACON (R330). -/
  beacAt : Nat := 0
  /-- elapsed time of the last DEMAND (R332). -/
  demAt : Nat := 0
  /-- demand last sent (R332). -/
  demLast : List Nat := [0, 0, 0]
  /-- spans since an unanswered DEMAND (R332). -/
  demSpans : Nat := 0
  /-- a DEMAND is unanswered (R332). -/
  demOpen : Bool := false
  /-- TDR_TX1-3 (R317). -/
  tx : Vector Bool 3 := Vector.replicate 3 false
  /-- TDR_ARM (R317). -/
  arm : Bool := false
  /-- frames sent in the current span: channel, frame (R328). -/
  sent : List (Nat × List Byte) := []
  /-- with C = 2, the next span sends a repeated frame (R328). -/
  altRep : Bool := false
  /-- a BEACON is due for the next span (R330). -/
  beaconDue : Bool := false
  /-- a DEMAND is due for the next span (R332). -/
  demDue : Bool := false
  /-- the budget was found insufficient at the last recomputation (R333). -/
  lowBudget : Bool := false
  deriving DecidableEq, Repr

/-- a rectangle (R348; spec/15_display.md). -/
structure Rect where
  /-- X (R348). -/
  x : Nat := 0
  /-- Y (R348). -/
  y : Nat := 0
  /-- W (R348). -/
  w : Nat := 0
  /-- H (R348). -/
  h : Nat := 0
  deriving DecidableEq, Repr

/-- a display update request (R349; spec/15_display.md). -/
structure UpdReq where
  /-- rectangle (R348). -/
  rect : Rect := {}
  /-- 0 normal, 1 clearing, 2 clearing alone (recovery) (R348, R359). -/
  mode : Nat := 0
  /-- 0 recovery 1 corrective 2 legal 3 host (R349). -/
  kind : Nat := 3
  /-- second try after a rail failure (R343). -/
  again : Bool := false
  deriving DecidableEq, Repr

/-- display partition and marker, persistent (R347, R352, R357; spec/15_display.md). -/
structure NvDisp where
  /-- last-displayed copy, canonical, address 800 y + x, unlisted level 15 (R347). -/
  lastImg : List Cell := []
  /-- the copy holds an uncorrectable error (R347). -/
  lastBad : Bool := false
  /-- DRIVE of regions with non-zero counter (R352). -/
  drive : List (Nat × Nat) := []
  /-- IMBAL of regions with non-zero counter (R352). -/
  imbal : List (Nat × Int) := []
  /-- 0 IDLE 1 ACTIVE 2 INTERRUPTED (R348, R357). -/
  marker : Nat := 0
  /-- marker rectangle (R348). -/
  mRect : Rect := {}
  /-- marker MODE (R348). -/
  mMode : Nat := 0
  /-- marker time (R348). -/
  mTime : Nat := 0
  /-- frames driven (R357). -/
  mFrames : Nat := 0
  /-- UPDATES u32 (R348, R362). -/
  updates : Nat := 0
  deriving DecidableEq, Repr

/-- display, not persistent part (spec/15_display.md). -/
structure Disp where
  /-- display block in force (R361). -/
  applied : Option (List Byte) := none
  /-- next buffer (R347). -/
  nextImg : List Cell := []
  /-- current buffer (R347). -/
  curImg : List Cell := []
  /-- requests waiting, at most 4 (R349). -/
  queue : List UpdReq := []
  /-- update in progress (R348). -/
  run : Option UpdReq := none
  /-- power-on step 1-5, 6 rails on, 0 off (R343). -/
  railStep : Nat := 0
  /-- elapsed time the last update ended with rails on (R343, R344). -/
  railsAt : Nat := 0
  /-- elapsed start of the last discharge (R344). -/
  dischAt : Option Nat := none
  /-- elapsed time of the rail failure to retry (R343). -/
  retryAt : Option Nat := none
  /-- BAND (R362). -/
  band : Nat := 0xFF
  /-- FRAME (R362). -/
  frame : Nat := 0
  /-- FRAMES (R362). -/
  frames : Nat := 0
  /-- drive codes of the last frame scanned, address 800 y + x (R348). -/
  scan : List Cell := []
  /-- RAIL_FAULT (R343). -/
  railFault : Bool := false
  /-- DISPLAY_FAULT (R343). -/
  dispFault : Bool := false
  /-- FACEPLATE_FAULT (R356). -/
  faceFault : Bool := false
  /-- TEMP_FAULT (R350). -/
  tempFault : Bool := false
  /-- TEMP_RANGE (R350). -/
  tempRange : Bool := false
  /-- LEGAL_BLANK (R356, R359). -/
  blank : Bool := false
  /-- RECOVERY_PENDING (R362). -/
  recPend : Bool := false
  /-- TEMP 0.01 C (R362). -/
  temp : Int := 0
  /-- completed update awaiting its first reading, with its band (R351). -/
  tempUpd : Option (UpdReq × Nat) := none
  /-- elapsed time of the last reading (R350). -/
  tempAt : Option Nat := none
  /-- elapsed start of the frame in progress (R342, R348). -/
  frameAt : Nat := 0
  /-- elapsed time of the last deferral (R350). -/
  defer : Option Nat := none
  /-- LEGAL_CRC (R355, R362). -/
  legalCrc : Nat := 0
  /-- rendering kept by M0/M1, rows of levels (R355). -/
  legalPix : List (List Nat) := []
  /-- elapsed time of the last rendering (R355). -/
  legalAt : Nat := 0
  /-- displayed values shown by it (R355). -/
  legalVal : List Nat := []
  /-- M0/M1 last wrote the legal region as blank (R356). -/
  faceBlank : Bool := false
  /-- display content handed over at a warning: frames driven and IMBAL changes (R357). -/
  hand : Option (Nat × List (Nat × Int)) := none
  deriving DecidableEq, Repr

/-- a key blob held (R408, R410; spec/18_keys_attestation.md). -/
structure Blob where
  /-- KEY_ID (R408). -/
  keyId : Nat := 0
  /-- KEY_TYPE (R408). -/
  type : Nat := 0
  /-- USE (R408). -/
  use : Nat := 0
  /-- ROOT (R408). -/
  root : Nat := 0
  /-- ORIGIN 0 final test 1 SEC_KEY (R408). -/
  org : Nat := 0
  /-- T_CREATED (R408). -/
  created : Nat := 0
  /-- the pair of partition slots that hold its two copies (R410). -/
  pair : Nat := 0
  /-- the first copy no longer unwraps (R410). -/
  bad1 : Bool := false
  /-- the second copy no longer unwraps (R410). -/
  bad2 : Bool := false
  deriving DecidableEq, Repr

/-- a stored certificate (R413, R416; spec/18_keys_attestation.md). -/
structure Cert where
  /-- ROLE (R413). -/
  role : Nat := 0
  /-- INDEX (R413). -/
  index : Nat := 0
  /-- AUTH, role 7 (R416). -/
  auth : Nat := 0
  /-- KEY_ID, roles 4-6 (R413). -/
  keyId : Nat := 0
  /-- DER (R413). -/
  der : List Byte := []
  deriving DecidableEq, Repr

/-- key blobs and certificates partition, fuses (R406-R413; spec/18_keys_attestation.md). -/
structure NvKey where
  /-- key blobs (R407, R410). -/
  blobs : List Blob := [{ keyId := 0, type := 4, use := 4 }, { keyId := 1, type := 4, use := 4, pair := 1 }]
  /-- next KEY_ID to assign (R408). -/
  nextId : Nat := 2
  /-- certificate store (R407, R413). -/
  certs : List Cert := [{ role := 0, index := 0, der := Config.certDer 0 }, { role := 0, index := 1, der := Config.certDer 1 }, { role := 0, index := 2, der := Config.certDer 2 }]
  /-- the last start was in the debug state (R420). -/
  debugWas : Bool := false
  deriving DecidableEq, Repr

/-- Chuck slot (R411; spec/18_keys_attestation.md). -/
structure Slot where
  /-- KEY_ID loaded (R411). -/
  key : Option Nat := none
  /-- in use (R411). -/
  inUse : Bool := false
  /-- elapsed time of its last use (R411). -/
  used : Nat := 0
  deriving DecidableEq, Repr

/-- a challenge outstanding (R417; spec/18_keys_attestation.md). -/
structure Nonce where
  /-- source (R417). -/
  src : Source := .spi
  /-- NONCE, 32 bytes (R417). -/
  nonce : List Byte := []
  /-- elapsed time of SEC_CHALLENGE (R417). -/
  t0 : Nat := 0
  deriving DecidableEq, Repr

/-- a proven grant (R417; spec/18_keys_attestation.md). -/
structure Grant where
  /-- source (R417). -/
  src : Source := .spi
  /-- authorities (R417). -/
  auth : Nat := 0
  /-- credential index (R417). -/
  index : Nat := 0
  /-- elapsed time of proof (R417). -/
  t0 : Nat := 0
  deriving DecidableEq, Repr

/-- security core K, not persistent part (spec/18_keys_attestation.md). -/
structure Key where
  /-- Chuck (R411). -/
  chuck : Vector Slot 64 := Vector.replicate 64 {}
  /-- requests waiting for a slot: KEY_ID, point, elapsed start (R411). -/
  waits : List (Nat × Nat × Nat) := []
  /-- nonces valid (R417). -/
  nonces : List Nonce := []
  /-- proven grants, newest first, at most 8 (R417). -/
  grants : List Grant := []
  /-- algorithms whose last known-answer test failed (R419). -/
  kat : List Nat := []
  /-- elapsed time of the last full run since the start of K (R419). -/
  katAt : Option Nat := none
  /-- elapsed time of the last retest (R419). -/
  retestAt : Nat := 0
  /-- debug state in force (R420). -/
  debug : Bool := false
  /-- BOOT_HASH measured at the cold start (R418). -/
  bootHash : List Byte := []
  /-- OPTION_HASH (R418). -/
  optHash : List Byte := []
  /-- MANIFEST_HASH (R418). -/
  manHash : List Byte := []
  /-- MET_HASH (R418). -/
  metHash : List Byte := []
  deriving DecidableEq, Repr

/-- boot and option records, firmware slots (R12, R429, R452; spec/19_firmware_update.md, spec/20_power_reset_clocks.md). -/
structure NvUpd where
  /-- option record copy 1, 224 bytes (R399, R452). -/
  opt1 : List Byte := factoryOption
  /-- option record copy 2 (R399, R452). -/
  opt2 : List Byte := factoryOption
  /-- boot selector copy 1 (R429). -/
  selA : Option SelCopy := some { gen := 1 }
  /-- boot selector copy 2 (R429). -/
  selB : Option SelCopy := some { gen := 1 }
  /-- firmware slots A and B (R12). -/
  slots : Vector FwSet 2 := Vector.replicate 2 {}
  /-- device security version (R432). -/
  secVer : Nat := Config.factorySecVer
  /-- USTATE (R426). -/
  st : UpdSt := .empty
  /-- REASON (R426). -/
  reason : Nat := 0
  /-- package header received (R423). -/
  header : List Byte := []
  /-- manifest and payload bytes received (R427). -/
  data : List Byte := []
  /-- source that sent UPD_BEGIN (R427). -/
  src : Source := .spi
  /-- elapsed time at which the trial began (R430). -/
  trialAt : Nat := 0
  /-- CLASS: 0 none 1 warm 2 cold (R428). -/
  cls : Nat := 0
  /-- MET_VER of the set started last (R431). -/
  metLast : Nat := Config.factoryMetVer
  /-- mirror of the reset counters (R456). -/
  mirror : List Nat := [0, 0, 0, 0]
  /-- UPD_ACTIVATE accepted: elapsed time and CONFIRM_T (R428). -/
  actAt : Option (Nat × Nat) := none
  deriving DecidableEq, Repr

/-- the whole machine. -/
structure State where
  /-- commands waiting, first in first out. -/
  pending : List Instr := []
  /-- family member (R1). -/
  member : Member := .pnv8
  /-- time base (R8). -/
  clk : Clk := {}
  /-- supplies, resets, clocks (R436). -/
  pwr : Pwr := {}
  /-- Tailstock domain (R455). -/
  tail : Tail := {}
  /-- settings blocks (R516). -/
  blk : Blocks := {}
  /-- host port and network (R365). -/
  port : Port := {}
  /-- event engine (R400). -/
  ev : EvLog := {}
  /-- mailboxes (R394). -/
  mbx : Vector Mbx 32 := Vector.replicate 32 {}
  /-- metering front end (R22). -/
  fe : Fe := {}
  /-- its persistent state (R40). -/
  nvFe : NvFe := {}
  /-- detectors (R60). -/
  filt : Filt := {}
  /-- energy engine (R68). -/
  en : Energy := {}
  /-- live values of class P100 (R128). -/
  p100 : P100 := {}
  /-- live values of class PFW (R128). -/
  pfw : Pfw := {}
  /-- persisted copies and snapshots (R128). -/
  nvBill : NvBill := {}
  /-- billing (R107). -/
  bill : Bill := {}
  /-- ledger, event log, sinks, counters (R131). -/
  led : Ledger := {}
  /-- persistent state of the points (R468). -/
  nvPt : Vector NvPoint 8 := Vector.replicate 8 {}
  /-- persistent safety state (R231). -/
  nvSafe : NvSafe := {}
  /-- pilots (R149). -/
  pilot : Vector Pilot 8 := Vector.replicate 8 {}
  /-- sessions (R17). -/
  sess : Vector Sess 8 := Vector.replicate 8 {}
  /-- high-level communication (R171). -/
  hlc : Vector Hlc 8 := Vector.replicate 8 {}
  /-- CAN frames (R197). -/
  can : Vector CanFrm 24 := Vector.replicate 24 {}
  /-- earth supervision (R203). -/
  earth : Vector Earth 8 := Vector.replicate 8 {}
  /-- PE supervision (R219). -/
  earthDev : EarthDev := {}
  /-- safety state of the points (R230). -/
  safe : Vector Safe 8 := Vector.replicate 8 {}
  /-- safety pair (R228). -/
  safeDev : SafeDev := {}
  /-- channel counters and latches (R257). -/
  nvCh : Vector NvChan 24 := Vector.replicate 24 {}
  /-- switch channels (R251). -/
  sw : Switch := {}
  /-- authorisation lists and antenna references (R290). -/
  lists : Lists := {}
  /-- reader (R279). -/
  rdr : Reader := {}
  /-- field store (R301). -/
  fst : FStore := {}
  /-- wired side of the field store (R307). -/
  nvFst : NvStore := {}
  /-- Tider link (R316). -/
  tdr : Tider := {}
  /-- display partition (R347). -/
  nvDsp : NvDisp := {}
  /-- display (R342). -/
  dsp : Disp := {}
  /-- keys and certificates (R406). -/
  nvKey : NvKey := {}
  /-- security core (R411). -/
  key : Key := {}
  /-- firmware slots, boot and option records (R423). -/
  upd : NvUpd := {}
  deriving DecidableEq, Repr

/-- Why a step stops with a fault: no command of this device does (a command that cannot act answers a status code or
leaves the state unchanged), so the type is empty. -/
inductive Fault where
  deriving DecidableEq, Repr

/-- Why a step is refused. -/
inductive Refusal where
  /-- Raised by the dispatch for a command that has no meaning yet; safe (the machine stops). -/
  | notModelled (mnemonic : String)
  deriving DecidableEq, Repr

/-- The machine right after reset: a device as it left the factory, before its first supply (log entry 3). -/
def State.reset : State := {}

end Sys2Proof.Machine
end

