-- ==== Sys2Proof/Machine/Flags.lean ====
section
/-!
DEFINITION. Events: their origin, parameters, active bits and log entries (R147, R400 to R402, R522), and what an event
brings with it: the legal-event record (R136), the sinks' losses (R380), and the pending-record queue (R140, R142).
-/

namespace Sys2Proof.Machine

/-- The identity of the domain that raises event `e` (R522, allocation of event sources). -/
def originOf (e : Nat) : Nat :=
  if e ≤ 7 then 6 else if e ≤ 11 then 2 else if e = 12 then 10 else if e ≤ 40 then 6
  else if e = 44 ∨ e = 45 then 6 else if e ≤ 47 then 2 else if e ≤ 55 then 7 else if e ≤ 63 then 3
  else if e ≤ 95 then 7 else if e = 97 ∨ e = 98 ∨ e = 102 then 4 else if e ≤ 112 then 10
  else if e = 113 then 6 else if e ≤ 119 then 10 else 11

/-- PARAM packed from width and value pairs: little-endian, without padding, unused bytes zero, cut to 16 (R522). -/
def prm (l : List (Nat × Nat)) : List Byte := fit 16 (l.flatMap fun p => le p.1 p.2)

/-- PARAM packed from fields followed by an identifier, which comes last (R522). -/
def prmId (l : List (Nat × Nat)) (id : List Byte) : List Byte := fit 16 ((l.flatMap fun p => le p.1 p.2) ++ id)

/-- Entries the event-log ring holds (R147). -/
def logCap : Nat := 196608

/-- The 32 bytes of a log entry (R147). -/
def LogEnt.bytes (x : LogEnt) : List Byte :=
  le 8 x.time ++ le 1 x.ev ++ le 1 x.origin ++ le 2 x.flags ++ fit 16 x.param ++ le 4 x.no

/-- A subscribed sink has an unacknowledged interest in an entry (R380). -/
def Sink.wants (k : Sink) (x : LogEnt) : Bool := k.on && k.mask.getLsbD x.ev && decide (k.ack ≤ x.no)

/-- The entry the ring would overwrite at the next entry, if it is full (R147). -/
def logVictim (s : State) : Option LogEnt := if s.led.log.length < logCap then none else s.led.log.getLast?

/-- The sinks after the entry `x` is overwritten: LOST rises where it was unacknowledged (R380). -/
def sinksLose (ks : Vector Sink 5) (x : LogEnt) : Vector Sink 5 :=
  ks.map fun k => if k.wants x then { k with lost := satAdd 32 k.lost 1 } else k

/-- One entry in the ring of the log, without the E10 its overwriting may bring (R147). -/
def logPut (ev flags : Nat) (param : List Byte) (s : State) : State :=
  let x : LogEnt := { time := s.clk.time, ev, origin := originOf ev, flags, param := fit 16 param, no := s.led.logNext }
  let sinks := match logVictim s with | some v => sinksLose s.led.sinks v | none => s.led.sinks
  { s with led.log := (x :: s.led.log).take logCap, led.logNext := (s.led.logNext + 1) % 2 ^ 32, led.sinks := sinks }

/-- One entry in the log; E10 for each sink that loses an unacknowledged entry to it (R147, R380, R392). -/
def logEntry (ev flags : Nat) (param : List Byte) (s : State) : State :=
  let s1 := logPut ev flags param s
  match logVictim s with
  | none => s1
  | some v => (units 5).foldl (fun t k => if (vget s.led.sinks k).wants v then
      logPut 10 1 (prm [(1, k.1), (4, (vget s1.led.sinks k).lost)]) t else t) s1

/-- Deliver an occurrence to the log engine: entered while the domain's queue of 32 has room, else coalesced (R402). -/
def deliver (ev : Nat) (lvl : Bool) (param : List Byte) (s : State) : State :=
  let o := originOf ev
  if vat s.ev.used o 0 < 32 then
    logEntry ev (b2n lvl) param { s with ev.used := vatMod s.ev.used o (· + 1) }
  else
    let old := (s.ev.coal.find? fun c => c.ev == ev).map (·.count) |>.getD 0
    { s with
      ev.coal := s.ev.coal.filter (fun c => !(c.ev == ev)) ++ [{ ev, origin := o, count := old + 1, lvl, param := fit 16 param }]
      ev.coalTotal := satAdd 32 s.ev.coalTotal 1 }

/-! ## Pending records -/

/-- Slots of the session chain (R131). -/
def chainCap : Nat := 92842

/-- Free slots of the session chain: empty, or their record acknowledged (R145). -/
def freeSlots (s : State) : Nat := chainCap - min chainCap (s.led.nxt - s.led.acked)

/-- New sessions are refused: at most 256 free slots without OVERWRITE, or 40 queued records (R142, R145). -/
def sessionsRefused (s : State) : Bool :=
  decide (40 ≤ s.p100.queue.length) || (!s.p100.overwrite && decide (freeSlots s ≤ 256))

/-- An event record, which gives way when room is short (R142): time change, tamper or legal event. -/
def isEventRec (t : Nat) : Bool := t == 4 || t == 5 || t == 9

/-- Count a dropped event record and raise E42 (R142, R145). -/
def dropRec (s : State) : State := deliver 42 true [] { s with led.dropped := satAdd 32 s.led.dropped 1 }

/-- Follow the limits of R142 and R145: E42 when new sessions come to be refused, E41 at each crossing of 9,284. -/
def ledgerLimits (s : State) : State :=
  let ref := sessionsRefused s
  let low := if freeSlots s < 9284 then true else if freeSlots s > 9284 then false else s.led.low
  let s := if ref && !s.led.refusing then deliver 42 true [] { s with led.refusing := true } else { s with led.refusing := ref }
  if low == s.led.low then s
  else deliver 41 low [] { s with
    led.low := low
    ev.active := if low then (41, 0) :: s.ev.active else s.ev.active.filter (· ≠ (41, 0)) }

/-- A session or session-export record, which is never dropped (R142). -/
def isSessRec (t : Nat) : Bool := t == 1 || t == 3

/-- The queue without its oldest record of a kind. -/
def dropOldest (p : Nat → Bool) : List PendRec → List PendRec
  | [] => []
  | r :: rs => if p r.type then rs else r :: dropOldest p rs

/-- Entries the pending-record queue holds (R140, R142). -/
def queueCap : Nat := 64

/-- The queue takes a new event record: fewer than 40 entries are queued (R142). -/
def takesEvent (s : State) : Bool := decide (s.p100.queue.length < 40)

/-- A record enters the pending-record queue under the limits of R142. With 64 entries queued the oldest event record gives way to any
record, and to a session record failing that the oldest one that is not a session's; otherwise the new record is dropped (for records
of types 0x01 to 0x03 and 0x08 the order of giving way is the model's: DESIGN CHOICE, log entry 605). -/
def queueRec (r : PendRec) (s : State) : State :=
  let put := fun (q : List PendRec) (s : State) => ledgerLimits { s with p100.queue := q ++ [r] }
  let q := s.p100.queue
  if isEventRec r.type && !takesEvent s then dropRec s
  else if q.length < queueCap then put q s
  else if q.any fun x => isEventRec x.type then put (dropOldest isEventRec q) (dropRec s)
  else if !isSessRec r.type then dropRec s
  else if q.any fun x => !isSessRec x.type then put (dropOldest (fun t => !isSessRec t) q) (dropRec s)
  else put q s

/-- Events whose occurrences give legal-event records: E16, E17, E18, E23 and E36, and 0xFF for the activation of a new
metrology part, in the order of `Ledger.legal` (R136). -/
def legalIx (e : Nat) : Option (Fin 6) :=
  match e with | 16 => some 0 | 17 => some 1 | 18 => some 2 | 23 => some 3 | 36 => some 4 | 255 => some 5 | _ => none

/-- The legal-event record of an occurrence, at most one per event in 60 min of elapsed time; an occurrence whose record the queue does
not take counts in SUPPRESSED and starts no 60 min (R136, R142). -/
def legalRecord (ev : Nat) (lvl : Bool) (param : List Byte) (s : State) : State :=
  match legalIx ev with
  | none => s
  | some k =>
    let l := vget s.led.legal k
    let due := l.last.all fun t => decide (t + 3600000000 ≤ s.clk.mono)
    let kept := due && takesEvent s
    let nw : Legal := if kept then { last := some s.clk.mono, supp := 0 } else { l with supp := satAdd 32 l.supp 1 }
    let s := { s with led.legal := vset s.led.legal k nw }
    if due then
      queueRec { type := 9, time := s.clk.time,
                 body := fit 224 (le 1 ev ++ le 1 (b2n lvl) ++ zeros 2 ++ le 4 l.supp ++ fit 16 param) } s
    else s

/-! ## Raising events -/

/-- An occurrence of event `ev`: its log entry and what the event brings (R136, R147, R402). -/
def occur (ev : Nat) (lvl : Bool) (param : List Byte) (s : State) : State :=
  legalRecord ev lvl (fit 16 param) (deliver ev lvl param s)

/-- A pulse event (R401). -/
def pulse (ev : Nat) (param : List Byte) (s : State) : State := occur ev true param s

/-- The condition `key` of the level event `ev` comes to hold or ceases to hold; a condition that does not change is no
occurrence (R401). -/
def level (ev key : Nat) (on : Bool) (param : List Byte) (s : State) : State :=
  if s.ev.active.contains (ev, key) == on then s
  else occur ev on param { s with ev.active := if on then (ev, key) :: s.ev.active else s.ev.active.filter (· ≠ (ev, key)) }

/-- The active bits of EVT_STATE (R404). -/
def activeBits (s : State) : Nat := (List.range 128).foldl (fun a e => if s.ev.active.any (·.1 == e) then a + 2 ^ e else a) 0

/-- A coalesced entry: FLAGS bit 1, the count in PARAM bytes 12 to 15 (R402). -/
def coalEntry (c : Coal) (s : State) : State :=
  logEntry c.ev (b2n c.lvl + 2) (fit 12 c.param ++ le 4 c.count) { s with ev.used := vatMod s.ev.used c.origin (· + 1) }

end Sys2Proof.Machine
end

