-- ==== Sys2Proof/Machine/Ops.lean ====
section
/-!
DEFINITION. Operations every family uses: time, random bytes and free values, the units present, settings blocks as they
are committed and stored, the power state a wake brings, and authorities.
-/

namespace Sys2Proof.Machine

/-! ## Time and draws -/

/-- Device time (R8). -/
def now (s : State) : Nat := s.clk.time

/-- `dur` microseconds have elapsed since `t0`. -/
def elapsed (s : State) (t0 dur : Nat) : Bool := decide (t0 + dur ≤ s.clk.mono)

/-- A time since which something holds reaches back at least `dur` microseconds. -/
def heldFor (s : State) (t : Option Nat) (dur : Nat) : Bool := t.any fun t0 => elapsed s t0 dur

/-- Follow a condition: keep its start while it holds, note the present when it begins, forget it when it ends. -/
def follow (s : State) (cond : Bool) (t : Option Nat) : Option Nat :=
  if cond then some (t.getD s.clk.mono) else none

/-- `n` random bytes numbered from the counter of draws. -/
def rands (n : Nat) (s : State) : List Byte := (List.range n).map fun i => Config.rand (s.clk.free + i)

/-- The counter of draws moved on by `n`. -/
def drawn (n : Nat) (s : State) : State := { s with clk.free := s.clk.free + n }

/-! ## Units present (R1, R2, R5) -/

/-- Points present. -/
def Member.points : Member → Nat
  | .pnv1 => 1 | .pnv2 => 2 | .pnv4 => 4 | .pnv8 => 8

/-- HS channels present. -/
def Member.hs : Member → Nat
  | .pnv1 => 4 | .pnv2 => 6 | .pnv4 => 10 | .pnv8 => 16

/-- LP channels present. -/
def Member.lp : Member → Nat
  | .pnv1 => 2 | .pnv2 => 2 | .pnv4 => 4 | .pnv8 => 8

/-- The member's name, ASCII padded with zeros (R390). -/
def Member.name : Member → List Byte
  | .pnv1 => [0x50, 0x4E, 0x56, 0x31, 0, 0, 0, 0]
  | .pnv2 => [0x50, 0x4E, 0x56, 0x32, 0, 0, 0, 0]
  | .pnv4 => [0x50, 0x4E, 0x56, 0x34, 0, 0, 0, 0]
  | .pnv8 => [0x50, 0x4E, 0x56, 0x38, 0, 0, 0, 0]

/-- A number below a bound as an index. -/
def ix (n v : Nat) : Option (Fin n) := if h : v < n then some ⟨v, h⟩ else none

/-- The point numbered `v` (1 to 8), if the member has it. -/
def pointOf (s : State) (v : Nat) : Option (Fin 8) :=
  if 1 ≤ v ∧ v ≤ s.member.points then ix 8 (v - 1) else none

/-- The group or meter numbered `v` (0 to 8), if the member has it. -/
def groupOf (s : State) (v : Nat) : Option (Fin 9) := if v ≤ s.member.points then ix 9 v else none

/-- Group or meter number present. -/
def hasGroup (s : State) (g : Nat) : Bool := decide (g ≤ s.member.points)

/-- The point is present. -/
def hasPoint (s : State) (n : Fin 8) : Bool := decide (n.1 < s.member.points)

/-- Points present, in order. -/
def points (s : State) : List (Fin 8) := (units 8).filter (hasPoint s)

/-- Channel index 0 to 23 present: HS1 to HS16 then LP1 to LP8 (R1). -/
def hasChan (s : State) (c : Nat) : Bool :=
  if c < 16 then decide (c < s.member.hs) else decide (c < 24) && decide (c - 16 < s.member.lp)

/-- The channel with index `v`, if the member has it. -/
def chanOf (s : State) (v : Nat) : Option (Fin 24) := if hasChan s v then ix 24 v else none

/-- The meter of a point (meter n belongs to point n). -/
def meterOf (n : Fin 8) : Fin 9 := n.succ

/-- The points a mask names, in order. -/
def maskPoints (m : Nat) : List (Fin 8) := (units 8).filter fun n => m.testBit n.1

/-- A point mask names at least one point and only points that are present (R2). -/
def maskOk (s : State) (m : Nat) : Bool := decide (0 < m) && decide (m < 2 ^ s.member.points)

/-! ## Settings blocks -/

/-- The newer valid copy of the boot selector (R429). -/
def selector (s : State) : SelCopy :=
  match s.upd.selA, s.upd.selB with
  | some a, some b => if a.gen < b.gen then b else a
  | some a, none => a
  | none, some b => b
  | none, none => {}

/-- The firmware set that runs (R423). -/
def activeSet (s : State) : FwSet := vat s.upd.slots (selector s).slot {}

/-- The FORMAT the running set expects for a block (R433, R519). -/
def formatOf (s : State) (id : Nat) : Nat := (((activeSet s).formats.find? fun x => x.1 == id).map (·.2)).getD 1

/-- A copy is in the format the running set expects; in another it counts as missing (R433). -/
def formatFits (s : State) (c : BlkCopy) : Bool := u16 2 c.bytes == formatOf s c.id

/-- The committed copy of a block, if there is a valid one (R433, R518). -/
def committed (s : State) (id : Nat) : Option (List Byte) :=
  ((s.blk.committed.find? fun c => c.id == id && c.bstate == 1 && formatFits s c).map (·.bytes))

/-- The stored copy of a block, whatever its state (R516). -/
def storedCopy (s : State) (id : Nat) : Option BlkCopy := s.blk.stored.find? fun c => c.id == id

/-- The committed copy of a block, whatever its state. -/
def committedCopy (s : State) (id : Nat) : Option BlkCopy := s.blk.committed.find? fun c => c.id == id

/-- A list of copies with the copy of one identifier replaced. -/
def putCopy (c : BlkCopy) (l : List BlkCopy) : List BlkCopy := c :: l.filter fun d => !(d.id == c.id)

/-- A list of copies without the copy of one identifier. -/
def dropCopy (id : Nat) (l : List BlkCopy) : List BlkCopy := l.filter fun d => !(d.id == id)

/-- The stored copy as it stands becomes the committed copy (R518); T_COMMIT is the present time. -/
def commitBlk (s : State) (id : Nat) : State :=
  match storedCopy s id with
  | some c => { s with blk.committed := putCopy { c with tCommit := now s, bstate := 1 } s.blk.committed }
  | none => s

/-- The copies given become the committed copies (R518). -/
def commitCopies (cs : List BlkCopy) (s : State) : State :=
  cs.foldl (fun t c => { t with blk.committed := putCopy { c with tCommit := now t, bstate := 1 } t.blk.committed }) s

/-! ## Power state -/

/-- PSTATE codes (R462). -/
def pstCode : PState → Nat
  | .run => 0 | .idle => 1 | .doze => 2 | .watch => 3

/-- The device goes to a power state, with E3: new and previous state and waking source (R441, R465); on leaving WATCH the
offsets are measured again (R208). -/
def goPstate (st : PState) (src : Nat) (s : State) : State :=
  if s.pwr.pstate = st then s
  else
    let leave := s.pwr.pstate == .watch
    pulse 3 (prm [(1, pstCode st), (1, pstCode s.pwr.pstate), (1, src)])
      { s with
        pwr.pstate := st, pwr.allowedSince := none
        earth := if leave then s.earth.map fun e => { e with offRun := true } else s.earth }

/-- A powered-down or gated domain wakes: the device is in RUN and E3 names the change (R403, R443, R465). The code of
the waking source is not stated (log entry 4). -/
def wake (src : Nat) (s : State) : State :=
  if s.pwr.pstate = .run then s else goPstate .run src { s with pwr.aTask := true }

/-- The metrology cores run: they hold the grid from the end of the boot to the end of the power-fail sequence. -/
def gridRuns (s : State) : Bool := s.pwr.phase == .run || s.pwr.phase == .pfwSeq

/-- The application cluster is out of reset. -/
def appUp (s : State) : Bool := gridRuns s && s.pwr.appRunning && !s.pwr.inWarm && s.pwr.appResetAt.isNone

/-! ## Authorities (R414, R415) -/

/-- The master identity of a source (R393). -/
def Source.ident : Source → Nat
  | .spi => 0
  | .net _ _ => 1

/-- AUTH_STATIC of the option record in force, 0 without one (R415, R453). -/
def authStatic (s : State) : Nat := (s.pwr.optLoaded.map (u32 96)).getD 0

/-- The source holds the authority with this bit number, by a static or a proven grant (R415). -/
def holds (s : State) (src : Source) (b : Nat) : Bool :=
  (authStatic s).testBit (8 * Source.ident src + b) || s.key.grants.any fun g => g.src == src && g.auth.testBit b && decide (s.clk.mono < g.t0 + 28800000000)

end Sys2Proof.Machine
end

