-- ==== Sys2Proof/Machine/Settings.lean ====
section
/-!
DEFINITION. The settings blocks (R516 to R519): the fields each holds, the rejection rules that concern one
block alone, and the reset values of their fields (R521), for the metering, billing, network and power blocks. The
chapters' own functions read fields through these accessors.
-/

namespace Sys2Proof.Machine

/-- Reserved bits outside `m` are zero (R7). -/
def onlyBits (v m : Nat) : Bool := v &&& m == v

/-- A value in a range. -/
def within (v lo hi : Nat) : Bool := decide (lo ≤ v) && decide (v ≤ hi)

/-- A signed value in a range. -/
def withinI (v lo hi : Int) : Bool := decide (lo ≤ v) && decide (v ≤ hi)

/-- Numbers of a list appear in strictly rising order. -/
def rising : List Nat → Bool
  | a :: b :: rest => decide (a < b) && rising (b :: rest)
  | _ => true

/-- No value appears twice. -/
def distinct {α : Type} [BEq α] : List α → Bool
  | [] => true
  | a :: rest => !rest.contains a && distinct rest

/-- The committed copy of a block; without one, every field reads its reset value (R521), `r` being the bytes after FORMAT. -/
def blk (s : State) (id : Nat) (r : List Byte) : List Byte := (committed s id).getD (zeros 4 ++ r)

/-! ## Network block 0x0110 (R388) -/

def netReset : List Byte :=
  le 4 1 ++ zeros 12 ++ zeros 16 ++ zeros 2 ++ le 2 41920 ++ le 4 (4 + 128 * 256 + 128 * 65536) ++ zeros 4

/-- A big-endian 32-bit field (network byte order). -/
def be32 (off : Nat) (b : List Byte) : Nat := unle ((slice off 4 b).reverse)

def netOk (b : List Byte) : Bool :=
  let ctl := u32 4 b
  let ptp := u32 40 b
  let ip := be32 8 b
  let bc := be32 12 b ^^^ 0xFFFFFFFF
  let static := bits ctl 1 0 == 1
  onlyBits ctl 0x1F && onlyBits ptp 0xFFFF1F && rsv 44 4 b && !(bits ctl 1 0 == 3) && !(bits ctl 4 3 == 3) &&
    within (u8 36 b) 1 128 && decide (u8 37 b ≤ 127) && decide (1024 ≤ u16 38 b) && decide (bits ptp 2 0 ≤ 4) &&
    !(bits ctl 1 0 == 0 && !bit ctl 2 && bit ptp 4) && !(static && (ip == 0 || ip ||| bc == ip))

/-- The network block in force: strap defaults in the wait state and without a committed block (R387, R388). -/
def netB (s : State) : List Byte := if s.port.wait then zeros 4 ++ netReset else s.port.netApplied.getD (zeros 4 ++ netReset)
def ip4Mode (b : List Byte) : Nat := bits (u32 4 b) 1 0
/-- RING: 0 line, 1 ring member, 2 ring manager. -/
def netRing (b : List Byte) : Nat := bits (u32 4 b) 4 3
def ptpRole (b : List Byte) : Nat := bits (u32 40 b) 2 0
/-- PTP is the time source: a role with a slave function, in SLAVE or HOLDOVER (R383). -/
def ptpSource (s : State) : Bool := ptpRole (netB s) != 0 && (s.port.ptp == .slave || s.port.ptp == .holdover)

/-! ## Group blocks 0x0210 to 0x0218 (R43, R44) -/

def grpReset : List Byte := le 4 8200 ++ zeros 28 ++ zeros 28 ++ (List.replicate 7 0x147F).flatMap (le 4) ++ zeros 4

/-- The committed block of group `g`. -/
def grp (s : State) (g : Nat) : List Byte := blk s (0x0210 + g) grpReset
def grpEn (b : List Byte) : Bool := bit (u32 4 b) 0
/-- SYSTEM: 0 four-wire, 1 three-wire, 2 single-phase, 3 DC. -/
def grpSystem (b : List Byte) : Nat := bits (u32 4 b) 2 1
/-- PRESET: 0 Roughing, 1 Spindle, 2 Finishing, 3 Burnishing. -/
def grpPreset (b : List Byte) : Nat := bits (u32 4 b) 4 3
def grpBsSmp (b : List Byte) : Nat := bits (u32 4 b) 13 8
def chCtl (b : List Byte) (c : Nat) : Nat := u32 (8 + 4 * c) b
def chEn (b : List Byte) (c : Nat) : Bool := decide (c < 7) && bit (chCtl b c) 0
/-- SRC: the channel takes an external bitstream. -/
def chExt (b : List Byte) (c : Nat) : Bool := bit (chCtl b c) 1
def chInv (b : List Byte) (c : Nat) : Bool := bit (chCtl b c) 2
def chPhDelay (b : List Byte) (c : Nat) : Int := signed 18 (bits (chCtl b c) 31 14)
def chScale (b : List Byte) (c : Nat) : Nat := u32 (36 + 4 * c) b
def chPartner (b : List Byte) (c : Nat) : Nat := bits (u32 (64 + 4 * c) b) 6 0
def chTol (b : List Byte) (c : Nat) : Nat := bits (u32 (64 + 4 * c) b) 15 8

def grpChOk (s : State) (g : Nat) (b : List Byte) (c : Nat) : Bool :=
  let x := u32 (64 + 4 * c) b
  let p := chPartner b c
  onlyBits (chCtl b c) 0xFFFFC007 && onlyBits x 0xFF7F && !(chEn b c && chScale b c == 0) &&
    withinI (chPhDelay b c) (-128000) 128000 && !(chTol b c == 0) &&
    (p == 0x7F || (chExt b c && !(p == 8 * g + c) && !(p % 8 == 7) && hasGroup s (p / 8)))

def grpOk (s : State) (g : Nat) (b : List Byte) : Bool :=
  onlyBits (u32 4 b) 0x3F1F && rsv 92 4 b && (List.range 7).all (grpChOk s g b)

/-! ## Meter blocks 0x0220 to 0x0228 and pulse block 0x0230 (R92 to R94) -/

def mtrReset : List Byte := le 4 2 ++ zeros 4 ++ le 2 1 ++ le 2 50 ++ le 4 (5 + 10 * 256 + 10 * 65536) ++ zeros 8

def mtr (s : State) (m : Nat) : List Byte := blk s (0x0220 + m) mtrReset
def netMode (b : List Byte) : Nat := bits (u32 4 b) 1 0
/-- DIR_MODE: import-only. -/
def importOnly (b : List Byte) : Bool := bit (u32 4 b) 2
def neutSub (b : List Byte) : Bool := bit (u32 4 b) 3
def seqExpect (b : List Byte) : Bool := bit (u32 4 b) 4
def startI (b : List Byte) : Nat := u32 8 b
def tNet (b : List Byte) : Nat := u16 12 b
def nDir (b : List Byte) : Nat := u16 14 b
def bypPct (b : List Byte) : Nat := u8 16 b
def bypMin (b : List Byte) : Nat := u8 17 b
def tamperT (b : List Byte) : Nat := u8 18 b

def mtrOk (b : List Byte) : Bool :=
  onlyBits (u32 4 b) 0x1F && u8 19 b == 0 && rsv 20 8 b && !(netMode b == 3) && within (tNet b) 1 900 && 3600 % tNet b == 0 &&
    within (nDir b) 1 3000 && within (bypPct b) 1 100 && !(bypMin b == 0) && !(tamperT b == 0)

def plsReset : List Byte := (List.replicate 4 (le 4 10240 ++ zeros 4)).flatten ++ zeros 4

def pls (s : State) : List Byte := blk s 0x0230 plsReset
def plsCtl (b : List Byte) (i : Nat) : Nat := u32 (4 + 8 * i) b
def plsEn (b : List Byte) (i : Nat) : Bool := bit (plsCtl b i) 0
def plsMeter (b : List Byte) (i : Nat) : Nat := bits (plsCtl b i) 4 1
def plsQuantity (b : List Byte) (i : Nat) : Nat := bits (plsCtl b i) 8 5
def plsWidth (b : List Byte) (i : Nat) : Nat := bits (plsCtl b i) 14 9
def plsPol (b : List Byte) (i : Nat) : Bool := bit (plsCtl b i) 15
def plsConst (b : List Byte) (i : Nat) : Nat := u32 (8 + 8 * i) b

def plsOk (s : State) (b : List Byte) : Bool :=
  rsv 36 4 b && (List.range 4).all fun i => onlyBits (plsCtl b i) 0xFFFF &&
    (!plsEn b i || (hasGroup s (plsMeter b i) && decide (plsQuantity b i ≤ 11) && within (plsWidth b i) 1 50 &&
      within (plsConst b i) 1 100000))

/-! ## Calendar blocks 0x0340 to 0x0342 (R105, R106) -/

def calReset : List Byte := zeros 116
def dayReset : List Byte := zeros 772
def spcReset : List Byte := zeros 800

def calB (s : State) : List Byte := blk s 0x0340 calReset
def dayB (s : State) : List Byte := blk s 0x0341 dayReset
def spcB (s : State) : List Byte := blk s 0x0342 spcReset
def dstEn (b : List Byte) : Bool := bit (u32 4 b) 0
def tDefault (b : List Byte) : Nat := bits (u32 4 b) 3 1
def zoneOfs (b : List Byte) : Int := sfld 2 8 b
def dstShift (b : List Byte) : Nat := u16 10 b
def season (b : List Byte) (i : Nat) : Nat := u32 (20 + 4 * i) b
def seasonValid (v : Nat) : Bool := bit v 12
def seasonMonth (v : Nat) : Nat := bits v 3 0
def seasonDay (v : Nat) : Nat := bits v 8 4
def seasonWeek (v : Nat) : Nat := bits v 11 9
/-- The day-profile index of a week profile on a weekday, 0 Monday. -/
def weekDay (b : List Byte) (w d : Nat) : Nat := u8 (52 + 8 * w + d) b
def action (b : List Byte) (p a : Nat) : Nat := u16 (4 + 32 * p + 2 * a) b
def actValid (v : Nat) : Bool := bit v 14
def actMinute (v : Nat) : Nat := bits v 10 0
def actTariff (v : Nat) : Nat := bits v 13 11
def actFriendly (v : Nat) : Bool := bit v 15
def special (b : List Byte) (e : Nat) : Nat := u32 (4 + 4 * e) b
def spcValid (v : Nat) : Bool := bit v 21
def spcYear (v : Nat) : Nat := bits v 6 0
def spcMonth (v : Nat) : Nat := bits v 10 7
def spcDay (v : Nat) : Nat := bits v 15 11
def spcProfile (v : Nat) : Nat := bits v 20 16

/-- Days of a month in a common year. -/
def monthDays (m : Nat) : Nat :=
  if m = 2 then 28 else if m = 4 ∨ m = 6 ∨ m = 9 ∨ m = 11 then 30 else 31

/-- The valid seasons of the calendar block. -/
def seasons (b : List Byte) : List Nat := ((List.range 8).map (season b)).filter seasonValid

def dstRuleOk (v : Nat) : Bool :=
  within (bits v 3 0) 1 12 && within (bits v 6 4) 1 5 && decide (bits v 9 7 ≤ 6) && decide (bits v 26 16 ≤ 1439)

def calOk (b : List Byte) : Bool :=
  let ss := seasons b
  onlyBits (u32 4 b) 0xF && withinI (zoneOfs b) (-720) 840 && decide (dstShift b ≤ 120) &&
    onlyBits (u32 12 b) 0x7FF03FF && onlyBits (u32 16 b) 0x7FF03FF && rsv 116 4 b &&
    (List.range 8).all (fun i => onlyBits (season b i) 0x1FFF && u8 (52 + 8 * i + 7) b == 0) &&
    (!dstEn b || (dstRuleOk (u32 12 b) && dstRuleOk (u32 16 b) && !(u32 12 b == u32 16 b))) &&
    !ss.isEmpty && distinct (ss.map fun v => bits v 8 0) &&
    ss.all (fun v => within (seasonMonth v) 1 12 && within (seasonDay v) 1 (monthDays (seasonMonth v)) &&
      (List.range 7).all fun d => decide (weekDay b (seasonWeek v) d ≤ 23))

/-- The valid actions of a day profile, in the order of their entries. -/
def actions (b : List Byte) (p : Nat) : List Nat := ((List.range 16).map (action b p)).filter actValid

def dayOk (b : List Byte) : Bool :=
  rsv 772 4 b && (List.range 24).all fun p =>
    (actions b p).all (fun v => decide (actMinute v ≤ 1439)) && rising ((actions b p).map actMinute)

/-- The valid special days. -/
def specials (b : List Byte) : List Nat := ((List.range 200).map (special b)).filter spcValid

def spcOk (b : List Byte) : Bool :=
  (List.range 200).all (fun e => onlyBits (special b e) 0x3FFFFF) &&
    (specials b).all (fun v => within (spcMonth v) 1 12 && within (spcDay v) 1 31 && decide (spcProfile v ≤ 23)) &&
    distinct ((specials b).map fun v => bits v 15 0)

/-- The day profiles that a valid season or a valid special day names have a valid action (R106). -/
def calCross (cal day spc : List Byte) : Bool :=
  (seasons cal).all (fun v => (List.range 7).all fun d => !(actions day (weekDay cal (seasonWeek v) d)).isEmpty) &&
    (specials spc).all (fun v => !(actions day (spcProfile v)).isEmpty)

/-! ## Billing block 0x0343 and prepayment blocks 0x0350 to 0x0358 (R121) -/

def bilReset : List Byte := le 4 11 ++ zeros 12

def bilB (s : State) : List Byte := blk s 0x0343 bilReset
/-- Interval length L in minutes. -/
def demL (b : List Byte) : Nat :=
  match bits (u32 4 b) 2 0 with | 0 => 1 | 1 => 5 | 2 => 10 | 3 => 15 | 4 => 30 | _ => 60
def demSub (b : List Byte) : Nat := bits (u32 4 b) 6 3
/-- DEM_ALIGN: local standard time. -/
def demLocal (b : List Byte) : Bool := bit (u32 4 b) 7
def ptpStep (b : List Byte) : Bool := bit (u32 4 b) 8
def periodDay (b : List Byte) : Nat := u16 8 b
def periodMin (b : List Byte) : Nat := u16 10 b
def snapMin (b : List Byte) : Nat := u16 12 b

def bilOk (b : List Byte) : Bool :=
  onlyBits (u32 4 b) 0x1FF && rsv 14 6 b && decide (bits (u32 4 b) 2 0 ≤ 5) && within (demSub b) 1 15 &&
    demL b * 60 % demSub b == 0 && decide (periodDay b ≤ 28) && decide (periodMin b ≤ 1439) && decide (snapMin b ≤ 1439)

def ppReset : List Byte := zeros 4 ++ zeros 44 ++ le 2 200 ++ zeros 2

def ppB (s : State) (m : Nat) : List Byte := blk s (0x0350 + m) ppReset
def ppEn (b : List Byte) : Bool := bit (u32 4 b) 0
def emergAuto (b : List Byte) : Bool := bit (u32 4 b) 1
def friendlyEn (b : List Byte) : Bool := bit (u32 4 b) 2
def supplyCh (b : List Byte) : Nat := bits (u32 4 b) 12 8
def price (b : List Byte) (t : Nat) : Nat := u32 (8 + 4 * t) b
def lowThr (b : List Byte) : Nat := u32 40 b
def emergLimit (b : List Byte) : Nat := u32 44 b
def reconThr (b : List Byte) : Nat := u32 48 b
def auxT (b : List Byte) : Nat := u16 52 b

def ppOk (s : State) (m : Nat) (b : List Byte) : Bool :=
  onlyBits (u32 4 b) 0x1F07 && rsv 54 2 b && (if m = 0 then within (supplyCh b) 1 s.member.hs else supplyCh b == 0) &&
    decide (1 ≤ reconThr b) && within (auxT b) 10 2000

/-! ## Power block 0x0C10 (R460) -/

def pwrReset : List Byte := le 4 (1 + 60 * 256) ++ le 4 20 ++ le 2 1000 ++ zeros 2

/-- The power block in force: the committed one, or the reset values (R460). -/
def pwrB (s : State) : List Byte := (committed s 0x0C10).getD (zeros 4 ++ pwrReset)
def pfwnEn (b : List Byte) : Bool := bit (u32 4 b) 0
def mainsEn (b : List Byte) : Bool := bit (u32 4 b) 1
def mainsLoss (b : List Byte) : Nat := bits (u32 4 b) 15 8
def uNom (b : List Byte) : Nat := bits (u32 4 b) 25 16
def latTol (b : List Byte) : Nat := u32 8 b
def descendT (b : List Byte) : Nat := u16 12 b

def pwrOk (b : List Byte) : Bool :=
  onlyBits (u32 4 b) 0x3FFFF03 && rsv 14 2 b && decide (latTol b ≤ 10000000) && within (descendT b) 100 60000 &&
    within (mainsLoss b) 40 90 && (uNom b == 0 || within (uNom b) 100 690) && !(mainsEn b && uNom b == 0)

end Sys2Proof.Machine
end

