-- ==== Sys2Proof/Machine/Blocks.lean ====
section
/-!
DEFINITION. The settings blocks of the points, the safety functions, the switch channels, the reader, the Tider link and
the display: their fields and rejection rules (R167, R196, R197, R222, R245, R269, R295, R336, R360), and the table of all
settings blocks (R519).
-/

namespace Sys2Proof.Machine

/-! ## Pilot blocks 0x0401 to 0x0408 (R167) -/

def pilotReset : List Byte := zeros 12

/-- The pilot block of a point. -/
def pilotB (s : State) (n : Fin 8) : List Byte := blk s (0x0401 + n.1) pilotReset
def ptEn (b : List Byte) : Bool := bit (u32 4 b) 0
/-- PP_MODE: coded socket. -/
def ppSocket (b : List Byte) : Bool := bits (u32 4 b) 2 1 == 1
def hlcEn (b : List Byte) : Bool := bit (u32 4 b) 3
def fallback (b : List Byte) : Bool := bit (u32 4 b) 4
def maxI (b : List Byte) : Nat := u32 8 b

def pilotOk (b : List Byte) : Bool :=
  onlyBits (u32 4 b) 0x1F && decide (bits (u32 4 b) 2 1 ≤ 1) && within (maxI b) 6000 80000 && rsv 12 4 b

/-! ## HLC blocks 0x0411 to 0x0418 (R196) -/

def hlcReset : List Byte := zeros 16 ++ le 1 40 ++ le 1 2 ++ zeros 1 ++ le 1 10 ++ zeros 4

def hlcB (s : State) (n : Fin 8) : List Byte := blk s (0x0411 + n.1) hlcReset
/-- Bit `i` of HLC_CTL. -/
def hlcBit (b : List Byte) (i : Nat) : Bool := bit (u32 4 b) i
def dinEn (b : List Byte) : Bool := hlcBit b 0
def iso2En (b : List Byte) : Bool := hlcBit b 1
def iso20En (b : List Byte) : Bool := hlcBit b 2
def acEn (b : List Byte) : Bool := hlcBit b 3
def dcEn (b : List Byte) : Bool := hlcBit b 4
def bptEn (b : List Byte) : Bool := hlcBit b 5
def eimEn (b : List Byte) : Bool := hlcBit b 6
def pncEn (b : List Byte) : Bool := hlcBit b 7
def tlsReq (b : List Byte) : Bool := hlcBit b 8
def dynEn (b : List Byte) : Bool := hlcBit b 9
def mtrReceipt (b : List Byte) : Bool := hlcBit b 10
def dcMaxU (b : List Byte) : Nat := u32 8 b
def dcMaxI (b : List Byte) : Nat := u32 12 b
def dcMaxP (b : List Byte) : Nat := u32 16 b
def slacInitT (b : List Byte) : Nat := u8 20 b
def slacRetry (b : List Byte) : Nat := u8 21 b
/-- TX_ATTEN, 0.5 dB. -/
def txAtten (b : List Byte) : Nat := u8 22 b
def prechargeTol (b : List Byte) : Nat := u8 23 b

def hlcOk (n : Nat) (b : List Byte) : Bool :=
  onlyBits (u32 4 b) 0x7FF && rsv 24 4 b && decide (dcMaxU b ≤ 1000000) && within (slacInitT b) 20 50 &&
    decide (slacRetry b ≤ 3) && decide (u8 22 b ≤ 63) && within (prechargeTol b) 1 50 &&
    (dinEn b || iso2En b || iso20En b) && (acEn b || dcEn b) && (eimEn b || pncEn b) && !(dcEn b && decide (4 < n)) &&
    !(dinEn b && !dcEn b) && !(dcEn b && (dcMaxU b == 0 || dcMaxI b == 0 || dcMaxP b == 0))

/-- A DC point: a point of 1 to 4 with DC_EN in its HLC block (R196, R197, R222). -/
def dcPoint (s : State) (n : Fin 8) : Bool := decide (n.1 < 4) && dcEn (hlcB s n)

/-! ## CAN block 0x0420 (R197 to R199) -/

def canPortReset : Nat := 2 + 80 * 32 + 75 * 4096
def canReset : List Byte := (le 4 canPortReset ++ zeros 4) ++ (le 4 canPortReset ++ zeros 4) ++ zeros 384 ++ zeros 1536 ++ zeros 4

def canB (s : State) : List Byte := blk s 0x0420 canReset
def canPort (b : List Byte) (p : Nat) : Nat := u32 (4 + 8 * p) b
def canPortEn (b : List Byte) (p : Nat) : Bool := bit (canPort b p) 0

/-- Frame entry `f`, 16 bytes. -/
def frmE (b : List Byte) (f : Nat) : List Byte := slice (20 + 16 * f) 16 b
def frmId (e : List Byte) : Nat := u32 0 e
def frmFdf (e : List Byte) : Bool := bit (frmId e) 30
def frmValid (e : List Byte) : Bool := bit (u8 4 e) 0
/-- DIR: the frame is received. -/
def frmRx (e : List Byte) : Bool := bit (u8 4 e) 1
def frmPort (e : List Byte) : Nat := bits (u8 4 e) 2 2
def frmChk (e : List Byte) : Nat := bits (u8 4 e) 4 3
def frmDlen (e : List Byte) : Nat := u8 5 e
def frmPeriod (e : List Byte) : Nat := u16 6 e
def frmTimeout (e : List Byte) : Nat := u16 8 e

/-- Signal entry `k`, 16 bytes. -/
def sigE (b : List Byte) (k : Nat) : List Byte := slice (404 + 16 * k) 16 b
def sigFrame (e : List Byte) : Nat := u8 0 e
def sigVar (e : List Byte) : Nat := u8 1 e
def sigStart (e : List Byte) : Nat := u16 2 e
def sigLen (e : List Byte) : Nat := bits (u16 4 e) 4 0 + 1
def sigBig (e : List Byte) : Bool := bit (u16 4 e) 5
def sigSigned (e : List Byte) : Bool := bit (u16 4 e) 6
def sigPoint (e : List Byte) : Nat := bits (u16 4 e) 9 7
def sigValid (e : List Byte) : Bool := bit (u16 4 e) 10
def sigFactor (e : List Byte) : Int := sfld 4 8 e
def sigOffset (e : List Byte) : Int := sfld 4 12 e

/-- The valid signals of a frame, in the order of their entries. -/
def sigsOf (b : List Byte) (f : Nat) : List (List Byte) :=
  ((List.range 96).map (sigE b)).filter fun e => sigValid e && sigFrame e == f

/-- The frame bits of a signal, least significant first (R198). -/
def sigBits (e : List Byte) : List Nat :=
  if sigBig e then
    ((List.range (sigLen e)).map fun i =>
      let r := sigStart e % 8
      if i ≤ r then sigStart e - i else 8 * (sigStart e / 8 + 1 + (i - r - 1) / 8) + 7 - (i - r - 1) % 8).reverse
  else (List.range (sigLen e)).map fun i => sigStart e + i

def dlenOk (e : List Byte) : Bool :=
  decide (frmDlen e ≤ 8) || (frmFdf e && [12, 16, 20, 24, 32, 48, 64].contains (frmDlen e))

def frmOk (e : List Byte) : Bool :=
  onlyBits (u8 4 e) 0x1F && rsv 10 6 e &&
    (!frmValid e || (dlenOk e && within (frmPeriod e) 1 1000 && (!frmRx e || within (frmTimeout e) 10 5000)))

def sigOk (s : State) (b : List Byte) (e : List Byte) : Bool :=
  let f := frmE b (sigFrame e)
  onlyBits (u16 4 e) 0x7FF && rsv 6 2 e &&
    (!sigValid e || (decide (sigFrame e ≤ 23) && within (sigPoint e) 1 (min 4 s.member.points) && !(sigFactor e == 0) &&
      (if frmRx f then within (sigVar e) 16 24 else within (sigVar e) 1 8) && (sigBits e).all (fun p => decide (p < 8 * frmDlen f)) &&
      (!(sigVar e == 7 || sigVar e == 24) || (sigLen e == 8 && sigStart e % 8 == (if sigBig e then 7 else 0)))))

def canPortOk (v : Nat) : Bool :=
  onlyBits v 0x7FFFF && !(bits v 2 1 == 3) && within (bits v 11 5) 60 90 && within (bits v 18 12) 60 90

def canOk (s : State) (b : List Byte) : Bool :=
  (List.range 2).all (fun p => canPortOk (canPort b p) && rsv (8 + 8 * p) 4 b) && rsv 1940 4 b &&
    (List.range 24).all (fun f => frmOk (frmE b f) && distinct ((sigsOf b f).flatMap sigBits)) &&
    (List.range 96).all (fun k => sigOk s b (sigE b k))

/-- A CAN block has the signals a DC point needs (R199). -/
def canHas (b : List Byte) (n : Nat) : Bool :=
  let has := fun (v : Nat) => (List.range 24).any fun f => frmValid (frmE b f) && (sigsOf b f).any fun e => sigVar e == v && sigPoint e == n
  [1, 2, 3, 4, 18].all has

/-! ## Safety blocks 0x0500 to 0x0508 (R245, R246) -/

def sdReset : List Byte := zeros 8
def spReset : List Byte := le 4 32 ++ zeros 6 ++ le 2 200 ++ le 2 50 ++ zeros 2

def sdB (s : State) : List Byte := blk s 0x0500 sdReset
def rstEn (b : List Byte) : Bool := bit (u32 4 b) 0
def confPe (b : List Byte) : Nat := bits (u32 4 b) 15 8
def spB (s : State) (n : Fin 8) : List Byte := blk s (0x0501 + n.1) spReset
def coilCh (b : List Byte) : Nat := bits (u32 4 b) 4 0
def resetMode (b : List Byte) : Nat := bits (u32 4 b) 6 5
def tstMaxAge (b : List Byte) : Nat := bits (u32 4 b) 15 8
def confDc (b : List Byte) : Nat := u16 8 b
def confAc (b : List Byte) : Nat := u8 10 b
def confWb (b : List Byte) : Nat := u8 11 b
def confIso (b : List Byte) : Nat := u16 12 b
/-- WELD_T in µs. -/
def weldT (b : List Byte) : Nat := u16 14 b * 1000
/-- LSV_ABS, V peak. -/
def lsvAbs (b : List Byte) : Nat := u16 16 b

def sdOk (b : List Byte) : Bool := onlyBits (u32 4 b) 0xFF01 && decide (confPe b ≤ 99) && rsv 8 4 b

def spOk (s : State) (b : List Byte) : Bool :=
  onlyBits (u32 4 b) 0xFF7F && within (coilCh b) 1 s.member.hs && decide (tstMaxAge b ≤ 168) && decide (confDc b ≤ 495) &&
    decide (confAc b ≤ 20) && decide (confWb b ≤ 9) && decide (confIso b ≤ 999) && within (u16 14 b) 50 1000 &&
    within (lsvAbs b) 20 120 && rsv 18 2 b

/-! ## Earth blocks 0x0510 to 0x0518 and 0x0521 to 0x0524 (R222, R223) -/

def peReset : List Byte := le 4 (50 * 256) ++ zeros 8
def rcdReset : List Byte := le 4 (1 + 2 + 512) ++ zeros 8 ++ le 4 (6 + 5 * 256 + 30 * 65536 + 50 * 16777216) ++ zeros 4
def isoReset : List Byte := zeros 12 ++ le 2 500 ++ le 2 100 ++ le 2 400 ++ zeros 2

def peB (s : State) : List Byte := blk s 0x0510 peReset
def peChkEn (b : List Byte) : Bool := bit (u32 4 b) 0
def npeEn (b : List Byte) : Bool := bit (u32 4 b) 1
/-- NPE_LIMIT, V rms. -/
def npeLimit (b : List Byte) : Nat := bits (u32 4 b) 15 8
/-- NPE_DIV. -/
def npeDiv (b : List Byte) : Nat := u32 8 b
def rcdB (s : State) (n : Fin 8) : List Byte := blk s (0x0511 + n.1) rcdReset
def xchkEn (b : List Byte) : Bool := bit (u32 4 b) 0
def tstEvery (b : List Byte) : Nat := bits (u32 4 b) 8 1
def tstDaily (b : List Byte) : Bool := bit (u32 4 b) 9
def nSec (b : List Byte) : Nat := u16 8 b
def nTst (b : List Byte) : Nat := u8 10 b
/-- R_BUR, mΩ. -/
def rBur (b : List Byte) : Nat := u32 12 b
/-- CMP_MIN, mA. -/
def cmpMin (b : List Byte) : Nat := 10 * bits (u32 16 b) 7 0
/-- CMP_PCT, 0.1 %. -/
def cmpPct (b : List Byte) : Nat := bits (u32 16 b) 15 8
/-- COMP_TRIP, mA. -/
def compTrip (b : List Byte) : Nat := 10 * bits (u32 16 b) 23 16
def cmpN (b : List Byte) : Nat := bits (u32 16 b) 31 24
def isoB (s : State) (n : Fin 8) : List Byte := blk s (0x0521 + n.1) isoReset
/-- R_MEAS, kΩ. -/
def rMeas (b : List Byte) : Nat := u32 4 b
/-- R_UNB, kΩ. -/
def rUnb (b : List Byte) : Nat := u32 8 b
/-- ISO_DIV. -/
def isoDiv (b : List Byte) : Nat := u32 12 b
def isoWarn (b : List Byte) : Nat := u16 16 b
def isoAlarm (b : List Byte) : Nat := u16 18 b
/-- T_STEP, ms. -/
def tStep (b : List Byte) : Nat := u16 20 b

def peOk (b : List Byte) : Bool :=
  onlyBits (u32 4 b) 0xFF03 && within (npeLimit b) 10 100 && within (u32 8 b) 100 2000 && rsv 12 4 b

def rcdOk (n : Nat) (b : List Byte) : Bool :=
  onlyBits (u32 4 b) 0x3FF && (xchkEn b || decide (n ≤ 4)) && within (nSec b) 100 4000 && within (nTst b) 3 32 && rsv 11 1 b &&
    within (rBur b) 1000 100000 && within (cmpMin b) 30 500 && within (cmpPct b) 1 50 && within (compTrip b) 150 1000 &&
    within (cmpN b) 10 250 && rsv 20 4 b

def isoOk (b : List Byte) : Bool :=
  within (rMeas b) 100 10000 && within (rUnb b) 50 2000 && within (u32 12 b) 100 2000 && within (isoWarn b) 100 1000 &&
    within (isoAlarm b) 50 500 && within (tStep b) 100 2000 && rsv 22 2 b && decide (isoAlarm b < isoWarn b)

/-! ## Channel blocks 0x0601 to 0x0618 and lock blocks 0x0619 to 0x0620 (R269 to R271) -/

def chReset (i : Nat) : List Byte :=
  le 4 (8 + 3 * 16 + 1024 + 10 * 524288) ++ le 4 (10 * 4096 + (if i < 16 then 100 else 20) * 4194304) ++
    le 4 (100 + 10 * 33554432) ++ zeros 4
def lkReset : List Byte := le 4 (32 + 80 * 256) ++ le 4 (300 + 500 * 2048) ++ zeros 4

def chB (s : State) (i : Nat) : List Byte := blk s (0x0601 + i) (chReset i)
def chRole (b : List Byte) : Nat := bits (u32 4 b) 2 0
def autoRestart (b : List Byte) : Bool := bit (u32 4 b) 3
def retryMax (b : List Byte) : Nat := bits (u32 4 b) 7 4
def scLatch (b : List Byte) : Bool := bit (u32 4 b) 8
def thermLatch (b : List Byte) : Bool := bit (u32 4 b) 9
def olOffEn (b : List Byte) : Bool := bit (u32 4 b) 10
def olOnEn (b : List Byte) : Bool := bit (u32 4 b) 11
def resetOff (b : List Byte) : Bool := bit (u32 4 b) 12
def fbSel (b : List Byte) : Nat := bits (u32 4 b) 17 13
def fbPol (b : List Byte) : Bool := bit (u32 4 b) 18
/-- FB_DEB, ms. -/
def fbDeb (b : List Byte) : Nat := bits (u32 4 b) 23 19
/-- Rating of a channel, mA (R251). -/
def chRating (i : Nat) : Nat := if i < 16 then 2500 else if i < 24 then 600 else 1200
/-- Short-circuit threshold of a channel, mA (R251). -/
def chIsc (i : Nat) : Nat := if i < 16 then 8000 else if i < 24 then 4000 else 3000
/-- OC_LIM in force, mA. -/
def ocLim (i : Nat) (b : List Byte) : Nat := if bits (u32 8 b) 11 0 = 0 then chRating i else bits (u32 8 b) 11 0
/-- OC_T, ms. -/
def ocT (b : List Byte) : Nat := bits (u32 8 b) 21 12
def tPull (b : List Byte) : Nat := bits (u32 12 b) 6 0
/-- The inrush window, ms: INRUSH_T, or T_PULL of a coil (R254). -/
def inrushT (b : List Byte) : Nat := if chRole b = 2 then tPull b else bits (u32 8 b) 28 22
/-- HOLD_V, mV. -/
def holdV (b : List Byte) : Nat := bits (u32 12 b) 22 8
/-- RETRY_T, ms. -/
def retryT (b : List Byte) : Nat := 10 * bits (u32 12 b) 31 25
def lkB (s : State) (n : Fin 8) : List Byte := blk s (0x0619 + n.1) lkReset
def lkEn (b : List Byte) : Bool := bit (u32 4 b) 0
/-- LK_TYPE: motor with end stop. -/
def lkMotor (b : List Byte) : Bool := !bit (u32 4 b) 1
/-- LKSn high means locked. -/
def snsPol (b : List Byte) : Bool := bit (u32 4 b) 2
/-- The lock direction drives LKn_B high. -/
def dirSwap (b : List Byte) : Bool := bit (u32 4 b) 3
def lkRetry (b : List Byte) : Nat := bits (u32 4 b) 5 4
/-- LK_STALL, mA. -/
def lkStall (b : List Byte) : Nat := 10 * bits (u32 4 b) 15 8
def lkPulse (b : List Byte) : Nat := bits (u32 8 b) 10 0
def lkConf (b : List Byte) : Nat := bits (u32 8 b) 21 11

/-- The protection parameters in force on a channel: the committed block, or the reset values (R266). -/
def chP (s : State) (i : Nat) : List Byte := (committed s (0x0601 + i)).getD (zeros 4 ++ chReset i)

/-- A channel is named by a word of the limp-home map in force (R267). -/
def inLimpMap (s : State) (i : Nat) : Bool := s.sw.lhMap.any fun w => w.testBit i

def chOk (s : State) (i : Nat) (b : List Byte) : Bool :=
  onlyBits (u32 4 b) 0xFFFFFF && onlyBits (u32 8 b) 0x1FFFFFFF && onlyBits (u32 12 b) 0xFFFFFF7F && rsv 16 4 b &&
    decide (chRole b ≤ 3) && decide (fbSel b ≤ 16) && within (bits (u32 4 b) 23 19) 1 31 && decide (bits (u32 8 b) 11 0 ≤ chRating i) &&
    within (ocT b) 1 1000 && decide (bits (u32 8 b) 28 22 ≤ (if i < 16 then 100 else 20)) && within (bits (u32 12 b) 31 25) 1 100 &&
    (chRole b == 3 || bits (u32 12 b) 24 23 == 0) &&
    within (tPull b) 20 100 && (holdV b == 0 || within (holdV b) 1000 24000) &&
    (if chRole b = 2 then decide (i < 16) && !inLimpMap s i && !(fbSel b == 0) else fbSel b == 0)

def lkOk (b : List Byte) : Bool :=
  onlyBits (u32 4 b) 0xFF3F && onlyBits (u32 8 b) 0x3FFFFF && rsv 12 4 b && within (bits (u32 4 b) 15 8) 20 250 &&
    within (lkPulse b) 20 1000 && within (lkConf b) 20 2000

/-! ## Reader blocks 0x0700 to 0x0708 (R295) -/

def rdrReset : List Byte := le 4 (7 + 3 * 512) ++ le 4 (200 + 500 * 1024 + 30 * 1048576) ++ zeros 16 ++ zeros 16 ++ zeros 4
def authReset : List Byte := le 4 (2 + 8) ++ le 2 10 ++ le 2 60 ++ zeros 4

def rdrB (s : State) : List Byte := blk s 0x0700 rdrReset
def rdrBit (b : List Byte) (i : Nat) : Bool := bit (u32 4 b) i
def appEn (b : List Byte) : Bool := rdrBit b 3
def aidLen (b : List Byte) : Nat := bits (u32 4 b) 8 4
def pingT (b : List Byte) : Nat := bits (u32 8 b) 9 0
def pingTWatch (b : List Byte) : Nat := bits (u32 8 b) 19 10
def detThr (b : List Byte) : Nat := bits (u32 8 b) 27 20
def antCtl (b : List Byte) (k : Nat) : Nat := u16 (12 + 2 * k) b
def antEn (b : List Byte) (k : Nat) : Bool := bit (antCtl b k) 0
/-- MAX_RATE. -/
def maxRate (b : List Byte) : Nat := bits (u32 4 b) 10 9
def authB (s : State) (n : Fin 8) : List Byte := blk s (0x0701 + n.1) authReset
/-- MODE: 0 FREE, 1 LOCAL, 2 LOCAL_HOST, 3 HOST. -/
def authMode (b : List Byte) : Nat := bits (u32 4 b) 1 0
def offlineAccept (b : List Byte) : Bool := bit (u32 4 b) 2
def stopByCard (b : List Byte) : Bool := bit (u32 4 b) 3
def hostT (b : List Byte) : Nat := u16 8 b
def bindT (b : List Byte) : Nat := u16 10 b

def rdrOk (b : List Byte) : Bool :=
  onlyBits (u32 4 b) 0x7FF && onlyBits (u32 8 b) 0xFFFFFFF && rsv 44 4 b && (aidLen b == 0 || within (aidLen b) 5 16) &&
    !(appEn b && aidLen b == 0) && within (pingT b) 50 1000 && within (pingTWatch b) 100 1000 && within (detThr b) 5 200 &&
    (List.range 8).all fun k => onlyBits (antCtl b k) 0xFF

def authOk (b : List Byte) : Bool :=
  onlyBits (u32 4 b) 0xF && within (hostT b) 1 55 && within (bindT b) 10 600 && rsv 12 4 b

/-! ## Tider block 0x0800 (R336, R337) -/

def tdrReset : List Byte :=
  le 4 (4 + 2 * 8 + 32) ++ zeros 4 ++ le 2 60 ++ le 2 600 ++ le 2 900 ++ le 2 300 ++ zeros 6 ++ zeros 2 ++ zeros 4

def tdrEn (b : List Byte) : Bool := bit (u32 4 b) 0
def tdrHolder (b : List Byte) : Bool := bit (u32 4 b) 1
def tdrPhases (b : List Byte) : Nat := if bit (u32 4 b) 2 then 3 else 1
/-- SPAN in seconds. -/
def tdrSpan (b : List Byte) : Nat := 4 * 2 ^ bits (u32 4 b) 4 3
def tdrTx (b : List Byte) : Bool := bit (u32 4 b) 5
def tdrSite (b : List Byte) : Nat := u16 8 b
def tdrNode (b : List Byte) : Nat := u16 10 b
def failsafeI (b : List Byte) : Nat := u16 12 b
def allocTimeout (b : List Byte) : Nat := u16 14 b
def beaconT (b : List Byte) : Nat := u16 16 b
def demPeriod (b : List Byte) : Nat := u16 18 b
def siteI (b : List Byte) (k : Nat) : Nat := u16 (20 + 2 * k) b
def nodeMaxI (b : List Byte) : Nat := u16 26 b

/-- B, the bit positions of a span (R322). -/
def tdrB (span fnom phases : Nat) : Nat := 4 * span * fnom * phases
/-- C, the channels of a span (R322). -/
def tdrC (span fnom phases : Nat) : Nat := (tdrB span fnom phases - 64) / 1036

def tdrOk (b : List Byte) : Bool :=
  onlyBits (u32 4 b) 0x3F && rsv 28 4 b && decide (tdrNode b ≤ 1023) && decide (failsafeI b ≤ 1000) &&
    within (allocTimeout b) 60 3600 && within (beaconT b) 120 3600 && within (demPeriod b) 60 3600 && within (nodeMaxI b) 60 6400 &&
    decide (2 ≤ tdrC (tdrSpan b) 50 (tdrPhases b)) && !(tdrHolder b && !tdrTx b) &&
    !(tdrHolder b && (List.range (tdrPhases b)).any fun k => siteI b k == 0)

/-! ## Display block 0x0900 (R360) -/

def dspReset : List Byte := le 4 8 ++ zeros 6 ++ le 2 200 ++ zeros 12 ++ le 1 10 ++ zeros 3

def dspEn (b : List Byte) : Bool := bit (u32 4 b) 0
def dspW (b : List Byte) : Nat := u16 8 b
def dspH (b : List Byte) : Nat := u16 10 b
/-- RAIL_HOLD, ms. -/
def railHold (b : List Byte) : Nat := u16 14 b
def legalX (b : List Byte) : Nat := u16 16 b
def legalY (b : List Byte) : Nat := u16 18 b
def legalLine (b : List Byte) (k : Nat) : Nat := u16 (20 + 2 * k) b
def lineMeter (v : Nat) : Nat := bits v 3 0
def lineQuantity (v : Nat) : Nat := bits v 7 4
def lineTariff (v : Nat) : Nat := bits v 11 8
def lineValid (v : Nat) : Bool := bit v 12
/-- LEGAL_PERIOD, s. -/
def legalPeriod (b : List Byte) : Nat := u8 28 b
/-- AGE_STEP, units of 100,000 updates. -/
def ageStep (b : List Byte) : Nat := u8 29 b
/-- The valid legal lines in ascending order (R354). -/
def legalLines (b : List Byte) : List Nat := ((List.range 4).map (legalLine b)).filter lineValid

def dspOk (s : State) (b : List Byte) : Bool :=
  onlyBits (u32 4 b) 0xF && !(bits (u32 4 b) 3 2 == 3) && rsv 30 2 b && within (dspW b) 64 800 && dspW b % 8 == 0 &&
    within (dspH b) 64 600 && dspH b % 8 == 0 && decide (u16 12 b ≤ 250) && decide (railHold b ≤ 1000) && legalX b % 8 == 0 &&
    legalY b % 8 == 0 && within (legalPeriod b) 1 60 && (List.range 4).all (fun k => onlyBits (legalLine b k) 0x1FFF) &&
    !(legalLines b).isEmpty && decide (legalX b + 256 ≤ dspW b) && decide (legalY b + 32 * (legalLines b).length ≤ dspH b) &&
    (legalLines b).all fun v => hasGroup s (lineMeter v) && decide (lineQuantity v ≤ 11) && decide (lineTariff v ≤ 8)

/-! ## The table of settings blocks (R519) -/

/-- The size of a block in bytes, if the identifier is in the table (R519). -/
def blockSize (id : Nat) : Option Nat :=
  if id = 0x0110 then some 52
  else if within id 0x0210 0x0218 then some 100
  else if within id 0x0220 0x0228 then some 32
  else if id = 0x0230 then some 44
  else if id = 0x0340 then some 124
  else if id = 0x0341 then some 780
  else if id = 0x0342 then some 808
  else if id = 0x0343 then some 24
  else if within id 0x0350 0x0358 then some 60
  else if within id 0x0401 0x0408 then some 20
  else if within id 0x0411 0x0418 then some 32
  else if id = 0x0420 then some 1948
  else if id = 0x0500 then some 16
  else if within id 0x0501 0x0508 then some 24
  else if id = 0x0510 then some 20
  else if within id 0x0511 0x0518 then some 28
  else if within id 0x0521 0x0524 then some 28
  else if within id 0x0601 0x0618 then some 24
  else if within id 0x0619 0x0620 then some 20
  else if id = 0x0700 then some 52
  else if within id 0x0701 0x0708 then some 20
  else if id = 0x0800 then some 36
  else if id = 0x0900 then some 36
  else if id = 0x0C10 then some 20
  else none

/-- The unit a block names is present (R2). -/
def blockPresent (s : State) (id : Nat) : Bool :=
  if within id 0x0210 0x0218 then hasGroup s (id - 0x0210)
  else if within id 0x0220 0x0228 then hasGroup s (id - 0x0220)
  else if within id 0x0350 0x0358 then hasGroup s (id - 0x0350)
  else if within id 0x0601 0x0618 then hasChan s (id - 0x0601)
  else if within id 0x0619 0x0620 then decide (id - 0x0619 < s.member.points)
  else if within id 0x0401 0x0408 || within id 0x0411 0x0418 || within id 0x0501 0x0508 || within id 0x0511 0x0518 ||
      within id 0x0521 0x0524 || within id 0x0701 0x0708 then decide (id % 16 - 1 < s.member.points)
  else true

/-- The bytes between FORMAT and CRC of a block that holds its reset values (R521). -/
def blockReset (id : Nat) : List Byte :=
  if id = 0x0110 then netReset
  else if within id 0x0210 0x0218 then grpReset
  else if within id 0x0220 0x0228 then mtrReset
  else if id = 0x0230 then plsReset
  else if id = 0x0340 then calReset
  else if id = 0x0341 then dayReset
  else if id = 0x0342 then spcReset
  else if id = 0x0343 then bilReset
  else if within id 0x0350 0x0358 then ppReset
  else if within id 0x0401 0x0408 then pilotReset
  else if within id 0x0411 0x0418 then hlcReset
  else if id = 0x0420 then canReset
  else if id = 0x0500 then sdReset
  else if within id 0x0501 0x0508 then spReset
  else if id = 0x0510 then peReset
  else if within id 0x0511 0x0518 then rcdReset
  else if within id 0x0521 0x0524 then isoReset
  else if within id 0x0601 0x0618 then chReset (id - 0x0601)
  else if within id 0x0619 0x0620 then lkReset
  else if id = 0x0700 then rdrReset
  else if within id 0x0701 0x0708 then authReset
  else if id = 0x0800 then tdrReset
  else if id = 0x0900 then dspReset
  else pwrReset

/-- The rejection rules of a block that concern it alone (BLOCK_ID, FORMAT, size and CRC apart). -/
def blockRules (s : State) (id : Nat) (b : List Byte) : Bool :=
  if id = 0x0110 then netOk b
  else if within id 0x0210 0x0218 then grpOk s (id - 0x0210) b
  else if within id 0x0220 0x0228 then mtrOk b
  else if id = 0x0230 then plsOk s b
  else if id = 0x0340 then calOk b
  else if id = 0x0341 then dayOk b
  else if id = 0x0342 then spcOk b
  else if id = 0x0343 then bilOk b
  else if within id 0x0350 0x0358 then ppOk s (id - 0x0350) b
  else if within id 0x0401 0x0408 then pilotOk b
  else if within id 0x0411 0x0418 then hlcOk (id - 0x0410) b
  else if id = 0x0420 then canOk s b
  else if id = 0x0500 then sdOk b
  else if within id 0x0501 0x0508 then spOk s b
  else if id = 0x0510 then peOk b
  else if within id 0x0511 0x0518 then rcdOk (id - 0x0510) b
  else if within id 0x0521 0x0524 then isoOk b
  else if within id 0x0601 0x0618 then chOk s (id - 0x0601) b
  else if within id 0x0619 0x0620 then lkOk b
  else if id = 0x0700 then rdrOk b
  else if within id 0x0701 0x0708 then authOk b
  else if id = 0x0800 then tdrOk b
  else if id = 0x0900 then dspOk s b
  else if id = 0x0C10 then pwrOk b
  else false

/-- Blocks a point needs in the sense of R18, given the settings in force (R44, R92, R121, R167, R196, R197, R222, R245,
R269, R270, R295). -/
def neededBlocks (s : State) (n : Fin 8) : List Nat :=
  let k := n.1 + 1
  let hlc := hlcEn (pilotB s n)
  [0x0210 + k, 0x0220 + k, 0x0340, 0x0341, 0x0342, 0x0343, 0x0400 + k, 0x0500, 0x0500 + k, 0x0510, 0x0510 + k, 0x0700 + k] ++
    (if (storedCopy s (0x0350 + k)).isSome then [0x0350 + k] else []) ++
    (if hlc then [0x0410 + k] else []) ++ (if dcPoint s n then [0x0420, 0x0520 + k] else []) ++
    (if (committed s (0x0500 + k)).isSome then [0x0600 + coilCh (spB s n)] else []) ++
    (if ppSocket (pilotB s n) then [0x0618 + k] else [])

/-- A block needed by the point has no valid committed copy (R18, R386, R518). -/
def blockMissing (s : State) (n : Fin 8) : Bool := (neededBlocks s n).any fun id => (committed s id).isNone

end Sys2Proof.Machine
end

