-- ==== Sys2Proof/Machine/HostPort.lean ====
section
/-!
DEFINITION. The host command port as every command meets it: the packet checks in their order (R366), addressing (R375),
order of start and fences (R377), repeats (R378), replies (R367, R369) and status codes (R520).
-/

namespace Sys2Proof.Machine

/-! ## Status codes (R520) -/
def stOk : Nat := 0x0000
def stPending : Nat := 0x0001
def stBadCrc : Nat := 0x0101
def stBadOpcode : Nat := 0x0102
def stBadParam : Nat := 0x0103
def stBadLength : Nat := 0x0104
def stBadVersion : Nat := 0x0105
def stState : Nat := 0x0201
def stNoConfig : Nat := 0x0202
def stDenied : Nat := 0x0301
def stPkgRejected : Nat := 0x0302
def stSafetyHold : Nat := 0x0401
def stBusy : Nat := 0x0501
def stLedgerFull : Nat := 0x0502
def stListFull : Nat := 0x0503
def stResourceFull : Nat := 0x0504

/-- What a command's own rules give: done with a reply payload, refused with a status and nothing changed, refused for
want of an authority (its bit number), refused with a state that did change, or waiting for its reply. -/
inductive CmdOut where
  | done (s : State) (payload : List Byte)
  | fail (status : Nat)
  | denied (authority : Nat)
  | failed (s : State) (status : Nat)
  | wait (s : State)

/-- The bytes of a reply packet (R365, R367). -/
def Reply.bytes (r : Reply) : List Byte :=
  withCrc (le 1 2 ++ le 1 r.addr ++ le 2 r.seq ++ le 2 r.opcode ++ le 2 r.flags ++ le 4 r.payload.length ++ le 2 r.status ++
    le 2 r.boot ++ r.payload)

/-- The reply packet to a command packet (R367): payload only with ST_OK. -/
def mkReply (s : State) (p : Pkt) (op status : Nat) (payload : List Byte) : Reply :=
  { src := p.src, addr := s.pwr.addr, seq := p.seq, opcode := op, flags := 0x8000 + p.flags % 16, status,
    boot := s.led.bootCnt % 2 ^ 16, payload := if status = 0 then payload else [] }

/-- Where a network reply or notification goes: the address and port as one number. -/
def Source.dst : Source → Nat
  | .spi => 0
  | .net ip port => ip * 2 ^ 16 + port

/-- A frame leaves the device. -/
def emit (f : Frame) (s : State) : State := { s with port.out := f :: s.port.out }

/-- A reply leaves for its source: to the SPI reply queue, or as a datagram (R369, R374). -/
def sendReply (r : Reply) (s : State) : State :=
  match r.src with
  | .spi => { s with port.spiOut := s.port.spiOut ++ [r] }
  | .net _ _ => emit { kind := 1, dst := Source.dst r.src, data := r.bytes } s

/-- The packet is a broadcast (R376). -/
def isBroadcast (p : Pkt) : Bool := p.addr == 0xFF
/-- FENCE_BEFORE. -/
def fenceBefore (p : Pkt) : Bool := p.flags.testBit 0
/-- FENCE_AFTER. -/
def fenceAfter (p : Pkt) : Bool := p.flags.testBit 1
/-- NO_REPLY. -/
def noReply (p : Pkt) : Bool := p.flags.testBit 2
/-- URGENT. -/
def urgent (p : Pkt) : Bool := p.flags.testBit 3

/-- The answer to a packet check that fails: none to a broadcast or with NO_REPLY (R366). -/
def checkFail (p : Pkt) (op status : Nat) (s : State) : State :=
  if (isBroadcast p) || (noReply p) then s else sendReply (mkReply s p op status []) s

/-- A packet discarded without reply (R366, R391). -/
def rxDrop (s : State) : State := { s with port.rxDrop := satAdd 32 s.port.rxDrop 1 }

/-- ADDR is accepted on the packet's port (R375). -/
def addrOk (s : State) (p : Pkt) : Bool :=
  p.addr == s.pwr.addr || p.addr == 0xFF || (p.addr == 0xFE && p.src == .spi)

/-- The subsystem of an opcode: its high byte (R514). -/
def subsys (op : Nat) : Nat := op / 256

/-- The opcode runs in the wait state (R387). -/
def waitStateOp (op : Nat) : Bool := [0x01, 0x0A, 0x0B, 0x0C, 0x0D].contains (subsys op)

/-- The opcode is accepted in the present port state (R387). -/
def opAccepted (s : State) (op : Nat) : Bool := !s.port.wait || waitStateOp op

/-! ## Kept commands (R378) -/

/-- The kept command with the packet's source and SEQ, not older than 60 s. -/
def keptOf (s : State) (p : Pkt) : Option Kept :=
  s.port.kept.find? fun k => k.src == p.src && k.seq == p.seq && decide (s.clk.mono < k.t0 + 60000000)

/-- At most 16 kept commands of each source, newest first. -/
def trim16 (acc : List Kept) : List Kept → List Kept
  | [] => acc.reverse
  | k :: ks => if (acc.filter fun a => a.src == k.src).length < 16 then trim16 (k :: acc) ks else trim16 acc ks

/-- The kept commands' network sources, the one whose last command is newest first, at most 8. -/
def keptNets (l : List Kept) : List Source := ((l.map (·.src)).filter fun x => !(x == .spi)).eraseDups.take 8

/-- Keep a command: 16 for each source, the SPI port and 8 network sources (R378). A displaced source loses its proven
grants (R417). -/
def keep (k : Kept) (s : State) : State :=
  let l := k :: s.port.kept
  let nets := keptNets l
  let l := l.filter fun a => a.src == .spi || nets.contains a.src
  let gone := fun (x : Source) => !(x == .spi) && s.port.kept.any (fun a => a.src == x) && !(nets.contains x)
  { s with port.kept := trim16 [] l, key.grants := s.key.grants.filter fun g => !(gone g.src) }

/-- The reply of a completed command is kept, unless its status is of class 0x01, which is not kept (R378). -/
def keepReply (f : Flight) (r : Reply) (s : State) : State :=
  let mine := fun (k : Kept) => k.src == f.pkt.src && k.seq == f.pkt.seq && k.reply.isNone
  if r.status / 256 = 1 then { s with port.kept := s.port.kept.filter fun k => !(mine k) }
  else { s with port.kept := s.port.kept.map fun k => if mine k then { k with reply := some r } else k }

/-! ## Order of start (R377) -/

/-- Commands received and not yet replied to (R366). -/
def outstanding (s : State) : List Flight := s.port.flights ++ s.port.held

/-- `f` must wait for a fence: its own FENCE_BEFORE, or FENCE_AFTER of an earlier command of its source (R377). -/
def fenced (s : State) (f : Flight) : Bool :=
  (outstanding s).any fun g => g.pkt.src == f.pkt.src && decide (g.no < f.no) && ((fenceBefore f.pkt) || (fenceAfter g.pkt))

/-- A command of the same subsystem that must start first waits (R377). -/
def behind (s : State) (f : Flight) : Bool :=
  s.port.held.any fun g => subsys g.opcode == subsys f.opcode &&
    (((urgent g.pkt) && !(urgent f.pkt)) || ((urgent g.pkt) == (urgent f.pkt) && decide (g.no < f.no)))

/-- The command may start. -/
def startable (s : State) (f : Flight) : Bool := !fenced s f && !behind s f

/-! ## Completing and starting commands -/

/-- A flight leaves the list of commands not yet replied to. -/
def dropFlight (f : Flight) (s : State) : State :=
  { s with port.flights := s.port.flights.filter fun g => !(g.no == f.no) }

/-- A command completes: its reply is kept, and sent unless NO_REPLY or unless a reset of the port has discarded it
(R367, R378, R379). -/
def complete (f : Flight) (status : Nat) (payload : List Byte) (s : State) : State :=
  if s.port.flights.any fun g => g.no == f.no then
    let r := mkReply s f.pkt f.opcode status payload
    let s := keepReply f r (dropFlight f s)
    if (noReply f.pkt) then s else sendReply r s
  else s

/-- A waiting command completes with ST_OK. -/
def finish (f : Flight) (payload : List Byte) (s : State) : State := complete f stOk payload s

/-- E122 for a refusal with ST_DENIED: opcode, master identity, authority missing (R414, R422). -/
def deniedEvent (f : Flight) (auth : Nat) (s : State) : State :=
  pulse 122 (prm [(2, f.opcode), (1, Source.ident f.pkt.src), (1, auth)]) s

/-- A command starts: its own rules run on the state that counts it as running. -/
def startCmd (f : Flight) (body : Flight → State → CmdOut) (s : State) : State :=
  let s := { s with port.flights := s.port.flights ++ [f] }
  match body f s with
  | .done s' pl => complete f stOk pl s'
  | .fail st => complete f st [] (if st = stDenied then deniedEvent f 0 s else s)
  | .denied b => complete f stDenied [] (deniedEvent f (2 ^ b) s)
  | .failed s' st => complete f st [] (if st = stDenied then deniedEvent f 0 s' else s')
  | .wait s' => s'

/-- The flight of a packet received now. -/
def newFlight (s : State) (p : Pkt) (op : Nat) : Flight := { pkt := p, opcode := op, no := s.port.rxNo, t0 := s.clk.mono }

/-- A packet that passed the packet checks is taken: it is counted and kept (R378, R391). -/
def takeCmd (p : Pkt) (op : Nat) (s : State) : State :=
  keep { src := p.src, seq := p.seq, opcode := op, t0 := s.clk.mono }
    { s with port.rxNo := s.port.rxNo + 1, port.rxOk := satAdd 32 s.port.rxOk 1 }

/-- The port cannot take the packet: it does not execute commands, or eight SPI replies wait (R368, R369). -/
def noRoom (s : State) (p : Pkt) : Bool := !s.port.ready || (p.src == .spi && decide (8 ≤ s.port.spiOut.length))

/-- A packet that is not taken: OVERRUN on the SPI port, nothing on a network port that does not run (R369). -/
def refusePkt (p : Pkt) (s : State) : State :=
  if p.src == .spi then { s with port.overrun := true } else s

/-- A repeat of a kept SEQ (R378). -/
def answerRepeat (k : Kept) (p : Pkt) (op : Nat) (s : State) : State :=
  if k.opcode ≠ op then checkFail p op stBadParam s
  else match k.reply with
    | none => checkFail p op stPending s
    | some r => if (noReply p) then s else sendReply r s

/-- A command packet reaches the port: the checks of R366 in their order, the wake of R443, then the order of
start of R377. -/
def command (op : Nat) (body : Flight → State → CmdOut) (p : Pkt) (s : State) : State :=
  if noRoom s p then refusePkt p s
  else if p.flags.testBit 15 then s
  else if !addrOk s p then rxDrop s
  else if 16384 < p.payload.length then checkFail p op stBadLength s
  else
  let s := wake 0 s
  if 16 ≤ p.flags then checkFail p op stBadParam s
  else if !opAccepted s op then checkFail p op stNoConfig s
  else match keptOf s p with
    | some k => answerRepeat k p op s
    | none =>
      if 32 ≤ (outstanding s).length then checkFail p op stBusy s
      else
        let f := newFlight s p op
        let s := takeCmd p op s
        if startable s f then startCmd f body s else { s with port.held := s.port.held ++ [f] }

/-- A command whose parameters have exactly `n` bytes; any other length is ST_BAD_PARAM (R515). -/
def sized (n : Nat) (body : Flight → State → CmdOut) (f : Flight) (s : State) : CmdOut :=
  if f.pkt.payload.length = n then body f s else .fail stBadParam

/-- Refuse with a status unless a condition holds. -/
def need (c : Bool) (status : Nat) (k : CmdOut) : CmdOut := if c then k else .fail status

/-- Refuse for want of an authority. -/
def needAuth (s : State) (f : Flight) (b : Nat) (k : CmdOut) : CmdOut :=
  if holds s f.pkt.src b then k else .denied b

/-- T_APPLIED, the reply of a commit (8 bytes). -/
def tApplied (s : State) : List Byte := le 8 (now s)

end Sys2Proof.Machine
end

