-- ==== Sys2Proof/Machine/Commit.lean ====
section
/-!
DEFINITION. What every commit command shares (R518): the stored copies it takes at its start, the checks of copies that
BLK_WRITE did not write, and the copies a waiting commit holds.
-/

namespace Sys2Proof.Machine

/-- The stored copies of identifiers, when every one has a valid stored copy in the expected format (R433, R518). -/
def storedAll (s : State) (ids : List Nat) : Option (List BlkCopy) :=
  let cs := ids.filterMap fun id => (s.blk.stored.find? fun c => c.id == id && c.bstate != 2 && formatFits s c)
  if cs.length = ids.length then some cs else none

/-- The contactor of a point is not open: closed, its coil energised, in closing step 3, or found welded (R45, R95, R241 to R243,
R247; log entry 1010). -/
def contactorShut (s : State) (n : Fin 8) : Bool :=
  (vget s.safe n).closed || (vget s.safe n).coil || (vget s.safe n).path == 3 || (vget s.nvPt n).welded

/-- Remember the copies a waiting commit took (R518). -/
def take (f : Flight) (cs : List BlkCopy) (s : State) : State := { s with blk.taken := (f, cs) :: s.blk.taken }

/-- The copies the waiting commit of a flight took. -/
def takenBy (s : State) (f : Flight) : List BlkCopy := ((s.blk.taken.find? fun t => t.1.no == f.no).map (·.2)).getD []

/-- The commit of an opcode that waits to be applied. -/
def waitingCommit (s : State) (op : Nat) : Option Flight := (s.blk.taken.find? fun t => t.1.opcode == op).map (·.1)

/-- Waiting commits of subsystems a reset has discarded are forgotten; one that runs where the reset does not reach is applied
without a reply (R379). -/
def dropCommits (subs : List Nat) (s : State) : State :=
  { s with blk.taken := s.blk.taken.filter fun t => !(subs.contains (subsys t.1.opcode)) }

/-- The waiting commit is over: its copies are forgotten. -/
def untake (f : Flight) (s : State) : State := { s with blk.taken := s.blk.taken.filter fun t => !(t.1.no == f.no) }

/-- Take the stored copies of identifiers for a commit: ST_NO_CONFIG when one has no valid stored copy, ST_BAD_PARAM when
a copy not written by BLK_WRITE breaks a rule of its block (R518, R521, R433). -/
def takeStored (s : State) (ids : List Nat) (k : List BlkCopy → CmdOut) : CmdOut :=
  match storedAll s ids with
  | none => .fail stNoConfig
  | some cs => if cs.all (fun c => c.byHost || blockRules s c.id c.bytes) then k cs else .fail stBadParam

/-- A block as a commit will leave it: the copy taken, or the committed copy, or the reset values (R518, R521). -/
def afterCommit (s : State) (cs : List BlkCopy) (id : Nat) : List Byte :=
  match cs.find? fun c => c.id == id with
  | some c => c.bytes
  | none => blk s id (blockReset id)

end Sys2Proof.Machine
end

