-- ==== Sys2Proof/Machine/Arith.lean ====
section
/-!
DEFINITION. Arithmetic the chapters share: convergent rounding (R50), square roots, civil dates, local time (R104), tariff
selection (R107) and the labels of billing boundaries (R112).
-/

namespace Sys2Proof.Machine

/-- `a / d` rounded convergently: to the nearest integer, a tie to the even one (R50). -/
def conv (a : Int) (d : Nat) : Int :=
  let q := a / (d : Int)
  let r := a % (d : Int)
  if 2 * r < d then q else if (d : Int) < 2 * r then q + 1 else if q % 2 = 0 then q else q + 1

/-- The mean of some values rounded convergently, 0 of none. -/
def meanI (l : List Int) : Int := if l.isEmpty then 0 else conv l.sum l.length

/-- Convergent rounding of a quotient of naturals. -/
def convN (a d : Nat) : Nat := (conv a d).toNat

/-- Bit-by-bit square root: the largest `r` built on `r0` with the `k` bits below it. -/
def sqrtGo (n : Nat) : Nat → Nat → Nat
  | 0, r => r
  | k + 1, r => if (r + 2 ^ k) * (r + 2 ^ k) ≤ n then sqrtGo n k (r + 2 ^ k) else sqrtGo n k r

/-- Integer square root, rounded down. -/
def isqrt (n : Nat) : Nat := sqrtGo n (Nat.log2 n / 2 + 1) 0

/-- Square root of `a / d` rounded convergently; 0 without a divisor. -/
def convSqrt (a d : Nat) : Nat :=
  if d = 0 then 0
  else
    let t := isqrt (4 * a / d)
    let k := t / 2
    if t % 2 = 1 then (if t * t * d = 4 * a ∧ k % 2 = 0 then k else k + 1) else k

/-! ## Cosine and sine (R74), log entry 402 -/

/-- A quarter turn, π/2, in units of 2^-40. -/
def quarterTurn : Nat := 1727108826179

/-- The alternating series 1 − y/d₁ (1 − y/d₂ (1 − …)), in units of 2^-40. -/
def altSeries (y : Nat) : List Nat → Int
  | [] => 2 ^ 40
  | d :: ds => 2 ^ 40 - y * altSeries y ds / (2 ^ 40 * d)

/-- Cosine and sine, in units of 2^-40, of an angle `x` of the first quarter turn in the same units. -/
def cosSinQuarter (x : Nat) : Int × Int :=
  let y := x * x / 2 ^ 40
  (altSeries y [2, 12, 30, 56, 90, 132, 182], x * altSeries y [6, 20, 42, 72, 110, 156, 210] / 2 ^ 40)

/-- Cosine and sine of 2π n / d, in units of 2^-30 (R74). -/
def cosSinTurn (n : Int) (d : Nat) : Int × Int :=
  let r := (n % (d : Int)).toNat * 4
  let cs := cosSinQuarter (quarterTurn * (r % d) / d)
  let c := conv cs.1 1024
  let s := conv cs.2 1024
  match r / d with
  | 0 => (c, s) | 1 => (-s, c) | 2 => (-c, -s) | _ => (s, -c)

/-- A value limited to a range. -/
def clampI (lo hi v : Int) : Int := max lo (min hi v)

/-! ## Civil dates -/

/-- Microseconds of a day. -/
def dayUs : Nat := 86400000000

/-- Year, month and day of the day numbered from 2000-01-01; days before it are negative. -/
def civil (days : Int) : Nat × Nat × Nat :=
  let z := (days + 730425).toNat
  let era := z / 146097
  let doe := z % 146097
  let yoe := (doe - doe / 1460 + doe / 36524 - doe / 146096) / 365
  let doy := doe - (365 * yoe + yoe / 4 - yoe / 100)
  let mp := (5 * doy + 2) / 153
  let d := doy - (153 * mp + 2) / 5 + 1
  let m := if mp < 10 then mp + 3 else mp - 9
  (yoe + era * 400 + (if m ≤ 2 then 1 else 0), m, d)

/-- Number from 2000-01-01 of a date. -/
def dayNo (y m d : Nat) : Int :=
  let y' := if m ≤ 2 then y - 1 else y
  let era := y' / 400
  let yoe := y' % 400
  let mp := if m > 2 then m - 3 else m + 9
  let doy := (153 * mp + 2) / 5 + d - 1
  (era * 146097 + (yoe * 365 + yoe / 4 - yoe / 100 + doy) : Nat) - 730425

/-- Weekday of a day number, 0 Monday. -/
def weekday (days : Int) : Nat := ((days + 5) % 7).toNat

/-- A leap year. -/
def leap (y : Nat) : Bool := y % 4 == 0 && (!(y % 100 == 0) || y % 400 == 0)

/-! ## Local time (R104) -/

/-- Local standard time of a device time, from 2000-01-01; it is negative before it, west of Greenwich. -/
def localStd (cal : List Byte) (t : Nat) : Int := (t : Int) + zoneOfs cal * 60000000

/-- The instant of a transition rule in a year, in local standard time (R105). -/
def ruleInstant (v y : Nat) : Int :=
  let m := bits v 3 0
  let fst0 := dayNo y m 1
  let f := fst0 + ((bits v 9 7 + 7 - weekday fst0) % 7 : Nat)
  let len : Int := monthDays m + (if m = 2 ∧ leap y then 1 else 0)
  let d := if bits v 6 4 = 5 then (if f + 28 < fst0 + len then f + 28 else f + 21) else f + 7 * ((bits v 6 4 : Int) - 1)
  d * dayUs + bits v 26 16 * 60000000

/-- The latest instant of a rule at or before a local standard time. -/
def latestRule (v : Nat) (lst : Int) : Int :=
  let y := (civil (lst / dayUs)).1
  if ruleInstant v y ≤ lst then ruleInstant v y else ruleInstant v (y - 1)

/-- Daylight saving is in force (R104). -/
def dstInForce (cal : List Byte) (t : Nat) : Bool :=
  dstEn cal && decide (latestRule (u32 16 cal) (localStd cal t) < latestRule (u32 12 cal) (localStd cal t))

/-- Local wall time of a device time (R104). -/
def wall (cal : List Byte) (t : Nat) : Int :=
  localStd cal t + if dstInForce cal t then dstShift cal * 60000000 else 0

/-! ## Tariff selection (R107) -/

/-- The special day that matches a date: a year-specific entry first (R106). -/
def specialFor (spc : List Byte) (days : Int) : Option Nat :=
  let c := civil days
  let same := (specials spc).filter fun v => spcMonth v == c.2.1 && spcDay v == c.2.2
  match same.find? fun v => spcYear v + 2000 == c.1 && decide (spcYear v ≤ 126) with
  | some v => some v
  | none => same.find? fun v => spcYear v == 127

/-- The season in force on a date: the latest start in the year, else the last season of the year before. -/
def seasonOn (cal : List Byte) (days : Int) : Nat :=
  let c := civil days
  let key := fun v => seasonMonth v * 32 + seasonDay v
  let ss := seasons cal
  let top := fun (l : List Nat) => l.foldl (fun a v => if key a ≤ key v then v else a) (l.headD 0)
  let past := ss.filter fun v => decide (key v ≤ c.2.1 * 32 + c.2.2)
  if past.isEmpty then top ss else top past

/-- The day profile of a date. -/
def profileOn (cal spc : List Byte) (days : Int) : Nat :=
  match specialFor spc days with
  | some v => spcProfile v
  | none => weekDay cal (seasonWeek (seasonOn cal days)) (weekday days)

/-- The action in force at a device time: tariff and friendly bit (R107, R119). -/
def actionAt (cal day spc : List Byte) (t : Nat) : Nat × Bool :=
  let lt := wall cal t
  let d := lt / dayUs
  let minute := (lt % dayUs / 60000000).toNat
  let now := (actions day (profileOn cal spc d)).filter fun v => decide (actMinute v ≤ minute)
  let v := if now.isEmpty then (actions day (profileOn cal spc (d - 1))).getLastD 0 else now.getLastD 0
  (actTariff v, actFriendly v)

/-- A calendar is committed: blocks 0x0340 to 0x0342 (R107). -/
def hasCalendar (s : State) : Bool :=
  (committed s 0x0340).isSome && (committed s 0x0341).isSome && (committed s 0x0342).isSome

/-- The tariff (0 for T1) and the friendly bit in force at a device time (R107). -/
def tariffAt (s : State) (t : Nat) : Nat × Bool :=
  if !hasCalendar s then (0, false)
  else if !s.clk.timeValid then (tDefault (calB s), false)
  else actionAt (calB s) (dayB s) (spcB s) t

/-! ## Labels (R112) -/

/-- Length of a demand sub-interval in microseconds (R108). -/
def subUs (b : List Byte) : Nat := demL b * 60 / demSub b * 1000000

/-- A local time as a label: none before 2000-01-01, where an unsigned label has no value (log entry 508). -/
def asLabel (l : Int) : Option Nat := if 0 ≤ l then some l.toNat else none

/-- The demand label at or before now, on the scale of DEM_ALIGN (R108, R112). -/
def demandLabel (s : State) : Option Nat :=
  let b := bilB s
  let t : Int := if demLocal b then localStd (calB s) (now s) else now s
  if subUs b = 0 then none else asLabel (t / (subUs b : Int) * subUs b)

/-- The daily label at or before now, in local wall time. -/
def dailyLabel (s : State) : Option Nat :=
  let w := wall (calB s) (now s)
  let l := w / dayUs * dayUs + snapMin (bilB s) * 60000000
  asLabel (if l ≤ w then l else l - dayUs)

/-- The billing-period label at or before now, in local wall time; none with PERIOD_DAY 0 (R111). -/
def periodLabel (s : State) : Option Nat :=
  let b := bilB s
  let w := wall (calB s) (now s)
  let c := civil (w / dayUs)
  let lab := fun y m => dayNo y m (periodDay b) * dayUs + periodMin b * 60000000
  if periodDay b = 0 then none
  else if lab c.1 c.2.1 ≤ w then asLabel (lab c.1 c.2.1)
  else if c.2.1 = 1 then asLabel (lab (c.1 - 1) 12)
  else asLabel (lab c.1 (c.2.1 - 1))

end Sys2Proof.Machine
end

