-- ==== Sys2Proof/Machine/Meter.lean ====
section
/-!
DEFINITION. Operations of the energy engine and of billing that several families use: samples in a window, boundaries and
their sides (R72), delivery of increments to every register that receives them (R77, R98, R101, R118), netting (R82), the
closes a boundary asks for (R109, R111, R139), and the write of class P100 (R128).
-/

namespace Sys2Proof.Machine

/-! ## Updates of one meter's parts -/

def modMeter (m : Fin 9) (f : Meter → Meter) (s : State) : State := { s with en.m := vmod s.en.m m f }
def modMeterP (m : Fin 9) (f : MeterP → MeterP) (s : State) : State := { s with p100.m := vmod s.p100.m m f }
def modSessP (n : Fin 8) (f : SessP → SessP) (s : State) : State := { s with p100.sess := vmod s.p100.sess n f }
def modWin (m : Fin 9) (f : Win → Win) (s : State) : State := modMeter m (fun x => { x with win := f x.win }) s

/-- The point of a meter, none for meter 0. -/
def pointOfMeter (m : Fin 9) : Option (Fin 8) := if h : m.1 ≠ 0 then some ⟨m.1 - 1, by omega⟩ else none

/-- Sample rate of a PRESET, samples per second (R49). -/
def presetRate (p : Nat) : Nat := match p with | 0 => 32000 | 1 => 8000 | 2 => 4000 | _ => 1000

/-- Filter group delay of a PRESET, in 1/64 µs (R49). -/
def presetDelay (p : Nat) : Nat :=
  match p with | 0 => 24560 | 1 => 162560 | 2 => 346560 | _ => 1450560

/-- Settling time of a PRESET, µs rounded up (R49). -/
def presetSettle (p : Nat) : Nat := match p with | 0 => 768 | 1 => 5080 | 2 => 10830 | _ => 45330

/-- The metering elements of a SYSTEM: voltage and current channel (R69). -/
def elements (sys : Nat) : List (Nat × Nat) :=
  match sys with | 0 => [(4, 0), (5, 1), (6, 2)] | 1 => [(4, 0), (6, 2)] | _ => [(4, 0)]

/-- The reference voltage channel of a group, if one is enabled (R60). -/
def refChan (b : List Byte) : Option Nat :=
  if chEn b 4 then some 4 else if chEn b 5 then some 5 else if chEn b 6 then some 6 else none

/-- The detector of channel `c` of group `g`. -/
def detOf (s : State) (g c : Nat) : Det := vat s.filt.det (8 * g + c) {}

/-- The group's tracked period, 1/64 µs (R61). -/
def trackedPeriod (s : State) (g : Nat) : Option Nat :=
  let b := grp s g
  if grpSystem b = 3 then none
  else match refChan b with | some c => (detOf s g c).period | none => none

/-- FREQ in mHz, if valid (R73). -/
def freqOf (s : State) (g : Nat) : Option Nat :=
  match trackedPeriod s g with
  | some p =>
    let f := convN 64000000000 p
    if p = 0 then none else if within f 40000 70000 then some f else none
  | none => none

/-- The meter accumulates: metering is valid, its group is enabled, its meter block committed (R43, R44, R92). -/
def meterRuns (s : State) (m : Nat) : Bool :=
  s.fe.valid && hasGroup s m && grpEn (grp s m) && (committed s (0x0220 + m)).isSome

/-! ## Class P100 (R128) -/

/-- The valid copy with the higher write count. -/
def p100Newest (s : State) : Option (Nat × P100) :=
  match s.nvBill.copyA, s.nvBill.copyB with
  | some a, some b => if b.1 < a.1 then some a else some b
  | some a, none => some a
  | none, b => b

/-- Write class P100: alternately to one of two copies, with a rising write count (R128). -/
def persist (s : State) : State :=
  let c := ((p100Newest s).map (·.1)).getD 0 + 1
  let x := some (c % 2 ^ 32, { s.p100 with time := now s })
  if c % 2 = 1 then { s with nvBill.copyA := x } else { s with nvBill.copyB := x }

/-! ## Increments (R77, R79, R89, R98, R101, R118) -/

/-- The pulse stages of a quantity receive an increment; the pulses it adds are counted for the window (R90, R91). -/
def pulses (m q delta : Nat) (s : State) : State :=
  (units 4).foldl (fun t (i : Fin 4) =>
    let b := pls t
    if plsEn b i.1 && plsMeter b i.1 == m && plsQuantity b i.1 == q then
      let p := vget t.en.pls i
      let acc := p.pacc + delta * plsConst b i.1
      let k := acc / 1000000000
      let pend := p.pend + k
      let t := { t with en.pls := vset t.en.pls i { p with pacc := acc % 1000000000, pend := min pend 65535, added := p.added + k } }
      if 65535 < pend then pulse 27 (prm [(1, m), (8, (vat t.en.m m {}).win.start)]) t else t
    else t) s

/-- The k pulses a window of `len` µs added are issued at a period of its length ÷ k (R91). -/
def pulsePeriods (m len : Nat) (s : State) : State :=
  (units 4).foldl (fun t (i : Fin 4) =>
    if plsMeter (pls t) i.1 == m && decide (0 < (vget t.en.pls i).added) then
      { t with en.pls := vmod t.en.pls i fun p => { p with
        period := max (len / p.added) (4000 * plsWidth (pls t) i.1), added := 0 } }
    else t) s

/-- A displayed or compact form of a register wraps between two µWh values (R102, R127). -/
def wraps (a b : Nat) : Bool :=
  let v := fun x => x / 1000 / 10000
  !(v a / 1000000000 == v b / 1000000000 && v a / 2 ^ 32 == v b / 2 ^ 32)

/-- The demand index of a quantity: A+, A−, S+, S− (R108, R124). -/
def demIx (q : Nat) : Option (Fin 4) :=
  match q with | 0 => some 0 | 1 => some 1 | 8 => some 2 | 9 => some 3 | _ => none

/-- Prepayment charges an A+ increment at the side's price (R118). -/
def chargeCredit (m : Fin 9) (delta : Nat) (sd : Side) (s : State) : State :=
  match sd.price with
  | none => s
  | some p =>
    let c := vget s.pfw.cres m + delta * p
    let charge := c / 1000000000
    let s := modMeterP m (fun x => { x with credit := x.credit - charge })
      { s with pfw.cres := vset s.pfw.cres m (c % 1000000000) }
    match pointOfMeter m with
    | some n => if sd.sess then modSessP n (fun x => { x with charge := x.charge + charge }) s else s
    | none => s

/-- Deliver an increment of quantity `q` of a side: ACC, the tariff accumulator, the session accumulators, demand, credit
and pulses (R77, R79, R98, R101, R108, R118, R130). -/
def deliverInc (m : Fin 9) (q : Fin 12) (delta : Nat) (sd : Side) (s : State) : State :=
  if delta = 0 then s
  else
    let old := vget s.p100.m m
    let a0 := vget old.acc q
    let t0 := vget (vat old.tacc sd.tariff (Vector.replicate 12 0)) q
    let s := modMeterP m (fun x => { x with
      acc := vmod x.acc q (· + delta)
      tacc := vatMod x.tacc sd.tariff fun v => vmod v q (· + delta)
      demCur := match demIx q.1 with
        | some d => if sd.tInv || (committed s 0x0343).isNone then x.demCur else vmod x.demCur d (· + delta)
        | none => x.demCur }) s
    let s := match pointOfMeter m with
      | some n => if sd.sess then modSessP n (fun x => { x with
          acc := vmod x.acc q (· + delta)
          apT := if q.1 = 0 then vatMod x.apT sd.tariff (· + delta) else x.apT
          amT := if q.1 = 1 then vatMod x.amT sd.tariff (· + delta) else x.amT }) s else s
      | none => s
    let s := if q.1 = 0 then chargeCredit m delta sd s else s
    let s := pulses m.1 q.1 delta s
    if wraps a0 (a0 + delta) || wraps t0 (t0 + delta) then pulse 40 (prm [(1, m.1), (8, sd.tEnd.getD (now s))]) s else s

/-- Transfer a contribution to one quantity through its residue, and deliver what it yields; R+ and R− receive exactly
the increments of their quadrants (R76, R77). -/
def transferQ (m : Fin 9) (q : Fin 12) (c : Nat) (sd : Side) (s : State) : State :=
  let d := presetRate (grpPreset (grp s m.1)) * 3600 * 65536
  let r := vget (vget s.pfw.res m) q + c
  let delta := r / d
  let s := { s with pfw.res := vmod s.pfw.res m fun v => vset v q (r % d) }
  let s := deliverInc m q delta sd s
  if q.1 = 4 ∨ q.1 = 5 then deliverInc m 2 delta sd s
  else if q.1 = 6 ∨ q.1 = 7 then deliverInc m 3 delta sd s else s

/-- The flags of a window reach the quality words that receive its increments (R89, R137). -/
def markFlags (m : Fin 9) (flags : Nat) (sd : Side) (s : State) : State :=
  let f := flags ||| (if sd.tInv then 0x100 else 0)
  let s := modMeterP m (fun x => { x with
    profQual := x.profQual ||| f, dayQual := x.dayQual ||| f
    perFlag := x.perFlag || f % 256 != 0, perInv := x.perInv || sd.tInv }) s
  let s := modMeter m (fun x => { x with lastQual := f }) s
  match pointOfMeter m with
  | some n => if sd.sess then modSessP n (fun x => { x with qual := x.qual ||| f }) s else s
  | none => s

/-- The signed sums of a period or window as contributions to quantities (R76, R81): active by its own sign or already
split, the fundamental by its sign, reactive by quadrant, apparent by the sign of active. -/
def contributions (pos neg : Nat) (p1 q : Int) (pSign : Int) (sn : Nat) : List (Fin 12 × Nat) :=
  let quad : Fin 12 := if 0 ≤ q then (if 0 ≤ p1 then 4 else 5) else (if 0 ≤ p1 then 7 else 6)
  [(0, pos), (1, neg), (quad, q.natAbs), (if 0 ≤ pSign then 8 else 9, sn), (if 0 ≤ p1 then 10 else 11, p1.natAbs)]

/-- Transfer contributions in turn (R77). -/
def transfer (m : Fin 9) (cs : List (Fin 12 × Nat)) (sd : Side) (s : State) : State :=
  cs.foldl (fun t c => transferQ m c.1 c.2 sd t) s

/-- Nothing is pending in a netting period (R81). -/
def netEmpty (x : MeterP) : Bool := x.netP == 0 && x.net1 == 0 && x.netQ == 0 && x.netS == 0 && x.netFlags == 0

/-- Close the netting period in progress: its sums go by their signs, its flags and those of the side to the quality words, and a
new period starts from zero, which a write of class P100 follows (R81, R82, R113, R128, R137). -/
def netClose (m : Fin 9) (sd : Side) (s : State) : State :=
  let x := vget s.p100.m m
  if netMode (mtr s m.1) ≠ 2 || netEmpty x then s
  else
    let s := transfer m (contributions x.netP.toNat (-x.netP).toNat x.net1 x.netQ x.netP x.netS) sd (markFlags m x.netFlags sd s)
    persist (modMeterP m (fun x => { x with netP := 0, net1 := 0, netQ := 0, netS := 0, netFlags := 0 }) s)

/-! ## Closes a boundary asks for -/

/-- Total register of a quantity in mWh (R98). -/
def totalReg (x : MeterP) (q : Fin 12) : Nat := vget x.acc q / 1000

/-- Billing register of a tariff (0 T1) and quantity in mWh (R79). -/
def tariffReg (x : MeterP) (t : Fin 8) (q : Fin 12) : Nat := vget (vget x.tacc t) q / 1000

/-- The 9 × 12 registers: totals, then T1 to T8 (R111, R124, R384). -/
def allRegs (x : MeterP) : List Nat :=
  (units 12).map (totalReg x) ++ (units 8).flatMap fun t => (units 12).map (tariffReg x t)

/-- Close the demand sub-interval of a meter (R109, R110): E × 3.6 / (L × 60) mW over the last DEM_SUB sub-intervals of the
settings it ran under. A close before its time, or over an outage, starts the count of INCOMPLETE anew. E33 names a meter
whose interval closes SHORT, OUTAGE or DURING_OUTAGE (R127). -/
def demandClose (m : Fin 9) (flags t tariff len sub : Nat) (s : State) : State :=
  let x := vget s.p100.m m
  let hist := (x.demCur.toList :: x.demPast).take (max 1 sub)
  let fl := flags ||| x.demShort ||| (if x.demRun < sub then 2 else 0)
  let val := fun (d : Fin 4) => if len = 0 then 0 else convN ((hist.map fun l => l.getD d.1 0).sum * 36) (len * 600)
  let s := { s with
    bill.last := vset s.bill.last m (Vector.ofFn fun d => { mw := val d, flags := fl })
    bill.tLast := t }
  let s := modMeterP m (fun x => { x with
    maxd := if fl.testBit 1 then x.maxd else Vector.ofFn fun d =>
      vatMod (vget x.maxd d) tariff fun o => if o.mw < val d then { mw := val d, t } else o
    demPast := hist.take (sub - 1)
    demCur := Vector.replicate 4 0, demRun := if flags &&& 13 = 0 then satAdd 16 x.demRun 1 else 0, demShort := 0 }) s
  if fl &&& 13 = 0 then s else pulse 33 (prm [(1, m.1), (8, t)]) s

/-- Close the billing period of a meter: a snapshot of its registers and maximum demands, which are then cleared; the
24 newest are kept (R110, R111, R124). -/
def periodClose (m : Fin 9) (flags tOpen tClose : Nat) (s : State) : State :=
  let x := vget s.p100.m m
  let fl := flags ||| (if x.perStep then 4 else 0) ||| (if x.perInv then 8 else 0) ||| (if x.perFlag then 16 else 0)
  let snap : Snap := { tOpen, tClose, flags := fl, regs := allRegs x, maxd := x.maxd.toList.flatMap (·.toList) }
  modMeterP m (fun x => { x with maxd := Vector.replicate 4 (Vector.replicate 8 {}), perStep := false, perInv := false, perFlag := false })
    { s with nvBill.snaps := vmod s.nvBill.snaps m fun l => (snap :: l).take 24 }

/-- Every meter present has given its part of the daily snapshot. -/
def dailyDone (s : State) (d : DailyP) : Bool := (units 9).all fun m => (vget d.regs m).isSome || !hasGroup s m.1

/-- The body of a daily record from offset 120 and its label (R137, R139): PREV_HASH and PROFILE_HASH come at writing. -/
def dailyBody (d : DailyP) : List Byte :=
  le 8 d.label ++
  (units 9).flatMap (fun m => (((vget d.regs m).map (·.1)).getD (List.replicate 6 0)).flatMap (le 8)) ++
  (units 9).flatMap (fun m => le 2 (((vget d.regs m).map (·.2)).getD 0)) ++
  le 2 (d.rflags ||| (if (units 9).any fun m => (vget d.regs m).any fun r => r.2.testBit 8 then 4 else 0)) ++ zeros 4

/-- A meter's part of the daily snapshot; the record is queued once every meter has given its part (R111, R139). -/
def dailyTake (m : Fin 9) (s : State) : State :=
  match s.p100.day with
  | none => s
  | some d =>
    let x := vget s.p100.m m
    let regs := [totalReg x 0, totalReg x 1, totalReg x 4, totalReg x 5, totalReg x 6, totalReg x 7]
    let d := { d with regs := vset d.regs m (some (regs, x.dayQual % 2 ^ 16)) }
    let s := modMeterP m (fun x => { x with dayQual := 0 }) s
    if dailyDone s d then queueRec { type := 2, time := d.time, body := dailyBody d } { s with p100.day := none, p100.dayStep := false }
    else { s with p100.day := some d }

/-- Freeze a meter's registers for the running fence (R384). -/
def fenceTake (m : Fin 9) (s : State) : State :=
  match s.port.fence with
  | none => s
  | some f =>
    if (vget f.regs m).isSome then s
    else
      let regs := vset f.regs m (some (allRegs (vget s.p100.m m), (vget s.en.m m).lastQual))
      let done := (units 9).all fun k => (vget regs k).isSome || !hasGroup s k.1
      { s with port.fence := some { f with regs, doneAt := if done then some (f.doneAt.getD s.clk.mono) else f.doneAt } }

/-! ## Session records (R134, R135) -/

/-- END_REASON codes (R134). -/
def endCode : EndReason → Nat
  | .vehicleStop => 0 | .hostStop => 1 | .unplugged => 2 | .safetyTrip => 3 | .warmReset => 4 | .powerLoss => 5
  | .reverseFlow => 6 | .creditExhausted => 7 | .supplyCredit => 8 | .outOfService => 9

/-- SERVICE of the record: basic pilot where none was selected (R134, R177). -/
def serviceCode (v : Nat) : Nat := if v = 0xFF then 0 else v

/-- Bytes 64 to 287 of a session record (R134). -/
def sessionBody (n : Fin 8) (x : SessP) (reason : EndReason) (flags : Nat) : List Byte :=
  fit 224 (le 4 x.no ++ le 1 (n.1 + 1) ++ le 1 (endCode reason) ++ le 1 (serviceCode x.service) ++ le 1 x.authType ++ le 8 x.tOpen ++
    le 1 (min 16 x.authId.length) ++ le 1 0 ++ le 2 flags ++ le 4 x.qual ++ fit 16 x.authId ++
    x.start.toList.flatMap (le 6) ++ x.acc.toList.flatMap (fun v => le 5 (v / 1000)) ++
    x.apT.toList.flatMap (fun v => le 5 (v / 1000)) ++ le 8 x.charge ++ zeros 4)

/-- Bytes 64 to 287 of a session-export record (R135). -/
def exportBody (n : Fin 8) (x : SessP) : List Byte :=
  fit 224 (le 4 x.no ++ le 1 (n.1 + 1) ++ zeros 3 ++ x.amT.toList.flatMap (fun v => le 5 (v / 1000)))

/-- Queue the record of a session whose billing values are closed, and its export record when energy was exported
(R19, R135, R140). -/
def queueSession (n : Fin 8) (reason : EndReason) (flags tClose : Nat) (rest : Bool) (s : State) : State :=
  let x := vget s.p100.sess n
  let exp := vget x.acc 1 / 1000 ≠ 0
  let fl := x.sflags ||| flags ||| (if exp then 2 else 0)
  let s := queueRec { type := 1, time := tClose, body := sessionBody n x reason fl, point := n.1, rest } s
  let s := if exp then queueRec { type := 3, time := tClose, body := exportBody n x, point := n.1, rest } s else s
  persist (modSessP n (fun x => { x with queued := true }) s)

/-- The session's billing values close: its record is queued (R19 steps 3 and 4). -/
def sessionValues (n : Fin 8) (s : State) : State :=
  match (vget s.p100.sess n).closing with
  | some (r, fl, t) => if (vget s.p100.sess n).queued then s else queueSession n r fl t false s
  | none => s

/-- The first demand sub-interval of a meter starts: what earlier increments left is no part of it (R109). -/
def demandStart (m : Fin 9) (s : State) : State :=
  modMeterP m (fun x => { x with demCur := Vector.replicate 4 0, demRun := 0 }) s

/-- The start registers of a session that has opened: the side before its opening has been delivered, and class P100 is written
(R101, R128). -/
def sessionStart (n : Fin 8) (s : State) : State :=
  let regs := Vector.ofFn fun q => totalReg (vget s.p100.m ⟨n.1 + 1, by omega⟩) q
  persist (modSessP n (fun x => { x with start := regs }) s)

/-- Do what a boundary asks of a meter once the side it ends has been delivered. -/
def runAct (m : Fin 9) (a : BAct) (s : State) : State :=
  match a with
  | .demand flags t tariff len sub => persist (demandClose m flags t tariff len sub s)
  | .period flags tOpen tClose => persist (periodClose m flags tOpen tClose s)
  | .daily => persist (dailyTake m s)
  | .fence => fenceTake m s
  | .demandStart => demandStart m s
  | .session => match pointOfMeter m with | some n => sessionValues n s | none => s
  | .opened => match pointOfMeter m with | some n => sessionStart n s | none => s

/-! ## Boundaries (R72) -/

/-- The running side a meter's window has from now on: the tariff, price and session in force (R100, R101, R122). -/
def newSide (s : State) (m : Fin 9) : Side :=
  let b := ppB s m.1
  { tariff := s.bill.tariff
    price := if ppEn b then some (price b s.bill.tariff) else none
    sess := match pointOfMeter m with
      | some n => (vget s.p100.sess n).on && (vget s.p100.sess n).closing.isNone
      | none => false
    tInv := !s.clk.timeValid }

/-- The running side, or the part of a side that follows a boundary: what is in force from now on, up to the end it had. -/
def renewSide (nw sd : Side) : Side := { nw with endE := sd.endE, tEnd := sd.tEnd, split := sd.split, acts := sd.acts }

/-- The sides of a window with a boundary at the elapsed time `e`, device time `t`: the side that contains it is split, and what
follows is under what is in force from now on; a boundary at an instant that ends a side already adds what it asks (R72). -/
def splitSides (e t : Nat) (acts : List BAct) (nw : Side) : List Side → List Side
  | [] => [nw]
  | sd :: rest =>
    if sd.endE.any (· < e) then sd :: splitSides e t acts nw rest
    else if sd.endE = some e then { sd with split := true, acts := sd.acts ++ acts } :: rest.map (renewSide nw)
    else { sd with endE := some e, tEnd := some t, split := true, acts } :: (sd :: rest).map (renewSide nw)

/-- An elapsed time in 1/64 µs of a device time (R8). -/
def onGrid (s : State) (t : Nat) : Nat := ((64 * s.clk.mono + 64 * t : Nat) - (64 * now s : Nat) : Int).toNat

/-- A boundary at a meter at the device time `t`, asking `acts`. It splits the window that contains it; at a window's start, where
it splits nothing, or at a meter that does not run, it takes effect at once, closing the netting period (R72, R82). -/
def boundaryAt (t : Nat) (m : Fin 9) (acts : List BAct) (s : State) : State :=
  let e := onGrid s t
  let w := (vget s.en.m m).win
  if !meterRuns s m.1 || decide (e ≤ w.startE) then
    let old := { w.sides.headD {} with tEnd := some t }
    let s := acts.foldl (fun t a => runAct m a t) (netClose m old s)
    modWin m (fun w => { w with sides := if meterRuns s m.1 then w.sides.map (renewSide (newSide s m)) else [newSide s m] }) s
  else modWin m (fun w => { w with sides := splitSides e t acts (newSide s m) w.sides }) s

/-- A boundary at a meter, now. -/
def boundary (m : Fin 9) (acts : List BAct) (s : State) : State := boundaryAt (now s) m acts s

/-- A boundary at every meter present. -/
def boundaryAll (acts : List BAct) (s : State) : State :=
  (units 9).foldl (fun t m => if hasGroup t m.1 then boundary m acts t else t) s

/-- A meter begins to run: its first window begins now (R71). -/
def startWin (m : Fin 9) (s : State) : State :=
  modWin m (fun _ => { start := now s, startE := 64 * s.clk.mono, sides := [newSide s m] }) s

/-- The first window of every meter that did not run in `old` and runs now. -/
def startMeters (old s : State) : State :=
  (units 9).foldl (fun t m => if meterRuns t m.1 && !meterRuns old m.1 then startWin m t else t) s

end Sys2Proof.Machine
end

