-- ==== Sys2Proof/Machine/Points.lean ====
section
/-!
DEFINITION. A point as every family sees it: its parts of the state, events E47+n and E55+n, the pilot output it should
have (R150), the signalled current (R158, R160), the switching of channels (R255), opening and closing conditions (R18),
sessions opening, ending and closing (R16, R17, R19), points out of service (R468, R469) and the check value (R243).
-/

namespace Sys2Proof.Machine

/-! ## Parts of the state -/

def modPilot (n : Fin 8) (f : Pilot → Pilot) (s : State) : State := { s with pilot := vmod s.pilot n f }
def modSess (n : Fin 8) (f : Sess → Sess) (s : State) : State := { s with sess := vmod s.sess n f }
def modHlc (n : Fin 8) (f : Hlc → Hlc) (s : State) : State := { s with hlc := vmod s.hlc n f }
def modSafe (n : Fin 8) (f : Safe → Safe) (s : State) : State := { s with safe := vmod s.safe n f }
def modEarth (n : Fin 8) (f : Earth → Earth) (s : State) : State := { s with earth := vmod s.earth n f }
def modNvPt (n : Fin 8) (f : NvPoint → NvPoint) (s : State) : State := { s with nvPt := vmod s.nvPt n f }
def modChan (c : Fin 24) (f : Chan → Chan) (s : State) : State := { s with sw.ch := vmod s.sw.ch c f }
def modNvCh (c : Fin 24) (f : NvChan → NvChan) (s : State) : State := { s with nvCh := vmod s.nvCh c f }
def modLock (n : Fin 8) (f : Lock → Lock) (s : State) : State := { s with sw.lk := vmod s.sw.lk n f }

def pil (s : State) (n : Fin 8) : Pilot := vget s.pilot n
def ses (s : State) (n : Fin 8) : Sess := vget s.sess n
def sep (s : State) (n : Fin 8) : SessP := vget s.p100.sess n
def hl (s : State) (n : Fin 8) : Hlc := vget s.hlc n
def saf (s : State) (n : Fin 8) : Safe := vget s.safe n
def ear (s : State) (n : Fin 8) : Earth := vget s.earth n
def nvp (s : State) (n : Fin 8) : NvPoint := vget s.nvPt n

/-- Number of a point as software writes it. -/
def pno (n : Fin 8) : Nat := n.1 + 1

/-- A session is open on the point (R17). -/
def sessOpen (s : State) (n : Fin 8) : Bool := (sep s n).on

/-- The session's number, 0 when no session is open (R193). -/
def sessNo (s : State) (n : Fin 8) : Nat := if (sep s n).on then (sep s n).no else 0

/-- The session is open and its billing values still run. -/
def sessRuns (s : State) (n : Fin 8) : Bool := (sep s n).on && (sep s n).closing.isNone

/-- A point out of service (R468). -/
def outOfService (s : State) (n : Fin 8) : Bool := (nvp s n).oos != 0

/-! ## Events of a point -/

/-- STATE of PT_STATUS (R169). -/
def stCode : Option PilotSt → Nat
  | some .A => 0 | some .B => 1 | some .C => 2 | some .D => 3 | some .E => 4 | some .NEG => 5 | some .INVALID => 6 | none => 7

/-- OUTPUT of PT_STATUS (R169). -/
def outCode : OutMode → Nat
  | .F => 0 | .X1 => 1 | .X2 _ => 2

/-- The output is X2. -/
def isX2 : OutMode → Bool
  | .X2 _ => true
  | _ => false

/-- PFLAGS (R169). -/
def pflags (s : State) (n : Fin 8) : Nat :=
  let p := pil s n
  b2n p.diodeFault + 2 * b2n (nvp s n).genFault + 4 * b2n p.stErr + 8 * b2n p.overcur + 16 * b2n p.override

/-- STATE, OUTPUT, PP_CODE and PFLAGS of a point (R170). -/
def pilotView (s : State) (n : Fin 8) : List Nat :=
  [stCode (pil s n).st, outCode (pil s n).out, (pil s n).ppCode, pflags s n]

/-- Do `f`, and raise E47+n when STATE, OUTPUT, PP_CODE or a PFLAGS bit has changed (R170). -/
def pilotNote (n : Fin 8) (f : State → State) (s : State) : State :=
  let t := f s
  if pilotView t n = pilotView s n then t
  else pulse (48 + n.1) (prm ((pilotView t n ++ pilotView s n).map fun v => (1, v))) t

/-- E55+n with a KIND, the session number and its parameters (R201). -/
def e55 (n : Fin 8) (kind : Nat) (l : List (Nat × Nat)) (s : State) : State :=
  pulse (56 + n.1) (prm ([(1, kind), (4, sessNo s n)] ++ l)) s

/-- PHASE code (R193). -/
def phaseCode : HlcPhase → Nat
  | .idle => 0 | .slac => 1 | .setup => 2 | .auth => 3 | .parameters => 4 | .cableCheck => 5 | .precharge => 6 | .energy => 7
  | .paused => 8 | .stopping => 9 | .weldCheck => 10 | .basic => 11

/-- PHASE changes, with E55+n KIND 0 (R201). -/
def setPhase (n : Fin 8) (p : HlcPhase) (s : State) : State :=
  if (hl s n).phase = p then s
  else e55 n 0 [(1, phaseCode p), (1, phaseCode (hl s n).phase)] (modHlc n (fun h => { h with phase := p }) s)

/-- E63+n: KIND, set or cleared (0 for KIND 6), a value in µA, and the failing step, 0 where none applies (R227, R401, R522). -/
def e63 (n : Fin 8) (kind : Nat) (on : Bool) (val : Int) (step : Nat) (s : State) : State :=
  pulse (64 + n.1) (prm [(1, kind), (1, b2n on), (4, i2n 4 val), (1, step)]) s

/-! ## Channels (R255, R257, R258, R261) -/

/-- A latch bit of the channel is set (R257). -/
def latched (s : State) (c : Fin 24) : Bool :=
  let x := vget s.nvCh c
  x.sc || x.therm || x.coil

/-- LATCH of SW_STATUS (R274). -/
def latchBits (x : NvChan) : Nat := b2n x.sc + 2 * b2n x.therm + 4 * b2n x.coil

/-- Command a channel on: INRUSH, or BLOCKED with a latch bit set; under the under-voltage response it stays off (R255). -/
def chanOn (c : Fin 24) (duty : Nat) (s : State) : State :=
  let x := vget s.sw.ch c
  let st : ChState :=
    if x.st = .off then (if latched s c then .blocked else if s.sw.uv then .uvOff else .inrush) else x.st
  modChan c (fun x => { x with
    st, cmd := true, duty, hold := 1000, onAt := if x.st = .off then s.clk.mono else x.onAt }) s

/-- Command a channel off; counter and latches stay (R255). -/
def chanOff (c : Fin 24) (s : State) : State :=
  modChan c (fun x => { x with
    st := if s.sw.uv && x.st == .uvOff then .uvOff else .off
    cmd := false, duty := 0, hold := 1000, offAt := if x.st = .off then x.offAt else s.clk.mono }) s

/-- The coil channel of a point (R245). -/
def coilOf (s : State) (n : Fin 8) : Option (Fin 24) :=
  if (committed s (0x0501 + n.1)).isSome ∧ 1 ≤ coilCh (spB s n) then ix 24 (coilCh (spB s n) - 1) else none

/-- The auxiliary contact of a coil channel as a core has debounced it: closed (R262). -/
def auxAt (s : State) (k : Fin 2) (c : Nat) : Bool :=
  let b := chB s c
  decide (1 ≤ fbSel b) && vat (if k.1 = 0 then s.sw.fb else s.sw.fb1) (fbSel b - 1) true == fbPol b

/-- The auxiliary contact of a coil channel shows closed: to either core (R262; log entry 1110). -/
def auxOf (s : State) (c : Nat) : Bool := auxAt s 0 c || auxAt s 1 c

/-- The auxiliary contact of the point's contactor shows closed. -/
def auxClosed (s : State) (n : Fin 8) : Bool := (coilOf s n).any fun c => auxOf s c.1

/-- The coil channel conducts (R233, R255). -/
def conducts (s : State) (c : Fin 24) : Bool :=
  let x := (vget s.sw.ch c).st
  x == .inrush || x == .on

/-! ## Check value (R243, R244) -/

/-- The bytes a block adds to the stream of R243. -/
def checkPart (s : State) (id : Nat) : List Byte := le 2 id ++ (committed s id).getD (List.replicate 4 0xFF)

/-- CHECK_n computed from the committed blocks (R243). -/
def checkValue (s : State) (n : Fin 8) : Nat :=
  let k := pno n
  crc32 (([0x0500, 0x0500 + k, 0x0510, 0x0510 + k, 0x0210 + k] ++ if k ≤ 4 then [0x0520 + k] else []).flatMap (checkPart s))

/-- E77: point, old and new value (R250). -/
def e77 (n : Fin 8) (old new : Nat) (s : State) : State := pulse 77 (prm [(1, pno n), (4, old), (4, new)]) s

/-- Compute every check value again after a commit, with E77 where one changed (R243, R244). -/
def recheck (s : State) : State :=
  (points s).foldl (fun t n =>
    let v := checkValue t n
    if v = (saf t n).check then t else e77 n (saf t n).check v (modSafe n (fun x => { x with check := v }) t)) s

/-- CONFIRMED_n: what both copies hold, none (0) where they differ (R244; log entry 1009). -/
def confirmedOf (s : State) (n : Fin 8) : Nat := if (nvp s n).confirmed = (nvp s n).confirmed2 then (nvp s n).confirmed else 0

/-- Every check value computed at a cold or pin reset, with E77 where it differs from a CONFIRMED_n other than 0 (R243, R244,
R250). -/
def checkAtStart (s : State) : State :=
  (points s).foldl (fun t n =>
    let v := checkValue t n
    let c := confirmedOf t n
    let t := modSafe n (fun x => { x with check := v }) t
    if c = 0 ∨ c = v then t else e77 n c v t) s

/-- CHECK_n is confirmed (R244). -/
def checkConfirmed (s : State) (n : Fin 8) : Bool := confirmedOf s n != 0 && confirmedOf s n == (saf s n).check

/-- The point is held: a needed block missing or invalid, or the check value not confirmed (R18, R244). -/
def pointHeld (s : State) (n : Fin 8) : Bool := blockMissing s n || !checkConfirmed s n

/-! ## Closing conditions (R18) -/

/-- A test-winding test within TST_MAX_AGE, or no such demand (start-up test demands). -/
def testFresh (s : State) (n : Fin 8) : Bool :=
  let a := tstMaxAge (spB s n)
  a == 0 || ((nvp s n).tTest != 0 && decide (now s ≤ (nvp s n).tTest + a * 3600000000))

/-- The start-up test demands other than check value, offset and test winding (chapter 10). -/
def demandsMet (s : State) (n : Fin 8) : Bool :=
  let x := nvp s n
  !x.welded && (saf s n).weldOk && !x.genFault && !x.pathFail && !x.cutFault

/-- PE is healthy (R221). -/
def peHealthy (s : State) : Bool := !s.earthDev.peLoss && !s.earthDev.npeHigh

/-- The DC, AC and wideband detectors operate at either core (R204, R206). -/
def Earth.dcOp (e : Earth) : Bool := e.res.toList.any (·.dcOp)
def Earth.acOp (e : Earth) : Bool := e.res.toList.any (·.acOp)
def Earth.wbOp (e : Earth) : Bool := e.res.toList.any (·.wbOp)

/-- Residual current and PE are healthy in the sense of R18, as a core sees it (R204, R205, R211, R212, R221). -/
def residualHealthyAt (s : State) (n : Fin 8) (k : Fin 2) : Bool :=
  let e := ear s n
  let d := vget e.res k
  peHealthy s && !d.dcOp && !d.acOp && !d.wbOp && !e.compOp && !e.pend && !(nvp s n).sensorFault && !(nvp s n).mismatch &&
    (!xchkEn (rcdB s n) || e.compAvail)

/-- The offset is measured, and no measurement or test is in progress (R209). -/
def offsetReady (s : State) (n : Fin 8) : Bool :=
  let e := ear s n
  e.offOk && !e.offRun && e.tst == 0

/-- A core has accepted state C in X2 with ten checked periods (R18, R154, R157). -/
def pilotReadyAt (s : State) (n : Fin 8) (k : Fin 2) : Bool :=
  let p := pil s n
  (if k = 0 then p.st == some .C && p.cX2 else p.st1 == some .C && p.cX21) && isX2 p.out && decide (10 ≤ (vget p.ev k).diodeOk)

/-- The unmet conditions of closing as one core finds them, in the bits of HOLD (R18, R230, R248). -/
def holdAt (s : State) (n : Fin 8) (k : Fin 2) : BitVec 16 :=
  BitVec.ofNat 16 (b2n (pointHeld s n) + 2 * b2n (!(demandsMet s n && testFresh s n)) + 4 * b2n (!offsetReady s n) +
    8 * b2n (!residualHealthyAt s n k) + 16 * b2n (saf s n).lsv + 32 * b2n (!pilotReadyAt s n k) + 64 * b2n (!(ses s n).bound))

/-- The unmet conditions as HOLD of SAF_STATUS: those of either core, since closing takes the permission of both (R18, R230, R248). -/
def holdBits (s : State) (n : Fin 8) : BitVec 16 := holdAt s n 0 ||| holdAt s n 1

/-! ## Signalled current (R158 to R160) -/

/-- I_CABLE (R158). -/
def iCableOf (s : State) (n : Fin 8) : Nat := if ppSocket (pilotB s n) then (pil s n).iCable else maxI (pilotB s n)

/-- The session limit, MAX_I where none is given (R158, R192). -/
def sesLimI (s : State) (n : Fin 8) : Nat := if (ses s n).limI = 0 then maxI (pilotB s n) else (ses s n).limI

/-- The Tider link is configured to run (R334). -/
def tdrOn (s : State) : Bool := s.tdr.applied.any tdrEn

/-- The current a point wants of the site, mA: the lowest of MAX_I, I_CABLE and the session limit; a DC point's power limit
over the sum of URMS of G0, a free value while that sum is 0 (R332; log entry 1401). -/
def siteNeed (s : State) (n : Fin 8) : Nat :=
  if dcPoint s n then
    let u := ((elements (grpSystem (grp s 0))).map fun e => vat (vget s.en.m 0).vals.urms (e.1 - 4) 0).sum
    let m := dcMaxP (hlcB s n)
    let p := if (ses s n).limP = 0 then m else min m (ses s n).limP
    if u = 0 then Config.dcNeedNoVoltage else p * 1000000000 / u
  else min (maxI (pilotB s n)) (min (iCableOf s n) (sesLimI s n))

/-- Insert by a rising number. -/
def insertBy {α : Type} (x : α × Nat) : List (α × Nat) → List (α × Nat)
  | [] => [x]
  | y :: ys => if x.2 ≤ y.2 then x :: y :: ys else y :: insertBy x ys

/-- Share a budget among wants sorted by rising size: each takes the lower of its want and an equal share of what is left
(R333, R334). -/
def shareOut {α : Type} : Nat → List (α × Nat) → List (α × Nat)
  | _, [] => []
  | b, x :: r => let a := min x.2 (b / (r.length + 1)); (x.1, a) :: shareOut (b - a) r

/-- Wants sorted by rising size. -/
def sortWants {α : Type} (l : List (α × Nat)) : List (α × Nat) := l.foldl (fun acc x => insertBy x acc) []

/-- The node's allocation over the phases in use, mA: the lowest (R334). -/
def nodeAlloc (s : State) : Nat :=
  let a := s.tdr.alloc.toList.take ((s.tdr.applied.map tdrPhases).getD 3)
  100 * a.foldl min (a.headD 0)

/-- The site allocation of a point: its share of the node's allocation among the points with an open session; none while the
link is not configured (R334). -/
def siteAlloc (s : State) (n : Fin 8) : Option Nat :=
  if tdrOn s then
    ((shareOut (nodeAlloc s) (sortWants (((points s).filter (sessOpen s)).map fun k => (k, siteNeed s k)))).find?
      fun x => x.1 == n).map (·.2)
  else none

/-- I_ALLOC: the lower of the session limit and the site allocation (R158). -/
def iAlloc (s : State) (n : Fin 8) : Nat :=
  match siteAlloc s n with | some a => min (sesLimI s n) a | none => sesLimI s n

/-- I_SIG as R158 gives it. -/
def sigTarget (s : State) (n : Fin 8) : Nat := min (maxI (pilotB s n)) (min (iCableOf s n) (iAlloc s n))

/-- The duty code of R159; none below 6 A. -/
def dutyOf (i : Nat) : Option Nat :=
  if i < 6000 then none
  else
    let k := min i 80000
    some (if k ≤ 51000 then k / 30 else k / 125 + 1280)

/-- Bring I_SIG of one point to its value: a reduction at once, an increase no sooner than 5 s after the previous duty change
(R160). -/
def followOne (n : Fin 8) (s : State) : State :=
  let t := sigTarget s n
  let p := pil s n
  if t < p.iSig then modPilot n (fun p => { p with iSig := t, iPend := none, lastDec := s.clk.mono }) s
  else if p.iSig < t then
    if p.lastDuty = 0 || elapsed s p.lastDuty 5000000 then modPilot n (fun p => { p with iSig := t, iPend := none }) s
    else modPilot n (fun p => { p with iPend := some t }) s
  else modPilot n (fun p => { p with iPend := none }) s

/-- Bring I_SIG of a point to its value, and with the Tider link that of every point, whose shares depend on each other
(R160, R334). -/
def followSig (n : Fin 8) (s : State) : State := if tdrOn s then (points s).foldl (fun t k => followOne k t) s else followOne n s

/-! ## Pilot output (R150) -/

/-- High-level communication is offered on the point (R167, R470). -/
def hlcOffered (s : State) (n : Fin 8) : Bool :=
  hlcEn (pilotB s n) && !((nvp s n).modemFault && fallback (pilotB s n) && acEn (hlcB s n))

/-- The unit of a block reset serves the point's high-level communication (R449). -/
def unitServes (u : Nat) (n : Fin 8) : Bool := (u == 1 && decide (n.1 < 4)) || (u == 5 && decide (4 ≤ n.1))

/-- The output session control asks for (R156, R159, R163, R175, R264). -/
def appOut (s : State) (n : Fin 8) : OutMode :=
  let p := pil s n
  let h := hl s n
  let x := ses s n
  let veh := p.st == some .B || p.st == some .C || p.st == some .D
  let stops := x.ending.isSome && !(h.active && !h.failed && h.dcStep == 6)
  if !sessRuns s n || stops || x.x1Arm || (vget s.sw.lk n).needLock || !veh then .X1
  else if hlcOffered s n && !h.failed then (if h.slacX1.isSome then .X1 else .X2 100)
  else if h.failed && (!fallback (pilotB s n) || h.fallAt.isSome) then .X1
  else match (if x.bound then dutyOf p.iSig else none) with
    | some d => .X2 d
    | none => .X1

/-- Priority 1 of R150 is in force, or the outputs are off after a power-fail warning (R439). -/
def forcedF (s : State) (n : Fin 8) : Bool :=
  !s.safeDev.running || s.safeDev.safeState || (nvp s n).genFault || s.pwr.phase == .pfwWait

/-- Priority 2 of R150 is in force. -/
def forcedX1 (s : State) (n : Fin 8) : Bool :=
  !s.pwr.appRunning || s.pwr.inWarm || s.pwr.appResetAt.isSome ||
    (s.pwr.blkBegan.isSome && (s.pwr.blkUnit.any fun u => unitServes u n) && (ses s n).x1Arm)

/-- The output a point should have: the first row of R150 that applies. -/
def wantOut (s : State) (n : Fin 8) : OutMode :=
  if forcedF s n then .F
  else if forcedX1 s n then .X1
  else if (pil s n).holdOn then .X1
  else if outOfService s n || !ptEn (pilotB s n) || pointHeld s n then .F
  else appOut s n

/-- SAFETY_OVERRIDE: priority 1 to 3 of R150 is in force (R169). -/
def overridden (s : State) (n : Fin 8) : Bool := forcedF s n || forcedX1 s n || (pil s n).holdOn

/-! ## Opening a contactor and ending a session -/

/-- Command the contactor open: the coil goes off, a path test ends, and the check of R242 falls due (R233, R236). -/
def openCoil (n : Fin 8) (s : State) : State :=
  let x := saf s n
  if !x.coil && x.path = 0 then s
  else
    let fresh := x.path == 3 || x.closed
    let s := match coilOf s n with | some c => chanOff c s | none => s
    modSafe n (fun x => { x with
      coil := false, path := 0, pathOnly := false
      coilOffAt := if fresh then some (x.coilOffAt.getD s.clk.mono) else x.coilOffAt
      dcVolt := false, lsvSeen := false }) s

/-- S1 drives SAFE_CUTn low 1 ms after the coil is commanded off at a trip (R234). -/
def dropCut (n : Fin 8) (s : State) : State :=
  modSafe n (fun x => { x with cutDropAt := if x.cut then some (x.cutDropAt.getD (s.clk.mono + 1000)) else none }) s

/-- The contactor is confirmed open and nothing about it is pending (R242). -/
def confirmedOpen (s : State) (n : Fin 8) : Bool := (saf s n).openConf && !(saf s n).coil && (saf s n).coilOffAt.isNone

/-- The wait for a contactor confirmed open is over: the check of R242 has found it open, or has latched WELDED. -/
def openSettled (s : State) (n : Fin 8) : Bool :=
  ((saf s n).openConf || (nvp s n).welded) && !(saf s n).coil && (saf s n).coilOffAt.isNone

/-- Close the session's billing values: a boundary of R72 at its meter, then its record is queued (R19 steps 3 and 4). -/
def closeValues (n : Fin 8) (reason : EndReason) (flags : Nat) (s : State) : State :=
  if !sessRuns s n then s
  else
    let s := modSessP n (fun x => { x with closing := some (reason, flags, now s) }) s
    setPhase n .idle (boundary (meterOf n) [.session] (modSess n (fun x => { x with ending := none, wantOpen := false }) s))

/-- With the contactor confirmed open, an ending session closes its values; a finding of WELDED is in its record (R19,
R242). In the device safe state nothing confirms opening (R231). -/
def tryClose (n : Fin 8) (flags : Nat) (s : State) : State :=
  match (ses s n).ending with
  | some r => if openSettled s n && !s.safeDev.safeState then closeValues n r (flags ||| b2n (nvp s n).welded) s else s
  | none => s

/-- A session a reset of the application side affected closes its values once opening is confirmed; its record follows once the
application cluster runs (R21). -/
def closeWarm (n : Fin 8) (s : State) : State :=
  if (ses s n).x1Arm && (ses s n).ending.isNone && openSettled s n then
    closeValues n .warmReset (b2n (nvp s n).welded) s else s

/-- With the contactor of an ending session commanded open, the welding check of R242 runs: PHASE is WELD_CHECK (R193; log entry 805). -/
def weldPhase (n : Fin 8) (s : State) : State :=
  if sessRuns s n && (ses s n).ending.isSome && !(saf s n).coil && (saf s n).coilOffAt.isSome then setPhase n .weldCheck s else s

/-- DC steps 1 to 6 are left for step 7: the power stage is told to stop (R187, R190, R199). -/
def leaveDc (n : Fin 8) (s : State) : State :=
  if (hl s n).dcStep = 0 ∨ (hl s n).dcStep = 7 then s
  else modHlc n (fun h => { h with dcStep := 7, dcAt := s.clk.mono, enable := false, mode := 0, tgtI := 0 }) s

/-- Remember that the session ends with this reason; the first reason stands, and a session that a reset of the application side has
affected ends as WARM_RESET whatever ends it (R21, R190, R238). -/
def markEnd (n : Fin 8) (reason : EndReason) (s : State) : State :=
  if sessRuns s n && (ses s n).ending.isNone then
    let why := if (ses s n).x1Arm then .warmReset else reason
    setPhase n .stopping (modSafe n (fun x => { x with reqClose := false })
      (modSess n (fun x => { x with ending := some why, hostStop := none }) s))
  else s

/-- End a session in the order of R19: the contactor is commanded open at once, from whatever DC step (R187). -/
def endNow (n : Fin 8) (reason : EndReason) (s : State) : State :=
  if sessRuns s n then tryClose n 0 (weldPhase n (leaveDc n (openCoil n (markEnd n reason s)))) else s

/-- End a session that may run energy: DC step 6 first while step 5 runs, otherwise as `endNow` (R187, R190). -/
def endSoft (n : Fin 8) (reason : EndReason) (s : State) : State :=
  if sessRuns s n && (hl s n).dcStep = 5 then
    modHlc n (fun h => { h with dcStep := 6, dcAt := s.clk.mono, tgtI := 0 }) (markEnd n reason s)
  else endNow n reason s

/-- End a session whose vehicle is told by X1: the contactor opens when the vehicle leaves C, or 3 s after the change (R161,
R189, R190). -/
def endX1 (n : Fin 8) (reason : EndReason) (s : State) : State :=
  if sessRuns s n then tryClose n 0 (markEnd n reason s) else s

/-- DC step 6 ends when the power stage's current and the meter's are both at most 5 A: step 7 opens the contactor (R187). -/
def rampCheck (n : Fin 8) (s : State) : State :=
  let h := hl s n
  if h.dcStep = 6 ∧ h.measI.natAbs ≤ 5000 ∧ (vget s.en.m (meterOf n)).vals.irms.toList.all (fun i => decide (i ≤ 5000000)) then
    tryClose n 0 (weldPhase n (openCoil n (leaveDc n s)))
  else s

/-! ## Out of service (R468, R469) -/

/-- Set a bit of the OOS mask; the first bit ends an open session as OUT_OF_SERVICE. -/
def setOos (n : Fin 8) (i : Nat) (s : State) : State :=
  let x := nvp s n
  let s1 := modNvPt n (fun x => { x with
    oos := x.oos ||| BitVec.ofNat 16 (2 ^ i), tOos := if x.oos = 0 then now s / 1000000 else x.tOos }) s
  if x.oos = 0 then endSoft n .outOfService s1 else s1

/-- Clear bits of the OOS mask. -/
def clearOos (n : Fin 8) (m : Nat) (s : State) : State :=
  modNvPt n (fun x =>
    let o := x.oos &&& ~~~(BitVec.ofNat 16 m)
    { x with oos := o, tOos := if o = 0 then 0 else x.tOos }) s

/-- A modem fault leaves the point to a basic path, where its blocks open one, or puts it out of service; a commit that
opens a basic path clears MODEM (R468, R470). -/
def basicPath (n : Fin 8) (s : State) : State :=
  if fallback (pilotB s n) && acEn (hlcB s n) then clearOos n 0x80 s
  else if (nvp s n).modemFault && hlcEn (pilotB s n) then setOos n 7 s else s

/-! ## Opening and binding (R16, R17, R291) -/

/-- A session may open now: the application runs, room is left, and no restoration is outstanding, nor any record of one still to
be written (R17, R143, R145). -/
def mayOpen (s : State) : Bool :=
  s.pwr.phase == .run && s.pwr.appRunning && !sessionsRefused s && !s.bill.restPend && !s.p100.queue.any (·.rest)

/-- Open a session: the next session number, T_OPEN and a boundary from which its energy counts, at which its start registers are
taken once what came before is delivered (R16, R17, R101); OVERCURRENT is cleared (R162). A point whose previous session still waits
for its record opens none, and arms no retry (DESIGN CHOICE, log entry 101). -/
def openSession (n : Fin 8) (s : State) : State :=
  if (sep s n).on then s
  else if !mayOpen s then modSess n (fun x => { x with wantOpen := true }) s
  else
    let no := (s.led.sesNo + 1) % 2 ^ 32
    let x := ses s n
    let s := modSessP n (fun _ => {
      on := true, no, tOpen := now s
      authType := if x.bound then x.type else 0, authId := if x.bound then x.id else [] }) { s with led.sesNo := no }
    let s := pilotNote n (modPilot n fun p => { p with overcur := false })
      (modSess n (fun x => { x with wantOpen := false, ending := none, hostStop := none, x1Arm := false }) s)
    setPhase n (if hlcOffered s n then .slac else .basic) (followSig n (boundary (meterOf n) [.opened] s))

/-- Bind an authorisation to a point: it belongs to the open session, or opens one (R17, R192, R291). -/
def bindAuth (n : Fin 8) (type : Nat) (id : List Byte) (bpt : Bool) (limI limP limD : Nat) (s : State) : State :=
  let s := modSess n (fun x => { x with
    bound := true, type, id, bpt, boundAt := s.clk.mono, limI, limP, limD, req := none }) s
  let s := if sessRuns s n then modSessP n (fun x => { x with authType := type, authId := id }) s else openSession n s
  followSig n s

/-- The decision flow refuses every identifier for the point at present: out of service, not enabled, held, credit
exhausted, or new sessions refused (R291). -/
def refusesAuth (s : State) (n : Fin 8) : Bool :=
  outOfService s n || !ptEn (pilotB s n) || pointHeld s n || (vget s.p100.m (meterOf n)).ppState == .exhausted || sessionsRefused s

/-- In MODE FREE the acceptance of state B binds an authorisation of AUTH_TYPE 0 (R291). -/
def freeBind (n : Fin 8) (s : State) : State :=
  if authMode (authB s n) = 0 && !(ses s n).bound && !refusesAuth s n && s.pwr.appRunning then bindAuth n 0 [] false 0 0 0 s else s

/-! ## Prepayment state (R119, R127) -/

/-- The prepayment state of a meter changes, with E37 at LOW, E38 at EMERGENCY, FRIENDLY_HOLD and EXHAUSTED, and E39 at
PP_FAULT; meter and time (R119, R127). -/
def ppGo (m : Fin 9) (st : PpState) (s : State) : State :=
  let old := (vget s.p100.m m).ppState
  let p := prm [(1, m.1), (8, now s)]
  if old = st then s
  else
    let s := modMeterP m (fun x => { x with ppState := st }) s
    let s := level 37 m.1 (st == .low) p s
    let s := if st = .emergency ∨ st = .friendlyHold ∨ st = .exhausted then pulse 38 p s else s
    level 39 m.1 (st == .ppFault) p s

/-- The channel is the supply contactor of meter 0 (R120, R252). -/
def isSupply (s : State) (c : Nat) : Bool := ppEn (ppB s 0) && supplyCh (ppB s 0) == c + 1

/-! ## Trips (R237, R238) -/

/-- E74: point, TRIP and the source of a reset, 0xFF at a trip (R250; the codes are log entry 10's). -/
def e74 (n : Fin 8) (trip : BitVec 32) (src : Nat) (s : State) : State :=
  pulse 74 (prm [(1, pno n), (4, trip.toNat), (1, src)]) s

/-- A bit of TRIP (R248). -/
def cause (i : Nat) : BitVec 32 := BitVec.ofNat 32 (2 ^ i)

/-- Automatic resets of the point in the last 24 h (R239). -/
def autoResets (s : State) (n : Fin 8) : Nat := ((nvp s n).autoAt.filter fun t => decide (now s < t + dayUs)).length

/-- A point trips: its causes are recorded, those of `latch` await a reset under R239, both paths drop, the power stage is
told to stop, and the session ends once with SAFETY_TRIP (R234, R237 to R239). Decisions of one safety cycle are one trip, with every
cause in TRIP and one E74 (R238). -/
def tripPoint (n : Fin 8) (causes latch : BitVec 32) (s : State) : State :=
  let fourth := resetMode (spB s n) == 0 && decide (3 ≤ autoResets s n)
  let same := (saf s n).tripAt.any fun t => decide (s.clk.mono < t + 100)
  let s := modNvPt n (fun x => { x with
    trip := if same then x.trip ||| causes else causes, tTrip := if same then x.tTrip else now s
    await := x.await ||| latch, tripped := x.tripped || latch != 0
    latch4 := x.latch4 || (latch != 0 && fourth) }) s
  let s := leaveDc n s
  let s := if same then s else e74 n causes 0xFF (modSafe n (fun x => { x with tripAt := some s.clk.mono }) s)
  endNow n .safetyTrip (dropCut n <| openCoil n (modSafe n (fun x => { x with reqClose := false }) s))

/-- A finding of a point is recorded in TRIP, without a trip that awaits reset (R242, R248, R450). -/
def noteTrip (n : Fin 8) (causes : BitVec 32) (s : State) : State :=
  e74 n causes 0xFF (modNvPt n (fun x => { x with trip := causes, tTrip := now s }) s)

/-- The contactor opens because its vehicle leaves C, SAFE_CUTn 1 ms later; where a reset of the application side asked for it, this
is the function "application reset" (R156, R157, R237, R450). -/
def leaveC (n : Fin 8) (s : State) : State :=
  if !(saf s n).coil && (saf s n).path = 0 then s
  else weldPhase n <| dropCut n (openCoil n (if (ses s n).x1Arm && (saf s n).coil then noteTrip n (cause 13) s else s))

/-- The session-end event has been raised: what belonged to the session is cleared, the lock is released and tests fall
due (R19 step 5, R214, R264). -/
def sessionClosed (n : Fin 8) (s : State) : State :=
  let cnt := (nvp s n).sessCnt + 1
  let every := tstEvery (rcdB s n)
  let due := every != 0 && decide (every ≤ cnt)
  let s := modNvPt n (fun x => { x with sessCnt := if due then 0 else cnt }) s
  let s := if due then modEarth n (fun e => { e with tstDue := true }) s else s
  let s := modLock n (fun l => { l with wantUnlock := lkEn (lkB s n) }) s
  let s := modSess n (fun x => { waiting := x.waiting, req := x.req }) (modSessP n (fun _ => {}) s)
  followSig n (setPhase n .idle (modHlc n (fun h => {
    phase := h.phase, evU := h.evU, evI := h.evI, offI := h.offI, offP := h.offP, psFault := h.psFault, psGood := h.psGood
    psAt := h.psAt, canTo := h.canTo, nmk := h.nmk, atten := h.atten, ready := h.ready, measU := h.measU, measI := h.measI
    measOk := h.measOk, avU := h.avU, avI := h.avI, avP := h.avP, loopAt := h.loopAt, tgtU := h.tgtU
    failed := h.failed }) s))

end Sys2Proof.Machine
end

