-- ==== Sys2Proof/Machine/Pilot.lean ====
section
/-!
DEFINITION. Pilot and proximity (spec/07_pilot_and_proximity.md): periods and plateaus (R149 to R154), the generator check
(R155), accepted states and their responses (R156, R157), duty and signalled current (R158 to R163), proximity (R164,
R165), and the commands of R168 and R169.
-/

namespace Sys2Proof.Machine

/-! ## Classification (R152) -/

/-- The band of a high-plateau value in mV, none for a gap (R152). -/
def bandOf (v : Int) : Option PilotSt :=
  if withinI v 10800 13200 then some .A
  else if withinI v 7800 10200 then some .B
  else if withinI v 4800 7200 then some .C
  else if withinI v 1800 4200 then some .D
  else if withinI v (-1200) 1200 then some .E
  else if withinI v (-13200) (-1800) then some .NEG
  else none

/-- One high-plateau value counts towards acceptance; `us` is the time it stands for (R153). -/
def classify (us : Nat) (p : PilotEval) (v : Int) : PilotEval :=
  match bandOf v with
  | none => { p with cand := none, count := 0, gapUs := p.gapUs + us }
  | some b => { p with cand := some b, count := if p.cand = some b then p.count + 1 else 1, gapUs := 0 }

/-- The low plateau of an X2 period lies in its range (R154). -/
def lowOk (v : Int) : Bool := withinI v (-13200) (-10800)

/-- The generator's internal nodes are right (R155). -/
def genOk (g : Int × Int) : Bool := withinI g.1 11600 12400 && withinI g.2 (-12400) (-11600)

/-- The generator check finds a fault: the coil goes off, the output is F from the next period, and the point is out of service
(R149, R155, R156). -/
def genFaultNow (n : Fin 8) (s : State) : State :=
  setOos n 1 (dropCut n (openCoil n (pilotNote n (modNvPt n fun x => { x with genFault := true }) s)))

/-- The check of R155 on the nodes last measured. -/
def genCheck (n : Fin 8) (s : State) : State :=
  if genOk (pil s n).gen || (nvp s n).genFault then s else genFaultNow n s

/-! ## PILOT_PERIOD (R149, R151 to R154) -/

/-- What a change of output brings with it: counts start anew, F forgets the state, an X2-to-X1 change in C starts the
3 s of R161, and a duty change is noted (R149, R153, R154, R160, R161). -/
def newOutput (s : State) (w : OutMode) (p : Pilot) : Pilot :=
  if p.out = w then p
  else if outCode p.out = outCode w then { p with out := w, lastDuty := s.clk.mono }
  else { p with
    out := w, ev := Vector.replicate 2 {}, cX2 := false, cX21 := false
    st := if w = .F ∨ p.out = .F then none else p.st
    st1 := if w = .F ∨ p.out = .F then none else p.st1
    prevSt := if w = .F ∨ p.out = .F then none else p.prevSt
    fA := if w = .F then (if p.ppCode = 0 then none else some (p.ppCode == 5)) else none
    aSince := if w = .F then some s.clk.mono else if p.out = .F then none else p.aSince
    abAt := if w = .F ∨ p.out = .F then none else p.abAt
    lastDuty := if isX2 p.out || isX2 w then s.clk.mono else p.lastDuty
    x1cSince := if isX2 p.out && p.st == some .C then some s.clk.mono else if isX2 w then none else p.x1cSince }

/-- The means of the samples of a period, one every 10 µs from its rising edge, that lie from `a` to `b` half-microseconds after that
edge, none without one (R151; the rounding of a mean is log entry 706). -/
def meanWithin (l : List Int) (a b : Nat) : Option Int :=
  let x := (l.zipIdx.filter fun v => decide (a ≤ 20 * v.2) && decide (20 * v.2 ≤ b)).map (·.1)
  if x.isEmpty then none else some (meanI x)

/-- The high plateaus of a period: in X2 one, from 20 µs after the rising edge to 10 µs before the falling edge, else one for each
100 µs (R151). A duty code is a number of half-microseconds of the 1 ms period. -/
def highOf (o : OutMode) (l : List Int) : List Int :=
  match o with
  | .X2 d => (meanWithin l 40 (d - 20)).toList
  | _ => (List.range 10).filterMap fun k => meanWithin l (200 * k) (200 * k + 199)

/-- The low plateau of an X2 period, from 20 µs after the falling edge to 10 µs before its end (R151). -/
def lowOf (o : OutMode) (l : List Int) : Option Int :=
  match o with
  | .X2 d => meanWithin l (d + 40) 1980
  | _ => none

/-- One core follows the plateaus of a period from the samples of its converter (R151 to R154, R157). -/
def evalPlateaus (o : OutMode) (l : List Int) (e : PilotEval) : PilotEval :=
  match o with
  | .F => e
  | .X1 => (highOf o l).foldl (classify 100) e
  | .X2 _ =>
    let e := (highOf o l).foldl (classify 1000) e
    match lowOf o l with
    | some v => { e with diodeBad := if lowOk v then 0 else min 3 (e.diodeBad + 1), diodeOk := if lowOk v then e.diodeOk + 1 else 0 }
    | none => e

/-- Measure the plateaus of a period from the samples of both converters, in mV; S0's are the values PT_STATUS shows (R151 to R154,
R157, R169; log entry 12). -/
def plateaus (l0 l1 : List Int) (p : Pilot) : Pilot :=
  { p with
    ev := Vector.ofFn fun k => evalPlateaus p.out (if k.1 = 0 then l0 else l1) (vget p.ev k)
    vHigh := (highOf p.out l0).getLastD p.vHigh
    vLow := if isX2 p.out then (lowOf p.out l0).getD p.vLow else 0 }

/-- SLAC starts at the first period of 5 % duty (R163, R174). -/
def slacStart (n : Fin 8) (s : State) : State :=
  if (pil s n).out = .X2 100 ∧ hlcOffered s n ∧ (hl s n).slac = 0 ∧ !(hl s n).active then
    setPhase n .slac (modHlc n (fun h => { h with active := true, slac := 1, slacAt := s.clk.mono, sounds := 0, attSum := 0 }) s)
  else s

/-- A pilot period starts at its rising edge: the output of R150 takes effect, the generator is checked at a change of mode, and the
plateaus are measured (R149, R151, R155). A change of output and one of SAFETY_OVERRIDE are two changes in the sense of R170. -/
def pilotPeriod (n : Fin 8) (l0 l1 : List Int) (gen : Int × Int) (s : State) : State :=
  let old := (pil s n).out
  let o := overridden s n
  let w := wantOut s n
  let s := pilotNote n (modPilot n fun p => { p with override := o }) s
  let s := pilotNote n (modPilot n fun p => plateaus l0 l1 { newOutput s w p with gen }) s
  let s := if outCode old ≠ outCode (pil s n).out then genCheck n s else s
  slacStart n s

/-- PILOT_PERIOD (R149 to R155): a period of the point with the samples of its two converters in mV and the voltages of the generator's
internal nodes. -/
def execPilotPeriod (n : Fin 8) (l0 l1 : List Int) (gen : Int × Int) (s : State) : Host.Outcome State Fault Refusal :=
  .next (if hasPoint s n && s.pwr.vsysValid then pilotPeriod n l0 l1 gen s else s)

/-! ## Accepted states (R153, R156) -/

/-- Values that accept a state: 10 periods in X2, 10 ms in X1 (R153). -/
def acceptAt (o : OutMode) : Nat := if isX2 o then 10 else 100

/-- A pilot state error or diode fault: coil off, X1 for at least 3 s, the session ends with SAFETY_TRIP (R156, R237). -/
def pilotError (n : Fin 8) (s : State) : State :=
  tripPoint n (cause 6) 0 (pilotNote n (modPilot n fun p =>
    { p with holdOn := true, holdUntil := s.clk.mono + 3000000, override := true }) s)

/-- The state accepted leaves A in the sense of R17. -/
def leavesA (prev : Option PilotSt) (c : PilotSt) : Bool :=
  (c == .B || c == .C || c == .D) && (prev == some .A || prev.isNone)

/-- The hold of R156 is over: the output is chosen again, and its flags clear, each with its own E47+n (R170). -/
def holdOver (n : Fin 8) (s : State) : State :=
  pilotNote n (modPilot n fun p => { p with holdOn := false, stErr := false })
    (pilotNote n (modPilot n fun p => { p with diodeFault := false }) s)

/-- I_CABLE of a PP_CODE, mA (R164). -/
def cableOf (code : Nat) : Option Nat :=
  match code with | 1 => some 13000 | 2 => some 20000 | 3 => some 32000 | 4 => some 63000 | _ => none

/-- I_CABLE while state A stands: that of the code; with no plug there is none (0); SHORT and INVALID leave it (R164, R165). -/
def takeCable (code old : Nat) : Nat := if code = 5 then 0 else (cableOf code).getD old

/-- State A is accepted: an open session closes as UNPLUGGED, a higher cable capacity may apply, and a failed high-level
session is forgotten (R156, R163, R165). -/
def inStateA (n : Fin 8) (s : State) : State :=
  let s := endNow n .unplugged (leaveC n s)
  let s := modHlc n (fun h => { h with failed := false, fallback := false, fallAt := none }) s
  let s := modPilot n (fun p => { p with iCable := takeCable p.ppCode p.iCable, aSince := some (p.aSince.getD s.clk.mono) }) s
  followSig n s

/-- State B is accepted: the offset is measured and a due test runs while the contactor is open; from A the lock is
closed and MODE FREE may bind (R208, R264, R291, start-up test demands). -/
def inStateB (n : Fin 8) (fromA : Bool) (s : State) : State :=
  let s := if (saf s n).closed || (saf s n).coil then leaveC n s else s
  let s := modSafe n (fun x => { x with reqClose := false }) s
  let s := modEarth n (fun e => { e with offRun := e.offRun || !(saf s n).closed, tstDue := e.tstDue || !testFresh s n }) s
  if fromA then freeBind n (modLock n (fun l => { l with needLock := lkEn (lkB s n) }) s) else s

/-- State C is accepted: in basic mode closing is requested, once a lock that is due is confirmed (R156, R187, R264). -/
def inStateC (n : Fin 8) (s : State) : State :=
  if !hlcOffered s n || (hl s n).fallback then
    modSafe n (fun x => { x with reqClose := sessRuns s n && (ses s n).ending.isNone && !(vget s.sw.lk n).needLock, sent76 := 0 }) s
  else s

/-- State A is the accepted state; in F a coded socket decides by its proximity circuit (R153). -/
def inA (s : State) (n : Fin 8) : Bool := (pil s n).st == some .A || ((pil s n).out == .F && (pil s n).fA == some true)

/-- The pilot states that are errors (R153). -/
def isError (c : PilotSt) : Bool := c == .E || c == .NEG || c == .INVALID

/-- A new state is accepted: the generator is checked, a session may open, and the point responds (R17, R153, R155,
R156, R166). -/
def acceptState (n : Fin 8) (c : PilotSt) (s : State) : State :=
  let prev := (pil s n).st
  let s := if c = .A then s else wake 1 s
  let s := pilotNote n (modPilot n fun p => { p with
    prevSt := prev, st := some c, tChange := now s, cX2 := c == .C && isX2 p.out
    x1cSince := if c = .C then p.x1cSince else none
    abAt := if c = .A ∨ c = .B then some (p.abAt.getD s.clk.mono) else none
    aSince := if c = .A then some s.clk.mono else none }) s
  let s := pilotNote n (modPilot n fun p => { p with stErr := p.stErr || isError c }) s
  let s := if c = .B ∨ c = .C ∨ c = .D then s else modSess n (fun x => { x with wantOpen := false }) s
  let s := genCheck n s
  if (nvp s n).genFault then s
  else
  let s := if leavesA prev c then openSession n s else s
  let s := if (c = .A ∨ c = .B) ∧ (pil s n).holdOn ∧ (pil s n).holdUntil ≤ s.clk.mono then holdOver n s else s
  match c with
  | .A => inStateA n s
  | .B => inStateB n (leavesA prev c) s
  | .C => inStateC n s
  | .D => modSafe n (fun x => { x with reqClose := false }) (leaveC n s)
  | _ => pilotError n s

/-- The state a core accepts from its plateaus, if any: ten values in X2, 10 ms in X1; none in F (R153). -/
def acceptable (s : State) (n : Fin 8) (k : Fin 2) : Option PilotSt :=
  let p := pil s n
  let e := vget p.ev k
  if p.out = .F || decide (e.count < acceptAt p.out) then none else e.cand

/-- S0 accepts a state, which is then the point's. A state C that already stands is accepted anew in X2, as closing requires (R18,
R153, R154). -/
def accept0 (n : Fin 8) (s : State) : State :=
  let p := pil s n
  match acceptable s n 0 with
  | none => s
  | some c =>
    if p.st ≠ some c then acceptState n c s
    else if c = .C ∧ isX2 p.out ∧ !p.cX2 then inStateC n (modPilot n (fun p => { p with cX2 := true }) s)
    else s

/-- S1 has accepted a state. Any but C switches the point off, and an error that S0 has not accepted trips it (R157, R230, R237). -/
def takeState1 (n : Fin 8) (c : PilotSt) (s : State) : State :=
  let s := modPilot n (fun p => { p with st1 := some c, cX21 := c == .C && isX2 p.out }) s
  if isError c && (pil s n).st != some c then pilotError n s
  else if c = .C then s else leaveC n s

/-- S1 accepts a state (R153, R157). -/
def accept1 (n : Fin 8) (s : State) : State :=
  let p := pil s n
  match acceptable s n 1 with
  | none => s
  | some c => if p.st1 ≠ some c || (c == .C && isX2 p.out && !p.cX21) then takeState1 n c s else s

/-- PILOT_STATE_ACCEPT (R153, R156, R157): the state all recent values of a core's converter lie in is accepted by that core. -/
def pilotAccept (n : Fin 8) (s : State) : State := accept1 n (accept0 n s)

def execPilotStateAccept (n : Fin 8) (s : State) : Host.Outcome State Fault Refusal :=
  .next (if hasPoint s n then pilotAccept n s else s)

/-- PILOT_STATE_INVALID (R153, R157): gaps for 10 ms are accepted as INVALID by the core that sees them. -/
def execPilotStateInvalid (n : Fin 8) (s : State) : Host.Outcome State Fault Refusal :=
  let p := pil s n
  let gap := fun (k : Fin 2) => hasPoint s n && p.out != .F && decide (10000 ≤ (vget p.ev k).gapUs)
  let s := if gap 0 && p.st != some .INVALID then acceptState n .INVALID s else s
  .next (if gap 1 && p.st1 != some .INVALID then takeState1 n .INVALID s else s)

/-- DIODE_FAULT (R154, R156, R157): three periods out of range at either core's converter. -/
def execDiodeFault (n : Fin 8) (s : State) : Host.Outcome State Fault Refusal :=
  let p := pil s n
  .next (if hasPoint s n && isX2 p.out && (units 2).any (fun k => decide (3 ≤ (vget p.ev k).diodeBad)) && !p.diodeFault then
    pilotError n (pilotNote n (modPilot n fun p => { p with diodeFault := true }) s) else s)

/-- PILOT_ERROR_HOLD_END (R156): the 3 s are over; A or B, accepted, ends the hold. -/
def execPilotErrorHoldEnd (n : Fin 8) (s : State) : Host.Outcome State Fault Refusal :=
  let p := pil s n
  .next (if p.holdOn && decide (p.holdUntil ≤ s.clk.mono) && (p.st == some .A || p.st == some .B) then holdOver n s else s)

/-! ## Proximity (R164, R165) -/

/-- R_PP = 1000 × V / (5.00 − V) Ω from a sample in mV is at most `r`; at 5.00 V and above it is beyond every bound (R164). -/
def ppUpTo (mv r : Nat) : Bool := decide (mv < 5000) && decide (1000 * mv ≤ r * (5000 - mv))

/-- PP_CODE of a sample of PPn in mV (R164). -/
def ppCodeOf (mv : Nat) : Nat :=
  if mv < 5000 ∧ 1000 * mv < 60 * (5000 - mv) then 6 else if ppUpTo mv 160 then 4 else if ppUpTo mv 400 then 3
  else if ppUpTo mv 1000 then 2 else if ppUpTo mv 2700 then 1 else if ppUpTo mv 10000 then 7 else 5

/-- PP_OHM of a sample: R_PP truncated to Ω, 0xFFFF above 65,534 Ω (R164, R169; the rounding is log entry 706). -/
def ppOhmOf (mv : Nat) : Nat := if ppUpTo mv 65534 then 1000 * mv / (5000 - mv) else 0xFFFF

/-- The code is an open or faulty proximity circuit in the present pilot state (R165). -/
def ppError (st : Option PilotSt) (code : Nat) : Bool :=
  (code == 5 && (st == some .B || st == some .C || st == some .D)) || ((code == 6 || code == 7) && st.isSome && st != some .A)

/-- I_CABLE once a code is accepted (R165): with state A standing, that of the code; else the first capacity of a cable, or a lower
one, at once, and a higher one not before state A is accepted. -/
def cableNow (a : Bool) (code old : Nat) : Nat :=
  if a then takeCable code old
  else match cableOf code with
    | some c => if old = 0 || decide (c < old) then c else old
    | none => old

/-- A code is accepted: PP_CODE, the cable capacity and, in F, what stands for state A follow; an error sets STATE_ERROR (R153, R165,
R170). -/
def takeCode (n : Fin 8) (code : Nat) (s : State) : State :=
  let err := ppError (pil s n).st code
  let s := pilotNote n (modPilot n fun p => { p with ppCode := code, fA := if p.out == .F then some (code == 5) else p.fA }) s
  let s := modPilot n (fun p => { p with iCable := cableNow (inA s n) code p.iCable }) s
  let s := pilotNote n (modPilot n fun p => { p with stErr := p.stErr || err }) s
  followSig n (if err then pilotError n s else s)

/-- PROXIMITY_ACCEPT (R164, R165, R169): the latest samples of PPn in mV, one every 1 ms. PP_OHM is that of the last; a code they all give
is accepted after ten of them, or three for an error; a code that stood already is an error once the pilot state makes it one. -/
def execProximityAccept (n : Fin 8) (mv : List Nat) (s : State) : Host.Outcome State Fault Refusal :=
  let p := pil s n
  let code := ppCodeOf (mv.headD 0)
  let enough := if ppError p.st code then 3 else 10
  .next (if !hasPoint s n || !s.pwr.vsysValid || !ppSocket (pilotB s n) || mv.isEmpty then s
    else
      let s := modPilot n (fun p => { p with ppOhm := ppOhmOf (mv.getLastD 0) }) s
      if decide (enough ≤ mv.length) && mv.all (fun v => ppCodeOf v == code) &&
        (p.ppCode != code || (ppError p.st code && !p.stErr)) then takeCode n code s else s)

/-! ## Current limits in time (R160, R162, R185) -/

/-- DUTY_INCREASE_DUE (R160). -/
def execDutyIncreaseDue (n : Fin 8) (s : State) : Host.Outcome State Fault Refusal :=
  .next (match (pil s n).iPend with
    | some t => if elapsed s (pil s n).lastDuty 5000000 then modPilot n (fun p => { p with iSig := t, iPend := none }) s else s
    | none => s)

/-- A session runs high-level DC service (R177). -/
def dcService (s : State) (n : Fin 8) : Bool := [1, 3, 5, 7].contains (sep s n).service

/-- The currents of the window just closed are beyond the limit of R162 or R185. -/
def overLimit (s : State) (n : Fin 8) : Bool :=
  let v := (vget s.en.m (meterOf n)).vals
  let top := v.irms.toList.foldl max 0
  if !sessRuns s n then false
  else if dcService s n then decide ((hl s n).tgtI.natAbs * 1050 + 2000000 < vget v.irms 0)
  else if (hl s n).active && !(hl s n).fallback then
    decide ((hl s n).offI * 1100 + 500000 < top) && elapsed s (hl s n).offDec 5000000
  else decide ((pil s n).iSig * 1100 + 500000 < top) && elapsed s (pil s n).lastDec 5000000

/-- Follow the overcurrent of a point at a window close (R162, R185). -/
def followOver (n : Fin 8) (s : State) : State :=
  modPilot n (fun p => { p with ocSince := follow s (overLimit s n) p.ocSince }) s

/-- OVERCURRENT (R162, R185): the session ends with SAFETY_TRIP and the flag is set. -/
def execOvercurrent (n : Fin 8) (s : State) : Host.Outcome State Fault Refusal :=
  let dur := if dcService s n then 2000000 else 10000000
  .next (if sessRuns s n && heldFor s (pil s n).ocSince dur then
    endNow n .safetyTrip (pilotNote n (modPilot n fun p => { p with overcur := true, ocSince := none }) s) else s)

/-- HLC_FALLBACK (R163): 3 s of X1 after a failed high-level session have passed, and basic mode begins. -/
def execHlcFallback (n : Fin 8) (s : State) : Host.Outcome State Fault Refusal :=
  .next (if (hl s n).failed && fallback (pilotB s n) && heldFor s (hl s n).fallAt 3000000 && sessRuns s n then
    let s := modSessP n (fun x => { x with service := 0 }) (modHlc n (fun h => { h with fallAt := none, fallback := true }) s)
    let s := setPhase n .basic (e55 n 9 [] s)
    if (pil s n).st = some .C then inStateC n s else s
  else s)

/-! ## Host commands -/

/-- PT_COMMIT (R168): the stored pilot blocks wait for the next period start. -/
def ptCommitBody (f : Flight) (s : State) : CmdOut :=
  let m := u16 0 f.pkt.payload
  need (maskOk s m && rsv 2 2 f.pkt.payload) stBadParam <|
  takeStored s ((maskPoints m).map fun n => 0x0401 + n.1) fun cs =>
  need (!(maskPoints m).any (sessOpen s)) stState <| need (waitingCommit s 0x0401).isNone stBusy <|
  .wait (take f cs s)

def execPtCommit (p : Pkt) (s : State) : Host.Outcome State Fault Refusal :=
  .next (command 0x0401 (sized 4 ptCommitBody) p s)


/-- With PP_MODE 0 PPn is not driven and PP_CODE reads 0 (R165). -/
def tethered (n : Fin 8) (s : State) : State :=
  if ppSocket (pilotB s n) || (pil s n).ppCode == 0 then s
  else pilotNote n (modPilot n fun p => { p with ppCode := 0, ppOhm := 0, fA := none }) s

/-- PT_COMMIT_APPLY (R168): the blocks take effect at the period start, and the reply is sent. -/
def ptApply (s : State) : State :=
  match waitingCommit s 0x0401 with
  | none => s
  | some f =>
    let m := u16 0 f.pkt.payload
    let s := commitCopies (takenBy s f) s
    let s := (maskPoints m).foldl (fun t n => followSig n (basicPath n (tethered n t))) s
    finish f (tApplied s) (untake f s)

def execPtCommitApply (s : State) : Host.Outcome State Fault Refusal := .next (ptApply s)

/-- PT_STATUS (R169). -/
def ptStatusBody (f : Flight) (s : State) : CmdOut :=
  let p := f.pkt.payload
  match pointOf s (u8 0 p) with
  | none => .fail stBadParam
  | some n =>
    need (rsv 1 3 p) stBadParam <|
    let x := pil s n
    let dc := match x.out with | .X2 d => d | _ => 0
    .done s (le 8 (now s) ++ le 1 (stCode x.st) ++ le 1 (outCode x.out) ++ le 2 dc ++ le 4 x.iSig ++ leInt 2 x.vHigh ++
      leInt 2 x.vLow ++ le 1 x.ppCode ++ le 1 (pflags s n) ++ le 2 x.ppOhm ++ le 8 x.tChange)

def execPtStatus (p : Pkt) (s : State) : Host.Outcome State Fault Refusal :=
  .next (command 0x0402 (sized 4 ptStatusBody) p s)

end Sys2Proof.Machine
end

