-- ==== Sys2Proof/Machine/Switch.lean ====
section
/-!
DEFINITION. Switch channels, coil drive, socket locks and limp-home (spec/11_switch_channels.md): protection (R254 to R259),
open-load tests (R260), the economiser (R261), feedback (R262), locks (R263, R264), the sense output (R265), limp-home
(R266, R267) and the commands of R272 to R277.
-/

namespace Sys2Proof.Machine

/-! ## Protection (R254 to R258) -/

/-- The point a coil channel belongs to. -/
def pointOfCoil (s : State) (c : Fin 24) : Option (Fin 8) := (points s).find? fun n => coilOf s n == some c

/-- E81: index, LATCH, RETRY; active while a latch bit is set (R278). -/
def e81 (c : Fin 24) (s : State) : State :=
  let x := vget s.nvCh c
  let p := prm [(1, c.1), (1, latchBits x), (1, x.retry)]
  level 81 (4 * c.1 + 2) x.coil p (level 81 (4 * c.1 + 1) x.therm p (level 81 (4 * c.1) x.sc p s))

/-- What a coil channel's own finding means: its point trips with CLOSE_FAIL, or the supply contactor stays off and takes
PP_FAULT (R258; log entry 1103). -/
def coilFail (c : Fin 24) (s : State) : State :=
  if isSupply s c.1 then ppGo 0 .ppFault (chanOff c { s with bill.supOn := false })
  else match pointOfCoil s c with
    | some n => tripPoint n (cause 10) (cause 10) s
    | none => s

/-- LATCH_COIL is set, the channel stays off, and its point trips (R258). -/
def coilFinding (c : Fin 24) (s : State) : State :=
  coilFail c (e81 c (modNvCh c (fun x => { x with coil := true }) s))

/-- A detector switches a channel off: 1 short circuit, 2 over-current, 3 thermal (R254, R255, R257, R258). -/
def channelTrip (c : Fin 24) (det ma : Nat) (s : State) : State :=
  if !conducts s c then s
  else
    let b := chP s c.1
    let s := modChan c (fun x => { x with st := .tripped, offAt := s.clk.mono, det, cur := ma, hold := 1000 }) s
    let old := (vget s.nvCh c).retry
    let s := modNvCh c (fun x => { x with
      retry := satAdd 4 x.retry 1, sc := x.sc || (det == 1 && scLatch b), therm := x.therm || (det == 3 && thermLatch b) }) s
    let s := pulse 80 (prm [(1, c.1), (1, det), (4, ma)]) s
    let s := e81 c s
    let now := (vget s.nvCh c).retry
    let s := if now ≠ old ∧ now = retryMax b then pulse 81 (prm [(1, c.1), (1, latchBits (vget s.nvCh c)), (1, now)]) s else s
    if chRole b = 2 then coilFinding c s else s

/-- The point of a lock bridge's channel index 24 to 31. -/
def lockPoint (c : Fin 32) : Fin 8 := ⟨c.1 - 24, by omega⟩

/-- A lock bridge is switched off by its short-circuit or thermal detector; its operation goes on as after the end of that
drive (R254, R263; log entry 1105). -/
def bridgeTrip (n : Fin 8) (det ma : Nat) (s : State) : State :=
  if (vget s.sw.lk n).drive = 0 then s
  else pulse 80 (prm [(1, 24 + n.1), (1, det), (4, ma)])
    (modLock n (fun l => { l with drive := 0, brake := true, tripped := det, cur := 0, t0 := s.clk.mono }) s)

/-- SHORT_CIRCUIT (R254, R259): only the channel concerned goes off. -/
def execShortCircuit (c : Fin 32) (ma : Nat) (s : State) : Host.Outcome State Fault Refusal :=
  .next (if ma ≤ chIsc c.1 then s
    else match chanOf s c.1 with
      | some k => channelTrip k 1 ma s
      | none => if 24 ≤ c.1 then bridgeTrip (lockPoint c) 1 ma s else s)

/-- CHANNEL_OVERCURRENT (R254): the timer is held at 0 in the inrush window. -/
def execChannelOvercurrent (c : Fin 24) (ma us : Nat) (s : State) : Host.Outcome State Fault Refusal :=
  .next (if (vget s.sw.ch c).st == .on && decide (ocLim c.1 (chP s c.1) < ma) && decide (ocT (chP s c.1) * 1000 ≤ us) then
    channelTrip c 2 ma s else s)

/-- CHANNEL_THERMAL (R254, R259): a junction sensor at 165 °C. -/
def execChannelThermal (c : Fin 32) (temp : Int) (s : State) : Host.Outcome State Fault Refusal :=
  .next (if temp < 16500 then s
    else match chanOf s c.1 with
      | some k => channelTrip k 3 (vget s.sw.ch k).cur.natAbs (modChan k (fun x => { x with temp }) s)
      | none => if 24 ≤ c.1 then bridgeTrip (lockPoint c) 3 0 (modLock (lockPoint c) (fun l => { l with temp }) s) else s)

/-- One channel under the under-voltage response: it goes off, uncounted; a coil channel's point trips (R254, R258). -/
def uvChannel (c : Fin 24) (s : State) : State :=
  if !conducts s c then s
  else
    let coil := chRole (chP s c.1) == 2
    let s := modChan c (fun x => { x with st := .uvOff, offAt := s.clk.mono, det := 4, hold := 1000 }) s
    if coil then coilFail c (modChan c (fun x => { x with cmd := false }) s) else s

/-- SUPPLY_UNDER_VOLTAGE (R254): VSYS below 15.0 V for 50 µs. -/
def execSupplyUnderVoltage (mv us : Nat) (s : State) : Host.Outcome State Fault Refusal :=
  .next (if mv < 15000 ∧ 50 ≤ us ∧ !s.sw.uv then
    (units 24).foldl (fun t c => uvChannel c t) (level 83 0 true (prm [(2, mv)]) { s with sw.uv := true })
  else s)

/-- UNDER_VOLTAGE_RELEASE (R255): VSYS at least 16.0 V for 1 ms; a coil channel stays off (R258). -/
def execUnderVoltageRelease (mv us : Nat) (s : State) : Host.Outcome State Fault Refusal :=
  .next (if 16000 ≤ mv ∧ 1000 ≤ us ∧ s.sw.uv then
    let s := level 83 0 false (prm [(2, mv)]) { s with sw.uv := false }
    (units 24).foldl (fun t c => if (vget t.sw.ch c).st = .uvOff then
      modChan c (fun x => { x with st := if x.cmd then .inrush else .off, onAt := if x.cmd then t.clk.mono else x.onAt }) t else t) s
  else s)

/-- INRUSH_WINDOW_END (R255). -/
def execInrushWindowEnd (c : Fin 24) (s : State) : Host.Outcome State Fault Refusal :=
  let x := vget s.sw.ch c
  .next (if x.st == .inrush && elapsed s x.onAt (inrushT (chP s c.1) * 1000) then
    modChan c (fun x => { x with st := .on, goodAt := s.clk.mono }) s else s)

/-- RESTART_EVALUATION (R256): every RETRY_T from the last switch-off. The operand is the junction temperature. -/
def execRestartEvaluation (c : Fin 24) (temp : Int) (s : State) : Host.Outcome State Fault Refusal :=
  let x := vget s.sw.ch c
  let b := chP s c.1
  let k := vget s.nvCh c
  let barred := decide (retryMax b ≤ k.retry) || latched s c
  .next (if (x.st == .tripped || x.st == .blocked) && elapsed s x.offAt (retryT b * 1000) then
    if autoRestart b && chRole b != 2 && x.cmd && decide (temp ≤ 14500) && !barred && !s.sw.uv then
      pulse 80 (prm [(1, c.1), (1, x.det), (4, x.cur.natAbs)])
        (modChan c (fun x => { x with st := .inrush, onAt := s.clk.mono, temp }) s)
    else modChan c (fun x => { x with st := if barred then .blocked else x.st, offAt := s.clk.mono, temp }) s
  else s)

/-- RETRY_COUNTER_DECAY (R257): 10 s of uninterrupted ON. -/
def execRetryCounterDecay (c : Fin 24) (s : State) : Host.Outcome State Fault Refusal :=
  let x := vget s.sw.ch c
  .next (if x.st == .on && elapsed s x.goodAt 10000000 then
    modNvCh c (fun k => { k with retry := k.retry - 1 }) (modChan c (fun x => { x with goodAt := s.clk.mono }) s) else s)

/-! ## Open-load tests (R260) -/

/-- E82: index and which finding, 0 OL_OFF, 1 OL_ON; with the finding of a channel (R278). -/
def e82 (i which : Nat) (on : Bool) (s : State) : State := level 82 (2 * i + which) on (prm [(1, i), (1, which)]) s

/-- The off-state test can run on an HS or LP channel (R260): OFF, and on a coil only with SAFE_CUTn high and no path
test. -/
def offTestRuns (s : State) (c : Fin 24) : Bool :=
  olOffEn (chP s c.1) && (vget s.sw.ch c).st == .off &&
    (chRole (chP s c.1) != 2 || (pointOfCoil s c).all fun n => (saf s n).cut && (saf s n).path == 0)

/-- OFF_STATE_TEST (R260): the output voltage at the end of the 500 µs; of a bridge that of each half, and an open half sets OL_OFF. -/
def execOffStateTest (c : Fin 32) (mv mvB : Nat) (s : State) : Host.Outcome State Fault Refusal :=
  let on := decide (2000 < mv) || (decide (24 ≤ c.1) && decide (2000 < mvB))
  .next (match chanOf s c.1 with
    | some k => if offTestRuns s k then e82 c.1 0 on (modChan k (fun x => { x with olOff := on }) s) else s
    | none =>
      if 24 ≤ c.1 ∧ (vget s.sw.lk (lockPoint c)).drive = 0 ∧ hasPoint s (lockPoint c) then
        e82 c.1 0 on (modLock (lockPoint c) (fun l => { l with olOff := on }) s)
      else s)

/-- The on-state test can run (R260): ON, enabled, or a coil after T_PULL outside steps 1 and 2 of the path test. -/
def onTestRuns (s : State) (c : Fin 24) : Bool :=
  let b := chP s c.1
  (vget s.sw.ch c).st == .on && (olOnEn b || chRole b == 2) &&
    (chRole b != 2 || (pointOfCoil s c).all fun n => !((saf s n).path == 1 || (saf s n).path == 2))

/-- ON_STATE_OPEN_LOAD (R260, R258): the current, below its threshold for the time given, or no longer. -/
def execOnStateOpenLoad (c : Fin 24) (ma us : Nat) (s : State) : Host.Outcome State Fault Refusal :=
  let low := decide (ma < if c.1 < 16 then 20 else 5)
  .next (if !onTestRuns s c then s
    else if low && decide (1000000 ≤ us) then
      let s := e82 c.1 1 true (modChan c (fun x => { x with olOn := true, cur := ma }) s)
      if chRole (chP s c.1) = 2 then coilFinding c s else s
    else if !low then e82 c.1 1 false (modChan c (fun x => { x with olOn := false, cur := ma }) s)
    else s)

/-! ## Economiser and feedback (R261, R262) -/

/-- ECONOMISER_UPDATE (R261): after T_PULL the hold duty min(100 %, HOLD_V ÷ VSYS) in 0.1 %; E88 when HOLD_V cannot be
reached. -/
def execEconomiserUpdate (c : Fin 24) (mv : Nat) (s : State) : Host.Outcome State Fault Refusal :=
  let x := vget s.sw.ch c
  let b := chP s c.1
  .next (if chRole b == 2 && conducts s c && elapsed s x.onAt (tPull b * 1000) && holdV b != 0 && decide (0 < mv) then
    let short := decide (mv < holdV b)
    let s := modChan c (fun x => { x with hold := min 1000 (convN (holdV b * 1000) mv), e88 := short }) s
    if short && !x.e88 then pulse 88 (prm [(1, c.1), (2, mv)]) s else s
  else s)

/-- Coil channels that name a feedback land (R262). -/
def coilsOfFb (s : State) (k : Nat) : List (Fin 24) :=
  (units 24).filter fun c => chRole (chB s c.1) == 2 && fbSel (chB s c.1) == k + 1

/-- Every coil channel that names the land debounces it over a time no longer than `us` (R262). -/
def fbSettled (s : State) (k us : Nat) : Bool :=
  !(coilsOfFb s k).isEmpty && (coilsOfFb s k).all fun c => decide (1000 * fbDeb (chB s c.1) ≤ us)

/-- FEEDBACK_CHANGE (R262): the level of FBk, and for how long S0 and S1 have sampled it in every cycle, µs. Each core takes an assigned
land's level once it has stood for FB_DEB; E84 for each coil channel whose auxiliary contact reads otherwise. -/
def execFeedbackChange (k : Fin 16) (high : Bool) (us0 us1 : Nat) (s : State) : Host.Outcome State Fault Refusal :=
  let t := { s with
    sw.fb := if fbSettled s k.1 us0 then vset s.sw.fb k high else s.sw.fb
    sw.fb1 := if fbSettled s k.1 us1 then vset s.sw.fb1 k high else s.sw.fb1 }
  .next ((coilsOfFb s k.1).foldl (fun u c => if auxOf t c.1 == auxOf s c.1 then u else pulse 84 (prm [(1, c.1), (1, b2n high)]) u) t)

/-! ## Socket locks (R263, R264) -/

/-- An unlock may run: opening confirmed, no voltage on the load side, WELDED clear (R264). -/
def unlockOk (s : State) (n : Fin 8) : Bool := (saf s n).openConf && !(saf s n).coil && !(saf s n).lsv && !(nvp s n).welded

/-- E86: point, attempt (R278). -/
def setLockFault (n : Fin 8) (on : Bool) (s : State) : State :=
  level 86 n.1 on (prm [(1, pno n), (1, (vget s.sw.lk n).tries)]) (modNvPt n (fun x => { x with lockFault := on }) s)

/-- A drive begins: 1 lock, 2 unlock (R263). -/
def startDrive (n : Fin 8) (dir : Nat) (s : State) : State :=
  modLock n (fun l => { l with drive := dir, brake := false, t0 := s.clk.mono, tripped := 0 }) s

/-- A lock (1) or unlock (2) operation begins (R263). -/
def startLock (n : Fin 8) (op : Nat) (s : State) : State :=
  startDrive n op (modLock n (fun l => { l with op, tries := 1, back := false }) s)

/-- The application can work the locks: it runs, and no power-fail warning is in force (R264, R268). -/
def lockUp (s : State) : Bool := s.pwr.phase == .run && s.pwr.appRunning && !s.pwr.inWarm && !s.sw.limp

/-- LOCK_OPERATION (R263, R264, R268): the operation that is due on the point starts: the lock at state B, the unlock
after a session, or the repetition of one that a reset cut. -/
def execLockOperation (n : Fin 8) (s : State) : Host.Outcome State Fault Refusal :=
  let l := vget s.sw.lk n
  .next (if !hasPoint s n || !lkEn (lkB s n) || l.op != 0 || (nvp s n).lockFault || !lockUp s then s
    else if l.needLock then startLock n 1 s
    else if l.wantUnlock && unlockOk s n then startLock n 2 s
    else if l.repeatOp = 1 ∧ !l.lks then startLock n 1 (modLock n (fun l => { l with repeatOp := 0 }) s)
    else if l.repeatOp = 2 ∧ l.lks ∧ unlockOk s n then startLock n 2 (modLock n (fun l => { l with repeatOp := 0 }) s)
    else s)

/-- An unlock runs only while its conditions hold: the bridge brakes, and the unlock waits to begin anew (R264). -/
def holdUnlock (n : Fin 8) (s : State) : State :=
  if (vget s.sw.lk n).op = 2 ∧ !unlockOk s n then
    modLock n (fun l => { l with op := 0, drive := 0, brake := true, back := false, wantUnlock := true }) s
  else s

/-- A drive of the operation in hand: `back` in the other direction (R263). An unlock waits while its conditions fail (R264). -/
def lockDrive (n : Fin 8) (back : Bool) (s : State) : State :=
  let l := vget s.sw.lk n
  if l.op = 2 ∧ !unlockOk s n then holdUnlock n s
  else if back then startDrive n (3 - l.op) (modLock n (fun l => { l with back := true }) s)
  else startDrive n l.op (modLock n (fun l => { l with back := false, tries := l.tries + 1 }) s)

/-- LOCK_DRIVE_END (R263): LK_PULSE is over, or a motor's current has stayed above LK_STALL for 20 ms; the bridge brakes. -/
def execLockDriveEnd (n : Fin 8) (ma us : Nat) (s : State) : Host.Outcome State Fault Refusal :=
  let l := vget s.sw.lk n
  let b := lkB s n
  let stall := lkMotor b && decide (lkStall b < ma) && decide (20000 ≤ us)
  .next (if l.drive != 0 && (stall || elapsed s l.t0 (lkPulse b * 1000)) then
    if l.back then lockDrive n false s
    else modLock n (fun l => { l with drive := 0, brake := true, t0 := s.clk.mono, cur := ma }) s
  else s)

/-- A lock operation has succeeded (R263, R264, R277): E85 with point and position, 1 locked. -/
def lockDone (n : Fin 8) (s : State) : State :=
  let l := vget s.sw.lk n
  let pos := b2n (l.op == 1)
  let s := modLock n (fun l => { l with
    op := 0, brake := false, lks := l.op == 1, cmd := none
    needLock := if l.op = 1 then false else l.needLock, wantUnlock := if l.op = 2 then false else l.wantUnlock }) s
  let s := pulse 85 (prm [(1, pno n), (1, pos)]) s
  let s := followSig n (if pos = 1 ∧ (pil s n).st = some .C then inStateC n s else s)
  match l.cmd with
  | some f => finish f (le 1 (1 - pos) ++ zeros 3) s
  | none => s

/-- The last attempt has failed: LOCK_FAULT, and the point is out of service (R263, R277). -/
def lockFailed (n : Fin 8) (s : State) : State :=
  let l := vget s.sw.lk n
  let s := setOos n 5 (setLockFault n true (modLock n (fun l => { l with op := 0, brake := false, cmd := none }) s))
  match l.cmd with
  | some f => finish f (le 1 2 ++ zeros 3) s
  | none => s

/-- LKSn is at a level that has stood for `us`: the position follows it after 10 ms, by SNS_POL (R263). -/
def lockSense (n : Fin 8) (high : Bool) (us : Nat) (s : State) : State :=
  if us < 10000 then s else modLock n (fun l => { l with lks := high == snsPol (lkB s n) }) s

/-- LOCK_CONFIRM (R263): LKSn shows the required position within LK_CONF after the drive ended, or LK_CONF has passed: the other
direction is driven and the operation repeated, or it has failed. The operands are the level of LKSn and how long it has stood, µs. -/
def execLockConfirm (n : Fin 8) (high : Bool) (us : Nat) (s : State) : Host.Outcome State Fault Refusal :=
  let s := lockSense n high us s
  let l := vget s.sw.lk n
  let conf := lkConf (lkB s n) * 1000
  .next (if l.op = 0 ∨ l.drive ≠ 0 then s
    else if !l.back ∧ l.lks = (l.op == 1) ∧ s.clk.mono ≤ l.t0 + conf then lockDone n s
    else if !elapsed s l.t0 conf then s
    else if l.back then lockDrive n false s
    else if l.tries ≤ lkRetry (lkB s n) then lockDrive n true s
    else lockFailed n s)

/-- LOCK_LOST (R264): the level of LKSn, and how long it has stood while the contactor is closed, µs: unlocked for 100 ms sets LOCK_FAULT. -/
def execLockLost (n : Fin 8) (high : Bool) (us : Nat) (s : State) : Host.Outcome State Fault Refusal :=
  let s := lockSense n high us s
  .next (if hasPoint s n && lkEn (lkB s n) && (saf s n).closed && !(vget s.sw.lk n).lks && decide (100000 ≤ us) && !(nvp s n).lockFault then
    setOos n 5 (setLockFault n true s) else s)

/-! ## Limp-home (R266, R267) -/

/-- The application side does not drive the channels (R266). -/
def appAway (s : State) : Bool := (s.sw.lhOk && !s.pwr.appRunning) || s.pwr.inWarm || s.pwr.appResetAt.isSome || s.sw.stale

/-- LH_MAP[k] calls for channel `i` on or off by its input (R267). -/
def lhOn (s : State) (i : Nat) : Bool :=
  (units 4).any fun k =>
    let w := s.sw.lhMap.getD k.1 0
    w.testBit i && (vget s.sw.lhIn k != w.testBit 24)

/-- Limp-home drives the channels of its map (R266, R267). -/
def lhDrive (s : State) : State :=
  (units 24).foldl (fun t c =>
    if !inLimpMap t c.1 then t
    else
      let on := lhOn t c.1
      let t := { t with sw.lhMapped := t.sw.lhMapped ||| BitVec.ofNat 24 (2 ^ c.1) }
      if on = (vget t.sw.ch c).cmd then t else if on then chanOn c 1000 t else chanOff c t) s

/-- Limp-home is entered or left as LH_EN and the application side stand; E87 with the LH_IN levels and the cause
(0 start, 1 reset, 2 refresh; log entry 10). The bridges brake (R266, R278). -/
def followLimp (s : State) : State :=
  let on := s.sw.lhEn && appAway s
  let lv := (units 4).foldl (fun a k => a + b2n (vget s.sw.lhIn k) * 2 ^ k.1) 0
  let cz := if s.sw.stale then 2 else if s.pwr.inWarm || s.pwr.appResetAt.isSome then 1 else 0
  if on = s.sw.limp then s
  else
    let s := level 87 0 on (prm [(1, lv), (1, cz)]) { s with sw.limp := on }
    if on then
      lhDrive { s with sw.lk := s.sw.lk.map fun l => if l.op = 0 then l else { l with op := 0, drive := 0, brake := true, repeatOp := l.op } }
    else s

/-- LIMP_HOME_CHANGE (R266): the debounced level of LH_EN, and whether the cluster refreshes the channels again. -/
def execLimpHomeChange (lhEn refreshed : Bool) (s : State) : Host.Outcome State Fault Refusal :=
  .next (followLimp { s with sw.lhEn := lhEn, sw.stale := s.sw.stale && !refreshed })

/-- APP_REFRESH_TIMEOUT (R266): a running cluster has not refreshed the channels for 100 ms. -/
def execAppRefreshTimeout (s : State) : Host.Outcome State Fault Refusal :=
  .next (if s.pwr.appRunning && !s.pwr.inWarm && s.pwr.appResetAt.isNone && s.pwr.pstate == .run then
    followLimp { s with sw.stale := true } else s)

/-- LH_INPUT_CHANGE (R266): a debounced input changes; in limp-home the channels follow. -/
def execLhInputChange (k : Fin 4) (high : Bool) (s : State) : Host.Outcome State Fault Refusal :=
  let s := { s with sw.lhIn := vset s.sw.lhIn k high }
  .next (if s.sw.limp then lhDrive s else s)

/-! ## Host commands -/

/-- The channel indices a mask names. -/
def maskChans (m : Nat) : List Nat := (List.range 32).filter fun i => m.testBit i

/-- A channel index 0 to 31 that the member has (R251). -/
def hasIndex (s : State) (i : Nat) : Bool := if i < 24 then hasChan s i else decide (i < 32) && decide (i - 24 < s.member.points)

/-- No two coil channels name the same FB_SEL, as the commit will leave the blocks (R271). -/
def fbDistinct (s : State) (cs : List BlkCopy) : Bool :=
  distinct (((List.range 16).map fun i => afterCommit s cs (0x0601 + i)).filterMap fun b => if chRole b = 2 then some (fbSel b) else none)

/-- SW_COMMIT (R272, R271). -/
def swCommitBody (f : Flight) (s : State) : CmdOut :=
  let m := u32 0 f.pkt.payload
  need (decide (0 < m) && (maskChans m).all (hasIndex s)) stBadParam <|
  takeStored s ((maskChans m).map (0x0601 + ·)) fun cs =>
  need (fbDistinct s cs) stBadParam <|
  need ((maskChans m).all fun i =>
    match ix 24 i with
    | some c => (vget s.sw.ch c).st == .off
    | none => (ix 8 (i - 24)).all fun n => !sessOpen s n) stState <|
  .done (commitCopies cs s) (tApplied s)

def execSwCommit (p : Pkt) (s : State) : Host.Outcome State Fault Refusal :=
  .next (command 0x0601 (sized 4 swCommitBody) p s)

/-- SW_SET (R252, R253, R273): denial before state. -/
def swSetBody (f : Flight) (s : State) : CmdOut :=
  let p := f.pkt.payload
  let cmd := u8 1 p
  match chanOf s (u8 0 p) with
  | none => .fail stBadParam
  | some c =>
    let role := chRole (chP s c.1)
    need (decide (cmd ≤ 2) && decide (u16 2 p ≤ 1000) && !(cmd == 2 && role == 1)) stBadParam <|
    need (role != 2) stDenied <| need (role == 1 || role == 3) stState <|
    let s := { s with sw.lhMapped := s.sw.lhMapped &&& ~~~(BitVec.ofNat 24 (2 ^ c.1)) }
    if cmd = 0 then .done (chanOff c s) []
    else
      let x := (vget s.sw.ch c).st
      need (!(x == .blocked) && !(x == .off && latched s c)) stState <|
      .done (chanOn c (if cmd = 1 then 1000 else u16 2 p) s) []

def execSwSet (p : Pkt) (s : State) : Host.Outcome State Fault Refusal := .next (command 0x0602 (sized 4 swSetBody) p s)

/-- STATE of SW_STATUS (R274). -/
def chCode : ChState → Nat
  | .off => 0 | .inrush => 1 | .on => 2 | .tripped => 3 | .blocked => 4 | .uvOff => 5

/-- The 24 bytes of SW_STATUS for an HS or LP channel (R274). -/
def chStatus (s : State) (c : Fin 24) : List Byte :=
  let x := vget s.sw.ch c
  let k := vget s.nvCh c
  let s0 := (pointOfCoil s c).any fun n => (saf s n).coil
  le 8 (now s) ++ le 1 c.1 ++ le 1 (chCode x.st) ++
    le 2 (b2n (x.det == 1) + 2 * b2n (x.det == 2) + 4 * b2n (x.det == 3) + 8 * b2n (x.det == 4) + 16 * b2n x.olOff + 32 * b2n x.olOn +
      64 * b2n s.sw.limp + 128 * b2n x.cmd + 256 * b2n s0 + 512 * b2n (auxOf s c.1)) ++
    le 1 (latchBits k) ++ le 1 k.retry ++ leInt 2 x.temp ++ leInt 4 x.cur ++
    le 2 (if chRole (chP s c.1) = 2 ∧ conducts s c then x.hold else x.duty) ++ zeros 2

/-- The 24 bytes of SW_STATUS for a lock bridge (R274): STATE is ON while it drives. -/
def lkStatus (s : State) (n : Fin 8) : List Byte :=
  let l := vget s.sw.lk n
  le 8 (now s) ++ le 1 (24 + n.1) ++ le 1 (if l.tripped ≠ 0 then 3 else if l.drive = 0 then 0 else 2) ++
    le 2 (b2n (l.tripped == 1) + 4 * b2n (l.tripped == 3) + 16 * b2n l.olOff + 64 * b2n s.sw.limp + 128 * b2n (l.drive != 0) +
      1024 * b2n l.lks + 2048 * b2n (nvp s n).lockFault) ++ zeros 2 ++ leInt 2 l.temp ++ leInt 4 l.cur ++ zeros 4

/-- SW_STATUS (R274). -/
def swStatusBody (f : Flight) (s : State) : CmdOut :=
  let p := f.pkt.payload
  let i := u8 0 p
  need (rsv 1 3 p && hasIndex s i) stBadParam <|
  match ix 24 i, ix 8 (i - 24) with
  | some c, _ => .done s (chStatus s c)
  | none, some n => .done s (lkStatus s n)
  | none, none => .fail stBadParam

def execSwStatus (p : Pkt) (s : State) : Host.Outcome State Fault Refusal := .next (command 0x0603 (sized 4 swStatusBody) p s)

/-- Clear the latches, the counter and the open-load findings of an HS or LP channel (R275, R257). -/
def clearChan (c : Fin 24) (s : State) : State :=
  let s := modNvCh c (fun _ => {}) (modChan c (fun x => { x with olOff := false, olOn := false }) s)
  e82 c.1 1 false (e82 c.1 0 false (e81 c s))

/-- Clear LOCK_FAULT and the open-load finding of a bridge; OOS bit LOCK clears (R275, R468). -/
def clearLock (n : Fin 8) (s : State) : State :=
  let s := modLock n (fun l => { l with olOff := false, tripped := 0 }) s
  e82 (24 + n.1) 0 false (clearOos n 0x20 (setLockFault n false s))

/-- SW_CLEAR (R275). -/
def swClearBody (f : Flight) (s : State) : CmdOut :=
  let p := f.pkt.payload
  let i := u8 0 p
  need (rsv 1 3 p && hasIndex s i) stBadParam <| need (!s.sw.limp) stState <|
  match ix 24 i, ix 8 (i - 24) with
  | some c, _ => .done (clearChan c s) []
  | none, some n => .done (clearLock n s) []
  | none, none => .fail stBadParam

def execSwClear (p : Pkt) (s : State) : Host.Outcome State Fault Refusal := .next (command 0x0604 (sized 4 swClearBody) p s)

/-- ISENSE across R_IS, as bounds in mV (R265): high impedance before the die is configured, the fault level with a finding, the
mirrored current while the channel conducts (the mirror's error aside), at most 20 mV otherwise. -/
def isense (s : State) : Nat × Nat :=
  let out := fun (finding on : Bool) (ma : Int) (ratio : Nat) =>
    if finding then (4600, 5200)
    else if on then (let v := convN (ma.natAbs * 820) ratio; (v, v))
    else (0, 20)
  if !(gridRuns s || s.pwr.phase == .pfwWait) then (0, 0)
  else match ix 24 s.sw.sense, ix 8 (s.sw.sense - 24) with
    | some c, _ =>
      let x := vget s.sw.ch c
      out (x.st == .tripped || x.st == .blocked || latched s c || x.olOff || x.olOn) (conducts s c) x.cur (if c.1 < 16 then 2000 else 1000)
    | none, some n =>
      let l := vget s.sw.lk n
      out (l.tripped != 0 || l.olOff || (nvp s n).lockFault) (l.drive != 0) l.cur 1000
    | none, none => (0, 0)

/-- SW_SENSE (R265, R276). -/
def swSenseBody (f : Flight) (s : State) : CmdOut :=
  let p := f.pkt.payload
  need (rsv 1 3 p && hasIndex s (u8 0 p)) stBadParam <| .done { s with sw.sense := u8 0 p } []

def execSwSense (p : Pkt) (s : State) : Host.Outcome State Fault Refusal := .next (command 0x0605 (sized 4 swSenseBody) p s)

/-- SW_LOCK (R264, R277): the operation starts, and the reply follows its end. -/
def swLockBody (f : Flight) (s : State) : CmdOut :=
  let p := f.pkt.payload
  match pointOf s (u8 0 p) with
  | none => .fail stBadParam
  | some n =>
    let l := vget s.sw.lk n
    need (decide (u8 1 p ≤ 1) && rsv 2 2 p) stBadParam <| need (lkEn (lkB s n)) stNoConfig <|
    need (lockUp s && !(nvp s n).lockFault && l.op == 0 && l.cmd.isNone && (u8 1 p == 0 || unlockOk s n)) stState <|
    .wait (modLock n (fun l => { l with cmd := some f }) (startLock n (u8 1 p + 1) s))

def execSwLock (p : Pkt) (s : State) : Host.Outcome State Fault Refusal := .next (command 0x0606 (sized 4 swLockBody) p s)

end Sys2Proof.Machine
end

