-- ==== Sys2Proof/Machine/Credit.lean ====
section
/-!
DEFINITION. Prepayment (R118 to R120) and the interval profile (R137, R138), both followed at window closes, and tamper
records (R84, R136).
-/

namespace Sys2Proof.Machine

/-! ## Prepayment states (R119, R120) -/

/-- PP_STATE of BIL_CREDIT (R125). -/
def ppCode : PpState → Nat
  | .off => 0 | .credit => 1 | .low => 2 | .emergency => 3 | .exhausted => 4 | .friendlyHold => 5 | .ppFault => 6

/-- E39 as the supply contactor is commanded: meter and time (R127). -/
def e39 (s : State) : State := pulse 39 (prm [(1, 0), (8, now s)]) s

/-- The channel of the supply contactor, if prepayment of meter 0 names one (R120). -/
def supplyChan (s : State) : Option (Fin 24) :=
  if ppEn (ppB s 0) && decide (1 ≤ supplyCh (ppB s 0)) then ix 24 (supplyCh (ppB s 0) - 1) else none

/-- The supply contactor is commanded, and its auxiliary contact is checked AUX_T later (R119, R120). In the device safe state its
coil stays off (R252). -/
def commandSupply (on : Bool) (s : State) : State :=
  match supplyChan s with
  | none => s
  | some c => if on && s.safeDev.safeState then s else e39 { (if on then chanOn c 1000 s else chanOff c s) with bill.supOn := on, bill.supAt := some s.clk.mono }

/-- Every open session ends with SUPPLY_CREDIT, and the supply contactor opens after them (R119). -/
def supplyExhausted (s : State) : State :=
  let s := (points s).foldl (fun t n => endSoft n .supplyCredit t) s
  if s.bill.supOn && !(points s).any (sessRuns s) then commandSupply false s else s

/-- Emergency credit can still be taken in this exhaustion (R119). -/
def emergencyOpen (b : List Byte) (x : MeterP) : Bool :=
  (emergAuto b || x.emergOn) && !x.emergUsed && decide (-(emergLimit b : Int) < x.credit)

/-- The prepayment state the credit calls for (R119). -/
def ppTarget (b : List Byte) (friendly : Bool) (x : MeterP) : PpState :=
  if x.ppState = .ppFault then .ppFault
  else if 0 < x.credit then
    if x.ppState = .exhausted ∧ x.credit < reconThr b then .exhausted
    else if x.credit ≤ lowThr b then .low else .credit
  else if emergencyOpen b x && (x.ppState != .exhausted || x.emergOn) then .emergency
  else if x.ppState = .exhausted then .exhausted
  else if friendly && friendlyEn b then .friendlyHold
  else .exhausted

/-- PREPAYMENT_EVALUATE (R119): the state of a meter with PP_EN = 1 follows its credit; EXHAUSTED ends sessions. -/
def prepay (m : Fin 9) (s : State) : State :=
  let b := ppB s m.1
  if !ppEn b then s
  else
    let s := modMeterP m (fun x => { x with
      emergUsed := if 0 < x.credit then false else x.emergUsed || ((emergAuto b || x.emergOn) && decide (x.credit ≤ -(emergLimit b : Int)))
      emergOn := x.emergOn && decide (x.credit ≤ 0) }) s
    let s := ppGo m (ppTarget b s.bill.friendly (vget s.p100.m m)) s
    if (vget s.p100.m m).ppState ≠ .exhausted then s
    else match pointOfMeter m with
      | some n => endSoft n .creditExhausted s
      | none => supplyExhausted s

/-- PP_AUX_CHECK (R119): AUX_T after a command, the auxiliary contact of SUPPLY_CH differs from the commanded state. -/
def execPpAuxCheck (s : State) : Host.Outcome State Fault Refusal :=
  .next (match s.bill.supAt, supplyChan s with
    | some t, some c =>
      if elapsed s t (auxT (ppB s 0) * 1000) then
        let s := { s with bill.supAt := none }
        if auxOf s c.1 == s.bill.supOn then s else ppGo 0 .ppFault s
      else s
    | _, _ => s)

/-! ## Tamper records (after R134, R136) -/

/-- A tamper record: KIND, METER, the open session, the time of the finding, cover openings. -/
def tamperRec (kind meter sess t : Nat) (s : State) : State :=
  queueRec { type := 5, time := now s,
             body := fit 224 (le 1 kind ++ le 1 meter ++ zeros 2 ++ le 4 sess ++ le 8 t ++ le 4 s.tail.openCount) } s

/-! ## Interval profile (R138) -/

/-- A profile interval, µs. -/
def profUs : Nat := 900000000

/-- Differences of A+, A−, R+, R− of a meter since its base readings, and its quality word. -/
def profMeter (x : MeterP) (data : Bool) : List Byte :=
  if data then ((units 4).flatMap fun k => le 4 (totalReg x ⟨k.1, by omega⟩ - vget x.profBase k)) ++ le 2 x.profQual ++ zeros 2
  else zeros 20

/-- One profile entry for the interval end `t` (R138). -/
def profEntry (t : Nat) (out step data : Bool) (s : State) : List Byte :=
  let inv := (units 9).any fun m => bit (vget s.p100.m m).profQual 8
  let ofs := if out || step then 0xFFFF else min 0xFFFF ((now s - t) / 1000)
  le 8 t ++ le 2 ofs ++ le 2 (b2n out + 2 * b2n (step && !out) + 4 * b2n (data && inv) + 8 * b2n (!data)) ++
    (units 9).flatMap fun m => profMeter (vget s.p100.m m) data

/-- The entry of the interval end `t` is written; with data, the readings become the next base (R138). -/
def profWrite (t : Nat) (isFirst : Bool) (s : State) : State :=
  let out := decide (t ≤ s.p100.profOutTo)
  let step := decide (t ≤ s.p100.profStepTo)
  let data := isFirst || !(out || step)
  let e := profEntry t out step data s
  let s := { s with led.profile := ((t, e) :: s.led.profile).take 43690, p100.profLast := t }
  if data then
    { s with p100.m := s.p100.m.map fun x => { x with profBase := Vector.ofFn fun k => totalReg x ⟨k.1, by omega⟩, profQual := 0 } }
  else s

/-- PROFILE_INTERVAL_END (R138): every interval end up to the device time `t` gets its own entry, in order; only the ends the ring can
hold. On the first valid time of a new device there is no base yet: the interval in progress begins there. -/
def profileRun (t : Nat) (s : State) : State :=
  let e := t / profUs * profUs
  if !s.clk.timeValid then s
  else if s.p100.profLast = 0 then
    { s with
      p100.profLast := e
      p100.m := s.p100.m.map fun x => { x with profBase := Vector.ofFn fun k => totalReg x ⟨k.1, by omega⟩, profQual := 0 } }
  else if e ≤ s.p100.profLast then s
  else
    let k := min 43690 ((e - s.p100.profLast) / profUs)
    persist ((List.range k).foldl (fun t i => profWrite (e - (k - 1 - i) * profUs) (i == 0) t) s)

end Sys2Proof.Machine
end

