-- ==== Sys2Proof/Machine/FrontEnd.lean ====
section
/-!
DEFINITION. The metering front end (spec/02_metering_front_end.md): rotation, calibration, faulty modulators and
substitution, supervision of external bitstreams, group commits, and its host commands.
-/

namespace Sys2Proof.Machine

/-! ## Modulators and channels (R22) -/

def modMod (i : Nat) (f : Modu → Modu) (s : State) : State := { s with fe.mods := vatMod s.fe.mods i f }
def modNvMod (i : Nat) (f : NvMod → NvMod) (s : State) : State := { s with nvFe.mods := vatMod s.nvFe.mods i f }
def modXch (i : Nat) (f : XCh → XCh) (s : State) : State := { s with fe.xch := vatMod s.fe.xch i f }

/-- Group of a global index. -/
def gIx (i : Nat) : Nat := i / 8
/-- Channel number of a global index. -/
def cIx (i : Nat) : Nat := i % 8

def isFaulty (s : State) (i : Nat) : Bool := (vat s.nvFe.mods i {}).faulty
def isDegraded (s : State) (g : Nat) : Bool := vat s.nvFe.degraded g false

/-- The channel takes its samples from an internal modulator and is enabled. -/
def internalEn (s : State) (g c : Nat) : Bool := decide (c < 7) && chEn (grp s g) c && !chExt (grp s g) c

/-- The step in which the slot of group `g` stands, 0 between slots (R33). -/
def slotStep (s : State) (g : Nat) : Nat := ((s.fe.slotAt.filter fun x => gIx x.1 == g).map fun x => x.2.cut).getD 0

/-- The spare's outputs are the channel's: after a substitution (R40), or from the take over of step 3 to the hand back of step
11 of the channel's slot (R33, R34). -/
def spareServes (s : State) (g c : Nat) : Bool :=
  vat s.nvFe.subst g none == some c || (vat s.fe.spareBusy g none == some c && decide (4 ≤ slotStep s g))

/-- The modulator that serves channel `c` of group `g` (R22, R33, R40). -/
def serving (s : State) (g c : Nat) : Nat := if spareServes s g c then 8 * g + 7 else 8 * g + c

/-- The channel whose lands the spare of a group is connected to (R33, R39). -/
def spareLands (s : State) (g : Nat) : Option Nat :=
  (vat s.nvFe.subst g none).orElse fun _ => (s.fe.slotAt.filter fun x => gIx x.1 == g && internalEn s g (cIx x.1)).map fun x => cIx x.1

/-- The channel is served by a faulty modulator, with no healthy one to take its place: it delivers 0, flagged INVALID (R40). -/
def noModulator (s : State) (g c : Nat) : Bool := internalEn s g c && isFaulty s (serving s g c)

/-- Another modulator is connected to the same lands (R33): the spare and modulator c in the steps before c is detached and
after it is reattached. -/
def paralleled (s : State) (i : Nat) : Bool :=
  s.fe.slotAt.any fun x => internalEn s (gIx x.1) (cIx x.1) && gIx x.1 == gIx i && (x.1 == i || cIx i == 7) &&
    (within x.2.cut 1 3 || within x.2.cut 9 11)

/-- The factory coefficient set of a modulator (R37). -/
def factoryCoef (i : Nat) : Coef :=
  { offset := Config.factoryOffset i, gain := Config.factoryGain i, phase := Config.factoryPhase i,
    temp := Config.factoryTemp i, flags := 0, time := Config.factoryTime }

/-- The 24 bytes of a coefficient set (R37). -/
def coefBytes (c : Coef) : List Byte :=
  leInt 4 c.offset ++ le 4 c.gain ++ leInt 2 c.phase ++ leInt 2 c.temp ++ le 2 c.flags ++ zeros 2 ++ le 8 c.time

/-- The coefficient set a stored copy holds, none where its CRC-32 is not valid (R37). -/
def coefOfCopy (b : List Byte) : Option Coef :=
  if b.length == 28 && crcOk b then
    some { offset := sfld 4 0 b, gain := u32 4 b, phase := sfld 2 8 b, temp := sfld 2 10 b, flags := u16 12 b, time := u64 16 b }
  else none

/-- The set a modulator's copies give: the newer copy with a valid CRC (R37). -/
def storedCoef (x : NvMod) : Option Coef :=
  let new := if x.newerB then x.copyB else x.copyA
  let old := if x.newerB then x.copyA else x.copyB
  (coefOfCopy new).orElse fun _ => coefOfCopy old

/-- E17: group, modulator or channel, and a cause: 0 a modulator is marked faulty or substituted, 1 OVERDUE, raised when a
modulator becomes overdue and when it passes again, 2 a channel becomes INVALID (R41, R47; log entries 10 and 203). -/
def e17 (i cause : Nat) (s : State) : State := pulse 17 (prm [(1, gIx i), (1, i), (1, cause)]) s

/-- A group becomes degraded or leaves that state, with E18, which carries the group's spare, 8g + 7, whichever modulator
failed (R40, R47; log entry 203). -/
def setDegraded (g : Nat) (on : Bool) (s : State) : State :=
  level 18 g on (prm [(1, g), (1, 8 * g + 7)]) { s with nvFe.degraded := vatMod s.nvFe.degraded g fun _ => on }

/-- The samples of a channel are substituted from now until the spare's outputs have settled (R39, R58). -/
def substitute (g c : Nat) (s : State) : State := modXch (8 * g + c) (fun x => { x with subst := some s.clk.mono }) s

def setSubst (g : Nat) (c : Option Nat) (s : State) : State := { s with nvFe.subst := vatMod s.nvFe.subst g fun _ => c }
def setBusy (g : Nat) (c : Option Nat) (s : State) : State := { s with fe.spareBusy := vatMod s.fe.spareBusy g fun _ => c }

/-- The slot of a group is abandoned (R40); other groups' slots stand. -/
def abandonSlot (g : Nat) (s : State) : State :=
  { setBusy g none s with fe.slotAt := s.fe.slotAt.filter fun x => !(gIx x.1 == g) }

/-- Modulator `k` returns to its channel because its spare is needed elsewhere: with its previous coefficients, where the slot
had computed new ones, and substituted until settled (R40). -/
def giveBack (g k : Nat) (s : State) : State :=
  let s := if 9 ≤ slotStep s g then modMod (8 * g + k) (fun x => { x with cur := x.prev }) s else s
  substitute g k s

/-- A serving modulator `c` of a group is found faulty outside a comparison step, and the spare is free: the spare serves its
channel from now on, and a channel it served in rotation is given back (R39, R40). -/
def replaceMod (g c : Nat) (s : State) : State :=
  let s := match vat s.fe.spareBusy g none with | some k => giveBack g k s | none => s
  setDegraded g true (substitute g c (setSubst g (some c) (abandonSlot g s)))

/-- A modulator is found faulty: the responses of R39 and of the table of R40. An idle modulator's verdict changes no channel
until its channel is enabled (`adopt`, log entry 205). -/
def markFaulty (i : Nat) (s : State) : State :=
  let g := gIx i
  let c := cIx i
  if isFaulty s i then s
  else
    let busy := vat s.fe.spareBusy g none
    let was := isDegraded s g
    let served := vat s.nvFe.subst g none
    let s := e17 i 0 (modNvMod i (fun x => { x with faulty := true, passes := 0 }) s)
    if c = 7 then
      let s := { s with fe.mods := Vector.ofFn fun j => if gIx j = g then { vget s.fe.mods j with cmpFails := 0 } else vget s.fe.mods j }
      let s := match busy with | some k => substitute g k s | none => s
      let s := match served with | some k => e17 (8 * g + k) 2 s | none => s
      setDegraded g true (abandonSlot g s)
    else if busy = some c then setDegraded g true (setSubst g (some c) (abandonSlot g s))
    else if internalEn s g c && !(served == some c) then
      if was then e17 i 2 s else replaceMod g c s
    else s

/-- A channel that is enabled on its internal modulator finds that modulator marked faulty: the spare takes it over as in R39,
or, in a degraded group, it is INVALID as in R40 (log entry 205). -/
def adopt (g c : Nat) (s : State) : State :=
  if !internalEn s g c || !isFaulty s (8 * g + c) || vat s.nvFe.subst g none == some c then s
  else if isDegraded s g then e17 (8 * g + c) 2 s
  else replaceMod g c s

/-! ## Calibration (R30, R31, R36, R37) -/

/-- The limit of a comparison step: 0.05 % of the channel's RMS plus 0.002 % of full scale (R35). -/
def cmpPass (x : Nat × Nat) : Bool := decide (x.1 * 100000 ≤ 50 * x.2 + 2 * (8388607 * 256))

/-- The nominal chain delay against which the tone's is taken: the Spindle output's, 3040.25 µs with PH_DELAY + PHASE = 0, in
steps of 3.90625 ns (R30, R49, R52). -/
def toneNominal : Int := 778304

/-- The coefficients a calibration computes: offset, gain, phase, and whether the references agree (R30). Where a span is not
positive the ratio has no value; it is taken as a reference disagreement, with gain 0 (log entry 206). -/
def calibrate (x : SlotMeas) : Int × Nat × Int × Bool :=
  let sbg := x.bgPos - x.bgNeg
  let sbz := x.bzPos - x.bzNeg
  let lbg : Int := Config.lBg
  let lbz : Int := Config.lBz
  let agree := decide (0 < sbg) && decide (0 < sbz) &&
    decide ((sbz * lbg - sbg * lbz).natAbs * 1000000 ≤ 150 * (sbg * lbz).natAbs)
  let gain := if 0 < sbg ∧ 0 < sbz then convN ((lbg * sbz + lbz * sbg).toNat * 2 ^ 30) (sbg * sbz).toNat else 0
  (x.zero, gain, Config.toneDly - (x.toneDelay - toneNominal), agree)

/-- The limits of R36; while calibration is frozen only offset and noise. -/
def calOkay (i : Nat) (x : SlotMeas) (frozen : Bool) : Bool :=
  let k := calibrate x
  let amp := x.toneAmp * k.2.1
  let want := 5033164 * 256 * 2 ^ 30
  withinI k.1 (-(41943 * 256)) (41943 * 256) && decide (x.noise ≤ 3 * Config.noiseF i) &&
    (frozen || (decide (98 * 2 ^ 30 ≤ k.2.1 * 100) && decide (k.2.1 * 100 ≤ 102 * 2 ^ 30) && withinI k.2.2.1 (-51) 51 &&
      decide (amp * 9995 ≤ want * 10000) && decide (want * 10000 ≤ amp * 10005)))

/-- A reference disagreement freezes calibration in every group; three agreeing calibrations lift the freeze (R31). -/
def followRefs (i : Nat) (agree : Bool) (s : State) : State :=
  let p := prm [(1, gIx i), (1, i)]
  if !agree then level 16 0 true p { s with fe.frozen := true, fe.agreeRun := 0 }
  else if s.fe.frozen then
    if s.fe.agreeRun + 1 ≥ 3 then level 16 0 false p { s with fe.frozen := false, fe.agreeRun := 0 }
    else { s with fe.agreeRun := s.fe.agreeRun + 1 }
  else s

/-- Store a set, followed by its CRC-32, alternately to a modulator's two copies (R37). -/
def storeCoef (c : Coef) (x : NvMod) : NvMod :=
  let b := withCrc (coefBytes c)
  if x.newerB then { x with copyA := b, newerB := false } else { x with copyB := b, newerB := true }

/-- The set a passing calibration leaves a modulator with: the computed one, or, when it ran frozen, the last good one marked
FROZEN (R31, R37; log entry 206). -/
def passedCoef (frozen : Bool) (cur : Coef) (x : SlotMeas) (t : Nat) : Coef :=
  let k := calibrate x
  if frozen then { cur with flags := cur.flags % 2 + 2 }
  else { offset := k.1, gain := k.2.1, phase := k.2.2.1, temp := x.temp, flags := 1, time := t }

/-- Steps 4 to 8 for a modulator: true when the calibration passes (R33, R36, R37, R41, R42). A calibration that begins frozen
applies nothing, the one that lifts the freeze included (R31, log entry 206). One that fails marks the current set FAIL. -/
def calSteps (i : Nat) (x : SlotMeas) (s : State) : State × Bool :=
  let k := calibrate x
  let frozen := s.fe.frozen || !k.2.2.2
  let ok := calOkay i x frozen
  let s := followRefs i k.2.2.2 s
  if !ok then
    (modNvMod i (fun y => { y with passes := 0 })
      (modMod i (fun y => { y with cur := { y.cur with flags := y.cur.flags % 4 + 4 } }) s), false)
  else
    let c := passedCoef frozen (vat s.fe.mods i {}).cur x (now s)
    let s := if (vat s.fe.mods i {}).overdue then e17 i 1 s else s
    (modNvMod i (fun y => storeCoef c { y with passes := satAdd 8 y.passes 1 })
      (modMod i (fun y => { y with
        prev := y.cur, cur := c, cold := false, lastPass := some s.clk.mono, overdue := false }) s), true)

/-! ## Slots (R32 to R35, R40) -/

/-- A comparison fails: the slot is abandoned, the spare gets an extra slot, and then the slot comes again; a second failure
marks the modulator faulty, and the spare, which runs settled on the same lands, keeps the channel without substitution (R39,
R40). -/
def cmpFail (i : Nat) (s : State) : State :=
  if (vat s.fe.mods i {}).cmpFails = 0 then
    { modMod i (fun y => { y with cmpFails := 1 }) (abandonSlot (gIx i) s) with fe.extra := s.fe.extra ++ [8 * gIx i + 7, i] }
  else markFaulty i (setBusy (gIx i) (some (cIx i)) (modMod i (fun y => { y with cmpFails := 0 }) s))

/-- The slot of modulator `i` stands in the step `x.cut`. -/
def standAt (i : Nat) (x : SlotMeas) (s : State) : State := { s with fe.slotAt := some (i, x) }

/-- Step 12: the spare is released and the slot ends (R33). -/
def endSlot (i : Nat) (s : State) : State := modMod i (fun y => { y with cmpFails := 0 }) (abandonSlot (gIx i) s)

/-- Steps 9 to 12: reattach, compare, hand back, release (R33). -/
def reattach (i : Nat) (x : SlotMeas) (s : State) : State :=
  if x.cut = 9 ∨ x.cut = 10 then standAt i x s
  else if !cmpPass x.cmp2 then cmpFail i s
  else if x.cut = 11 then standAt i x s
  else endSlot i s

/-- Steps 4 to 12: calibration on the reference bus, and the return (R33). -/
def detached (i : Nat) (x : SlotMeas) (s : State) : State :=
  if 4 ≤ x.cut ∧ x.cut ≤ 8 then standAt i x s
  else
    let r := calSteps i x s
    if r.2 then reattach i x r.1 else markFaulty i r.1

/-- Steps 3 to 12: the spare takes the channel over (R33). -/
def takeOver (i : Nat) (x : SlotMeas) (s : State) : State :=
  let s := setBusy (gIx i) (some (cIx i)) s
  if x.cut = 3 then standAt i x s else detached i x s

/-- The steps of R33 for a modulator that serves its own channel. -/
def fullSlot (i : Nat) (x : SlotMeas) (s : State) : State :=
  if x.cut = 1 ∨ x.cut = 2 then standAt i x s
  else if !cmpPass x.cmp1 then cmpFail i s
  else takeOver i x s

/-- A slot in which only steps 4 to 8 run: a spare, an idle or a faulty modulator (R35, R40). -/
def idleSlot (i : Nat) (x : SlotMeas) (s : State) : State :=
  if 4 ≤ x.cut ∧ x.cut ≤ 8 then standAt i x s
  else
    let r := calSteps i x (abandonSlot (gIx i) s)
    if r.2 then r.1 else markFaulty i r.1

/-- The modulator serves its own enabled channel. -/
def servesOwn (s : State) (i : Nat) : Bool :=
  internalEn s (gIx i) (cIx i) && !isFaulty s i && !(vat s.nvFe.subst (gIx i) none == some (cIx i))

/-- The slot of modulator `i` (R33, R35, R40): a serving modulator of a degraded group is not calibrated. -/
def slotOf (i : Nat) (x : SlotMeas) (s : State) : State :=
  let g := gIx i
  if !hasGroup s g then s
  else if cIx i = 7 then (if (vat s.nvFe.subst g none).isSome && !isFaulty s i then s else idleSlot i x s)
  else if servesOwn s i then (if isDegraded s g then s else fullSlot i x s)
  else idleSlot i x s

/-- The slot that stands runs on from its step to its end, on what it has measured (R33, log entry 201). -/
def resumeSlot (s : State) : State :=
  match s.fe.slotAt with
  | none => s
  | some (i, x) =>
    let y := { x with cut := 0 }
    if !servesOwn s i then idleSlot i y { s with fe.slotAt := none }
    else if x.cut ≤ 2 then fullSlot i y s
    else if x.cut = 3 then takeOver i y s
    else if x.cut ≤ 8 then detached i y s
    else if x.cut ≤ 10 then reattach i y s
    else endSlot i s

/-- No modulator of the group is faulty. -/
def groupHealthy (s : State) (g : Nat) : Bool := (List.range 8).all fun c => !isFaulty s (8 * g + c)

/-- The group leaves the degraded state unless a modulator of it is still faulty (R46). -/
def leaveDegraded (g : Nat) (s : State) : State := if groupHealthy s g then setDegraded g false s else s

/-- A requalified modulator returns to its channel through steps 9 to 12, the spare serving until the hand back; when the
comparison of step 10 fails, R40 governs, the modulator serving (R33, R46; log entry 204). -/
def returnMod (i : Nat) (x : SlotMeas) (s : State) : State :=
  let g := gIx i
  if isFaulty s i || !(vat s.nvFe.subst g none == some (cIx i)) then s
  else
    let s := leaveDegraded g (setSubst g none s)
    if cmpPass x.cmp2 then endSlot i s else cmpFail i s

/-- The modulator whose slot number `n` is: n div 9 of group n mod 9 (R32). -/
def slotMod (n : Nat) : Nat := 8 * (n % 9) + n / 9

/-- ROTATION_SLOT_START (R32 to R37): a slot that stands ends first; then the return of a requalified modulator (R46), an
inserted slot (R40), or the next slot of the rotation, with E21 when the first full rotation completes (R42). Slot 0 of the
first rotation begins 10 s after metering becomes valid (R32). -/
def rotationSlot (x : SlotMeas) (s : State) : State :=
  if !s.fe.valid || decide (s.clk.mono < s.fe.validAt + 10000000) then s
  else
    let s := resumeSlot s
    match s.fe.back, s.fe.extra with
    | i :: rest, _ => returnMod i x { s with fe.back := rest }
    | [], i :: rest => slotOf i x { s with fe.extra := rest }
    | [], [] =>
      let n := s.fe.slot
      let s := slotOf (slotMod n) x { s with fe.slot := (n + 1) % 72 }
      if n = 71 ∧ !s.fe.firstDone then
        pulse 21 (prm [(1, 0xFF), (1, 0xFF), (4, ((List.range 72).filter fun i => hasGroup s (gIx i) && (vat s.fe.mods i {}).cold).length)]) { s with fe.firstDone := true }
      else s

def execRotationSlotStart (x : SlotMeas) (s : State) : Host.Outcome State Fault Refusal := .next (rotationSlot x s)

/-- At a 2 ms boundary of the sample grid a slot that stands in step 3 or 11 switches the channel's outputs, to the spare or
back to the modulator (R33, R34). -/
def gridSwitch (s : State) : State :=
  match s.fe.slotAt with
  | some (i, x) => if x.cut = 3 then standAt i { x with cut := 4 } s else if x.cut = 11 then endSlot i s else s
  | none => s

/-- What shows a modulator faulty (R38): 64 periods without a transition, or a ones density above 0.95 or below 0.05
while another modulator connected to the same lands shows no OVR. -/
def evidenceHolds (s : State) (i : Nat) : ModEvidence → Bool
  | .stuck p => decide (64 ≤ p)
  | .density ones ovr => paralleled s i && !ovr && (decide (243 < ones) || decide (ones < 13))

/-- MODULATOR_FAULT (R38 to R40). -/
def execModulatorFault (m : Fin 72) (e : ModEvidence) (s : State) : Host.Outcome State Fault Refusal :=
  .next (if s.fe.valid && hasGroup s (gIx m) && evidenceHolds s m e then markFaulty m s else s)

/-- MODULATOR_OVERDUE (R41): 600 s since the last passing calibration, in a group neither degraded nor frozen. -/
def execModulatorOverdue (m : Fin 72) (s : State) : Host.Outcome State Fault Refusal :=
  let x := vget s.fe.mods m
  let g := gIx m
  .next (if s.fe.firstDone && !s.fe.frozen && !isDegraded s g && !x.overdue && heldFor s x.lastPass 600000000 &&
      (internalEn s g (cIx m) || cIx m == 7) then
    e17 m 1 (modMod m (fun y => { y with overdue := true }) s) else s)

/-! ## External bitstreams (R26 to R28) -/

/-- The channel is enabled and takes an external bitstream. -/
def extEn (s : State) (i : Nat) : Bool := chEn (grp s (gIx i)) (cIx i) && chExt (grp s (gIx i)) (cIx i)

/-- XBSg_CLK is driven: an enabled channel of the group has SRC = 1 (R26). -/
def xbsClk (s : State) (g : Nat) : Bool := (List.range 7).any fun c => extEn s (8 * g + c)

/-- E19 and E20 carry the group and the channel's number in it, 0 to 6 (log entry 203). -/
def xParam (i : Nat) : List Byte := prm [(1, gIx i), (1, cIx i)]

/-- BITSTREAM_STUCK (R27): 64 clock periods without a transition. -/
def execBitstreamStuck (c : Fin 72) (periods : Nat) (s : State) : Host.Outcome State Fault Refusal :=
  .next (if extEn s c && decide (64 ≤ periods) then
    let s := if (vget s.fe.xch c).stuck then s else e17 c 2 s
    level 19 (2 * c.1) true (xParam c) (modXch c (fun x => { x with stuck := true }) s) else s)

/-- BITSTREAM_RECOVER (R27): transitions for 1 ms end the stuck fault; samples carry INVALID while it lies within their impulse
response (R56). -/
def execBitstreamRecover (c : Fin 72) (us : Nat) (s : State) : Host.Outcome State Fault Refusal :=
  .next (if (vget s.fe.xch c).stuck && decide (1000 ≤ us) then
    level 19 (2 * c.1) false (xParam c) (modXch c (fun x => { x with stuck := false, inv := some s.clk.mono }) s)
    else s)

/-- BITSTREAM_OVERRANGE (R27): the ones of 256 clock periods lie beyond 0.95 or 0.05, or do so no longer. -/
def execBitstreamOverrange (c : Fin 72) (ones : Nat) (s : State) : Host.Outcome State Fault Refusal :=
  let on := decide (243 < ones) || decide (ones < 13)
  .next (if extEn s c then
    level 19 (2 * c.1 + 1) on (xParam c)
      (modXch c (fun x => { x with ovr := on, ovrEnd := if x.ovr && !on then some s.clk.mono else x.ovrEnd }) s) else s)

/-- The value of a channel over a cross-check window, in 1/65,536 LSB: the mean in a DC group, the RMS otherwise, from its sums
at the window's start and end (R28). -/
def xValue (dc : Bool) (t0 t : Int × Nat × Nat) : Nat :=
  let n := t.2.2 - t0.2.2
  if n = 0 then 0
  else if dc then (conv ((t.1 - t0.1) * 65536) n).natAbs
  else convSqrt ((t.2.1 - t0.2.1) * 2 ^ 32) n

/-- The signed difference of the two means, or that of the RMS values, times the scales, in 1/65,536 (R28). -/
def xDiff (dc : Bool) (sc so : Nat) (a0 a b0 b : Int × Nat × Nat) : Nat :=
  let mean := fun (t0 t : Int × Nat × Nat) => if t.2.2 - t0.2.2 = 0 then 0 else conv ((t.1 - t0.1) * 65536) (t.2.2 - t0.2.2)
  if dc then (mean a0 a * sc - mean b0 b * so).natAbs
  else ((xValue false a0 a * sc : Nat) - (xValue false b0 b * so : Nat) : Int).natAbs

/-- What the cross-check of a bitstream channel finds over its window: none where both values lie below 1 % of the channel's full
scale, else whether the difference exceeds TOL × 0.05 % of the larger (R28). -/
def xCheck (s : State) (i : Nat) : Option Bool :=
  let b := grp s (gIx i)
  let p := chPartner b (cIx i)
  let x := vat s.fe.xch i {}
  let y := vat s.fe.xch p {}
  let dc := grpSystem b == 3
  let sc := chScale b (cIx i)
  let so := chScale (grp s (gIx p)) (cIx p)
  let own := xValue dc x.tot0.1 x.tot * sc
  let oth := xValue dc x.tot0.2 y.tot * so
  let fs := 8388607 * 65536 * sc
  if own * 100 < fs ∧ oth * 100 < fs then none
  else some (decide (chTol b (cIx i) * max own oth < xDiff dc sc so x.tot0.1 x.tot x.tot0.2 y.tot * 2000))

/-- A cross-check window of a bitstream channel begins (R28). -/
def xStart (i : Nat) (s : State) : State :=
  let p := chPartner (grp s (gIx i)) (cIx i)
  modXch i (fun x => { x with xAt := s.clk.mono, tot0 := (x.tot, (vat s.fe.xch p {}).tot) }) s

/-- CROSS_CHECK_WINDOW (R28): a window of 1 s of a bitstream channel with a partner ends. Three mismatching windows in a row raise
E20 and flag XCHK until a window agrees; one that is not compared leaves the run as it stands (log entry 207). -/
def execCrossCheckWindow (c : Fin 72) (s : State) : Host.Outcome State Fault Refusal :=
  let x := vget s.fe.xch c
  .next (if !s.fe.valid || !extEn s c || chPartner (grp s (gIx c)) (cIx c) == 0x7F || !elapsed s x.xAt 1000000 then s
    else match xCheck s c with
      | none => xStart c s
      | some true =>
        let s := modXch c (fun y => { y with misRun := min 3 (y.misRun + 1), xchk := y.xchk || decide (2 ≤ y.misRun) }) (xStart c s)
        if 2 ≤ x.misRun then level 20 c.1 true (xParam c) s else s
      | some false => level 20 c.1 false (xParam c) (modXch c (fun y => { y with misRun := 0, xchk := false }) (xStart c s)))

/-! ## Host commands -/

/-- The points among groups 1 to 8 of a mask whose contactor is not open (R45, R243). -/
def closedInGroups (s : State) (m : Nat) : Bool := (units 8).any fun n => m.testBit (n.1 + 1) && contactorShut s n

/-- Groups named by a mask. -/
def maskGroups (m : Nat) : List Nat := (List.range 9).filter fun g => m.testBit g

/-- MTR_COMMIT (R45): the stored group blocks named wait for a boundary with no named spare in rotation. -/
def mtrCommitBody (f : Flight) (s : State) : CmdOut :=
  let m := u16 0 f.pkt.payload
  need (decide (0 < m) && decide (m < 2 ^ (s.member.points + 1))) stBadParam <|
  takeStored s ((maskGroups m).map (0x0210 + ·)) fun cs =>
  need (!closedInGroups s m) stState <| need s.fe.commit.isNone stBusy <|
  .wait (take f cs { s with fe.commit := some { f with tag := m } })

def execMtrCommit (p : Pkt) (s : State) : Host.Outcome State Fault Refusal :=
  .next (command 0x0201 (sized 2 mtrCommitBody) p s)

/-- A channel's chain restarts when PH_DELAY, SRC or CH_EN changes, or BS_SMP for a bitstream channel (R54). -/
def chainRestarts (old new : List Byte) (c : Nat) : Bool :=
  !(chCtl old c &&& 0xFFFFC003 == chCtl new c &&& 0xFFFFC003) || (chExt new c && !(grpBsSmp old == grpBsSmp new))

/-- Supervision of a channel that a new block leaves without a bitstream or without its partner ends: what stood is withdrawn
with E19 and E20; a new partner begins a new window and a new run (R27, R28, R47). -/
def dropSupervision (old : List Byte) (g c : Nat) (s : State) : State :=
  let b := grp s g
  let i := 8 * g + c
  let s := if chEn b c && chExt b c then s
    else level 19 (2 * i + 1) false (xParam i) (level 19 (2 * i) false (xParam i)
      (modXch i (fun x => { x with stuck := false, ovr := false }) s))
  if chEn b c && chExt b c && !(chPartner b c == 0x7F) then
    if chPartner old c == chPartner b c && chExt old c && chEn old c then s
    else modXch i (fun x => { x with misRun := 0 }) (xStart i s)
  else level 20 i false (xParam i) (modXch i (fun x => { x with misRun := 0, xchk := false }) s)

/-- Apply one group's block: the channels whose chain restarts carry INVALID until it has settled (R54, R58); the detectors of a
channel keep their state (log entry 307). A channel enabled on a faulty modulator is taken over or INVALID (R40). -/
def applyGroup (old : List Byte) (g : Nat) (s : State) : State :=
  let b := grp s g
  (List.range 7).foldl (fun t c =>
    let t := if chainRestarts old b c then
        { modXch (8 * g + c) (fun x => { x with inv := some s.clk.mono }) t with fe.chain := vatMod t.fe.chain (8 * g + c) fun _ => {} }
      else t
    let t := dropSupervision old g c t
    if internalEn t g c && !(chEn old c && !chExt old c) then adopt g c t else t) s

/-- The named groups can take their blocks: at a 2 ms boundary, with no spare of theirs serving in rotation, degraded groups
exempt (R45), and every contactor concerned open (R243). -/
def commitFree (s : State) (m : Nat) : Bool :=
  s.fe.grid % 8000 == 0 && !closedInGroups s m &&
    (maskGroups m).all fun g => (vat s.fe.spareBusy g none).isNone || isDegraded s g

/-- The waiting group blocks take effect together, and the reply is sent (R45). -/
def mtrApply (s : State) : State :=
  match s.fe.commit with
  | none => s
  | some f =>
    if !commitFree s f.tag then s
    else
      let old := s
      let s := commitCopies (takenBy s f) { s with fe.commit := none }
      let s := (maskGroups f.tag).foldl (fun t g => applyGroup (grp old g) g t) s
      finish f (tApplied s) (untake f s)

/-- ROLE of a modulator: 0 serving its own channel, 1 idle, 2 on the reference bus, 3 paralleled, 4 serving another, 5 faulty
(R33, R45). -/
def roleOf (s : State) (i : Nat) : Nat :=
  let g := gIx i
  let c := cIx i
  let step := slotStep s g
  let own := s.fe.slotAt.any fun x => x.1 == i
  if isFaulty s i then 5
  else if own && within step 4 8 then 2
  else if own && decide (9 ≤ step) then 3
  else if c = 7 then
    if (vat s.nvFe.subst g none).isSome || ((vat s.fe.spareBusy g none).isSome && decide (4 ≤ step)) then 4
    else if within step 1 3 then 3 else 1
  else if internalEn s g c && serving s g c == i then 0 else 1

/-- SERVING of a modulator, 0xFF when it serves no channel (R45). -/
def servingOf (s : State) (i : Nat) : Nat :=
  match roleOf s i with
  | 0 => cIx i
  | 4 => ((vat s.nvFe.subst (gIx i) none).orElse fun _ => vat s.fe.spareBusy (gIx i) none).getD 0xFF
  | _ => 0xFF

/-- MTR_CAL_STATUS (R45). -/
def mtrCalStatusBody (f : Flight) (s : State) : CmdOut :=
  let i := u8 0 f.pkt.payload
  need (rsv 1 3 f.pkt.payload && decide (i < 72) && hasGroup s (gIx i)) stBadParam <|
  let m := vat s.fe.mods i {}
  .done s (coefBytes m.cur ++ coefBytes (factoryCoef i) ++ le 1 (roleOf s i) ++ le 1 (servingOf s i) ++
    le 2 (b2n m.cold + 2 * b2n s.fe.frozen + 4 * b2n (isDegraded s (gIx i))) ++
    le 1 (vat s.nvFe.mods i {}).passes ++ zeros 3)

def execMtrCalStatus (p : Pkt) (s : State) : Host.Outcome State Fault Refusal :=
  .next (command 0x0202 (sized 4 mtrCalStatusBody) p s)

/-- MTR_REQUALIFY (R46): a faulty modulator whose last three calibrations passed is cleared of the verdict. One whose channel the
spare serves returns in the next slot (log entry 204); one whose channel had none returns at once, settling; the spare becomes
idle. -/
def mtrRequalifyBody (f : Flight) (s : State) : CmdOut :=
  let i := u8 0 f.pkt.payload
  need (rsv 1 3 f.pkt.payload && decide (i < 72) && hasGroup s (gIx i)) stBadParam <|
  need (isFaulty s i && decide (3 ≤ (vat s.nvFe.mods i {}).passes)) stState <|
  let g := gIx i
  let s := modMod i (fun x => { x with cmpFails := 0 }) (modNvMod i (fun x => { x with faulty := false }) s)
  if cIx i = 7 then .done (leaveDegraded g (setSubst g none s)) []
  else if vat s.nvFe.subst g none = some (cIx i) then
    if isFaulty s (8 * g + 7) then .done (leaveDegraded g (modXch i (fun x => { x with inv := some s.clk.mono }) (setSubst g none s))) []
    else .done { s with fe.back := s.fe.back ++ [i] } []
  else .done (leaveDegraded g (modXch i (fun x => { x with inv := some s.clk.mono }) s)) []

def execMtrRequalify (p : Pkt) (s : State) : Host.Outcome State Fault Refusal :=
  .next (command 0x0203 (sized 4 mtrRequalifyBody) p s)

end Sys2Proof.Machine
end

