-- ==== Sys2Proof/Machine/Chain.lean ====
section
/-!
DEFINITION. The decimation chain of a modulator or bitstream (spec/03_filter_chain.md): the phase delay (R52), the stages S1 to
S7 and their 40-bit words (R48, R50), the fast-path sinc (R57), and the sample grid on which every chain decimates (R55).
The coefficients of the FIR stages and the word of a bitstream of ones are not in the spec (log entry 301).
-/

namespace Sys2Proof.Machine

/-! ## Phase delay (R52) -/

/-- Effective delay of channel `c`'s own chain in steps of 3.90625 ns: PH_DELAY of its CH_CTL, and PHASE of its modulator's
current set, 0 for a bitstream (R29, R52). -/
def delaySteps (s : State) (g c : Nat) : Int :=
  128064 + chPhDelay (grp s g) c + (if chExt (grp s g) c then 0 else (vat s.fe.mods (8 * g + c) {}).cur.phase)

/-- The same of the spare's chain, for the channel it serves or is paralleled with (R33, R52). -/
def spareDelay (s : State) (g : Nat) : Int :=
  128064 + ((spareLands s g).map (chPhDelay (grp s g))).getD 0 + (vat s.fe.mods (8 * g + 7) {}).cur.phase

/-- Periods of the delay line ahead of S1, and the fraction in 1/64 period (R52). -/
def delayParts (e : Int) : Int × Int := (e / 64, e % 64)

/-- The interpolation at the output of S1, times 64 (R52): the current S1 value and the previous one. -/
def interp64 (f cur prev : Int) : Int := (64 - f) * cur + f * prev

/-! ## Stages (R48, R50) -/

/-- A list summed over a moving span of `r` entries. -/
def boxed (r : Nat) (l : List Int) : List Int :=
  (List.range (l.length + r - 1)).map fun n => ((List.range r).map fun j => if j ≤ n then l.getD (n - j) 0 else 0).sum

/-- The weights of a sinc of order `k` and decimation `r`. -/
def sincTaps (r : Nat) : Nat → List Int
  | 0 => [1]
  | k + 1 => boxed r (sincTaps r k)

/-- A weighted sum; a chain that has not run long enough to fill it counts what is missing as 0. -/
def dot (taps xs : List Int) : Int := (List.zipWith (· * ·) taps xs).sum

/-- A bit of a modulator's stream as ±1. -/
def bitVal (b : Bool) : Int := if b then 1 else -1

/-- A value as a 40-bit word (R50). -/
def word40 (v : Int) : Int := clampI (-(2 ^ 39)) (2 ^ 39 - 1) v

/-- The output of S1: fifth-order sinc over 25 periods, interpolated between the current and the previous period of the delayed
stream (R48, R52). -/
def s1Word (e : Int) (bits : List Bool) : Int :=
  let p := delayParts e
  let v := (bits.drop p.1.toNat).map bitVal
  let t := sincTaps 25 5
  word40 (conv (interp64 p.2 (dot t v) (dot t (v.drop 1)) * Config.allOnes) (64 * 25 ^ 5))

/-- The weights of the linear-phase FIR of stage `k`, `n` taps (R48). -/
def firTaps (k n : Nat) : List Int := (List.range n).map fun j => Config.firTap k (min j (n - 1 - j))

/-- The output of the FIR of stage `k` over the words before it (R48, R50). -/
def firWord (k n : Nat) (xs : List Int) : Int := word40 (conv (dot (firTaps k n) xs) (2 ^ 64))

/-- One period of 0.25 µs of a chain: `n` counts the periods of the sample grid, `b` is the stream's bit (R48, R55). -/
def chainBit (e : Int) (n : Nat) (b : Bool) (c : Chain) : Chain :=
  let c := { c with bits := (b :: c.bits).take 4200 }
  let c := if n % 25 = 0 then { c with s1 := (s1Word e c.bits :: c.s1).take 119 } else c
  let c := if n % 125 = 0 then { c with s2 := (firWord 2 119 c.s1 :: c.s2).take 47 } else c
  let c := if n % 250 = 0 then { c with s3 := (firWord 3 47 c.s2 :: c.s3).take 47 } else c
  let c := if n % 500 = 0 then { c with s4 := (firWord 4 47 c.s3 :: c.s4).take 47 } else c
  let c := if n % 1000 = 0 then { c with s5 := (firWord 5 47 c.s4 :: c.s5).take 47 } else c
  let c := if n % 2000 = 0 then { c with s6 := (firWord 6 47 c.s5 :: c.s6).take 47 } else c
  if n % 4000 = 0 then { c with s7 := [firWord 7 47 c.s6] } else c

/-- The 40-bit word of a preset output (R48). -/
def presetWord (preset : Nat) (c : Chain) : Int :=
  (match preset with | 0 => c.s2 | 1 => c.s4 | 2 => c.s5 | _ => c.s7).headD 0

/-- The word of the fast-path stage, 24-bit scale with 16 fraction bits: third-order sinc over 64 periods, from the stream before
the delay line (R48, R57). -/
def fpWord (c : Chain) : Int := conv (dot (sincTaps 64 3) (c.bits.map bitVal) * Config.allOnes) (64 ^ 3)

/-! ## The sample grid (R55) -/

/-- Periods of the grid between two outputs of a preset (R48, R55). -/
def presetSpan (p : Nat) : Nat := match p with | 0 => 125 | 1 => 500 | 2 => 1000 | _ => 4000

/-- An instant of the sample grid in elapsed time, 1/64 µs (R55). -/
def gridAt (s : State) (n : Nat) : Nat := 64 * s.fe.validAt + 16 * n

/-- An elapsed time in 1/64 µs on the device time base, in 1/64 µs (R8, R63). -/
def onDevice (s : State) (e : Nat) : Nat := ((64 * now s + e : Nat) - (64 * s.clk.mono : Nat) : Int).toNat

/-- The preset outputs due at period `n` of the grid, with the words of a group's chains (R55). -/
def dueOuts (n : Nat) (cs : List Chain) : List PreOut :=
  ([0, 1, 2, 3].filter fun p => n % presetSpan p == 0).map fun p => { preset := p, at_ := n, words := cs.map (presetWord p) }

/-- A stream a command does not list: ones and zeros in turn, which is an input of zero (log entry 301). -/
def restStream : BitVec 64 := 0x5555555555555555#64

/-- The streams of index `i`: its modulator's, and the one on XBSg_Dc. -/
def streamsOf (xs : List (Fin 72 × BitVec 64 × BitVec 64)) (i : Nat) : BitVec 64 × BitVec 64 :=
  ((xs.find? fun x => x.1.1 == i).map (·.2)).getD (restStream, restStream)

/-- The stream that enters chain `c` of a group: SRC selects it; the spare has a modulator only (R25). -/
def chainStream (s : State) (xs : List (Fin 72 × BitVec 64 × BitVec 64)) (g c : Nat) : BitVec 64 :=
  let x := streamsOf xs (8 * g + c)
  if c < 7 && chExt (grp s g) c then x.2 else x.1

/-- Sixteen microseconds of the grid in one group: every chain takes 64 bits, and the preset outputs that fall due wait to be
delivered (R48, R55). -/
def runGroup (xs : List (Fin 72 × BitVec 64 × BitVec 64)) (g : Fin 9) (s : State) : State :=
  let es := (List.range 8).map fun c => if c = 7 then spareDelay s g else delaySteps s g c
  let bs := (List.range 8).map fun c => chainStream s xs g c
  let start := (List.range 8).map fun c => vat s.fe.chain (8 * g.1 + c) {}
  let r := (List.range 64).foldl (fun (a : List Chain × List PreOut) k =>
    let n := s.fe.grid + k + 1
    let cs := a.1.zipIdx.map fun x => chainBit (es.getD x.2 0) n ((bs.getD x.2 0).getLsbD k) x.1
    (cs, a.2 ++ dueOuts n cs)) (start, vget s.fe.outs g)
  { s with
    fe.chain := Vector.ofFn fun i => if gIx i = g.1 then r.1.getD (cIx i) {} else vget s.fe.chain i
    fe.outs := vset s.fe.outs g r.2 }

/-- Sixteen microseconds of the sample grid, in every group present; at a 2 ms boundary a waiting switch takes place (R34, R48,
R55). -/
def runGrid (xs : List (Fin 72 × BitVec 64 × BitVec 64)) (s : State) : State :=
  let t := (units 9).foldl (fun t g => if hasGroup t g.1 then runGroup xs g t else t) s
  let t := { t with fe.grid := t.fe.grid + 64 }
  if t.fe.grid % 8000 = 0 then gridSwitch t else t

/-- The next fast-path instant of the grid has come (R55, R57). -/
def gridDue (s : State) : Bool := s.fe.valid && decide (s.fe.validAt + (s.fe.grid + 64) / 4 ≤ s.clk.mono)

end Sys2Proof.Machine
end

