-- ==== Sys2Proof/Machine/Filter.lean ====
section
/-!
DEFINITION. What the chain's words become (spec/03_filter_chain.md): rounding and correction of samples (R36, R50, R51), their
flags (R54, R56), the fast path (R57, R58), detectors and crossings (R60 to R62), half-cycle records (R63 to R66), and the
samples the energy engine is given (R53, R68).
-/

namespace Sys2Proof.Machine

def modDet (i : Nat) (f : Det → Det) (s : State) : State := { s with filt.det := vatMod s.filt.det i f }

/-- The coefficients that correct channel `c` of group `g`: the serving modulator's, or none for a bitstream (R29, R36). -/
def coefOf (s : State) (g c : Nat) : Int × Nat :=
  if chExt (grp s g) c then (0, 2 ^ 30)
  else
    let k := (vat s.fe.mods (serving s g c) {}).cur
    (k.offset, k.gain)

/-- Largest 24-bit output (R51). -/
def fs24 : Int := 8388607

/-- A 40-bit word with 16 fraction bits as a 24-bit output and its OVR (R50, R51). -/
def round24 (word : Int) : Int × Bool :=
  let v := conv word 65536
  (clampI (-fs24) fs24 v, decide (fs24 < v) || decide (v < -fs24))

/-- y = (x − OFFSET / 256) × GAIN / 2^30, rounded convergently to 24 bits (R36). -/
def correct (k : Int × Nat) (x : Int) : Int × Bool :=
  let v := conv ((x * 256 - k.1) * k.2) (256 * 2 ^ 30)
  (clampI (-fs24) fs24 v, decide (fs24 < v) || decide (v < -fs24))

/-- A fast-path word (24-bit scale, 16 fraction bits) as a signed 12-bit sample, ±2047 at ±0x7F_FFFF, and its OVR (R57). -/
def roundFp (k : Int × Nat) (word : Int) : Int × Bool :=
  let v := conv ((word - k.1 * 256) * k.2 * 2047) (65536 * 2 ^ 30 * 8388607)
  (clampI (-2047) 2047 v, decide (2047 < v) || decide (v < -2047))

/-- Sample flags in quality-word layout: OVR, SUBST, INVALID, XCHK, COLD (R56, R89). -/
def sampleFlags (ovr subst inv xchk cold : Bool) : Nat := b2n ovr + 2 * b2n subst + 4 * b2n inv + 8 * b2n xchk + 16 * b2n cold

/-- The serving modulator carries COLD (R42); a bitstream channel has no modulator. -/
def coldOf (s : State) (g c : Nat) : Bool := !chExt (grp s g) c && (vat s.fe.mods (serving s g c) {}).cold

/-- The elapsed instant `e`, 1/64 µs, lies within `us` of a moment. -/
def lately (e us : Nat) (t : Option Nat) : Bool := t.any fun t => decide (e < 64 * (t + us))

/-- One preset output of a channel at the elapsed instant `e`: value and flags (R27, R36, R39, R40, R49, R50, R54, R56). `prev` is
the sample one tracked period earlier; without one, and in a DC group, a substituted sample is the last good one (log entry
306). -/
def presetSample (s : State) (g c preset e : Nat) (word : Int) (prev : Option Int) : Int × Nat :=
  let b := grp s g
  let x := vat s.fe.xch (8 * g + c) {}
  let span := presetSettle preset
  let ovr := x.ovr || lately e span x.ovrEnd
  if !chEn b c then (0, 4)
  else if x.stuck || noModulator s g c || lately e span x.inv then (0, sampleFlags ovr false true x.xchk (coldOf s g c))
  else if lately e (1000 + span) x.subst then
    (if grpSystem b = 3 then vat x.good preset 0 else prev.getD (vat x.good preset 0), sampleFlags ovr true false x.xchk (coldOf s g c))
  else
    let r := round24 word
    let y := correct (coefOf s g c) r.1
    (if chInv b c then -y.1 else y.1, sampleFlags (r.2 || y.2 || ovr) false false x.xchk (coldOf s g c))

/-- One fast-path sample of a channel at the elapsed instant `e`: value and flags (R56 to R58). -/
def fpSample (s : State) (g c e : Nat) (word : Int) : Int × Nat :=
  let b := grp s g
  let x := vat s.fe.xch (8 * g + c) {}
  let ovr := x.ovr || lately e 48 x.ovrEnd
  if !chEn b c then (0, 4)
  else if x.stuck || noModulator s g c || lately e 48 x.inv || lately e 48 x.fpInv then (0, sampleFlags ovr false true x.xchk (coldOf s g c))
  else if lately e 1048 x.subst then (x.goodFp, sampleFlags ovr true false x.xchk (coldOf s g c))
  else
    let y := roundFp (coefOf s g c) word
    (if chInv b c then -y.1 else y.1, sampleFlags (y.2 || ovr) false false x.xchk (coldOf s g c))

/-- A sample carries neither SUBST nor INVALID. -/
def goodSample (flags : Nat) : Bool := flags % 8 / 2 == 0

/-! ## Detectors -/

/-- H: the larger of 1 % of the peak magnitude over the previous tracked period and 8 LSB, in 1/100 LSB; 8 LSB while the group
has no tracked period (R60). -/
def hyst (p : Option Nat) (d : Det) : Nat := if p.isNone then 800 else max d.peakPrev 800

/-- The half-cycle RMS window closes (R61). -/
def closeHc (d : Det) : Det :=
  if d.n = 0 then d
  else { d with hcNone := false, hcRms := convSqrt d.sumSq d.n, sumSq := 0, n := 0, flags := d.runFlags, runFlags := 0 }

/-- The peak window closes: the running extremes become PEAK_MAX and PEAK_MIN, with the flags of their samples, and the next
sample seeds the new window (R56, R61, R67). -/
def closePeak (d : Det) : Det :=
  match d.runMax, d.runMin with
  | some a, some b => { d with
      peakMax := a, peakMin := b, peakFlags := d.runPeak, runMax := none, runMin := none, runPeak := 0, peakN := 0 }
  | _, _ => d

/-- The tracked period in fast-path samples (R61). -/
def periodSamples (p : Nat) : Nat := convN p 1024

/-- The group's windows are crossing-based: from the second accepted crossing of its reference voltage on, until none has been
accepted within 15 ms (R61). -/
def crossWindows (s : State) (g : Nat) : Bool :=
  !(grpSystem (grp s g) == 3) && match refChan (grp s g) with | some c => decide (2 ≤ (detOf s g c).acc) | none => false

/-- Feed a fast-path sample issued at the elapsed instant `t` to a channel's detectors (R60, R61). `p` is the group's tracked
period; `fixed`: its windows are fixed ones. -/
def feedFp (p : Option Nat) (fixed : Bool) (t : Nat) (x : Int) (flags : Nat) (d : Det) : Det :=
  let hp := (d.wentPos || decide (hyst p d < (x * 100).toNat))
  let hn := (d.wentNeg || decide (hyst p d < (-x * 100).toNat))
  let n := match p with | some p => periodSamples p | none => 0
  let old := if n = 0 then none else d.hist[n - 1]?
  let big := match old with | some o => decide (8 * d.peakPrev < 256 * (x - o).natAbs) | none => false
  let d := { d with
    prevX := d.lastX, lastX := some x, lastT := t, wentPos := hp, wentNeg := hn
    sumSq := d.sumSq + (x * 4096).natAbs ^ 2, n := d.n + 1
    runFlags := d.runFlags ||| flags, hcFlags := d.hcFlags ||| flags
    peakRun := max d.peakRun x.natAbs
    peakPrev := if d.lastX.isNone then x.natAbs else d.peakPrev
    hist := (x :: d.hist).take (max 2000 n)
    noHistory := if n = 0 then true else old.isNone
    abrupt := d.abrupt || big
    period := if d.accAt + 960000 < t then none else d.period
    acc := if d.accAt + 960000 < t then 0 else d.acc }
  if fixed && decide (625 ≤ d.n) then closeHc d else d

/-- Feed a Roughing sample and its flags to a channel's peak detector (R56, R61). -/
def feedPeak (fixed : Bool) (x : Int) (flags : Nat) (d : Det) : Det :=
  let d := { d with
    runMax := some ((d.runMax.map (max x)).getD x), runMin := some ((d.runMin.map (min x)).getD x), peakN := d.peakN + 1
    runPeak := d.runPeak ||| flags }
  if fixed && decide (640 ≤ d.peakN) then closePeak d else d

/-- The fast-path sample of a channel is issued: to the safety queue and the detectors (R57, R59, R61). -/
def fastPath (s : State) (i : Fin 72) : State :=
  let g := gIx i
  let c := cIx i
  if c = 7 || !hasGroup s g || !chEn (grp s g) c then s
  else
    let e := gridAt s s.fe.grid
    let y := fpSample s g c e (fpWord (vat s.fe.chain (serving s g c) {}))
    let s := modDet i (feedFp (trackedPeriod s g) (!crossWindows s g) e y.1 y.2) s
    let s := if goodSample y.2 then modXch i (fun z => { z with goodFp := y.1 }) s else s
    { s with filt.safeq := (s.filt.safeq ++ [(i.1, y.1, y.2)]).take 504 }

/-- Follow since when the half-cycle RMS of c4 of G0 has been below 10 V with metering valid and c4 enabled (R445). -/
def followC4 (s : State) : State :=
  let b := grp s 0
  let low := s.fe.valid && grpEn b && chEn b 4 && (detOf s 0 4).lastX.isSome && decide ((detOf s 0 4).hcRms * chScale b 4 < 10000 * 2 ^ 32)
  { s with pwr.c4LowSince := follow s low s.pwr.c4LowSince }

/-- FAST_PATH_SAMPLE (R48, R55, R57): sixteen microseconds of the sample grid pass, with the streams of the modulators and of
XBSg_Dc as the operand, and every enabled channel issues a fast-path sample. -/
def execFastPathSample (xs : List (Fin 72 × BitVec 64 × BitVec 64)) (s : State) : Host.Outcome State Fault Refusal :=
  .next (if gridDue s then followC4 ((units 72).foldl fastPath (runGrid xs s)) else s)

/-! ## Preset outputs (R48, R53, R56) -/

/-- The oldest preset output of a group that waits, and the others. -/
def takeOut (preset : Nat) : List PreOut → Option (PreOut × List PreOut)
  | [] => none
  | o :: r => if o.preset = preset then some (o, r) else (takeOut preset r).map fun x => (x.1, o :: x.2)

/-- The samples of a group's preset output one tracked period ago (R39). -/
def samplesBefore (s : State) (g : Fin 9) (preset : Nat) : Option (List Int) :=
  match trackedPeriod s g with
  | some p => (vat (vget s.fe.past g) preset [])[convN (p * presetRate preset) 64000000 - 1]?
  | none => none

/-- What every preset output leaves behind: its samples for a period to come, and each channel's last good one (R39). -/
def keepOutput (g : Fin 9) (preset : Nat) (out : List (Int × Nat)) (s : State) : State :=
  let s := { s with fe.past := vmod s.fe.past g fun v => vatMod v preset fun l => (out.map (·.1) :: l).take 2000 }
  (List.range 7).foldl (fun t c =>
    let y := out.getD c (0, 4)
    if goodSample y.2 then modXch (8 * g + c) (fun z => { z with good := vatMod z.good preset fun _ => y.1 }) t else t) s

/-- The samples of the group's PRESET are added up for the cross-check (R28). -/
def addTotals (g : Fin 9) (out : List (Int × Nat)) (s : State) : State :=
  (List.range 7).foldl (fun t c =>
    let y := (out.getD c (0, 4)).1
    modXch (8 * g + c) (fun z => { z with tot := (z.tot.1 + y, z.tot.2.1 + y.natAbs ^ 2, z.tot.2.2 + 1) }) t) s

/-- The nominal timestamp of a preset output at the elapsed instant `e`, 1/64 µs (R53). -/
def nominal (preset e : Nat) : Int := (e : Int) - presetDelay preset - 32016

/-- A preset output of a group is issued (R48, R50, R68): Roughing samples feed the peak detectors, and those of the group's PRESET
the energy engine, with their nominal timestamp (R53). -/
def presetOutput (g : Fin 9) (o : PreOut) (s : State) : State :=
  let b := grp s g
  let e := gridAt s o.at_
  let before := samplesBefore s g o.preset
  let out := (List.range 7).map fun c =>
    presetSample s g c o.preset e (o.words.getD (if spareServes s g c then 7 else c) 0) (before.map fun l => l.getD c 0)
  let s := keepOutput g o.preset out s
  let s := if o.preset = 0 then
      (List.range 7).foldl (fun t c =>
        let y := out.getD c (0, 4)
        if chEn b c then modDet (8 * g + c) (feedPeak (!crossWindows s g) y.1 y.2) t else t) s
    else s
  if !(o.preset == grpPreset b) then s
  else
    let s := addTotals g out s
    if meterRuns s g then
      modWin g (fun w => { w with smp := w.smp ++ [(nominal o.preset e, out.map (·.1), out.map (·.2))] }) s
    else s

/-- PRESET_OUTPUT_SAMPLE (R48): the oldest output of a preset that waits in a group is issued. -/
def execPresetOutputSample (g : Fin 9) (preset : Nat) (s : State) : Host.Outcome State Fault Refusal :=
  .next (match takeOut preset (vget s.fe.outs g) with
    | some (o, r) => if s.fe.valid && hasGroup s g then presetOutput g o { s with fe.outs := vset s.fe.outs g r } else s
    | none => s)

/-! ## Crossings and half-cycle records -/

/-- The last two fast-path samples give a crossing that can be accepted: its direction (R60). -/
def crossingOf (d : Det) : Option Bool :=
  match d.prevX, d.lastX with
  | some a, some b =>
    if a < 0 ∧ 0 ≤ b ∧ d.wentNeg then some true else if 0 < a ∧ b ≤ 0 ∧ d.wentPos then some false else none
  | _, _ => none

/-- t_a + 16 µs × |x_a| / (|x_a| + |x_b|) − 23.625 µs, in units of 1/64 µs of elapsed time, rounded convergently (R60). -/
def crossingTime (d : Det) : Nat :=
  let a := (d.prevX.getD 0).natAbs
  let b := (d.lastX.getD 0).natAbs
  ((d.lastT : Int) - 1024 + conv (1024 * a) (a + b) - 1512).toNat

/-- Close the windows of every channel of a group at a crossing of its reference voltage (R61). -/
def closeGroup (g : Nat) (up : Bool) (s : State) : State :=
  (List.range 7).foldl (fun t c => modDet (8 * g + c) (fun d =>
    let d := closeHc d
    if up then closePeak { d with peakPrev := d.peakRun, peakRun := 0 } else d) t) s

/-- Bits 3 to 5 of a half-cycle record from sample flags (R63). -/
def hcFlagBits (f : Nat) : Nat := 8 * (f % 8)

/-- A half-cycle is flagged: any of FLAGS[5:0] or NO_HISTORY (R64). -/
def flaggedRec (r : HcRec) : Bool := r.flags % 64 != 0 || r.flags.testBit 7

/-- A half-cycle of a voltage channel of G0 ends: its record enters the queue to T, or is discarded when 256 wait, and
the channel's SEQ advances (R63, R66). `tEnd` is the crossing that ends it, `missing` when it was synthesised. -/
def emitRecord (c : Nat) (tEnd : Nat) (missing : Bool) (s : State) : State :=
  let b := grp s 0
  let d := detOf s 0 c
  if !grpEn b || grpSystem b = 3 || !chEn b c then s
  else match d.zc with
    | [] => s
    | t0 :: _ =>
      let pred := if d.zcUp then d.predDn else d.predUp
      let half := (d.period.getD 1280000) / 2
      let dev := onDevice s tEnd
      let usable := pred.filter fun p => decide (((p : Int) - dev).natAbs ≤ half)
      let shift := usable.any fun p => decide (9600 < ((p : Int) - dev).natAbs)
      let fl := b2n d.abrupt + 2 * b2n (shift || d.hcShift) + 4 * b2n missing + hcFlagBits d.hcFlags + 64 * b2n usable.isNone +
        128 * b2n d.noHistory
      let r : HcRec := { tZc := onDevice s t0, flags := fl, ch := c - 4, pos := d.zcUp, seq := d.hcSeq, rms := d.hcRms, tEnd := dev }
      let s := modDet c (fun d => { d with hcSeq := (d.hcSeq + 1) % 256, hcShift := shift }) s
      if s.filt.hcq.length < 256 then { s with filt.hcq := s.filt.hcq ++ [r] } else s

/-- A crossing of a channel at `t` in direction `up` is taken: periods are tracked, anew after a gap of 15 ms, and the next
half-cycle starts (R60 to R62). -/
def startHalf (t : Nat) (up missing : Bool) (d : Det) : Det :=
  let d := { d with zcUp := up, hcFlags := 0, abrupt := false }
  if missing then { d with zc := (t :: d.zc).take 3 }
  else
    let acc := min 3 (d.acc + 1)
    let zc := (t :: if d.acc = 0 then [] else d.zc).take 3
    { d with
      zc, acc, accAt := t, wentPos := false, wentNeg := false
      period := match zc with | a :: _ :: c :: _ => if acc = 3 then some (a - c) else none | _ => none }

/-- The group's FREQ validity is reported by E28 on a group whose SYSTEM is not DC (R73, R97). -/
def followFreq (g : Fin 9) (s : State) : State :=
  let b := grp s g
  let inv := (freqOf s g).isNone
  if !grpEn b || grpSystem b = 3 then s
  else level 28 g.1 inv (prm [(1, g.1), (8, (vget s.en.m g).win.start)]) s

/-- The group of a global channel index. -/
def gFin (i : Fin 72) : Fin 9 := ⟨i.1 / 8, by omega⟩

/-- A crossing of a channel at the elapsed time `t` ends its half-cycle: windows of the group close at its reference voltage
unless it is DC, a record is emitted for a voltage channel of G0, and an upward crossing is kept for the metering windows (R60 to
R63, R71, R73). -/
def takeCrossing (i : Fin 72) (t : Nat) (up missing : Bool) (s : State) : State :=
  let g := gIx i
  let c := cIx i
  let isRef := refChan (grp s g) == some c
  let acc := (vget s.filt.det i).acc
  let s := if isRef && !(grpSystem (grp s g) == 3) && decide (2 ≤ if missing then acc else acc + 1) then closeGroup g up s else s
  let s := if g = 0 then emitRecord c t missing s else s
  let s := modDet i (startHalf t up missing) s
  let s := if up then modDet i (fun d => { d with zcUps := ((t, trackedPeriod s g) :: d.zcUps).take 8 }) s else s
  if isRef then followFreq (gFin i) s else s

/-- The channel is an enabled voltage channel. -/
def isVoltage (s : State) (i : Nat) : Bool := decide (4 ≤ cIx i) && decide (cIx i ≤ 6) && chEn (grp s (gIx i)) (cIx i)

/-- The limit without a crossing: 1.5 tracked half-periods, or 15 ms, after the previous one, 1/64 µs (R62). -/
def missLimit (d : Det) : Nat := match d.period with | some p => 3 * p / 4 | none => 960000

/-- The start of the half-cycle after a missing crossing: the previous crossing plus one tracked half-period (R62). -/
def missStart (d : Det) : Nat := d.zc.headD 0 + (match d.period with | some p => p / 2 | none => 960000)

/-! ## MTR_DETECT (R67) -/

/-- DFLAGS of a channel: sample flags of the last half-cycle and peak windows, and NO_HISTORY of the half-cycle RMS (R56, R61,
R67). -/
def dflags (d : Det) : Nat := (d.flags ||| d.peakFlags) % 32 + 32 * b2n d.hcNone

def detBytes (s : State) (g c : Nat) : List Byte :=
  if chEn (grp s g) c then
    let d := detOf s g c
    leInt 4 d.peakMax ++ leInt 4 d.peakMin ++ le 4 d.hcRms ++ le 4 (dflags d)
  else zeros 12 ++ le 4 4

def mtrDetectBody (f : Flight) (s : State) : CmdOut :=
  let p := f.pkt.payload
  need (rsv 1 3 p && hasGroup s (u8 0 p)) stBadParam <|
  .done s (le 8 (now s) ++ (List.range 7).flatMap (detBytes s (u8 0 p)))

def execMtrDetect (p : Pkt) (s : State) : Host.Outcome State Fault Refusal :=
  .next (command 0x0204 (sized 4 mtrDetectBody) p s)

end Sys2Proof.Machine
end

