-- ==== Sys2Proof/Machine/Energy.lean ====
section
/-!
DEFINITION. The energy engine (spec/04_energy_quantities.md): the quantities of a window (R73 to R75), its contributions by
NET_MODE (R76, R81, R86), direction (R83, R84), wiring and tamper findings (R87), the close of a metering window (R71,
R72, R77), pulses (R90, R91) and the commands of R95 and R96. MTR_COMMIT_APPLY stands here because it recomputes the
check values.
-/

namespace Sys2Proof.Machine

/-! ## Sums of a window (R68, R71, R72, R74) -/

/-- Sums over the samples of one side of a window, in 1/65,536 µW·sample (R77, R81). -/
structure SideSum where
  /-- Samples. -/
  n : Nat := 0
  /-- Per element: sum of positive p[n]. -/
  pos : Vector Nat 3 := Vector.replicate 3 0
  /-- Per element: sum of the magnitudes of negative p[n]. -/
  neg : Vector Nat 3 := Vector.replicate 3 0
  /-- For each set of elements counted (bit k: element k): sum of positive per-sample totals (R86). -/
  totPos : Vector Nat 8 := Vector.replicate 8 0
  /-- The same of magnitudes of negative totals. -/
  totNeg : Vector Nat 8 := Vector.replicate 8 0

/-- Sums over a whole window. -/
structure WinSum where
  /-- Device time of its start. -/
  start : Nat := 0
  /-- Its length, µs. -/
  len : Nat := 0
  /-- T of R74, 1/64 µs; none without a tracked period. -/
  period : Option Nat := none
  /-- N (R71). -/
  n : Nat := 0
  /-- Sides, oldest first, with their sums (R72). -/
  sides : List (Side × SideSum) := []
  /-- Sum of squares of every channel, LSB² (R75). -/
  sqU : Vector Nat 7 := Vector.replicate 7 0
  /-- Sums of squares of U1 − U2, U2 − U3, U3 − U1 and of the current sum, in 1/65,536 mV or mA (R87). -/
  sqD : Vector Nat 4 := Vector.replicate 4 0
  /-- Phasor sums, real, of every channel (R74). -/
  re : Vector Int 7 := Vector.replicate 7 0
  /-- Phasor sums, imaginary (R74). -/
  im : Vector Int 7 := Vector.replicate 7 0
  /-- OR of the flags of the contributing channels, quality-word layout (R89). -/
  flags : Nat := 0
  /-- The first upward crossings of U1, U2 and U3 in the window (R87). -/
  ang : Vector (Option Nat) 3 := Vector.replicate 3 none

/-- A channel's sample in units of 1/65,536 of a mV or mA. -/
def phys (b : List Byte) (c : Nat) (y : Int) : Int := conv (y * chScale b c) (2 ^ 16)

/-- The power of an element in 1/65,536 µW, rounded convergently (R68); `sub`: U_1 × (−IN) (R88). -/
def elemPower (b : List Byte) (ys : List Int) (e : Nat × Nat) (sub : Bool) : Int :=
  let u := ys.getD e.1 0 * chScale b e.1
  let i := if sub then -(ys.getD 3 0 * chScale b 3) else ys.getD e.2 0 * chScale b e.2
  conv (u * i) (2 ^ 48)

/-- The sums of a side after one sample's element powers (R77, R81). -/
def sideAdd (ps : List Int) (sd : SideSum) : SideSum :=
  let tot := fun (mask : Fin 8) => ((List.range ps.length).map fun k => if mask.1.testBit k then ps.getD k 0 else 0).sum
  { n := sd.n + 1
    pos := Vector.ofFn fun k => vget sd.pos k + (ps.getD k.1 0).toNat
    neg := Vector.ofFn fun k => vget sd.neg k + (-(ps.getD k.1 0)).toNat
    totPos := Vector.ofFn fun k => vget sd.totPos k + (tot k).toNat
    totNeg := Vector.ofFn fun k => vget sd.totNeg k + (-(tot k)).toNat }

/-- A sample counts to the side in which its nominal timestamp lies (R72). -/
def addToSides (tau : Int) (ps : List Int) : List (Side × SideSum) → List (Side × SideSum)
  | [] => []
  | [x] => [(x.1, sideAdd ps x.2)]
  | x :: y :: r =>
    if x.1.endE.any fun e => decide ((e : Int) ≤ tau) then x :: addToSides tau ps (y :: r) else (x.1, sideAdd ps x.2) :: y :: r

/-- The squares of the line-to-line voltages and of the current sum (R87). -/
def diffSq (b : List Byte) (sys : Nat) (ys : List Int) : List Nat :=
  let v := fun c => phys b c (ys.getD c 0)
  let isum := if sys = 0 then v 0 + v 1 + v 2 + v 3 else v 0 + v 3
  [(v 4 - v 5).natAbs ^ 2, (v 5 - v 6).natAbs ^ 2, (v 6 - v 4).natAbs ^ 2, isum.natAbs ^ 2]

/-- The channels that contribute to a meter's energy in a SYSTEM (R69, R88, R89). -/
def contributing (sys : Nat) (sub : Bool) : List Nat :=
  (elements sys).flatMap (fun e => [e.1, e.2]) ++ (if sub then [3] else [])

/-- Add one sample of every channel to a window that starts at `startE`; `x` gives its nominal timestamp, samples and flags
(R53, R68, R74). -/
def winAdd (b : List Byte) (sub : Bool) (startE : Nat) (w : WinSum) (x : Int × List Int × List Nat) : WinSum :=
  let sys := grpSystem b
  let ys := x.2.1
  let ps := (elements sys).map fun e => elemPower b ys e sub
  let ds := diffSq b sys ys
  let cs := match w.period with | some p => cosSinTurn (x.1 - startE) p | none => (0, 0)
  { w with
    n := w.n + 1
    sides := addToSides x.1 ps w.sides
    sqU := Vector.ofFn fun c => vget w.sqU c + (ys.getD c.1 0).natAbs ^ 2
    sqD := Vector.ofFn fun k => vget w.sqD k + ds.getD k.1 0
    re := Vector.ofFn fun c => vget w.re c + ys.getD c.1 0 * cs.1
    im := Vector.ofFn fun c => vget w.im c + ys.getD c.1 0 * cs.2
    flags := (contributing sys sub).foldl (fun a c => a ||| x.2.2.getD c 4) w.flags }

/-- The sides of a window that ends at the elapsed time `e`, device time `t`, and those that follow it: the side that contains the
end is cut without a boundary, and one that ends there splits nothing (R72). -/
def cutSides (e t : Nat) : List Side → List Side × List Side
  | [] => ([], [])
  | sd :: rest =>
    if sd.endE.any (· < e) then let r := cutSides e t rest; (sd :: r.1, r.2)
    else if sd.endE = some e then ([sd], rest)
    else ([{ sd with endE := some e, tEnd := some t, split := false, acts := [] }], sd :: rest)

/-- The first upward crossing of channel `c` of a group from `a` on and before `e` (R87). -/
def firstUp (s : State) (g c a e : Nat) : Option Nat :=
  ((((detOf s g c).zcUps.map (·.1)).filter fun t => decide (a ≤ t) && decide (t < e)).reverse)[0]?

/-- The sums of the window in progress up to the elapsed time `e`, with the sides `sides` (R71, R72, R74). -/
def winSum (s : State) (m : Fin 9) (e : Nat) (sides : List Side) : WinSum :=
  let b := grp s m.1
  let w := (vget s.en.m m).win
  let sub := grpSystem b == 2 && neutSub (mtr s m.1) && (vat (vget s.en.m m).finds 5 {}).on
  (w.smp.filter fun x => decide (x.1 < (e : Int))).foldl (winAdd b sub w.startE)
    { start := w.start, len := (e - w.startE) / 64, period := w.period, sides := sides.map fun x => (x, {})
      ang := Vector.ofFn fun k => firstUp s m.1 (4 + k.1) w.startE e }

/-! ## Quantities of a window (R73 to R75) -/

/-- The metering elements of a meter's group. -/
def elemsOf (s : State) (m : Nat) : List (Nat × Nat) := elements (grpSystem (grp s m))

/-- FREQ in mHz of a period in 1/64 µs, if valid (R73). -/
def freqOfPeriod (p : Option Nat) : Option Nat :=
  match p with
  | some p => if p = 0 then none else let f := convN 64000000000 p; if within f 40000 70000 then some f else none
  | none => none

/-- Root mean square of a channel in µV or µA (R75). -/
def rmsOf (b : List Byte) (w : WinSum) (c : Nat) : Nat := convSqrt (vat w.sqU c 0 * (chScale b c * 1000) ^ 2) (w.n * 2 ^ 64)

/-- 2 × Re and 2 × Im of the product of the sums of R74 of an element, scaled (R75). -/
def fundOf (b : List Byte) (w : WinSum) (e : Nat × Nat) : Int × Int :=
  let ru := vat w.re e.1 0
  let iu := vat w.im e.1 0
  let ri := vat w.re e.2 0
  let ii := vat w.im e.2 0
  let k : Int := 2 * chScale b e.1 * chScale b e.2
  ((ru * ri + iu * ii) * k, (ru * ii - iu * ri) * k)

/-- (Σu² × Σi²) × (scales)², the square of URMS × IRMS × N in scaled units (R75). -/
def appSq (b : List Byte) (w : WinSum) (e : Nat × Nat) : Nat :=
  vat w.sqU e.1 0 * vat w.sqU e.2 0 * (chScale b e.1 * chScale b e.2) ^ 2

/-- Sum of the powers of element `k` over the whole window, 1/65,536 µW·sample. -/
def powSum (w : WinSum) (k : Nat) : Int :=
  (w.sides.map fun x => ((vat x.2.pos k (0 : Nat) : Nat) : Int) - ((vat x.2.neg k (0 : Nat) : Nat) : Int)).sum

/-- What the energy engine knows of one element over a window: whether it is counted, the sign-carrying sum of its power,
P1 × N, Q × N and S × N in 1/65,536 µW·sample. -/
structure ElemQ where
  counted : Bool
  p : Int
  p1 : Int
  q : Int
  s : Nat

/-- START_I of R86: the element is under no-load. -/
def noLoad (b mb : List Byte) (w : WinSum) (e : Nat × Nat) : Bool :=
  let i := rmsOf b w e.2
  if startI mb = 0 then decide (i * 2 ^ 32 * 10000 < 8388607 * chScale b e.2 * 1000) else decide (i < startI mb)

/-- The elements of a window; `f` says that the frequency is valid (R73, R75, R86). -/
def elemQs (b mb : List Byte) (f : Bool) (w : WinSum) : List ElemQ :=
  let es := elements (grpSystem b)
  (List.range es.length).map fun k =>
    let e := es.getD k (0, 0)
    let x := fundOf b w e
    let ok := f && grpSystem b != 3
    { counted := !noLoad b mb w e, p := powSum w k
      p1 := if ok then conv x.1 (w.n * 2 ^ 108) else 0, q := if ok then conv x.2 (w.n * 2 ^ 108) else 0
      s := convSqrt (appSq b w e) (2 ^ 96) }

/-- A crossing angle after U1 in 0.01° (R87, R96). -/
def angle (w : WinSum) (t k : Nat) : Option Nat :=
  match vat w.ang 0 none, vat w.ang k none with
  | some a, some c => if t = 0 then none else some (convN ((((c : Int) - a) % (t : Int)).toNat * 36000) t % 36000)
  | _, _ => none

/-- ANG_U2 or ANG_U3 as reported: open where a crossing of an element's voltage is missing, 0 for a voltage of no element
(R69, R96). -/
def angleVal (b : List Byte) (w : WinSum) (t k : Nat) : Nat :=
  (angle w t k).getD (if (elements (grpSystem b)).any fun e => e.1 == 4 + k then (Config.angleOpen w.start k).toNat else 0)

/-- P_tot over S_tot in 1/10,000, 0 when S_tot is 0 (R75). -/
def pfOf (p : Int) (s : Nat) : Int := if s = 0 then 0 else conv (p * 10000) s

/-- The reported quantities of a window (R75, R96); an element stands at the place of its voltage channel (log entry 407). -/
def winVals (s : State) (m : Fin 9) (t : Nat) (w : WinSum) : MtrVals :=
  let b := grp s m.1
  let es := elemsOf s m.1
  let f := freqOfPeriod w.period
  let e := fun (k : Fin 3) => (4 + k.1, k.1)
  let used := fun (k : Fin 3) => es.contains (e k)
  let fund := fun (k : Fin 3) => if used k && f.isSome && grpSystem b != 3 then fundOf b w (e k) else (0, 0)
  let p : Vector Int 3 := Vector.ofFn fun k => if used k then conv (powSum w (es.idxOf (e k))) (w.n * 65536000) else 0
  let p1 : Vector Int 3 := Vector.ofFn fun k => conv (fund k).1 (w.n ^ 2 * 2 ^ 124 * 1000)
  let q : Vector Int 3 := Vector.ofFn fun k => conv (fund k).2 (w.n ^ 2 * 2 ^ 124 * 1000)
  let sv : Vector Nat 3 := Vector.ofFn fun k => if used k then convSqrt (appSq b w (e k)) ((w.n * 2 ^ 64 * 1000) ^ 2) else 0
  let pw := ((List.range es.length).map (powSum w)).sum
  let ap := (es.map fun x => convSqrt (appSq b w x) (2 ^ 96)).sum
  let T := w.period.getD 0
  let allNo := !es.isEmpty && es.all (noLoad b (mtr s m.1) w)
  { tRead := t, freq := f.getD 0
    urms := Vector.ofFn fun k => if used k then rmsOf b w (e k).1 else 0
    irms := Vector.ofFn fun k => if used k then rmsOf b w (e k).2 else 0
    p, q, s := sv, p1, inRms := if chEn b 3 then rmsOf b w 3 else 0
    pTot := conv pw (w.n * 65536000), qTot := conv ((units 3).map fun k => (fund k).2).sum (w.n ^ 2 * 2 ^ 124 * 1000)
    sTot := convN ap (w.n * 65536000), pf := pfOf pw ap
    angU2 := angleVal b w T 1, angU3 := angleVal b w T 2
    wflags := w.flags % 32 + 32 * b2n allNo + 64 * b2n f.isNone }

/-! ## Contributions (R72, R76, R77, R81) -/

/-- The part of a whole-window magnitude that falls to a side of `k` samples after `a` earlier ones, of `n` in all; the
parts of all sides sum to the whole (R72). -/
def shareN (c n a k : Nat) : Nat := if n = 0 then 0 else c * (a + k) / n - c * a / n

/-- The same for a signed value. -/
def shareI (c : Int) (n a k : Nat) : Int := if 0 ≤ c then (shareN c.natAbs n a k : Int) else -(shareN c.natAbs n a k : Int)

/-- The set of elements counted, as a mask. -/
def countMask (qs : List ElemQ) : Nat := ((List.range qs.length).map fun k => if (qs.getD k ⟨false, 0, 0, 0, 0⟩).counted then 2 ^ k else 0).sum

/-- Deliver one side of a window by NET_MODE (R81). -/
def deliverSide (m : Fin 9) (qs : List ElemQ) (n a flags : Nat) (sd : Side) (u : SideSum) (s : State) : State :=
  let mode := netMode (mtr s m.1)
  let sI := fun (c : Int) => shareI c n a u.n
  let sN := fun (c : Nat) => shareN c n a u.n
  let cs := qs.filter (·.counted)
  let k := countMask qs
  let tp := vat u.totPos k 0
  let tn := vat u.totNeg k 0
  let p1 := sI (cs.map (·.p1)).sum
  let q := sI (cs.map (·.q)).sum
  let sn := sN (cs.map (·.s)).sum
  if mode = 2 then
    modMeterP m (fun x => { x with
      netP := x.netP + (tp : Int) - tn, net1 := x.net1 + p1, netQ := x.netQ + q, netS := x.netS + sn
      netFlags := x.netFlags ||| flags }) s
  else
    let s := markFlags m flags sd s
    if mode = 1 then transfer m (contributions tp tn p1 q (cs.map (·.p)).sum sn) sd s
    else
      (List.range qs.length).foldl (fun t i =>
        let e := qs.getD i ⟨false, 0, 0, 0, 0⟩
        if e.counted then
          transfer m (contributions (vat u.pos i 0) (vat u.neg i 0) (sI e.p1) (sI e.q) e.p (sN e.s)) sd t
        else t) s

/-- Deliver the sides of a window, oldest first; a side that ends at a boundary closes the netting period and does what
the boundary asks (R72, R82). -/
def deliverSides (m : Fin 9) (qs : List ElemQ) (n flags : Nat) : Nat → List (Side × SideSum) → State → State
  | _, [], s => s
  | a, x :: rest, s =>
    let s := if x.2.n = 0 then s else deliverSide m qs n a flags x.1 x.2 s
    let s := if x.1.split then netClose m x.1 s else s
    let s := x.1.acts.foldl (fun t a => runAct m a t) s
    deliverSides m qs n flags (a + x.2.n) rest s

/-! ## Direction (R83 to R85) -/

/-- The session of a point runs a bidirectional service (R85). -/
def exports (s : State) (n : Fin 8) : Bool := (sep s n).service == 6 || (sep s n).service == 7

/-- E23: meter, start time of the first window (R97). -/
def e23 (m : Fin 9) (t : Nat) (s : State) : State := pulse 23 (prm [(1, m.1), (8, t)]) s

/-- The TAMPER flag of an open session's record (R134). -/
def tamperSess (n : Fin 8) (s : State) : State := if sessOpen s n then modSessP n (fun x => { x with sflags := x.sflags ||| 16 }) s else s

/-- A change to export is classified (R84). -/
def classify84 (m : Fin 9) (t : Nat) (s : State) : State :=
  match pointOfMeter m with
  | none => if importOnly (mtr s 0) then e23 m t s else s
  | some n =>
    if importOnly (mtr s m.1) then setOos n 6 (endNow n .reverseFlow (e23 m t s))
    else if sessOpen s n && exports s n then s
    else
      let s := tamperRec 0 m.1 (sessNo s n) t (tamperSess n (e23 m t s))
      endSoft n .reverseFlow s

/-- Follow the direction of a meter at a window close (R83): N_DIR consecutive counted windows change it. -/
def direction (m : Fin 9) (v : MtrVals) (w : WinSum) (s : State) : State :=
  let x := vget s.p100.m m
  let exp := decide (((elemsOf s m.1).zipIdx.map fun e => powSum w e.2).sum < 0)
  if bit v.wflags 5 then s
  else if exp == x.dirExport then modMeterP m (fun x => { x with dirRun := 0 }) s
  else
    let run := x.dirRun + 1
    let t := if x.dirRun = 0 then w.start else x.dirAt
    if run < nDir (mtr s m.1) then modMeterP m (fun x => { x with dirRun := run, dirAt := t }) s
    else
      let s := modMeterP m (fun x => { x with dirExport := exp, dirRun := 0 }) s
      let s := pulse 22 (prm [(1, m.1), (8, t)]) s
      if exp then classify84 m t s else s

/-! ## Wiring and tamper findings (R87) -/

/-- An angle in 0.01° lies within 30° of another. -/
def near (a c : Nat) : Bool := let d := (a + 36000 - c) % 36000; decide (d ≤ 3000) || decide (33000 ≤ d)

/-- Whether the crossings fit the expected and the reversed phase sequence; none without the crossings (R87). -/
def sequence (s : State) (m : Nat) (w : WinSum) : Option (Bool × Bool) :=
  let sys := grpSystem (grp s m)
  let t := w.period.getD 0
  let r := if sys = 0 then
      match angle w t 1, angle w t 2 with
      | some a, some c => some (near a 12000 && near c 24000, near a 24000 && near c 12000)
      | _, _ => none
    else if sys = 1 then (angle w t 2).map fun c => (near c 30000, near c 6000)
    else none
  r.map fun x => if seqExpect (mtr s m) then (x.2, x.1) else x

/-- The RMS of three line-to-line voltages lie within 3 % of their mean. -/
def balanced (l : List Nat) : Bool :=
  let sum := l.sum
  l.all fun v => decide ((3 * (v : Int) - sum).natAbs * 100 ≤ 3 * sum)

/-- MISSING_NEUTRAL in a window (R87). -/
def missingNeutral (sys : Nat) (v : MtrVals) (w : WinSum) : Bool :=
  let u := v.urms.toList
  sys == 0 && u.any (fun x => decide (10 * u.sum < (3 * (x : Int) - u.sum).natAbs * 100)) &&
    balanced ((List.range 3).map fun k => convSqrt (vat w.sqD k 0 * 10 ^ 6) w.n)

/-- The current sum exceeds the limit of BYPASS and NEUTRAL_TAMPER (R87): the limit in 1/100 µA, the sum in 1/65,536 µA. -/
def sumHigh (mb : List Byte) (v : MtrVals) (w : WinSum) : Bool :=
  let lim := max (bypPct mb * v.irms.toList.foldl max 0) (bypMin mb * 10000 * 100)
  decide (lim * 65536 < 100 * convSqrt (vat w.sqD 3 0 * 10 ^ 6) w.n)

/-- The conditions of the six findings in a window, in the order of `Meter.finds` (R87). -/
def conditions (s : State) (m : Fin 9) (v : MtrVals) (w : WinSum) : List Bool :=
  let b := grp s m.1
  let sys := grpSystem b
  let sq := sequence s m.1 w
  let high := chEn b 3 && sumHigh (mtr s m.1) v w
  [sq.any (·.2), sq.any (fun x => !x.1 && !x.2), missingNeutral sys v w,
   (sys == 0 || sys == 1) && !(vget s.p100.m m).dirExport &&
     v.p.toList.any (fun p => decide (p < 0) && decide (2 * v.sTot ≤ p.natAbs * 100)),
   high && (sys == 0 || (sys == 2 && decide (v.inRms ≤ vget v.irms 0))), high && sys == 2 && decide (vget v.irms 0 < v.inRms)]

/-- One finding follows its condition; its new state says whether it flipped (R87). -/
def stepFind (cond : Bool) (len wins us : Nat) (f : Find) : Find :=
  if cond == f.on then { f with run := 0, len := 0 }
  else if wins ≤ f.run + 1 ∧ us ≤ f.len + len then { on := cond, run := 0, len := 0 }
  else { f with run := f.run + 1, len := f.len + len }

/-- Event and KIND of the tamper record of a finding (R87, R97, R136). -/
def findEvent (k : Nat) : Nat × Option Nat :=
  if k ≤ 1 then (24, none) else if k = 2 then (25, none) else (26, if k = 3 then some 6 else if k = 4 then some 4 else some 5)

/-- The element of REVERSED_CT: the first whose power meets the condition of R87, 0xFF where none does. -/
def ctElement (v : MtrVals) : Nat :=
  ((units 3).find? fun k => decide (vget v.p k < 0) && decide (2 * v.sTot ≤ (vget v.p k).natAbs * 100)).elim 0xFF (·.1)

/-- A finding is declared or cleared: its event with the meter, for E26 the element (0xFF where none applies) and the window start,
and a tamper record on a declaration of KIND 4 to 6 (R97, R136). -/
def noteFind (m : Fin 9) (k : Nat) (on : Bool) (v : MtrVals) (start : Nat) (s : State) : State :=
  let e := findEvent k
  let elem := if k < 3 then [] else [(1, if k = 3 then ctElement v else 0xFF)]
  let s := level e.1 (16 * m.1 + k) on (prm ([(1, m.1)] ++ elem ++ [(8, start)])) s
  match e.2, on with
  | some kind, true =>
    match pointOfMeter m with
    | some n => tamperRec kind m.1 (sessNo s n) start (tamperSess n s)
    | none => tamperRec kind m.1 0 start s
  | _, _ => s

/-- Follow the six findings at a window close (R87). -/
def findings (m : Fin 9) (v : MtrVals) (w : WinSum) (s : State) : State :=
  let cs := conditions s m v w
  let len := w.len
  let tt := tamperT (mtr s m.1) * 100000
  (units 6).foldl (fun t k =>
    let f := vget (vget t.en.m m).finds k
    let f' := stepFind (cs.getD k.1 false) len (if k.1 ≤ 1 then 10 else if k.1 = 2 then 5 else 0) (if k.1 ≤ 2 then 0 else tt) f
    let t := modMeter m (fun x => { x with finds := vset x.finds k f' }) t
    if f'.on == f.on then t else noteFind m k.1 f'.on v w.start t) s

/-! ## The close of a window (R71, R72, R77) -/

/-- A span of windows without a tracked period, 20 ms, in 1/64 µs (R71). -/
def spanE : Nat := 1280000

/-- The end of the window in progress, 1/64 µs of elapsed time, and the tracked period there: the first upward crossing of the
reference voltage with a tracked period, at the latest 30 ms after a start at a crossing; otherwise, and always in DC, the next
20 ms of the sample grid (R71, R73). -/
def winEnd (s : State) (m : Fin 9) : Nat × Option Nat :=
  let w := (vget s.en.m m).win
  let b := grp s m.1
  let g0 := 64 * s.fe.validAt
  let lim := if w.period.isSome then w.startE + 1920000 else g0 + ((w.startE - g0) / spanE + 1) * spanE
  let ups := match refChan b with
    | some c => ((detOf s m.1 c).zcUps.filter fun x => decide (w.startE < x.1) && decide (x.1 ≤ lim) && x.2.isSome).reverse
    | none => []
  if grpSystem b = 3 then (lim, none) else match ups with | x :: _ => x | [] => (lim, none)

/-- Every sample of the window that ends at `e` has come: the delay of the chain has passed since, and no output of the group's
PRESET that belongs to it waits (R53, R71). -/
def winComplete (s : State) (m : Fin 9) (e : Nat) : Bool :=
  let p := grpPreset (grp s m.1)
  decide (e + presetDelay p + 32016 ≤ 64 * s.clk.mono) &&
    !(vget s.fe.outs m).any fun o => o.preset == p && decide (nominal p (gridAt s o.at_) < (e : Int))

/-- The reply of an MTR_ENERGY_COMMIT that names no pulse block, once the last meter block has taken effect at the device time
`t` (R95). -/
def energyDone (t : Nat) (s : State) : State :=
  match s.en.commit with
  | some f =>
    if s.en.commitPls || (units 9).any fun m => (vget s.en.m m).commit then s
    else finish f (le 8 t) (untake f { s with en.commit := none })
  | none => s

/-- The block of a waiting MTR_ENERGY_COMMIT takes effect at its meter's window close, at the device time `t`, after the netting
period has been closed as a short one (R95). -/
def applyMeterBlock (m : Fin 9) (t : Nat) (sd : Side) (s : State) : State :=
  match s.en.commit with
  | some f =>
    if (vget s.en.m m).commit then
      let s := netClose m sd s
      energyDone t (modMeter m (fun x => { x with commit := false }) (commitCopies ((takenBy s f).filter fun c => c.id == 0x0220 + m.1) s))
    else s
  | none => s

/-- What a window's quantities bring: its increments delivered, its findings and direction followed, and the signalled current
(R72, R77, R83, R87). -/
def winDeliver (m : Fin 9) (t : Nat) (w : WinSum) (s : State) : State :=
  let b := grp s m.1
  let mb := mtr s m.1
  let f := (freqOfPeriod w.period).isSome
  let v := winVals s m t w
  let qs := elemQs b mb f w
  let sub := grpSystem b == 2 && neutSub mb && (vget (vget s.en.m m).finds 5).on
  let flags := w.flags % 32 + 32 * b2n (qs.any (!·.counted)) + 64 * b2n (!f) + 128 * b2n sub
  let s := deliverSides m qs w.n flags 0 w.sides s
  if w.n = 0 then s
  else
    let s := findings m v w (direction m v w (modMeter m (fun x => { x with vals := v }) (pulsePeriods m.1 w.len s)))
    match pointOfMeter m with | some n => rampCheck n (followOver n s) | none => s

/-- The window that follows one that ends at `e`, device time `t`: the sides after the end, the running one under what is in force
now, and the samples that belong to it (R71, R74). -/
def nextWindow (m : Fin 9) (e t : Nat) (period : Option Nat) (rest : List Side) (s : State) : State :=
  modWin m (fun w => {
    start := t, startE := e, period, sides := rest.dropLast ++ [newSide s m]
    smp := w.smp.filter fun x => !decide (x.1 < (e : Int)) }) s

/-- The device time up to which every running meter's windows have closed (R138). -/
def closedTo (s : State) : Nat :=
  onDevice s ((units 9).foldl (fun a m => if meterRuns s m.1 then min a (vget s.en.m m).win.startE else a) (64 * s.clk.mono)) / 64

/-- The profile entries whose ends every running meter's window has passed are written (R138). -/
def profileFollow (s : State) : State := profileRun (closedTo s) s

/-- A metering window closes at the elapsed time `e`, 1/64 µs: its quantities are computed and its increments delivered, its
findings, direction, frequency, prepayment and profile followed, and the next window starts, at a crossing with its tracked
period (R71 to R89, R97, R119, R138). -/
def windowCloseAt (m : Fin 9) (e : Nat) (period : Option Nat) (s : State) : State :=
  let t := onDevice s e / 64
  let cut := cutSides e t (vget s.en.m m).win.sides
  let s := winDeliver m t (winSum s m e cut.1) s
  let s := applyMeterBlock m t { (cut.1.getLastD {}) with tEnd := some t } s
  profileFollow (followFreq m (nextWindow m e t period cut.2 (prepay m s)))

/-- The window in progress is closed now, at a split that closes it (R72). -/
def windowClose (m : Fin 9) (s : State) : State := windowCloseAt m (64 * s.clk.mono) none s

/-- METERING_WINDOW_CLOSE (R71, R77): the window in progress has ended, and every sample of it has come. -/
def execMeteringWindowClose (m : Fin 9) (s : State) : Host.Outcome State Fault Refusal :=
  let e := winEnd s m
  .next (if meterRuns s m.1 && winComplete s m e.1 then windowCloseAt m e.1 e.2 s else s)

/-- The first UTC multiple of T_NET after the present (R82). -/
def netMultiple (s : State) (m : Fin 9) : Nat :=
  let p := tNet (mtr s m.1) * 1000000
  (now s / p + 1) * p

/-- The netting period a start finds in progress ends at the first multiple of T_NET after the last write of its sums (R82,
R128). -/
def netPending (m : Fin 9) (s : State) : State :=
  let p := tNet (mtr s m.1) * 1000000
  modMeter m (fun x => { x with netT := if p = 0 || s.p100.time = 0 then none else some ((s.p100.time / p + 1) * p) }) s

/-- NETTING_PERIOD_END (R81, R82): at a UTC multiple of T_NET the sums are distributed. -/
def nettingEnd (m : Fin 9) (s : State) : State :=
  let p := tNet (mtr s m.1) * 1000000
  if p = 0 then s
  else
    let nxt := netMultiple s m
    let s' := modMeter m (fun x => { x with netT := some nxt }) s
    match (vget s.en.m m).netT with
    | none => boundaryAt (now s / p * p) m [] s'
    | some t => if t ≤ now s then boundaryAt t m [] s' else if nxt < t then s' else s

def execNettingPeriodEnd (m : Fin 9) (s : State) : Host.Outcome State Fault Refusal :=
  .next (if meterRuns s m.1 && netMode (mtr s m.1) == 2 then nettingEnd m s else s)

/-! ## Pulses (R90 to R93) -/

/-- PULSE_ISSUE (R91, R93): on the 2 ms grid a pending pulse starts or a running one ends. -/
def pulseIssue (i : Fin 4) (s : State) : State :=
  let b := pls s
  let p := vget s.en.pls i
  let set_ := fun (q : Pls) => { s with en.pls := vset s.en.pls i q }
  let off := plsPol b i.1
  if !plsEn b i.1 then set_ { p with land := off, onUntil := none }
  else match p.onUntil with
    | some t => if t ≤ s.clk.mono then set_ { p with land := off, onUntil := none } else s
    | none =>
      if 0 < p.pend ∧ p.nextAt ≤ s.clk.mono then
        set_ { p with
          land := !off, onUntil := some (s.clk.mono + 2000 * plsWidth b i.1), pend := p.pend - 1
          nextAt := s.clk.mono + max p.period (4000 * plsWidth b i.1) }
      else set_ { p with land := off }

def execPulseIssue (i : Fin 4) (s : State) : Host.Outcome State Fault Refusal :=
  .next (if s.fe.valid then pulseIssue i s else s)

/-! ## Commands (R95, R96) -/

/-- The meters MASK of MTR_ENERGY_COMMIT names. -/
def ecMeters (m : Nat) : List (Fin 9) := (units 9).filter fun k => bit m k.1

/-- MTR_ENERGY_COMMIT (R95). -/
def mtrEnergyCommitBody (f : Flight) (s : State) : CmdOut :=
  let p := f.pkt.payload
  let m := u16 0 p
  need (!(m == 0) && decide (m < 2 ^ 10) && rsv 2 2 p && (ecMeters m).all (fun k => hasGroup s k.1)) stBadParam <|
  takeStored s ((ecMeters m).map (fun k => 0x0220 + k.1) ++ if bit m 9 then [0x0230] else []) fun cs =>
  need (!((ecMeters m).filterMap pointOfMeter).any (contactorShut s)) stState <|
  need s.en.commit.isNone stBusy <|
  let s := (ecMeters m).foldl (fun t k => modMeter k (fun x => { x with commit := true }) t) s
  .wait (take f cs { s with en.commit := some f, en.commitPls := bit m 9 })

def execMtrEnergyCommit (p : Pkt) (s : State) : Host.Outcome State Fault Refusal :=
  .next (command 0x0206 (sized 4 mtrEnergyCommitBody) p s)

/-- The pulse block takes effect; a change of METER, QUANTITY or CONST clears PACC and PENDING (R91). -/
def applyPulses (cs : List BlkCopy) (s : State) : State :=
  let old := pls s
  let s := commitCopies (cs.filter fun c => c.id == 0x0230) s
  let b := pls s
  (units 4).foldl (fun t i =>
    if plsMeter old i.1 = plsMeter b i.1 ∧ plsQuantity old i.1 = plsQuantity b i.1 ∧ plsConst old i.1 = plsConst b i.1 then t
    else { t with en.pls := vmod t.en.pls i fun p => { p with pacc := 0, pend := 0 } }) s

/-- MTR_ENERGY_COMMIT_APPLY (R95): once every named meter block has been applied (a meter that does not run has no
window to wait for), the pulse block applies at this 2 ms boundary, and the reply is sent. -/
def execMtrEnergyCommitApply (s : State) : Host.Outcome State Fault Refusal :=
  .next (match s.en.commit with
    | none => s
    | some f =>
      let s := (units 9).foldl (fun t m =>
        if (vget t.en.m m).commit && !meterRuns t m.1 then startMeters t (applyMeterBlock m (now t) { tEnd := some (now t) } t) else t) s
      if !s.en.commitPls || (units 9).any fun m => (vget s.en.m m).commit then s
      else finish f (tApplied s) (untake f (applyPulses (takenBy s f) { s with en.commit := none, en.commitPls := false })))

/-- QFLAGS (R96). -/
def qflags (s : State) (m : Fin 9) : Nat :=
  let x := vget s.en.m m
  let b := grp s m.1
  let fs := ((units 6).map fun k => if (vget x.finds k).on then 2 ^ (8 + k.1) else 0).sum
  x.vals.wflags + 128 * b2n (vget s.p100.m m).dirExport + fs +
    16384 * b2n (grpSystem b == 2 && neutSub (mtr s m.1) && (vget x.finds 5).on)

/-- MTR_VALUES (R96). -/
def mtrValuesBody (f : Flight) (s : State) : CmdOut :=
  let p := f.pkt.payload
  match groupOf s (u8 0 p) with
  | none => .fail stBadParam
  | some m =>
    need (rsv 1 3 p) stBadParam <|
    let v := (vget s.en.m m).vals
    .done s (le 8 v.tRead ++ le 4 v.freq ++ le 4 (qflags s m) ++
      (units 3).flatMap (fun k => le 4 (vget v.urms k) ++ le 4 (vget v.irms k) ++ leInt 4 (vget v.p k) ++ leInt 4 (vget v.q k) ++
        le 4 (vget v.s k) ++ leInt 4 (vget v.p1 k)) ++
      le 4 v.inRms ++ leInt 4 v.pTot ++ leInt 4 v.qTot ++ le 4 v.sTot ++ leInt 2 v.pf ++ le 2 v.angU2 ++ le 2 v.angU3 ++ zeros 2 ++
      (vget s.p100.m m).acc.toList.flatMap (le 8))

def execMtrValues (p : Pkt) (s : State) : Host.Outcome State Fault Refusal := .next (command 0x0205 (sized 4 mtrValuesBody) p s)

/-- MTR_COMMIT_APPLY (R45, R243): the group blocks are applied, and the check values computed again. -/
def execMtrCommitApply (s : State) : Host.Outcome State Fault Refusal := .next (startMeters s (recheck (mtrApply s)))

end Sys2Proof.Machine
end

