-- ==== Sys2Proof/Machine/Billing.lean ====
section
/-!
DEFINITION. Billing (spec/05_billing_tariffs.md): the grid boundary with its labels and the tariff (R107, R112), changes and
steps of the time (R113 to R115), restoration (R117, R143), and the commands of R122 to R126; the write of class P100 (R128).
-/

namespace Sys2Proof.Machine

/-! ## Boundaries of R112 -/

/-- LAST_FIRED of a boundary type is set, and mirrored in the Tailstock domain (R112). -/
def setFired (b : Fin 3) (lab : Nat) (s : State) : State :=
  persist { s with p100.lastFired := vset s.p100.lastFired b lab, tail.lastFired := vset s.p100.lastFired b lab }

/-- A demand label as device time: on the scale of DEM_ALIGN (R108). -/
def demandTime (s : State) (lab : Nat) : Nat :=
  if demLocal (bilB s) then ((lab : Int) - zoneOfs (calB s) * 60000000).toNat else lab

/-- What a demand close asks of each meter, under the settings in force. -/
def demandAct (s : State) (flags t : Nat) : BAct := .demand flags t s.bill.tariff (demL (bilB s)) (demSub (bilB s))

/-- A demand sub-interval ends (R109); after an outage its tariff is that of its own end (R110, R117). -/
def fireDemand (dur : Bool) (lab : Nat) (s : State) : State :=
  let t := demandTime s lab
  if dur then boundaryAll [.demand 12 t (tariffAt s (t - 1)).1 (demL (bilB s)) (demSub (bilB s))] s
  else boundaryAll [demandAct s 0 t] s

/-- A billing period ends (R111): SFLAGS and label; E34 once for the device, with meter 0xFF. -/
def firePeriod (flags lab : Nat) (s : State) : State :=
  let s := boundaryAll [.period flags s.p100.perOpen (now s)] (pulse 34 (prm [(1, 0xFF), (8, lab)]) s)
  { s with p100.perOpen := now s }

/-- A daily snapshot fires (R111, R139). -/
def fireDaily (dur : Bool) (lab : Nat) (s : State) : State :=
  let s := pulse 35 (prm [(1, 0xFF), (8, lab)]) s
  boundaryAll [.daily] { s with p100.day := some { time := now s, label := lab, rflags := b2n dur + 2 * b2n s.p100.dayStep } }

/-- The latest label of a boundary type at or before now. -/
def labelOf (s : State) (b : Fin 3) : Option Nat :=
  match b with | 0 => demandLabel s | 1 => periodLabel s | 2 => dailyLabel s

/-- One boundary type at a grid boundary: it fires for a label later than LAST_FIRED; a new device takes the label without
firing, which begins the first demand sub-interval (R109, R112). The result says whether it fired. -/
def fireType (dur : Bool) (x : State × Nat) (b : Fin 3) : State × Nat :=
  let s := x.1
  match labelOf s b with
  | none => x
  | some lab =>
    if lab ≤ vget s.p100.lastFired b then x
    else if vget s.p100.lastFired b = 0 then (setFired b lab (if b.1 = 0 then boundaryAll [.demandStart] s else s), x.2)
    else
      let s := match b with | 0 => fireDemand dur lab s | 1 => firePeriod (b2n dur) lab s | 2 => fireDaily dur lab s
      (setFired b lab s, x.2 + 1)

/-- Boundaries fire in the order demand, period, daily, while block 0x0343 is committed and time is valid; the first
billing period opens at the first such moment (R112, R116). With it, how many fired. -/
def gridFire (dur : Bool) (s : State) : State × Nat :=
  if !s.clk.timeValid || (committed s 0x0343).isNone then (s, 0)
  else
    let s := if s.p100.perOpen = 0 then { s with p100.perOpen := now s } else s
    [0, 1, 2].foldl (fireType dur) (s, 0)

/-- The tariff is evaluated; a change is a boundary of R72 and raises E32 (R100, R107). -/
def tariffEval (s : State) : State :=
  let a := tariffAt s (now s)
  let s := { s with bill.friendly := a.2 }
  if a.1 = s.bill.tariff then s
  else persist (boundaryAll [] (pulse 32 (prm [(8, now s)]) { s with bill.tariff := a.1 }))

/-- GRID_BOUNDARY (R107, R112, R116). -/
def execGridBoundary (s : State) : Host.Outcome State Fault Refusal :=
  .next (if gridRuns s then tariffEval (gridFire false s).1 else s)

/-- P100_PERSIST (R128): the write at a 100 ms multiple of device time; `ok` is its read-back. A write that fails leaves
no valid copy where it was made, and raises E45 (R148). -/
def execP100Persist (ok : Bool) (s : State) : Host.Outcome State Fault Refusal :=
  .next (if !gridRuns s then s
    else if ok then persist s
    else
      let c := ((p100Newest s).map (·.1)).getD 0 + 1
      pulse 45 [] (if c % 2 = 1 then { s with nvBill.copyA := none } else { s with nvBill.copyB := none }))

/-! ## Restoration (R117, R143) -/

/-- The record of a session the outage ended: POWER_LOSS, DURING_OUTAGE, T_CLOSE at T_FAIL; a close already asked for
keeps its reason and time (R143). -/
def restoreSession (n : Fin 8) (s : State) : State :=
  let x := sep s n
  if !x.on || x.queued then s
  else
    let c := x.closing.getD (.powerLoss, 0, s.bill.restT)
    let s := modSessP n (fun x => { x with closing := some c }) s
    queueSession n c.1 (c.2.1 ||| 8) c.2.2 true s

/-- A netting period whose end passed while the device was off closes at restoration, under the tariff in force at the failure;
the next one ends at the first multiple of T_NET after the present (R82, R117). -/
def netRestore (m : Fin 9) (s : State) : State :=
  match (vget s.en.m m).netT with
  | some t =>
    if netMode (mtr s m.1) = 2 && decide (t ≤ now s) then
      let sd : Side := { tariff := (tariffAt s s.bill.restT).1, price := none, tEnd := some t }
      let sd := { sd with
        price := if ppEn (ppB s m.1) then some (price (ppB s m.1) sd.tariff) else none
        sess := match pointOfMeter m with | some n => (sep s n).on && (sep s n).closing.isNone | none => false }
      modMeter m (fun x => { x with netT := some (netMultiple s m) }) (netClose m sd s)
    else s
  | none => s

/-- Restoration, once time is valid: netting periods that ended in the outage close, boundaries fire DURING_OUTAGE, the tariff and
the profile entries of the outage follow, then the restoration record and the records of the sessions the outage ended (R82, R117,
R138, R143). -/
def restore (s : State) : State :=
  let s := (units 9).foldl (fun t m => if hasGroup t m.1 then netRestore m t else t) s
  let r := gridFire true s
  let s := profileRun (now s) { tariffEval r.1 with p100.profOutTo := now s }
  let s := queueRec { type := 7, time := now s, rest := true,
                      body := fit 224 (le 8 s.bill.restT ++ le 8 (now s) ++ le 1 (b2n s.bill.restWarned) ++ le 1 (min 255 r.2)) } s
  let s := (units 8).foldl (fun t n => restoreSession n t) s
  persist { s with bill.restPend := false, nvBill.warned := none }

/-! ## Time (R113 to R115) -/

/-- Marks of a step: on every meter's billing period, the day, and every open session (R124, R134, R139). -/
def markStep (s : State) : State :=
  let s := { s with p100.m := s.p100.m.map (fun (x : MeterP) => { x with perStep := true }), p100.dayStep := true }
  { s with p100.sess := s.p100.sess.map fun (x : SessP) => if x.on then { x with sflags := x.sflags ||| 4 } else x }

/-- The window is split, and the demand interval in progress closes SHORT and TIME_STEP (R115, steps 1 and 2). -/
def stepClose (s : State) : State :=
  if s.clk.timeValid && (committed s 0x0343).isSome then boundaryAll [demandAct s 17 (now s)] s
  else { boundaryAll [] s with p100.m := (boundaryAll [] s).p100.m.map fun (x : MeterP) => { x with demRun := 0 } }

/-- TIME_STEP (R115): the window is split, the demand interval closes, the boundaries and the tariff are evaluated on the new
time, and a time-change record is queued with E36. SOURCE and ORIGIN as in the record; the first valid time has SOURCE 2. -/
def timeStep (new source origin : Nat) (s : State) : State :=
  let old := now s
  let was := s.clk.timeValid
  let s := markStep (stepClose s)
  let s := { s with
    clk.time := new, clk.timeValid := true, clk.slew := 0
    p100.profStepTo := if old < new then new else s.p100.profStepTo }
  let s := boundaryAll [] s
  let s := if s.bill.restPend then restore s else tariffEval (gridFire false s).1
  let s := queueRec { type := 4, time := new,
                      body := fit 224 (le 8 old ++ le 8 new ++ le 1 (if was then source else 2) ++ le 1 origin) } s
  pulse 36 (prm [(8, new)]) s

/-- A slew to a target at 1 ms per second; it replaces one in progress (R114). -/
def slewTo (target : Nat) (s : State) : State := { s with clk.slew := (target : Int) - now s, clk.slewAcc := 0 }

/-- Two times differ by more than 2 s. -/
def farApart (a b : Nat) : Bool := decide (2000000 < ((a : Int) - b).natAbs)

/-- BIL_TIME_SET (R113 to R115, R125). -/
def bilTimeSetBody (f : Flight) (s : State) : CmdOut :=
  let p := f.pkt.payload
  let t := u64 0 p
  let mode := u8 8 p
  let target := t + (s.clk.mono - f.t0)
  need (decide (7305 * dayUs ≤ t) && decide (mode ≤ 1) && rsv 9 7 p) stBadParam <|
  let rest : CmdOut :=
    need (!(mode == 0 && (!s.clk.timeValid || farApart target (now s))) && !ptpSource s) stState <|
    let reply := le 8 (now s) ++ le 8 target
    if !s.clk.timeValid || farApart target (now s) then .done (timeStep target 1 (Source.ident f.pkt.src) s) reply
    else .done (slewTo target s) reply
  if mode = 1 then needAuth s f 0 rest else rest

def execBilTimeSet (p : Pkt) (s : State) : Host.Outcome State Fault Refusal := .next (command 0x0306 (sized 16 bilTimeSetBody) p s)

/-! ## BIL_COMMIT (R122) -/

/-- The meters whose prepayment blocks MASK names. -/
def bilMeters (m : Nat) : List (Fin 9) := (units 9).filter fun k => bit m (k.1 + 2)

/-- The blocks MASK of BIL_COMMIT names. -/
def bilIds (m : Nat) : List Nat :=
  (if bit m 0 then [0x0340, 0x0341, 0x0342] else []) ++ (if bit m 1 then [0x0343] else []) ++ (bilMeters m).map fun k => 0x0350 + k.1

/-- SUPPLY_CH names an HS channel designated as a contactor coil, with its auxiliary contact assigned (R120). -/
def supplyOk (s : State) (b : List Byte) : Bool :=
  let c := chB s (supplyCh b - 1)
  (committed s (0x0601 + (supplyCh b - 1))).isSome && chRole c == 2 && !(fbSel c == 0)

/-- The cross-block checks of R106 and R120. -/
def bilCross (s : State) (cs : List BlkCopy) (m : Nat) : Bool :=
  (!bit m 0 || calCross (afterCommit s cs 0x0340) (afterCommit s cs 0x0341) (afterCommit s cs 0x0342)) &&
    (!bit m 2 || supplyOk s (afterCommit s cs 0x0350))

/-- BIL_COMMIT (R122). -/
def bilCommitBody (f : Flight) (s : State) : CmdOut :=
  let p := f.pkt.payload
  let m := u16 0 p
  need (!(m == 0) && decide (m < 2 ^ 11) && rsv 2 2 p && (bilMeters m).all (fun k => hasGroup s k.1)) stBadParam <|
  takeStored s (bilIds m) fun cs =>
  need (bilCross s cs m) stBadParam <|
  need s.bill.commit.isNone stBusy <|
  .wait (take f cs { s with bill.commit := some f })

def execBilCommit (p : Pkt) (s : State) : Host.Outcome State Fault Refusal := .next (command 0x0301 (sized 4 bilCommitBody) p s)

/-- The stored billing blocks take effect at a 2 ms boundary: a commit of block 0x0343 closes the demand interval as SHORT,
the tariff is evaluated, and prices apply to the sides that start now (R122). Prepayment switched off leaves its state. -/
def bilApply (cs : List BlkCopy) (s : State) : State :=
  let acts := if cs.any (fun c => c.id == 0x0343) && s.clk.timeValid && (committed s 0x0343).isSome then [demandAct s 1 (now s)] else []
  let s := boundaryAll acts s
  let s := tariffEval (commitCopies cs s)
  let s := boundaryAll [] s
  (units 9).foldl (fun t m => if ppEn (ppB t m.1) then t else ppGo m .off t) s

/-- BIL_COMMIT_APPLY (R122). -/
def execBilCommitApply (s : State) : Host.Outcome State Fault Refusal :=
  .next (match s.bill.commit with
    | some f => finish f (tApplied s) (untake f (bilApply (takenBy s f) { s with bill.commit := none }))
    | none => s)

/-! ## Reading (R123, R124) -/

/-- The value and wrap counter of the two wrapping forms of a register (R102): compact, then displayed. -/
def forms (v : Nat) : List (Nat × Nat) :=
  [(v / 10000 % 2 ^ 32, v / 10000 / 2 ^ 32), (v / 10000 % 1000000000, v / 10000 / 1000000000)]

/-- One register of a BIL_REGS reply. -/
def regBytes (v : Nat) : List Byte := le 8 v ++ (forms v).flatMap fun f => le 4 f.1 ++ le 4 f.2

/-- BIL_REGS (R123). -/
def bilRegsBody (f : Flight) (s : State) : CmdOut :=
  let p := f.pkt.payload
  let t := u8 1 p
  match groupOf s (u8 0 p) with
  | none => .fail stBadParam
  | some m =>
    need (decide (t ≤ 8) && rsv 2 2 p) stBadParam <|
    let x := vget s.p100.m m
    let reg := fun (q : Fin 12) => match ix 8 (t - 1) with
      | some k => if t = 0 then totalReg x q else tariffReg x k q
      | none => totalReg x q
    .done s (le 8 (vget s.en.m m).vals.tRead ++ (units 12).flatMap fun q => regBytes (reg q))

def execBilRegs (p : Pkt) (s : State) : Host.Outcome State Fault Refusal := .next (command 0x0302 (sized 4 bilRegsBody) p s)

/-- A maximum demand as BIL_DEMAND and BIL_SNAPSHOT return it. -/
def maxBytes (x : MaxD) : List Byte := le 4 x.mw ++ le 8 x.t

/-- BIL_DEMAND (R124). -/
def bilDemandBody (f : Flight) (s : State) : CmdOut :=
  let p := f.pkt.payload
  match groupOf s (u8 0 p) with
  | none => .fail stBadParam
  | some m =>
    need (rsv 1 3 p) stBadParam <|
    .done s (le 8 s.bill.tLast ++ (vget s.bill.last m).toList.flatMap (fun d => le 4 d.mw ++ le 2 d.flags ++ zeros 2) ++
      (vget s.p100.m m).maxd.toList.flatMap fun l => l.toList.flatMap maxBytes)

def execBilDemand (p : Pkt) (s : State) : Host.Outcome State Fault Refusal := .next (command 0x0303 (sized 4 bilDemandBody) p s)

/-- BIL_SNAPSHOT (R124). -/
def bilSnapshotBody (f : Flight) (s : State) : CmdOut :=
  let p := f.pkt.payload
  match groupOf s (u8 0 p) with
  | none => .fail stBadParam
  | some m =>
    need (decide (u8 1 p ≤ 23) && rsv 2 2 p) stBadParam <|
    match (vget s.nvBill.snaps m)[u8 1 p]? with
    | none => .fail stState
    | some x => .done s (le 8 x.tOpen ++ le 8 x.tClose ++ le 4 x.flags ++ zeros 4 ++ x.regs.flatMap (le 8) ++ x.maxd.flatMap maxBytes)

def execBilSnapshot (p : Pkt) (s : State) : Host.Outcome State Fault Refusal := .next (command 0x0304 (sized 4 bilSnapshotBody) p s)

/-! ## BIL_PERIOD_END and BIL_CREDIT (R125, R126) -/

/-- BIL_PERIOD_END (R125): the close waits for the next 2 ms boundary. -/
def bilPeriodEndBody (f : Flight) (s : State) : CmdOut :=
  need s.clk.timeValid stState <|
  need s.bill.perEnd.isNone stBusy <|
  .wait { s with bill.perEnd := some f }

def execBilPeriodEnd (p : Pkt) (s : State) : Host.Outcome State Fault Refusal := .next (command 0x0305 (sized 0 bilPeriodEndBody) p s)

/-- BIL_PERIOD_END_CLOSE (R125): the period of every meter closes BY_COMMAND, and LAST_FIRED[PERIOD] is the local wall time. -/
def execBilPeriodEndClose (s : State) : Host.Outcome State Fault Refusal :=
  .next (match s.bill.perEnd with
    | none => s
    | some f =>
      let w := (wall (calB s) (now s)).toNat
      let s := setFired 1 w (firePeriod 2 w { s with bill.perEnd := none })
      finish f (le 8 (now s)) s)

/-- The operation is allowed in the present state (R119, R120, R125): emergency credit once per exhaustion, reconnection in
CREDIT, LOW or EMERGENCY, PP_FAULT to clear. -/
def creditAllowed (b : List Byte) (x : MeterP) (op : Nat) : Bool :=
  match op with
  | 2 => decide (x.credit ≤ 0) && !emergAuto b && !x.emergUsed && !x.emergOn
  | 3 => [.credit, .low, .emergency].contains x.ppState
  | 4 => x.ppState == .ppFault
  | _ => true

/-- CREDIT after subtracting; below the range of a signed 64-bit number the spec states no result (a free value). -/
def creditSub (c : Int) (a : Nat) (s : State) : State × Int :=
  if c - a < -(2 ^ 63 : Int) then (drawn 1 s, Config.freeInt s.clk.free) else (s, c - a)

/-- What an operation of BIL_CREDIT does (R119, R120, R125). -/
def creditOp (m : Fin 9) (op amount : Nat) (s : State) : State :=
  match op with
  | 0 => prepay m (modMeterP m (fun x => { x with credit := x.credit + amount }) s)
  | 1 =>
    let r := creditSub (vget s.p100.m m).credit amount s
    prepay m (modMeterP m (fun x => { x with credit := r.2 }) r.1)
  | 2 => prepay m (modMeterP m (fun x => { x with emergOn := true }) s)
  | 3 => commandSupply true s
  | _ => prepay m (ppGo m (ppTarget (ppB s m.1) s.bill.friendly { vget s.p100.m m with ppState := .off }) s)

/-- BIL_CREDIT (R118 to R120, R125, R126): the operation and its token are persisted together before the reply. -/
def bilCreditBody (f : Flight) (s : State) : CmdOut :=
  let p := f.pkt.payload
  let op := u8 1 p
  let tok := u32 4 p
  let a := u64 8 p
  match groupOf s (u8 0 p) with
  | none => .fail stBadParam
  | some m =>
    let x := vget s.p100.m m
    need (decide (op ≤ 4) && rsv 2 2 p && (decide (op ≤ 1) || a == 0) && !(op == 3 && !(m.1 == 0)) &&
      !(op == 0 && decide ((2 ^ 62 : Int) < x.credit + a))) stBadParam <|
    needAuth s f 1 <|
    need (!x.tokens.contains tok && ppEn (ppB s m.1) && creditAllowed (ppB s m.1) x op) stState <|
    let s := persist (creditOp m op a (modMeterP m (fun x => { x with tokens := (tok :: x.tokens).take 16 }) s))
    .done s (leInt 8 (vget s.p100.m m).credit ++ le 1 (ppCode (vget s.p100.m m).ppState) ++ zeros 7)

def execBilCredit (p : Pkt) (s : State) : Host.Outcome State Fault Refusal := .next (command 0x0307 (sized 16 bilCreditBody) p s)

end Sys2Proof.Machine
end

