-- ==== Sys2Proof/Machine/Earth.lean ====
section
/-!
DEFINITION. Residual current, insulation and earth supervision (spec/09_earth_fault_insulation.md): the raw residual and
its detectors (R203 to R206), offset measurement (R208), computed residual and mismatch (R210 to R212), the test winding
(R213, R214), insulation (R215 to R218), PE and N–PE supervision (R219 to R221), and the commands of R224 to R226.
-/

namespace Sys2Proof.Machine

def modEd (f : EarthDev → EarthDev) (s : State) : State := { s with earthDev := f s.earthDev }

/-! ## Raw residual and detectors (R203, R206) -/

/-- N_SEC × mean(V_SNS) / R_BUR in µA, V_SNS in µV (R203). -/
def rawResidual (b : List Byte) (v : Int) : Int := if rBur b = 0 then 0 else conv (v * nSec b * 1000) (rBur b)

/-- The RMS of values about `dc`. -/
def rmsI (dc : Int) (l : List Int) : Nat := convSqrt ((l.map fun x => (x - dc).natAbs ^ 2).sum) l.length

/-- Excitation periods in one tracked period of the point's group, 200 without one (R206). -/
def resWindow (s : State) (n : Fin 8) : Nat :=
  match trackedPeriod s (n.1 + 1) with | some p => max 1 (min 250 (convN p 6400)) | none => 200

/-- One core's detectors with one more value of r, at the elapsed time `t`: DC over 20 ms, AC over `win` periods, wideband over 1 ms,
each over the values it holds until its window has filled; they operate from their nominal levels (R206). -/
def feedDet (win t : Nat) (r : Int) (d : ResDet) : ResDet :=
  let rs := (r :: d.r).take 250
  let dc := meanI (rs.take 200)
  let ac := rmsI dc (rs.take win)
  let wb := rmsI 0 (rs.take 10)
  let ops := [decide (4500 ≤ dc.natAbs), decide (22500 ≤ ac), decide (125000 ≤ wb)]
  { r := rs, iDc := dc, iAc := ac, iWb := wb, dcOp := ops.getD 0 false, acOp := ops.getD 1 false, wbOp := ops.getD 2 false
    opAt := Vector.ofFn fun k => if ops.getD k.1 false then some ((vget d.opAt k).getD t) else vget d.opAt k }

/-- A core's values are below the levels at which no detector operates (R206). -/
def detLow (d : ResDet) : Bool := decide (d.iDc.natAbs < 3000) && decide (d.iAc < 15000) && decide (d.iWb < 100000)

/-- A detector's operation begins or ends, with E63+n (R227). -/
def noteDet (n : Fin 8) (kind : Nat) (was on : Bool) (val : Int) (s : State) : State :=
  if was == on then s else e63 n kind on val 0 s

/-- A sensor fault is set: E63+n KIND 5, and the point is out of service (R205). -/
def setSensorFault (n : Fin 8) (val : Int) (s : State) : State :=
  if (nvp s n).sensorFault then s
  else setOos n 4 (e63 n 5 true val 0 (modNvPt n (fun x => { x with sensorFault := true }) s))

/-- The sensor cases of R205 found in a cycle: no saturation or a flat V_SNS for 10 periods, or |r| above 300 mA for
100 ms with the contactor confirmed open. -/
def sensorBad (s : State) (n : Fin 8) : Bool :=
  let e := ear s n
  decide (10 ≤ e.openRun) || decide (10 ≤ e.flatRun) || heldFor s e.bigSince 100000

/-- The sensor is excited: its residual block is committed, and the device is not in WATCH, where excitation stops (R203, R208). -/
def excited (s : State) (n : Fin 8) : Bool := (committed s (0x0511 + n.1)).isSome && s.pwr.pstate != .watch

/-- An offset is being measured: the measurement is due, or the test is in step 1, with the contactor confirmed open for at least
100 ms (R208, R213). -/
def measuresOffset (s : State) (n : Fin 8) : Bool :=
  let e := ear s n
  (e.tst == 1 || (e.offRun && e.tst == 0)) && confirmedOpen s n && elapsed s (saf s n).openAt 100000

/-- A value of N_SEC × V_SNS / R_BUR enters the offset measurement: 200 of them are a 20 ms mean; without the conditions of the
measurement it starts anew (R208). -/
def feedOffset (on : Bool) (v : Int) (e : Earth) : Earth :=
  if !on then { e with offMeans := [], offAcc := (0, 0) }
  else if 10 ≤ e.offMeans.length then e
  else if e.offAcc.1 + 1 < 200 then { e with offAcc := (e.offAcc.1 + 1, e.offAcc.2 + v) }
  else { e with offMeans := conv (e.offAcc.2 + v) 200 :: e.offMeans, offAcc := (0, 0) }

/-- Raise E63+n for each detector whose operation begins or ends at either core, during the test too (R204, R213, R227). -/
def noteDets (n : Fin 8) (old : Earth) (s : State) : State :=
  let e := ear s n
  let d := vget e.res 0
  noteDet n 2 old.wbOp e.wbOp d.iWb (noteDet n 1 old.acOp e.acOp d.iAc (noteDet n 0 old.dcOp e.dcOp d.iDc s))

/-- One excitation period of a point's sensor: r as each core receives it, the detectors of both, the offset measurement and the
sensor cases (R203 to R206, R208). Without excitation the windows are empty, so that they fill anew. -/
def residual (n : Fin 8) (x : PtIn) (s : State) : State :=
  let b := rcdB s n
  let e := ear s n
  if !excited s n then
    noteDets n e (modEarth n (fun e => { e with res := Vector.replicate 2 {}, openRun := 0, flatRun := 0, bigSince := none, lowSince := none }) s)
  else
    let raw := rawResidual b x.vsns
    let r := raw - e.offset
    let on := measuresOffset s n
    let win := resWindow s n
    let s := modEarth n (fun e => feedOffset on raw { e with
      res := Vector.ofFn fun k => feedDet win s.clk.mono (if k.1 = 0 then r else rawResidual b x.vsns1 - e.offset) (vget e.res k) }) s
    let low := (ear s n).res.toList.all detLow && !e.compOp && (saf s n).openConf
    let big := e.tst == 0 && decide (300000 < r.natAbs) && (saf s n).openConf
    let s := modEarth n (fun e => { e with
      lowSince := follow s low e.lowSince, bigSince := follow s big e.bigSince
      openRun := if x.saturated then 0 else min 10 (e.openRun + 1)
      flatRun := if x.peak ≤ 2000 then min 10 (e.flatRun + 1) else 0 }) s
    let s := noteDets n e s
    if sensorBad s n then setSensorFault n r s else s

/-! ## Computed residual and mismatch (R210 to R212) -/

/-- The channels of the computed residual by SYSTEM (R210). -/
def compChans (sys : Nat) : List Nat := if sys = 0 then [0, 1, 2, 3] else if sys = 1 then [0, 1, 2] else [0, 3]

/-- A fast-path value of a channel in µA (R57, R210). -/
def fpMicro (b : List Byte) (c : Nat) (y : Int) : Int := conv (y * 8388607 * chScale b c * 1000) (2047 * 2 ^ 32)

/-- The computed residuals of the fast-path samples since the last cycle, oldest first; none when unavailable (R210). -/
def computed (s : State) (n : Fin 8) : Option (List Int) :=
  let g := n.1 + 1
  let b := grp s g
  let cs := compChans (grpSystem b)
  let per := cs.map fun c => s.filt.safeq.filter fun x => x.1 == 8 * g + c
  let k := per.foldl (fun a l => min a l.length) 504
  if !grpEn b || cs.any (fun c => !chEn b c) || per.any (fun l => l.any fun x => bit x.2.2 2) then none
  else some ((List.range k).map fun i =>
    (cs.zip per).foldl (fun a x => a + fpMicro b x.1 ((x.2[i]?).map (·.2.1) |>.getD 0)) 0)

/-- Follow the computed residual of a cycle and its sliding 10 ms RMS against COMP_TRIP (R210, R211). -/
def compCycle (n : Fin 8) (s : State) : State :=
  let b := rcdB s n
  let e := ear s n
  match computed s n with
  | none => noteDet n 3 e.compOp false e.iCalc (modEarth n (fun e => { e with compAvail := false, comp := [], compOp := false }) s)
  | some l =>
    let comp := (l.reverse ++ e.comp).take 1600
    let rms := rmsI 0 (comp.take 625)
    let op := xchkEn b && decide (compTrip b * 1000 < rms)
    let s := modEarth n (fun e => { e with comp, compOp := op, compAvail := !comp.isEmpty }) s
    noteDet n 3 e.compOp op rms s

/-- The largest conductor RMS of the last period, µA (R211). -/
def largestRms (s : State) (n : Fin 8) : Nat :=
  let g := n.1 + 1
  let b := grp s g
  let k := match trackedPeriod s g with | some p => periodSamples p | none => 1250
  (compChans (grpSystem b)).foldl (fun a c => max a (rmsI 0 (((detOf s g c).hist.take k).map (fpMicro b c)))) 0

/-- The RMS of r over the period the comparison of R211 uses. -/
def resRms (s : State) (n : Fin 8) : Nat := rmsI 0 ((vget (ear s n).res 0).r.take (resWindow s n))

/-- RESIDUAL_MISMATCH (R211, R225): at the end of a tracked period (or 20 ms), the computed residual's RMS, and with the contactor closed
its comparison with that of r; CMP_N consecutive mismatching periods are a mismatch, and a period that is not compared ends the
run. -/
def execResidualMismatch (n : Fin 8) (s : State) : Host.Outcome State Fault Refusal :=
  let b := rcdB s n
  let e := ear s n
  let k := match trackedPeriod s (n.1 + 1) with | some p => periodSamples p | none => 1250
  let c := rmsI 0 (e.comp.take k)
  let r := resRms s n
  let diff := if c < r then r - c else c - r
  let run := if max (cmpMin b * 1000) (largestRms s n * cmpPct b / 1000) < diff then e.misRun + 1 else 0
  .next (if !e.compAvail then modEarth n (fun e => { e with misRun := 0 }) s
    else if !(saf s n).closed || !xchkEn b then modEarth n (fun e => { e with iCalc := c, misRun := 0 }) s
    else
      let s := modEarth n (fun e => { e with iCalc := c, misRun := min (cmpN b) run }) s
      if cmpN b ≤ run ∧ !(nvp s n).mismatch then
        setOos n 4 (e63 n 4 true c 0 (modNvPt n (fun x => { x with mismatch := true }) s))
      else s)

/-! ## Offset measurement (R208) -/

/-- A residual detector of the point operates. -/
def anyOp (e : Earth) : Bool := e.dcOp || e.acOp || e.wbOp || e.compOp

/-- The offset ten 20 ms means give, none when one of them differs from their mean by more than 0.5 mA (R208). -/
def offsetMean (means : List Int) : Option Int :=
  let o := meanI means
  if means.length = 10 ∧ means.all (fun m => decide ((m - o).natAbs ≤ 500)) then some o else none

/-- The offset a measurement outside the test gives: a detector that operates makes it invalid (R208, conditions of chapter 9). -/
def offsetOf (e : Earth) (means : List Int) : Option Int := if anyOp e then none else offsetMean means

/-- The measurement passes: the new offset replaces the old one; the residual trigger that waited for it clears (R208,
R221). -/
def offsetPass (n : Fin 8) (o : Int) (s : State) : State :=
  e63 n 6 false o 0 (modEarth n (fun e => { e with
    offset := o, offOk := true, offRun := false, offTry := 0, pend := e.pend && !e.clrOff, clrOff := false }) s)

/-- OFFSET_MEASUREMENT (R208, R205): the 200 ms are over; the measurement passes, is repeated up to twice, or is a sensor fault. -/
def execOffsetMeasurement (n : Fin 8) (s : State) : Host.Outcome State Fault Refusal :=
  let e := ear s n
  let means := e.offMeans
  let anew := modEarth n (fun e => { e with offMeans := [], offAcc := (0, 0) }) s
  .next (if !e.offRun || e.tst != 0 || !confirmedOpen s n || decide (means.length < 10) then s
    else match offsetOf e means with
      | some o =>
        if 2000 < o.natAbs then setSensorFault n o (modEarth n (fun e => { e with offRun := false, offTry := 0 }) anew)
        else offsetPass n o anew
      | none =>
        if 3 ≤ e.offTry + 1 then setSensorFault n (meanI means) (modEarth n (fun e => { e with offRun := false, offTry := 0 }) anew)
        else if anyOp e && e.clrOff then
          modEarth n (fun e => { e with offRun := false, clrOff := false, offTry := e.offTry + 1, lowSince := none }) anew
        else modEarth n (fun e => { e with offTry := e.offTry + 1 }) anew)

/-- EARTH_TRIGGER_CLEAR (conditions of chapter 9): 1 s below every level with the contactor open, then an offset
measurement clears the trigger. -/
def execEarthTriggerClear (n : Fin 8) (s : State) : Host.Outcome State Fault Refusal :=
  let e := ear s n
  .next (if e.pend && heldFor s e.lowSince 1000000 && (saf s n).openConf && !e.clrOff then
    modEarth n (fun e => { e with offRun := true, clrOff := true }) s else s)

/-! ## Test winding (R213, R214) -/

/-- A test falls due once in each 24 h, when the point has had state A, or output F, for 10 s (R214). -/
def dailyDue (s : State) (n : Fin 8) : Bool :=
  let e := ear s n
  tstDaily (rcdB s n) && (e.dailyAt == 0 || elapsed s e.dailyAt dayUs) && heldFor s (pil s n).aSince 10000000 &&
    ((pil s n).out == .F || (pil s n).st == some .A)

/-- What a step injects: DC or AC, and the equivalent residual in µA, rms for AC (R213). -/
def injection (k : Nat) : Option (Bool × Nat) :=
  if k = 2 then some (false, 2400) else if k = 3 then some (false, 9000) else if k = 4 then some (true, 45000) else none

/-- The frequency of an AC injection, mHz: the tracked one, 50 Hz without one (R213). -/
def testFreq (s : State) (n : Fin 8) : Nat :=
  match trackedPeriod s (n.1 + 1) with | some p => convN 64000000000 p | none => 50000

/-- A step of the procedure begins: RDCn_TST sources the equivalent residual over N_TST, or nothing (R213). -/
def testStep (n : Fin 8) (k : Nat) (s : State) : State :=
  let out := (injection k).map fun x => (convN (x.2 * 1000) (nTst (rcdB s n)), if x.1 then testFreq s n else 0)
  modEarth n (fun e => { e with
    tst := k, tstAt := s.clk.mono, tstOut := out, res := e.res.map fun d => { d with opAt := Vector.replicate 3 none } }) s

/-- The procedure of R213 begins; `cmd` is an EF_TEST that waits for its end (R226). -/
def testStart (n : Fin 8) (cmd : Option Flight) (s : State) : State :=
  testStep n 1 (modEarth n (fun e => { e with
    tstDue := false, offTry := 0, offMeans := [], offAcc := (0, 0), tstCmd := cmd }) s)

/-- TEST_WINDING_DUE (R214): a due test starts once the contactor is confirmed open with no closing pending; a test that
closing itself demands does not wait for the request to end. -/
def execTestWindingDue (n : Fin 8) (s : State) : Host.Outcome State Fault Refusal :=
  let e := ear s n
  let daily := dailyDue s n
  let may := confirmedOpen s n && (saf s n).path == 0 && (!(saf s n).reqClose || !testFresh s n) &&
    (committed s (0x0511 + n.1)).isSome
  .next (if hasPoint s n && (e.tstDue || daily) && e.tst == 0 && may then
    testStart n none (modEarth n (fun e => { e with dailyAt := if daily then max 1 s.clk.mono else e.dailyAt }) s)
  else s)

/-- The reply of EF_TEST (R226). -/
def testReply (e : Earth) (fail : Nat) : List Byte :=
  le 1 (if fail = 0 then 0 else 1) ++ le 1 fail ++ zeros 2 ++ leInt 4 e.mDc ++ le 4 e.mAc

/-- A passed EF_TEST clears a sensor fault, a mismatch and the out-of-service bit (R226). -/
def clearEarth (n : Fin 8) (s : State) : State :=
  let x := nvp s n
  let s := if x.sensorFault then e63 n 5 false 0 0 s else s
  let s := if x.mismatch then e63 n 4 false 0 0 s else s
  clearOos n 0x10 (modNvPt n (fun x => { x with sensorFault := false, mismatch := false })
    (modEarth n (fun e => { e with misRun := 0, openRun := 0, flatRun := 0, bigSince := none }) s))

/-- The test ends: step 0 for a pass, else the failing step, which is a sensor fault (R213, R226). -/
def testEnd (n : Fin 8) (fail : Nat) (s : State) : State :=
  let cmd := (ear s n).tstCmd
  let s := modEarth n (fun e => { e with tst := 0, tstOut := none, tstFailed := fail != 0, tstCmd := none, offRun := false }) s
  let s := e63 n 7 (fail != 0) (ear s n).mDc fail s
  let s := if fail = 0 then modNvPt n (fun x => { x with tTest := now s }) s else setSensorFault n (vget (ear s n).res 0).iDc s
  let s := if fail = 0 ∧ cmd.isSome then clearEarth n s else s
  match cmd with
  | some f => finish f (testReply (ear s n) fail) s
  | none => s

/-- A value lies within ±10 % of a nominal one, µA (R213). -/
def nearTen (v nom : Int) : Bool := decide (10 * (v - nom).natAbs ≤ nom.natAbs)

/-- One core passes a step of R213 from 2 to 5 that began at the elapsed time `t`. -/
def corePasses (k t : Nat) (d : ResDet) : Bool :=
  let within := fun (i : Fin 3) (us : Nat) => (vget d.opAt i).any fun o => decide (o ≤ t + us)
  if k = 2 then d.opAt.toList.all (·.isNone) && nearTen d.iDc 2400
  else if k = 3 then within 0 40000 && nearTen d.iDc 9000
  else if k = 4 then within 1 21000 && nearTen d.iAc 45000
  else !d.dcOp && !d.acOp && !d.wbOp && decide ((d.r.headD 0).natAbs ≤ 1000)

/-- Duration of a step from 2 to 5, µs (R213). -/
def stepTime (k : Nat) : Nat := if k = 2 then 200000 else 100000

/-- TEST_WINDING_STEP_END (R213): the step's time is over; both cores pass it, step 1 is repeated as R208 says, or the test fails. -/
def execTestWindingStepEnd (n : Fin 8) (s : State) : Host.Outcome State Fault Refusal :=
  let e := ear s n
  let anew := modEarth n (fun e => { e with offMeans := [], offAcc := (0, 0) }) s
  .next (if e.tst = 0 then s
    else if e.tst = 1 then
      if e.offMeans.length < 10 then s
      else match offsetMean e.offMeans with
        | some o => if 2000 < o.natAbs then testEnd n 1 anew else testStep n 2 (offsetPass n o anew)
        | none => if 3 ≤ e.offTry + 1 then testEnd n 1 anew else modEarth n (fun e => { e with offTry := e.offTry + 1 }) anew
    else if !elapsed s e.tstAt (stepTime e.tst) then s
    else
      let d := vget e.res 0
      let s := modEarth n (fun x => { x with
        mDc := if e.tst = 3 then d.iDc else x.mDc, mAc := if e.tst = 4 then d.iAc else x.mAc }) s
      if !e.res.toList.all (corePasses e.tst e.tstAt) then testEnd n e.tst s
      else if e.tst = 5 then testEnd n 0 s
      else testStep n (e.tst + 1) s)

/-! ## Insulation (R215 to R218) -/

/-- ISO_STATUS changes, with E72: point, new and previous status, R_ISO (R227). -/
def setIso (n : Fin 8) (st : Nat) (s : State) : State :=
  let old := (ear s n).iso
  let s := modEarth n (fun e => { e with iso := st }) s
  if old = st then s else pulse 72 (prm [(1, pno n), (1, st), (1, old), (4, (ear s n).rIso)]) s

/-- A resistance in kΩ as the inverse of a conductance `num / den` in 1/kΩ; above range up to 0.01 µS (R216, R225). -/
def ohmsOf (num den : Int) : Nat :=
  if num * 100000 ≤ den then 0xFFFFFFFF else (conv den num.toNat).toNat

/-- The conductances A − gM, B − gM over a common positive denominator, in 1/kΩ, from the four pole voltages; none where R216 divides by
zero (log entry 904). -/
def isoCond (b : List Byte) (vp0 vn0 vp1 vn1 : Nat) : Option (Int × Int × Int) :=
  let d : Int := (rUnb b : Int) * ((vp0 : Int) * vn1 - (vp1 : Int) * vn0)
  if d = 0 ∨ vn0 = 0 ∨ rMeas b = 0 then none
  else
    let g := d.sign
    some (g * ((vp1 : Int) * vn0 * rMeas b - d), g * ((vp1 : Int) * vp0 * rMeas b - d), g * d * rMeas b)

/-- The status of a valid cycle (R217): R_ISO = `den` / `num` kΩ against WARN and ALARM (Ω/V) times U_REF (mV), before any rounding. -/
def isoStatus (b : List Byte) (uRef : Nat) (num den : Int) : Nat :=
  if ((isoWarn b * uRef : Nat) : Int) * num ≤ den * 1000000 then 2 else if ((isoAlarm b * uRef : Nat) : Int) * num ≤ den * 1000000 then 3 else 4

/-- A valid cycle's status: E72, the cable-check result, and FAULT in the cable check ends the session (R217, R218). -/
def isoValid (n : Fin 8) (st r p q u : Nat) (s : State) : State :=
  let s := setIso n st (modEarth n (fun e => { e with rIso := r, rIsoP := p, rIsoN := q, uBus := u, isoV0 := none }) s)
  let h := hl s n
  if h.dcStep = 3 ∧ h.cable = 0 ∧ h.uStable.any (fun t => decide (t + 500000 ≤ (ear s n).isoAt)) then
    let s := modHlc n (fun h => { h with cable := st }) s
    if st = 4 then endNow n .safetyTrip s else s
  else s

/-- A cycle ends: NO_VOLTAGE below 100 V, invalid when not settled or U moved by more than 2 %, else its values (R215 to
R217). An invalid cycle leaves the last status in force. -/
def isoCycle (n : Fin 8) (v0 : Nat × Nat) (vp vn : Nat) (s : State) : State :=
  let u0 := v0.1 + v0.2
  let u1 := vp + vn
  let diff := if u0 < u1 then u1 - u0 else u0 - u1
  let s := modEarth n (fun e => { e with isoV0 := none }) s
  if u0 * 2 < diff * 100 then s
  else
    let b := isoB s n
    let ref := dcMaxU (hlcB s n)
    match isoCond b v0.1 v0.2 vp vn with
    | some (ga, gb, den) =>
      isoValid n (isoStatus b ref (ga + gb) den) (ohmsOf (ga + gb) den) (ohmsOf ga den) (ohmsOf gb den) u1 s
    | none =>
      let k := s.clk.free
      let r := Config.freeNat k
      isoValid n (isoStatus b ref 1 r) r (Config.freeNat (k + 1)) (Config.freeNat (k + 2)) u1 (drawn 3 s)

/-- A pole voltage in mV from the voltage at its tap in µV: the divider's ratio is ISO_DIV (R215). -/
def poleVolt (s : State) (n : Fin 8) (tap : Nat) : Nat := convN (tap * isoDiv (isoB s n)) 1000

/-- INSULATION_STEP_END (R215, R216): a step of the monitor ends, after `us` µs, with the means of its taps over the last 50 ms in µV and
whether they have settled. Step 0 runs with R_UNB off; it is switched on for step 1 and off again after it. -/
def execInsulationStepEnd (n : Fin 8) (step tapP tapN us : Nat) (settled : Bool) (s : State) : Host.Outcome State Fault Refusal :=
  let on := dcPoint s n && (committed s (0x0521 + n.1)).isSome && decide (tStep (isoB s n) * 1000 ≤ us)
  let vp := poleVolt s n tapP
  let vn := poleVolt s n tapN
  let no := modEarth n (fun e => { e with isoV0 := none, isoDrv := false }) s
  .next (if !on then s
    else if vp + vn < 100000 then setIso n 1 no
    else if !settled || decide (4 * tStep (isoB s n) * 1000 < us) then no
    else if step = 0 then modEarth n (fun e => { e with isoV0 := some (vp, vn), isoAt := s.clk.mono - us, isoDrv := true }) s
    else match (ear s n).isoV0 with
      | some v0 => isoCycle n v0 vp vn no
      | none => no)

/-! ## PE and N–PE supervision (R219 to R221) -/

/-- E73: which (0 PE continuity loss, 1 N–PE high) and U_NPE (R227). -/
def e73 (which : Nat) (on : Bool) (s : State) : State := level 73 which on (prm [(1, which), (4, s.earthDev.uNpe)]) s

/-- A positive half-cycle of U1 of G0, or a 20 ms span, ends without or with a recognised pulse (R219). -/
def peSpan (s : State) : State :=
  if !peChkEn (peB s) then s
  else
    let miss := if s.earthDev.peSeen then 0 else min 4 (s.earthDev.peMiss + 1)
    let s := modEd (fun e => { e with peMiss := miss, peSeen := false, peSpanAt := s.clk.mono }) s
    if miss = 4 then e73 0 true (modEd (fun e => { e with peLoss := true }) s) else s

/-- A low level on PE_CHK counts: in a positive half-cycle of U1 of G0, which its last crossing began upward, or without a tracked
period of G0 at any time (R219). -/
def peCounts (s : State) : Bool := (trackedPeriod s 0).isNone || (detOf s 0 4).zcUp

/-- PE_CHK_PULSE (R219): a low level of at least 1 ms is recognised; the loss is over with it. -/
def execPeChkPulse (us : Nat) (s : State) : Host.Outcome State Fault Refusal :=
  .next (if peChkEn (peB s) && decide (1000 ≤ us) && peCounts s then
    e73 0 false (modEd (fun e => { e with peSeen := true, peMiss := 0, peLoss := false }) s) else s)

/-- The N–PE voltage of one safety cycle, from the voltage across NPE_SNS in µV: the divider's ratio is NPE_DIV (R220). -/
def npeFeed (sns : Int) (s : State) : State :=
  let v := conv (sns * npeDiv (peB s)) 1000
  modEd (fun e => { e with npeSq := e.npeSq + v.natAbs ^ 2, npeN := e.npeN + 1 }) s

/-- A tracked period of G0 ends: N–PE high after 5 periods above NPE_LIMIT, cleared after 50 at or below 0.9 of it
(R220). -/
def npePeriod (s : State) : State :=
  let d := s.earthDev
  let u := convSqrt d.npeSq d.npeN
  let lim := npeLimit (peB s) * 1000
  let toward := if d.npeHigh then decide (u * 10 ≤ lim * 9) else decide (lim < u)
  let run := if toward then d.npeRun + 1 else 0
  let turn := npeEn (peB s) && decide ((if d.npeHigh then 50 else 5) ≤ run)
  if d.npeN = 0 then s
  else
    let s := modEd (fun e => { e with uNpe := u, npeSq := 0, npeN := 0, npeRun := if turn then 0 else run }) s
    if turn then e73 1 (!d.npeHigh) (modEd (fun e => { e with npeHigh := !d.npeHigh }) s) else s

/-! ## Commands -/

/-- The blocks MASK of EF_COMMIT names (R224). -/
def efIds (m : Nat) : List Nat :=
  (if bit m 0 then [0x0510] else []) ++ ((units 8).filter fun n => bit m (n.1 + 1)).map (fun n => 0x0511 + n.1) ++
    ((units 4).filter fun n => bit m (n.1 + 9)).map (fun n => 0x0521 + n.1)

/-- The points whose blocks MASK of EF_COMMIT names. -/
def efPoints (m : Nat) : List (Fin 8) := (units 8).filter fun n => bit m (n.1 + 1) || (decide (n.1 < 4) && bit m (n.1 + 9))

/-- A residual block has taken effect: a changed N_SEC or R_BUR invalidates the offset, which is measured (R208, R224). -/
def rcdApplied (old : List Byte) (n : Fin 8) (s : State) : State :=
  let b := rcdB s n
  let changed := !(nSec old == nSec b && rBur old == rBur b)
  modEarth n (fun e => { e with
    offOk := e.offOk && !changed, offRun := e.offRun || changed || !e.offOk, offTry := 0
    res := if changed then Vector.replicate 2 {} else e.res }) s

/-- The PE block has taken effect: a function switched off declares nothing. -/
def peApplied (s : State) : State :=
  let s := if peChkEn (peB s) then s else e73 0 false (modEd (fun e => { e with peLoss := false, peMiss := 0, peSeen := false }) s)
  if npeEn (peB s) then s else e73 1 false (modEd (fun e => { e with npeHigh := false, npeRun := 0 }) s)

/-- EF_COMMIT (R224). -/
def efCommitBody (f : Flight) (s : State) : CmdOut :=
  let p := f.pkt.payload
  let m := u16 0 p
  need (!(m == 0) && decide (m < 2 ^ 13) && rsv 2 2 p && (efPoints m).all (hasPoint s)) stBadParam <|
  takeStored s (efIds m) fun cs =>
  need (!(efPoints m).any (contactorShut s) && !(bit m 0 && (points s).any (contactorShut s))) stState <|
  let old := s
  let s := commitCopies cs s
  let s := ((units 8).filter fun n => bit m (n.1 + 1)).foldl (fun t n => rcdApplied (rcdB old n) n t) s
  let s := recheck (if bit m 0 then peApplied s else s)
  .done s (tApplied s)

def execEfCommit (p : Pkt) (s : State) : Host.Outcome State Fault Refusal := .next (command 0x0510 (sized 4 efCommitBody) p s)

/-- RFLAGS (R225). -/
def rflags (s : State) (n : Fin 8) : Nat :=
  let e := ear s n
  b2n e.dcOp + 2 * b2n e.acOp + 4 * b2n e.wbOp + 8 * b2n e.compOp + 16 * b2n (nvp s n).mismatch +
    32 * b2n (nvp s n).sensorFault + 64 * b2n e.offOk + 128 * b2n (e.tst != 0) + 256 * b2n e.tstFailed +
    512 * b2n (!xchkEn (rcdB s n) || !e.compAvail)

/-- PE_STATUS (R225). -/
def peStatus (s : State) : Nat :=
  b2n s.earthDev.peLoss + 2 * b2n s.earthDev.npeHigh + 4 * b2n (peChkEn (peB s)) + 8 * b2n (npeEn (peB s))

/-- EF_STATUS (R225). -/
def efStatusBody (f : Flight) (s : State) : CmdOut :=
  let p := f.pkt.payload
  match pointOf s (u8 0 p) with
  | none => .fail stBadParam
  | some n =>
    need (rsv 1 3 p) stBadParam <|
    let e := ear s n
    let d := vget e.res 0
    .done s (le 8 (now s) ++ le 1 (pno n) ++ le 1 (if dcPoint s n then e.iso else 0) ++ le 1 (peStatus s) ++ zeros 1 ++
      le 4 (rflags s n) ++ leInt 4 e.offset ++ leInt 4 d.iDc ++ le 4 d.iAc ++ le 4 d.iWb ++ le 4 e.iCalc ++ le 4 e.rIso ++
      le 4 e.rIsoP ++ le 4 e.rIsoN ++ le 4 e.uBus ++ le 4 s.earthDev.uNpe ++ le 8 (nvp s n).tTest)

def execEfStatus (p : Pkt) (s : State) : Host.Outcome State Fault Refusal := .next (command 0x0511 (sized 4 efStatusBody) p s)

/-- EF_TEST (R226): the procedure starts, and the reply follows its end. -/
def efTestBody (f : Flight) (s : State) : CmdOut :=
  let p := f.pkt.payload
  match pointOf s (u8 0 p) with
  | none => .fail stBadParam
  | some n =>
    need (rsv 1 3 p) stBadParam <| need (confirmedOpen s n && (ear s n).tst == 0) stState <|
    .wait (testStart n (some f) s)

def execEfTest (p : Pkt) (s : State) : Host.Outcome State Fault Refusal := .next (command 0x0512 (sized 4 efTestBody) p s)

end Sys2Proof.Machine
end

