-- ==== Sys2Proof/Machine/Keys.lean ====
section
/-!
DEFINITION. The security core K (spec/18_keys_attestation.md): the Chuck (R411), key blobs and certificates (R408 to R413),
authorities proven by credentials (R415 to R417), attestation (R418), known-answer tests (R419), and the commands of R421.
-/

namespace Sys2Proof.Machine

/-! ## The Chuck (R411) -/

/-- E120: KEY_ID, slot, and 0 loaded, 1 removed, 2 lost (R422). -/
def e120 (key slot code : Nat) (s : State) : State := pulse 120 (prm [(4, key), (1, slot), (1, code)]) s

def modSlot (i : Nat) (f : Slot → Slot) (s : State) : State := { s with key.chuck := vatMod s.key.chuck i f }

/-- The slot that holds a key. -/
def slotWith (s : State) (key : Nat) : Option (Fin 64) := (units 64).find? fun i => (vget s.key.chuck i).key == some key

/-- The slot to empty: among slots 2 to 63 not in use, the least recently used. -/
def slotOldest (s : State) : Option (Fin 64) :=
  ((units 64).filter fun i => decide (2 ≤ i.1) && !(vget s.key.chuck i).inUse).foldl (fun a i =>
    match a with
    | none => some i
    | some j => if (vget s.key.chuck i).used < (vget s.key.chuck j).used then some i else some j) none

/-- Load a key into a slot. -/
def slotLoad (i : Fin 64) (key : Nat) (s : State) : State :=
  e120 key i.1 0 (modSlot i.1 (fun _ => { key := some key, used := s.clk.mono }) s)

/-- Empty a slot. -/
def slotEmpty (i : Fin 64) (s : State) : State :=
  match (vget s.key.chuck i).key with
  | some k => e120 k i.1 1 (modSlot i.1 (fun _ => {}) s)
  | none => s

/-- A request names a key: it is found, or loaded into a free slot, or into the least recently used one not in use; none
when all 62 slots are in use (R411). -/
def chuckGet (key : Nat) (s : State) : Option (Fin 64 × State) :=
  match slotWith s key with
  | some i => some (i, modSlot i.1 (fun x => { x with used := s.clk.mono }) s)
  | none =>
    match (units 64).find? fun i => decide (2 ≤ i.1) && (vget s.key.chuck i).key.isNone with
    | some i => some (i, slotLoad i key s)
    | none => (slotOldest s).map fun i => (i, slotLoad i key (slotEmpty i s))

/-- K starts: the Chuck holds the meter key in slot 0 and the attestation key in slot 1, and a known-answer run is due
(R407, R419, R420). -/
def kStart (s : State) : State :=
  slotLoad 1 1 (slotLoad 0 0 { s with key.chuck := Vector.replicate 64 {}, key.waits := [], key.katAt := none, pwr.kRunning := true })

/-! ## Known-answer tests (R419) -/

/-- Algorithm codes of E121 (log entry 10): the tests of R419. -/
def katAlgs : List Nat := List.range 11
/-- ECDSA on brainpoolP384r1. -/
def katBrainpool : Nat := 4

/-- E121: algorithm; set when it fails, cleared when it passes again (R422). -/
def e121 (a : Nat) (failed : Bool) (s : State) : State := level 121 a failed (prm [(1, a)]) s

/-- KAT_RUN (R419): all algorithms at a start of K and every 24 h, those that failed every 10 min. The operand lists the
algorithms that fail now. -/
def execKatRun (fails : List Nat) (s : State) : Host.Outcome State Fault Refusal :=
  let full := s.key.katAt.all fun t => elapsed s t 86400000000
  let again := s.key.kat != [] && elapsed s s.key.retestAt 600000000
  .next (if !s.pwr.kRunning || !(full || again) then s
    else
      let tested := katAlgs.filter fun a => full || s.key.kat.contains a
      let s := { s with
        key.kat := katAlgs.filter fun a => if tested.contains a then fails.contains a else s.key.kat.contains a
        key.katAt := if full then some s.clk.mono else s.key.katAt, key.retestAt := s.clk.mono, pwr.timerDue := false }
      tested.foldl (fun t a => e121 a (fails.contains a) t) s)

/-! ## Time limits -/

/-- NONCE_EXPIRY (R417): 60 s after SEC_CHALLENGE. -/
def execNonceExpiry (s : State) : Host.Outcome State Fault Refusal :=
  .next { s with key.nonces := s.key.nonces.filter fun x => !elapsed s x.t0 60000000 }

/-- GRANT_EXPIRY (R417): 8 h after SEC_PROVE. -/
def execGrantExpiry (s : State) : Host.Outcome State Fault Refusal :=
  .next { s with key.grants := s.key.grants.filter fun g => !elapsed s g.t0 28800000000 }

/-! ## SEC_KEY (R408 to R410, R421) -/

/-- A use allowed with a type: SIGN with the four signature types, AGREE with the curves, the others with AES-256 (R409). -/
def useOk (type use_ : Nat) : Bool :=
  match use_ with
  | 4 => within type 1 4
  | 5 => [1, 2, 4].contains type
  | u => decide (u ≤ 3) && type == 5

/-- Bytes of a public key: an uncompressed point, an Ed448 key, none for AES-256 (R421). -/
def pubLen (type : Nat) : Nat := match type with | 1 => 65 | 2 => 133 | 3 => 57 | 4 => 97 | _ => 0

/-- The public key of a blob. -/
def pubKey (type key : Nat) : List Byte :=
  (List.range (pubLen type)).map fun k => if k = 0 && type != 3 then 0x04 else Config.pubByte key k

/-- The lowest pair of partition slots that holds no blob (R410). -/
def freePair (l : List Blob) : Nat := ((List.range 2048).find? fun k => !(l.any fun b => b.pair == k)).getD 0

/-- A blob held that unwraps: under the test root in the debug state, under the device root otherwise (R408, R420). -/
def blobOf (s : State) (key : Nat) : Option Blob := s.nvKey.blobs.find? fun b => b.keyId == key && b.root == b2n s.key.debug

/-- A key leaves the store; a slot that holds it and is not in use is emptied (R411, R412). -/
def dropKey (key : Nat) (s : State) : State :=
  let s := { s with nvKey.blobs := s.nvKey.blobs.filter fun b => !(b.keyId == key) }
  match slotWith s key with
  | some i => if (vget s.key.chuck i).inUse then s else slotEmpty i s
  | none => s

/-- A copy of a blob no longer unwraps; a blob without a copy that does is treated as deleted, with E120 (R410). Copy k of the blob in
pair p lies in slot 2p + k of the partition (log entry 1801). -/
def blobCopyBad (slot : Nat) (s : State) : State :=
  let hit := fun (b : Blob) => b.pair == slot / 2
  let bs := s.nvKey.blobs.map fun b =>
    if hit b then (if slot % 2 = 0 then { b with bad1 := true } else { b with bad2 := true }) else b
  let lost := bs.filter fun b => b.bad1 && b.bad2
  lost.foldl (fun t b => e120 b.keyId 0xFF 2 t) { s with nvKey.blobs := bs.filter fun b => !(b.bad1 && b.bad2) }

/-- SEC_KEY (R421). -/
def secKeyBody (f : Flight) (s : State) : CmdOut :=
  let p := f.pkt.payload
  let op := u8 0 p
  let type := u8 1 p
  let use_ := u8 2 p
  let key := u32 4 p
  if op = 0 then
    need (useOk type use_ && rsv 3 1 p) stBadParam <|
    needAuth s f 4 <|
    need (decide (s.nvKey.blobs.length < 2048)) stResourceFull <|
    let id := s.nvKey.nextId
    let b : Blob := { keyId := id, type, use := use_, root := b2n s.key.debug, org := 1, created := if s.clk.timeValid then now s else 0,
                      pair := freePair s.nvKey.blobs }
    let pub := pubKey type id
    .done { s with nvKey.blobs := s.nvKey.blobs ++ [b], nvKey.nextId := id + 1 } (le 4 id ++ le 2 pub.length ++ zeros 2 ++ pub)
  else
    need (op == 1 && decide (2 ≤ key) && (blobOf s key).isSome && rsv 3 1 p) stBadParam <|
    needAuth s f 4 <|
    .done (dropKey key s) (le 4 key ++ zeros 4)

def execSecKey (p : Pkt) (s : State) : Host.Outcome State Fault Refusal := .next (command 0x0A01 (sized 8 secKeyBody) p s)

/-! ## Certificates (R413, R416, R421) -/

/-- Indices a role has (R413). -/
def roleSize (role : Nat) : Nat := match role with | 0 => 3 | 1 => 4 | 2 => 8 | 3 => 8 | 4 => 4 | 5 => 4 | 6 => 4 | 7 => 32 | _ => 0

/-- The key algorithm fits the role. -/
def roleAlg (role alg : Nat) : Bool :=
  match role with | 4 => alg == 1 | 5 => alg == 2 | 6 => alg == 3 | 7 => alg == 4 | _ => within alg 1 3

/-- The stored certificate of a role and index. -/
def certAt (s : State) (role i : Nat) : Option Cert := s.nvKey.certs.find? fun c => c.role == role && c.index == i

/-- A complete chain of role 4, 5 or 6: a leaf and at least one sub-CA. -/
def chainComplete (s : State) (role : Nat) : Bool := (certAt s role 0).isSome && (certAt s role 1).isSome

/-- A credential with KEYS exists (R416). -/
def keysCred (s : State) : Bool := s.nvKey.certs.any fun c => c.role == 7 && c.auth.testBit 4

/-- The certificate itself can be stored: it parses, its algorithm fits, and a leaf matches its SIGN key (R413, R421). -/
def certOk (s : State) (role i key : Nat) (der : List Byte) : Bool :=
  match Config.certParse der with
  | none => false
  | some x => roleAlg role x.1 && (!(within role 4 6) || i != 0 ||
      (blobOf s key).any fun b => b.use == 4 && b.type == x.1 && pubKey b.type b.keyId == x.2.1)

/-- The certificate of a role and index is removed; every grant made under a credential ends (R416). -/
def dropCert (role i : Nat) (s : State) : State :=
  { s with
    nvKey.certs := s.nvKey.certs.filter fun c => !(c.role == role && c.index == i)
    key.grants := s.key.grants.filter fun g => !(role == 7 && g.index == i) }

/-- SEC_STORE (R416, R421). -/
def secStoreBody (f : Flight) (s : State) : CmdOut :=
  let p := f.pkt.payload
  let role := u8 0 p
  let i := u8 1 p
  let auth := u8 2 p
  let key := u32 4 p
  let len := u16 8 p
  let der := p.drop 12
  need (decide (12 ≤ p.length) && p.length == 12 + len && decide (len ≤ 2048) && rsv 3 1 p && rsv 10 2 p && within role 1 7 &&
    decide (i < roleSize role) && (role != 7 || decide (auth < 32)) && (len == 0 || certOk s role i key der)) stBadParam <|
  let go : CmdOut :=
    let s := dropCert role i s
    if len = 0 then .done s []
    else
      let c : Cert := { role, index := i, auth := if role = 7 then auth else 0, keyId := if within role 4 6 then key else 0, der }
      .done { s with nvKey.certs := s.nvKey.certs ++ [c] } []
  if role = 7 && len != 0 && auth.testBit 4 && !keysCred s && f.pkt.src == .spi then go else needAuth s f 4 go

def execSecStore (p : Pkt) (s : State) : Host.Outcome State Fault Refusal := .next (command 0x0A02 secStoreBody p s)

/-- SEC_READ (R421). -/
def secReadBody (f : Flight) (s : State) : CmdOut :=
  let p := f.pkt.payload
  need (decide (u8 1 p < roleSize (u8 0 p)) && rsv 2 2 p) stBadParam <|
  match certAt s (u8 0 p) (u8 1 p) with
  | none => .fail stState
  | some c => .done s (le 1 c.auth ++ zeros 1 ++ le 2 c.der.length ++ le 4 c.keyId ++ c.der)

def execSecRead (p : Pkt) (s : State) : Host.Outcome State Fault Refusal := .next (command 0x0A03 (sized 4 secReadBody) p s)

/-! ## Credentials (R417) -/

/-- SEC_CHALLENGE (R417): one nonce for each source. -/
def secChallengeBody (f : Flight) (s : State) : CmdOut :=
  let n := rands 32 s
  let x : Nonce := { src := f.pkt.src, nonce := n, t0 := s.clk.mono }
  .done { drawn 32 s with key.nonces := x :: s.key.nonces.filter fun y => !(y.src == f.pkt.src) } n

def execSecChallenge (p : Pkt) (s : State) : Host.Outcome State Fault Refusal := .next (command 0x0A04 (sized 0 secChallengeBody) p s)

/-- The credential with a subject key identifier that has not expired (R416). -/
def credOf (s : State) (ski : List Byte) : Option (Cert × List Byte) :=
  s.nvKey.certs.findSome? fun c =>
    if c.role == 7 then
      match Config.certParse c.der with
      | some x => if x.2.2.1 == ski && (!s.clk.timeValid || within (now s) x.2.2.2.1 x.2.2.2.2) then some (c, x.2.1) else none
      | none => none
    else none

/-- The authorities a source holds, as a mask (R414, R415). -/
def authMask (s : State) (src : Source) : Nat := ((List.range 5).map fun b => if holds s src b then 2 ^ b else 0).sum

/-- SEC_PROVE (R417, R419): the nonce serves one SEC_PROVE; a ninth grant replaces the oldest; no signature verifies while the algorithm
has failed its test. -/
def secProveBody (f : Flight) (s : State) : CmdOut :=
  let p := f.pkt.payload
  let ski := slice 0 20 p
  let src := f.pkt.src
  let used := { s with key.nonces := s.key.nonces.filter fun y => !(y.src == src) }
  match credOf s ski with
  | none => .failed used stDenied
  | some (c, pub) =>
    match s.key.nonces.find? fun y => y.src == src && decide (s.clk.mono < y.t0 + 60000000) with
    | none => .failed used stState
    | some y =>
      let msg := y.nonce ++ le 8 Config.serial.toNat ++ le 1 (Source.ident src) ++ ski
      if !s.key.kat.contains katBrainpool && Config.ecdsaVerify pub msg (slice 20 96 p) then
        let s := { used with key.grants := ({ src, auth := c.auth, index := c.index, t0 := s.clk.mono } :: s.key.grants).take 8 }
        .done s (le 1 (authMask s src) ++ zeros 3)
      else .failed used stDenied

def execSecProve (p : Pkt) (s : State) : Host.Outcome State Fault Refusal := .next (command 0x0A05 (sized 116 secProveBody) p s)

/-! ## Signatures and attestation (R134, R418, R420) -/

/-- A signature by the key in fixed slot 0 or 1, and the state with the draw of its nonce made; in the debug state the key
derives from the test root (R420). -/
def signWith (key : Nat) (msg : List Byte) (s : State) : State × List Byte :=
  (modSlot key (fun x => { x with used := s.clk.mono }) (drawn 1 s),
    be 96 (Config.ecdsaSign (if s.key.debug then 2 ^ 32 + key else key) s.clk.free msg).toNat)

/-- Bytes 0 to 295 of an attestation statement (R418). -/
def statement (s : State) (nonce : List Byte) : List Byte :=
  let a := activeSet s
  le 1 1 ++ le 1 (b2n s.key.debug + 2 * b2n s.key.debug + 4 * b2n (!s.clk.timeValid) + 8 * b2n (s.key.kat != [])) ++ zeros 2 ++
    le 4 a.fwVer ++ le 4 a.metVer ++ le 4 s.upd.secVer ++ le 8 Config.serial.toNat ++ le 8 (now s) ++ fit 32 nonce ++
    fit 48 s.key.bootHash ++ fit 48 s.key.optHash ++ fit 48 s.key.manHash ++ fit 48 s.key.metHash ++
    (units 8).flatMap (fun n => le 4 (if hasPoint s n then (saf s n).check else 0)) ++ le 4 s.tail.cold ++ zeros 4

/-- SEC_ATTEST (R418, R419). -/
def secAttestBody (f : Flight) (s : State) : CmdOut :=
  need (!s.key.kat.contains katBrainpool && s.pwr.kRunning) stState <|
  let b := statement s f.pkt.payload
  let r := signWith 1 b s
  .done r.1 (b ++ r.2)

def execSecAttest (p : Pkt) (s : State) : Host.Outcome State Fault Refusal := .next (command 0x0A06 (sized 32 secAttestBody) p s)

end Sys2Proof.Machine
end

