-- ==== Sys2Proof/Machine/Session.lean ====
section
/-!
DEFINITION. Authorisation and the stop of a session, as the reader, the vehicle and the host meet them: lists (R290), the
decision flow of R291 to R294, and SES_STOP MODE 0 (R189).
-/

namespace Sys2Proof.Machine

/-! ## Stopping a session (R189) -/

/-- The exchange held for the host ends FAILED (R181): no answer bytes. -/
def certFail (n : Fin 8) (s : State) : State :=
  modHlc n (fun h => { h with cert := none, certResp := [], certTot := 0, certAns := [] }) s

/-- A high-level session speaks with the vehicle. -/
def hlcRuns (s : State) (n : Fin 8) : Bool := (hl s n).active && !(hl s n).failed && sessRuns s n

/-- SES_STOP MODE 0 (R189): a high-level session signals the stop to the vehicle; otherwise the session ends at once. -/
def stopSession (n : Fin 8) (s : State) : State :=
  let s := if (hl s n).cert.isSome then certFail n s else s
  if hlcRuns s n && (hl s n).slac == 5 && (ses s n).ending.isNone then
    modSess n (fun x => { x with hostStop := some (x.hostStop.getD s.clk.mono) }) s
  else endNow n .hostStop s

/-! ## Local lists (R290) -/

/-- The key of an entry (R290). -/
def LEntry.key (e : LEntry) : Nat × Nat × Nat × List Byte := (e.list, e.type, e.len, e.id)

/-- The deny list holds the identifier. -/
def denied (s : State) (type : Nat) (id : List Byte) : Bool :=
  s.lists.active.any fun e => e.key == (1, type, id.length, fit 16 id)

/-- The allow entry that holds the identifier on the point, unexpired. -/
def allowed (s : State) (n : Fin 8) (type : Nat) (id : List Byte) : Option LEntry :=
  s.lists.active.find? fun e => e.key == (0, type, id.length, fit 16 id) && bit e.points n.1 && (e.expiry == 0 || decide (now s ≤ e.expiry))

/-! ## The decision flow (R291 to R294) -/

/-- A decision is made (R294): E98; the answer to a contract's Authorization request follows it (R182). -/
def decision (n : Fin 8) (code type : Nat) (s : State) : State :=
  let s := pulse 98 (prm [(1, pno n), (1, code), (1, type)]) s
  if type = 3 then modHlc n (fun h => { h with authAns := if code ≤ 2 then 2 else 3 }) s else s

/-- A request to the host is raised: E97 for a card, E55+n with KIND 2 for an EMAID, whose HOST_T counts from the first
Authorization request (R182, R292, R201). -/
def raiseReq (n : Fin 8) (type : Nat) (id : List Byte) (card : Bool) (ant : Nat) (s : State) : State :=
  let b := authB s n
  let t0 := if card then s.clk.mono else (hl s n).authAt.getD s.clk.mono
  let s := modSess n (fun x => { x with req := some { type, id, t0, hostT := hostT b, card, ant, offline := offlineAccept b } }) s
  if card then pulse 97 (prmId [(1, pno n), (1, type)] id) s else pulse (56 + n.1) (prmId [(1, 2)] (fit 15 id)) s

/-- One identifier in the flow of a point (R291). -/
def decide1 (n : Fin 8) (type : Nat) (id : List Byte) (card : Bool) (ant : Nat) (s : State) : State :=
  let x := ses s n
  let m := authMode (authB s n)
  if x.bound then
    if card && x.type == type && x.id == id && stopByCard (authB s n) then decision n 8 type (stopSession n s) else decision n 7 type s
  else if refusesAuth s n then decision n 7 type s
  else if denied s type id then decision n 3 type s
  else if m = 0 then decision n 0 type (bindAuth n type id false 0 0 0 s)
  else match (if m = 3 then none else allowed s n type id) with
    | some e => decision n 0 type (bindAuth n type id (bit e.eflags 0) 0 0 0 s)
    | none => if m = 1 then decision n 4 type s else raiseReq n type id card ant s

/-- The identifiers that waited are handled in turn, until one keeps the flow busy (R291). -/
def flowDrain (n : Fin 8) : List (Nat × List Byte × Bool × Nat) → State → State
  | [], s => s
  | w :: ws, s =>
    if (ses s n).req.isSome then modSess n (fun x => { x with waiting := w :: ws }) s
    else flowDrain n ws (decide1 n w.1 w.2.1 w.2.2.1 w.2.2.2 (modSess n (fun x => { x with waiting := ws }) s))

/-- The flow goes on to what waits. -/
def flowNext (n : Fin 8) (s : State) : State := flowDrain n (ses s n).waiting s

/-- An identifier enters the flow of a point: it is decided, or waits while the flow is busy (R291). -/
def enterFlow (n : Fin 8) (type : Nat) (id : List Byte) (card : Bool) (ant : Nat) (s : State) : State :=
  if !appUp s then s
  else if (ses s n).req.isSome then modSess n (fun x => { x with waiting := x.waiting ++ [(type, id, card, ant)] }) s
  else flowNext n (decide1 n type id card ant s)

/-- The pending request ends with a refusal (R287, R291, R292). -/
def refuseReq (n : Fin 8) (code : Nat) (s : State) : State :=
  match (ses s n).req with
  | some r => decision n code r.type (modSess n (fun x => { x with req := none }) s)
  | none => s

/-- HOST_DECISION_TIMEOUT (R291): HOST_T has passed without the host's answer. -/
def execHostDecisionTimeout (n : Fin 8) (s : State) : Host.Outcome State Fault Refusal :=
  .next (match (ses s n).req with
    | some r =>
      if !elapsed s r.t0 (r.hostT * 1000000) || !appUp s then s
      else if r.offline then flowNext n (decision n 2 r.type (bindAuth n r.type r.id false 0 0 0 s))
      else flowNext n (refuseReq n 6 s)
    | none => s)

/-- BIND_LAPSE (R294): BIND_T after a binding, state A is still accepted; the session closes as UNPLUGGED. -/
def execBindLapse (n : Fin 8) (s : State) : Host.Outcome State Fault Refusal :=
  let x := ses s n
  .next (if x.bound && appUp s && inA s n && elapsed s x.boundAt (bindT (authB s n) * 1000000) && (sep s n).closing.isNone then
    let s := decision n 9 x.type s
    if sessRuns s n then endNow n .unplugged s
    else modSess n (fun x => { x with bound := false, type := 0, id := [], bpt := false, wantOpen := false }) s
  else s)

end Sys2Proof.Machine
end

