-- ==== Sys2Proof/Machine/Reader.lean ====
section
/-!
DEFINITION. The card and phone reader (spec/12_authorisation_reader.md): pings and baselines (R281, R282), polls and the
identifiers they read (R283 to R288), the antenna self-test (R289), and the commands of R296 to R299. Amplitudes are in
millionths of the antenna's nominal value (log entry 1201).
-/

namespace Sys2Proof.Machine

def modAnt (k : Fin 8) (f : Ant → Ant) (s : State) : State := { s with rdr.ant := vmod s.rdr.ant k f }
def modNvAnt (k : Fin 8) (f : NvAnt → NvAnt) (s : State) : State := { s with lists.ants := vmod s.lists.ants k f }
def ant (s : State) (k : Fin 8) : Ant := vget s.rdr.ant k
def nvAnt (s : State) (k : Fin 8) : NvAnt := vget s.lists.ants k

/-- Without a valid block 0x0700 no antenna is driven; an antenna of an absent point is not used (R5, R295). -/
def antUsed (s : State) (k : Fin 8) : Bool := (committed s 0x0700).isSome && antEn (rdrB s) k.1 && hasPoint s k

/-- T runs and drives its front ends, which stop while the 27.12 MHz clock fails (R281, R441, R459). -/
def rdrRuns (s : State) : Bool := s.pwr.phase == .run && s.pwr.tRunning && !vget s.pwr.clkFault 4

/-- A poll runs on an antenna of the front end of antenna `k` (R279). -/
def frontBusy (s : State) (k : Fin 8) : Bool := (units 8).any fun j => j.1 / 2 == k.1 / 2 && (ant s j).poll.isSome

/-- The front end of an antenna drives it: NFCn_ASEL is high for the one of even number (R279). -/
def selectAnt (k : Fin 8) (s : State) : State :=
  { s with rdr.asel := vset s.rdr.asel ⟨k.1 / 2, by omega⟩ (k.1 % 2 == 1) }

/-! ## Pings (R281, R282) -/

/-- Time between pings of an antenna, ms (R281). -/
def pingPeriod (s : State) : Nat := if s.pwr.pstate = .watch then pingTWatch (rdrB s) else pingT (rdrB s)

/-- E101: antenna, cause 0 formed, 1 reused, 2 re-formed (R300). -/
def e101 (k : Fin 8) (cause : Nat) (s : State) : State := pulse 101 (prm [(1, pno k), (1, cause)]) s

/-- A ping of amplitude `a` detects: against the baseline by DET_THR, without one by 15 % of the nominal value (R281, R282). -/
def pingDetects (s : State) (k : Fin 8) (a : Nat) : Bool :=
  match (ant s k).base with
  | some b => decide (detThr (rdrB s) * b < ((a : Int) - b).natAbs * 1000)
  | none => decide (150000 < ((a : Int) - 1000000).natAbs)

/-- A ping that does not detect: the baseline tracks it, or is formed by the first 8 (R282). -/
def quietPing (k : Fin 8) (a : Nat) (s : State) : State :=
  let x := ant s k
  match x.base with
  | some b => modAnt k (fun x => { x with base := some ((b : Int) + conv ((a : Int) - b) 16).toNat, noTgt := 0 }) s
  | none =>
    let l := a :: x.fst0
    if l.length < 8 then modAnt k (fun x => { x with fst0 := l, noTgt := 0 }) s
    else e101 k 0 (modAnt k (fun x => { x with base := some (convN l.sum 8), fst0 := [], noTgt := 0, reused := false }) s)

/-- A detection starts a poll, continues or begins the presentation, and in WATCH wakes the application cluster (R283, R288,
R293). -/
def detection (k : Fin 8) (s : State) : State :=
  wake 2 (modAnt k (fun x => { x with
    poll := some s.clk.mono, pollIds := [], pollTg := 0, pollDone := false
    pres := { (if elapsed s x.pres.detAt 3000000 then {} else x.pres) with detAt := s.clk.mono, on := true } }) s)

/-- ANTENNA_PING (R281, R282): once in every ping period; a poll on the front end delays it (R279). -/
def execAntennaPing (k : Fin 8) (amp : Nat) (s : State) : Host.Outcome State Fault Refusal :=
  .next (if rdrRuns s && antUsed s k && !(ant s k).fault && !frontBusy s k &&
      ((ant s k).lastPing == 0 || elapsed s (ant s k).lastPing (pingPeriod s * 1000)) then
    let d := pingDetects s k amp
    let s := selectAnt k (modAnt k (fun x => { x with last := amp, lastPing := max 1 s.clk.mono }) s)
    if d then detection k s else quietPing k amp s
  else s)

/-- PRESENTATION_END (R288): 3 s without a detection. -/
def execPresentationEnd (k : Fin 8) (s : State) : Host.Outcome State Fault Refusal :=
  .next (if (ant s k).pres.on && elapsed s (ant s k).pres.detAt 3000000 then modAnt k (fun x => { x with pres := {} }) s else s)

/-- BASELINE_STORE (R282): A_base and the die temperature are written, every 10 min. -/
def execBaselineStore (s : State) : Host.Outcome State Fault Refusal :=
  .next (if rdrRuns s && elapsed s s.rdr.storeAt 600000000 then
    (units 8).foldl (fun t k => match (ant t k).base with
      | some b => modNvAnt k (fun x => { x with base := some (b, t.pwr.dieTemp) }) t
      | none => t) { s with rdr.storeAt := s.clk.mono }
  else s)

/-! ## The poll (R283 to R286) -/

/-- The bits of a UID as anticollision sends them: cascade tags before the parts of a longer UID, each byte least significant
bit first (R285). -/
def uidBits (u : List Byte) : List Bool :=
  let b := if u.length = 4 then u
    else if u.length = 7 then 0x88 :: (u.take 3 ++ u.drop 3)
    else 0x88 :: (u.take 3 ++ 0x88 :: u.drop 3)
  b.flatMap fun x => (List.range 8).map fun i => x.getLsbD i

/-- The 0-branch comes first (R285). -/
def bitsBefore : List Bool → List Bool → Bool
  | a :: as, b :: bs => if a = b then bitsBefore as bs else b
  | _, _ => true

/-- A target takes its place in the order of the walk. -/
def walkInsert (t : ATgt) : List ATgt → List ATgt
  | [] => [t]
  | x :: xs => if bitsBefore (uidBits t.uid) (uidBits x.uid) then t :: x :: xs else x :: walkInsert t xs

/-- The targets one walk reads, in the order of its branches (R285). -/
def walk (ts : List ATgt) : List ATgt := ts.foldl (fun l t => walkInsert t l) []

/-- The SELECT frames that read a target, one for each cascade level: 0x93, 0x95 or 0x97, NVB 0x70, four bytes and their check byte
(R285). -/
def selectFrames (u : List Byte) : List (List Byte) :=
  let b := if u.length = 4 then u
    else if u.length = 7 then 0x88 :: (u.take 3 ++ u.drop 3)
    else 0x88 :: (u.take 3 ++ 0x88 :: u.drop 3)
  (List.range (b.length / 4)).map fun i =>
    let x := slice (4 * i) 4 b
    le 1 (0x93 + 2 * i) ++ le 1 0x70 ++ x ++ [x.foldl (· ^^^ ·) 0]

/-- The type A targets read: the walk, then its repeat (R285, R286). -/
def readA (ts : List ATgt) : List ATgt :=
  let ok := ts.filter fun t => [4, 7, 10].contains t.uid.length
  walk (ok.filter fun t => t.walk == 0) ++ walk (ok.filter fun t => t.walk == 1)

/-- A single-size UID whose first byte is 0x08 is RANDOM (R284). -/
def isRandom (u : List Byte) : Bool := u.length == 4 && u.head? == some 0x08

/-- A target as read: AUTH_TYPE, identifier, RANDOM, ISO/IEC 14443-4. -/
abbrev Tgt := Nat × List Byte × Bool × Bool

/-- The targets of each type (R284). -/
def tgtA (t : ATgt) : Tgt := (1, t.uid, isRandom t.uid, t.iso4)
def tgtB (t : List Byte × Bool) : Tgt := (1, t.1, false, t.2)
def tgtV (t : List Byte) : Tgt := (2, t, false, false)

/-- The targets of a poll, at most 8; a disabled type skips its step (R283, R284). -/
def targets (b : List Byte) (x : PollIn) : List Tgt :=
  ((if rdrBit b 0 then (readA x.a).map tgtA else []) ++
    (if rdrBit b 1 then (x.b.filter fun (t : List Byte × Bool) => t.1.length == 4).map tgtB else []) ++
    (if rdrBit b 2 then (x.v.filter fun (t : List Byte) => t.length == 8).map tgtV else [])).take 8

/-- Step 6 runs with exactly one ISO/IEC 14443-4 target, and yields an identifier of 1 to 16 bytes (R283, R284). -/
def appId (b : List Byte) (ts : List Tgt) (x : PollIn) : Option (List Byte) :=
  if appEn b && (ts.filter fun t => t.2.2.2).length == 1 then x.app.filter fun d => within d.length 1 16 else none

/-- What enters the count of R284: the targets' identifiers, with that of step 6 in the place of its target's. -/
def pollIdents (b : List Byte) (x : PollIn) : List (Nat × List Byte × Bool) :=
  let ts := targets b x
  match appId b ts x with
  | some d => (ts.filter fun t => !t.2.2.2).map (fun t => (t.1, t.2.1, t.2.2.1)) ++ [(4, d, false)]
  | none => ts.map fun t => (t.1, t.2.1, t.2.2.1)

/-- Every identifier read, in the order of reading. -/
def pollReads (b : List Byte) (x : PollIn) : List (Nat × List Byte × Bool) :=
  let ts := targets b x
  ts.map (fun t => (t.1, t.2.1, t.2.2.1)) ++ (match appId b ts x with | some d => [(4, d, false)] | none => [])

/-- An identifier is read: E96 unless it belongs to the presentation; the last one is shown by RDR_STATUS (R288, R298, R300). -/
def identRead (k : Fin 8) (r : Nat × List Byte × Bool) (s : State) : State :=
  let s := modAnt k (fun x => { x with lastType := r.1, lastId := r.2.1, tLast := now s }) s
  if (ant s k).pres.ids.contains (r.1, r.2.1) then s
  else pulse 96 (prmId [(1, pno k), (1, r.1), (1, b2n r.2.2)] r.2.1) s

/-- The poll on an antenna is over. -/
def pollOver (k : Fin 8) (s : State) : State := modAnt k (fun x => { x with poll := none, pollIds := [], pollTg := 0, pollDone := false }) s

/-- POLL (R283): steps 1 to 6. An external carrier for 1 s in total abandons the poll with E103. The rate of the application read is
at most MAX_RATE (R280). -/
def execPoll (k : Fin 8) (x : PollIn) (s : State) : Host.Outcome State Fault Refusal :=
  let b := rdrB s
  .next (if !(rdrRuns s && (ant s k).poll.isSome && !(ant s k).pollDone) then s
    else
      let s := modAnt k (fun y => { y with ext := decide (0 < x.ext) }) s
      if 1000000 ≤ x.ext then pulse 103 (prm [(1, pno k)]) (pollOver k (modAnt k (fun y => { y with noTgt := 0 }) s))
      else
        modAnt k (fun y => { y with
            pollIds := pollIdents b x, pollTg := (targets b x).length, pollDone := true
            sel := if rdrBit b 0 then (readA x.a).flatMap fun t => selectFrames t.uid else []
            rate := if (appId b (targets b x) x).isSome then min (maxRate b) x.rate else y.rate })
          ((pollReads b x).foldl (fun t r => identRead k r t) s))

/-! ## The end of a poll (R282, R287, R288) -/

/-- Four detections in a row whose polls found no target: the present amplitude becomes the baseline (R282). -/
def countTargets (k : Fin 8) (s : State) : State :=
  let x := ant s k
  if 0 < x.pollTg then modAnt k (fun x => { x with noTgt := 0 }) s
  else if x.noTgt + 1 < 4 then modAnt k (fun x => { x with noTgt := x.noTgt + 1 }) s
  else e101 k 2 (modAnt k (fun x => { x with base := some x.last, fst0 := [], noTgt := 0, reused := false }) s)

/-- The antenna of another point on which the same identifier was read within 500 ms (R287). -/
def readElsewhere (s : State) (k : Fin 8) (type : Nat) (id : List Byte) : Option (Nat × List Byte × Nat × Nat) :=
  s.rdr.recent.find? fun r => r.1 == type && r.2.1 == id && r.2.2.1 != k.1 && decide (s.clk.mono ≤ r.2.2.2 + 500000)

/-- AMBIGUOUS (R287): the decision on the earlier read, in progress or still waiting for the flow, ends as REFUSED_STATE. -/
def ambiguous (k : Fin 8) (j : Fin 8) (type : Nat) (id : List Byte) (s : State) : State :=
  let s := pulse 99 (prm [(1, pno k), (1, 1), (4, 1)]) s
  let hit := (ses s j).req.any fun r => r.card && r.type == type && r.id == id
  let mine := fun (w : Nat × List Byte × Bool × Nat) => w.1 == type && w.2.1 == id && w.2.2.1
  let s := if (ses s j).waiting.any mine then decision j 7 type s else s
  let s := modSess j (fun x => { x with waiting := x.waiting.filter fun w => !mine w }) s
  if hit then flowNext j (refuseReq j 7 s) else s

/-- What an ended poll brings into the flow (R287, R288). -/
def pollFlow (k : Fin 8) (ids : List (Nat × List Byte × Bool)) (old : List (Nat × List Byte)) (s : State) : State :=
  let l := ((ids.filter fun r => !r.2.2).map fun r => (r.1, r.2.1)).eraseDups
  if l.all fun r => old.contains r then s
  else match l with
    | [r] => match readElsewhere s k r.1 r.2 with
      | some e => match ix 8 e.2.2.1 with
        | some j => ambiguous k j r.1 r.2 s
        | none => s
      | none => enterFlow k r.1 r.2 true k.1 s
    | _ => pulse 99 (prm [(1, pno k), (1, 0), (4, l.length)]) s

/-- POLL_END (R282, R287, R291). -/
def execPollEnd (k : Fin 8) (s : State) : Host.Outcome State Fault Refusal :=
  let x := ant s k
  .next (if !(x.poll.isSome && x.pollDone) then s
    else
      let old := x.pres.ids
      let ids := x.pollIds.map fun r => (r.1, r.2.1)
      let s := pollOver k (countTargets k s)
      let s := modAnt k (fun y => { y with pres := { y.pres with ids := (y.pres.ids ++ ids).eraseDups } }) s
      let s := pollFlow k x.pollIds old s
      { s with rdr.recent := (x.pollIds.map fun r => (r.1, r.2.1, k.1, s.clk.mono)) ++
          s.rdr.recent.filter fun r => decide (s.clk.mono ≤ r.2.2.2 + 500000) })

/-! ## Antenna self-test (R289, R299, R508) -/

/-- The driver limits of the antenna current, mA (R289, R508). -/
def driverOk (ma : Nat) : Bool := within ma 40 250

/-- A self-test passes against a reference, or without one against the driver limits (R289). -/
def selfPass (r : Option (Nat × Int)) (ma : Nat) (phase : Int) : Bool :=
  match r with
  | some x => decide (x.1 * 60 ≤ ma * 100) && decide (ma * 100 ≤ x.1 * 140) && decide ((phase - x.2).natAbs ≤ 300)
  | none => driverOk ma

/-- ANT_FAULT follows a self-test, with E100 (R289, R300). -/
def setAntFault (k : Fin 8) (bad : Bool) (ma : Nat) (phase : Int) (s : State) : State :=
  level 100 k.1 bad (prm [(1, pno k), (2, ma), (2, i2n 2 phase)]) (modAnt k (fun x => { x with fault := bad, selfAt := max 1 s.clk.mono }) s)

/-- The reply of RDR_SELFTEST. -/
def selfReply (pass : Bool) (ma : Nat) (phase : Int) : List Byte := le 1 (b2n (!pass)) ++ zeros 1 ++ le 2 ma ++ leInt 2 phase ++ zeros 2

/-- The self-test of an antenna is due: 10 min after the last, or for RDR_SELFTEST (R289, R299). -/
def selfDue (s : State) (k : Fin 8) : Bool :=
  (ant s k).stCmd.isSome || (ant s k).selfAt == 0 || elapsed s (ant s k).selfAt 600000000

/-- ANTENNA_SELFTEST (R289, R299): between pings, while its front end does not poll; a waiting RDR_SELFTEST is answered. -/
def execAntennaSelftest (k : Fin 8) (ma : Nat) (phase : Int) (s : State) : Host.Outcome State Fault Refusal :=
  let s := if rdrRuns s && antUsed s k && !frontBusy s k then selectAnt k s else s
  .next (if !(rdrRuns s && antUsed s k && !frontBusy s k && selfDue s k) then s
    else match (ant s k).stCmd with
      | none => setAntFault k (!selfPass (nvAnt s k).ref ma phase) ma phase s
      | some f =>
        let s := modAnt k (fun x => { x with stCmd := none }) s
        let rcd := u8 1 f.pkt.payload == 1
        if rcd && !driverOk ma then complete f stState [] s
        else
          let s := if rcd then modNvAnt k (fun x => { x with ref := some (ma, phase) }) s else s
          let ok := selfPass (nvAnt s k).ref ma phase
          finish f (selfReply ok ma phase) (setAntFault k (!ok) ma phase s))

/-- RDR_SELFTEST (R298, R299). -/
def rdrSelftestBody (f : Flight) (s : State) : CmdOut :=
  let p := f.pkt.payload
  match pointOf s (u8 0 p) with
  | none => .fail stBadParam
  | some k =>
    need (decide (u8 1 p ≤ 1) && rsv 2 2 p) stBadParam <| need (antUsed s k) stState <| need (ant s k).stCmd.isNone stBusy <|
    .wait (modAnt k (fun x => { x with stCmd := some f }) s)

def execRdrSelftest (p : Pkt) (s : State) : Host.Outcome State Fault Refusal := .next (command 0x0706 (sized 4 rdrSelftestBody) p s)

/-! ## Settings, lists and status (R296 to R298) -/

/-- The blocks and points MASK of AUTH_COMMIT names (R296). -/
def authPoints (m : Nat) : List (Fin 8) := (units 8).filter fun n => bit m (n.1 + 1)

/-- AUTH_COMMIT (R296): the blocks wait for the end of any poll in progress. -/
def authCommitBody (f : Flight) (s : State) : CmdOut :=
  let p := f.pkt.payload
  let m := u16 0 p
  need (m != 0 && decide (m < 2 ^ 9) && rsv 2 2 p && (authPoints m).all (hasPoint s)) stBadParam <|
  takeStored s ((if bit m 0 then [0x0700] else []) ++ (authPoints m).map fun n => 0x0701 + n.1) fun cs =>
  need (waitingCommit s 0x0701).isNone stBusy <| .wait (take f cs s)

def execAuthCommit (p : Pkt) (s : State) : Host.Outcome State Fault Refusal := .next (command 0x0701 (sized 4 authCommitBody) p s)

/-- AUTH_COMMIT_APPLY (R296): no poll is in progress. -/
def execAuthCommitApply (s : State) : Host.Outcome State Fault Refusal :=
  .next (match waitingCommit s 0x0701 with
    | none => s
    | some f =>
      if (units 8).any fun k => (ant s k).poll.isSome then s
      else
        let s := commitCopies (takenBy s f) s
        finish f (tApplied s) (untake f s))

/-- A list entry of 32 bytes (R290). -/
def entryOf (b : List Byte) : LEntry :=
  { type := u8 0 b, len := u8 1 b, list := u8 2 b, points := u8 3 b, eflags := u32 4 b, id := slice 8 16 b, expiry := u64 24 b }

/-- The fields of an entry's key are in range, and the identifier is padded with zeros. -/
def keyOk (e : LEntry) : Bool := within e.type 1 4 && within e.len 1 16 && decide (e.list ≤ 1) && allZero (e.id.drop e.len)

/-- The entries of AUTH_LIST_WRITE. -/
def entriesOf (p : List Byte) : List LEntry := (List.range (u16 2 p)).map fun i => entryOf (slice (4 + 32 * i) 32 p)

/-- The other fields of an entry to add are in range: an allow entry names no absent point (R2, R290, R297). -/
def entryOk (s : State) (e : LEntry) : Bool := e.list == 1 || decide (e.points < 2 ^ s.member.points)

/-- Entries of the two lists together (R290). -/
def listCap : Nat := 65536

/-- Entries are added until one does not fit (R297): the staged entries, and whether all were added. -/
def addEntries : List LEntry → List LEntry → List LEntry × Bool
  | [], l => (l, true)
  | e :: es, l =>
    if l.any fun x => x.key == e.key then addEntries es (l.map fun x => if x.key == e.key then e else x)
    else if l.length < listCap then addEntries es (l ++ [e])
    else (l, false)

/-- AUTH_LIST_WRITE (R296, R297). -/
def authListWriteBody (f : Flight) (s : State) : CmdOut :=
  let p := f.pkt.payload
  let op := u8 0 p
  let es := entriesOf p
  let reply := fun (t : State) => CmdOut.done t (le 4 t.lists.staging.length)
  need (decide (4 ≤ p.length) && decide (op ≤ 3) && rsv 1 1 p && decide (u16 2 p ≤ 500) && p.length == 4 + 32 * u16 2 p &&
    (decide (2 ≤ op) || u16 2 p == 0) && es.all keyOk && (es.all fun e => onlyBits e.eflags 1) && (op != 2 || es.all (entryOk s))) stBadParam <|
  if op = 0 then reply { s with lists.staging := [] }
  else if op = 1 then reply { s with lists.staging := s.lists.active }
  else if op = 3 then reply { s with lists.staging := s.lists.staging.filter fun x => !(es.any fun e => e.key == x.key) }
  else
    let r := addEntries es s.lists.staging
    let s := { s with lists.staging := r.1 }
    if r.2 then reply s else .failed s stListFull

def execAuthListWrite (p : Pkt) (s : State) : Host.Outcome State Fault Refusal := .next (command 0x0702 authListWriteBody p s)

/-- Active allow and deny entries. -/
def nAllow (s : State) : Nat := (s.lists.active.filter fun e => e.list == 0).length
def nDeny (s : State) : Nat := (s.lists.active.filter fun e => e.list == 1).length

/-- AUTH_LIST_COMMIT (R290, R297): the staging bank becomes the active one, and is copied back. -/
def authListCommitBody (f : Flight) (s : State) : CmdOut :=
  let v := u32 0 f.pkt.payload
  let s := { s with lists.active := s.lists.staging, lists.ver := v, lists.gen := (s.lists.gen + 1) % 2 ^ 32 }
  .done (pulse 102 (prm [(4, v), (4, nAllow s), (4, nDeny s)]) s) (le 4 (nAllow s) ++ le 4 (nDeny s))

def execAuthListCommit (p : Pkt) (s : State) : Host.Outcome State Fault Refusal := .next (command 0x0703 (sized 4 authListCommitBody) p s)

/-- STATE of RDR_STATUS (R298). -/
def antState (s : State) (k : Fin 8) : Nat :=
  let x := ant s k
  if !(antUsed s k && rdrRuns s) then 0 else if x.fault then 4 else if x.poll.isSome then 3 else if x.base.isNone then 1 else 2

/-- RDR_STATUS (R298). -/
def rdrStatusBody (f : Flight) (s : State) : CmdOut :=
  let p := f.pkt.payload
  match pointOf s (u8 0 p) with
  | none => .fail stBadParam
  | some k =>
    need (rsv 1 3 p) stBadParam <|
    let x := ant s k
    let r := b2n x.fault + 2 * b2n x.ext + 4 * b2n x.reused + 8 * b2n (ses s k).req.isSome + 16 * b2n (nvAnt s k).ref.isNone
    .done s (le 8 (now s) ++ le 1 (pno k) ++ le 1 (antState s k) ++ le 2 r ++ le 2 (convN (x.base.getD 0) 1000) ++
      le 2 (convN x.last 1000) ++ le 1 x.lastType ++ le 1 x.lastId.length ++ zeros 2 ++ fit 16 x.lastId ++ le 8 x.tLast ++
      le 4 s.lists.ver ++ le 4 (nAllow s) ++ le 4 (nDeny s))

def execRdrStatus (p : Pkt) (s : State) : Host.Outcome State Fault Refusal := .next (command 0x0705 (sized 4 rdrStatusBody) p s)

end Sys2Proof.Machine
end

