-- ==== Sys2Proof/Machine/Hlc.lean ====
section
/-!
DEFINITION. High-level communication (spec/08_high_level_communication.md): modems (R173), SLAC (R174, R175), the protocols'
requests (R176 to R184), the DC sequence (R187), failures (R188 to R190) and the session commands (R192 to R195, R200). The
vehicle's messages are the operands; the power stage's CAN frames are in Machine/Can.lean.
-/

namespace Sys2Proof.Machine

/-! ## What runs -/

/-- The engine that serves a point's modem, and the application side, run (R171, R190). -/
def vehUp (s : State) (n : Fin 8) : Bool := hasPoint s n && appUp s && vget s.pwr.pRunning (if n.1 < 4 then 0 else 1)

/-- The vehicle's messages are heard: SLAC has matched (R176). -/
def linked (s : State) (n : Fin 8) : Bool := vehUp s n && hlcRuns s n && (hl s n).slac == 5

/-- The protocol is chosen and setup is complete. -/
def talks (s : State) (n : Fin 8) : Bool := linked s n && (hl s n).proto != 0

/-- A request of the vehicle arrives (R188). -/
def touch (n : Fin 8) (s : State) : State := modHlc n (fun h => { h with lastReq := s.clk.mono }) s

/-- A high-level session runs on the point, for R190: not a session in basic mode. -/
def highLevel (s : State) (n : Fin 8) : Bool := hlcRuns s n && !(hl s n).fallback

/-- The transmit power spectral density of a modem with the reference coupling network, 0.01 dBm/Hz: TX_ATTEN lowers −75 dBm/Hz in
steps of 0.5 dB (R172). -/
def txPsd (s : State) (n : Fin 8) : Int := -7500 - 50 * (txAtten (hlcB s n) : Int)

/-! ## Failure of a high-level session (R163, R190) -/

/-- The high-level session fails, with the cause of KIND 7 (0 timeout, 1 TCP, 2 TLS, 3 message, 4 modem) and the END_REASON of a
session that ends for it. A DC session past its closing goes through DC steps 6 and 7; otherwise the output goes to X1, and
with FALLBACK = 0 the session ends (R163, R190). -/
def hlcFail (n : Fin 8) (cause : Nat) (reason : EndReason) (s : State) : State :=
  let h := hl s n
  let s := if h.cert.isSome then certFail n s else s
  let s := e55 n 7 [(1, cause)] (modHlc n (fun h => { h with
    active := false, failed := true, slac := 0, slacX1 := none, tcp := false, tls := false, authAt := none, reneg := false }) s)
  let s := modSafe n (fun x => { x with reqClose := false }) s
  if 3 ≤ h.dcStep ∧ h.dcStep ≤ 5 ∧ (ses s n).hasClosed then
    modHlc n (fun h => { h with dcStep := 6, dcAt := s.clk.mono, tgtI := 0 }) (markEnd n reason s)
  else if fallback (pilotB s n) then modHlc n (fun h => { h with fallAt := some s.clk.mono, dcStep := if h.dcStep < 6 then 0 else h.dcStep }) s
  else endX1 n reason s

/-! ## Modems (R173, R470) -/

/-- A modem fault arises: E55+n KIND 5, the loss of a running high-level session, and the point's path or its OOS bit. -/
def modemBad (n : Fin 8) (s : State) : State :=
  if (nvp s n).modemFault then s
  else
    let s := e55 n 5 [(1, 1)] (modNvPt n (fun x => { x with modemFault := true }) s)
    basicPath n (if highLevel s n then hlcFail n 4 .outOfService s else s)

/-- HLC_MODEM_TEST passes: the modem fault clears (R173, R195, R468). -/
def modemGood (n : Fin 8) (s : State) : State :=
  let s := if (nvp s n).modemFault then e55 n 5 [(1, 0)] (modNvPt n (fun x => { x with modemFault := false }) s) else s
  clearOos n 0x80 s

/-- The loopback may run: no session is open, and the pilot is in state A or at output F (R173, R195). -/
def loopOk (s : State) (n : Fin 8) : Bool := !sessOpen s n && ((pil s n).st == some .A || (pil s n).out == .F)

/-- The HLC_MODEM_TEST that waits on the point. -/
def modemCmd (s : State) (n : Fin 8) : Option Flight := s.port.flights.find? fun f => f.opcode == 0x0409 && u8 0 f.pkt.payload == pno n

/-- MODEM_LOOPBACK (R173): the result of the internal test; a waiting HLC_MODEM_TEST is answered (R195). -/
def execModemLoopback (n : Fin 8) (pass : Bool) (s : State) : Host.Outcome State Fault Refusal :=
  .next (if !(vehUp s n && loopOk s n) then s
    else
      let s := modHlc n (fun h => { h with loopAt := s.clk.mono }) { s with pwr.timerDue := false }
      match modemCmd s n with
      | some f => finish f (le 1 (b2n (!pass)) ++ zeros 3) (if pass then modemGood n s else modemBad n s)
      | none => if pass then s else modemBad n s)

/-- MODEM_NO_ANSWER (R173): the modem has not answered for `us`. -/
def execModemNoAnswer (n : Fin 8) (us : Nat) (s : State) : Host.Outcome State Fault Refusal :=
  .next (if vehUp s n && decide (100000 ≤ us) then modemBad n s else s)

/-- HLC_MODEM_TEST (R195). -/
def hlcModemTestBody (f : Flight) (s : State) : CmdOut :=
  let p := f.pkt.payload
  match pointOf s (u8 0 p) with
  | none => .fail stBadParam
  | some n =>
    need (rsv 1 3 p) stBadParam <| need (loopOk s n) stState <|
    need ((s.port.flights.filter fun g => g.opcode == 0x0409 && u8 0 g.pkt.payload == pno n).length ≤ 1) stBusy <| .wait s

def execHlcModemTest (p : Pkt) (s : State) : Host.Outcome State Fault Refusal := .next (command 0x0409 (sized 4 hlcModemTestBody) p s)

/-! ## SLAC (R174, R175) -/

/-- SLAC fails: E55+n KIND 6 before the contactor has closed in the session; X1 for 4 s and another try, from which everything is
chosen anew, or after the last retry the high-level session has failed (R175, R190). -/
def slacFail (n : Fin 8) (s : State) : State :=
  let h := hl s n
  let closed := (ses s n).hasClosed
  let s := if closed then s else e55 n 6 [(1, h.retries)] s
  let s := modHlc n (fun h => { h with slac := 0, tcp := false, tls := false }) s
  if !closed && decide (h.retries < slacRetry (hlcB s n)) then
    let s := if h.cert.isSome then certFail n s else s
    modSessP n (fun x => { x with service := 0xFF }) (modHlc n (fun h => { h with
      active := false, retries := h.retries + 1, slacX1 := some s.clk.mono, dcStep := 0, proto := 0, version := 0, suite := none
      pnc := false, authAt := none, authAns := 0, ctrl := 0, reneg := false }) s)
  else hlcFail n 0 .vehicleStop (modHlc n (fun h => { h with slacFail := true }) s)

/-- CM_SLAC_PARM_REQ (R174): the request is answered; after a match it is a restart, and SLAC fails (R175). -/
def execCmSlacParmReq (n : Fin 8) (s : State) : Host.Outcome State Fault Refusal :=
  let h := hl s n
  .next (if !(vehUp s n && hlcRuns s n) || h.slac = 0 then s
    else if h.slac = 5 then slacFail n s
    else modHlc n (fun h => { h with slac := 2, slacAt := s.clk.mono, sounds := 0, attSum := 0 }) s)

/-- CM_ATTEN_CHAR.IND is sent with the profile of the soundings heard, at the elapsed time `at0`; the wait for CM_SLAC_MATCH.REQ counts
from it (R174). -/
def attenInd (n : Fin 8) (at0 : Nat) (s : State) : State :=
  modHlc n (fun h => { h with slac := 3, slacAt := at0, atten := min 255 (convN h.attSum h.sounds) }) s

/-- CM_MNBC_SOUND_IND (R174): a sounding of the 10, within the window that the first opens, with its attenuation in dB; the last of them
ends the window. -/
def execCmMnbcSoundInd (n : Fin 8) (atten : Nat) (s : State) : Host.Outcome State Fault Refusal :=
  let h := hl s n
  .next (if vehUp s n && hlcRuns s n && h.slac == 2 && (h.sounds == 0 || decide (s.clk.mono ≤ h.slacAt + 600000)) then
    let s := modHlc n (fun h => { h with
      sounds := h.sounds + 1, attSum := h.attSum + atten, slacAt := if h.sounds = 0 then s.clk.mono else h.slacAt }) s
    if 10 ≤ (hl s n).sounds then attenInd n s.clk.mono s else s
  else s)

/-- CM_ATTEN_CHAR_RSP (R174): the vehicle has the profile, sent with the tenth sounding or at the end of the sounding window. -/
def execCmAttenCharRsp (n : Fin 8) (s : State) : Host.Outcome State Fault Refusal :=
  let h := hl s n
  .next (if !(vehUp s n && hlcRuns s n) then s
    else
      let s := if h.slac = 2 ∧ 0 < h.sounds ∧ elapsed s h.slacAt 600000 then attenInd n (h.slacAt + 600000) s else s
      if (hl s n).slac = 3 then modHlc n (fun h => { h with slac := 4 }) s else s)

/-- CM_SLAC_MATCH_REQ (R174): answered with a new network membership key from K; setup begins, on a DC point as DC step 1
(R187). -/
def execCmSlacMatchReq (n : Fin 8) (s : State) : Host.Outcome State Fault Refusal :=
  let h := hl s n
  .next (if vehUp s n && hlcRuns s n && h.slac == 4 && s.pwr.kRunning then
    let s := modHlc n (fun h => { h with
      slac := 5, nmk := h.nmk + 1, setupAt := s.clk.mono, lastReq := s.clk.mono, dcStep := if dcPoint s n then 1 else 0, dcAt := s.clk.mono }) s
    setPhase n .setup s
  else s)

/-- The longest wait of the SLAC step in hand, µs from its start: SLAC_INIT_T for a parameter request, the sounding window, with 10 s
after it for the match request once a sounding was heard, and those 10 s after CM_ATTEN_CHAR.IND (R174). -/
def slacWait (s : State) (n : Fin 8) : Option Nat :=
  match (hl s n).slac with
  | 1 => some (slacInitT (hlcB s n) * 1000000)
  | 2 => some (if (hl s n).sounds = 0 then 600000 else 10600000)
  | 3 | 4 => some 10000000
  | _ => none

/-- SLAC_TIMEOUT (R174, R175). -/
def execSlacTimeout (n : Fin 8) (s : State) : Host.Outcome State Fault Refusal :=
  .next (if hlcRuns s n && (slacWait s n).any fun w => elapsed s (hl s n).slacAt w then slacFail n s else s)

/-- SLAC_RETRY (R175): the 4 s of X1 are over; the output returns to 5 % duty. -/
def execSlacRetry (n : Fin 8) (s : State) : Host.Outcome State Fault Refusal :=
  .next (if heldFor s (hl s n).slacX1 4000000 then modHlc n (fun h => { h with slacX1 := none }) s else s)

/-! ## Setup (R176 to R179) -/

/-- SDP_REQUEST (R176): answered, and one TCP connection accepted. -/
def execSdpRequest (n : Fin 8) (s : State) : Host.Outcome State Fault Refusal :=
  .next (if linked s n && !(hl s n).tcp then touch n (modHlc n (fun h => { h with tcp := true, tls := false }) s) else s)

/-- The known-answer tests a leaf of a role needs (R178, R419): ECDSA secp256r1, ECDSA secp521r1, Ed448. -/
def roleKat (role : Nat) : Nat := if role = 4 then 3 else if role = 5 then 5 else 6

/-- A trust anchor of one of the roles is installed with this DER form (R179, R180, R413). -/
def anchored (s : State) (roles : List Nat) (der : List Byte) : Bool :=
  !der.isEmpty && s.nvKey.certs.any fun c => roles.contains c.role && c.der == der

/-- The vehicle is accepted: for TLS 1.3, its chain leads to an installed OEM anchor, or none is installed (R179). -/
def oemOk (s : State) (x : TlsIn) : Bool := !x.v13 || anchored s [3] x.oem || !(s.nvKey.certs.any fun c => c.role == 3)

/-- The cipher suites of a TLS version (R178). -/
def suiteOk (v13 : Bool) (c : TlsSuite) : Bool :=
  if v13 then c == .aes256GcmSha384 || c == .chacha20Poly1305Sha256 else c == .aes128CbcSha256

/-- The leaf's role fits the version, its chain is complete, and its algorithm has not failed (R178, R413, R419). -/
def leafOk (s : State) (x : TlsIn) : Bool :=
  (if x.v13 then x.role == 5 || x.role == 6 else x.role == 4) && chainComplete s x.role && !s.key.kat.contains (roleKat x.role)

/-- A handshake with the leaf key in hand ends; its ephemeral key, which K generated, is used once and erased (R178, R412). -/
def tlsEnd (n : Fin 8) (x : TlsIn) (s : State) : State :=
  let s := modHlc n (fun h => { h with ecdhe := h.ecdhe + 1 }) s
  if x.ok && suiteOk x.v13 x.suite && oemOk s x then modHlc n (fun h => { h with tls := true, tls13 := x.v13, suite := some x.suite }) s
  else hlcFail n 2 .vehicleStop s

/-- TLS_HANDSHAKE (R178, R179, R411): the leaf key is loaded into the Chuck; without a slot the handshake waits. -/
def execTlsHandshake (n : Fin 8) (x : TlsIn) (s : State) : Host.Outcome State Fault Refusal :=
  .next (if !(linked s n && (hl s n).tcp && !(hl s n).tls && (hl s n).proto == 0) then s
    else
      let s := touch n s
      if !(leafOk s x && s.pwr.kRunning) then hlcFail n 2 .vehicleStop s
      else
        let key := ((certAt s x.role 0).map (·.keyId)).getD 0
        match chuckGet key s with
        | some r => tlsEnd n x { r.2 with key.waits := r.2.key.waits.filter fun w => !(w.2.1 == n.1) }
        | none =>
          if s.key.waits.any fun w => w.2.1 == n.1 then s
          else { s with key.waits := s.key.waits ++ [(key, n.1, s.clk.mono)] })

/-- CHUCK_WAIT_TIMEOUT (R411): requests that have waited 100 ms for a slot fail, for a vehicle as a TLS failure. -/
def execChuckWaitTimeout (s : State) : Host.Outcome State Fault Refusal :=
  let late := s.key.waits.filter fun w => elapsed s w.2.2 100000
  .next (late.foldl (fun t w => match ix 8 w.2.1 with | some n => (if hlcRuns t n then hlcFail n 2 .vehicleStop t else t) | none => t)
    { s with key.waits := s.key.waits.filter fun w => !elapsed s w.2.2 100000 })

/-- A protocol is offered: 1 DIN 70121, 2 ISO 15118-2, 3 ISO 15118-20 (R176, R178, R413). -/
def protoOk (s : State) (n : Fin 8) (p : Nat) : Bool :=
  let b := hlcB s n
  let h := hl s n
  match p with
  | 1 => dinEn b && !h.tls
  | 2 => iso2En b && (if h.tls then !h.tls13 && chainComplete s 4 else !tlsReq b && (chainComplete s 4 || !pncEn b))
  | 3 => iso20En b && h.tls && h.tls13 && (chainComplete s 5 || chainComplete s 6)
  | _ => false

/-- SUPPORTED_APP_PROTOCOL (R177): the enabled protocol of highest rank that the vehicle offers, in the version the vehicle prefers; setup
is complete (R187). The operand lists protocol and version in the order of the vehicle's priority. -/
def execSupportedAppProtocol (n : Fin 8) (offers : List (Nat × Nat)) (s : State) : Host.Outcome State Fault Refusal :=
  .next (if !(linked s n && (hl s n).tcp && (hl s n).proto == 0) then s
    else
      let s := touch n s
      match [3, 2, 1].findSome? fun p => if protoOk s n p then offers.find? fun o => o.1 == p else none with
      | none => hlcFail n 3 .vehicleStop s
      | some p =>
        setPhase n .auth (modHlc n (fun h => { h with proto := p.1, version := p.2, dcStep := if h.dcStep = 1 then 2 else h.dcStep, dcAt := s.clk.mono }) s))

/-- A service of R177 is offered to the vehicle in the protocol chosen (R176, R186, R190). -/
def serviceOk (s : State) (n : Fin 8) (code : Nat) : Bool :=
  let b := hlcB s n
  let p := (hl s n).proto
  let dc := [1, 3, 5, 7].contains code
  let fits := (code == 1 && p == 1) || ((code == 2 || code == 3) && p == 2) || (within code 4 7 && p == 3)
  fits && (if dc then dcPoint s n && !(hl s n).psFault else acEn b) &&
    (code < 6 || (bptEn b && (ses s n).bpt && !importOnly (mtr s (n.1 + 1))))

/-- CTRL_MODE: none in DIN 70121, scheduled, or dynamic where it is offered (R176, R193). -/
def ctrlOf (s : State) (n : Fin 8) (dynamic : Bool) : Nat :=
  if (hl s n).proto = 1 then 0 else if dynamic && (hl s n).proto == 3 && dynEn (hlcB s n) then 2 else 1

/-- SERVICE_SELECTION (R177, R186, R193): the SERVICE code is fixed, with E55+n KIND 1; the vehicle's identifier is known by then. -/
def execServiceSelection (n : Fin 8) (code : Nat) (dynamic : Bool) (evccid : Nat) (s : State) : Host.Outcome State Fault Refusal :=
  .next (if !talks s n || (sep s n).service != 0xFF then s
    else if !serviceOk s n code then touch n s
    else
      let s := touch n (modSessP n (fun x => { x with service := code }) s)
      let s := modHlc n (fun h => { h with ctrl := ctrlOf s n dynamic, evccid := evccid % 2 ^ 48 }) s
      e55 n 1 [(1, code), (1, b2n (hl s n).tls), (1, b2n (hl s n).pnc)] s)

/-! ## Authorisation (R180, R182) -/

/-- The answer to Authorization under EIM: Finished once an authorisation is bound (R182). -/
def eimAnswer (s : State) (n : Fin 8) : Nat := if (ses s n).bound then 2 else if (hl s n).authAns = 3 then 3 else 1

/-- PnC is offered: enabled, over TLS, while time is valid (R176, R180). -/
def pncOffered (s : State) (n : Fin 8) : Bool := pncEn (hlcB s n) && (hl s n).tls && s.clk.timeValid

/-- An answer to Authorization; Finished lets the vehicle go on to its parameters. -/
def authAnswer (n : Fin 8) (a : Nat) (s : State) : State :=
  let s := modHlc n (fun h => { h with authAns := a }) s
  if a = 2 && (hl s n).phase == .auth then setPhase n .parameters s else s

/-- A contract's identifier enters the decision flow once; until it is decided the answer is Ongoing (R182). -/
def contractAuth (n : Fin 8) (id : List Byte) (s : State) : State :=
  let h := hl s n
  if h.pnc then authAnswer n (if h.authAns = 0 then 1 else h.authAns) s
  else
    let s := enterFlow n 3 id false 0 (modHlc n (fun h => { h with pnc := true, authAns := 1 }) s)
    authAnswer n (hl s n).authAns s

/-- A contract certificate chain verifies (R180): it leads to an installed V2G or mobility-operator anchor, every certificate is within its
validity at the device time, and every signature verifies. -/
def contractOk (s : State) (x : ChainIn) : Bool :=
  anchored s [1, 2] x.anchor && !x.certs.isEmpty && x.certs.all fun c => decide (c.1 ≤ now s) && decide (now s ≤ c.2.1) && c.2.2

/-- AUTHORIZATION_REQUEST (R180, R182): under EIM, or with a contract's chain. A chain that does not verify is answered with the
certificate-failure code, after which EIM may follow; an identification that is not offered, with FAILED (log entry 808). -/
def execAuthorizationRequest (n : Fin 8) (contract : Option ChainIn) (s : State) : Host.Outcome State Fault Refusal :=
  .next (if !talks s n then s
    else
      let s := touch n (modHlc n (fun h => { h with authAt := some (h.authAt.getD s.clk.mono) }) s)
      match contract with
      | none => if eimEn (hlcB s n) then authAnswer n (eimAnswer s n) s else authAnswer n 3 s
      | some c =>
        if !pncOffered s n then authAnswer n 3 s
        else if contractOk s c && within c.emaid.length 1 15 then contractAuth n c.emaid s
        else authAnswer n 4 s)

/-- AUTHORIZATION_TIMEOUT (R182): 55 s after the first Authorization request without a decision. -/
def execAuthorizationTimeout (n : Fin 8) (s : State) : Host.Outcome State Fault Refusal :=
  let h := hl s n
  .next (if talks s n && h.authAns == 1 && heldFor s h.authAt 55000000 then modHlc n (fun h => { h with authAns := 3 }) s else s)

/-! ## Limits (R183, R184) -/

/-- A receive signal of a variable exists for the point (R197). -/
def canRx (s : State) (n : Fin 8) (v : Nat) : Bool :=
  let b := canB s
  (List.range 24).any fun f => frmValid (frmE b f) && frmRx (frmE b f) && (sigsOf b f).any fun e => sigVar e == v && sigPoint e == n.1 + 1

/-- The lower of a limit and a value the power stage says is available, where it says so. -/
def capBy (s : State) (n : Fin 8) (v : Nat) (av : Int) (l : Nat) : Nat := if canRx s n v then min l av.toNat else l

/-- The DC current limit, mA (R183). -/
def dcLimI (s : State) (n : Fin 8) : Nat := capBy s n 21 (hl s n).avI (dcMaxI (hlcB s n))

/-- The DC power limit, W (R183, R192). -/
def dcLimP (s : State) (n : Fin 8) : Nat :=
  let m := dcMaxP (hlcB s n)
  capBy s n 22 (hl s n).avP (if (ses s n).limP = 0 then m else min m (ses s n).limP)

/-- The DC voltage limit, mV (R183). -/
def dcLimU (s : State) (n : Fin 8) : Nat := capBy s n 20 (hl s n).avU (dcMaxU (hlcB s n))

/-- A discharge may be offered: ISO 15118-20 AC, and the bidirectional services (R183, R186). -/
def disService (s : State) (n : Fin 8) : Bool := [4, 6, 7].contains (sep s n).service

/-- The limits R183 and R186 give at present: current per phase in mA, power in W (0: none, on AC), discharge power in W, voltage in mV
(0: none, on AC). -/
def limits (s : State) (n : Fin 8) : Nat × Nat × Nat × Nat :=
  let d := if disService s n then (ses s n).limD else 0
  if dcService s n then (dcLimI s n, dcLimP s n, d, dcLimU s n)
  else (sigTarget s n, if (sep s n).service = 4 ∨ (sep s n).service = 6 then (ses s n).limP else 0, d, 0)

/-- A power limit as it bounds: 0 is no limit on AC (R192). -/
def powerBound (s : State) (n : Fin 8) (p : Nat) : Nat := if p = 0 && !dcService s n then 2 ^ 32 else p

/-- What may be offered now: a reduction at once, an increase 5 s after the previous change (R184). -/
def offerNow (s : State) (n : Fin 8) : Nat × Nat × Nat × Nat :=
  let h := hl s n
  let l := limits s n
  let up := h.offAt == 0 || elapsed s h.offAt 5000000
  let keep := fun (old new : Nat) => if old < new && !up then old else new
  (keep h.offI l.1, if powerBound s n h.offP < powerBound s n l.2.1 && !up then h.offP else l.2.1, keep h.offD l.2.2.1, keep h.offU l.2.2.2)

/-- The limits last offered. -/
def offered (s : State) (n : Fin 8) : Nat × Nat × Nat × Nat := ((hl s n).offI, (hl s n).offP, (hl s n).offD, (hl s n).offU)

/-- The limits offered change, with E55+n KIND 4 (R184, R201). -/
def offer (n : Fin 8) (s : State) : State :=
  let h := hl s n
  let o := offerNow s n
  if o = offered s n then s
  else
    let less := decide (o.1 < h.offI) || decide (powerBound s n o.2.1 < powerBound s n h.offP)
    e55 n 4 [(4, o.1), (4, o.2.1)] (modHlc n (fun h => { h with
      offI := o.1, offP := o.2.1, offD := o.2.2.1, offU := o.2.2.2, offAt := s.clk.mono, offDec := if less then s.clk.mono else h.offDec }) s)

/-- What the vehicle tells of itself (R193). -/
def heard (n : Fin 8) (x : EvIn) (s : State) : State :=
  touch n (modHlc n (fun h => { h with
    soc := if x.soc ≤ 100 then x.soc else 0xFF, evU := x.u % 2 ^ 32, evI := x.i, evMaxU := if x.maxU = 0 then h.evMaxU else x.maxU }) s)

/-- CHARGE_PARAMETER_DISCOVERY (R183): answered with the present limits; a renegotiation ends with it. -/
def execChargeParameterDiscovery (n : Fin 8) (x : EvIn) (s : State) : Host.Outcome State Fault Refusal :=
  .next (if talks s n && (hl s n).authAns == 2 then
    modHlc n (fun h => { h with reneg := false }) (offer n (heard n x s))
  else s)

/-! ## DC steps (R187) -/

/-- mA that a power in W gives at the measured voltage; no limit without one (R187). -/
def powerI (s : State) (n : Fin 8) (w : Nat) (l : Nat) : Nat :=
  let u := (hl s n).measU
  if u ≤ 0 then l else min l (w * 1000000 / u.toNat)

/-- TARGET_I in energy: the lowest of the vehicle's request and the limits, or a discharge within LIMIT_DIS_P (R183, R186,
R187). -/
def energyI (s : State) (n : Fin 8) : Int :=
  let i := (hl s n).evI
  let l := dcLimI s n
  if 0 ≤ i then min i (powerI s n (dcLimP s n) l)
  else if (sep s n).service = 7 ∧ (ses s n).limD ≠ 0 then max i (-(powerI s n (ses s n).limD l : Int))
  else 0

/-- The power stage's setpoints as the DC step stands (R187, R199). TARGET_I in the cable check is not stated: a free value
(log entry 801). -/
def powerStage (n : Fin 8) (s : State) : State :=
  let h := hl s n
  let maxU := dcMaxU (hlcB s n)
  match h.dcStep with
  | 3 =>
    if (saf s n).closed && h.mode == 0 then
      modHlc n (fun h => { h with enable := true, mode := 1, tgtU := (min h.evMaxU maxU : Nat), tgtI := Config.freeInt s.clk.free }) (drawn 1 s)
    else s
  | 4 => modHlc n (fun h => { h with enable := true, mode := 2, tgtU := (min h.evU (dcLimU s n) : Nat), tgtI := max 0 (min 2000 h.evI) }) s
  | 5 => modHlc n (fun h => { h with enable := true, mode := 3, tgtU := (min h.evU (dcLimU s n) : Nat), tgtI := energyI s n }) s
  | 6 => modHlc n (fun h => { h with tgtI := 0 }) s
  | _ => modHlc n (fun h => { h with enable := false, mode := 0, tgtI := 0 }) s

/-- The isolation status goes to the vehicle in a DC response (R217). -/
def isoAnswer (n : Fin 8) (s : State) : State :=
  if dcService s n then modHlc n (fun h => { h with isoSent := (ear s n).iso }) s else s

/-- CABLE_CHECK_REQUEST (R187): with the vehicle in C, closing of the output contactor is requested; answered with the isolation status
(R217). -/
def execCableCheckRequest (n : Fin 8) (s : State) : Host.Outcome State Fault Refusal :=
  let h := hl s n
  let s := if talks s n then isoAnswer n s else s
  .next (if !talks s n then s
    else if dcService s n && h.dcStep == 2 && h.authAns == 2 && (pil s n).st == some .C && (ses s n).ending.isNone then
      let s := touch n (modHlc n (fun h => { h with
        dcStep := 3, dcAt := s.clk.mono, cable := 0, uStable := none, enable := false, mode := 0, tgtI := 0, stepDone := false }) s)
      setPhase n .cableCheck (modSafe n (fun x => { x with reqClose := !(vget s.sw.lk n).needLock, sent76 := 0 }) s)
    else touch n s)

/-- The precharge has reached the vehicle's target voltage within PRECHARGE_TOL (R187). -/
def prechargeDone (n : Fin 8) (s : State) : State :=
  let h := hl s n
  if h.dcStep = 4 ∧ (h.measU - h.evU).natAbs ≤ prechargeTol (hlcB s n) * 1000 then modHlc n (fun h => { h with stepDone := true }) s else s

/-- PRECHARGE_REQUEST (R187): the target voltage in mV and the requested current in mA; answered with the isolation status (R217). -/
def execPrechargeRequest (n : Fin 8) (u i : Nat) (s : State) : Host.Outcome State Fault Refusal :=
  let h := hl s n
  let s := if talks s n then isoAnswer n s else s
  .next (if !talks s n then s
    else if h.dcStep = 3 ∧ (h.cable = 2 ∨ h.cable = 3) ∧ (ses s n).ending.isNone then
      let s := modHlc n (fun h => { h with dcStep := 4, dcAt := s.clk.mono, evU := u % 2 ^ 32, evI := i, stepDone := false }) s
      setPhase n .precharge (powerStage n (touch n s))
    else if h.dcStep = 4 then powerStage n (touch n (modHlc n (fun h => { h with evU := u % 2 ^ 32, evI := i }) s))
    else touch n s)

/-- The END_REASON of a stop the vehicle requests: the host's, where its stop has been signalled in an earlier response (R189,
R190). -/
def stopReason (s : State) (n : Fin 8) : EndReason :=
  if (ses s n).hostStop.any fun t => decide (t < (hl s n).lastReq) then .hostStop else .vehicleStop

/-- POWER_DELIVERY_REQUEST (R187): 0 Start, 1 Stop, 2 renegotiate. Start requests closing on an AC point, and begins DC step 5
after the precharge. -/
def execPowerDeliveryRequest (n : Fin 8) (op : Fin 3) (s : State) : Host.Outcome State Fault Refusal :=
  let h := hl s n
  .next (if !talks s n then s
    else if op = 0 then
      let s := touch n s
      if h.authAns ≠ 2 ∨ (ses s n).ending.isSome then s
      else if dcService s n then
        (if h.dcStep = 4 ∧ h.stepDone then
          setPhase n .energy (powerStage n (modHlc n (fun h => { h with dcStep := 5, dcAt := s.clk.mono }) s)) else s)
      else if (sep s n).service = 0xFF then s
      else setPhase n .energy (modSafe n (fun x => { x with reqClose := !(vget s.sw.lk n).needLock, sent76 := if x.reqClose then x.sent76 else 0 }) s)
    else if op = 1 then endSoft n (stopReason s n) (touch n s)
    else touch n (modHlc n (fun h => { h with reneg := true }) s))

/-- The meter identifier of MeterInfo: the device serial number, then the point (R196; its form is log entry 802's). -/
def meterIdOf (n : Fin 8) : List Byte := le 8 Config.serial.toNat ++ le 1 (pno n)

/-- CHARGE_LOOP_REQUEST (R183, R184, R187, R196, R217): answered with present limits and targets, the session's energy in MeterInfo and
the isolation status; in scheduled control a change is signalled by renegotiation. -/
def execChargeLoopRequest (n : Fin 8) (x : EvIn) (s : State) : Host.Outcome State Fault Refusal :=
  .next (if !talks s n then s
    else
      let s := isoAnswer n (modHlc n (fun h => { h with meterInfo := vget (sep s n).acc 0 / 1000000, meterId := meterIdOf n }) (heard n x s))
      let h := hl s n
      let s := if h.ctrl ≠ 1 then offer n s
        else if offerNow s n = offered s n then s else modHlc n (fun h => { h with reneg := true }) s
      if (hl s n).dcStep = 5 then powerStage n s else s)

/-- METERING_RECEIPT (R176): answered when MTR_RECEIPT is 1. -/
def execMeteringReceipt (n : Fin 8) (s : State) : Host.Outcome State Fault Refusal :=
  .next (if talks s n && decide (2 ≤ (hl s n).proto) && mtrReceipt (hlcB s n) then
    touch n (modHlc n (fun h => { h with receipt := h.receipt + 1 }) s) else s)

/-! ## Certificate exchange (R181, R194) -/

/-- CERTIFICATE_REQUEST (R181): held for the host, with E55+n KIND 3. -/
def execCertificateRequest (n : Fin 8) (body : List Byte) (s : State) : Host.Outcome State Fault Refusal :=
  .next (if talks s n && decide (2 ≤ (hl s n).proto) && within body.length 1 16384 && (hl s n).cert.isNone then
    e55 n 3 [(4, body.length)] (touch n (modHlc n (fun h => { h with cert := some (body, s.clk.mono), certResp := [], certTot := 0 }) s))
  else s)

/-- CERT_EXCHANGE_TIMEOUT (R181): 4.0 s without the host's response. -/
def execCertExchangeTimeout (n : Fin 8) (s : State) : Host.Outcome State Fault Refusal :=
  .next (match (hl s n).cert with
    | some c => if elapsed s c.2 4000000 then certFail n s else s
    | none => s)

/-- The chunks written from index 0 without a gap, joined. -/
def joinChunks (l : List (Nat × List Byte)) : Nat → Nat → List Byte
  | 0, _ => []
  | k + 1, i => match l.find? fun c => c.1 == i with
    | some c => c.2 ++ joinChunks l k (i + 1)
    | none => []

/-- A response chunk is written; with the last one the response is sent to the vehicle (R194). -/
def writeChunk (n : Fin 8) (i tot : Nat) (d : List Byte) (s : State) : State :=
  let l := (i, d) :: (hl s n).certResp.filter fun c => !(c.1 == i)
  let all := joinChunks l l.length 0
  if all.length = tot then modHlc n (fun h => { h with cert := none, certResp := [], certTot := 0, certAns := all }) s
  else modHlc n (fun h => { h with certResp := l, certTot := tot }) s

/-- HLC_EXCHANGE (R194). -/
def hlcExchangeBody (f : Flight) (s : State) : CmdOut :=
  let p := f.pkt.payload
  let op := u8 1 p
  let i := u16 2 p
  let tot := u32 4 p
  let d := p.drop 8
  match pointOf s (u8 0 p) with
  | none => .fail stBadParam
  | some n =>
    need (decide (8 ≤ p.length) && decide (op ≤ 2) &&
      (if op = 1 then within tot 1 16384 && within d.length 1 4096 else tot == 0 && d.isEmpty)) stBadParam <|
    match (hl s n).cert with
    | none => .fail stState
    | some c =>
      need (!elapsed s c.2 4000000) stState <|
      let hd := fun (k : Nat) => le 4 c.1.length ++ le 2 i ++ le 2 k
      if op = 0 then
        need (decide (i * 4096 < c.1.length)) stBadParam <|
        let x := slice (i * 4096) 4096 c.1
        .done s (hd x.length ++ x)
      else if op = 1 then
        let used := (((hl s n).certResp.filter fun (x : Nat × List Byte) => !(x.1 == i)).map fun (x : Nat × List Byte) => x.2.length).sum
        need (((hl s n).certTot == 0 || (hl s n).certTot == tot) && decide (used + d.length ≤ tot)) stBadParam <|
        .done (writeChunk n i tot d s) (hd 0)
      else .done (certFail n s) (hd 0)

def execHlcExchange (p : Pkt) (s : State) : Host.Outcome State Fault Refusal := .next (command 0x0408 hlcExchangeBody p s)

/-! ## Time limits (R187 to R190) -/

/-- HLC_MESSAGE_TIMEOUT (R188): 60 s without the vehicle's next request, or setup beyond step 1 on an AC point. -/
def execHlcMessageTimeout (n : Fin 8) (s : State) : Host.Outcome State Fault Refusal :=
  let h := hl s n
  .next (if hlcRuns s n && h.slac == 5 && (elapsed s h.lastReq 60000000 ||
      (h.phase == .setup && h.dcStep == 0 && elapsed s h.setupAt 20000000)) then hlcFail n 0 .vehicleStop s else s)

/-- The longest duration of a DC step that has one and has not met its end (R187, R218). -/
def stepLimit (h : Hlc) : Option Nat :=
  match h.dcStep with
  | 1 => some 20000000
  | 3 => if h.cable = 2 ∨ h.cable = 3 then none else some 38000000
  | 4 => if h.stepDone then none else some 7000000
  | 6 => some 1000000
  | _ => none

/-- A DC step is too long: the session ends with SAFETY_TRIP and its contactor opens; in step 3 the insulation result is
INVALID (R187, R218). Step 1 fails the high-level session instead (R190). -/
def stepLate (n : Fin 8) (s : State) : State :=
  if (hl s n).dcStep = 1 then hlcFail n 0 .vehicleStop s
  else
    let s := if (hl s n).dcStep = 3 then setIso n 5 s else s
    let s := modHlc n (fun h => { h with dcStep := 7, dcAt := s.clk.mono, enable := false, mode := 0, tgtI := 0, cable := if h.dcStep = 3 then 5 else h.cable }) s
    let s := if (ses s n).ending.isSome then modSess n (fun x => { x with ending := some .safetyTrip }) s else s
    endNow n .safetyTrip s

/-- DC_STEP_TIMEOUT (R187). -/
def execDcStepTimeout (n : Fin 8) (s : State) : Host.Outcome State Fault Refusal :=
  .next (if sessRuns s n && (stepLimit (hl s n)).any (fun d => elapsed s (hl s n).dcAt d) then stepLate n s else s)

/-- HOST_STOP_TIMEOUT (R189): 5 s after the signalled stop, DC step 6, or R161 on AC. -/
def execHostStopTimeout (n : Fin 8) (s : State) : Host.Outcome State Fault Refusal :=
  let h := hl s n
  .next (if heldFor s (ses s n).hostStop 5000000 && sessRuns s n && (ses s n).ending.isNone then
    if 3 ≤ h.dcStep ∧ h.dcStep ≤ 5 then modHlc n (fun h => { h with dcStep := 6, dcAt := s.clk.mono, tgtI := 0 }) (markEnd n .hostStop s)
    else endX1 n .hostStop s
  else s)

/-- TCP_LOSS (R190): 1 the TCP connection, 2 a TLS alert, 3 a malformed message. -/
def execTcpLoss (n : Fin 8) (cause : Nat) (s : State) : Host.Outcome State Fault Refusal :=
  .next (if linked s n && (hl s n).tcp && within cause 1 3 then hlcFail n cause .vehicleStop s else s)

/-! ## Session commands (R192, R193) -/

/-- The parameters of SES_START after the point are in range. -/
def startOk (p : List Byte) : Bool := within (u8 1 p) 1 4 && within (u8 2 p) 1 16 && decide (u8 3 p < 4) && rsv (4 + u8 2 p) (16 - u8 2 p) p

/-- The conditions of R18 that a start command checks (R18, R192). -/
def startSafe (s : State) (n : Fin 8) : Bool := checkConfirmed s n && demandsMet s n && (units 2).all (residualHealthyAt s n) && !(saf s n).lsv

/-- SES_START (R192, R291, R292): a request it answers ends BOUND_HOST; one it does not answer ends as REFUSED_STATE. -/
def sesStartBody (f : Flight) (s : State) : CmdOut :=
  let p := f.pkt.payload
  let type := u8 1 p
  let id := slice 4 (u8 2 p) p
  let fromReq := bit (u8 3 p) 1
  match pointOf s (u8 0 p) with
  | none => .fail stBadParam
  | some n =>
    let req := (ses s n).req
    need (startOk p && !(fromReq && req.any fun r => !(r.type == type && r.id == id))) stBadParam <|
    need ((vget s.p100.m (meterOf n)).ppState != .exhausted) stDenied <|
    need (!blockMissing s n) stNoConfig <|
    need (!(ses s n).bound && !outOfService s n && !(fromReq && req.isNone)) stState <|
    need (startSafe s n) stSafetyHold <|
    need (!sessionsRefused s) stLedgerFull <|
    let s := if fromReq then decision n 1 type s else refuseReq n 7 s
    let s := flowNext n (bindAuth n type id (bit (u8 3 p) 0) (u32 20 p) (u32 24 p) (u32 28 p) s)
    .done s (le 4 (sessNo s n) ++ zeros 4)

def execSesStart (p : Pkt) (s : State) : Host.Outcome State Fault Refusal := .next (command 0x0403 (sized 32 sesStartBody) p s)

/-- SES_STOP (R192): MODE 0 stop, 1 refuse the pending request, 2 stop and put the point out of service. -/
def sesStopBody (f : Flight) (s : State) : CmdOut :=
  let p := f.pkt.payload
  let mode := u8 1 p
  match pointOf s (u8 0 p) with
  | none => .fail stBadParam
  | some n =>
    need (decide (mode ≤ 2) && rsv 2 2 p) stBadParam <|
    need ((mode != 0 || sessRuns s n) && (mode != 1 || (ses s n).req.isSome)) stState <|
    let no := sessNo s n
    let s := if mode = 0 then stopSession n s
      else if mode = 1 then flowNext n (refuseReq n 5 s)
      else
        let s := setOos n 0 (if (hl s n).cert.isSome then certFail n s else s)
        if sessRuns s n && (ses s n).ending.isNone then endSoft n .outOfService s else s
    .done s (le 4 no)

def execSesStop (p : Pkt) (s : State) : Host.Outcome State Fault Refusal := .next (command 0x0404 (sized 4 sesStopBody) p s)

/-- SES_LIMIT (R184, R192): the new limits reach the pilot, or the vehicle in its next responses. -/
def sesLimitBody (f : Flight) (s : State) : CmdOut :=
  let p := f.pkt.payload
  match pointOf s (u8 0 p) with
  | none => .fail stBadParam
  | some n =>
    need (rsv 1 3 p) stBadParam <| need (sessRuns s n) stState <|
    .done (followSig n (modSess n (fun x => { x with limI := u32 4 p, limP := u32 8 p, limD := u32 12 p }) s)) []

def execSesLimit (p : Pkt) (s : State) : Host.Outcome State Fault Refusal := .next (command 0x0405 (sized 16 sesLimitBody) p s)

/-- HFLAGS (R193). -/
def hflags (s : State) (n : Fin 8) : Nat :=
  let h := hl s n
  b2n (nvp s n).modemFault + 2 * b2n h.slacFail + 4 * b2n h.fallback + 8 * b2n h.psFault + 16 * b2n h.canTo +
    32 * b2n h.cert.isSome + 64 * b2n h.reneg

/-- SES_STATUS (R193). -/
def sesStatusBody (f : Flight) (s : State) : CmdOut :=
  let p := f.pkt.payload
  match pointOf s (u8 0 p) with
  | none => .fail stBadParam
  | some n =>
    need (rsv 1 3 p) stBadParam <|
    let h := hl s n
    let x := ses s n
    .done s (le 8 (now s) ++ le 4 (sessNo s n) ++ le 1 (pno n) ++ le 1 (phaseCode h.phase) ++ le 1 (if h.phase = .basic then 0 else (sep s n).service) ++
      le 1 (x.type % 8 + 8 * b2n x.bound + 16 * b2n (exports s n) + 32 * b2n h.tls + 64 * b2n h.pnc) ++ le 6 h.evccid ++ le 1 h.soc ++
      le 1 h.ctrl ++ le 4 h.evU ++ leInt 4 h.evI ++ le 4 (if h.phase = .basic then (pil s n).iSig else h.offI) ++ le 4 h.offP ++ le 4 (hflags s n) ++ le 1 h.atten ++ zeros 3)

def execSesStatus (p : Pkt) (s : State) : Host.Outcome State Fault Refusal := .next (command 0x0406 (sized 4 sesStatusBody) p s)

end Sys2Proof.Machine
end

