-- ==== Sys2Proof/Machine/Can.lean ====
section
/-!
DEFINITION. The CAN FD power-stage interface (spec/08_high_level_communication.md): signals and checksums (R197, R198), frames
sent and received (R199), the power-stage fault (R190), and HLC_COMMIT (R200).
-/

namespace Sys2Proof.Machine

/-! ## Signals and checksums (R198) -/

/-- The range of a signal's raw value. -/
def sigRange (e : List Byte) : Int × Int :=
  if sigSigned e then (-(2 ^ (sigLen e - 1) : Nat), (2 ^ (sigLen e - 1) : Nat) - 1) else (0, (2 ^ sigLen e : Nat) - 1)

/-- The raw value of a physical one, rounded convergently, and whether it had to be clamped (R198). -/
def rawOf (e : List Byte) (v : Int) : Int × Bool :=
  let d := (v - sigOffset e) * 65536
  let f := sigFactor e
  let r := if 0 < f then conv d f.natAbs else conv (-d) f.natAbs
  let c := clampI (sigRange e).1 (sigRange e).2 r
  (c, c != r)

/-- The physical value of a raw one, rounded convergently (R198). -/
def physOf (e : List Byte) (raw : Int) : Int := conv (raw * sigFactor e) 65536 + sigOffset e

/-- One frame bit is set to a value. -/
def putBit (d : List Byte) (p : Nat) (v : Bool) : List Byte :=
  d.modify (p / 8) fun b => if v then b ||| BitVec.ofNat 8 (2 ^ (p % 8)) else b &&& ~~~(BitVec.ofNat 8 (2 ^ (p % 8)))

/-- The bits of a signal take a raw value (R198). -/
def putSig (e : List Byte) (raw : Int) (d : List Byte) : List Byte :=
  let v := (raw % (2 ^ sigLen e : Nat)).toNat
  (sigBits e).zipIdx.foldl (fun d x => putBit d x.1 (v.testBit x.2)) d

/-- The raw value of a signal in a frame. -/
def getSig (e : List Byte) (d : List Byte) : Int :=
  let v := ((sigBits e).zipIdx.map fun x => if (d.getD (x.1 / 8) 0).getLsbD (x.1 % 8) then 2 ^ x.2 else 0).sum
  if sigSigned e then signed (sigLen e) v else v

/-- One bit of CRC-8 SAE J1850. -/
def crc8Bit (c : Nat) : Nat := if 128 ≤ c then (c * 2 % 256) ^^^ 0x1D else c * 2

/-- The checksum of a frame: 1 XOR8, 2 SUM8, 3 CRC-8 SAE J1850 (R197, R198). -/
def chkOf (kind : Nat) (d : List Byte) : Nat :=
  match kind with
  | 1 => d.foldl (fun a b => a ^^^ b.toNat) 0
  | 2 => (d.map BitVec.toNat).sum % 256
  | 3 => (d.foldl (fun c b => crc8Bit (crc8Bit (crc8Bit (crc8Bit (crc8Bit (crc8Bit (crc8Bit (crc8Bit (c ^^^ b.toNat))))))))) 0xFF) ^^^ 0xFF
  | _ => 0

/-! ## Frames -/

def modCan (f : Fin 24) (g : CanFrm → CanFrm) (s : State) : State := { s with can := vmod s.can f g }

/-- The CAN ports run: neither a warm reset nor a block reset of UNIT 1 or 4 stops them (R190), and the port of the frame is
enabled. -/
def canRuns (s : State) (e : List Byte) : Bool :=
  s.pwr.phase == .run && vget s.pwr.pRunning 0 && !s.pwr.inWarm && s.pwr.appResetAt.isNone && canPortEn (canB s) (frmPort e) && frmValid e

/-- The point of a signal, an index. -/
def sigPt (e : List Byte) : Option (Fin 8) := ix 8 (sigPoint e - 1)

/-- E55+n KIND 8: frame index, VAR (R201). -/
def e558 (n : Fin 8) (f v : Nat) (s : State) : State := e55 n 8 [(1, f), (1, v)] s

/-- The physical value a transmitted variable has at present (R197, R199). -/
def txValue (s : State) (n : Fin 8) (v : Nat) : Int :=
  let h := hl s n
  match v with
  | 1 => b2n h.enable
  | 2 => h.mode
  | 3 => h.tgtU
  | 4 => h.tgtI
  | 5 => dcLimP s n
  | _ => 0

/-- The raw value of a transmitted signal and whether it is clamped; ALIVE counts transmissions, CONSTANT is its OFFSET. -/
def txRaw (s : State) (alive : Nat) (e : List Byte) : Int × Bool :=
  if sigVar e = 6 then ((alive % 2 ^ sigLen e : Nat), false)
  else if sigVar e = 8 then (let c := clampI (sigRange e).1 (sigRange e).2 (sigOffset e); (c, c != sigOffset e))
  else match sigPt e with
    | some n => rawOf e (txValue s n (sigVar e))
    | none => (0, false)

/-- The data of a transmitted frame (R198). -/
def txData (s : State) (f : Nat) (alive : Nat) : List Byte :=
  let b := canB s
  let e := frmE b f
  let d := ((sigsOf b f).filter fun x => sigVar x != 7).foldl (fun d x => putSig x (txRaw s alive x).1 d) (zeros (frmDlen e))
  ((sigsOf b f).filter fun x => sigVar x == 7).foldl (fun d x => putSig x (chkOf (frmChk e) (putSig x 0 d)) d) d

/-- KIND 8 where the clamping of a signal, known by its place in the frame, comes or goes (R198, R201). -/
def noteClamps (f : Nat) (old new : List Nat) (sigs : List (List Byte)) (s : State) : State :=
  sigs.zipIdx.foldl (fun t e =>
    if old.contains e.2 == new.contains e.2 then t
    else match sigPt e.1 with | some n => e558 n f (sigVar e.1) t | none => t) s

/-- CAN_FRAME_TRANSMIT (R199): the frame is sent with the newest values. -/
def execCanFrameTransmit (f : Fin 24) (s : State) : Host.Outcome State Fault Refusal :=
  let b := canB s
  let e := frmE b f.1
  .next (if !canRuns s e || frmRx e then s
    else
      let sigs := sigsOf b f.1
      let s := (points s).foldl (fun t n => if sigs.any fun x => sigPt x == some n then powerStage n t else t) s
      let x := vget s.can f
      let alive := x.alive + 1
      let cl := (sigs.zipIdx.filter fun x => (txRaw s alive x.1).2).map (·.2)
      let s := noteClamps f.1 x.clamped cl sigs s
      modCan f (fun y => { y with alive, lastAt := s.clk.mono, data := txData s f.1 alive, clamped := cl }) s)

/-! ## The power-stage fault (R190, R199) -/

/-- PS_FAULT is set: in energy, DC step 6 from TARGET_I 0 (R190). -/
def psFaultSet (n : Fin 8) (f v : Nat) (s : State) : State :=
  if (hl s n).psFault then modHlc n (fun h => { h with psGood := none }) s
  else
    let s := e558 n f v (modHlc n (fun h => { h with psFault := true, psAt := s.clk.mono, psGood := none }) s)
    endIf s
where
  endIf (s : State) : State := if (hl s n).dcStep = 5 then endSoft n .safetyTrip s else s

/-- Receive frames that name the point. -/
def rxFrames (s : State) (n : Fin 8) : List (Fin 24) :=
  (units 24).filter fun f => let e := frmE (canB s) f.1
    frmValid e && frmRx e && (sigsOf (canB s) f.1).any fun x => sigPt x == some n

/-- The frames of the point that carry MEAS_I are received (R190). -/
def measReadable (s : State) (n : Fin 8) : Bool :=
  (rxFrames s n).any fun f => (vget s.can f).seen && !(vget s.can f).tout && (sigsOf (canB s) f.1).any fun x => sigVar x == 19 && sigPt x == some n

/-- A received signal reaches its point (R197). -/
def rxSignal (d : List Byte) (e : List Byte) (s : State) : State :=
  match sigPt e with
  | none => s
  | some n =>
    let v := physOf e (getSig e d)
    match sigVar e with
    | 16 => modHlc n (fun h => { h with ready := v != 0 }) s
    | 18 => modHlc n (fun h => { h with measU := v }) s
    | 19 => modHlc n (fun h => { h with measI := v }) s
    | 20 => modHlc n (fun h => { h with avU := v }) s
    | 21 => modHlc n (fun h => { h with avI := v }) s
    | 22 => modHlc n (fun h => { h with avP := v }) s
    | _ => s

/-- MEAS_U has stayed within 2 % of the cable-check voltage (R218). -/
def followStable (n : Fin 8) (s : State) : State :=
  let h := hl s n
  let ok := h.dcStep == 3 && h.mode == 1 && decide ((h.measU - h.tgtU).natAbs * 100 ≤ 2 * h.tgtU.natAbs)
  modHlc n (fun h => { h with uStable := follow s ok h.uStable }) s

/-- What a received frame means for a point: FAULT as last read, good frames, the DC steps (R187, R190, R218). -/
def rxPoint (f : Fin 24) (d : List Byte) (n : Fin 8) (s : State) : State :=
  let sigs := (sigsOf (canB s) f.1).filter fun x => sigPt x == some n
  let fault := if sigs.any (sigVar · == 17) then sigs.any fun x => sigVar x == 17 && physOf x (getSig x d) != 0 else (hl s n).psBit
  let tout := (rxFrames s n).any fun g => (vget s.can g).tout
  let s := if (hl s n).canTo && !tout then e558 n f.1 0 s else s
  let s := modHlc n (fun h => { h with
    psBit := fault, canTo := tout, measOk := measReadable s n, psGood := if fault || tout then none else some (h.psGood.getD s.clk.mono) }) s
  let s := if fault then psFaultSet n f.1 17 s else s
  rampCheck n (prechargeDone n (followStable n s))

/-- A received frame is accepted: its checksum holds and its ALIVE value has changed (R198). -/
def rxGood (s : State) (f : Fin 24) (d : List Byte) : Bool :=
  let b := canB s
  let e := frmE b f.1
  let x := vget s.can f
  d.length == frmDlen e && (sigsOf b f.1).all fun g =>
    (sigVar g != 24 || getSig g d == (chkOf (frmChk e) (putSig g 0 d) : Int)) &&
      (sigVar g != 23 || !x.seen || getSig g d != getSig g x.data)

/-- CAN_FRAME_RECEIVE (R198, R199): a frame that fails its checks is discarded. -/
def execCanFrameReceive (f : Fin 24) (data : List Byte) (s : State) : Host.Outcome State Fault Refusal :=
  let b := canB s
  let e := frmE b f.1
  .next (if !canRuns s e || !frmRx e || !rxGood s f data then s
    else
      let s := modCan f (fun x => { x with seen := true, lastAt := s.clk.mono, data := data, tout := false }) s
      let s := (sigsOf b f.1).foldl (fun t g => rxSignal data g t) s
      (points s).foldl (fun t n => if (rxFrames t n).contains f then rxPoint f data n t else t) s)

/-- CAN_RECEIVE_TIMEOUT (R199): a receive frame is missing for TIMEOUT. -/
def execCanReceiveTimeout (f : Fin 24) (s : State) : Host.Outcome State Fault Refusal :=
  let e := frmE (canB s) f.1
  .next (if !canRuns s e || !frmRx e || (vget s.can f).tout || !elapsed s (vget s.can f).lastAt (frmTimeout e * 1000) then s
    else
      let s := modCan f (fun x => { x with tout := true }) s
      (points s).foldl (fun t n =>
        if !(rxFrames t n).contains f then t
        else
          let t := if (hl t n).psFault && !(hl t n).canTo then e558 n f.1 0 t else t
          psFaultSet n f.1 0 (modHlc n (fun h => { h with canTo := true, measOk := measReadable t n }) t)) s)

/-- PS_FAULT_CLEAR (R190): 1 s of good frames with FAULT 0. -/
def execPsFaultClear (n : Fin 8) (s : State) : Host.Outcome State Fault Refusal :=
  let f := ((rxFrames s n).head?.map (·.1)).getD 0
  .next (if (hl s n).psFault && heldFor s (hl s n).psGood 1000000 then
    e558 n f 17 (modHlc n (fun h => { h with psFault := false, canTo := false }) s) else s)

/-- PS_FAULT_OPEN_TIMEOUT (R190): 100 ms after the fault no current can be read, and the contactor opens. -/
def execPsFaultOpenTimeout (n : Fin 8) (s : State) : Host.Outcome State Fault Refusal :=
  let h := hl s n
  .next (if h.psFault && !h.measOk && elapsed s h.psAt 100000 && (saf s n).coil && within h.dcStep 3 6 then
    endNow n .safetyTrip s
  else s)

/-! ## HLC_COMMIT (R200) -/

/-- Every point with DC_EN has the signals it needs in the CAN block as the commit leaves it (R199). -/
def canCross (s : State) (cs : List BlkCopy) : Bool :=
  let c := afterCommit s cs 0x0420
  c.isEmpty || (units 4).all fun k => !dcEn (afterCommit s cs (0x0411 + k.1)) || canHas c (k.1 + 1)

/-- HLC_COMMIT (R200). A point whose block clears DC_EN has no insulation status any more, with E72 (R225, R227). -/
def hlcCommitBody (f : Flight) (s : State) : CmdOut :=
  let p := f.pkt.payload
  let m := u16 0 p
  let ns := maskPoints m
  let can := bit m 8
  need (m != 0 && decide (m < 2 ^ 9) && rsv 2 2 p && ns.all (hasPoint s)) stBadParam <|
  takeStored s ((ns.map fun n => 0x0411 + n.1) ++ if can then [0x0420] else []) fun cs =>
  need (canCross s cs) stBadParam <|
  need (!ns.any (sessOpen s) && !(can && (points s).any fun n => sessOpen s n && dcService s n)) stState <|
  let s := ns.foldl (fun t n => if dcPoint t n then t else setIso n 0 t) (recheck (commitCopies cs s))
  let s := if can then { s with can := Vector.replicate 24 { lastAt := s.clk.mono } } else s
  .done (ns.foldl (fun t n => basicPath n t) s) (tApplied s)

def execHlcCommit (p : Pkt) (s : State) : Host.Outcome State Fault Refusal := .next (command 0x0407 (sized 4 hlcCommitBody) p s)

end Sys2Proof.Machine
end

