-- ==== Sys2Proof/Machine/Cells.lean ====
section
/-!
DEFINITION. Addressed memories in one canonical form: a list of address and byte pairs with strictly rising addresses and
no entry equal to what an unlisted address reads as (the field store of R303, the display buffers of R347).
-/

namespace Sys2Proof.Machine

/-- The byte at an address; `dflt` is what an unlisted address reads as. -/
def cellGet (dflt : Nat → Byte) (m : List Cell) (a : Nat) : Byte :=
  match m with
  | [] => dflt a
  | c :: cs => if c.1 = a then c.2 else cellGet dflt cs a

/-- The memory with one byte written. -/
def cellPut (dflt : Nat → Byte) (a : Nat) (v : Byte) : List Cell → List Cell
  | [] => if v = dflt a then [] else [(a, v)]
  | c :: cs =>
    if a < c.1 then (if v = dflt a then c :: cs else (a, v) :: c :: cs)
    else if a = c.1 then (if v = dflt a then cs else (a, v) :: cs)
    else c :: cellPut dflt a v cs

/-- The canonical form. -/
def cellWf (dflt : Nat → Byte) : List Cell → Bool
  | [] => true
  | c :: cs => c.2 != dflt c.1 && (match cs with | [] => true | d :: _ => decide (c.1 < d.1)) && cellWf dflt cs

/-- `n` bytes from an address. -/
def cellSlice (dflt : Nat → Byte) (m : List Cell) (a n : Nat) : List Byte := (List.range n).map fun i => cellGet dflt m (a + i)

/-- The memory with bytes written from an address. -/
def cellPuts (dflt : Nat → Byte) : Nat → List Byte → List Cell → List Cell
  | _, [], m => m
  | a, b :: bs, m => cellPuts dflt (a + 1) bs (cellPut dflt a b m)

end Sys2Proof.Machine
end

