-- ==== Sys2Proof/Machine/Display.lean ====
section
/-!
DEFINITION. The bistable display (spec/15_display.md): rails (R343, R344), waveforms (R345, R346), updates (R348, R349), temperature
(R350, R351), stress counters and ageing (R352, R353), the legal region and the faceplate check (R354 to R356), interruption
and recovery (R357 to R359), and the commands of R361 to R363.
-/

namespace Sys2Proof.Machine

def modDsp (f : Disp → Disp) (s : State) : State := { s with dsp := f s.dsp }
def modNvDsp (f : NvDisp → NvDisp) (s : State) : State := { s with nvDsp := f s.nvDsp }

/-- The display block in force, or its reset values. -/
def dspB (s : State) : List Byte := s.dsp.applied.getD (zeros 4 ++ dspReset ++ zeros 4)

/-- The display is driven: a valid block with DSP_EN = 1 (R360). -/
def dspOn (s : State) : Bool := s.dsp.applied.any dspEn

/-- A part image of the active firmware set (R424). -/
def partOf (s : FwSet) (type : Nat) : List Byte := ((s.parts.find? fun p => p.1 == type).map (·.2)).getD []

/-! ## Pixels (R347) -/

/-- What an unlisted pixel reads as: level 15, white. -/
def white : Nat → Byte := fun _ => 15

/-- Address of a pixel. -/
def pixAddr (x y : Nat) : Nat := 800 * y + x

/-- The level of a pixel of a buffer. -/
def pix (m : List Cell) (x y : Nat) : Nat := (cellGet white m (pixAddr x y)).toNat % 16

/-- The pixels of a rectangle, by rows. -/
def rectPix (r : Rect) : List (Nat × Nat) := (List.range r.h).flatMap fun j => (List.range r.w).map fun i => (r.x + i, r.y + j)

/-- A buffer with the pixels of a rectangle set by a function. -/
def fillRect (r : Rect) (f : Nat → Nat → Nat) (m : List Cell) : List Cell :=
  (rectPix r).foldl (fun m p => cellPut white (pixAddr p.1 p.2) (BitVec.ofNat 8 (f p.1 p.2 % 16)) m) m

/-- Two rectangles share a pixel. -/
def touches (a b : Rect) : Bool :=
  decide (a.x < b.x + b.w) && decide (b.x < a.x + a.w) && decide (a.y < b.y + b.h) && decide (b.y < a.y + a.h) && a.w != 0 && a.h != 0

/-- The legal region (R354). -/
def legalRect (b : List Byte) : Rect := { x := legalX b, y := legalY b, w := 256, h := 32 * (legalLines b).length }

/-- The whole panel. -/
def panel (b : List Byte) : Rect := { w := dspW b, h := dspH b }

/-- CRC-32 of a rectangle of a buffer: two pixels per byte, the left one in bits 3:0 (R355). -/
def rectCrc (r : Rect) (m : List Cell) : Nat :=
  crc32 ((List.range r.h).flatMap fun j => (List.range (r.w / 2)).map fun i =>
    BitVec.ofNat 8 (pix m (r.x + 2 * i) (r.y + j) + 16 * pix m (r.x + 2 * i + 1) (r.y + j)))

/-! ## Waveforms (R345, R346) -/

/-- The waveform tables in force (part type 0x09). -/
def wavePart (s : State) : List Byte := partOf (activeSet s) 0x09

/-- LEN and codes of a waveform: four frames per byte, frame 0 in bits 1:0 (R345). -/
def waveCodes (img : List Byte) (band : Nat) (varB : Bool) (index : Nat) : List Nat :=
  let o := Config.waveAt img band varB index
  (List.range (u16 o img)).map fun k => u8 (o + 2 + k / 4) img / 4 ^ (k % 4) % 4

/-- A waveform is balanced, at most 256 frames long, and without code 3 (R345). -/
def waveOk (l : List Nat) : Bool :=
  decide (l.length ≤ 256) && !l.contains 3 && (l.filter (· == 1)).length == (l.filter (· == 2)).length

/-- The bounds rise. -/
def risingInt : List Int → Bool
  | a :: b :: r => decide (a < b) && risingInt (b :: r)
  | _ => true

/-- A waveform part is valid (R345). -/
def waveValid (img : List Byte) : Bool :=
  let bs := Config.waveBounds img
  within bs.length 2 17 && risingInt bs && (List.range (bs.length - 1)).all fun k =>
    [false, true].all fun v => (List.range 257).all fun i => waveOk (waveCodes img k v i)

/-- The variant of a pixel is B (R346). -/
def variantB (s : State) (x y : Nat) : Bool :=
  match bits (u32 4 (dspB s)) 3 2 with
  | 0 => s.nvDsp.updates % 2 == 1
  | 1 => y % 2 == 1
  | _ => (x + y) % 2 == 1

/-- Index of the region of a pixel (R352). -/
def regionOf (b : List Byte) (x y : Nat) : Nat := y / 8 * (dspW b / 8) + x / 8

/-- DRIVE of a region. -/
def driveOf (s : State) (k : Nat) : Nat := ((s.nvDsp.drive.find? fun x => x.1 == k).map (·.2)).getD 0
/-- IMBAL of a region. -/
def imbalOf (s : State) (k : Nat) : Int := ((s.nvDsp.imbal.find? fun x => x.1 == k).map (·.2)).getD 0

/-- The age level of a region (R353). -/
def ageLevel (s : State) (k : Nat) : Nat := if ageStep (dspB s) = 0 then 0 else min 3 (driveOf s k / (ageStep (dspB s) * 100000))

/-- The codes a pixel of the running update is driven with (R348, R353, R359). -/
def pixCodes (s : State) (q : UpdReq) (x y : Nat) : List Nat :=
  let band := s.dsp.band - ageLevel s (regionOf (dspB s) x y)
  let w := fun i => waveCodes (wavePart s) band (variantB s x y) i
  let t := pix s.dsp.curImg x y
  match q.mode with
  | 0 => w (16 * pix s.nvDsp.lastImg x y + t)
  | 1 => w 256 ++ w (16 * 15 + t)
  | _ => w 256

/-- Frames of the longest waveform, at most 512 (R348). -/
def updFrames (s : State) (q : UpdReq) : Nat := min 512 (((rectPix q.rect).map fun p => (pixCodes s q p.1 p.2).length).foldl max 0)

/-! ## The queue (R349) -/

/-- Insert a request behind those of its order and before later ones. -/
def insertReq (q : UpdReq) : List UpdReq → List UpdReq
  | [] => [q]
  | x :: xs => if x.kind ≤ q.kind then x :: insertReq q xs else q :: x :: xs

/-- Requests that wait: a recovery not yet queued counts, an update that is tried again does not (R343, R349, R359). -/
def waitingReqs (s : State) : Nat :=
  (s.dsp.queue.filter fun q => !q.again).length + b2n (s.dsp.recPend && !(s.dsp.queue.any fun q => q.mode == 2) && s.dsp.run.isNone)

/-- Queue a request of the device, while fewer than four wait (log entry 1501). -/
def queueReq (q : UpdReq) (s : State) : State :=
  if 4 ≤ waitingReqs s then s else modDsp (fun d => { d with queue := insertReq q d.queue }) s

/-! ## Rails (R343, R344) -/

/-- Nominal voltage of the rail of a power-on step, mV. -/
def railNominal (b : List Byte) (step : Nat) : Int :=
  match step with | 1 => -20000 | 2 => -15000 | 3 => 22000 | 4 => 15000 | _ => -(500 + 10 * (u16 12 b : Int))

/-- The rail has settled: within ±5 % of nominal, VCOM within ±20 mV (R343). -/
def railOk (b : List Byte) (step : Nat) (mv : Int) : Bool :=
  let n := railNominal b step
  if step = 5 then decide ((mv - n).natAbs ≤ 20) else decide (20 * (mv - n).natAbs ≤ n.natAbs)

/-- The discharge starts; the high-voltage die completes it (R344). -/
def discharge (s : State) : State :=
  if s.dsp.railStep = 0 then s else modDsp (fun d => { d with railStep := 0, dischAt := some s.clk.mono, scan := [] }) s

/-- The rail's code in E117, in the order of R342: VPOS, VNEG, VGH, VGL, VCOM. -/
def railCode (step : Nat) : Nat := match step with | 1 => 3 | 2 => 1 | 3 => 2 | 4 => 0 | _ => 4

/-! ## Starting an update -/

/-- E113: expected and found CRC. -/
def e113 (want found : Nat) (s : State) : State := pulse 113 (prm [(4, want), (4, found)]) s

/-- Level of a rendered pixel of the legal region (R354, R355). -/
def rendered (s : State) (r : Rect) (x y : Nat) : Nat := ((s.dsp.legalPix.getD (y - r.y) []).getD (x - r.x) 15)

/-- M0/M1 write the legal region: their rendering, or all level 15 (R355, R356). -/
def writeLegal (blank : Bool) (s : State) : State :=
  let r := legalRect (dspB s)
  modDsp (fun d => { d with
    faceBlank := blank, nextImg := fillRect r (fun x y => if blank then 15 else rendered s r x y) d.nextImg }) s

/-- CRC the check expects at present: of the rendering, or of the blank region (R356). -/
def expectCrc (s : State) : Nat := if s.dsp.faceBlank then rectCrc (legalRect (dspB s)) [] else s.dsp.legalCrc

/-- The CRC found at check number `k`: the operand's value where the memory did not return what was written, else that of
next. -/
def foundCrc (found : List Nat) (k : Nat) (s : State) : Nat := (found[k]?).getD (rectCrc (legalRect (dspB s)) s.dsp.nextImg)

/-- A check has passed on a rendering: FACEPLATE_FAULT clears with LEGAL_BLANK; a legal update ends the blank of a recovery
(R356, R359). -/
def checkPassed (kind : Nat) (s : State) : State :=
  if s.dsp.faceBlank then s
  else
    let c := expectCrc s
    let was := s.dsp.faceFault
    let s := if was then level 113 0 false (prm [(4, c), (4, c)]) (modDsp (fun d => { d with faceFault := false }) s) else s
    if was || kind == 2 then modDsp (fun d => { d with blank := false }) s else s

/-- The faceplate check of R356: whether the update may start, and the state after it. -/
def faceplate (found : List Nat) (kind : Nat) (s : State) : Bool × State :=
  let want := expectCrc s
  if foundCrc found 0 s = want then (true, checkPassed kind s)
  else
    let s := writeLegal s.dsp.faceBlank (e113 want (foundCrc found 0 s) s)
    if foundCrc found 1 s = want then (true, checkPassed kind s)
    else if s.dsp.faceBlank then (false, e113 want (foundCrc found 1 s) s)
    else
      let f := foundCrc found 1 s
      let s := level 113 0 true (prm [(4, want), (4, f)]) (modDsp (fun d => { d with faceFault := true, blank := true, legalAt := s.clk.mono }) s)
      (false, queueReq { rect := legalRect (dspB s), kind := 2 } (writeLegal true s))

/-- Bands of a reading: number of bounds at or below it, less one (R345, R351). -/
def bandIx (s : State) (t : Int) : Int := (((Config.waveBounds (wavePart s)).filter fun b => decide (10 * b ≤ t)).length : Int) - 1

/-- The reading lies within the bands (R350). -/
def inRange (s : State) (t : Int) : Bool :=
  let bs := Config.waveBounds (wavePart s)
  decide (0 ≤ bandIx s t) && decide (bandIx s t < (bs.length : Int) - 1)

/-- Marker ACTIVE, current written, the rails switched on (R348 steps 3 and 4). -/
def beginUpdate (q : UpdReq) (s : State) : State :=
  let s := modDsp (fun d => { d with
    run := some q, queue := d.queue.erase q, retryAt := none, defer := none, frame := 0
    curImg := fillRect q.rect (fun x y => pix d.nextImg x y) d.curImg
    band := (bandIx s s.dsp.temp).toNat, railStep := if d.railStep = 6 then 6 else 1 }) s
  let s := modNvDsp (fun d => { d with marker := 1, mRect := q.rect, mMode := q.mode, mTime := now s, mFrames := 0 }) s
  modDsp (fun d => { d with frames := updFrames s q }) s

/-- The display could start an update: driven, T and the metrology pair running, no warning, not in WATCH, no fault, none
running, and the latest reading at most 1 s old (R349, R350, R357, R360). -/
def dspReady (s : State) : Bool :=
  dspOn s && s.pwr.tRunning && s.pwr.phase == .run && s.pwr.pstate != .watch && !s.dsp.dispFault && s.dsp.run.isNone &&
    !s.dsp.legalPix.isEmpty && s.dsp.tempAt.any fun t => decide (s.clk.mono ≤ t + 1000000)

/-- Steps 1 to 4 of R348 for the first request that may start; before a pending recovery no other starts (R359). -/
def startUpdate (found : List Nat) (s : State) : State :=
  match s.dsp.queue with
  | [] => s
  | q :: _ =>
    if s.dsp.recPend && q.mode != 2 then s
    else
      let c := faceplate found q.kind s
      if !c.1 then c.2
      else
        let s := c.2
        if s.dsp.tempFault || !inRange s s.dsp.temp then
          pulse 114 (prm [(2, i2n 2 s.dsp.temp)]) (modDsp (fun d => { d with defer := some s.clk.mono }) s)
        else beginUpdate q s

/-- DISPLAY_UPDATE_START (R348). `found` gives the CRCs of the checks where the memory failed. -/
def execDisplayUpdateStart (found : List Nat) (s : State) : Host.Outcome State Fault Refusal :=
  .next (if dspReady s && s.dsp.retryAt.isNone && s.dsp.defer.isNone then startUpdate found s else s)

/-- TEMP_DEFERRAL_RETRY (R350): a deferred update is tried again after 10 s. -/
def execTempDeferralRetry (s : State) : Host.Outcome State Fault Refusal :=
  .next (if dspReady s && heldFor s s.dsp.defer 10000000 then startUpdate [] (modDsp (fun d => { d with defer := none }) s) else s)

/-- RAIL_RETRY (R343): 1 s after a rail failure the update is tried once more. -/
def execRailRetry (s : State) : Host.Outcome State Fault Refusal :=
  .next (if dspReady s && heldFor s s.dsp.retryAt 1000000 then startUpdate [] (modDsp (fun d => { d with retryAt := none }) s) else s)

/-- RAIL_POWER_ON_STEP (R343): the step ends with its rail at `mv`. -/
def execRailPowerOnStep (mv : Int) (s : State) : Host.Outcome State Fault Refusal :=
  .next (match s.dsp.run with
    | none => s
    | some q =>
      let k := s.dsp.railStep
      if k = 0 ∨ 5 < k then s
      else if railOk (dspB s) k mv then modDsp (fun d => { d with railStep := k + 1 }) s
      else
        let p := prm [(1, railCode k), (1, k)]
        let s := discharge (modDsp (fun d => { d with railFault := true, run := none }) s)
        if q.again then level 117 0 true p (modDsp (fun d => { d with dispFault := true }) s)
        else pulse 117 p (modDsp (fun d => { d with queue := { q with again := true } :: d.queue, retryAt := some s.clk.mono }) s))

/-! ## Frames and completion -/

/-- The drive codes of frame `k` that are not 0 V, as a sparse image (R348). -/
def frameScan (s : State) (q : UpdReq) (k : Nat) : List Cell :=
  (rectPix q.rect).foldl (fun m p => cellPut (fun _ => 0) (pixAddr p.1 p.2) (BitVec.ofNat 8 ((pixCodes s q p.1 p.2).getD k 0)) m) []

/-- Frame period, µs: 200 Hz or 160 Hz (R342). -/
def framePeriod (s : State) : Nat := if bit (u32 4 (dspB s)) 1 then 6250 else 5000

/-- No frame is in progress: none has started, or the last one's period is over (R342). -/
def frameOver (s : State) : Bool := s.dsp.frame == 0 || elapsed s s.dsp.frameAt (framePeriod s)

/-- DISPLAY_FRAME (R342, R348): the next frame of the running update is scanned, one each frame period. -/
def execDisplayFrame (s : State) : Host.Outcome State Fault Refusal :=
  .next (match s.dsp.run with
    | some q =>
      if s.dsp.railStep = 6 ∧ s.dsp.frame < s.dsp.frames ∧ s.pwr.phase = .run ∧ frameOver s = true then
        modDsp (fun d => { d with frame := d.frame + 1, frameAt := s.clk.mono, scan := frameScan s q s.dsp.frame }) s
      else s
    | none => s)

/-- Regions of a rectangle. -/
def rectRegions (b : List Byte) (r : Rect) : List Nat := ((rectPix r).map fun p => regionOf b p.1 p.2).eraseDups

/-- Regions in which a pixel drove a non-zero code in the first `n` frames (R352). -/
def drivenRegions (s : State) (q : UpdReq) (n : Nat) : List Nat :=
  (((rectPix q.rect).filter fun p => ((pixCodes s q p.1 p.2).take n).any (· != 0)).map fun p => regionOf (dspB s) p.1 p.2).eraseDups

/-- DRIVE of regions rises by 1 (R352). -/
def riseDrive (ks : List Nat) (s : State) : State :=
  ks.foldl (fun t k => modNvDsp (fun d => { d with drive := (k, satAdd 32 (driveOf t k) 1) :: d.drive.filter fun x => x.1 != k }) t) s

/-- IMBAL of regions is set; E116 when one first exceeds its limit or becomes unknown (R352). -/
def setImbal (l : List (Nat × Int)) (s : State) : State :=
  l.foldl (fun t x =>
    let old := imbalOf t x.1
    let t := modNvDsp (fun d => { d with imbal := (if x.2 = 0 then [] else [x]) ++ d.imbal.filter fun y => y.1 != x.1 }) t
    if (old.natAbs ≤ 16384 && decide (16384 < x.2.natAbs)) || (x.2 == -0x80000000 && old != x.2) then pulse 116 (prm [(2, x.1)]) t else t) s

/-- E112: rectangle, MODE, band, frames. -/
def rectPrm (r : Rect) : List (Nat × Nat) := [(2, r.x), (2, r.y), (2, r.w), (2, r.h)]

/-- DISPLAY_UPDATE_COMPLETE (R348 step 6, R351, R359). -/
def execDisplayUpdateComplete (s : State) : Host.Outcome State Fault Refusal :=
  .next (match s.dsp.run with
    | none => s
    | some q =>
      if s.dsp.railStep ≠ 6 || decide (s.dsp.frame < s.dsp.frames) || s.pwr.phase != .run || !frameOver s then s
      else
        let s := riseDrive (drivenRegions s q s.dsp.frames) s
        let s := modNvDsp (fun d => { d with
          lastImg := fillRect q.rect (fun x y => if q.mode = 2 then 15 else pix s.dsp.curImg x y) d.lastImg
          marker := 0, updates := (d.updates + 1) % 2 ^ 32 }) s
        let s := modDsp (fun d => { d with
          run := none, railsAt := s.clk.mono, scan := [], recPend := d.recPend && q.mode != 2, tempUpd := some (q, d.band) }) s
        let s := pulse 112 (prm (rectPrm q.rect ++ [(1, q.mode), (1, s.dsp.band), (2, s.dsp.frames)])) s
        if q.mode = 2 then pulse 118 (prm (rectPrm q.rect ++ [(2, s.dsp.frames)])) s else s)

/-- RAIL_HOLD_EXPIRY (R344). -/
def execRailHoldExpiry (s : State) : Host.Outcome State Fault Refusal :=
  .next (if s.dsp.run.isNone && s.dsp.railStep == 6 && elapsed s s.dsp.railsAt (1000 * railHold (dspB s)) then discharge s else s)

/-- NTC_MEASURE (R350, R351): the panel temperature in 0.01 °C, none with the NTC open or shorted. -/
def execNtcMeasure (t : Option Int) (s : State) : Host.Outcome State Fault Refusal :=
  .next (if !(dspOn s && s.pwr.tRunning && gridRuns s) then s
    else
      let v := t.getD s.dsp.temp
      let s := modDsp (fun d => { d with temp := v, tempAt := some s.clk.mono, tempFault := t.isNone, tempRange := t.isSome && !inRange s v }) s
      let p := prm [(2, i2n 2 v)]
      let s := level 114 1 s.dsp.tempRange p (level 114 0 s.dsp.tempFault p s)
      match s.dsp.tempUpd, t with
      | some x, some v =>
        let s := modDsp (fun d => { d with tempUpd := none }) s
        let k := bandIx s v
        if 2 ≤ (k - x.2).natAbs then
          pulse 115 (prm (rectPrm x.1.rect ++ [(1, x.2), (1, k.toNat)])) (queueReq { rect := x.1.rect, mode := 1, kind := 1 } s)
        else s
      | _, _ => s)

/-! ## The legal region (R354, R355) -/

/-- The displayed value of a legal line (R102). -/
def lineShown (s : State) (v : Nat) : Nat :=
  match groupOf s (lineMeter v), ix 12 (lineQuantity v) with
  | some m, some q =>
    let x := vget s.p100.m m
    let mwh := match ix 8 (lineTariff v - 1) with
      | some k => if lineTariff v = 0 then totalReg x q else tariffReg x k q
      | none => totalReg x q
    ((forms mwh)[1]?.map (·.1)).getD 0
  | _, _ => 0

/-- The values the legal region shows at present. -/
def shownNow (s : State) : List Nat := (legalLines (dspB s)).map (lineShown s)

/-- The rows of a rendering of the legal region in the legal font of the metrology part (R354). -/
def renderRows (s : State) : List (List Nat) :=
  (legalLines (dspB s)).flatMap fun v => (List.range 32).map fun y => (List.range 256).map fun x =>
    (Config.legalPixel (partOf (activeSet s) 0x0B) v (lineShown s v) x y).toNat

/-- A rendering is due: none is kept, a value shown has changed, or FACEPLATE_FAULT holds; at most once per LEGAL_PERIOD
(R355, R356). -/
def renderDue (s : State) : Bool :=
  s.dsp.legalPix.isEmpty ||
    ((s.dsp.faceFault || shownNow s != s.dsp.legalVal) && elapsed s s.dsp.legalAt (1000000 * legalPeriod (dspB s)))

/-- LEGAL_RENDER (R355, R356). -/
def execLegalRender (s : State) : Host.Outcome State Fault Refusal :=
  .next (if dspOn s && gridRuns s && renderDue s then
      let s := modDsp (fun d => { d with legalPix := renderRows s, legalVal := shownNow s, legalAt := s.clk.mono }) s
      let s := writeLegal false s
      let r := legalRect (dspB s)
      let s := modDsp (fun d => { d with legalCrc := rectCrc r d.nextImg }) s
      if s.dsp.queue.any (fun q => q.kind == 2) then s else queueReq { rect := r, kind := 2 } s
    else s)

/-! ## Interruption and recovery (R357 to R359) -/

/-- Frames of a code list so far: VPOS less VNEG. -/
def balance (l : List Nat) : Int := ((l.filter (· == 1)).length : Int) - (l.filter (· == 2)).length

/-- IMBAL of the regions of an update cut after `n` frames: waveforms that have ended are balanced (R352). -/
def cutImbal (s : State) (q : UpdReq) (n : Nat) : List (Nat × Int) :=
  let b := dspB s
  (rectRegions b q.rect).map fun k =>
    let d := (((rectPix q.rect).filter fun p => regionOf b p.1 p.2 == k).map fun p => balance ((pixCodes s q p.1 p.2).take n)).sum
    (k, if imbalOf s k = -0x80000000 then imbalOf s k else imbalOf s k + d)

/-- A power-fail warning reaches the display: the frame in progress is the last, the rails discharge, and the marker and the
IMBAL changes are handed over (R357). -/
def dspWarn (s : State) : State :=
  let s := match s.dsp.run with
    | some q =>
      let n := if s.dsp.railStep = 6 then s.dsp.frame else 0
      riseDrive (drivenRegions s q n) (modDsp (fun d => { d with run := none, hand := some (n, cutImbal s q n) }) s)
    | none => s
  discharge s

/-- The content handed over is written: the marker INTERRUPTED with the frames driven, and IMBAL (R129 step 5, R357). -/
def dspPersist (s : State) : State :=
  match s.dsp.hand with
  | some h => setImbal h.2 (modNvDsp (fun d => { d with marker := 2, mFrames := h.1 }) (modDsp (fun d => { d with hand := none }) s))
  | none => s

/-- T is reset: the queue is discarded and the rails discharge; the marker stays (R344, R349, R358). -/
def dspStop (s : State) : State := discharge (modDsp (fun d => { d with
  run := none, queue := [], retryAt := none, defer := none, tempUpd := none }) s)

/-- T starts: a marker that is not IDLE asks for a recovery (R359). -/
def dspStart (s : State) : State := modDsp (fun d => { d with recPend := s.nvDsp.marker != 0 }) s

/-- A cold start: the committed block applies; an unreadable copy of last displayed reads 15 and the whole panel is cleared
before any other update (R347). -/
def dspCold (s : State) : State :=
  let s := dspStart (modDsp (fun d => { d with applied := committed s 0x0900 }) s)
  if s.nvDsp.lastBad then
    let s := pulse 119 [] (modNvDsp (fun d => { d with lastBad := false, lastImg := [] }) s)
    queueReq { rect := panel (dspB s), mode := 1, kind := 0 } s
  else s

/-- RECOVERY_START (R359): a marker ACTIVE or INTERRUPTED queues the recovery of its rectangle; an interruption without
warning leaves IMBAL unknown (R352). -/
def execRecoveryStart (s : State) : Host.Outcome State Fault Refusal :=
  .next (if dspOn s && s.pwr.tRunning && s.dsp.recPend && !(s.dsp.queue.any fun q => q.mode == 2) && s.dsp.run.isNone then
      let r := s.nvDsp.mRect
      let ks := rectRegions (dspB s) r
      let s := pulse 118 (prm (rectPrm r ++ [(2, s.nvDsp.mFrames)])) s
      let s := if s.nvDsp.marker = 1 then setImbal (ks.map fun k => (k, -0x80000000)) (riseDrive ks s) else s
      let s := if touches r (legalRect (dspB s)) then modDsp (fun d => { d with blank := true }) s else s
      modDsp (fun d => { d with queue := { rect := r, mode := 2, kind := 0 } :: d.queue }) s
    else s)

/-! ## Commands (R361 to R363) -/

/-- DSP_COMMIT (R361): the block applies once no update runs. -/
def dspCommitBody (f : Flight) (s : State) : CmdOut :=
  need (rsv 0 4 f.pkt.payload) stBadParam <|
  takeStored s [0x0900] fun cs =>
  need (waitingCommit s 0x0901).isNone stBusy <|
  .wait (take f cs s)

def execDspCommit (p : Pkt) (s : State) : Host.Outcome State Fault Refusal := .next (command 0x0901 (sized 4 dspCommitBody) p s)

/-- The block takes effect: faults clear, a rendering is due, and a change of the panel queues its clearing (R361). -/
def dspApply (cs : List BlkCopy) (s : State) : State :=
  let old := dspB s
  let s := commitCopies cs s
  let s := modDsp (fun d => { d with applied := committed s 0x0900, railFault := false, dispFault := false, legalPix := [], retryAt := none }) s
  let s := level 117 0 false (prm [(1, 0), (1, 0)]) s
  let b := dspB s
  if dspW old = dspW b ∧ dspH old = dspH b ∧ u16 12 old = u16 12 b then s else queueReq { rect := panel b, mode := 1 } s

/-- DSP_COMMIT_APPLY (R361). -/
def execDspCommitApply (s : State) : Host.Outcome State Fault Refusal :=
  .next (match waitingCommit s 0x0901 with
    | some f => if s.dsp.run.isSome then s else finish f (tApplied s) (untake f (dspApply (takenBy s f) s))
    | none => s)

/-- A rectangle of a command. -/
def rectAt (o : Nat) (p : List Byte) : Rect := { x := u16 o p, y := u16 (o + 2) p, w := u16 (o + 4) p, h := u16 (o + 6) p }

/-- The rectangle is not empty and lies within the panel. -/
def onPanel (s : State) (r : Rect) : Bool :=
  s.dsp.applied.isSome && r.w != 0 && r.h != 0 && decide (r.x + r.w ≤ dspW (dspB s)) && decide (r.y + r.h ≤ dspH (dspB s))

/-- DSP_WRITE (R362). -/
def dspWriteBody (f : Flight) (s : State) : CmdOut :=
  let p := f.pkt.payload
  let r := rectAt 0 p
  need (decide (8 ≤ p.length) && onPanel s r && r.x % 2 == 0 && r.w % 2 == 0 && p.length == 8 + r.w * r.h / 2) stBadParam <|
  need (!touches r (legalRect (dspB s))) stDenied <|
  .done (modDsp (fun d => { d with nextImg := fillRect r (fun x y =>
    let k := (y - r.y) * r.w + (x - r.x)
    u8 (8 + k / 2) p / 16 ^ (k % 2)) d.nextImg }) s) []

def execDspWrite (p : Pkt) (s : State) : Host.Outcome State Fault Refusal := .next (command 0x0902 dspWriteBody p s)

/-- DSP_UPDATE (R362). -/
def dspUpdateBody (f : Flight) (s : State) : CmdOut :=
  let p := f.pkt.payload
  let r := rectAt 0 p
  need (decide (u8 8 p ≤ 1) && rsv 9 3 p && (s.dsp.applied.isNone || onPanel s r)) stBadParam <|
  need (dspOn s && !s.dsp.dispFault) stState <|
  need (decide (waitingReqs s < 4)) stBusy <|
  .done (queueReq { rect := r, mode := u8 8 p } s) []

def execDspUpdate (p : Pkt) (s : State) : Host.Outcome State Fault Refusal := .next (command 0x0903 (sized 12 dspUpdateBody) p s)

/-- DSTATE (R362): the discharge lasts at most 2.52 ms (R344). -/
def dstate (s : State) : Nat :=
  if !dspOn s then 0 else if s.dsp.dispFault then 6
  else match s.dsp.run with
    | some q => if s.dsp.railStep < 6 then 2 else if q.mode = 2 then 5 else 3
    | none => if s.dsp.dischAt.any fun t => decide (s.clk.mono < t + 2520) then 4 else 1

/-- DFLAGS (R362). -/
def dspFlags (s : State) : Nat :=
  let d := s.dsp
  b2n d.railFault + 2 * b2n d.faceFault + 4 * b2n d.tempFault + 8 * b2n d.tempRange + 16 * b2n d.recPend + 32 * b2n d.blank +
    64 * b2n (d.queue.any fun q => q.kind == 1)

def dspStatusBody (_ : Flight) (s : State) : CmdOut :=
  let d := s.dsp
  .done s (le 8 (now s) ++ le 1 (dstate s) ++ le 1 d.band ++ le 2 (dspFlags s) ++ leInt 2 d.temp ++ le 1 d.queue.length ++ zeros 1 ++
    le 2 (if d.run.isSome then d.frame else 0) ++ le 2 (if d.run.isSome then d.frames else 0) ++ le 4 s.nvDsp.updates ++
    le 4 d.legalCrc ++ zeros 4)

def execDspStatus (p : Pkt) (s : State) : Host.Outcome State Fault Refusal := .next (command 0x0904 (sized 0 dspStatusBody) p s)

/-- Regions of the panel. -/
def regions (s : State) : Nat := if s.dsp.applied.isSome then dspW (dspB s) / 8 * (dspH (dspB s) / 8) else 0

/-- DSP_STRESS (R352, R363). -/
def dspStressBody (f : Flight) (s : State) : CmdOut :=
  let p := f.pkt.payload
  let op := u8 0 p
  let k := u16 2 p
  let c := u16 4 p
  need (decide (op ≤ 1) && rsv 1 1 p && (if op = 0 then within c 1 1000 else c == 0)) stBadParam <|
  need (!(op == 1 && s.dsp.run.isSome)) stState <|
  if op = 1 then .done (modNvDsp (fun d => { d with drive := [], imbal := [] }) s) (le 2 0 ++ zeros 2)
  else
    let n := min c (regions s - k)
    .done s (le 2 n ++ zeros 2 ++ (List.range n).flatMap fun i => le 4 (driveOf s (k + i)) ++ leInt 4 (imbalOf s (k + i)))

def execDspStress (p : Pkt) (s : State) : Host.Outcome State Fault Refusal := .next (command 0x0905 (sized 6 dspStressBody) p s)

end Sys2Proof.Machine
end

