-- ==== Sys2Proof/Machine/SafetyPair.lean ====
section
/-!
DEFINITION. The safety pair (spec/10_safety_functions.md): the safety cycle (R229), paths and path test (R233 to R236),
trips and their reset (R237 to R240), closing confirmation and welding (R241, R242), the device safe state (R231) and the
commands of R247 to R249. What S0 and S1 receive separately, the residual values and the pilot plateaus, each evaluates on its own;
what they share is evaluated once (log entry 12).
-/

namespace Sys2Proof.Machine

/-- The safety pair runs (R15, R231, R439). -/
def pairUp (s : State) : Bool :=
  !s.safeDev.safeState && (s.pwr.phase == .boot || s.pwr.phase == .run || s.pwr.phase == .pfwSeq)

/-! ## Paths (R233, R236) -/

/-- S1 drives SAFE_CUTn high. -/
def cutHigh (n : Fin 8) (s : State) : State := modSafe n (fun x => { x with cut := true, cutRef := s.clk.mono, cutDropAt := none }) s

/-- S1 drives SAFE_CUTn low. -/
def cutLow (n : Fin 8) (s : State) : State := modSafe n (fun x => { x with cut := false, cutDropAt := none }) s

/-- S0 commands the coil channel on. -/
def coilOn (n : Fin 8) (s : State) : State :=
  let s := match coilOf s n with | some c => chanOn c 1000 s | none => s
  modSafe n (fun x => { x with coil := true, coilRef := s.clk.mono }) s

/-- S0 commands the coil channel off within the path test. -/
def coilStep (n : Fin 8) (s : State) : State :=
  let s := match coilOf s n with | some c => chanOff c s | none => s
  modSafe n (fun x => { x with coil := false }) s

/-- A step of the path test begins (R236). -/
def pathStep (n : Fin 8) (k : Nat) (s : State) : State :=
  modSafe n (fun x => { x with path := k, pathAt := s.clk.mono, pathBad := false, lsvSeen := false }) s

/-- Step 1: SAFE_CUTn high, coil channel off. -/
def path1 (n : Fin 8) (s : State) : State := cutHigh n (coilStep n (pathStep n 1 s))
/-- Step 2: SAFE_CUTn low, coil channel on. -/
def path2 (n : Fin 8) (s : State) : State := coilOn n (cutLow n (pathStep n 2 s))
/-- Step 3: coil channel off, SAFE_CUTn high, then coil channel on. -/
def path3 (n : Fin 8) (s : State) : State :=
  modSafe n (fun x => { x with openConf := false, voltUnch := false }) (coilOn n (cutHigh n (coilStep n (pathStep n 3 s))))

/-- E76 for PATH_FAIL and CUT_FAULT: point, and the path step, 4 for CUT_FAULT (R250). -/
def e76 (n : Fin 8) (step : Nat) (on : Bool) (s : State) : State :=
  level 76 (2 * n.1 + b2n (step == 4)) on (prm [(1, pno n), (1, 0x10 + step)]) s

/-! ## Load-side voltage (R241) -/

/-- Samples of 20 ms on the fast path. -/
def lsvSamples : Nat := 1250

/-- The fast-path magnitude of an enabled voltage channel of Gn was at or above LSV_ABS within the last `k` samples. -/
def lsvWithin (s : State) (n : Fin 8) (k : Nat) : Bool :=
  let g := n.1 + 1
  let b := grp s g
  let lim := lsvAbs (spB s n) * 1000 * 2 ^ 32 * 2047
  grpEn b && [4, 5, 6].any fun c => chEn b c && ((detOf s g c).hist.take k).any fun x => decide (lim ≤ x.natAbs * 8388607 * chScale b c)

/-! ## Resetting trips (R239) -/

/-- The triggers of the causes recorded have cleared (R238, R239, conditions of chapter 9). -/
def triggerClear (s : State) (n : Fin 8) : Bool :=
  let e := ear s n
  let a := (nvp s n).await
  let on := fun (i : Nat) => a.getLsbD i
  (!(on 0 || on 1 || on 2 || on 3) || (!e.pend && !anyOp e)) && (!on 4 || !(nvp s n).mismatch) &&
    (!on 5 || !(nvp s n).sensorFault) && (!on 7 || peHealthy s)

/-- A tripped point is reset; source 0 automatic, 1 SAF_RESET, 2 SAFE_RST (R239, R250). -/
def resetTrip (n : Fin 8) (src : Nat) (s : State) : State :=
  let at_ := if src = 0 then now s :: (nvp s n).autoAt else (nvp s n).autoAt
  e74 n (nvp s n).trip src (modNvPt n (fun x => { x with
    tripped := false, await := 0, latch4 := false, autoAt := at_.filter fun t => decide (now s < t + dayUs) }) s)

/-- AUTOMATIC_RESET (R239): in mode 0, at the first cycle with state A accepted and the trigger cleared. -/
def autoReset (n : Fin 8) (s : State) : State :=
  let x := nvp s n
  if x.tripped && !x.latch4 && resetMode (spB s n) == 0 && inA s n && triggerClear s n then resetTrip n 0 s else s

/-! ## Closing (R18, R236, R241) -/

/-- The start-up test demands of a point that are unmet, in the order of their table. -/
def unmetDemands (s : State) (n : Fin 8) : List Nat :=
  let x := nvp s n
  (List.range 6).filter fun k =>
    if k = 0 then !checkConfirmed s n else if k = 1 then !offsetReady s n else if k = 2 then !testFresh s n
    else if k = 3 then x.welded || !(saf s n).weldOk else if k = 4 then x.genFault else x.pathFail || x.cutFault

/-- E76 once for each start-up demand unmet at a closing request (R250). -/
def noteDemands (n : Fin 8) (s : State) : State :=
  (unmetDemands s n).foldl (fun t k =>
    if (saf t n).sent76.getLsbD k then t
    else pulse 76 (prm [(1, pno n), (1, k)]) (modSafe n (fun x => { x with sent76 := x.sent76 ||| BitVec.ofNat 8 (2 ^ k) }) t)) s

/-- Nothing but R18 stands against closing: no trip awaits reset, the point is in service, its contactor confirmed open,
and no application reset affects it (R239, R450, R469). -/
def closable (s : State) (n : Fin 8) : Bool :=
  !(nvp s n).tripped && !outOfService s n && confirmedOpen s n && (saf s n).path == 0 && !(ses s n).x1Arm && !forcedF s n &&
    !forcedX1 s n && (coilOf s n).isSome

/-- Both decision vectors permit closing (R230). -/
def permitted (s : State) (n : Fin 8) : Bool := (saf s n).vec.toList.all (·.1)

/-- CLOSING_PERMITTED (R18): all closing conditions hold in one cycle, and the path test starts. -/
def tryClosing (n : Fin 8) (s : State) : State :=
  let x := saf s n
  if !x.reqClose || x.coil || x.path != 0 then s
  else
    let s := noteDemands n s
    if closable s n && permitted s n then path1 n s else s

/-- A closing is confirmed (R241): the auxiliary contact shows closed and, on an AC point, the load-side voltage has
exceeded LSV_ABS since step 3 began. -/
def confirmClosing (n : Fin 8) (s : State) : State :=
  let s := modSafe n (fun x => { x with lsvSeen := x.lsvSeen || (x.path == 3 && lsvWithin s n 7) }) s
  let x := saf s n
  if x.path == 3 && auxClosed s n && (dcPoint s n || x.lsvSeen) then
    modSess n (fun y => { y with hasClosed := true }) (modSafe n (fun x => { x with closed := true, path := 0 }) s)
  else s

/-! ## The safety cycle (R229) -/

/-- The conditions whose confirmation R237 times, as a core sees them: DC, AC (with computed residual and mismatch), wideband, PE,
insulation while the contactor is commanded closed, sensor. An operation during the test of R213 is none (R213, R238). -/
def triggersAt (s : State) (n : Fin 8) (k : Fin 2) : List Bool :=
  let e := ear s n
  let d := vget e.res k
  let run := e.tst == 0
  [run && d.dcOp, (run && d.acOp) || e.compOp || (nvp s n).mismatch, run && d.wbOp, !peHealthy s,
    e.iso == 4 && dcPoint s n && (saf s n).coil, (nvp s n).sensorFault]

/-- The causes of TRIP whose conditions a core finds (R237, R248), with those of a trigger by its place in `triggersAt`. -/
def causesAt (s : State) (n : Fin 8) (c : Fin 2) (k : Nat) : BitVec 32 :=
  let e := ear s n
  if !(triggersAt s n c).getD k false then 0
  else if k = 0 then cause 0
  else if k = 1 then
    (if e.tst == 0 && (vget e.res c).acOp then cause 1 else 0) ||| (if e.compOp then cause 3 else 0) |||
      (if (nvp s n).mismatch then cause 4 else 0)
  else if k = 2 then cause 2 else if k = 3 then cause 7 else if k = 4 then cause 8 else cause 5

/-- The causes whose conditions either core finds now. -/
def causesNow (s : State) (n : Fin 8) : BitVec 32 :=
  (units 2).foldl (fun a c => (List.range 6).foldl (fun a k => a ||| causesAt s n c k) a) 0

/-- The indicators of R242: auxiliary contact closed, load-side voltage present. -/
def indicators (s : State) (n : Fin 8) : Bool × Bool := (auxClosed s n, (saf s n).lsv)

/-- What one cycle evaluates for a point, after its residual: readback, triggers, load-side voltage, indicators. -/
def evaluate (n : Fin 8) (x : PtIn) (s : State) : State :=
  let s := modSafe n (fun y => { y with
    lsv := lsvWithin s n lsvSamples
    since := Vector.ofFn fun c => Vector.ofFn fun k => follow s ((triggersAt s n c).getD k.1 false) (vget (vget y.since c) k)
    acted := y.acted &&& causesNow s n
    cutRead := x.cut, cutBad := if x.cut == y.cut then 0 else min 3 (y.cutBad + 1)
    pathBad := y.pathBad || ((y.path == 1 || y.path == 2) && decide (20 ≤ x.coilI)) }) s
  let i := indicators s n
  let aux := i.1 && (saf s n).coilOffAt.all fun off => elapsed s off (weldT (spB s n))
  let volt := i.2 && (saf s n).coilOffAt.isNone
  modSafe n (fun y => { y with
    indSince := follow s ((aux || volt) && !y.coil && y.path == 0) y.indSince
    clearSince := follow s (!i.1 && !i.2) y.clearSince }) s

/-! ## Cross-comparison (R230) -/

/-- CONF of a trigger in µs (R237). -/
def confOf (s : State) (n : Fin 8) (k : Nat) : Nat :=
  let b := spB s n
  1000 * (if k = 0 ∨ k = 5 then confDc b else if k = 1 then confAc b else if k = 2 then confWb b
    else if k = 3 then confPe (sdB s) else confIso b)

/-- The trip causes a core decides: its triggers that have held for CONF (R230, R237). -/
def decidedAt (s : State) (n : Fin 8) (c : Fin 2) : BitVec 32 :=
  (units 6).foldl (fun a k => if heldFor s (vget (vget (saf s n).since c) k) (confOf s n k.1) then a ||| causesAt s n c k.1 else a) 0

/-- A core's decision vector for a point: permit, and its trip causes (R230). -/
def vectorOf (s : State) (n : Fin 8) (c : Fin 2) : Bool × BitVec 32 := (holdAt s n c == 0, decidedAt s n c)

/-- Two residual values, µA, differ by more than `base` and 3 % of the larger (R230). -/
def differs (base : Nat) (a b : Int) : Bool := decide (100 * base + 3 * max a.natAbs b.natAbs < 100 * (a - b).natAbs)

/-- The exchange step of a cycle (R229, R230): the cores' values of a point are compared, and how long they have differed is followed;
the decision vectors while every other item agrees. -/
def exchange (n : Fin 8) (s : State) : State :=
  let a := vget (ear s n).res 0
  let b := vget (ear s n).res 1
  let res := differs 300 a.iDc b.iDc || differs 300 a.iAc b.iAc
  let wb := differs 3000 a.iWb b.iWb
  let pil := (pil s n).st != (pil s n).st1
  let v0 := vectorOf s n 0
  let v1 := vectorOf s n 1
  modSafe n (fun y => { y with
    vec := Vector.ofFn fun c => if c.1 = 0 then v0 else v1
    resDiff := if res then min 100 (y.resDiff + 1) else 0
    wbDiff := if wb then min 100 (y.wbDiff + 1) else 0
    pilDiff := follow s pil y.pilDiff
    vecDiff := follow s (v0 != v1 && !res && !wb && !pil) y.vecDiff }) s

/-- The output step of a cycle: each path's enable is refreshed (R233). -/
def refresh (n : Fin 8) (s : State) : State :=
  modSafe n (fun y => { y with coilRef := s.clk.mono, cutRef := s.clk.mono, hold := holdBits s n }) s

/-- One point in a safety cycle; an unlock that runs waits as soon as its conditions fail (R264). -/
def cyclePoint (n : Fin 8) (x : PtIn) (s : State) : State :=
  holdUnlock n (refresh n (confirmClosing n (tryClosing n (exchange n (autoReset n (evaluate n x (compCycle n (residual n x s))))))))

/-- Without a tracked period of G0, PE continuity is judged over 20 ms spans (R219). -/
def peSpans (s : State) : State :=
  if (trackedPeriod s 0).isNone && elapsed s s.earthDev.peSpanAt 20000 then peSpan s else s

/-- The reply of SAF_RESET once no path test of it runs: RESET_MASK, or ST_STATE when nothing was reset. A trip
that ends a test leaves the answer to the next cycle (R236, R249). -/
def resetReply (s : State) : State :=
  match s.safeDev.resetCmd with
  | none => s
  | some f =>
    if (points s).any fun n => (saf s n).pathOnly then s
    else
      let m := s.safeDev.resetMask
      let s := { s with safeDev.resetCmd := none, safeDev.resetMask := 0 }
      if m = 0 then complete f stState [] s else finish f (le 2 m ++ zeros 2) s

/-- SAFETY_CYCLE (R229): the points' inputs and the voltage across NPE_SNS in µV are latched, conditions evaluated, the cycle words
compared, and paths refreshed. -/
def safetyCycle (pts : List PtIn) (npe : Int) (s : State) : State :=
  let s := { s with safeDev.running := true, safeDev.cycle := (s.safeDev.cycle + 1) % 2 ^ 32 }
  let s := peSpans (npeFeed npe s)
  let s := (points s).foldl (fun t n => cyclePoint n (pts.getD n.1 {}) t) s
  resetReply { s with filt.safeq := [] }

/-! ## Trips (R237, R238) -/

/-- The causes either core decides now, but for those a trip has been decided for since their condition began to hold (R230,
R237). -/
def decided (s : State) (n : Fin 8) : BitVec 32 := (decidedAt s n 0 ||| decidedAt s n 1) &&& ~~~ (saf s n).acted

/-- TRIP_CONFIRMED (R237, R238): the point trips once, for every cause decided in the cycle. -/
def execTripConfirmed (n : Fin 8) (s : State) : Host.Outcome State Fault Refusal :=
  let d := decided s n
  .next (if !pairUp s || !hasPoint s n || d == 0 then s
    else
      let res := d &&& 0xF != 0
      let s := modSafe n (fun x => { x with acted := x.acted ||| d }) s
      tripPoint n d (d &&& ~~~ (cause 8)) (modEarth n (fun e => { e with pend := e.pend || res, clrOff := if res then false else e.clrOff }) s))

/-- SAFE_CUT_DROP (R234): 1 ms after the coil is commanded off. -/
def execSafeCutDrop (n : Fin 8) (s : State) : Host.Outcome State Fault Refusal :=
  .next (match (saf s n).cutDropAt with
    | some t => if t ≤ s.clk.mono then cutLow n s else s
    | none => s)

/-- PATH_ENABLE_TIMEOUT (R233): an enable not refreshed for 300 µs drops its coil channel, or SAFE_CUTn. -/
def execPathEnableTimeout (n : Fin 8) (cut : Bool) (s : State) : Host.Outcome State Fault Refusal :=
  let x := saf s n
  .next (if cut then (if x.cut && elapsed s x.cutRef 300 then cutLow n s else s)
    else if x.coil && elapsed s x.coilRef 300 then openCoil n s else s)

/-- CUT_FAULT (R235): a readback differing for 3 cycles. -/
def execCutFault (n : Fin 8) (s : State) : Host.Outcome State Fault Refusal :=
  .next (if decide (3 ≤ (saf s n).cutBad) && !(nvp s n).cutFault && pairUp s then
    setOos n 3 (noteTrip n (cause 12) (e76 n 4 true (modNvPt n (fun x => { x with cutFault := true }) s)))
  else s)

/-! ## SAF_RESET and path tests (R236, R248, R249) -/

/-- A trip that SAF_RESET may reset: its mode or a fourth automatic trip, and the trigger cleared (R239, R249). -/
def safResets (s : State) (n : Fin 8) : Bool :=
  let x := nvp s n
  x.tripped && (resetMode (spB s n) == 1 || resetMode (spB s n) == 3 || x.latch4) && triggerClear s n

/-- A point is reset by SAF_RESET OP 0. -/
def safResetPoint (n : Fin 8) (s : State) : State :=
  let s := if safResets s n then resetTrip n 1 s else s
  { s with safeDev.resetMask := s.safeDev.resetMask ||| 2 ^ n.1 }

/-- A path test of SAF_RESET passes: PATH_FAIL and CUT_FAULT clear (R249). -/
def pathCleared (n : Fin 8) (s : State) : State :=
  let s := cutLow n (coilStep n (modSafe n (fun x => { x with path := 0, pathOnly := false, cutBad := 0 }) s))
  let s := clearOos n 8 (modNvPt n (fun x => { x with pathFail := false, cutFault := false }) s)
  resetReply (safResetPoint n (e76 n 4 false (e76 n 1 false s)))

/-- PATH_FAIL (R236): closing is refused and the point is out of service. -/
def pathFailed (n : Fin 8) (step : Nat) (s : State) : State :=
  let s := cutLow n (openCoil n s)
  resetReply (setOos n 3 (noteTrip n (cause 11) (e76 n step true (modNvPt n (fun x => { x with pathFail := true }) s))))

/-- PATH_TEST_STEP_END (R236): a 2 ms step ends; a closing condition that no longer holds ends the test. -/
def execPathTestStepEnd (n : Fin 8) (s : State) : Host.Outcome State Fault Refusal :=
  let x := saf s n
  let stop := !x.pathOnly && (!x.reqClose || holdBits s n != 0)
  .next (if !(x.path == 1 || x.path == 2) || !elapsed s x.pathAt 2000 || !pairUp s then s
    else if x.pathBad then pathFailed n x.path s
    else if stop then openCoil n s
    else if x.path = 1 then path2 n s
    else if x.pathOnly then pathCleared n s
    else path3 n s)

/-- E75: point, the two indicators (auxiliary contact, load-side voltage), VOLT_UNCHECKED (R250). -/
def prm75 (s : State) (n : Fin 8) : List Byte :=
  let i := indicators s n
  prm [(1, pno n), (1, b2n i.1), (1, b2n i.2), (1, b2n (saf s n).voltUnch)]

/-- CLOSING_TIMEOUT (R241): WELD_T after step 3 began, the closing is not confirmed. -/
def execClosingTimeout (n : Fin 8) (s : State) : Host.Outcome State Fault Refusal :=
  let x := saf s n
  .next (if x.path == 3 && elapsed s x.pathAt (weldT (spB s n)) && pairUp s then
    tripPoint n (cause 10) (cause 10) (pulse 75 (prm75 s n) s) else s)

/-! ## Welding (R242) -/

/-- The contactor is confirmed open (R242). -/
def confirmOpen (n : Fin 8) (s : State) : State :=
  closeWarm n (tryClose n 0 (modSafe n (fun x => { x with
    openConf := true, openAt := s.clk.mono, closed := false, coilOffAt := none, dcVolt := false, weldOk := true }) s))

/-- WELDED is latched: both paths are held off, the point is out of service, and the wait for opening is over (R237,
R242). -/
def weldNow (n : Fin 8) (s : State) : State :=
  let s := modSafe n (fun x => { x with
    openConf := false, closed := false, coilOffAt := none, dcVolt := false, weldOk := false, clearSince := none }) s
  let s := modNvPt n (fun x => { x with welded := true }) s
  let s := cutLow n (noteTrip n (cause 9) (level 75 n.1 true (prm75 s n) s))
  closeWarm n (tryClose n 0 (setOos n 2 s))

/-- The instant from which WELD_T runs for the voltage indicator of a DC point: the acceptance of B or A, not before coil
off; none before it (R242). -/
def voltFrom (s : State) (n : Fin 8) (off : Nat) : Option Nat := (pil s n).abAt.map (max off)

/-- WELD_CHECK (R242): the indicators are evaluated at the end of WELD_T, on a DC point the voltage at its own end. -/
def execWeldCheck (n : Fin 8) (s : State) : Host.Outcome State Fault Refusal :=
  let t := weldT (spB s n)
  let i := indicators s n
  .next (match (saf s n).coilOffAt with
    | none => s
    | some off =>
      if !elapsed s off t || !pairUp s then s
      else if i.1 then weldNow n s
      else if !dcPoint s n then (if i.2 then weldNow n s else confirmOpen n s)
      else if heldFor s (voltFrom s n off) t then (if i.2 then weldNow n s else confirmOpen n s)
      else modSafe n (fun x => { x with dcVolt := true }) s)

/-- DC_VOLTAGE_CHECK_TIMEOUT (R242): neither B nor A within 10 s of coil off; the voltage indicator is not evaluated, and the contactor
is confirmed open if its auxiliary contact shows open. -/
def execDcVoltageCheckTimeout (n : Fin 8) (s : State) : Host.Outcome State Fault Refusal :=
  let x := saf s n
  .next (match x.coilOffAt with
    | none => s
    | some off =>
      if dcPoint s n && x.dcVolt && (pil s n).abAt.isNone && elapsed s off 10000000 && pairUp s then
        let s := modSafe n (fun x => { x with voltUnch := true }) s
        if auxClosed s n then weldNow n s else confirmOpen n (pulse 75 (prm75 s n) s)
      else s)

/-- WELD_WHILE_OPEN (R242): an indicator shows closed or present for 100 ms with the contactor commanded open. After a coil off each
indicator counts from its own evaluation on (log entry 1004). -/
def execWeldWhileOpen (n : Fin 8) (s : State) : Host.Outcome State Fault Refusal :=
  .next (if heldFor s (saf s n).indSince 100000 && !(nvp s n).welded && pairUp s then weldNow n s else s)

/-- WELDED is cleared by SAF_RESET OP 1, which counts as a passed welding check (R242, R471). -/
def weldClear (n : Fin 8) (s : State) : State :=
  let s := modSafe n (fun x => { x with weldOk := true, openConf := true, openAt := s.clk.mono, indSince := none }) (modNvPt n (fun x => { x with welded := false }) s)
  clearOos n 4 (level 75 n.1 false (prm75 s n) s)

/-! ## Application reset (R161, R450) -/

/-- APP_RESET_OPEN_TIMEOUT (R161, R450): 3 s after the reset began, or after an X2-to-X1 change, with the vehicle still
in C. -/
def execAppResetOpenTimeout (n : Fin 8) (s : State) : Host.Outcome State Fault Refusal :=
  let x := ses s n
  .next (if !(saf s n).coil || !pairUp s then s
    else if (x.x1Arm && elapsed s x.x1At 3000000) || heldFor s (pil s n).x1cSince 3000000 then leaveC n s else s)

/-! ## Device safe state (R231, R232) -/

/-- A finding is a safety-pair fault (R228 to R231). -/
def isPairFault (s : State) : PairFault → Bool
  | .tick s1 periods => let e := if s1 then 9600 else 10000
      decide (3 ≤ periods.length) && periods.all fun p => decide (e * 2 < (if p < e then e - p else p - e) * 100)
  | .overrun us => decide (100 < us)
  | .words _ a b => decide (a ≠ b)
  | .lasting n item =>
    let x := saf s n
    if item = 1 then x.resDiff == 100 else if item = 2 then x.wbDiff == 100
    else if item = 3 then x.pilDiff.any fun t => decide (t + 15000 < s.clk.mono)
    else item == 4 && heldFor s x.vecDiff 1000000
  | .silent c => decide (3 ≤ c)
  | .selfTest => true

/-- The kind and the item of R230 of a safety-pair fault (R250): 0 tick, 1 overrun, 2 disagreement, 3 no cycle word,
4 self-test; 5 main clock. -/
def faultCode : PairFault → Nat × Nat
  | .tick s1 _ => (0, b2n s1)
  | .overrun _ => (1, 0)
  | .words check _ _ => (2, if check then 5 else 0)
  | .lasting _ item => (2, item)
  | .silent _ => (3, 0)
  | .selfTest => (4, 0)

/-- A point enters the device safe state: both paths low, the pilot at F from its next period (R149, R150), the power stage told to
stop, an open session to end with SAFETY_TRIP (R231). -/
def pointSafe (n : Fin 8) (s : State) : State :=
  let s := cutLow n (openCoil n s)
  let s := modSafe n (fun x => { x with coilOffAt := none, reqClose := false, closed := false, openConf := false }) s
  let s := leaveDc n s
  if sessRuns s n then modSess n (fun x => { x with ending := some .safetyTrip }) (markEnd n .safetyTrip s) else s

/-- Every coil channel goes off, that of the supply contactor among them (R252). -/
def coilsOff (s : State) : State :=
  (units 24).foldl (fun t c => if chRole (chB t c.1) = 2 then chanOff c t else t) { s with bill.supOn := false, bill.supAt := none }

/-- The device safe state is entered (R231, R252): E79 with the fault kind and the item. -/
def enterSafe (kind item : Nat) (s : State) : State :=
  if s.safeDev.safeState then s
  else
    let s := { s with
      safeDev.safeState := true, safeDev.safeAt := s.clk.mono, nvSafe.fault := some (kind, item), nvSafe.told := false }
    coilsOff ((points s).foldl (fun t n => pointSafe n t) (pulse 79 (prm [(1, kind), (1, item)]) s))

/-- The first start after a safety-pair fault reports it with E79 once more (R231, R250). -/
def reportFault (s : State) : State :=
  match s.nvSafe.fault with
  | some (k, i) => if s.nvSafe.told then s else pulse 79 (prm [(1, k), (1, i)]) { s with nvSafe.told := true }
  | none => s

/-- SAFE_STATE is high (R232). -/
def safeStateHigh (s : State) : Bool := !(pairUp s && s.safeDev.running)

/-- SAFE_STATE_SESSION_END (R231): WELD_T after the entry, an open session closes with WELDED or UNCONFIRMED. -/
def execSafeStateSessionEnd (n : Fin 8) (s : State) : Host.Outcome State Fault Refusal :=
  .next (if s.safeDev.safeState && elapsed s s.safeDev.safeAt (weldT (spB s n)) && sessRuns s n then
    closeValues n .safetyTrip (if lsvWithin s n 1250 then 1 else 32) s else s)

/-! ## SAFE_RST (R240) -/

/-- E78: the pulse length in ms (R250). -/
def e78 (low : Nat) (s : State) : State := pulse 78 (prm [(4, low / 1000)]) s

/-- SAFE_RST_PULSE (R240): a low level of `low` µs after `idle` µs of high level, followed by `high` µs of high level;
`both` says that both cores sampled it so. A low level longer than 10 s is stuck, and 1 s of high level ends that. -/
def execSafeRstPulse (idle low high : Nat) (both : Bool) (s : State) : Host.Outcome State Fault Refusal :=
  let stuck := (s.safeDev.srStuck && decide (idle < 1000000)) || decide (10000000 < low)
  let ok := both && !stuck && decide (100000 ≤ low) && decide (low ≤ 3000000) && decide (100000 ≤ high)
  .next (if !rstEn (sdB s) || !pairUp s then s
    else
      let s := { s with safeDev.srStuck := stuck && decide (high < 1000000) }
      if ok then
        (points s).foldl (fun t n =>
          if (nvp t n).tripped && (resetMode (spB t n) == 2 || resetMode (spB t n) == 3) && triggerClear t n then resetTrip n 2 t else t)
          (e78 low s)
      else e78 low s)

/-- SAFE_RST_STUCK (R240): low for longer than 10 s. -/
def execSafeRstStuck (low : Nat) (s : State) : Host.Outcome State Fault Refusal :=
  .next (if rstEn (sdB s) && pairUp s && decide (10000000 < low) && !s.safeDev.srStuck then
    e78 low { s with safeDev.srStuck := true } else s)

/-! ## Commands -/

/-- The blocks and points MASK of SAF_COMMIT names (R247). -/
def safPoints (m : Nat) : List (Fin 8) := (units 8).filter fun n => bit m (n.1 + 1)
def safIds (m : Nat) : List Nat := (if bit m 0 then [0x0500] else []) ++ (safPoints m).map fun n => 0x0501 + n.1

/-- The checks R246 makes at commit: COIL_CH names a committed coil channel, and no two points name the same one. -/
def safCross (s : State) (cs : List BlkCopy) (m : Nat) : Bool :=
  let coil := fun (n : Fin 8) => coilCh (afterCommit s cs (0x0501 + n.1))
  let have_ := (points s).filter fun n => (committed s (0x0501 + n.1)).isSome || bit m (n.1 + 1)
  (safPoints m).all (fun n => (committed s (0x0600 + coil n)).any fun b => chRole b == 2) && distinct (have_.map coil)

/-- SAF_COMMIT (R246, R247). -/
def safCommitBody (f : Flight) (s : State) : CmdOut :=
  let p := f.pkt.payload
  let m := u16 0 p
  need (!(m == 0) && decide (m < 2 ^ 9) && rsv 2 2 p && (safPoints m).all (hasPoint s)) stBadParam <|
  takeStored s (safIds m) fun cs =>
  need (safCross s cs m) stBadParam <|
  need (!(safPoints m).any (contactorShut s) && !(bit m 0 && (points s).any (contactorShut s))) stState <|
  let s := recheck (commitCopies cs s)
  let s := if rstEn (sdB s) then s else { s with safeDev.srStuck := false }
  .done s (tApplied s)

def execSafCommit (p : Pkt) (s : State) : Host.Outcome State Fault Refusal := .next (command 0x0501 (sized 4 safCommitBody) p s)

/-- SSTATE (R248): the device safe state, out of service, tripped with its trigger present or awaiting reset, closed,
held, released. -/
def sstate (s : State) (n : Fin 8) : Nat :=
  if s.safeDev.safeState then 6 else if outOfService s n then 5
  else if (nvp s n).tripped then (if triggerClear s n then 4 else 3)
  else if (saf s n).closed then 2 else if holdBits s n != 0 then 1 else 0

/-- Minutes since the last passed test, saturating; all ones without one (R248). -/
def testAge (s : State) (n : Fin 8) : Nat :=
  if (nvp s n).tTest = 0 then 0xFFFFFFFF else min 0xFFFFFFFF ((now s - (nvp s n).tTest) / 60000000)

/-- SAF_STATUS (R248). -/
def safStatusBody (f : Flight) (s : State) : CmdOut :=
  let p := f.pkt.payload
  match pointOf s (u8 0 p) with
  | none => .fail stBadParam
  | some n =>
    need (rsv 1 3 p) stBadParam <|
    let x := nvp s n
    let y := saf s n
    .done s (le 8 (now s) ++ le 1 (pno n) ++ le 1 (sstate s n) ++ le 2 (holdBits s n).toNat ++ le 4 x.trip.toNat ++
      le 8 x.tTrip ++ le 4 y.check ++ le 4 (confirmedOf s n) ++ le 1 (autoResets s n) ++
      le 1 (b2n y.coil + 2 * b2n y.cutRead + 4 * b2n (auxClosed s n) + 8 * b2n y.lsv + 16 * b2n (safeStateHigh s)) ++
      zeros 2 ++ le 4 (testAge s n))

def execSafStatus (p : Pkt) (s : State) : Host.Outcome State Fault Refusal := .next (command 0x0502 (sized 4 safStatusBody) p s)

/-- CONFIRMED_n is set in both copies (R244): E77. -/
def confirmCheck (n : Fin 8) (v : Nat) (s : State) : State :=
  e77 n (confirmedOf s n) v (modNvPt n (fun x => { x with confirmed := v, confirmed2 := v }) s)

/-- SAF_CONFIRM (R244, R248). -/
def safConfirmBody (f : Flight) (s : State) : CmdOut :=
  let p := f.pkt.payload
  match pointOf s (u8 0 p) with
  | none => .fail stBadParam
  | some n =>
    need (rsv 1 3 p) stBadParam <| needAuth s f 3 <|
    need (u32 4 p == (saf s n).check) stState <| .done (confirmCheck n (u32 4 p) s) []

def execSafConfirm (p : Pkt) (s : State) : Host.Outcome State Fault Refusal := .next (command 0x0503 (sized 8 safConfirmBody) p s)

/-- The points a POINT byte of SAF_RESET names. -/
def resetPoints (s : State) (v : Nat) : Option (List (Fin 8)) :=
  if v = 0xFF then some (points s) else (pointOf s v).map fun n => [n]

/-- A point a path test of SAF_RESET concerns: PATH_FAIL or CUT_FAULT, and the contactor confirmed open (R249). -/
def pathDue (s : State) (n : Fin 8) : Bool :=
  pairUp s &&
  ((nvp s n).pathFail || (nvp s n).cutFault) && confirmedOpen s n && (saf s n).path == 0

/-- OP 0: trips are reset, after a path test where PATH_FAIL or CUT_FAULT is set (R248, R249). -/
def safReset0 (f : Flight) (ns : List (Fin 8)) (s : State) : CmdOut :=
  let faulty := fun n => (nvp s n).pathFail || (nvp s n).cutFault
  let tests := ns.filter (pathDue s)
  let trips := ns.filter fun n => safResets s n && !faulty n
  if tests.isEmpty && trips.isEmpty then .fail stState
  else if s.safeDev.resetCmd.isSome then .fail stBusy
  else
    let s := trips.foldl (fun t n => safResetPoint n t) { s with safeDev.resetMask := 0 }
    if tests.isEmpty then .done { s with safeDev.resetMask := 0 } (le 2 s.safeDev.resetMask ++ zeros 2)
    else .wait (tests.foldl (fun t n => modSafe n (fun x => { x with pathOnly := true }) (path1 n t))
      { s with safeDev.resetCmd := some f })

/-- OP 1: WELDED clears on points whose indicators have both shown open and absent for 1 s (R242). -/
def safReset1 (ns : List (Fin 8)) (s : State) : CmdOut :=
  let ok := ns.filter fun n => (nvp s n).welded && heldFor s (saf s n).clearSince 1000000
  if ok.isEmpty then .fail stState
  else .done (ok.foldl (fun t n => weldClear n t) s) (le 2 ((ok.map fun n => 2 ^ n.1).sum) ++ zeros 2)

/-- SAF_RESET (R239, R242, R248, R249). -/
def safResetBody (f : Flight) (s : State) : CmdOut :=
  let p := f.pkt.payload
  match resetPoints s (u8 0 p) with
  | none => .fail stBadParam
  | some ns =>
    need (decide (u8 1 p ≤ 1) && rsv 2 2 p) stBadParam <| needAuth s f 3 <|
    if u8 1 p = 0 then safReset0 f ns s else safReset1 ns s

def execSafReset (p : Pkt) (s : State) : Host.Outcome State Fault Refusal := .next (command 0x0504 (sized 4 safResetBody) p s)

end Sys2Proof.Machine
end

