-- ==== Sys2Proof/Machine/FieldStore.lean ====
section
/-!
DEFINITION. The field store (spec/13_field_store.md): records and copies (R303, R304), the write protocol of both sides (R305
to R308), the field side's commands (R302, R309), what the wired side writes and processes (R310, R311), its commands (R312 to
R314), and the safety events that change STATUS.
-/

namespace Sys2Proof.Machine

/-! ## Copies (R303, R304) -/

/-- The 256 bytes of a copy of record `r` with a generation and data. -/
def copyBytes (r gen : Nat) (d : List Byte) : List Byte :=
  let body := le 2 r ++ le 2 d.length ++ fit 244 d
  body ++ le 4 (crc32 (body ++ le 4 gen)) ++ le 4 gen

/-- The CRC of a copy as manufactured. -/
def mfgCrc (r : Nat) : Nat := crc32 (le 2 r ++ zeros 246 ++ zeros 4)

/-- What an unlisted address of the store reads as: every copy with DLEN 0, GEN 0 and a valid CRC (R304). -/
def fsDflt (a : Nat) : Byte :=
  let o := a % 256
  if o < 2 then (le 2 (a / 512)).getD o 0 else if 248 ≤ o ∧ o < 252 then (le 4 (mfgCrc (a / 512))).getD (o - 248) 0 else 0

/-- The address of a copy: primary, or backup. -/
def copyAt (r : Nat) (backup : Bool) : Nat := 512 * r + (if backup then 256 else 0)

/-- A copy as it stands. -/
def readCopy (m : List Cell) (r : Nat) (backup : Bool) : List Byte := cellSlice fsDflt m (copyAt r backup) 256

/-- GEN of a copy. -/
def copyGen (c : List Byte) : Nat := u32 252 c

/-- A copy is valid (R304). -/
def copyValid (r : Nat) (c : List Byte) : Bool := u16 0 c == r && u32 248 c == crc32 (c.take 248 ++ c.drop 252)

/-- The current content of a record: the copy, and whether the primary is valid at its generation; none when it is lost. -/
def current (m : List Cell) (r : Nat) : Option (List Byte × Bool) :=
  let p := readCopy m r false
  let b := readCopy m r true
  match copyValid r p, copyValid r b with
  | true, true => if copyGen p < copyGen b then some (b, false) else some (p, true)
  | true, false => some (p, true)
  | false, true => some (b, false)
  | false, false => none

/-- GEN of a record, 0 when it is lost. -/
def recGen (m : List Cell) (r : Nat) : Nat := ((current m r).map fun c => copyGen c.1).getD 0

/-- The data of a copy. -/
def copyData (c : List Byte) : List Byte := slice 4 (min 244 (u16 2 c)) c

/-- STATE of a record: 0 consistent, 1 primary stale, 2 lost (R309). -/
def recState (m : List Cell) (r : Nat) : Nat := match current m r with | some c => b2n (!c.2) | none => 2

/-! ## The write protocol (R305) -/

/-- The word writes of one copy: words 0 to 62, then GEN. -/
def copyWords (r : Nat) (backup : Bool) (c : List Byte) : List (Nat × List Byte) :=
  (List.range 64).map fun i => (copyAt r backup + 4 * i, slice (4 * i) 4 c)

/-- Word writes carried out in order. -/
def putWords (ws : List (Nat × List Byte)) (m : List Cell) : List Cell := ws.foldl (fun m w => cellPuts fsDflt w.1 w.2 m) m

/-- Step 0's repair: the primary is rewritten from the backup when it is not valid at the current generation. -/
def repairWords (m : List Cell) (r : Nat) : List (Nat × List Byte) :=
  match current m r with
  | some (c, false) => copyWords r false c
  | _ => []

/-- Every word write of a record write, from the repair to the primary's GEN; `gen` is the new generation. -/
def writeWords (m : List Cell) (r gen : Nat) (d : List Byte) : List (Nat × List Byte) :=
  repairWords m r ++ copyWords r true (copyBytes r gen d) ++ copyWords r false (copyBytes r gen d)

/-- Why a write is refused at step 0: 0x6986 lost or retired, 0x6985 GEN not e (R305, R306, R309). -/
def writeRefused (m : List Cell) (r e : Nat) : Option Nat :=
  match current m r with
  | none => some 0x6986
  | some c => if copyGen c.1 = 0xFFFFFFFF then some 0x6986 else if copyGen c.1 ≠ e then some 0x6985 else none

/-! ## The field side (R301, R302, R309) -/

/-- The field domain draws a new UID at a power-up: 0x08 and three random bytes (R302). -/
def newUid (s : State) : State := drawn 3 { s with fst.uid := 0x08000000 + unle (rands 3 s) }

/-- FIELD_POWER_UP (R301, R302): a phone's field of `mAm` mA/m; a domain supplied from VIO is powered already. -/
def execFieldPowerUp (mAm : Nat) (s : State) : Host.Outcome State Fault Refusal :=
  .next (if mAm < 1500 ∨ s.fst.powered then s
    else { (if s.pwr.vioValid then s else newUid s) with fst.powered := true })

/-- The answer the field side gets: status word and data. -/
def fsAnswer (sw : Nat) (d : List Byte) (s : State) : State := { s with fst.sw := sw, fst.ans := d }

/-- An upper-case hex digit. -/
def hexDigit (v : Nat) : Byte := BitVec.ofNat 8 (if v < 10 then 48 + v else 55 + v)

/-- The NDEF file: one URI record, "salilo:" and the serial in 16 upper-case hex digits (R302), in the form of the NFC Forum's
specifications (log entry 1301). -/
def ndefFile : List Byte :=
  let uri : List Byte := [0x73, 0x61, 0x6C, 0x69, 0x6C, 0x6F, 0x3A] ++
    (List.range 16).map fun i => hexDigit (Config.serial.toNat / 16 ^ (15 - i) % 16)
  [0x00, 0x1C, 0xD1, 0x01, 0x18, 0x55, 0x00] ++ uri

/-- The capability container; the sizes it states are free values (log entry 1301). -/
def ccFile (s : State) : List Byte :=
  let k := s.clk.free
  [0x00, 0x0F, 0x20] ++ be 2 (Config.freeNat k) ++ be 2 (Config.freeNat (k + 1)) ++ [0x04, 0x06, 0xE1, 0x04] ++
    be 2 (Config.freeNat (k + 2)) ++ [0x00, 0xFF]

/-- NDEF_READ (R302): the NDEF application is selected and a file read: 0xE103 or 0xE104. -/
def execNdefRead (file : Nat) (s : State) : Host.Outcome State Fault Refusal :=
  .next (if !s.fst.powered then s
    else if file = 0xE103 then drawn 3 (fsAnswer 0x9000 (ccFile s) s)
    else if file = 0xE104 then fsAnswer 0x9000 ndefFile s
    else fsAnswer 0x6A82 [] s)

/-- FIELD_READ (R309): INS 0x10 with the record number in P1. -/
def execFieldRead (p1 : Nat) (data : List Byte) (s : State) : Host.Outcome State Fault Refusal :=
  .next (if !s.fst.powered then s
    else if !data.isEmpty then fsAnswer 0x6700 [] s
    else if 31 < p1 then fsAnswer 0x6A83 [] s
    else
      let d := match current s.fst.mem p1 with | some c => copyData c.1 | none => []
      fsAnswer 0x9000 (le 4 (recGen s.fst.mem p1) ++ le 2 d.length ++ le 1 (recState s.fst.mem p1) ++ zeros 1 ++ d) s)

/-- Records the field side may write: CONFIRM_n and SITE (R304). -/
def fieldMay (r : Nat) : Bool := within r 2 10

/-- Whether INS 0x12 is refused: the status word of the first check that fails (R305, R309, R314). -/
def fieldRefused (s : State) (p1 : Nat) (d : List Byte) : Option Nat :=
  if d.length < 6 ∨ 244 < u16 4 d ∨ d.length ≠ 6 + u16 4 d then some 0x6700
  else if 31 < p1 ∨ 10 < p1 then some 0x6A83
  else if !fieldMay p1 || s.fst.modeWord == 1 then some 0x6982
  else writeRefused s.fst.mem p1 (u32 0 d)

/-- The first `k` word writes of a field-side write; the wired side finds the record once new data stands (R305, R311). -/
def fieldPut (p1 k : Nat) (d : List Byte) (s : State) : State :=
  let e := u32 0 d
  let m := putWords ((writeWords s.fst.mem p1 ((e + 1) % 2 ^ 32) (d.drop 6)).take k) s.fst.mem
  let new := recGen m p1 != e
  { s with fst.mem := m, fst.confW := if new then s.fst.confW ||| BitVec.ofNat 32 (2 ^ p1) else s.fst.confW }

/-- FIELD_WRITE (R305, R309): INS 0x12 with e, DLEN and data; the operand counts the failed verifies of the backup and of the
primary. A second failure ends the write with a memory failure where it stands. -/
def execFieldWrite (p1 : Nat) (data : List Byte) (bad : Nat × Nat) (s : State) : Host.Outcome State Fault Refusal :=
  .next (if !s.fst.powered then s
    else match fieldRefused s p1 data with
      | some sw => fsAnswer sw [] s
      | none =>
        let r := (repairWords s.fst.mem p1).length
        if 2 ≤ bad.1 then fsAnswer 0x6581 [] (fieldPut p1 (r + 64) data s)
        else if 2 ≤ bad.2 then fsAnswer 0x6581 [] (fieldPut p1 (r + 128) data s)
        else fsAnswer 0x9000 (le 4 (u32 0 data + 1)) (fieldPut p1 (r + 128) data s))

/-- FIELD_COLLAPSE (R301, R305): the field collapses, in the write of a record after `k` word writes where one was running; the
domain goes on from VIO while VIO is valid. -/
def execFieldCollapse (cut : Option (Nat × List Byte × Nat)) (s : State) : Host.Outcome State Fault Refusal :=
  .next (if !s.fst.powered then s
    else
      let s := match cut with
        | some c => if (fieldRefused s c.1 c.2.1).isNone then fieldPut c.1 (if s.pwr.vioValid then 192 else c.2.2) c.2.1 s else s
        | none => s
      { s with fst.powered := false })

/-! ## The wired side (R307, R310, R311) -/

/-- E12: record number, GEN, cause: 0 written by the field side, 1 primary repaired, 2 lost record restored (R315). -/
def e12 (r gen cause : Nat) (s : State) : State := pulse 12 (prm [(2, r), (4, gen), (1, cause)]) s

/-- GEN last seen of a record (R307). -/
def sawGen (r g : Nat) (s : State) : State := { s with nvFst.lastGen := vatMod s.nvFst.lastGen r fun _ => g }

/-- RECORD_REPAIR (R307): a stale primary is rewritten, a lost record restored. -/
def repairRec (r : Nat) (s : State) : State :=
  match current s.fst.mem r with
  | some (c, ok) =>
    let s := sawGen r (copyGen c) s
    if ok then s else e12 r (copyGen c) 1 { s with fst.mem := putWords (repairWords s.fst.mem r) s.fst.mem }
  | none =>
    let g := (vat s.nvFst.lastGen r 0 + 1) % 2 ^ 32
    let c := copyBytes r g []
    e12 r g 2 (sawGen r g { s with fst.mem := putWords (copyWords r true c ++ copyWords r false c) s.fst.mem })

/-- The wired side writes a record under R305, at its current generation; a retired record stands. -/
def wiredWrite (r : Nat) (d : List Byte) (s : State) : State :=
  let s := repairRec r s
  let g := recGen s.fst.mem r
  if g = 0xFFFFFFFF then s else sawGen r (g + 1) { s with fst.mem := putWords (writeWords s.fst.mem r (g + 1) d) s.fst.mem }

/-- IDENTITY (R310). -/
def identity (s : State) : List Byte :=
  le 8 Config.serial.toNat ++ s.member.name ++ sha (((certAt s 0 0).map (·.der)).getD []) ++ le 4 (activeSet s).fwVer ++ le 4 (activeSet s).metVer

/-- STATUS of one point (R310). -/
def statusPoint (s : State) (n : Fin 8) : List Byte :=
  if hasPoint s n then
    le 4 (saf s n).check ++ le 4 (confirmedOf s n) ++ le 4 (vget s.nvFst.procGen n) ++ le 1 (vget s.nvFst.result n) ++ le 1 (sstate s n) ++ zeros 2
  else zeros 16

/-- STATUS without its T_UPDATE (R310). -/
def statusBody (s : State) : List Byte := (units 8).flatMap (statusPoint s) ++ le 1 s.pwr.addr ++ le 1 s.nvFst.mode ++ zeros 2

/-- T runs and reaches the store from the wired side (R307, R441). -/
def wiredRuns (s : State) : Bool := s.pwr.phase == .run && s.pwr.tRunning && s.pwr.vioValid

/-- STATUS is written at each change of a value it holds (R304, R310). -/
def statusSync (s : State) : State :=
  if !wiredRuns s then s
  else
    let d := match current s.fst.mem 1 with | some c => copyData c.1 | none => []
    if d.drop 8 = statusBody s then s else wiredWrite 1 (le 8 (now s) ++ statusBody s) s

/-- SAFETY_CYCLE: the cycle, and STATUS where it changed a value (R229, R310). -/
def execSafetyCycle (pts : List PtIn) (npe : Int) (s : State) : Host.Outcome State Fault Refusal :=
  .next (if pairUp s then statusSync (safetyCycle pts npe s) else s)

/-- SAFETY_PAIR_FAULT (R228 to R231). -/
def execSafetyPairFault (x : PairFault) (s : State) : Host.Outcome State Fault Refusal :=
  .next (if isPairFault s x && pairUp s then statusSync (enterSafe (faultCode x).1 (faultCode x).2 s) else s)

/-- RESULT of a CONFIRM_n record: the first check that fails, or 1 (R311). -/
def confirmResult (s : State) (n : Fin 8) (gen : Nat) (d : List Byte) : Nat :=
  let d := fit 144 d
  if u8 0 d ≠ pno n ∨ u64 8 d ≠ Config.serial.toNat ∨ !hasPoint s n then 5
  else if u32 16 d ≠ gen then 6
  else match credOf s (slice 28 20 d) with
    | none => 3
    | some (c, pub) =>
      if !Config.ecdsaVerify pub (d.take 48) (slice 48 96 d) then 3
      else if !c.auth.testBit 3 then 4
      else if u32 4 d ≠ (saf s n).check then 2 else 1

/-- Records the field side has written are found, with E12 (R315). -/
def foundWrites (s : State) : State :=
  (units 32).foldl (fun t r => if s.fst.confW.getLsbD r.1 then e12 r.1 (recGen t.fst.mem r.1) 0 t else t) { s with fst.confW := 0 }

/-- One CONFIRM_n record is processed, once per generation (R311). -/
def confirmRec (n : Fin 8) (s : State) : State :=
  let r := n.1 + 2
  let s := repairRec r s
  match current s.fst.mem r with
  | none => s
  | some (c, _) =>
    let g := copyGen c
    if g ≤ vget s.nvFst.procGen n then s
    else
      let res := confirmResult s n g (copyData c)
      let s := { s with nvFst.procGen := vset s.nvFst.procGen n g, nvFst.result := vset s.nvFst.result n res }
      if res = 1 ∧ confirmedOf s n ≠ (saf s n).check then confirmCheck n (saf s n).check s else s

/-- CONFIRM_PROCESS (R311). -/
def execConfirmProcess (n : Fin 8) (s : State) : Host.Outcome State Fault Refusal :=
  .next (if wiredRuns s && s.pwr.kRunning then statusSync (confirmRec n (foundWrites s)) else s)

/-- What the wired side does with the store at each cold start (R304, R307, R310, R311). -/
def storeStart (s : State) : State :=
  let s := (units 32).foldl (fun t r => repairRec r.1 t) s
  let s := (units 8).foldl (fun t n => confirmRec n t) (foundWrites s)
  statusSync (wiredWrite 0 (identity s) s)

/-! ## Commands (R312 to R314) -/

/-- FS_READ (R312). -/
def fsReadBody (f : Flight) (s : State) : CmdOut :=
  let p := f.pkt.payload
  let r := u8 0 p
  need (decide (r < 32) && rsv 1 3 p) stBadParam <|
  let s := repairRec r (statusSync s)
  let d := match current s.fst.mem r with | some c => copyData c.1 | none => []
  .done s (le 4 (recGen s.fst.mem r) ++ le 2 d.length ++ le 1 (recState s.fst.mem r) ++ zeros 1 ++ fit 244 d)

def execFsRead (p : Pkt) (s : State) : Host.Outcome State Fault Refusal := .next (command 0x0E01 (sized 4 fsReadBody) p s)

/-- FS_WRITE (R313). -/
def fsWriteBody (f : Flight) (s : State) : CmdOut :=
  let p := f.pkt.payload
  let len := u16 2 p
  let e := u32 4 p
  need (decide (8 ≤ p.length) && rsv 1 1 p && decide (len ≤ 244) && p.length == 8 + len) stBadParam <|
  need (u8 0 p == 10) stDenied <|
  let s := repairRec 10 s
  if (writeRefused s.fst.mem 10 e).isSome then .failed s stState
  else .done (wiredWrite 10 (p.drop 8) s) (le 4 (e + 1))

def execFsWrite (p : Pkt) (s : State) : Host.Outcome State Fault Refusal := .next (command 0x0E02 fsWriteBody p s)

/-- FS_CTL (R314). -/
def fsCtlBody (f : Flight) (s : State) : CmdOut :=
  let p := f.pkt.payload
  need (decide (u8 0 p ≤ 1) && rsv 1 3 p) stBadParam <| needAuth s f 3 <|
  .done (statusSync { s with nvFst.mode := u8 0 p, fst.modeWord := u8 0 p }) []

def execFsCtl (p : Pkt) (s : State) : Host.Outcome State Fault Refusal := .next (command 0x0E03 (sized 4 fsCtlBody) p s)

end Sys2Proof.Machine
end

