-- ==== Sys2Proof/Machine/Ledger.lean ====
section
/-!
DEFINITION. The ledger (spec/06_ledger_persistence.md): the order in which queued records are written (R141), their layout,
hashes and signatures (R133, R134, R139), the write of one record with what it brings (R140, R145, R148), and the commands of
R144 to R147.
-/

namespace Sys2Proof.Machine

/-! ## Order of writing (R141, R143) -/

/-- Place in the order of TIME, then of R116, then of TYPE, then of POINT; the chain begins with its chain-start record (R132). -/
def recKey (r : PendRec) : Nat :=
  if r.type = 8 then 0 else ((r.time * 8 + (if r.type = 6 then 6 else if r.type = 2 then 4 else 0)) * 256 + r.type) * 256 + r.point

/-- The first record by that order. -/
def recMin : List PendRec → Option PendRec
  | [] => none
  | r :: rs => match recMin rs with | some q => if recKey q < recKey r then some q else some r | none => some r

/-- The record to write next: those queued before a restoration in the order of R141, then the restoration's own in the order
of R143, then the later ones. -/
def nextRec (q : List PendRec) : Option PendRec :=
  match q.find? (fun r => r.type == 8) with
  | some r => some r
  | none => match recMin (q.takeWhile fun r => !r.rest) with
  | some r => some r
  | none => q.head?

/-- The export record that follows a session record (R135). -/
def exportFor (q : List PendRec) (r : PendRec) : Option PendRec :=
  if r.type = 1 ∧ bit (u16 18 r.body) 1 then
    q.find? fun x => x.type == 3 && x.point == r.point && x.rest == r.rest && u32 0 x.body == u32 0 r.body
  else none

/-! ## Writing (R133, R134, R139, R140) -/

/-- SHA-384 of the newest record of a chain, 48 zero bytes at SEQ 0. -/
def prevHash (seq : Nat) (l : List (Nat × List Byte)) : List Byte :=
  if seq = 0 then zeros 48 else match l.head? with | some r => sha r.2 | none => zeros 48

/-- Bytes 0 to 287 of a session-chain record (R133). -/
def recHead (type seq time : Nat) (prev body : List Byte) : List Byte :=
  le 1 type ++ le 1 1 ++ le 2 384 ++ le 4 seq ++ le 8 time ++ fit 48 prev ++ fit 224 body

/-- A record in the slot at the write pointer of the session chain enters the chain: the pointer advances. With OVERWRITE = 1 an
unacknowledged record may be lost to it, which is counted and raises E42 (R140, R145). -/
def chainAdvance (b : List Byte) (s : State) : State :=
  let lost := decide (chainCap ≤ s.led.nxt - s.led.acked)
  let s := { s with led.slot := none, led.chain := ((s.led.nxt, b) :: s.led.chain).take chainCap, led.nxt := s.led.nxt + 1 }
  if lost then deliver 42 true [] { s with led.overwritten := satAdd 32 s.led.overwritten 1 } else s

/-- The body of the chain-start record (R132, R134). -/
def startBody (s : State) : List Byte :=
  sha (((certAt s 0 0).map (·.der)).getD []) ++ le 8 Config.serial.toNat ++ le 4 (activeSet s).metVer

/-- The profile entries a daily record of time `t` covers, in order of T_END (R139). -/
def covered (s : State) (t : Nat) : List (Nat × List Byte) :=
  (s.led.profile.filter fun e => decide (s.led.dailyTime < e.1) && decide (e.1 ≤ t)).reverse

/-- Bytes 0 to 575 of a daily record (R139): PROFILE_GAP where an expected entry is missing. -/
def dailyHead (d : PendRec) (s : State) : List Byte :=
  let seq := s.led.dailyNext
  let es := covered s d.time
  let expect := d.time / profUs - s.led.dailyTime / profUs
  let gap := seq != 0 && decide (es.length < expect)
  let body := patch 458 (le 2 (u16 458 d.body ||| (if gap then 8 else 0))) d.body
  le 1 2 ++ le 1 1 ++ le 2 672 ++ le 4 seq ++ le 8 d.time ++ body.take 8 ++ prevHash seq s.led.daily ++
    sha (es.flatMap (·.2)) ++ body.drop 8

/-- A record in the slot at the write pointer of the daily chain enters the chain (R131, R139, R140). -/
def dailyAdvance (b : List Byte) (s : State) : State :=
  { s with
    led.slot := none, led.daily := ((s.led.dailyNext, b) :: s.led.daily).take 9362
    led.dailyNext := s.led.dailyNext + 1, led.dailyTime := u64 8 b }

/-- A queued record is signed and written whole into the slot at its chain's write pointer (R133, R140); a chain-start record names the
metrology part in force when it is written (R136). -/
def slotWrite (r : PendRec) (s : State) : State :=
  let b := if r.type = 2 then dailyHead r s
    else recHead r.type s.led.nxt r.time (prevHash s.led.nxt s.led.chain) (if r.type = 8 then startBody s else r.body)
  let g := signWith 0 b s
  { g.1 with led.slot := some (r.type == 2, b ++ g.2) }

/-- The write pointer of the slot's chain advances (R140). -/
def slotAdvance (s : State) : State :=
  match s.led.slot with
  | some (true, b) => dailyAdvance b s
  | some (false, b) => chainAdvance b s
  | none => s

/-- Records can be written: K, the application cluster and the metrology pair run, outside the debug state, and ECDSA on
brainpoolP384r1 passes its tests (R141, R419, R420). -/
def canWrite (s : State) : Bool :=
  gridRuns s && s.pwr.kRunning && s.pwr.appRunning && !s.pwr.inWarm && !s.key.debug && !s.key.kat.contains katBrainpool

/-- Sessions that could not open open now (R17). -/
def retryOpen (s : State) : State :=
  (points s).foldl (fun t n =>
    if (ses t n).wantOpen && ((pil t n).st == some .B || (pil t n).st == some .C || (pil t n).st == some .D) then openSession n t else t) s

/-- The events a written record brings: E43 for a session record, E46 for a power-fail or restoration record; the session
then closes (R16, R17, R19, R148). E43 with the session number is what the model takes as the session-end event of R19, which the
spec does not number (DEDUCED, log entry 603). -/
def afterWrite (r : PendRec) (s : State) : State :=
  if r.type = 1 then
    let s := pulse 43 (prm [(4, u32 0 r.body)]) s
    match ix 8 r.point with
    | some n => if (sep s n).queued && (sep s n).no == u32 0 r.body then sessionClosed n s else s
    | none => s
  else if r.type = 6 ∨ r.type = 7 then pulse 46 [] s else s

/-- One record is written into its slot, the pointer advances, and the record leaves the queue (R140). -/
def recWrite (r : PendRec) (s : State) : State :=
  let t := slotAdvance (slotWrite r s)
  { t with p100.queue := t.p100.queue.erase r }

/-- Session-chain slots a record takes. -/
def slotsOf (q : List PendRec) (r : PendRec) : Nat := if r.type = 2 then 0 else 1 + b2n (exportFor q r).isSome

/-- The chain-start record is queued while the session chain is empty (R132, R140). -/
def queueStart (s : State) : State :=
  if s.led.nxt = 0 && !s.p100.queue.any (fun r => r.type == 8) then queueRec { type := 8, time := now s, body := startBody s } s else s

/-- A record has been written: its export record follows at once, and what they bring (R19, R135, R148). -/
def wrote (x : Option PendRec) (r : PendRec) (s : State) : State :=
  let s := match x with | some e => recWrite e s | none => s
  retryOpen (persist (ledgerLimits (afterWrite r s)))

/-- LEDGER_RECORD_WRITE (R140 to R145): the next queued record is written, a session record with its export record. Without a free
slot an event record is dropped, and any other record waits. With `done` false the write is cut after the slot is written and before
the pointer advances. -/
def ledgerWrite (done : Bool) (s : State) : State :=
  match nextRec s.p100.queue with
  | none => s
  | some r =>
    if !s.p100.overwrite && decide (freeSlots s < slotsOf s.p100.queue r) then
      if isEventRec r.type then persist (ledgerLimits (dropRec { s with p100.queue := s.p100.queue.erase r })) else s
    else if done then wrote (exportFor s.p100.queue r) r (recWrite r s)
    else slotWrite r s

def execLedgerRecordWrite (done : Bool) (s : State) : Host.Outcome State Fault Refusal :=
  .next (if canWrite s then ledgerWrite done (queueStart s) else s)

/-- The queued record the slot at a write pointer holds: its chain's SEQ is the expected one, and its type, TIME and body are the
record's (R140). -/
def slotRec (s : State) : Option PendRec :=
  match s.led.slot with
  | none => none
  | some (daily, b) =>
    if u32 4 b = (if daily then s.led.dailyNext else s.led.nxt) then
      s.p100.queue.find? fun r => decide (r.type = u8 0 b) && decide (r.time = u64 8 b) &&
        (daily || r.type == 8 || fit 224 r.body == slice 64 224 b)
    else none

/-- A cold start adopts the slot at the write pointer that holds a queued record, which leaves the queue; otherwise the entry is written
again (R140). -/
def adoptSlot (s : State) : State :=
  match slotRec s with
  | none => { s with led.slot := none }
  | some r =>
    let x := exportFor s.p100.queue r
    let t := slotAdvance s
    wrote x r { t with p100.queue := t.p100.queue.erase r }

/-! ## Commands (R144 to R147) -/

/-- LED_READ (R145). -/
def ledReadBody (f : Flight) (s : State) : CmdOut :=
  let p := f.pkt.payload
  let c := u8 0 p
  let n := u16 2 p
  let frm := u64 8 p
  need (decide (c ≤ 2) && within n 1 (match c with | 0 => 42 | 1 => 24 | _ => 85) && rsv 1 1 p && rsv 4 4 p) stBadParam <|
  let l := match c with | 0 => s.led.chain | 1 => s.led.daily | _ => s.led.profile
  need (l.any fun r => r.1 == frm) stState <|
  let rs := ((l.takeWhile fun r => decide (frm ≤ r.1)).reverse).take n
  .done s (le 2 rs.length ++ zeros 2 ++ le 4 (if c = 2 then 0 else frm) ++ rs.flatMap (·.2))

def execLedRead (p : Pkt) (s : State) : Host.Outcome State Fault Refusal := .next (command 0x0310 (sized 16 ledReadBody) p s)

/-- LED_ACK (R144, R145): cumulative; sessions refused for want of slots may open. -/
def ledAckBody (f : Flight) (s : State) : CmdOut :=
  let p := f.pkt.payload
  need (decide (u32 0 p ≤ s.led.nxt) && rsv 4 4 p) stBadParam <|
  let s := retryOpen (ledgerLimits { s with led.acked := max s.led.acked (u32 0 p) })
  .done s (le 4 s.led.acked ++ le 4 (freeSlots s))

def execLedAck (p : Pkt) (s : State) : Host.Outcome State Fault Refusal := .next (command 0x0311 (sized 8 ledAckBody) p s)

/-- LED_STATUS (R145). -/
def ledStatusBody (_ : Flight) (s : State) : CmdOut :=
  .done s (le 4 s.led.nxt ++ le 4 s.led.acked ++ le 4 (freeSlots s) ++ le 4 s.led.dropped ++ le 4 s.led.overwritten ++
    le 4 s.led.dailyNext ++ le 8 ((s.led.profile.head?.map (·.1)).getD 0) ++ le 4 s.led.logNext ++ le 1 (b2n s.p100.overwrite) ++ zeros 3)

def execLedStatus (p : Pkt) (s : State) : Host.Outcome State Fault Refusal := .next (command 0x0312 (sized 0 ledStatusBody) p s)

/-- LED_LOG_READ (R147). -/
def ledLogReadBody (f : Flight) (s : State) : CmdOut :=
  let p := f.pkt.payload
  let n := u16 4 p
  need (within n 1 511 && rsv 6 2 p) stBadParam <|
  let es := (s.led.log.reverse.dropWhile fun e => !(e.no == u32 0 p)).take n
  need (!es.isEmpty) stState <|
  .done s (le 2 es.length ++ zeros 6 ++ es.flatMap LogEnt.bytes)

def execLedLogRead (p : Pkt) (s : State) : Host.Outcome State Fault Refusal := .next (command 0x0313 (sized 8 ledLogReadBody) p s)

/-- LED_POLICY (R146). -/
def ledPolicyBody (f : Flight) (s : State) : CmdOut :=
  let p := f.pkt.payload
  need (decide (u8 0 p ≤ 1) && rsv 1 3 p) stBadParam <|
  needAuth s f 2 <|
  .done (retryOpen (persist (ledgerLimits { s with p100.overwrite := u8 0 p == 1 }))) []

def execLedPolicy (p : Pkt) (s : State) : Host.Outcome State Fault Refusal := .next (command 0x0314 (sized 4 ledPolicyBody) p s)

end Sys2Proof.Machine
end

