-- ==== Sys2Proof/Machine/LiveTest.lean ====
section
/-!
DEFINITION. Live test, by-pass and degraded operation (spec/21_live_test_degraded.md): the commands of R474 and R475.
-/

namespace Sys2Proof.Machine

/-- TST_POINT OP 0: the point goes out of service, and its session ends (R468, R469). -/
def tstOut (n : Fin 8) (s : State) : CmdOut :=
  let no := if (nvp s n).oos = 0 ∧ sessRuns s n then sessNo s n else 0
  let s := setOos n 0 s
  .done s (le 4 no ++ le 2 (nvp s n).oos.toNat ++ zeros 2)

/-- TST_POINT OP 1: HOST, GEN_FAULT and REVERSE clear together, unless the generator check that GEN_FAULT asks for fails
(R474). -/
def tstIn (n : Fin 8) (s : State) : CmdOut :=
  if (nvp s n).genFault && !genOk (pil s n).gen then .fail stState
  else
    let s := pilotNote n (fun t => clearOos n 0x43 (modNvPt n (fun x => { x with genFault := false }) t)) s
    .done s (le 4 0 ++ le 2 (nvp s n).oos.toNat ++ zeros 2)

def tstPointBody (f : Flight) (s : State) : CmdOut :=
  let p := f.pkt.payload
  match pointOf s (u8 0 p) with
  | none => .fail stBadParam
  | some n => need (decide (u8 1 p ≤ 1) && rsv 2 2 p) stBadParam <| if u8 1 p = 0 then tstOut n s else tstIn n s

def execTstPoint (p : Pkt) (s : State) : Host.Outcome State Fault Refusal := .next (command 0x0D01 (sized 4 tstPointBody) p s)

/-- E7 has been raised since the last cold start, and the other device flags (R475). -/
def devFlags (s : State) : Nat :=
  b2n s.safeDev.safeState + 2 * b2n s.fe.frozen + 4 * b2n (s.port.ring == .opened) + 8 * b2n (s.port.ptp == .holdover) +
    16 * b2n (!s.key.kat.isEmpty) + 32 * b2n (!s.p100.queue.isEmpty) + 64 * b2n s.tdr.failsafe + 128 * b2n s.dsp.dispFault +
    256 * b2n s.pwr.e7Raised

/-- A mask of the groups with a property. -/
def groupMask (s : State) (f : Fin 9 → Bool) : Nat := ((units 9).map fun g => if hasGroup s g.1 && f g then 2 ^ g.1 else 0).sum

/-- Rotation is stopped in a group: its spare serves a channel or is faulty (R40, R475). -/
def noRotation (s : State) (g : Fin 9) : Bool :=
  (vget s.nvFe.subst g).isSome || (vat s.nvFe.mods (8 * g.1 + 7) {}).faulty

/-- PMODE (R475). -/
def pmode (s : State) (n : Fin 8) : Nat :=
  if !hasPoint s n then 4 else if outOfService s n then 3 else if pointHeld s n then 2
  else if (nvp s n).modemFault && hlcEn (pilotB s n) then 1 else 0

/-- PDEG (R475). -/
def pdeg (s : State) (n : Fin 8) : Nat :=
  b2n (vget s.rdr.ant n).fault + 2 * b2n (nvp s n).modemFault + 4 * b2n (!xchkEn (rcdB s n) || !(ear s n).compAvail) +
    8 * b2n (hl s n).psFault

/-- TST_DEGRADED (R475). -/
def tstDegradedBody (_ : Flight) (s : State) : CmdOut :=
  .done s (le 8 (now s) ++ le 2 (devFlags s) ++ le 2 (groupMask s fun g => vget s.nvFe.degraded g) ++
    le 2 (groupMask s (noRotation s)) ++ zeros 2 ++
    (units 8).flatMap fun n => le 2 (nvp s n).oos.toNat ++ le 1 (pmode s n) ++ le 1 (if hasPoint s n then pdeg s n else 0) ++ le 4 (nvp s n).tOos)

def execTstDegraded (p : Pkt) (s : State) : Host.Outcome State Fault Refusal := .next (command 0x0D02 (sized 0 tstDegradedBody) p s)

end Sys2Proof.Machine
end

