-- ==== Sys2Proof/Machine/System.lean ====
section
/-!
DEFINITION. Mailboxes and the event engine (spec/17_mailboxes_events.md), the commands of opcodes 0x01xx (spec/16_host_command_port.md
and R516, R517), and the Parting fence (R384, R385).
-/

namespace Sys2Proof.Machine

/-! ## Domains (R393, R396, R441) -/

/-- State of the domain of a master identity: 0 running, 1 in reset, 2 powered down (R405, R441). -/
def rxState (s : State) (id : Nat) : Nat :=
  let down (st : List PState) (up : Bool) : Nat := if st.contains s.pwr.pstate then 2 else if up then 0 else 1
  if within id 2 5 then down [.doze, .watch] (appUp s)
  else if id = 8 then down [.watch] (vget s.pwr.pRunning 0)
  else if id = 9 then down [.watch] (vget s.pwr.pRunning 1)
  else if id = 10 then (if s.pwr.tRunning then 0 else 1)
  else if id = 11 then down [.watch] s.pwr.kRunning
  else if gridRuns s then 0 else 1

/-! ## Mailboxes (R394 to R399) -/

/-- MB_BIND[k] in force: of the option record loaded, or the factory binding (R399, R453). -/
def bindOf (s : State) (k : Nat) : Nat := u16 (2 * k) (match s.pwr.optLoaded with | some b => slice 16 64 b | none => factoryBind)

/-- The mailbox is bound, and not inert: DEBUG exists only in the debug state (R399). -/
def isBound (s : State) (k : Nat) : Bool :=
  let w := bindOf s k
  bit w 8 && within (bits w 3 0) 2 12 && within (bits w 7 4) 2 12 && (s.key.debug || (bits w 3 0 != 12 && bits w 7 4 != 12))

def modMbx (k : Fin 32) (f : Mbx → Mbx) (s : State) : State := { s with mbx := vmod s.mbx k f }

/-- A refused access: counted, E13 (R395). -/
def mbxRefuse (k : Fin 32) (s : State) : State := pulse 13 [] (modMbx k (fun m => { m with refused := satAdd 16 m.refused 1 }) s)

/-- A doorbell or timer powers up the receiver's domain: the device goes to the lowest state in which it is powered (R396,
R444). -/
def wakeFor (id src : Nat) (s : State) : State :=
  if within id 2 5 then wake src s
  else if (id = 8 ∨ id = 9 ∨ id = 11) ∧ s.pwr.pstate = .watch then
    goPstate .doze src s
  else s

/-- MAILBOX_RING (R394 to R396): RING with COUNT by `who`. -/
def execMailboxRing (k : Fin 32) (who count : Nat) (s : State) : Host.Outcome State Fault Refusal :=
  let m := vget s.mbx k
  let w := bindOf s k.1
  .next (if !gridRuns s then s
    else if !isBound s k.1 || bits w 3 0 != who || m.pending || !within count 1 16 then mbxRefuse k s
    else wakeFor (bits w 7 4) 1 (modMbx k (fun m => { m with pending := true, count, taken := false, irq := true, since := s.clk.mono }) s))

/-- MAILBOX_ACK (R394, R395, R397): TAKEN with CODE by `who`; E14 clears (R398). -/
def execMailboxAck (k : Fin 32) (who code : Nat) (s : State) : Host.Outcome State Fault Refusal :=
  let m := vget s.mbx k
  let w := bindOf s k.1
  .next (if !gridRuns s then s
    else if !isBound s k.1 || bits w 7 4 != who || !m.pending then mbxRefuse k s
    else level 14 k.1 false []
      (modMbx k (fun m => { m with pending := false, code := code % 2 ^ 16, taken := true, irq := false, e14 := false }) s))

/-- REGISTER_WRITE (R395): a data word of a mailbox by `who`, while PENDING is 0. -/
def execRegisterWrite (k : Fin 32) (who : Nat) (word : Fin 16) (v : BitVec 32) (s : State) : Host.Outcome State Fault Refusal :=
  .next (if !gridRuns s then s
    else if !isBound s k.1 || bits (bindOf s k.1) 3 0 != who || (vget s.mbx k).pending then mbxRefuse k s
    else modMbx k (fun m => { m with w := vset m.w word v }) s)

/-- MAILBOX_PENDING_TIMEOUT (R398): 500 ms pending with the receiver powered and out of reset. -/
def execMailboxPendingTimeout (k : Fin 32) (s : State) : Host.Outcome State Fault Refusal :=
  let m := vget s.mbx k
  .next (if m.pending && !m.e14 && elapsed s m.since 500000 && rxState s (bits (bindOf s k.1) 7 4) == 0 then
      level 14 k.1 true [] (modMbx k (fun m => { m with e14 := true }) s)
    else s)

/-- MBX_STATUS (R405). -/
def mbxStatusBody (_ : Flight) (s : State) : CmdOut :=
  .done s (le 8 (now s) ++ (units 32).flatMap fun k =>
    let m := vget s.mbx k
    let w := bindOf s k.1
    let st := if !isBound s k.1 then 0 else if m.pending then 2 else if m.taken then 3 else 1
    le 2 w ++ le 1 st ++ le 1 (rxState s (bits w 7 4)) ++ le 2 m.code ++ le 2 m.refused ++
      le 4 (if m.pending then min (2 ^ 32 - 1) ((s.clk.mono - m.since) / 1000) else 0))

def execMbxStatus (p : Pkt) (s : State) : Host.Outcome State Fault Refusal := .next (command 0x0108 (sized 0 mbxStatusBody) p s)

/-! ## The event engine (R400 to R404) -/

/-- EVENT_COALESCE_FLUSH (R402): each coalesced event whose domain's queue has room is entered once, then E15. -/
def execEventCoalesceFlush (s : State) : Host.Outcome State Fault Refusal :=
  .next (let fits := fun (c : Coal) => decide (vat s.ev.used c.origin 0 < 32)
    let cs := s.ev.coal.filter fits
    if cs.isEmpty then s
    else pulse 15 [] (cs.foldl (fun t c => coalEntry c t) { s with ev.coal := s.ev.coal.filter fun c => !(fits c) }))

/-- EVT_STATE (R404). -/
def evtStateBody (_ : Flight) (s : State) : CmdOut :=
  .done s (le 8 (now s) ++ le 16 (activeBits s) ++ le 4 s.ev.coalTotal ++ zeros 4)

def execEvtState (p : Pkt) (s : State) : Host.Outcome State Fault Refusal := .next (command 0x0107 (sized 0 evtStateBody) p s)

/-! ## Sinks (R380, R381) -/

def modSink (k : Fin 5) (f : Sink → Sink) (s : State) : State := { s with led.sinks := vmod s.led.sinks k f }
def modNotify (k : Fin 5) (f : Notify → Notify) (s : State) : State := { s with port.notify := vmod s.port.notify k f }

/-- A sink's unacknowledged entries, oldest first (R380). -/
def unacked (s : State) (k : Fin 5) : List LogEnt := (s.led.log.filter fun x => (vget s.led.sinks k).wants x).reverse

/-- EVT_SUBSCRIBE (R380). -/
def evtSubscribeBody (f : Flight) (s : State) : CmdOut :=
  let p := f.pkt.payload
  let fam := u8 1 p
  let ip := slice 4 16 p
  match ix 5 (u8 0 p) with
  | none => .fail stBadParam
  | some k =>
    need ((decide (fam ≤ 1) || fam == 0xFF) && (k.1 != 0 || (u16 2 p == 0 && allZero ip && fam != 1)) &&
      (fam != 0 || allZero (ip.drop 4))) stBadParam <|
    let s := modNotify k (fun x => { seq := x.seq }) s
    let s := modSink k (fun _ => if fam = 0xFF then { ack := s.led.logNext }
      else { on := true, family := fam, port := u16 2 p, ip := unle ip, mask := BitVec.ofNat 128 (fld 16 20 p), ack := s.led.logNext }) s
    .done s (le 4 s.led.logNext)

def execEvtSubscribe (p : Pkt) (s : State) : Host.Outcome State Fault Refusal := .next (command 0x0104 (sized 36 evtSubscribeBody) p s)

/-- The payload of EVT_READ and EVT_NOTIFY: entries, LOST and NEXT (R380, R381). -/
def sinkPayload (s : State) (k : Fin 5) (lost : Nat) (es : List LogEnt) : List Byte :=
  let nxt := match es.getLast? with
    | some x => (x.no + 1) % 2 ^ 32
    | none => ((unacked s k).head?.map (·.no)).getD s.led.logNext
  le 2 es.length ++ zeros 2 ++ le 4 lost ++ le 4 nxt ++ es.flatMap LogEnt.bytes

/-- EVT_READ (R380). -/
def evtReadBody (f : Flight) (s : State) : CmdOut :=
  let p := f.pkt.payload
  let ack := u32 4 p
  match ix 5 (u8 0 p) with
  | none => .fail stBadParam
  | some k =>
    let x := vget s.led.sinks k
    need (decide (u16 2 p ≤ 128) && rsv 1 1 p && decide (ack ≤ s.led.logNext)) stBadParam <|
    need x.on stState <|
    let s := modSink k (fun x => { x with ack := max x.ack ack, lost := 0 }) s
    let s := if x.ack < ack then modNotify k (fun y => { y with sentAt := none, upto := ack }) s else s
    .done s (sinkPayload s k x.lost ((unacked s k).take (u16 2 p)))

def execEvtRead (p : Pkt) (s : State) : Host.Outcome State Fault Refusal := .next (command 0x0105 (sized 8 evtReadBody) p s)

/-- An EVT_NOTIFY packet leaves for a sink's destination, with up to 32 entries (R381). -/
def notifySend (k : Fin 5) (s : State) : State :=
  let x := vget s.led.sinks k
  let es := (unacked s k).take 32
  let r : Reply := { addr := s.pwr.addr, seq := (vget s.port.notify k).seq, opcode := 0x0180, flags := 0x8000,
                     boot := s.led.bootCnt % 2 ^ 16, payload := sinkPayload s k x.lost es }
  let s := emit { kind := 2, dst := x.ip * 2 ^ 16 + x.port, data := r.bytes } s
  modNotify k (fun y => { seq := (y.seq + 1) % 2 ^ 16, sentAt := some s.clk.mono, fst0 := (es.head?.map (·.no)).getD 0, upto := s.led.logNext }) s

/-- EVT_NOTIFY (R381): a new entry of a subscribed network sink is unacknowledged. -/
def execEvtNotify (k : Fin 4) (s : State) : Host.Outcome State Fault Refusal :=
  let k' : Fin 5 := k.succ
  .next (if s.port.ready && (unacked s k').any (fun x => decide ((vget s.port.notify k').upto ≤ x.no)) then notifySend k' s else s)

/-- EVT_NOTIFY_RESEND (R381): 100 ms after a notification that EVT_READ has not answered. -/
def execEvtNotifyResend (k : Fin 4) (s : State) : Host.Outcome State Fault Refusal :=
  let k' : Fin 5 := k.succ
  .next (if s.port.ready && heldFor s (vget s.port.notify k').sentAt 100000 && !(unacked s k').isEmpty then notifySend k' s else s)

/-! ## Identity and status (R390, R391) -/

/-- SYS_INFO (R390). The spec gives the MAC field no byte order of its own; its six bytes stand in the order in which the address is
written, the most significant first (DESIGN CHOICE, log entry 103). -/
def sysInfoBody (_ : Flight) (s : State) : CmdOut :=
  .done s (le 8 Config.serial.toNat ++ s.member.name ++ le 4 (activeSet s).fwVer ++ le 4 (activeSet s).metVer ++
    be 6 Config.mac.toNat ++ le 1 s.pwr.addr ++ le 1 s.pwr.addrSrc ++ le 4 s.led.bootCnt ++ zeros 4)

def execSysInfo (p : Pkt) (s : State) : Host.Outcome State Fault Refusal := .next (command 0x0101 (sized 0 sysInfoBody) p s)

/-- A number enters an ascending list once. -/
def insertNo (a : Nat) : List Nat → List Nat
  | [] => [a]
  | b :: bs => if a < b then a :: b :: bs else if a = b then b :: bs else b :: insertNo a bs

/-- Blocks some point needs that are missing or invalid, ascending (R386, R391). -/
def missingBlocks (s : State) : List Nat :=
  ((points s).flatMap fun n => (neededBlocks s n).filter fun id => (committed s id).isNone).foldl (fun l a => insertNo a l) []

/-- PTP_STATE and RING_STATE codes (R391). -/
def ptpCode : PtpSt → Nat
  | .off => 0 | .listening => 1 | .uncalibrated => 2 | .slave => 3 | .master => 4 | .passive => 5 | .holdover => 6
def ringCode : RingSt → Nat
  | .line => 0 | .closed => 1 | .opened => 2 | .memberNoManager => 3 | .dual => 4

/-- SYS_STATUS (R391). -/
def sysStatusBody (_ : Flight) (s : State) : CmdOut :=
  let ms := missingBlocks s
  let held := ((points s).map fun n => if blockMissing s n then 2 ^ n.1 else 0).sum
  .done s (le 8 (now s) ++ le 1 (b2n s.port.wait) ++ le 1 held ++ le 1 (ringCode s.port.ring) ++ le 1 (ptpCode s.port.ptp) ++
    le 4 s.led.bootCnt ++ le 4 s.port.rxOk ++ le 4 s.port.rxDrop ++ le 1 (min 255 ms.length) ++ zeros 3 ++
    fit 64 ((ms.take 32).flatMap (le 2)) ++ leInt 4 s.port.ptpOffset ++ le 8 s.port.gmId)

def execSysStatus (p : Pkt) (s : State) : Host.Outcome State Fault Refusal := .next (command 0x0102 (sized 0 sysStatusBody) p s)

/-! ## Settings blocks (R516, R517) -/

/-- BLK_WRITE (R516). -/
def blkWriteBody (f : Flight) (s : State) : CmdOut :=
  let p := f.pkt.payload
  let id := u16 0 p
  let b := p.drop 4
  need (decide (4 ≤ p.length) && rsv 2 2 p && blockPresent s id && blockSize id == some b.length && u16 0 b == id &&
    u16 2 b == formatOf s id && crcOk b && blockRules s id b) stBadParam <|
  let n := (((s.blk.counts.find? fun x => x.1 == id).map (·.2)).getD 0 + 1) % 2 ^ 32
  .done { s with
    blk.stored := putCopy { id, bytes := b, wcount := n } s.blk.stored
    blk.counts := (id, n) :: s.blk.counts.filter fun x => !(x.1 == id) } (le 4 n ++ le 4 (u32 (b.length - 4) b))

def execBlkWrite (p : Pkt) (s : State) : Host.Outcome State Fault Refusal := .next (command 0x0109 blkWriteBody p s)

/-- BSTATE of a copy: a valid copy in another format than the running set expects is superseded (R433, R517). -/
def blkState (s : State) (c : BlkCopy) : Nat := if c.bstate = 1 ∧ formatFits s c = false then 2 else c.bstate

/-- BLK_READ (R517). -/
def blkReadBody (f : Flight) (s : State) : CmdOut :=
  let p := f.pkt.payload
  let id := u16 0 p
  need ((blockSize id).isSome && blockPresent s id && decide (u8 2 p ≤ 1) && rsv 3 1 p) stBadParam <|
  match (if u8 2 p = 0 then committedCopy s id else storedCopy s id) with
  | none => .fail stState
  | some c => .done s (le 1 (blkState s c) ++ zeros 3 ++ le 4 c.wcount ++ le 8 (if u8 2 p = 0 then c.tCommit else 0) ++ c.bytes)

def execBlkRead (p : Pkt) (s : State) : Host.Outcome State Fault Refusal := .next (command 0x010A (sized 4 blkReadBody) p s)

/-! ## The Parting fence (R384, R385) -/

/-- Device time at the receipt of a command. -/
def rxTime (f : Flight) (s : State) : Nat := now s - (s.clk.mono - f.t0)

/-- T_FENCE is a boundary of every meter that runs (R72, R384). -/
def fenceSplit (t : Nat) (s : State) : State :=
  (units 9).foldl (fun u m =>
    match u.port.fence with
    | some f => if meterRuns u m.1 then boundaryAt t m [.fence] { u with port.fence := some { f with split := vset f.split m true } } else u
    | none => u) s

/-- PARTING_FENCE (R384, R385): T_FENCE is fixed, and the fence runs. -/
def partingFenceBody (f : Flight) (s : State) : CmdOut :=
  let t := u64 0 f.pkt.payload
  let r := rxTime f s
  need (t == 0 || within t r (r + 60000000)) stBadParam <|
  need s.clk.timeValid stState <|
  need s.port.fence.isNone stBusy <|
  let t := if t = 0 then (r / 2000 + 1) * 2000 else t
  .wait (fenceSplit t { s with port.fence := some { flight := f, t }, led.fenceNo := (s.led.fenceNo + 1) % 2 ^ 32 })

def execPartingFence (p : Pkt) (s : State) : Host.Outcome State Fault Refusal := .next (command 0x0106 (sized 8 partingFenceBody) p s)

/-- Meters that do not run have no samples: once T_FENCE has come, their registers are frozen as they stand; so are those of a
meter that began to run under the fence. -/
def fenceIdle (s : State) : State :=
  (units 9).foldl (fun t m =>
    match t.port.fence with
    | some f => if (!meterRuns t m.1 || !vget f.split m) && decide (f.t ≤ now t) then
        boundaryAt f.t m [.fence] { t with port.fence := some { f with split := vset f.split m true } } else t
    | none => t) s

/-- Identities that raise events and have not published a watermark of T_FENCE (R384): a domain in reset or powered down is
advanced by the power controller. -/
def lagging (s : State) (t : Nat) (marks : Vector Nat 16) : Nat :=
  ([2, 3, 4, 6, 7, 10, 11].map fun i => if rxState s i = 0 && decide (vat marks i 0 < t) then 2 ^ i else 0).sum

/-- The fence replies (R385). -/
def fenceReply (f : Fence) (lag : Nat) (s : State) : State :=
  let body := (units 9).flatMap fun m =>
    let r := (vget f.regs m).getD (List.replicate 108 0, 0)
    r.1.flatMap (le 8) ++ le 4 r.2 ++ zeros 4
  finish f.flight (le 8 f.t ++ le 2 (b2n (lag != 0)) ++ le 2 lag ++ le 4 s.led.fenceNo ++ body) { s with port.fence := none }

/-- PARTING_FENCE_COMPLETE (R384): the snapshot is complete and every watermark has reached T_FENCE. -/
def execPartingFenceComplete (marks : Vector Nat 16) (s : State) : Host.Outcome State Fault Refusal :=
  .next (let s := fenceIdle s
    match s.port.fence with
    | some f => if f.doneAt.isSome && lagging s f.t marks == 0 then fenceReply f 0 { s with port.marks := marks } else { s with port.marks := marks }
    | none => s)

/-- PARTING_FENCE_TIMEOUT (R385): 1 s after the snapshot completed, watermarks still lag. -/
def execPartingFenceTimeout (marks : Vector Nat 16) (s : State) : Host.Outcome State Fault Refusal :=
  .next (match s.port.fence with
    | some f => if heldFor s f.doneAt 1000000 && lagging s f.t marks != 0 then fenceReply f (lagging s f.t marks) { s with port.marks := marks } else s
    | none => s)

end Sys2Proof.Machine
end

