-- ==== Sys2Proof/Machine/Network.lean ====
section
/-!
DEFINITION. The network side of the host port (spec/16_host_command_port.md): network settings (R387 to R389), the switch and the
ring (R371 to R373), network services (R374), DHCPv4 (R388) and PTP (R382, R383).
-/

namespace Sys2Proof.Machine

/-! ## PTP state -/

/-- The PTP state changes, with E9: PTP_STATE and GM_ID (R383, R392). -/
def setPtp (st : PtpSt) (s : State) : State :=
  if s.port.ptp = st then s else pulse 9 (prm [(1, ptpCode st), (8, s.port.gmId)]) { s with port.ptp := st }

/-- PTP starts in its role: off, or listening. -/
def ptpStart (s : State) : State := setPtp (if ptpRole (netB s) = 0 then .off else .listening) { s with port.gmId := 0 }

/-- The ring role starts: a line; a member counts as having its manager until 10 ms pass without a TEST frame; a manager
opens the ring until TEST frames return (log entry 1601). -/
def ringStart (s : State) : State :=
  { s with
    port.ring := match netRing (netB s) with | 1 => .closed | 2 => .opened | _ => .line
    port.eth2Blk := false, port.testMiss := Vector.replicate 2 0, port.testRet := 0, port.testSeenAt := s.clk.mono }

/-! ## NET_COMMIT (R389) -/

/-- NET_COMMIT: the reply leaves under the old settings, and the block is applied afterwards. -/
def netCommitBody (f : Flight) (s : State) : CmdOut :=
  need (rsv 0 4 f.pkt.payload) stBadParam <|
  takeStored s [0x0110] fun cs =>
  need (!s.port.wait) stState <|
  need s.port.netPend.isNone stBusy <|
  .done (take f cs { s with port.netPend := some f }) (tApplied s)

def execNetCommit (p : Pkt) (s : State) : Host.Outcome State Fault Refusal := .next (command 0x0103 (sized 4 netCommitBody) p s)

/-- NET_COMMIT_APPLY (R388, R389): the block takes effect; roles that change start anew. -/
def execNetCommitApply (s : State) : Host.Outcome State Fault Refusal :=
  .next (match s.port.netPend with
    | none => s
    | some f =>
      let old := netB s
      let s := untake f (commitCopies (takenBy s f) { s with port.netPend := none })
      let s := { s with port.netApplied := committed s 0x0110 }
      let b := netB s
      let s := if ip4Mode b = 2 then s else { s with port.dhcp := none }
      let s := if netRing b = netRing old then s else ringStart s
      if ptpRole b = ptpRole old && u8 37 b == u8 37 old then s else ptpStart s)

/-! ## The switch and the ring (R371 to R373) -/

/-- E8: RING_STATE and the port, 1 ETH1, 2 ETH2, 0 for the device (R392). -/
def setRing (st : RingSt) (port : Nat) (s : State) : State :=
  if s.port.ring = st then s else pulse 8 (prm [(1, ringCode st), (1, port)]) { s with port.ring := st }

/-- FLUSH leaves both ports. -/
def sendFlush (s : State) : State := emit { kind := 5, port := 2 } (emit { kind := 5, port := 1 } s)

/-- The manager declares the ring open (R373). -/
def ringOpen (port : Nat) (s : State) : State :=
  if s.port.ring = .closed then sendFlush { setRing .opened port s with port.eth2Blk := false, port.macs := [], port.testRet := 0 } else s

/-- The switch runs. -/
def switchUp (s : State) : Bool := gridRuns s || s.pwr.phase == .pfwWait

/-- RING_TEST_SEND (R372). -/
def execRingTestSend (s : State) : Host.Outcome State Fault Refusal :=
  .next (if switchUp s && netRing (netB s) == 2 then emit { kind := 3, port := 2 } (emit { kind := 3, port := 1 } s) else s)

/-- RING_TEST_RECEIVE (R372, R373): a TEST frame on a port; `own` says whose. A member forwards it and has its manager; the
manager counts its own returning on ETH1 as intervals, and sees a second manager by a frame that is not its own. -/
def execRingTestReceive (port : Fin 2) (own : Bool) (s : State) : Host.Outcome State Fault Refusal :=
  .next (if !switchUp s then s
    else match netRing (netB s) with
      | 1 =>
        let s := { s with port.testSeenAt := s.clk.mono }
        let s := if s.port.ring = .memberNoManager then setRing .closed (port.1 + 1) { s with port.eth2Blk := false } else s
        emit { kind := 3, port := 2 - port.1 } s
      | 2 =>
        if !own then setRing .dual (port.1 + 1) { s with port.eth2Blk := true, port.testRet := 0 }
        else
          let s := { s with
            port.testMiss := vset s.port.testMiss port 0
            port.testRet := if port.1 = 0 then s.port.testRet + 1 else s.port.testRet }
          if s.port.ring != .closed && decide (50 ≤ s.port.testRet) then
            sendFlush (setRing .closed (port.1 + 1) { s with port.eth2Blk := true })
          else s
      | _ => s)

/-- RING_TEST_MISSING (R372, R373): a TEST frame is missing on a port. -/
def execRingTestMissing (port : Fin 2) (s : State) : Host.Outcome State Fault Refusal :=
  .next (if !switchUp s then s
    else match netRing (netB s) with
      | 1 => if elapsed s s.port.testSeenAt 10000 && s.port.ring != .memberNoManager then
          setRing .memberNoManager (port.1 + 1) { s with port.eth2Blk := true } else s
      | 2 =>
        let s := { s with port.testMiss := vmod s.port.testMiss port (· + 1), port.testRet := 0 }
        if 2 ≤ vget s.port.testMiss port then ringOpen (port.1 + 1) s else s
      | _ => s)

/-- LINK_DOWN (R372, R373): the manager opens the ring; a member passes the frame on. -/
def execLinkDown (port : Fin 2) (s : State) : Host.Outcome State Fault Refusal :=
  .next (if !switchUp s then s
    else match netRing (netB s) with
      | 2 => ringOpen (port.1 + 1) s
      | _ => emit { kind := 4, port := 2 - port.1 } s)

/-- FLUSH (R372): a member clears its MAC table and forwards the frame; on a line it is forwarded only. -/
def execFlush (port : Fin 2) (s : State) : Host.Outcome State Fault Refusal :=
  .next (if !switchUp s then s
    else match netRing (netB s) with
      | 1 => emit { kind := 5, port := 2 - port.1 } { s with port.macs := [] }
      | 2 => { s with port.macs := [] }
      | _ => emit { kind := 5, port := 2 - port.1 } s)

/-- ETH_LINK_CHANGE (R372): a member that loses a link sends LINK_DOWN out of the other port. -/
def execEthLinkChange (port : Fin 2) (up : Bool) (s : State) : Host.Outcome State Fault Refusal :=
  .next (if !switchUp s || vget s.port.link port == up then s
    else
      let s := { s with port.link := vset s.port.link port up }
      if !up && netRing (netB s) == 1 then emit { kind := 4, port := 2 - port.1 } s else s)

/-- MAC_AGEING (R371): addresses not seen for 300 s. -/
def execMacAgeing (s : State) : Host.Outcome State Fault Refusal :=
  .next { s with port.macs := s.port.macs.filter fun m => !elapsed s m.t0 300000000 }

/-- FRAME_FORWARDING (R371 to R373): the source address is learned; the frame goes to the other port unless its destination
is this device or lies behind the port it came from. No data passes ETH2 while it is blocked, and no frame above 1522 bytes. -/
def execFrameForwarding (port : Fin 2) (src dst len : Nat) (s : State) : Host.Outcome State Fault Refusal :=
  .next (if !switchUp s || decide (1522 < len) || (s.port.eth2Blk && port.1 == 1) then s
    else
      let m : Mac := { mac := src, port := port.1 + 1, t0 := s.clk.mono }
      let s := { s with port.macs := (m :: s.port.macs.filter fun x => !(x.mac == src)).take 1024 }
      let here := s.port.macs.any fun x => x.mac == dst && x.port == port.1 + 1
      if dst = Config.mac.toNat ∨ here ∨ (s.port.eth2Blk ∧ port.1 = 0) then s
      else emit { kind := 8, port := 2 - port.1, dst } s)

/-! ## Services (R374, R388) -/

/-- The device's IPv4 address: the strap default in the wait state and without a committed block, else by IP4_MODE (R387, R388). -/
def ipv4Of (s : State) : Option Nat :=
  if s.port.wait || s.port.netApplied.isNone then some (0xA9FE6401 + s.pwr.addr)
  else match ip4Mode (netB s) with
    | 1 => some (be32 8 (netB s))
    | 2 => s.port.dhcp
    | _ => none

/-- NET_SERVICE_REQUEST (R374): 0 ARP, 1 ICMP echo, 2 neighbour discovery, 3 ICMPv6 echo. An echo returns its data; ARP returns
the device's MAC and IPv4 addresses, neighbour discovery the MAC address. IPv4 is answered only when the device has an address. -/
def execNetServiceRequest (kind dst : Nat) (data : List Byte) (s : State) : Host.Outcome State Fault Refusal :=
  let mac := be 6 Config.mac.toNat
  .next (if !s.port.ready then s
    else match kind, ipv4Of s with
      | 0, some a => emit { kind := 6, dst, data := mac ++ be 4 a } s
      | 1, some _ => emit { kind := 6, dst, data } s
      | 2, _ => emit { kind := 6, dst, data := mac } s
      | 3, _ => emit { kind := 6, dst, data } s
      | _, _ => s)

/-- DHCPV4_MESSAGE (R388): with IP4_MODE 2 the server grants an address, or takes it back. -/
def execDhcpv4Message (ip : Nat) (ack : Bool) (s : State) : Host.Outcome State Fault Refusal :=
  .next (if s.port.ready && ip4Mode (netB s) == 2 then { s with port.dhcp := if ack then some ip else none } else s)

/-! ## PTP (R382, R383) -/

/-- PTP_STATE that a decision of the best-master algorithm leads to: a slave stays a slave of the same grandmaster, and a slave-only
clock never becomes master or passive (R382). -/
def ptpDecide (s : State) (gm decision : Nat) : PtpSt :=
  match decision with
  | 2 => if (s.port.ptp = .slave ∨ s.port.ptp = .uncalibrated) ∧ s.port.gmId = gm then s.port.ptp else .uncalibrated
  | 4 => if ptpRole (netB s) = 2 ∨ ptpRole (netB s) = 3 then .master else .listening
  | 5 => if ptpRole (netB s) = 2 ∨ ptpRole (netB s) = 3 then .passive else .listening
  | _ => .listening

/-- Microseconds from 1970-01-01 to 2000-01-01. -/
def epochShift : Nat := 946684800000000

/-- PTP_TIME_CORRECTION (R113 to R115, R383): the first valid time is a step, a change of at most 2 s is slewed, a larger one
is a step with PTP_STEP = 1. -/
def ptpCorrect (ptpUs : Nat) (s : State) : State :=
  let t := ((ptpUs : Int) - s.port.utcOfs * 1000000 - epochShift).toNat
  if !s.clk.timeValid then timeStep t 2 2 s
  else if farApart t (now s) then (if ptpStep (bilB s) then timeStep t 0 2 s else s)
  else slewTo t s

/-- PTP_MESSAGE (R382, R383). -/
def ptpMessage (m : PtpMsg) (s : State) : State :=
  match m with
  | .announce gm utc d =>
    let st := ptpDecide s gm d
    setPtp st { s with port.lastAnn := s.clk.mono, port.gmId := gm, port.utcOfs := utc }
  | .sync ofs t =>
    if s.port.ptp = .uncalibrated ∨ s.port.ptp = .slave ∨ s.port.ptp = .holdover then
      ptpCorrect t (setPtp .slave { s with port.lastSync := s.clk.mono, port.ptpOffset := ofs })
    else s
  | .delay ofs => if s.port.ptp = .slave ∨ s.port.ptp = .uncalibrated then { s with port.ptpOffset := ofs } else s

def execPtpMessage (m : PtpMsg) (s : State) : Host.Outcome State Fault Refusal :=
  .next (if s.port.ready && ptpRole (netB s) != 0 then ptpMessage m s else s)

/-- PTP_ANNOUNCE_TIMEOUT (R382, R383): three announce intervals without an announce, or as long without a sync. -/
def execPtpAnnounceTimeout (s : State) : Host.Outcome State Fault Refusal :=
  .next (if s.port.ptp == .slave && (elapsed s s.port.lastAnn 3000000 || elapsed s s.port.lastSync 3000000) then setPtp .holdover s else s)

/-- SYNC_INTERVAL (R382): a master sends sync or announce messages; a boundary clock on its other port. -/
def execSyncInterval (announce : Bool) (s : State) : Host.Outcome State Fault Refusal :=
  let r := ptpRole (netB s)
  .next (if s.port.ready && (r == 3 || (r == 2 && s.port.ptp == .master)) then
      emit { kind := 7, data := [BitVec.ofNat 8 (b2n announce)] } s else s)

end Sys2Proof.Machine
end

