-- ==== Sys2Proof/Machine/Tider.lean ====
section
/-!
DEFINITION. The Tider mains link (spec/14_tider_mains_link.md): mains-locked loops (R318 to R320), slots, symbols and the frame code
(R321 to R325), frames, neighbours and repeaters (R327 to R330), joining (R331) and the site current allocation (R332 to
R335).
-/

namespace Sys2Proof.Machine

def modTdr (f : Tider → Tider) (s : State) : State := { s with tdr := f s.tdr }

/-- The Tider block in force, or its reset values. -/
def tdrBlk (s : State) : List Byte := s.tdr.applied.getD (zeros 4 ++ tdrReset ++ zeros 4)

/-- Phases the link uses. -/
def tdrPh (s : State) : Nat := tdrPhases (tdrBlk s)

/-- The link runs: enabled, T out of reset, and G0 enabled with SYSTEM 0, or SYSTEM 2 with PHASES = 0. -/
def linkOn (s : State) : Bool :=
  tdrOn s && s.pwr.tRunning && grpEn (grp s 0) && (grpSystem (grp s 0) == 0 || (grpSystem (grp s 0) == 2 && tdrPh s == 1))

/-- B of the span in force (R322). -/
def tdrBits (s : State) : Nat := tdrB (tdrSpan (tdrBlk s)) s.tdr.fnom (tdrPh s)
/-- C of the span in force (R322). -/
def tdrChans (s : State) : Nat := tdrC (tdrSpan (tdrBlk s)) s.tdr.fnom (tdrPh s)
/-- The node's identifier. -/
def me (s : State) : Nat := tdrNode (tdrBlk s)
/-- This node is the holder. -/
def isHolder (s : State) : Bool := tdrHolder (tdrBlk s)

def loopOf (s : State) (k : Nat) : Loop := vat s.tdr.loops k {}
/-- A loop is LOCKED or in HOLDOVER. -/
def loopUp (s : State) (k : Nat) : Bool := (loopOf s k).st != .unlocked

/-- The node may send: enabled, no DUP_ID, and L1 LOCKED or in HOLDOVER (R317, R335, R336). -/
def maySend (s : State) : Bool := linkOn s && tdrTx (tdrBlk s) && !s.tdr.dup && loopUp s 0

/-! ## Events -/

/-- E109 carries ALLOC (R341). -/
def allocPrm (s : State) : List Byte := prm (s.tdr.alloc.toList.map fun v => (2, v))

/-- Use FAILSAFE_I on every phase in use, with FAILSAFE and E109 (R334). -/
def setFailsafe (s : State) : State :=
  let s := modTdr (fun t => { t with alloc := Vector.ofFn fun k => if k.1 < tdrPh s then failsafeI (tdrBlk s) else 0, failsafe := true }) s
  followSig 0 (level 109 0 true (allocPrm s) s)

/-- An allocation is applied, with E109; it ends FAILSAFE (R334). -/
def applyAlloc (a : List Nat) (s : State) : State :=
  let changed := s.tdr.failsafe || s.tdr.alloc.toList != fitNat 3 a
  let s := modTdr (fun t => { t with
    alloc := Vector.ofFn fun k => a.getD k.1 0, allocAt := some s.clk.mono, failsafe := false }) s
  let s := level 109 0 false (allocPrm s) s
  if changed then followSig 0 (pulse 109 (allocPrm s) s) else s
where
  /-- The first `n` numbers, padded with zeros. -/
  fitNat (n : Nat) (l : List Nat) : List Nat := (List.range n).map fun k => l.getD k 0

/-- E110 with its cause: 0 DUP_ID, 1 a second holder, 2 an insufficient budget (R341; the codes are log entry 10's). -/
def e110 (cause : Nat) (s : State) : State := pulse 110 (prm [(1, cause)]) s

/-- Sync is held or lost, with E105 and the offset (R341). -/
def setSync (on : Bool) (ofs : Nat) (s : State) : State := level 105 0 on (prm [(4, ofs)]) s

/-! ## Start and restart of joining (R331) -/

/-- No prediction is written for the channels of G0 (R318). -/
def dropPred (k : Nat) (s : State) : State := modDet (4 + k) (fun d => { d with predUp := none, predDn := none }) s

/-- Joining starts under a block: lock, alignment, neighbours and allocation are lost, and FAILSAFE_I applies until the first
ALLOC. The budget of TDR_BUDGET and the counters are kept as given (R331, R334). -/
def joinAgain (b : Option (List Byte)) (s : State) : State :=
  let old := s.tdr
  let s := setSync false old.syncOfs (dropPred 0 (dropPred 1 (dropPred 2 s)))
  let s := (List.range 3).foldl (fun t k => level 104 k false (prm [(1, k + 1)]) t) s
  let s := (List.range 3).foldl (fun t k => level 111 k false (prm [(1, k + 1)]) t) s
  let s := modTdr (fun _ => {
    applied := b, ok := old.ok, bad := old.bad, eras := old.eras, repDrop := old.repDrop, fseq := old.fseq
    budget := old.budget, budNext := old.budNext, l1Unl := some s.clk.mono
    quiet := s.clk.mono + 1000000 * (b.map allocTimeout).getD 0 }) s
  if b.any tdrEn then setFailsafe s else followSig 0 (level 109 0 false (allocPrm s) s)

/-- T starts: joining begins with the committed block, and the counters are 0 (R319, R331, R338). -/
def tdrStart (s : State) : State :=
  joinAgain (committed s 0x0800) (modTdr (fun t => { budget := t.budget, budNext := t.budNext, fseq := t.fseq }) s)

/-! ## Mains-locked loop (R318 to R320) -/

/-- The loop of L1 becomes LOCKED: F_NOM is taken and listening starts (R322, R331). -/
def l1Locked (s : State) : State :=
  let per := (loopOf s 0).per
  modTdr (fun t => { t with
    fnom := if 4096000000 < per * 55 then 50 else 60, l1Unl := none
    join := if t.join = 0 then 1 else t.join, spans := 0, syncRun := 0 }) s

/-- The loop of L1 becomes UNLOCKED: alignment is lost, and the pulse outputs are low (R317, R326). -/
def l1Lost (s : State) : State :=
  setSync false s.tdr.syncOfs (modTdr (fun t => { t with
    l1Unl := some s.clk.mono, join := 0, spans := 0, syncRun := 0, metrics := [], mpos := [], sent := []
    tx := Vector.replicate 3 false, arm := false, otherRun := 0 }) s)

/-- A loop's state changes; E104 when it becomes LOCKED or UNLOCKED (R320, R341). -/
def setLoop (k : Nat) (old st : LoopSt) (s : State) : State :=
  let s := modTdr (fun t => { t with loops := vatMod t.loops k fun l => { l with st } }) s
  let s := level 104 k (st != .unlocked) (prm [(1, k + 1)]) s
  let s := if st = .unlocked && old != .unlocked then
      dropPred k (modTdr (fun t => { t with loops := vatMod t.loops k fun l => { l with per := 0, good := 0 } }) s) else s
  if k = 0 then
    if old = .unlocked && st != .unlocked then l1Locked s
    else if old != .unlocked && st = .unlocked then l1Lost s else s
  else s

/-- Flags that leave a crossing unused: ABRUPT, ZC_SHIFT, ZC_MISSING, OVR, SUBST, INVALID (R318). -/
def unusedFlags (f : Nat) : Bool := f % 64 != 0

/-- One crossing of a loop, measured at `t` (1/4096 µs), or unused (R318). -/
def crossLoop (t : Option Int) (l : Loop) : Loop :=
  if l.per = 0 then l
  else match t with
    | some t =>
      let e := t - l.pred
      { l with
        pred := l.pred + l.per / 2 + e / 8, per := l.per + e / 64, bad := 0
        good := if e.natAbs ≤ 204800 then l.good + 1 else 0 }
    | none => { l with pred := l.pred + l.per / 2, bad := l.bad + 1, good := 0 }

/-- The loop's state after a crossing (R319, R320). -/
def loopNext (used : Bool) (l : Loop) : LoopSt :=
  match l.st, used with
  | .unlocked, _ => if 10 ≤ l.good then .locked else .unlocked
  | _, true => .locked
  | _, false => if 20 ≤ l.bad then .unlocked else .holdover

/-- One crossing of the loop of phase `k`; those of L1 count the cycles of the span (R322). -/
def crossing (k : Nat) (t : Option Int) (s : State) : State :=
  let old := (loopOf s k).st
  let s := modTdr (fun x => { x with
    loops := vatMod x.loops k (crossLoop t), halves := if k = 0 then x.halves + 1 else x.halves }) s
  setLoop k old (loopNext t.isSome (loopOf s k)) s

/-- A record of a half-cycle reaches the bits whose slots lie in it: unflagged, the slot counts; a flagged or a missing one erases the bit
(R64, R66, R324). -/
def markRec (r : HcRec) (s : State) : State :=
  let mine := fun (t : Int) => decide ((r.tZc : Int) ≤ t) && decide (t < r.tEnd)
  let f := fun (x : TSlot) =>
    if x.pos % tdrPh s ≠ r.ch then x
    else { x with okP := x.okP || (r.pos && mine x.tP), okN := x.okN || (!r.pos && mine x.tN) }
  if flaggedRec r then s else modTdr (fun t => { t with mpos := t.mpos.map f, metrics := t.metrics.map f }) s

/-- The span timing begins at the upward crossing of L1 that the record's half-cycle opens with, or at the next one (R322). -/
def firstSpan (r : HcRec) (was : LoopSt) (s : State) : State :=
  if r.ch = 0 ∧ was = .unlocked ∧ (loopOf s 0).st ≠ .unlocked then modTdr (fun t => { t with halves := if r.pos then 0 else -1 }) s else s

/-- A half-cycle record reaches its loop: records missing from SEQ are unused crossings, then the crossing that opens the
record's half-cycle is taken; the prediction for the next crossing of that direction is written (R65, R66, R318). -/
def feedLoop (r : HcRec) (s : State) : State :=
  let s := markRec r s
  let l := loopOf s r.ch
  let gap := match l.lastSeq with | some q => (r.seq + 511 - q) % 256 | none => 0
  let s := (List.range gap).foldl (fun t _ => crossing r.ch none t) s
  let used := gap == 0 && l.lastSeq.isSome && !unusedFlags l.lastFlag && !unusedFlags r.flags
  let s := if (loopOf s r.ch).per = 0 then
      if unusedFlags r.flags then s
      else modTdr (fun x => { x with loops := vatMod x.loops r.ch fun l => { l with
        per := 128 * ((r.tEnd : Int) - r.tZc), pred := 64 * (r.tEnd : Int), good := 0, bad := 0 } }) s
    else firstSpan r (loopOf s r.ch).st (crossing r.ch (if used then some (64 * (r.tZc : Int)) else none) s)
  let s := modTdr (fun x => { x with loops := vatMod x.loops r.ch fun l => { l with lastFlag := r.flags, lastSeq := some r.seq } }) s
  let l := loopOf s r.ch
  let p : Option Nat := if l.st = .unlocked then none else some ((l.pred + l.per / 2) / 64).toNat
  modDet (4 + r.ch) (fun d => if r.pos then { d with predUp := p } else { d with predDn := p }) s

/-- HALF_CYCLE_RECORD (R318): T takes the oldest record of the queue. -/
def execHalfCycleRecord (s : State) : Host.Outcome State Fault Refusal :=
  .next (match s.filt.hcq with
    | [] => s
    | r :: rest =>
      if !s.pwr.tRunning then s
      else
        let s := { s with filt.hcq := rest }
        if linkOn s && decide (r.ch < tdrPh s) then feedLoop r s else s)

/-! ## The frame code (R323) -/

/-- Bits of bytes, least significant first. -/
def bitsOf (b : List Byte) : List Bool := b.flatMap fun x => (List.range 8).map fun i => x.getLsbD i

/-- Bytes of bits, least significant first. -/
def bytesOf (n : Nat) (l : List Bool) : List Byte :=
  (List.range n).map fun k => BitVec.ofNat 8 ((List.range 8).foldl (fun a i => a + b2n (l.getD (8 * k + i) false) * 2 ^ i) 0)

/-- The parity of a 7-bit word. -/
def parity7 (w : Nat) : Bool := (List.range 7).foldl (fun a i => xor a (w.testBit i)) false

/-- The two coded bits for an input bit and the six before it, the newest highest (generators 171 and 133 octal). -/
def codePair (w : Nat) : Bool × Bool := (parity7 (w &&& 0x79), parity7 (w &&& 0x5B))

/-- The convolutional code from a register state. -/
def encode7 : Nat → List Bool → List Bool
  | _, [] => []
  | st, b :: bs => let w := st + 64 * b2n b; (codePair w).1 :: (codePair w).2 :: encode7 (w / 2) bs

/-- The output of x^9 + x^5 + 1 (R323). -/
def pn9 : Nat → Nat → List Bool
  | 0, _ => []
  | n + 1, r => r.testBit 8 :: pn9 n (r * 2 % 512 + b2n (xor (r.testBit 8) (r.testBit 4)))

/-- The 1036 coded bits of a frame. -/
def codedBits (f : List Byte) : List Bool :=
  List.zipWith xor (encode7 0 (bitsOf (fit 64 f) ++ List.replicate 6 false)) (pn9 1036 0x1FF)

/-- The coded bit at channel position `j`: coded bit 37 r + col is at 28 col + r (R323). -/
def codedAt (f : List Byte) (j : Nat) : Bool := (codedBits f).getD (37 * (j % 28) + j / 28) false

/-- A survivor of the Viterbi decoder: its metric, and its bits, the newest first. -/
abbrev Surv := Option (Int × List Bool)

/-- The better of two survivors; the first of equals. -/
def better (a b : Surv) : Surv :=
  match a, b with
  | some x, some y => if x.1 < y.1 then b else a
  | none, _ => b
  | _, none => a

/-- A survivor of the state `st` extended by an input bit, with the two soft values (positive for 1). -/
def extend (st : Nat) (b : Bool) (v0 v1 : Int) (x : Surv) : Surv :=
  x.map fun y =>
    let c := codePair (st + 64 * b2n b)
    (y.1 + (if c.1 then v0 else -v0) + (if c.2 then v1 else -v1), b :: y.2)

/-- One step of the decoder over its 64 states. -/
def viterbiStep (ss : Vector Surv 64) (v0 v1 : Int) : Vector Surv 64 :=
  Vector.ofFn fun t =>
    let p := 2 * (t.1 % 32)
    let b := decide (32 ≤ t.1)
    better (extend p b v0 v1 (vat ss p none)) (extend (p + 1) b v0 v1 (vat ss (p + 1) none))

/-- The decoder over pairs of soft values. -/
def viterbi : Vector Surv 64 → List Int → Vector Surv 64
  | ss, v0 :: v1 :: vs => viterbi (viterbiStep ss v0 v1) vs
  | ss, _ => ss

/-- Decode the soft values of a channel, by channel position, to a frame; none when its CRC fails (R323, R325). -/
def decodeFrame (soft : List Int) : Option (List Byte) :=
  let vs := (List.zipWith (fun k (x : Bool) => let v := soft.getD (28 * (k % 37) + k / 37) 0; if x then -v else v)
    (List.range 1036) (pn9 1036 0x1FF))
  let start : Vector Surv 64 := Vector.ofFn fun t => if t.1 = 0 then some (0, []) else none
  match vat (viterbi start vs) 0 none with
  | some x => let f := bytesOf 64 x.2.reverse; if crcOk f then some f else none
  | none => none

/-! ## Slots (R317, R321, R322, R324) -/

/-- The sync word's bit at position `p` (R322). -/
def syncBit (p : Nat) : Bool := (0x9B3E5A0CE6D1724F : Nat).testBit p

/-- The phase (0 to 2) of a position (R322). -/
def posPhase (s : State) (p : Nat) : Nat := p % tdrPh s

/-- The bit the node sends at a position of the span, if any (R322, R323). -/
def sendBit (s : State) (p : Nat) : Option Bool :=
  if s.tdr.join ≠ 3 || !maySend s || !loopUp s (posPhase s p) then none
  else if p < 64 then some (syncBit p)
  else
    let c := tdrChans s
    if c = 0 then none
    else match s.tdr.sent.find? fun x => x.1 == (p - 64) % c with
      | some x => if (p - 64) / c < 1036 then some (codedAt x.2 ((p - 64) / c)) else none
      | none => none

/-- The notch metric of a slot in 1/256 LSB, a sag positive: the mean departure of the samples within ±96 µs from the line
through the means of the first four and the last four, the samples 16 µs apart and centred on the slot (R324). -/
def notch (neg : Bool) (xs : List Int) : Int :=
  let n := xs.length
  if n < 8 then 0
  else
    let a := (xs.take 4).sum
    let b := (xs.drop (n - 4)).sum
    let near := (List.range n).filter fun (i : Nat) => decide ((2 * (i : Int) - ((n : Int) - 1)).natAbs ≤ 12)
    let d := (near.map fun (i : Nat) => 8 * ((n : Int) - 4) * xs.getD i 0 - (2 * ((n : Int) - 4) * a + (b - a) * (2 * (i : Int) - 3))).sum
    let m := conv (256 * d) (8 * (n - 4) * near.length)
    if neg then m else -m

/-- s in half levels: eight levels, −7 to 7, against the running amplitude of the channel (R324; log entry 1402). -/
def softLevel (v : Int) (amp : Nat) : Int := clampI (-7) 7 (2 * (4 * v / (max 1 amp : Nat)) + 1)

/-- The centre of a slot in the present half-cycle of a phase, from the loop's prediction, in 1/64 µs: 0.6 ms and 1.2 ms after the
crossing that opens it, 1.2 ms and 0.6 ms before the one that closes it (R321). -/
def slotTime (s : State) (ph slot : Nat) : Int :=
  let l := loopOf s ph
  let u : Int := 4096 * (now s : Int)
  if l.per < 2 then 64 * (now s : Int)
  else
    let h := l.per / 2
    let a := l.pred + (u - l.pred) / h * h
    (if slot = 0 then a + 2457600 else if slot = 1 then a + 4915200 else if slot = 2 then a + h - 4915200 else a + h - 2457600) / 64

/-- The slot of a position in its half-cycles (R321, R322). -/
def posSlot (s : State) (p : Nat) : Nat := p / tdrPh s % 4

/-- TIDER_SLOT (R317, R321, R324): the slot of a bit position in its positive or negative half-cycle; the operands give the G0 samples
around its centre and the running pulse amplitude of the channel in 1/256 LSB. -/
def execTiderSlot (pos : Nat) (neg : Bool) (samples : List Int) (amp : Nat) (s : State) : Host.Outcome State Fault Refusal :=
  .next (if !linkOn s || s.tdr.join != 3 || decide (tdrBits s ≤ pos) then s
    else
      let ph := posPhase s pos
      let fire := match sendBit s pos with | some b => b != neg | none => false
      let m := notch neg samples
      let bad := !loopUp s ph
      let at0 := slotTime s ph (posSlot s pos)
      modTdr (fun t =>
        let t := { t with tx := Vector.ofFn fun k => fire && k.1 == ph, arm := t.arm || fire }
        let rest := t.mpos.filter fun x => x.pos != pos
        if !neg then { t with mpos := { pos, val := m, lost := bad, tP := at0 } :: rest }
        else match t.mpos.find? fun x => x.pos == pos with
          | some x => { t with mpos := rest, metrics := { x with val := softLevel (x.val - m) amp, lost := x.lost || bad, tN := at0 } :: t.metrics }
          | none => { t with metrics := { pos, lost := true } :: t.metrics }) s)

/-! ## Frames (R327) -/

def frSite (f : List Byte) : Nat := u16 0 f
def frSrc (f : List Byte) : Nat := u16 2 f % 1024
def frDst (f : List Byte) : Nat := u16 4 f % 1024
def frBcast (f : List Byte) : Bool := bit (u16 4 f) 15
def frType (f : List Byte) : Nat := u8 6 f
def frNhop (f : List Byte) : Nat := u8 7 f % 4
def frHop (f : List Byte) : Nat := u8 7 f / 4 % 4
def frPath (f : List Byte) : List Nat := (List.range (frNhop f)).map fun k => u16 (8 + 2 * k) f
def frSeq (f : List Byte) : Nat := u16 14 f

/-- A frame of this node with the next FSEQ. -/
def frame (s : State) (dst type : Nat) (path : List Nat) (payload : List Byte) : List Byte :=
  withCrc (le 2 (tdrSite (tdrBlk s)) ++ le 2 (me s) ++ le 2 dst ++ le 1 type ++ le 1 (min path.length 3) ++
    fit 6 (path.flatMap (le 2)) ++ le 2 (s.tdr.fseq % 65536) ++ fit 44 payload)

/-- The frame one hop on (R328). -/
def hopped (f : List Byte) : List Byte := withCrc (patch 7 (le 1 (u8 7 f + 4)) (f.take 60))

/-- The parent's entry. -/
def parentOf (s : State) : Option Neigh := s.tdr.nb.find? fun n => n.node == s.tdr.parent

/-- The repeaters between this node and the holder, nearest first: the parent, unless it is the holder, and its own (R330). -/
def hpathOf (s : State) : List Nat :=
  match parentOf s with
  | some n => if n.cost = 0 then [] else n.node :: n.hpath.take n.plen
  | none => []

/-- The holder this node beacons and follows. -/
def holderOf (s : State) : Nat := if isHolder s then me s else s.tdr.holder

/-- The neighbours a BEACON lists: the eight of the highest LQ (log entry 1402). -/
def beaconNb (s : State) : List Neigh :=
  (((sortWants (s.tdr.nb.map fun n => (n, 255 - n.lq))).map (·.1)).take 8)

/-- A BEACON (R327, R328). -/
def beacon (s : State) : List Byte :=
  let hp := hpathOf s
  frame s 0x8000 1 [] (le 1 s.tdr.cost ++ le 1 hp.length ++ fit 4 ((hp.take 2).flatMap (le 2)) ++ le 2 (holderOf s) ++
    (beaconNb s).flatMap fun n => le 2 n.node ++ le 1 n.lq)

/-- Points with an open session. -/
def openPoints (s : State) : List (Fin 8) := (points s).filter (sessOpen s)

/-- The node's demand per phase in 0.1 A (R332). -/
def demand (s : State) : List Nat :=
  let d := min (nodeMaxI (tdrBlk s)) (((openPoints s).map (siteNeed s)).sum / 100)
  (List.range 3).map fun k => if k < tdrPh s then d else 0

/-- A DEMAND to the holder along the path (R327, R330). -/
def demandFrame (s : State) : List Byte :=
  frame s (holderOf s % 1024) 2 (hpathOf s) ((demand s).flatMap (le 2) ++ le 2 s.tdr.ackF ++ le 1 (openPoints s).length)

/-- An ALLOC for nodes that share a path (R327). -/
def allocFrame (s : State) (ns : List TNode) : List Byte :=
  let n := ns.headD {}
  frame s n.node 3 n.path (le 1 ns.length ++ zeros 3 ++ ns.flatMap fun x => le 2 x.node ++ (fitNat x.want).flatMap (le 2))
where
  fitNat (l : List Nat) : List Nat := (List.range 3).map fun k => l.getD k 0

/-! ## Neighbours and the parent (R329, R330) -/

/-- E108: node and LQ (R341). -/
def e108 (node lq : Nat) (s : State) : State := pulse 108 (prm [(2, node), (1, lq)]) s

/-- The neighbour of the lowest LQ. -/
def weakest (l : List Neigh) : Option Neigh := ((sortWants (l.map fun n => (n, n.lq))).map (·.1)).head?

/-- A frame is decoded directly from a node: LQ, and with a BEACON its COST, PLEN, HPATH and HOLDER (R329). -/
def hearNeighbour (f : List Byte) (q : Nat) (s : State) : State :=
  let src := frSrc f
  let upd (n : Neigh) : Neigh :=
    if frType f = 1 then { n with
      cost := u8 16 f, plen := u8 17 f, hpath := [u16 18 f, u16 20 f], holder := u16 22 f, t0 := s.clk.mono }
    else { n with t0 := s.clk.mono }
  match s.tdr.nb.find? fun n => n.node == src with
  | some n =>
    let lq := ((n.lq : Int) + ((q : Int) - n.lq) / 8).toNat
    modTdr (fun t => { t with nb := t.nb.map fun m => if m.node == src then { upd m with lq } else m }) s
  | none =>
    let s := match (if s.tdr.nb.length < 64 then none else weakest s.tdr.nb) with
      | some w => e108 w.node w.lq (modTdr (fun t => { t with nb := t.nb.filter fun m => m.node != w.node }) s)
      | none => s
    e108 src q (modTdr (fun t => { t with nb := t.nb ++ [upd { node := src, lq := q }] }) s)

/-- What a neighbour costs as parent: its COST plus the link cost; none when it is no candidate (R329, R330). -/
def parentCost (n : Neigh) : Option Nat := if n.cost = 0xFF ∨ 2 < n.plen then none else some (n.cost + 1 + (255 - n.lq) / 32)

/-- Choose the parent and the COST: the parent changes when it is gone or another is lower by at least 2; a change of either
makes a BEACON due (R330). -/
def chooseParent (s : State) : State :=
  if isHolder s then modTdr (fun t => { t with parent := 0xFFFF, cost := 0 }) s
  else
    let cands := s.tdr.nb.filterMap fun n => (parentCost n).map fun c => (n, c)
    let best := (sortWants cands.reverse).head?
    let cur := cands.find? fun x => x.1.node == s.tdr.parent
    let pick := match best, cur with
      | some b, some c => if b.2 + 2 ≤ c.2 then some b else some c
      | some b, none => some b
      | none, _ => none
    let node := (pick.map (·.1.node)).getD 0xFFFF
    let cost := (pick.map fun x => min x.2 254).getD 0xFF
    let fst := s.tdr.parent = 0xFFFF
    let t := modTdr (fun t => { t with
      parent := node, cost, beaconDue := t.beaconDue || node != s.tdr.parent || cost != s.tdr.cost
      demDue := t.demDue || (fst && node != 0xFFFF) }) s
    if node = s.tdr.parent then t else e108 node ((pick.map (·.1.lq)).getD 0) t

/-- NEIGHBOUR_TIMEOUT (R329): neighbours not heard for 3 × BEACON_T are removed. -/
def execNeighbourTimeout (s : State) : Host.Outcome State Fault Refusal :=
  let old := s.tdr.nb.filter fun n => elapsed s n.t0 (3000000 * beaconT (tdrBlk s))
  .next (if old.isEmpty then s
    else chooseParent (old.foldl (fun t n =>
      e108 n.node n.lq (modTdr (fun x => { x with nb := x.nb.filter fun m => m.node != n.node }) t)) s))

/-! ## The holder (R333) -/

/-- SITE_I of a phase in use: TDR_BUDGET's value, or the block's where that is 0 (R340). -/
def siteBudget (s : State) (k : Nat) : Nat :=
  if tdrPh s ≤ k then 0 else if s.tdr.budget.getD k 0 = 0 then siteI (tdrBlk s) k else s.tdr.budget.getD k 0

/-- Nothing has been heard from a node for ALLOC_TIMEOUT (R333). -/
def silent (s : State) (n : TNode) : Bool := n.node != me s && elapsed s n.t0 (1000000 * allocTimeout (tdrBlk s))

/-- What the node may hold at present: its last acknowledged allocation, or one sent since (R333). -/
def heldI (k : Nat) (n : TNode) : Nat := if n.acked then n.alloc.getD k 0 else max (n.old.getD k 0) (n.alloc.getD k 0)

/-- The sharing of R333 for a phase: the wants below 6.0 A drop out, and the rest share once more. -/
def sharePhase (budget : Nat) (dem : List (Nat × Nat)) : List (Nat × Nat) :=
  let a := shareOut budget (sortWants dem)
  let low := (a.filter fun x => decide (0 < x.2) && decide (x.2 < 60)).map (·.1)
  if low.isEmpty then a else shareOut budget (sortWants (dem.filter fun x => !(low.contains x.1)))

/-- Increases wait for the reductions that fund them: each takes only what the present holdings leave (R333). -/
def fundIncreases (spare : Nat) : List (Nat × Nat × Nat) → List (Nat × Nat)
  | [] => []
  | (n, held, a) :: r =>
    if a ≤ held then (n, a) :: fundIncreases spare r
    else let g := min (a - held) spare; (n, held + g) :: fundIncreases (spare - g) r

/-- The allocations of a phase, by node (R333). -/
def allocPhase (s : State) (k : Nat) : List (Nat × Nat) :=
  let site := siteBudget s k
  let nodes := s.tdr.nodes
  let live := nodes.filter fun n => !silent s n
  let quietI := (nodes.length - live.length) * failsafeI (tdrBlk s)
  let owed := (live.map fun n => if n.acked then 0 else n.old.getD k 0 - n.alloc.getD k 0).sum
  let a := sharePhase (site - owed - quietI) ((live.filter fun n => decide (0 < n.dem.getD k 0)).map fun n => (n.node, n.dem.getD k 0))
  let got := fun (n : TNode) => ((a.find? fun x => x.1 == n.node).map (·.2)).getD 0
  fundIncreases (site - quietI - (live.map (heldI k)).sum) (live.map fun n => (n.node, heldI k n, got n))

/-- The holder knows itself as a node with its own demand (R333, R334). -/
def ownNode (s : State) : State :=
  let n : TNode := ((s.tdr.nodes.find? fun x => x.node == me s).getD { node := me s })
  modTdr (fun t => { t with
    nodes := { n with dem := demand s, acked := true, t0 := s.clk.mono } :: t.nodes.filter fun x => x.node != me s }) s

/-- Recompute the allocations; E110 when the budget turns out below the known nodes × FAILSAFE_I (R333). -/
def recompute (s : State) : State :=
  let s := ownNode s
  let al := (List.range 3).map (allocPhase s)
  let wantOf := fun (n : TNode) => al.map fun l => ((l.find? fun x => x.1 == n.node).map (·.2)).getD 0
  let fs := List.replicate 3 (failsafeI (tdrBlk s))
  let low := (List.range (tdrPh s)).any fun k => decide (siteBudget s k < s.tdr.nodes.length * failsafeI (tdrBlk s))
  let e := low && !s.tdr.lowBudget
  let s := modTdr (fun t => { t with
    lowBudget := low
    nodes := t.nodes.map fun n =>
      if silent s n then { n with alloc := fs, old := fs, want := fs, acked := true, ans := false } else { n with want := wantOf n } }) s
  if e then e110 2 s else s

/-- The holder applies its own allocation to its points, once it sends any (R333, R334). -/
def applyOwn (s : State) : State :=
  match s.tdr.nodes.find? fun n => n.node == me s with
  | some n =>
    if s.clk.mono < s.tdr.quiet then s
    else
      let w := n.want
      applyAlloc w (modTdr (fun t => { t with nodes := t.nodes.map fun x => if x.node == me s then { x with alloc := w, old := w } else x }) s)
  | none => s

/-- The nodes that need an ALLOC: a changed allocation, or a DEMAND that awaits its answer (R330, R332, R333). -/
def dueNodes (s : State) : List TNode :=
  if s.clk.mono < s.tdr.quiet then []
  else s.tdr.nodes.filter fun n => n.node != me s && !silent s n && (n.ans || n.want != n.alloc)

/-- The next ALLOC: up to five due nodes that share the first one's path (R333). -/
def nextAlloc (s : State) : List TNode :=
  match dueNodes s with
  | [] => []
  | n :: r => (n :: r.filter fun m => m.path == n.path).take 5

/-- The ALLOC for these nodes has been put in a channel. -/
def allocSent (ns : List TNode) (s : State) : State :=
  modTdr (fun t => { t with nodes := t.nodes.map fun n =>
    if (ns.any fun m => m.node == n.node) then
      { n with old := if n.acked then n.alloc else n.old, alloc := n.want, acked := false, ans := false, fseq := s.tdr.fseq % 65536 }
    else n }) s

/-! ## Frames received (R328, R333 to R335) -/

/-- A claim of a holder: the lower identifier is followed, with E110 for a second (R335). -/
def claimHolder (h : Nat) (s : State) : State :=
  if h = 0xFFFF then s
  else if isHolder s then (if h = me s then s else e110 1 s)
  else if s.tdr.holder = 0xFFFF then modTdr (fun t => { t with holder := h }) s
  else if s.tdr.holder = h then s
  else e110 1 (modTdr (fun t => { t with holder := min t.holder h }) s)

/-- Entries of an ALLOC (R327). -/
def allocEntries (f : List Byte) : List (Nat × List Nat) :=
  (List.range (min (u8 16 f) 5)).map fun k => (u16 (20 + 8 * k) f, (List.range 3).map fun i => u16 (22 + 8 * k + 2 * i) f)

/-- An accepted ALLOC: an entry that names the node is applied (R334). -/
def takeAlloc (f : List Byte) (s : State) : State :=
  let s := claimHolder (frSrc f) s
  match (allocEntries f).find? fun e => e.1 == me s with
  | some e =>
    if isHolder s || s.tdr.holder != frSrc f then s
    else applyAlloc e.2 (modTdr (fun t => { t with ackF := frSeq f, demOpen := false, demSpans := 0 }) s)
  | none => s

/-- An accepted DEMAND at the holder: its demand, its ACK and the reversed path for the answer (R330, R333). -/
def takeDemand (f : List Byte) (s : State) : State :=
  if !isHolder s then s
  else
    let n : TNode := (s.tdr.nodes.find? fun x => x.node == frSrc f).getD { node := frSrc f }
    let ok := n.acked || u16 22 f == n.fseq
    let n := { n with
      dem := (List.range 3).map fun k => u16 (16 + 2 * k) f, path := (frPath f).reverse, t0 := s.clk.mono
      ans := true, acked := ok, old := if ok then n.alloc else n.old }
    modTdr (fun t => { t with nodes := t.nodes.filter (fun x => x.node != n.node) ++ [n] }) s

/-- A frame is accepted (R328). -/
def acceptFrame (f : List Byte) (s : State) : State :=
  match frType f with
  | 1 => claimHolder (u16 22 f) s
  | 2 => takeDemand f s
  | 3 => takeAlloc f s
  | _ => s

/-- A frame waits for repetition; the oldest of a full queue is discarded (R328). -/
def queueRepeat (f : List Byte) (s : State) : State :=
  modTdr (fun t => if t.repq.length < 8 then { t with repq := t.repq ++ [hopped f] }
    else { t with repq := t.repq.drop 1 ++ [hopped f], repDrop := satAdd 32 t.repDrop 1 }) s

/-- A frame has been decoded with its link quality (R327 to R329, R335). -/
def takeFrame (f : List Byte) (q : Nat) (s : State) : State :=
  if frSite f ≠ tdrSite (tdrBlk s) then s
  else
    let key := (frSrc f, frSeq f)
    let known := s.tdr.seen.contains key
    let s := modTdr (fun t => { t with ok := satAdd 32 t.ok 1, selfLow := min t.selfLow (frSrc f) }) s
    if frSrc f = me s then
      if known || s.tdr.dup then s else e110 0 (modTdr (fun t => { t with dup := true, sent := [], arm := false }) s)
    else
      let s := if frHop f = 0 then hearNeighbour f q s else s
      if known then s
      else
        let s := modTdr (fun t => { t with seen := (key :: t.seen).take 256 }) s
        if frHop f < frNhop f then (if (frPath f).getD (frHop f) 0xFFFF = me s then queueRepeat f s else s)
        else if frHop f = frNhop f && (frDst f == me s || frBcast f) then acceptFrame f s else s

/-! ## The end of a span -/

/-- A bit of the span as decoded: its soft value, and whether it is an erasure, with soft value 0 (R324). -/
def slotSoft (x : TSlot) : Int × Bool := if !x.lost && x.okP && x.okN then (x.val, false) else (0, true)

/-- The soft values of a channel with their erasures, by channel position; a position without its slots is an erasure (R324,
R66). -/
def chanSoft (s : State) (c : Nat) : List (Int × Bool) :=
  (List.range 1036).map fun j =>
    match s.tdr.metrics.find? fun m => m.pos == 64 + c + tdrChans s * j with
    | some m => slotSoft m
    | none => (0, true)

/-- A channel at span end: idle, decoded to a frame, or failed (R324, R325). -/
def takeChannel (x : State × Nat) (c : Nat) : State × Nat :=
  let s := x.1
  let l := chanSoft s c
  let eras := (l.filter (·.2)).length
  let weak := (l.filter fun v => v.2 || decide (v.1.natAbs ≤ 2)).length
  let s := modTdr (fun t => { t with eras := satAdd 32 t.eras eras }) s
  if (l.map fun v => v.1.natAbs).sum < 2 * 1036 then (s, x.2)
  else match decodeFrame (l.map (·.1)) with
    | some f => (takeFrame f ((255 * (1036 - weak)) / 1036) s, x.2)
    | none => (modTdr (fun t => { t with bad := satAdd 32 t.bad 1 }) s, x.2 + 1)

/-- The node's own pulses gave no notch above one level on a phase throughout the span: TX_FAULT (R335). -/
def checkTx (s : State) : State :=
  (List.range (tdrPh s)).foldl (fun t k =>
    let own := s.tdr.metrics.filter fun m => m.pos % tdrPh s == k && !(slotSoft m).2 && (sendBit s m.pos).isSome
    if own.isEmpty then t
    else
      let bad := own.all fun m => (slotSoft m).1.natAbs ≤ 2
      level 111 k bad (prm [(1, k + 1)]) (modTdr (fun x => { x with txFault := vatMod x.txFault k fun _ => bad }) t)) s

/-- The span starts `ofs` cycles of L1 later (R322, R326). -/
def shiftSpan (ofs : Nat) (s : State) : State := modTdr (fun t => { t with halves := t.halves - 2 * (ofs : Int) }) s

/-- Frames of another island were decoded: after 3 consecutive spans the offset with the lower SRC is adopted (R326). -/
def otherIsland (l : List (Nat × Nat)) (s : State) : State :=
  match l with
  | [] => modTdr (fun t => { t with otherRun := 0, otherLow := 0xFFFF, selfLow := 0xFFFF }) s
  | (o, _) :: _ =>
    let low := ((l.filter fun x => x.1 == o).map (·.2)).foldl min 0xFFFF
    let go := s.tdr.otherRun != 0 && s.tdr.otherOfs == o
    let s := modTdr (fun t => { t with
      otherRun := if go then t.otherRun + 1 else 1, otherOfs := o, otherLow := if go then min t.otherLow low else low }) s
    if s.tdr.otherRun < 3 then s
    else
      let t := modTdr (fun t => { t with otherRun := 0, otherLow := 0xFFFF, selfLow := 0xFFFF }) s
      if s.tdr.otherLow < min s.tdr.selfLow (if s.tdr.sent.isEmpty then 0xFFFF else me s) then
        pulse 107 (prm [(2, s.tdr.otherLow)]) (shiftSpan o (modTdr (fun t => { t with syncOfs := o }) t))
      else t

/-- Put a frame in a channel of the next span; the node's own frames are known by SRC and FSEQ (R328, R335). -/
def putFrame (c : Nat) (f : List Byte) (s : State) : State :=
  let own := frSrc f == me s
  modTdr (fun t => { t with
    sent := t.sent ++ [(c, f)], fseq := if own then (t.fseq + 1) % 65536 else t.fseq
    seen := if own then ((me s, frSeq f) :: t.seen).take 256 else t.seen }) s

/-- The BEACON goes into channel `c`. -/
def putBeacon (c : Nat) (s : State) : State :=
  modTdr (fun t => { t with beaconDue := false, beacAt := s.clk.mono }) (putFrame c (beacon s) s)

/-- The frame at the head of the repeat queue goes into channel `c`. -/
def putRepeat (c : Nat) (s : State) : State :=
  match s.tdr.repq with
  | f :: r => putFrame c f (modTdr (fun t => { t with repq := r }) s)
  | [] => s

/-- The next ALLOC, if any, goes into channel `c`. -/
def putAlloc (c : Nat) (s : State) : State :=
  let ns := nextAlloc s
  if ns.isEmpty then s else putFrame c (allocFrame s ns) (allocSent ns s)

/-- A non-holder's own frame: a due BEACON, else a due DEMAND once a parent is known (R328, R331, R332). -/
def putOwn (c : Nat) (s : State) : State :=
  if s.tdr.beaconDue then putBeacon c s
  else if s.tdr.demDue && s.tdr.parent != 0xFFFF then
    let d := demand s
    modTdr (fun t => { t with demDue := false, demAt := s.clk.mono, demLast := d, demOpen := true, demSpans := 0 })
      (putFrame c (demandFrame s) s)
  else s

/-- Choose the frames of the next span (R328). -/
def chooseFrames (s : State) : State :=
  let c := tdrChans s
  let s := modTdr (fun t => { t with sent := [] }) s
  if s.tdr.join ≠ 3 || !maySend s || decide (c < 2) then s
  else
    let c1 := 1 + Config.freeNat s.clk.free % (c - 1)
    let k := 1 + Config.freeNat (s.clk.free + 1) % (c - 2)
    let c2 := if c = 2 then c1 else if k < c1 then k else k + 1
    let s := drawn 2 s
    if isHolder s then
      let s := if s.tdr.beaconDue then putBeacon 0 s else putAlloc 0 s
      if s.tdr.repq.isEmpty then putAlloc c1 s else putRepeat c1 s
    else if c = 2 then
      let rep := s.tdr.altRep
      let s := modTdr (fun t => { t with altRep := !rep }) s
      if rep then putRepeat c1 s else putOwn c1 s
    else putRepeat c2 (putOwn c1 s)

/-- The node is aligned: it first transmits a BEACON in the next span (R331). -/
def align (ofs : Nat) (s : State) : State :=
  setSync true ofs (modTdr (fun t => { t with
    halves := t.halves - 2 * (ofs : Int), join := 3, syncOfs := ofs, beaconDue := true, otherRun := 0, otherLow := 0xFFFF, selfLow := 0xFFFF }) (chooseParent s))

/-- A span heard while the node is not aligned (R326, R331). -/
def listenSpan (l : List (Nat × Nat × Nat)) (s : State) : State :=
  let good := (l.filter fun x => decide (x.2.1 ≤ 16) && decide (56 ≤ x.2.2)).map (·.1)
  let again := s.tdr.syncRun != 0 && good.contains s.tdr.syncOfs
  if again then align s.tdr.syncOfs s
  else
    let heard := s.tdr.syncRun != 0
    let s := modTdr (fun t => { t with spans := t.spans + 1, syncRun := b2n !good.isEmpty, syncOfs := good.headD t.syncOfs }) s
    if s.tdr.join = 1 && decide (2 ≤ s.tdr.spans) && good.isEmpty && !heard then
      drawn 1 (modTdr (fun t => { t with join := 2, waitAt := s.clk.mono, waitN := Config.freeNat s.clk.free % 1001 }) s)
    else s

/-- Fields of a committed block that wait for a span start take effect (R338). -/
def takeNext (s : State) : State :=
  match s.tdr.nxt with
  | some b =>
    let s := modTdr (fun t => { t with applied := some b, nxt := none }) s
    if s.tdr.failsafe then setFailsafe s else s
  | none => s

/-- The work of an aligned node at span end (R325, R333). -/
def alignedSpan (x : SpanIn) (s : State) : State :=
  let chans := (List.range (tdrChans s)).filter fun c => !(s.tdr.sent.any fun y => y.1 == c)
  let r := chans.foldl takeChannel (checkTx s, 0)
  let s := if r.2 = 0 then r.1 else pulse 106 (prm [(4, r.2)]) r.1
  let s := chooseParent (otherIsland x.others s)
  let s := modTdr (fun t => { t with
    budget := t.budNext.getD t.budget, budNext := none, demSpans := if t.demOpen then t.demSpans + 1 else 0 }) s
  takeNext (if isHolder s then applyOwn (recompute s) else s)

/-- Half-cycles of a span: SPAN × F_NOM cycles of L1 (R322). -/
def spanHalves (s : State) : Nat := 2 * tdrSpan (tdrBlk s) * s.tdr.fnom

/-- SPAN_END (R322, R325): at the upward crossing of L1 that ends the span, once the record of its last half-cycle has come, the span's
channels are decoded, frames handled, sync assessed, allocations recomputed, and the frames of the next span chosen. -/
def execSpanEnd (x : SpanIn) (s : State) : Host.Outcome State Fault Refusal :=
  .next (if !linkOn s || s.tdr.join == 0 || decide (s.tdr.halves + 1 < spanHalves s) then s
    else
      let s := modTdr (fun t => { t with halves := t.halves - spanHalves s }) s
      let s := if s.tdr.join = 3 then alignedSpan x s else takeNext (listenSpan x.syncs s)
      chooseFrames (modTdr (fun t => { t with metrics := [], mpos := [], tx := Vector.replicate 3 false, arm := false }) s))

/-- The node's own span timing starts at the next upward crossing of L1 (R322, R331). -/
def ownSpan (s : State) : State := modTdr (fun t => { t with halves := if t.halves % 2 = 0 then -2 else -3 }) s

/-- JOIN_LISTEN_END (R331): the random wait ends without sync, and the node starts its own span timing, with E105. -/
def execJoinListenEnd (s : State) : Host.Outcome State Fault Refusal :=
  .next (if linkOn s && s.tdr.join == 2 && elapsed s s.tdr.waitAt (1000 * s.tdr.waitN * tdrSpan (tdrBlk s)) then
      if s.tdr.syncRun = 0 then align 0 (ownSpan s) else modTdr (fun t => { t with join := 1 }) s
    else s)

/-- BEACON_DUE (R330): BEACON_T has passed since the last BEACON. -/
def execBeaconDue (s : State) : Host.Outcome State Fault Refusal :=
  .next (if linkOn s && s.tdr.join == 3 && elapsed s s.tdr.beacAt (1000000 * beaconT (tdrBlk s)) then
      modTdr (fun t => { t with beaconDue := true }) s
    else s)

/-- The demand has changed by at least 1.0 A on a phase (R332). -/
def demandMoved (s : State) : Bool :=
  (List.range 3).any fun k => decide (10 ≤ (((demand s).getD k 0 : Int) - s.tdr.demLast.getD k 0).natAbs)

/-- DEMAND_DUE (R332): DEM_PERIOD, a demand change or an unanswered DEMAND makes a DEMAND due. -/
def execDemandDue (s : State) : Host.Outcome State Fault Refusal :=
  .next (if linkOn s && s.tdr.join == 3 && !isHolder s &&
      (demandMoved s || elapsed s s.tdr.demAt (1000000 * demPeriod (tdrBlk s)) || (s.tdr.demOpen && decide (3 ≤ s.tdr.demSpans))) then
      modTdr (fun t => { t with demDue := true }) s
    else s)

/-- ALLOC_TIMEOUT (R334): ALLOC_TIMEOUT without an ALLOC, or with L1 UNLOCKED, sets FAILSAFE. -/
def execAllocTimeout (s : State) : Host.Outcome State Fault Refusal :=
  let d := 1000000 * allocTimeout (tdrBlk s)
  .next (if tdrOn s && s.pwr.tRunning && !s.tdr.failsafe && (heldFor s s.tdr.allocAt d || heldFor s s.tdr.l1Unl d) then setFailsafe s
    else s)

/-! ## Commands (R338 to R340) -/

/-- A change of TDR_EN, HOLDER, PHASES, SPAN, SITE_ID or NODE_ID (R338). -/
def tdrRestarts (old : Option (List Byte)) (b : List Byte) : Bool :=
  match old with
  | none => true
  | some o => u32 4 o % 32 != u32 4 b % 32 || tdrSite o != tdrSite b || tdrNode o != tdrNode b

/-- TDR_COMMIT (R337, R338, R340): joining restarts, or the other fields wait for the next span start; DUP_ID and the budget of
TDR_BUDGET are cleared, and a holder stays silent for ALLOC_TIMEOUT. -/
def tdrCommitBody (f : Flight) (s : State) : CmdOut :=
  need (rsv 0 4 f.pkt.payload) stBadParam <|
  takeStored s [0x0800] fun cs =>
  let b := afterCommit s cs 0x0800
  need (!(tdrPhases b == 3 && grpSystem (grp s 0) == 2)) stBadParam <|
  let s := commitCopies cs s
  let s := modTdr (fun t => { t with budget := [0, 0, 0], budNext := none, dup := false, nxt := none
                                     quiet := s.clk.mono + 1000000 * allocTimeout b }) s
  let s := if tdrRestarts s.tdr.applied b then joinAgain (some b) s
    else if s.tdr.join = 3 then modTdr (fun t => { t with nxt := some b }) s
    else takeNext (modTdr (fun t => { t with nxt := some b }) s)
  .done s (tApplied s)

def execTdrCommit (p : Pkt) (s : State) : Host.Outcome State Fault Refusal := .next (command 0x0801 (sized 4 tdrCommitBody) p s)

/-- LSTATE (R339). -/
def lstate (s : State) : Nat :=
  if !linkOn s then 0 else if s.tdr.join = 0 then 1 else if s.tdr.join ≤ 2 then 2
  else if isHolder s then 5 else if s.tdr.parent = 0xFFFF then 3 else 4

/-- LFLAGS (R339). -/
def lflags (s : State) : Nat :=
  b2n (loopUp s 0) + 2 * b2n (loopUp s 1) + 4 * b2n (loopUp s 2) + 8 * b2n (s.tdr.loops.toList.any fun l => l.st == .holdover) +
    16 * b2n (s.tdr.txFault.toList.any id) + 32 * b2n s.tdr.dup + 64 * b2n s.tdr.failsafe

def tdrStatusBody (_ : Flight) (s : State) : CmdOut :=
  let t := s.tdr
  .done s (le 8 (now s) ++ le 1 (lstate s) ++ le 1 (lflags s) ++ le 1 (if linkOn s then tdrChans s else 0) ++ le 1 t.cost ++
    le 2 t.parent ++ le 2 (if linkOn s then holderOf s else 0xFFFF) ++ le 2 t.nb.length ++ zeros 2 ++
    t.alloc.toList.flatMap (le 2) ++ zeros 2 ++
    le 4 (match t.allocAt with | some a => min ((s.clk.mono - a) / 1000000) 0xFFFFFFFF | none => 0xFFFFFFFF) ++
    le 4 t.ok ++ le 4 t.bad ++ le 4 t.eras ++ le 4 t.repDrop)

def execTdrStatus (p : Pkt) (s : State) : Host.Outcome State Fault Refusal := .next (command 0x0802 (sized 0 tdrStatusBody) p s)

/-- TDR_BUDGET (R340). -/
def tdrBudgetBody (f : Flight) (s : State) : CmdOut :=
  let p := f.pkt.payload
  need (rsv 6 2 p) stBadParam <|
  need (linkOn s && isHolder s) stState <|
  .done (modTdr (fun t => { t with budNext := some [u16 0 p, u16 2 p, u16 4 p] }) s) []

def execTdrBudget (p : Pkt) (s : State) : Host.Outcome State Fault Refusal := .next (command 0x0803 (sized 8 tdrBudgetBody) p s)

end Sys2Proof.Machine
end

