-- ==== Sys2Proof/Machine/Update.lean ====
section
/-!
DEFINITION. Firmware update (spec/19_firmware_update.md): the package and its checks (R423 to R426), building the inactive slot
(R424, R425), the boot selector (R429), what confirmation, revert and abort do (R427, R431 to R433), and the commands of 0x0Bxx
that start no reset.
-/

namespace Sys2Proof.Machine

/-! ## The package (R423) -/

/-- Package limit and update-staging size (R423). -/
def pkgMax : Nat := 8388608
/-- A firmware slot's size (R424). -/
def slotMax : Nat := 25165824

def manLen (h : List Byte) : Nat := u32 24 h
def payLen (h : List Byte) : Nat := u32 28 h
/-- Bytes of the package after the header. -/
def pkgTotal (h : List Byte) : Nat := manLen h + payLen h

/-- Manifest entry `k`. -/
def manE (man : List Byte) (k : Nat) : List Byte := slice (80 * k) 80 man
/-- The manifest entries. -/
def manEs (man : List Byte) : List (List Byte) := (List.range (man.length / 80)).map (manE man)
def pType (e : List Byte) : Nat := u8 0 e
def pDelta (e : List Byte) : Bool := bit (u8 1 e) 1
def pVer (e : List Byte) : Nat := u32 4 e
def pOffset (e : List Byte) : Nat := u32 8 e
def pLen (e : List Byte) : Nat := u32 12 e
def pImgLen (e : List Byte) : Nat := u32 16 e
def pHash (e : List Byte) : List Byte := slice 32 48 e

/-- Part types of restart class cold (R423, table of part types). -/
def coldType (t : Nat) : Bool := [0x05, 0x06, 0x0A, 0x0B].contains t

/-- The first check that fails, by its REASON. -/
def firstFail : List (Nat × Bool) → Option Nat
  | [] => none
  | (r, ok) :: xs => if ok then firstFail xs else some r

/-- Checks 1 to 7 (R426); K verifies no signature while the algorithm has failed its test (R419). -/
def headerFail (s : State) (h : List Byte) : Option Nat :=
  firstFail [
    (1, slice 0 4 h == le 4 0x554E5650 && u16 4 h == 1 && rsv 176 752 h && decide (u8 8 h ≤ 1) && decide (u8 9 h ≤ 1)),
    (2, u8 6 h == s.member.points && decide (u8 7 h ≤ Config.siliconRev)),
    (3, u8 8 h == 0 || slice 32 48 h == sha (le 8 Config.serial.toNat)),
    (4, !s.key.kat.contains katBrainpool && Config.ecdsaVerify Config.updatePub (h.take 928) (slice 928 96 h)),
    (5, decide (s.upd.secVer ≤ u32 20 h)),
    (6, u8 9 h == 0 || slice 128 48 h == sha (activeSet s).manifest),
    (7, decide (1024 + manLen h + payLen h ≤ pkgMax) && manLen h == 80 * u16 10 h && within (u16 10 h) 1 32)]

/-- Two parts share bytes of the payload. -/
def overlap (a b : List Byte) : Bool := decide (pOffset a < pOffset b + pLen b) && decide (pOffset b < pOffset a + pLen a)

/-- No two entries of a list overlap. -/
def apart : List (List Byte) → Bool
  | [] => true
  | e :: es => es.all (fun x => !overlap e x) && apart es

/-- Checks 8, 9 and 12 (R426). -/
def manifestFail (s : State) (h man : List Byte) : Option Nat :=
  let es := manEs man
  let met := (activeSet s).metVer
  firstFail [
    (8, sha man == slice 80 48 h),
    (9, es.all (fun e => within (pType e) 1 0x0B && decide (pOffset e + pLen e ≤ payLen h) && (!pDelta e || u8 9 h == 1)) &&
      distinct (es.map pType) && apart es),
    (12, (match es.find? fun e => pType e == 0x0B with
        | some e => u32 16 h == pVer e
        | none => u32 16 h == met) && (!(es.any fun e => pType e == 0x0A) || u32 16 h != met))]

/-! ## Building the set (R424, R425) -/

/-- Apply a delta's operations to a base image; `fuel` bounds their number, each takes a byte (R425). -/
def applyDelta (base : List Byte) : Nat → List Byte → List Byte → Option (List Byte)
  | 0, _, _ => none
  | fuel + 1, ops, img =>
    match ops with
    | [] => none
    | op :: rest =>
      if op = 0 then some img
      else if op = 1 then
        if rest.length < 8 ∨ base.length < u32 0 rest + u32 4 rest then none
        else applyDelta base fuel (rest.drop 8) (img ++ slice (u32 0 rest) (u32 4 rest) base)
      else if op = 2 then
        if rest.length < 4 + u32 0 rest then none
        else applyDelta base fuel (rest.drop (4 + u32 0 rest)) (img ++ slice 4 (u32 0 rest) rest)
      else none

/-- The resulting image of a manifest entry (R424, R425). -/
def resultImage (base pay e : List Byte) : Option (List Byte) :=
  let d := slice (pOffset e) (pLen e) pay
  if pDelta e then (applyDelta base (d.length + 1) d []).filter fun i => i.length == pImgLen e else some d

/-- The resulting parts: type and image, none for an image that cannot be built (R424). -/
def resultParts (old : FwSet) (man pay : List Byte) : List (Nat × Option (List Byte)) :=
  ((List.range 0x0B).map (· + 1)).filterMap fun t =>
    match (manEs man).find? fun e => pType e == t with
    | some e => some (t, resultImage (partOf old t) pay e)
    | none => (old.parts.find? fun p => p.1 == t).map fun p => (t, some p.2)

/-- Checks 10, 11 and 13 (R426). -/
def slotFail (man : List Byte) (ps : List (Nat × Option (List Byte))) : Option Nat :=
  firstFail [
    (10, (manEs man).all fun e => ps.any fun p => p.1 == pType e && (p.2.map sha) == some (pHash e)),
    (11, ps.all fun p => p.1 != 0x09 || (p.2.map waveValid).getD false),
    (13, decide ((ps.map fun p => (p.2.map (·.length)).getD 0).sum ≤ slotMax))]

/-! ## State of the update -/

def modSlots (i : Nat) (f : FwSet → FwSet) (s : State) : State := { s with upd.slots := vatMod s.upd.slots i f }

/-- The inactive slot. -/
def spareSlot (s : State) : Nat := 1 - (selector s).slot

/-- E124: a package is accepted or rejected. -/
def e124 (s : State) : State := pulse 124 [] s

/-- The staging partition is emptied. -/
def emptyStage (s : State) : State := { s with upd.st := .empty, upd.header := [], upd.data := [], upd.cls := 0, upd.actAt := none }

/-- A package is rejected (R426). -/
def pkgReject (reason : Nat) (s : State) : State := e124 (emptyStage { s with upd.reason := reason })

/-- UPD_ABORT, and a reset that reaches the host port or a loss of supply with a package in hand (R427). -/
def updDrop (s : State) : State := modSlots (spareSlot s) (fun x => { x with valid := false }) (emptyStage s)

/-- A package is received, being written or ready. -/
def updBusy (s : State) : Bool := s.upd.st == .receiving || s.upd.st == .writing || s.upd.st == .ready

/-- What a reset that reaches the host port, or a loss of supply, does to a package in hand (R427). -/
def updLost (s : State) : State := if updBusy s then updDrop s else s

/-- The boot selector is written, one copy after the other, with the next generation (R429). -/
def putSelector (c : SelCopy) (s : State) : State :=
  let c := some { c with gen := (selector s).gen + 1 }
  { s with upd.selA := c, upd.selB := c }

/-- The running set is on trial (R430). -/
def onTrial (s : State) : Bool := (selector s).trial

/-- UPD_BEGIN (R426, R427). -/
def updBeginBody (f : Flight) (s : State) : CmdOut :=
  let h := f.pkt.payload
  need (!updBusy s && !onTrial s) stState <|
  match headerFail s h with
  | some r => .failed (pkgReject r s) stPkgRejected
  | none => .done { s with upd.st := .receiving, upd.header := h, upd.data := [], upd.src := f.pkt.src, upd.cls := 0 } []

def execUpdBegin (p : Pkt) (s : State) : Host.Outcome State Fault Refusal := .next (command 0x0B01 (sized 1024 updBeginBody) p s)

/-- UPD_DATA (R426, R427): the manifest is checked when its last byte is in; with the last byte of all, writing begins. -/
def updDataBody (f : Flight) (s : State) : CmdOut :=
  let p := f.pkt.payload
  let d := p.drop 4
  let h := s.upd.header
  let rx := s.upd.st == .receiving
  need (within p.length 5 16384 && (!rx || decide (u32 0 p + d.length ≤ pkgTotal h))) stBadParam <|
  need (rx && s.upd.src == f.pkt.src && u32 0 p == s.upd.data.length) stState <|
  let all := s.upd.data ++ d
  let man := all.take (manLen h)
  let due := decide (s.upd.data.length < manLen h) && decide (manLen h ≤ all.length)
  match (if due then manifestFail s h man else none) with
  | some r => .failed (pkgReject r s) stPkgRejected
  | none =>
    let s := { s with upd.data := all }
    let s := if all.length = pkgTotal h then
        modSlots (spareSlot s) (fun x => { x with valid := false }) { s with upd.st := .writing } else s
    .done s (le 4 all.length)

def execUpdData (p : Pkt) (s : State) : Host.Outcome State Fault Refusal := .next (command 0x0B02 updDataBody p s)

/-- The restart class of the resulting parts: 2 cold when a part of class cold changes, else 1 warm (R428). -/
def classOf (old : FwSet) (ps : List (Nat × List Byte)) : Nat :=
  if ps.any fun p => coldType p.1 && p.2 != partOf old p.1 then 2 else 1

/-- UPD_SLOT_WRITTEN (R424 to R426): the slot-write checks, and the set in the inactive slot. -/
def execUpdSlotWritten (s : State) : Host.Outcome State Fault Refusal :=
  let h := s.upd.header
  let man := s.upd.data.take (manLen h)
  let old := activeSet s
  let ps := resultParts old man (s.upd.data.drop (manLen h))
  .next (if s.upd.st != .writing || !appUp s then s
    else match slotFail man ps with
      | some r => pkgReject r s
      | none =>
        let imgs := ps.map fun p => (p.1, p.2.getD [])
        let set : FwSet := { fwVer := u32 12 h, metVer := u32 16 h, secVer := u32 20 h, manifest := man, parts := imgs,
                             formats := Config.declaredFormats imgs, valid := true }
        e124 (modSlots (spareSlot s) (fun _ => set) { s with upd.st := .ready, upd.cls := classOf old imgs }))

/-- UPD_ACTIVATE (R428). -/
def updActivateBody (f : Flight) (s : State) : CmdOut :=
  let p := f.pkt.payload
  let t := u16 0 p
  need ((t == 0 || within t 10 3600) && rsv 2 2 p) stBadParam <|
  need (s.upd.st == .ready && !((points s).any (sessOpen s))) stState <|
  .done { s with upd.actAt := some (s.clk.mono, t) } []

def execUpdActivate (p : Pkt) (s : State) : Host.Outcome State Fault Refusal := .next (command 0x0B03 (sized 4 updActivateBody) p s)

/-! ## The trial (R430 to R433) -/

/-- The selector names the new slot with TRIAL set, and every stored block is kept (R428, R429, R433). -/
def trialBegin (t : Nat) (s : State) : State :=
  let new := vat s.upd.slots (spareSlot s) {}
  { putSelector { slot := spareSlot s, trial := true, cls := s.upd.cls, secVer := new.secVer,
                  deadline := if t = 0 then 0 else s.clk.mono + 1000000 * t } s with
    blk.keepStored := s.blk.stored, blk.keepCommitted := s.blk.committed
    upd.st := .trial, upd.trialAt := s.clk.mono, upd.actAt := none }

/-- Identifiers in an old format (R433). -/
def oldFormats (s : State) : List Nat :=
  (((s.blk.stored ++ s.blk.committed).filter fun c => !formatFits s c).map (·.id)).eraseDups

/-- A stored block that holds the reset value of every field, in the format the set expects (R433, R521). -/
def resetCopy (s : State) (id : Nat) : BlkCopy :=
  { id, bytes := withCrc (le 2 id ++ le 2 (formatOf s id) ++ blockReset id), bstate := 3, byHost := false,
    wcount := ((storedCopy s id).map (·.wcount)).getD 0 }

/-- A block in an old format is reset (R433). -/
def resetBlock (id : Nat) (s : State) : State :=
  let st := if (storedCopy s id).all (formatFits s) then s.blk.stored else putCopy (resetCopy s id) s.blk.stored
  { s with blk.stored := st, blk.committed := dropCopy id s.blk.committed }

/-- E127 with block identifiers, eight in each occurrence. -/
def e127 : Nat → List Nat → State → State
  | 0, _, s => s
  | k + 1, ids, s => if ids.isEmpty then s else e127 k (ids.drop 8) (pulse 127 (prm ((ids.take 8).map fun i => (2, i))) s)

/-- The settings rule at confirmation (R433). -/
def settingsRule (s : State) : State :=
  let ids := oldFormats s
  e127 ids.length ids (recheck (ids.foldl (fun t i => resetBlock i t) s))

/-- Confirmation of the set on trial (R432). -/
def confirmSet (s : State) : State :=
  let sel := selector s
  let s := putSelector { sel with trial := false, cls := 0, deadline := 0 } s
  let s := { emptyStage s with upd.secVer := max s.upd.secVer sel.secVer, blk.keepStored := [], blk.keepCommitted := [] }
  let s := settingsRule { s with blk.keepStored := [], blk.keepCommitted := [] }
  let s := wiredWrite 0 (identity s) s
  pulse 125 [] s

/-- Revert: the old slot, the settings as kept, the failed set invalid, E126 (R431, R433). -/
def revertSet (s : State) : State :=
  let sel := selector s
  let s := modSlots sel.slot (fun x => { x with valid := false }) s
  let s := putSelector { slot := 1 - sel.slot } s
  pulse 126 []
    { emptyStage s with
      upd.st := .reverted
      blk.stored := s.blk.keepStored, blk.committed := s.blk.keepCommitted, blk.keepStored := [], blk.keepCommitted := [] }

/-- UPD_CONFIRM (R432). -/
def updConfirmBody (_ : Flight) (s : State) : CmdOut := need (onTrial s) stState <| .done (confirmSet s) []

def execUpdConfirm (p : Pkt) (s : State) : Host.Outcome State Fault Refusal := .next (command 0x0B04 (sized 0 updConfirmBody) p s)

/-- UPD_ABORT (R427). After a revert USTATE stays REVERTED until the next UPD_BEGIN (R431). -/
def updAbortBody (_ : Flight) (s : State) : CmdOut :=
  need (!onTrial s) stState <|
  .done (if s.upd.st == .reverted then { updDrop s with upd.st := .reverted } else updDrop s) []

def execUpdAbort (p : Pkt) (s : State) : Host.Outcome State Fault Refusal := .next (command 0x0B06 (sized 0 updAbortBody) p s)

/-- USTATE codes. -/
def ustCode : UpdSt → Nat
  | .empty => 0 | .receiving => 1 | .writing => 2 | .ready => 3 | .trial => 4 | .reverted => 5

/-- UPD_STATUS (88 bytes). -/
def updStatusBody (_ : Flight) (s : State) : CmdOut :=
  let a := activeSet s
  let sel := selector s
  let h := s.upd.header
  .done s (le 8 (now s) ++ le 1 (ustCode s.upd.st) ++ le 1 s.upd.reason ++ le 1 sel.slot ++ le 1 s.upd.cls ++
    le 4 s.upd.data.length ++ le 4 (pkgTotal h) ++ le 4 a.fwVer ++ le 4 a.metVer ++ le 4 s.upd.secVer ++ le 4 (u32 12 h) ++
    le 4 (if sel.trial && sel.deadline != 0 then (sel.deadline - s.clk.mono + 999999) / 1000000 else 0) ++ sha a.manifest)

def execUpdStatus (p : Pkt) (s : State) : Host.Outcome State Fault Refusal := .next (command 0x0B05 (sized 0 updStatusBody) p s)

end Sys2Proof.Machine
end

