-- ==== Sys2Proof/Machine/Reset.lean ====
section
/-!
DEFINITION. Resets and starts as the rows of spec/20_power_reset_clocks.md share them: what saving before a planned reset does
(R129, R448), the reach of each reset kind (R14, R447, R449), the boot sequence (R451) with the restoration of R143, and the
start of the application side.
-/

namespace Sys2Proof.Machine

/-! ## Saving (R129) -/

/-- Every meter's window is split and closed (R72, R129 step 1). -/
def closeAll (s : State) : State :=
  (units 9).foldl (fun t m => if hasGroup t m.1 then windowClose m t else t) (boundaryAll [] s)

/-- P100 and PFW are written (R128). -/
def saveBoth (s : State) : State :=
  let s := persist { s with pfw.logNext := s.led.logNext }
  { s with nvBill.pfw := s.pfw }

/-- Steps 1 to 3 of R129; nothing is saved before metering is valid (R440). -/
def saveSteps (s : State) : State := if s.fe.valid then saveBoth (tariffEval (gridFire false (closeAll s)).1) else s

/-- Steps 1 to 3 of R129 before a planned reset, without a power-fail record (R428, R445, R448). -/
def savePlanned (s : State) : State := if s.fe.valid then { saveSteps s with nvBill.planned := true } else s

/-! ## Cold and pin resets (R446 to R448) -/

/-- Entries the event-log tail loses at a reset that no write of class PFW preceded: the newest ones since that write, at most as many
as the device holds outside the MRAM (R128, R147; log entry 606). -/
def lostTail (s : State) : Nat :=
  let k := (s.led.logNext + 2 ^ 32 - s.nvBill.pfw.logNext) % 2 ^ 32
  if k = 0 then 0 else min k Config.logTail

/-- The event log without its lost tail. -/
def loseTail (s : State) : State :=
  let k := lostTail s
  if k = 0 then s else { s with led.log := s.led.log.drop k, led.logNext := (s.led.logNext + 2 ^ 32 - k) % 2 ^ 32 }

/-- What a cold or pin reset reaches takes its reset value: everything but persistent memory, the Tailstock domain, the field
domain and the levels of supplies and input lands (R447). -/
def coldBase (p : PhaseKind) (s : State) : State :=
  let s := loseTail s
  let d : State := {}
  let w := s.pwr
  { s with
    clk.slew := 0, clk.slewAcc := 0
    pwr := {
      phase := p, vsysValid := w.vsysValid, vioValid := w.vioValid, vsysMv := w.vsysMv, vbatMv := w.vbatMv, vbatLow := w.vbatLow
      dieTemp := w.dieTemp, resetN := w.resetN, testMode := w.testMode, straps := w.straps, heldCause := w.heldCause
      heldKind := w.heldKind, pfwnLevel := w.pfwnLevel }
    blk.taken := [], port := { out := s.port.out }, ev := d.ev, mbx := d.mbx, fe := d.fe, filt := d.filt, en := d.en
    p100 := ((p100Newest s).map (·.2)).getD {}, pfw := s.nvBill.pfw, bill := d.bill
    pilot := s.pilot.map fun _ => { aSince := some s.clk.mono }
    sess := d.sess, hlc := d.hlc, can := d.can, earth := d.earth, earthDev := d.earthDev
    safe := s.safe.map fun x => { check := x.check }
    safeDev := d.safeDev
    sw := { lhEn := s.sw.lhEn, lhIn := s.sw.lhIn, fb := s.sw.fb, fb1 := s.sw.fb1, lk := s.sw.lk.map fun l => { lks := l.lks } }
    rdr := d.rdr, tdr := d.tdr, dsp := d.dsp, key := d.key }

/-- A reset is counted in the Tailstock domain: kind 0 cold, 1 pin, 2 warm, 3 block (R456). -/
def countReset (kind : Nat) (s : State) : State :=
  match kind with
  | 0 => { s with tail.cold := satAdd 32 s.tail.cold 1 }
  | 1 => { s with tail.pin := satAdd 32 s.tail.pin 1 }
  | 2 => { s with tail.warm := satAdd 32 s.tail.warm 1 }
  | _ => { s with tail.block := satAdd 32 s.tail.block 1 }

/-- Nothing holds the device in reset: the boot begins (R436, R446, R451). -/
def released (s : State) : Bool := s.pwr.vsysValid && s.pwr.vioValid && s.pwr.resetN

/-- A cold (0) or pin (1) reset begins, whatever ran before. -/
def coldEnter (kind cause : Nat) (s : State) : State :=
  let s := countReset kind (updLost s)
  let s := { s with tail.lastKind := kind, tail.lastCause := cause, pwr.heldKind := kind, pwr.heldCause := cause }
  coldBase (if released s then .boot else .held) s

/-- A cold or pin reset arrives: one that finds another running is counted and absorbed; on trial it fails the trial (R430,
R447). -/
def coldReset (kind cause : Nat) (s : State) : State :=
  match s.pwr.phase with
  | .off => s
  | .held => countReset kind s
  | .boot => if released s then countReset kind s else { countReset kind s with pwr.phase := .held }
  | _ => coldEnter kind cause (if onTrial s then revertSet s else s)

/-- A holding condition ends: the held reset is released (R436, R446). -/
def tryRelease (s : State) : State := if s.pwr.phase = .held && released s then { s with pwr.phase := .boot } else s

/-! ## The application side starts (R379, R403, R456) -/

/-- E1: kind, cause and the four counters (R465). -/
def e1 (kind cause : Nat) (s : State) : State :=
  pulse 1 (prm [(1, kind), (1, cause), (4, s.tail.cold), (4, s.tail.pin), (4, s.tail.warm), (4, s.tail.block)]) s

/-- The host port starts and application firmware runs: the port start counter rises, the network block applies, the counters
are mirrored, sessions that wait close or open (R17, R21, R379, R389, R456, R462). -/
def appStart (s : State) : State :=
  let s := { s with
    port.ready := true, port.netPend := none, port.netApplied := committed s 0x0110
    led.bootCnt := (s.led.bootCnt + 1) % 2 ^ 32
    pwr.appRunning := true, pwr.appResetAt := none, pwr.pstate := .run, pwr.aTask := true, pwr.allowedSince := none
    clk.tStart := if s.clk.timeValid then now s else 0
    upd.mirror := [s.tail.cold, s.tail.pin, s.tail.warm, s.tail.block], sw.stale := false }
  retryOpen (followLimp ((points s).foldl (fun t n => closeWarm n t) s))

/-! ## Boot (R451) -/

/-- A copy of the option record is valid (R452). -/
def optValid (b : List Byte) : Bool := b.length == 224 && slice 0 4 b == le 4 0x4F564E50 && u16 4 b == 1 && crcOk b

/-- The copy the boot state machine uses: the valid one with the higher GEN (R452). -/
def optPick (s : State) : Option (List Byte) :=
  let a := s.upd.opt1
  let b := s.upd.opt2
  if optValid a && optValid b then some (if u32 8 a < u32 8 b then b else a)
  else if optValid a then some a else if optValid b then some b else none

/-- A channel block designates the channel as a coil (R267). -/
def storedCoil (s : State) (i : Nat) : Bool := i < 16 && (storedCopy s (0x0601 + i)).any fun c => chRole c.bytes == 2

/-- LH_MAP[k] without absent channels and coil channels (R267). -/
def lhWord (s : State) (w : Nat) : Nat :=
  ((List.range 24).map fun i => if w.testBit i && hasChan s i && !storedCoil s i then 2 ^ i else 0).sum + (if w.testBit 24 then 2 ^ 24 else 0)

/-- The debug state is requested and granted (R420, R452). -/
def debugOk (b : List Byte) : Bool :=
  bit (u32 12 b) 7 && u64 104 b == Config.serial.toNat && Config.ecdsaVerify Config.debugPub (slice 104 16 b) (slice 120 96 b)

/-- Boot step 3: option record, straps, limp-home map, and the measurement of boot code and option record (R399, R418, R451
to R453, R485); without a valid copy the port enters the wait state, with E11 (R387). -/
def bootRecords (straps : Nat) (s : State) : State :=
  let o := optPick s
  let own := o.any fun b => bit (u32 12 b) 6
  let s := { s with
    pwr.straps := straps % 64, pwr.optLoaded := o, pwr.optA := optValid s.upd.opt1, pwr.optB := optValid s.upd.opt2
    pwr.addr := if own then (o.map fun b => bits (u32 12 b) 5 0).getD 0 else straps % 64
    pwr.addrSrc := b2n own, port.wait := o.isNone, sw.lhOk := true
    sw.lhMap := (List.range 4).map fun k => lhWord s ((o.map fun b => u32 (80 + 4 * k) b).getD 0)
    key.bootHash := sha Config.bootCode, key.optHash := sha (o.getD []) }
  let s := if o.isNone then pulse 11 (prm [(1, 3)]) s else s
  followLimp s

/-- Boot step 4: K measures the selected set and verifies the debug token; E123 when the debug state is entered or has ended
(R418, R420). -/
def bootMeasure (s : State) : State :=
  let a := activeSet s
  let dbg := s.pwr.optLoaded.any debugOk
  let was := s.nvKey.debugWas
  let s := { s with key.manHash := sha a.manifest, key.metHash := sha (partOf a 0x0B), key.debug := dbg, nvKey.debugWas := dbg }
  let s := if dbg then level 123 0 true [] s else if was then occur 123 false [] s else s
  kStart s

/-- The coefficients a modulator starts with: factory ones, marked COLD, or in a degraded group the last stored set (R40,
R42). -/
def startMod (s : State) (i : Nat) : Modu :=
  match (if isDegraded s (gIx i) then storedCoef (vat s.nvFe.mods i {}) else none) with
  | some c => { cur := c, prev := c, cold := false }
  | none => { cur := factoryCoef i, prev := factoryCoef i }

/-- Counters and time at a cold start: lost contents are restored from the mirror; the device time comes from the RTC, and is
invalid while RTC_LOSS is set (R113, R455 to R457). -/
def bootTime (s : State) : State :=
  let t := s.tail
  let m := fun (k : Nat) => s.upd.mirror.getD k 0
  let s := if t.intact then s else { s with
    tail.intact := true, tail.rtcLoss := true
    tail.cold := satAdd 32 (m 0) t.cold, tail.pin := satAdd 32 (m 1) t.pin, tail.warm := satAdd 32 (m 2) t.warm
    tail.block := satAdd 32 (m 3) t.block }
  let was := s.clk.timeValid
  let s := { s with clk.time := s.tail.rtc, clk.timeValid := !s.tail.rtcLoss }
  let s := level 4 0 s.pwr.vbatLow (prm [(1, 0), (2, s.pwr.vbatMv)]) s
  let s := level 4 1 s.tail.rtcLoss (prm [(1, 1), (2, s.pwr.vbatMv)]) s
  if was && !s.clk.timeValid then pulse 36 (prm [(8, now s)]) s else s

/-- Level events whose condition is held in persistent memory are raised afresh (R401). -/
def reraise (s : State) : State :=
  let s := (units 9).foldl (fun t g => if vget t.nvFe.degraded g then setDegraded g.1 true t else t) s
  let s := (units 9).foldl (fun t m =>
    let p := prm [(1, m.1), (8, now t)]
    let st := (vget t.p100.m m).ppState
    level 39 m.1 (st == .ppFault) p (level 37 m.1 (st == .low) p t)) s
  let s := (units 24).foldl (fun t c => e81 c t) s
  let s := (points s).foldl (fun t n =>
    let x := nvp t n
    let t := if x.welded then level 75 n.1 true (prm75 t n) t else t
    let t := if x.pathFail then e76 n 1 true t else t
    let t := if x.cutFault then e76 n 4 true t else t
    if x.lockFault then setLockFault n true t else t) s
  let s := reportFault (level 41 0 s.led.low [] s)
  level 44 0 s.tail.coverOpen [] s

/-- Boot step 5: the safety pair issues cycle words and metering is valid: modulators, the sample grid, windows, sides (R15, R42,
R55, R71, R231). -/
def bootMetering (s : State) : State :=
  let s := { s with
    pwr.phase := .run, safeDev.running := true
    fe := {
      valid := true, validAt := s.clk.mono, mods := Vector.ofFn fun i => startMod s i.1
      xch := Vector.replicate 72 { fpInv := some s.clk.mono, xAt := s.clk.mono } }
    earth := s.earth.map fun (e : Earth) => { e with offRun := true }
    safe := s.safe.map fun (x : Safe) => { x with openAt := s.clk.mono }
    p100.lastFired := Vector.ofFn fun b => max (vget s.p100.lastFired b) (vget s.tail.lastFired b) }
  checkAtStart (startMeters { s with fe.valid := false } { s with tail.lastFired := s.p100.lastFired })

/-- A restoration is due: billing state had been written, and the last write was not a planned one (R143, R448). -/
def restoreDue (s : State) : Bool :=
  (p100Newest s).isSome && (!s.nvBill.planned || s.p100.sess.toList.any fun x => x.on)

/-- What an outage leaves in the demand intervals: OUTAGE, and sliding demand incomplete until it has refilled (R109, R117). -/
def markOutage (s : State) : State :=
  { s with p100.m := s.p100.m.map fun x => { x with demShort := x.demShort ||| 4, demRun := 0 } }

/-- RESTORATION (R117, R143): at once with valid time, else when time becomes valid; a planned restart leaves no outage. Demand is
INCOMPLETE from the reset on (R109). -/
def bootBilling (s : State) : State :=
  let s := (units 9).foldl (fun t m => netPending m (startWin m t))
    { s with bill.tariff := (tariffAt s (now s)).1, bill.friendly := (tariffAt s (now s)).2 }
  let s := { s with p100.m := s.p100.m.map fun (x : MeterP) => { x with demRun := 0 } }
  let s := if restoreDue s then
      let s := markOutage { s with
        bill.restPend := true
        bill.restT := (s.nvBill.warned.map (·.1)).getD s.p100.time
        bill.restWarned := s.nvBill.warned.isSome }
      if s.clk.timeValid then restore s else s
    else if s.nvBill.planned then { s with p100.profOutTo := now s } else s
  let s := { s with nvBill.planned := false }
  if s.tail.latched then
    tamperRec 3 0xFF 0 s.tail.openTime (pulse 44 [] { s with tail.latched := false })
  else s

/-- A metrology part other than that of the last start: its legal-event record (R428, R431). -/
def bootLegal (s : State) : State :=
  let m := (activeSet s).metVer
  if s.upd.metLast = m then s else legalRecord 255 true (le 4 s.upd.metLast ++ le 4 m) { s with upd.metLast := m }

/-- Antenna baselines stored within 10 K of the present temperature are used at once (R282). -/
def bootAntennas (s : State) : State :=
  (units 8).foldl (fun t k =>
    match (nvAnt t k).base with
    | some (b, tmp) =>
      if hasPoint t k && decide ((t.pwr.dieTemp - tmp).natAbs ≤ 1000) then
        e101 k 1 (modAnt k (fun x => { x with base := some b, reused := true }) t) else t
    | none => t) s

/-- Boot step 6: P, T and K run, and the port's network side starts (R310, R331, R347, R372, R388, R451). -/
def bootApplication (s : State) : State :=
  let s := { s with pwr.tRunning := true, pwr.pRunning := Vector.replicate 2 true, port.netApplied := committed s 0x0110 }
  bootAntennas (storeStart (dspCold (tdrStart (ptpStart (ringStart s)))))

/-- The boot sequence up to the host port being ready (R451); with TEST_MODE high no core is released (R486). -/
def boot (straps : Nat) (test : Bool) (s : State) : State :=
  let s := { s with pwr.testMode := test, pwr.straps := straps % 64 }
  if test then { s with pwr.phase := .testHold }
  else
    let s := reraise (bootMetering (bootTime (bootMeasure (bootRecords straps s))))
    let s := queueStart (adoptSlot s)
    let s := appStart (bootApplication (bootLegal (bootBilling s)))
    persist (e1 s.pwr.heldKind s.pwr.heldCause s)

/-! ## Warm and block resets (R14, R447, R449) -/

/-- The high-level session of a point is lost (R190). -/
def hlcLost (n : Fin 8) (s : State) : State :=
  modHlc n (fun h => {
    phase := h.phase, evU := h.evU, evI := h.evI, offI := h.offI, offP := h.offP, psFault := h.psFault, psGood := h.psGood
    psAt := h.psAt, canTo := h.canTo, nmk := h.nmk, atten := h.atten, ready := h.ready, measU := h.measU, measI := h.measI
    measOk := h.measOk, avU := h.avU, avI := h.avI, avP := h.avP, loopAt := h.loopAt, tgtU := h.tgtU
    failed := h.failed }) s

/-- A reset of the application side affects the point's session; one whose contactor is confirmed open already closes its values now
(R21, R450). -/
def armX1 (n : Fin 8) (s : State) : State :=
  if sessRuns s n && !(ses s n).x1Arm then
    closeWarm n (modSafe n (fun x => { x with reqClose := false })
      (modSess n (fun x => { x with x1Arm := true, x1At := s.clk.mono }) s))
  else s

/-- Requests that await a decision are discarded without E98 (R293). -/
def dropReqs (s : State) : State := { s with sess := s.sess.map fun x => { x with req := none, waiting := [] } }

/-- The A cluster and the host port are reset: commands, replies, reassemblies and grants go, and the sessions are affected
(R21, R190, R379, R417, R450). -/
def resetA (s : State) : State :=
  let s := dropReqs <| dropCommits [1, 4] { updLost s with
    port.ready := false, port.flights := [], port.held := [], port.kept := [], port.spiOut := [], port.reasm := [], port.fence := none
    port.overrun := false, port.notify := s.port.notify.map fun y => { y with sentAt := none }
    key.nonces := [], key.grants := []
    pwr.appRunning := false, pwr.appResetAt := some s.clk.mono, pwr.resetReq := none, pwr.pstate := .run, pwr.aTask := true
    pwr.allowedSince := none }
  (points s).foldl (fun t n => hlcLost n (armX1 n t)) s

/-- P0 or P1 is reset: high-level sessions of its points are lost (R449). -/
def resetP (u : Nat) (s : State) : State :=
  let s := { s with pwr.pRunning := vatMod s.pwr.pRunning (if u = 1 then 0 else 1) fun _ => false }
  (points s).foldl (fun t n => if unitServes u n && (hl t n).active then hlcLost n (armX1 n t) else t) s

/-- T is reset: the reader's polls and presentations, the Tider link and the display sequence end (R293, R344, R358, R449). -/
def resetT (s : State) : State :=
  let s := dropReqs (dspStop { s with
    pwr.tRunning := false
    rdr := { ant := s.rdr.ant.map fun x => {
      base := x.base, fst0 := x.fst0, last := x.last, reused := x.reused, lastType := x.lastType, lastId := x.lastId, tLast := x.tLast
      lastPing := x.lastPing, selfAt := x.selfAt, fault := x.fault }, asel := s.rdr.asel, storeAt := s.rdr.storeAt } })
  modTdr (fun t => { t with tx := Vector.replicate 3 false, arm := false }) s

/-- K is reset: its slots and outstanding work are lost (R449). -/
def resetK (s : State) : State := { s with pwr.kRunning := false, key.chuck := Vector.replicate 64 {}, key.waits := [], key.nonces := [] }

/-- T runs again. -/
def startT (s : State) : State := dspStart (tdrStart { s with pwr.tRunning := true })

/-- A channel with RESET_OFF goes off unless limp-home takes it over; coil channels stay under S0; lock operations end with the
bridge braked (R268). -/
def resetChannels (s : State) : State :=
  let s := followLimp s
  let s := (units 24).foldl (fun t c =>
    let b := chP t c.1
    if resetOff b && chRole b != 2 && !(t.sw.limp && inLimpMap t c.1) && (vget t.sw.ch c).st != .off then chanOff c t else t) s
  { s with sw.lk := s.sw.lk.map fun l =>
      if l.op = 0 then l else { l with op := 0, drive := 0, brake := true, repeatOp := l.op, cmd := none } }

/-- E2: unit, begun or ended as its level, ESCALATED (R449, R465). -/
def e2 (unit : Nat) (on esc : Bool) (s : State) : State := level 2 unit on (prm [(1, unit), (1, b2n esc)]) s

/-- The block reset in hand is over. -/
def blockOver (s : State) : State :=
  let s := match s.pwr.blkUnit with
    | some u => if s.pwr.blkBegan.isSome then e2 u false false s else s
    | none => s
  { s with pwr.blkUnit := none, pwr.blkBegan := none }

/-- A warm reset begins (R14, R447, R450, R456). -/
def warmEnter (cause : Nat) (s : State) : State :=
  let s := countReset 2 (blockOver s)
  let s := resetChannels (resetK (resetT (resetP 5 (resetP 1 (resetA (dropCommits [7, 9] { s with
    tail.lastKind := 2, tail.lastCause := cause
    pwr.inWarm := true, pwr.warmAt := some s.clk.mono, pwr.warmCause := cause, pwr.warmReq := none }))))))
  s

/-- The trial fails by a reset that is not the activation's: the old set restarts by a reset of the activation's class (R430,
R431). -/
def trialReset (cause : Nat) (s : State) : State :=
  let cls := (selector s).cls
  let s := revertSet s
  if cls = 2 then coldEnter 0 4 (countReset 2 s) else warmEnter cause s

/-- A warm reset due begins, or fails a trial. -/
def warmReset (cause : Nat) (s : State) : State := if onTrial s then trialReset cause s else warmEnter cause s

/-- A source asks for a warm reset; while one runs or is due, it is counted and absorbed (R447). -/
def reqWarm (cause : Nat) (s : State) : State :=
  if !gridRuns s then s
  else if s.pwr.inWarm || s.pwr.warmReq.isSome then countReset 2 s
  else { s with pwr.warmReq := some cause }

/-- A block reset of a unit is requested: its cores are asked to quiesce. Only one runs at a time, and one that meets a reset of
equal or wider reach is counted and absorbed (R447, R449). -/
def reqBlock (unit : Nat) (s : State) : State :=
  if !gridRuns s || !within unit 1 5 then s
  else if s.pwr.inWarm || s.pwr.warmReq.isSome || s.pwr.blkUnit.isSome then countReset 3 s
  else { s with pwr.blkUnit := some unit, pwr.blkReqAt := s.clk.mono }

/-- What a block reset of a unit reaches (R449). -/
def blockReach (unit : Nat) (s : State) : State :=
  match unit with
  | 1 => resetP 1 s
  | 2 => resetT s
  | 3 => resetK s
  | 4 => resetChannels (resetA s)
  | _ => resetP 5 s

/-- The unit runs again (R449). -/
def blockStart (unit : Nat) (s : State) : State :=
  match unit with
  | 1 => { s with pwr.pRunning := vatMod s.pwr.pRunning 0 fun _ => true }
  | 2 => startT s
  | 3 => kStart s
  | 4 => appStart s
  | _ => { s with pwr.pRunning := vatMod s.pwr.pRunning 1 fun _ => true }

end Sys2Proof.Machine
end

