-- ==== Sys2Proof/Machine/Power.lean ====
section
/-!
DEFINITION. Supplies, power-fail warning, power states, reset sources and clocks (spec/20_power_reset_clocks.md), the crossings that
carry the mains-loss source (R60, R62, R438), the cover-tamper input (R482), and the activation and the failure of an update trial
(R428, R430, R431).
-/

namespace Sys2Proof.Machine

/-! ## Supplies (R436) -/

/-- POWER_ON (R436, R446): VSYS at least 17.5 V for 1 ms. `lost` says that VBAT failed too, so the Tailstock domain's contents
are gone (R455). -/
def execPowerOn (mv : Nat) (lost : Bool) (s : State) : Host.Outcome State Fault Refusal :=
  .next (if s.pwr.vsysValid || decide (mv < 17500) then s
    else
      let s := if lost then { s with tail := { lastFired := Vector.replicate 3 0 } } else s
      coldEnter 0 0 { s with pwr.vsysValid := true, pwr.vsysMv := mv })

/-- VSYS_INVALID (R436): VSYS below 12.0 V; the cold reset is held and nothing is saved. -/
def execVsysInvalid (mv : Nat) (s : State) : Host.Outcome State Fault Refusal :=
  .next (if !s.pwr.vsysValid || decide (12000 ≤ mv) then s
    else coldBase .off (updLost { s with pwr.vsysValid := false, pwr.vsysMv := mv }))

/-- VIO_INVALID (R436, R446). -/
def execVioInvalid (s : State) : Host.Outcome State Fault Refusal :=
  .next (if !s.pwr.vioValid then s
    else
      let s := { s with pwr.vioValid := false }
      if s.pwr.phase = .shelf then s else coldReset 0 1 s)

/-- VIO_VALID (R436): the held cold reset is released; a field domain without a field powers up (R301, R302). -/
def execVioValid (s : State) : Host.Outcome State Fault Refusal :=
  .next (if s.pwr.vioValid then s
    else tryRelease { (if s.fst.powered then s else newUid s) with pwr.vioValid := true })

/-- RESET_N_PIN (R446): low for 10 µs causes a pin reset, held while the land stays low. -/
def execResetNPin (low : Bool) (s : State) : Host.Outcome State Fault Refusal :=
  .next (if low == !s.pwr.resetN then s
    else if low then coldReset 1 5 { s with pwr.resetN := false } else tryRelease { s with pwr.resetN := true })

/-- COLD_RESET (R451): the boot sequence up to the host port being ready. The operands are the strap levels and TEST_MODE. -/
def execColdReset (straps : Nat) (test : Bool) (s : State) : Host.Outcome State Fault Refusal :=
  .next (if s.pwr.phase = .boot then boot straps test s else s)

/-- VBAT_LOW (R436, R455). -/
def execVbatLow (mv : Nat) (s : State) : Host.Outcome State Fault Refusal :=
  let low := decide (mv < 2600)
  let s := { s with pwr.vbatMv := mv, pwr.vbatLow := low }
  .next (if s.pwr.vsysValid then level 4 0 low (prm [(1, 0), (2, mv)]) s else s)

/-! ## Power-fail warning (R129, R438 to R440) -/

/-- E0 with its source (R465). -/
def e0 (src : Nat) (on : Bool) (s : State) : State := level 0 0 on (prm [(1, src)]) s

/-- The power-fail record: SOURCE and the A+ registers after the split (R116, R129 step 4). -/
def failRecord (src : Nat) (s : State) : PendRec :=
  { type := 6, time := now s, body := fit 224 (le 1 src ++ zeros 7 ++ (units 9).flatMap fun m => le 8 (totalReg (vget s.p100.m m) 0)) }

/-- Write queued records until none is left or none can be written, at most `k`. -/
def writeAll : Nat → State → State
  | 0, s => s
  | k + 1, s => if s.p100.queue.isEmpty || !canWrite s then s else writeAll k (ledgerWrite true s)

/-- Outputs off: every channel and SAFE_CUTn, every pilot at F (R439). -/
def outputsOff (s : State) : State :=
  { s with
    sw.ch := s.sw.ch.map fun x => { x with st := .off, cmd := false, duty := 0 }
    sw.lk := s.sw.lk.map fun l => { l with op := 0, drive := 0, brake := false }
    safe := s.safe.map fun x => { x with coil := false, cut := false, path := 0, cutDropAt := none, reqClose := false }
    tdr.tx := Vector.replicate 3 false, tdr.arm := false }

/-- No lock is moved on a power-fail warning: a bridge that drives brakes (R264). -/
def stopLocks (s : State) : State :=
  { s with sw.lk := s.sw.lk.map fun l => if l.op = 0 then l else { l with op := 0, drive := 0, brake := true, cmd := none } }

/-- A power-fail warning (R129 steps 1 to 4, R438, R440): the first source starts the sequence; before metering is valid
nothing is saved and the outputs stay off. -/
def powerFail (src : Nat) (s : State) : State :=
  let s0 := { s with pwr.pfwSrc := some src, pwr.pfwAt := s.clk.mono }
  match s.pwr.phase with
  | .boot => e0 src true { outputsOff s0 with pwr.phase := .pfwWait, pwr.pfwEndAt := s.clk.mono }
  | .run =>
    if !s.fe.valid then e0 src true { outputsOff s0 with pwr.phase := .pfwWait, pwr.pfwEndAt := s.clk.mono }
    else
      let s := saveSteps (e0 src true { s0 with pwr.phase := .pfwSeq })
      let s := queueRec (failRecord src s) { s with nvBill.warned := some (now s, src) }
      dspWarn (persist (writeAll 66 (stopLocks s)))
  | _ => s

/-- POWER_FAIL_WARNING (R436, R438): VSYS below 17.0 V for 20 µs while valid; that source is always armed. -/
def execPowerFailWarning (mv us : Nat) (s : State) : Host.Outcome State Fault Refusal :=
  let s := { s with pwr.vsysMv := mv }
  .next (if s.pwr.vsysValid && decide (mv < 17000) && decide (20 ≤ us) then powerFail 2 s else s)

/-- PFW_N_SAMPLE (R438): every 10 µs; 100 high samples arm the source, 3 low ones raise the warning. -/
def execPfwNSample (high : Bool) (s : State) : Host.Outcome State Fault Refusal :=
  let hi := if high then min 100 (s.pwr.pfwnHigh + 1) else 0
  let lo := if high then 0 else min 3 (s.pwr.pfwnLow + 1)
  let s := { s with pwr.pfwnLevel := high, pwr.pfwnHigh := hi, pwr.pfwnLow := lo, pwr.pfwnArmed := s.pwr.pfwnArmed || hi == 100 }
  .next (if lo == 3 && s.pwr.pfwnArmed && pfwnEn (pwrB s) then powerFail 0 s else s)

/-- PFW_STOP (R129 step 5): 8 ms after the warning. -/
def execPfwStop (s : State) : Host.Outcome State Fault Refusal :=
  .next (if s.pwr.phase = .pfwSeq && elapsed s s.pwr.pfwAt 8000 then
      let s := dspPersist (saveBoth (closeAll s))
      outputsOff { s with fe.valid := false, pwr.phase := .pfwWait, pwr.pfwEndAt := s.clk.mono }
    else s)

/-- PFW_RECOVERED (R439): VSYS meets its valid condition again, 1 ms counted from the end of the sequence. -/
def execPfwRecovered (s : State) : Host.Outcome State Fault Refusal :=
  .next (if s.pwr.phase = .pfwWait && s.pwr.vsysValid && elapsed s s.pwr.pfwEndAt 1000 then coldReset 0 2 s else s)

/-- PFW_WITHDRAWN (R439): every source that triggered has been withdrawn. -/
def execPfwWithdrawn (s : State) : Host.Outcome State Fault Refusal :=
  .next (if s.pwr.phase = .pfwSeq || s.pwr.phase = .pfwWait then e0 (s.pwr.pfwSrc.getD 0) false s else s)

/-! ## Crossings of the voltage channels (R60, R62, R219, R220, R438) -/

/-- A half-cycle of the reference voltage of G0 has closed: the mains-loss source (R438). -/
def mainsHalf (missing : Bool) (s : State) : State :=
  let b := grp s 0
  let w := pwrB s
  match refChan b with
  | none => s
  | some c =>
    let v := (detOf s 0 c).hcRms * chScale b c * 100
    let lim := fun (pct : Nat) => pct * uNom w * 1000 * 2 ^ 32
    let good := !missing && decide (lim (mainsLoss w + 10) ≤ v)
    let low := !missing && decide (v < lim (mainsLoss w))
    let s := { s with
      pwr.mainsGood := if good then min 10 (s.pwr.mainsGood + 1) else 0
      pwr.mainsLow := if low then min 2 (s.pwr.mainsLow + 1) else 0
      pwr.zcMiss := if missing then min 2 (s.pwr.zcMiss + 1) else 0 }
    let s := { s with pwr.mainsArmed := s.pwr.mainsArmed || s.pwr.mainsGood == 10 }
    if s.pwr.mainsArmed && mainsEn w && grpSystem b != 3 && (s.pwr.mainsLow == 2 || s.pwr.zcMiss == 2) then powerFail 1 s else s

/-- A crossing of a channel is taken, with what half-cycles and periods of G0 mean for PE, N–PE and the mains source. -/
def halfEnd (i : Fin 72) (t : Nat) (up missing : Bool) (s : State) : State :=
  let isRef := refChan (grp s 0) == some i.1
  let tracked := (trackedPeriod s 0).isSome
  let s := takeCrossing i t up missing s
  let s := if i.1 = 4 && !up && tracked then peSpan s else s
  let s := if isRef && up && tracked then npePeriod s else s
  let s := if isRef then mainsHalf missing s else s
  followC4 s

/-- ZERO_CROSSING (R60): the crossing the last two fast-path samples of the channel give is accepted. -/
def execZeroCrossing (c : Fin 72) (s : State) : Host.Outcome State Fault Refusal :=
  let d := vget s.filt.det c
  .next (if !s.fe.valid || !isVoltage s c.1 then s
    else match crossingOf d with
      | some up => halfEnd c (crossingTime d) up false s
      | none => s)

/-- ZC_MISSING (R62): no crossing within 1.5 tracked half-periods, or 15 ms, after the previous one. -/
def execZcMissing (c : Fin 72) (s : State) : Host.Outcome State Fault Refusal :=
  let d := vget s.filt.det c
  .next (if !s.fe.valid || !isVoltage s c.1 || d.zc.isEmpty || decide (64 * s.clk.mono < d.zc.headD 0 + missLimit d) then s
    else halfEnd c (missStart d) (!d.zcUp) true s)

/-! ## Power states (R441 to R445) -/

/-- A power state by its code. -/
def pstOf : Nat → PState
  | 0 => .run | 1 => .idle | 2 => .doze | _ => .watch

/-- Lowest state LAT_TOL permits (R441). -/
def latFloor (s : State) : Nat :=
  let l := latTol (pwrB s)
  if l < 20 then 0 else if l < 2000 then 1 else if l < 20000 then 2 else 3

/-- HOLD (R442, R462). -/
def holdMask (s : State) : Nat :=
  let mbx := fun (lo hi : Nat) => (units 32).any fun k => (vget s.mbx k).pending && within (bits (bindOf s k.1) 7 4) lo hi
  let req := (points s).any fun n => (ses s n).req.isSome
  b2n s.pwr.aTask + 2 * b2n ((points s).any (sessOpen s)) + 4 * b2n (!(outstanding s).isEmpty || !s.port.spiOut.isEmpty || mbx 2 5) +
    8 * b2n req + 16 * b2n (updBusy s || onTrial s) + 32 * b2n (mbx 8 9 || mbx 11 11 || s.pwr.timerDue) +
    64 * b2n (!s.p100.queue.isEmpty) + 128 * b2n (s.dsp.run.isSome || !s.dsp.queue.isEmpty)

/-- The lowest state the conditions of R442 allow. -/
def holdFloor (s : State) : Nat :=
  let m := holdMask s
  if bit m 0 then 0 else if m % 32 != 0 then 1 else if m != 0 then 2 else 3

/-- The state R441 gives: the lowest one that meets both. -/
def allowedState (s : State) : Nat := min (latFloor s) (holdFloor s)

/-- Follow since when a descent below IDLE is allowed (R441). -/
def followAllowed (s : State) : State :=
  { s with pwr.allowedSince := follow s (s.pwr.phase == .run && decide (2 ≤ allowedState s)) s.pwr.allowedSince }

/-- ENTER_IDLE (R441): every A core waits for an interrupt. -/
def execEnterIdle (s : State) : Host.Outcome State Fault Refusal :=
  .next (if !appUp s then s
    else
      let s := { s with pwr.aTask := false }
      if s.pwr.pstate = .run && decide (1 ≤ allowedState s) then goPstate .idle 0xFF s else s)

/-- POWER_STATE_DESCEND (R441): a descent below IDLE has been allowed for DESCEND_T. -/
def execPowerStateDescend (s : State) : Host.Outcome State Fault Refusal :=
  let a := allowedState s
  .next (if appUp s && decide (2 ≤ a) && decide (pstCode s.pwr.pstate < a) && heldFor s s.pwr.allowedSince (descendT (pwrB s) * 1000) then
    goPstate (pstOf a) 0xFF s else s)

/-- POWER_STATE_WAKE (R443, R444): a source wakes a powered-down domain: 0 packet, 1 doorbell or pilot state, 2 reader
detection, 3 event, 4 a timer of P0, P1 or K. -/
def execPowerStateWake (src : Nat) (s : State) : Host.Outcome State Fault Refusal :=
  .next (if !gridRuns s then s
    else if src = 4 then wakeFor 11 4 { s with pwr.timerDue := true }
    else wake src s)

/-! ## Reset sources (R446 to R450, R463) -/

/-- WATCHDOG_EXPIRY (R446). -/
def execWatchdogExpiry (s : State) : Host.Outcome State Fault Refusal := .next (if appUp s then reqWarm 6 s else s)

/-- ECC_ERROR (R446). -/
def execEccError (s : State) : Host.Outcome State Fault Refusal := .next (reqWarm 8 s)

/-- WARM_RESET (R447): a warm reset that is due begins. -/
def execWarmReset (s : State) : Host.Outcome State Fault Refusal :=
  .next (match s.pwr.warmReq with
    | some c => if gridRuns s then warmReset c s else s
    | none => s)

/-- WARM_RESET_END (R447, R459): 2 ms after it began, unless a PLL has not locked again; K, P0, P1 and T restart. -/
def execWarmResetEnd (s : State) : Host.Outcome State Fault Refusal :=
  .next (if s.pwr.inWarm && heldFor s s.pwr.warmAt 2000 && !vget s.pwr.clkFault 2 && !vget s.pwr.clkFault 3 then
      startT (kStart { s with pwr.inWarm := false, pwr.warmAt := none, pwr.pRunning := Vector.replicate 2 true })
    else s)

/-- APP_RUNNING (R21, R403, R450): the application cluster runs again after a warm reset, with E1. -/
def execAppRunning (s : State) : Host.Outcome State Fault Refusal :=
  .next (if gridRuns s && !s.pwr.inWarm && s.pwr.appResetAt.isSome && s.pwr.blkBegan.isNone then e1 2 s.pwr.warmCause (appStart s) else s)

/-- BLOCK_RESET_REQUEST (R449): recovery of a unit by Odvora's firmware. -/
def execBlockResetRequest (unit : Nat) (s : State) : Host.Outcome State Fault Refusal := .next (reqBlock unit s)

/-- BLOCK_RESET_BEGIN (R449): every core of the unit has confirmed idle. -/
def execBlockResetBegin (s : State) : Host.Outcome State Fault Refusal :=
  .next (match s.pwr.blkUnit with
    | some u =>
      if s.pwr.blkBegan.isSome || !gridRuns s then s
      else
        let s := countReset 3 s
        if onTrial s then trialReset 7 { s with pwr.blkUnit := none }
        else e2 u true false (blockReach u { s with pwr.blkBegan := some s.clk.mono, tail.lastKind := 3, tail.lastCause := 10 })
    | none => s)

/-- BLOCK_RESET_ESCALATE (R449): 50 ms without the confirmation; E2 carries ESCALATED. -/
def execBlockResetEscalate (s : State) : Host.Outcome State Fault Refusal :=
  .next (match s.pwr.blkUnit with
    | some u =>
      if s.pwr.blkBegan.isNone && elapsed s s.pwr.blkReqAt 50000 then
        reqWarm 11 (pulse 2 (prm [(1, u), (1, 1)]) { s with pwr.blkUnit := none }) else s
    | none => s)

/-- BLOCK_RESET_END (R449): the unit runs again. -/
def execBlockResetEnd (s : State) : Host.Outcome State Fault Refusal :=
  .next (match s.pwr.blkUnit with
    | some u => if s.pwr.blkBegan.isSome && gridRuns s then blockStart u (blockOver s) else s
    | none => s)

/-- PWR_RESET (R463). -/
def pwrResetBody (f : Flight) (s : State) : CmdOut :=
  let p := f.pkt.payload
  let k := u8 0 p
  let u := u8 1 p
  let sess := (points s).any (sessOpen s)
  let c4 := grpEn (grp s 0) && chEn (grp s 0) 4 && heldFor s s.pwr.c4LowSince 10000000
  need (decide (k ≤ 3) && rsv 2 2 p && (if k = 1 then within u 1 5 else u == 0)) stBadParam <|
  need (!((k == 2 || k == 3) && sess) && !(k == 1 && s.pwr.blkUnit.isSome) &&
    !(k == 3 && !(c4 && (s.upd.st == .empty || s.upd.st == .reverted)))) stState <|
  .done { s with pwr.resetReq := some (k, u, s.clk.mono) } []

def execPwrReset (p : Pkt) (s : State) : Host.Outcome State Fault Refusal := .next (command 0x0C02 (sized 4 pwrResetBody) p s)

/-- SHELF is entered: steps 1 to 3 of R129, then only the Tailstock and field domains stay (R232, R268, R445). -/
def enterShelf (s : State) : State := coldBase .shelf (savePlanned s)

/-- PWR_RESET_EXECUTE (R448, R463): 10 ms after the reply. -/
def execPwrResetExecute (s : State) : Host.Outcome State Fault Refusal :=
  .next (match s.pwr.resetReq with
    | none => s
    | some (k, u, t) =>
      if !elapsed s t 10000 || s.pwr.phase != .run then s
      else
        let s := { s with pwr.resetReq := none }
        match k with
        | 0 => reqWarm 7 s
        | 1 => reqBlock u s
        | 2 => coldReset 0 4 (savePlanned s)
        | _ => enterShelf s)

/-- SHELF_WAKE (R445, R446). -/
def execShelfWake (s : State) : Host.Outcome State Fault Refusal := .next (if s.pwr.phase = .shelf then coldReset 0 3 s else s)

/-! ## Clocks, temperature and memory (R455 to R459, R465, R482) -/

/-- E4 key 1: RTC_LOSS (R465). -/
def e4Rtc (on : Bool) (s : State) : State := level 4 1 on (prm [(1, 1), (2, s.pwr.vbatMv)]) { s with tail.rtcLoss := on }

/-- RTC_CORRECTION (R455, R457): once per second with VSYS valid. -/
def execRtcCorrection (s : State) : Host.Outcome State Fault Refusal :=
  .next (if !gridRuns s || !s.clk.timeValid then s
    else
      let ok := !vget s.pwr.clkFault 5
      let s := { s with tail.rtc := now s }
      if ok then e4Rtc false s else s)

/-- E6: clock, set or cleared (R459, R465). -/
def e6 (k : Nat) (on : Bool) (s : State) : State :=
  level 6 k on (prm [(1, k)]) { s with pwr.clkFault := vatMod s.pwr.clkFault k fun _ => on }

/-- CLOCK_MONITOR (R459): every 10 ms, whether the 27.12 MHz and the 32.768 kHz clock deviate by more than 1 %. -/
def execClockMonitor (nfc rtc : Bool) (s : State) : Host.Outcome State Fault Refusal :=
  .next (if !gridRuns s then s
    else
      let s := e6 5 rtc (e6 4 nfc s)
      if rtc then e4Rtc true s else s)

/-- MAIN_CLOCK_FAIL (R459): the 25 MHz crystal, or the CLK_META PLL. -/
def execMainClockFail (pll : Bool) (s : State) : Host.Outcome State Fault Refusal :=
  .next (if !gridRuns s then s else enterSafe 5 0 (e6 (b2n pll) true { s with fe.valid := false }))

/-- PLL_LOCK_LOSS (R459): the CLK_NOC or CLK_APP PLL loses lock, or locks again. -/
def execPllLockLoss (app lost : Bool) (s : State) : Host.Outcome State Fault Refusal :=
  let k := 2 + b2n app
  .next (if !gridRuns s then s else if lost then reqWarm 9 (e6 k true s) else e6 k false s)

/-- DIE_TEMP_WARNING (R465): DIE_TEMP in 0.01 °C. -/
def execDieTempWarning (t : Int) (s : State) : Host.Outcome State Fault Refusal :=
  let s := { s with pwr.dieTemp := t }
  let p := prm [(2, i2n 2 t)]
  .next (if !gridRuns s then s
    else if 11500 ≤ t then level 5 0 true p s else if t < 10500 then level 5 0 false p s else s)

/-- The partitions of the MRAM in the order of R12, from address 0: sizes in MiB. -/
def mramSizes : List Nat := [1, 24, 24, 8, 48, 2, 2, 4, 8, 2, 1, 4]

/-- The byte address at which a partition begins (R12). -/
def mramStart (p : Nat) : Nat := (mramSizes.take p).sum * 2 ^ 20

/-- The partition of a byte address: the last that begins at or before it (R12). -/
def mramPart (a : Nat) : Nat := ((List.range mramSizes.length).filter fun p => decide (mramStart p ≤ a)).getLastD 0

/-- MRAM_SCRUB (R12, R148, R465): the 64-bit word with this address is read; `bad`: it is uncorrectable, which raises E45 in the ledger
partition and E7 in any other; in the display partition it is taken as the last-displayed frame (log entry 607), and in the first 512 KiB of the key partition it is
a copy of a blob (R410). The 128 MiB hold
2^24 words. -/
def execMramScrub (word : Nat) (bad : Bool) (s : State) : Host.Outcome State Fault Refusal :=
  let part := mramPart (8 * word)
  .next (if !bad || decide (2 ^ 24 ≤ word) || !(gridRuns s || s.pwr.phase == .pfwWait) then s
    else if part = 4 then pulse 45 [] s
    else
      let s := pulse 7 (prm [(1, part), (4, word)]) { s with pwr.e7Raised := true }
      if part = 9 then { s with nvDsp.lastBad := true }
      else if part = 6 ∧ 8 * word < mramStart 6 + 2 ^ 19 then blobCopyBad ((8 * word - mramStart 6) / 128) s
      else s)

/-- COVER_TAMPER (R136, R482): a sample of TAMPER_IN every 2 ms; five equal samples are the debounced level. Openings are counted,
and latched while the device does not run. -/
def execCoverTamper (isOpen : Bool) (s : State) : Host.Outcome State Fault Refusal :=
  let run := if s.tail.coverCand == isOpen then min 5 (s.tail.coverRun + 1) else 1
  let s := { s with tail.coverCand := isOpen, tail.coverRun := run }
  .next (if run < 5 || isOpen == s.tail.coverOpen then s
    else
      let s := { s with tail.coverOpen := isOpen, tail.openCount := if isOpen then satAdd 32 s.tail.openCount 1 else s.tail.openCount }
      if gridRuns s then
        let k := if isOpen then 1 else 2
        tamperRec k 0xFF 0 (now s) (level 44 0 isOpen [] s)
      else if isOpen && !s.tail.latched then { s with tail.latched := true, tail.openTime := s.tail.rtc } else s)

/-! ## Commands (R461 to R464) -/

/-- PWR_COMMIT (R461): a change of MAINS_LOSS or U_NOM disarms the mains source. -/
def pwrCommitBody (f : Flight) (s : State) : CmdOut :=
  need (rsv 0 4 f.pkt.payload) stBadParam <|
  takeStored s [0x0C10] fun cs =>
  let old := pwrB s
  let s := commitCopies cs s
  let same := mainsLoss old == mainsLoss (pwrB s) && uNom old == uNom (pwrB s)
  .done (if same then s else { s with pwr.mainsArmed := false, pwr.mainsGood := 0 }) (tApplied s)

def execPwrCommit (p : Pkt) (s : State) : Host.Outcome State Fault Refusal := .next (command 0x0C05 (sized 4 pwrCommitBody) p s)

/-- PWR_STATUS (R462). -/
def pwrStatusBody (_ : Flight) (s : State) : CmdOut :=
  let w := s.pwr
  let t := s.tail
  let supply := b2n w.vsysValid + 2 * b2n w.vioValid + 4 * b2n w.vbatLow + 8 * b2n t.rtcLoss +
    16 * b2n (w.phase == .pfwSeq || w.phase == .pfwWait) +
    32 * b2n w.pfwnArmed + 64 * b2n w.mainsArmed + 128 * b2n w.pfwnLevel
  let opt := b2n w.optA + 2 * b2n w.optB + 4 * b2n s.key.debug + 8 * b2n s.port.wait
  .done s (le 8 (now s) ++ le 1 (pstCode w.pstate) ++ le 1 (latFloor s) ++ le 2 (holdMask s) ++ le 2 supply ++ le 2 w.vsysMv ++
    le 2 w.vbatMv ++ leInt 2 w.dieTemp ++ le 1 t.lastKind ++ le 1 t.lastCause ++ le 1 opt ++ zeros 1 ++ le 4 t.cold ++ le 4 t.pin ++
    le 4 t.warm ++ le 4 t.block ++ le 4 ((w.optLoaded.map (u32 8)).getD 0) ++ zeros 4 ++ le 8 s.clk.tStart)

def execPwrStatus (p : Pkt) (s : State) : Host.Outcome State Fault Refusal := .next (command 0x0C01 (sized 0 pwrStatusBody) p s)

/-- PWR_OPTION_READ (R463). -/
def pwrOptionReadBody (f : Flight) (s : State) : CmdOut :=
  let p := f.pkt.payload
  let c := u8 0 p
  need (decide (c ≤ 2) && rsv 1 3 p) stBadParam <|
  match (if c = 0 then s.pwr.optLoaded else (some (if c = 1 then s.upd.opt1 else s.upd.opt2)).filter optValid) with
  | some b => .done s b
  | none => .fail stState

def execPwrOptionRead (p : Pkt) (s : State) : Host.Outcome State Fault Refusal := .next (command 0x0C03 (sized 4 pwrOptionReadBody) p s)

/-- An MB_BIND word the record may hold (R464). -/
def bindOk (w : Nat) : Bool :=
  !bit w 8 || (within (bits w 3 0) 2 12 && within (bits w 7 4) 2 12 && bits w 3 0 != bits w 7 4)

/-- The reserved fields of an option record are zero, the reserved bits of its authority words included (R7, R414, R452, R464). -/
def optReserved (b : List Byte) : Bool :=
  onlyBits (u8 96 b) 0x1F && onlyBits (u8 97 b) 0x1F && rsv 6 2 b && onlyBits (u32 12 b) 0xFF && ((List.range 32).all fun k => decide (u16 (16 + 2 * k) b < 512)) &&
    ((List.range 4).all fun k => decide (u32 (80 + 4 * k) b < 2 ^ 25)) && rsv 98 2 b && rsv 100 4 b && rsv 112 8 b && rsv 216 4 b

/-- PWR_OPTION_WRITE (R454, R464): both copies are written with the next generation, in force from the next cold or pin
reset. -/
def pwrOptionWriteBody (f : Flight) (s : State) : CmdOut :=
  let p := f.pkt.payload
  need (optValid p && optReserved p && (List.range 32).all fun k => bindOk (u16 (16 + 2 * k) p)) stBadParam <|
  need (f.pkt.src == .spi) stDenied <|
  let g := (((optPick s).map (u32 8)).getD 0 + 1) % 2 ^ 32
  let b := withCrc (patch 8 (le 4 g) (p.take 220))
  .done { s with upd.opt1 := b, upd.opt2 := b } (le 4 g)

def execPwrOptionWrite (p : Pkt) (s : State) : Host.Outcome State Fault Refusal := .next (command 0x0C04 (sized 224 pwrOptionWriteBody) p s)

/-! ## Activation and trial of a firmware set (R428, R430, R431) -/

/-- UPD_ACTIVATION (R428): 10 ms after the reply; cold class saves and queues the legal-event record first, then the selector names
the new slot on trial, and a reset of the class follows, which does not fail the trial. -/
def execUpdActivation (s : State) : Host.Outcome State Fault Refusal :=
  .next (match s.upd.actAt with
    | none => s
    | some (t0, t) =>
      if !elapsed s t0 10000 || s.upd.st != .ready || s.pwr.phase != .run then s
      else if s.upd.cls = 2 then
        let old := (activeSet s).metVer
        let s := trialBegin t (savePlanned s)
        let new := (activeSet s).metVer
        let s := if old = new then s else persist (legalRecord 255 true (le 4 old ++ le 4 new) { s with upd.metLast := new })
        coldEnter 0 4 s
      else warmEnter 7 (trialBegin t s))

/-- TRIAL_FAILURE (R430, R431): a core does not report running, the port is not ready, or a known-answer test fails. -/
def execTrialFailure (s : State) : Host.Outcome State Fault Refusal :=
  let cls := (selector s).cls
  .next (if !onTrial s || !gridRuns s then s
    else if cls = 2 then coldEnter 0 4 (revertSet s) else warmEnter 7 (revertSet s))

/-- TRIAL_CONFIRM_TIMEOUT (R430): CONFIRM_T without UPD_CONFIRM fails the trial; with CONFIRM_T 0 the set confirms itself after
60 s. -/
def execTrialConfirmTimeout (s : State) : Host.Outcome State Fault Refusal :=
  let sel := selector s
  .next (if !onTrial s || !gridRuns s then s
    else if sel.deadline = 0 then (if elapsed s s.upd.trialAt 60000000 then confirmSet s else s)
    else if sel.deadline ≤ s.clk.mono then
      (if sel.cls = 2 then coldEnter 0 4 (revertSet s) else warmEnter 7 (revertSet s))
    else s)

end Sys2Proof.Machine
end

