-- ==== Sys2Proof/Machine/Packet.lean ====
section
/-!
DEFINITION. The opcode table of the port (R514), raw packets as SPI and the network bring them (R365 to R370, R374), and what
time alone ends: reassemblies (R374) and kept commands (R378).
-/

namespace Sys2Proof.Machine

/-- Opcodes 0x01xx. -/
def table01 : List (Nat × (Flight → State → CmdOut)) := [
  (0x0101, sized 0 sysInfoBody),
  (0x0102, sized 0 sysStatusBody),
  (0x0103, sized 4 netCommitBody),
  (0x0104, sized 36 evtSubscribeBody),
  (0x0105, sized 8 evtReadBody),
  (0x0106, sized 8 partingFenceBody),
  (0x0107, sized 0 evtStateBody),
  (0x0108, sized 0 mbxStatusBody),
  (0x0109, blkWriteBody),
  (0x010A, sized 4 blkReadBody)]

/-- Opcodes 0x02xx. -/
def table02 : List (Nat × (Flight → State → CmdOut)) := [
  (0x0201, sized 2 mtrCommitBody),
  (0x0202, sized 4 mtrCalStatusBody),
  (0x0203, sized 4 mtrRequalifyBody),
  (0x0204, sized 4 mtrDetectBody),
  (0x0205, sized 4 mtrValuesBody),
  (0x0206, sized 4 mtrEnergyCommitBody)]

/-- Opcodes 0x03xx. -/
def table03 : List (Nat × (Flight → State → CmdOut)) := [
  (0x0301, sized 4 bilCommitBody),
  (0x0302, sized 4 bilRegsBody),
  (0x0303, sized 4 bilDemandBody),
  (0x0304, sized 4 bilSnapshotBody),
  (0x0305, sized 0 bilPeriodEndBody),
  (0x0306, sized 16 bilTimeSetBody),
  (0x0307, sized 16 bilCreditBody),
  (0x0310, sized 16 ledReadBody),
  (0x0311, sized 8 ledAckBody),
  (0x0312, sized 0 ledStatusBody),
  (0x0313, sized 8 ledLogReadBody),
  (0x0314, sized 4 ledPolicyBody)]

/-- Opcodes 0x04xx. -/
def table04 : List (Nat × (Flight → State → CmdOut)) := [
  (0x0401, sized 4 ptCommitBody),
  (0x0402, sized 4 ptStatusBody),
  (0x0403, sized 32 sesStartBody),
  (0x0404, sized 4 sesStopBody),
  (0x0405, sized 16 sesLimitBody),
  (0x0406, sized 4 sesStatusBody),
  (0x0407, sized 4 hlcCommitBody),
  (0x0408, hlcExchangeBody),
  (0x0409, sized 4 hlcModemTestBody)]

/-- Opcodes 0x05xx. -/
def table05 : List (Nat × (Flight → State → CmdOut)) := [
  (0x0501, sized 4 safCommitBody),
  (0x0502, sized 4 safStatusBody),
  (0x0503, sized 8 safConfirmBody),
  (0x0504, sized 4 safResetBody),
  (0x0510, sized 4 efCommitBody),
  (0x0511, sized 4 efStatusBody),
  (0x0512, sized 4 efTestBody)]

/-- Opcodes 0x06xx. -/
def table06 : List (Nat × (Flight → State → CmdOut)) := [
  (0x0601, sized 4 swCommitBody),
  (0x0602, sized 4 swSetBody),
  (0x0603, sized 4 swStatusBody),
  (0x0604, sized 4 swClearBody),
  (0x0605, sized 4 swSenseBody),
  (0x0606, sized 4 swLockBody)]

/-- Opcodes 0x07xx. -/
def table07 : List (Nat × (Flight → State → CmdOut)) := [
  (0x0701, sized 4 authCommitBody),
  (0x0702, authListWriteBody),
  (0x0703, sized 4 authListCommitBody),
  (0x0705, sized 4 rdrStatusBody),
  (0x0706, sized 4 rdrSelftestBody)]

/-- Opcodes 0x08xx. -/
def table08 : List (Nat × (Flight → State → CmdOut)) := [
  (0x0801, sized 4 tdrCommitBody),
  (0x0802, sized 0 tdrStatusBody),
  (0x0803, sized 8 tdrBudgetBody)]

/-- Opcodes 0x09xx. -/
def table09 : List (Nat × (Flight → State → CmdOut)) := [
  (0x0901, sized 4 dspCommitBody),
  (0x0902, dspWriteBody),
  (0x0903, sized 12 dspUpdateBody),
  (0x0904, sized 0 dspStatusBody),
  (0x0905, sized 6 dspStressBody)]

/-- Opcodes 0x0Axx. -/
def table0A : List (Nat × (Flight → State → CmdOut)) := [
  (0x0A01, sized 8 secKeyBody),
  (0x0A02, secStoreBody),
  (0x0A03, sized 4 secReadBody),
  (0x0A04, sized 0 secChallengeBody),
  (0x0A05, sized 116 secProveBody),
  (0x0A06, sized 32 secAttestBody)]

/-- Opcodes 0x0Bxx. -/
def table0B : List (Nat × (Flight → State → CmdOut)) := [
  (0x0B01, sized 1024 updBeginBody),
  (0x0B02, updDataBody),
  (0x0B03, sized 4 updActivateBody),
  (0x0B04, sized 0 updConfirmBody),
  (0x0B05, sized 0 updStatusBody),
  (0x0B06, sized 0 updAbortBody)]

/-- Opcodes 0x0Cxx. -/
def table0C : List (Nat × (Flight → State → CmdOut)) := [
  (0x0C01, sized 0 pwrStatusBody),
  (0x0C02, sized 4 pwrResetBody),
  (0x0C03, sized 4 pwrOptionReadBody),
  (0x0C04, sized 224 pwrOptionWriteBody),
  (0x0C05, sized 4 pwrCommitBody)]

/-- Opcodes 0x0Dxx. -/
def table0D : List (Nat × (Flight → State → CmdOut)) := [
  (0x0D01, sized 4 tstPointBody),
  (0x0D02, sized 0 tstDegradedBody)]

/-- Opcodes 0x0Exx. -/
def table0E : List (Nat × (Flight → State → CmdOut)) := [
  (0x0E01, sized 4 fsReadBody),
  (0x0E02, fsWriteBody),
  (0x0E03, sized 4 fsCtlBody)]

/-- Every defined opcode with its command (R514). -/
def hostTable : List (Nat × (Flight → State → CmdOut)) :=
  table01 ++ table02 ++ table03 ++ table04 ++ table05 ++ table06 ++ table07 ++ table08 ++ table09 ++ table0A ++ table0B ++ table0C ++ table0D ++ table0E

/-- What an opcode runs; none where it is undefined or reserved (R514). -/
def bodyOf (op : Nat) : Option (Flight → State → CmdOut) := (hostTable.find? fun e => e.1 == op).map (·.2)

/-! ## Raw packets (R365, R366) -/

/-- LEN of a packet whose header is whole. -/
def rawLen (b : List Byte) : Nat := u32 8 b

/-- The packet a header and payload spell. -/
def rawPkt (src : Source) (b : List Byte) : Pkt :=
  { src, addr := u8 1 b, seq := u16 2 b, flags := u16 6 b, payload := slice 16 (rawLen b) b }

/-- The checks of R366 from LEN on, the packet's bytes being `b`; `exact` is what a datagram must hold. The wake of R443 comes
with a correct CRC. -/
def rawChecks (p : Pkt) (exact : Bool) (b : List Byte) (s : State) : State :=
  let op := u16 4 b
  if 16384 < rawLen b ∨ !exact then checkFail p op stBadLength s
  else if !crcOk (b.take (rawLen b + 20)) then checkFail p op stBadCrc s
  else
    let s := wake 0 s
    if u8 0 b ≠ 2 then checkFail p op stBadVersion s
    else if u16 12 b ≠ 0 ∨ u16 14 b ≠ 0 ∨ 16 ≤ p.flags then checkFail p op stBadParam s
    else match bodyOf op with
      | none => checkFail p op stBadOpcode s
      | some body => command op body p s

/-- A packet whose header is whole, from REPLY on (R366). -/
def rawPacket (src : Source) (exact : Bool) (b : List Byte) (s : State) : State :=
  let p := rawPkt src b
  if p.flags.testBit 15 then s
  else if !addrOk s p then rxDrop s
  else rawChecks p exact b s

/-! ## SPI transactions (R368 to R370) -/

/-- No reset that reaches the port is in progress, so that SPI_MISO is driven (R368, R451). -/
def spiDriven (s : State) : Bool :=
  (gridRuns s || s.pwr.phase == .pfwWait) && !s.pwr.inWarm && !(s.pwr.blkUnit == some 4 && s.pwr.blkBegan.isSome)

/-- A reply waits for READ. -/
def replyReady (s : State) : Bool := !s.port.spiOut.isEmpty

/-- Sink 0 holds unacknowledged entries (R368, R380). -/
def eventPending (s : State) : Bool := !(unacked s 0).isEmpty

/-- A WRITE is taken. -/
def rxRoom (s : State) : Bool := s.port.ready && decide (s.port.spiOut.length < 8)

/-- Bytes in the next reply packet. -/
def replyLen (s : State) : Nat := (s.port.spiOut.head?.map (·.bytes.length)).getD 0

/-- The status word (R368). -/
def spiStatus (s : State) : Nat :=
  b2n (rxRoom s) + 2 * b2n (replyReady s) + 4 * b2n (eventPending s) + 8 * b2n s.port.ready + 16 * b2n s.port.wait +
    32 * b2n s.port.overrun + 65536 * replyLen s

/-- HOST_IRQ_N is pulled low (R370). -/
def hostIrqLow (s : State) : Bool := spiDriven s && (replyReady s || eventPending s)

/-- A transaction returns the status word and further bytes; OVERRUN is cleared once it has been sent (R368). -/
def spiXfer (more : List Byte) (s : State) : State :=
  { s with port.spiMiso := le 4 (spiStatus s) ++ more, port.overrun := false }

/-- A transaction of `n` bytes after the first four while the lands are not driven: every byte is 0xFF and nothing is taken
(R368). -/
def spiFloat (n : Nat) (s : State) : State := { s with port.spiMiso := List.replicate (4 + n) 0xFF }

/-- What a WRITE does with the bytes from byte 4 on (R369). -/
def spiTake (mosi : List Byte) (s : State) : State :=
  if mosi.length < 16 then rxDrop s
  else if rawLen mosi ≤ 16384 ∧ mosi.length < rawLen mosi + 20 then rxDrop s
  else rawPacket .spi true mosi s

/-- SPI_WRITE (R369): the bytes the host sends from byte 4. -/
def execSpiWrite (mosi : List Byte) (s : State) : Host.Outcome State Fault Refusal :=
  .next (if !spiDriven s then spiFloat 0 s
    else
      let t := spiXfer [] s
      if rxRoom s then spiTake mosi t else { t with port.overrun := true })

/-- SPI_READ (R369): `n` bytes are clocked out from byte 4; the reply leaves the queue when all of it has been. -/
def execSpiRead (n : Nat) (s : State) : Host.Outcome State Fault Refusal :=
  .next (if !spiDriven s then spiFloat n s
    else match s.port.spiOut with
      | [] => spiXfer (zeros n) s
      | r :: rest =>
        let t := spiXfer (fit n r.bytes) s
        if r.bytes.length ≤ n then { t with port.spiOut := rest } else t)

/-- SPI_STATUS (R368, R369): type 0x3C, or any other type byte that is neither WRITE nor READ; 0x5A and 0xA5 begin the other two
transactions, here without a byte after the first four. -/
def execSpiStatus (type : Byte) (s : State) : Host.Outcome State Fault Refusal :=
  if type = 0x5A then execSpiWrite [] s
  else if type = 0xA5 then execSpiRead 0 s
  else .next (if !spiDriven s then spiFloat 0 s else spiXfer [] s)

/-! ## Datagrams (R366, R374) -/

/-- A whole datagram on UDP_PORT. -/
def datagram (src : Source) (b : List Byte) (s : State) : State :=
  if !s.port.ready then s
  else if b.length < 16 then rxDrop s
  else rawPacket src (b.length == rawLen b + 20) b s

/-- A reassembly with this identifier is in progress. -/
def reassembling (s : State) (id : Nat) : Bool := s.port.reasm.any fun r => r.1 == id

/-- REJECTED_PACKET (R366, R374): a datagram as the network brings it, or a fragment that begins a reassembly. At most four
reassemblies run, of datagrams of at most 16,404 bytes. -/
def execRejectedPacket (x : NetIn) (s : State) : Host.Outcome State Fault Refusal :=
  .next (match x with
    | .datagram src b none => datagram src b s
    | .datagram src b (some id) =>
      if reassembling s id && decide (b.length ≤ 16404) then
        datagram src b { s with port.reasm := s.port.reasm.filter fun r => !(r.1 == id) }
      else s
    | .fragment id =>
      if s.port.ready && !reassembling s id && decide (s.port.reasm.length < 4) then
        { s with port.reasm := s.port.reasm ++ [(id, s.clk.mono)] }
      else s)

/-- FRAGMENT_TIMEOUT (R374): reassemblies not completed within 100 ms are discarded, each counted in RX_DROP. -/
def execFragmentTimeout (s : State) : Host.Outcome State Fault Refusal :=
  let old := s.port.reasm.filter fun r => elapsed s r.2 100000
  .next { s with
    port.reasm := s.port.reasm.filter fun r => !elapsed s r.2 100000
    port.rxDrop := satAdd 32 s.port.rxDrop old.length }

/-- KEPT_COMMAND_EXPIRY (R378): what has been kept for 60 s is kept no longer. -/
def execKeptCommandExpiry (s : State) : Host.Outcome State Fault Refusal :=
  .next { s with port.kept := s.port.kept.filter fun k => !elapsed s k.t0 60000000 }

end Sys2Proof.Machine
end

