-- ==== Sys2Proof/Machine/Dispatch.lean ====
section
/-! DEFINITION. The dispatch of commands to their meanings: one arm per constructor of Instr. -/

namespace Sys2Proof.Machine

def exec (i : Instr) (s : State) : Host.Outcome State Fault Refusal :=
  match i with
  | .sysInfo p => Sys2Proof.Machine.execSysInfo p s
  | .sysStatus p => Sys2Proof.Machine.execSysStatus p s
  | .netCommit p => Sys2Proof.Machine.execNetCommit p s
  | .netCommitApply => Sys2Proof.Machine.execNetCommitApply s
  | .evtSubscribe p => Sys2Proof.Machine.execEvtSubscribe p s
  | .evtRead p => Sys2Proof.Machine.execEvtRead p s
  | .partingFence p => Sys2Proof.Machine.execPartingFence p s
  | .partingFenceComplete marks => Sys2Proof.Machine.execPartingFenceComplete marks s
  | .partingFenceTimeout marks => Sys2Proof.Machine.execPartingFenceTimeout marks s
  | .evtState p => Sys2Proof.Machine.execEvtState p s
  | .mbxStatus p => Sys2Proof.Machine.execMbxStatus p s
  | .blkWrite p => Sys2Proof.Machine.execBlkWrite p s
  | .blkRead p => Sys2Proof.Machine.execBlkRead p s
  | .mtrCommit p => Sys2Proof.Machine.execMtrCommit p s
  | .mtrCommitApply => Sys2Proof.Machine.execMtrCommitApply s
  | .mtrCalStatus p => Sys2Proof.Machine.execMtrCalStatus p s
  | .mtrRequalify p => Sys2Proof.Machine.execMtrRequalify p s
  | .mtrDetect p => Sys2Proof.Machine.execMtrDetect p s
  | .mtrValues p => Sys2Proof.Machine.execMtrValues p s
  | .mtrEnergyCommit p => Sys2Proof.Machine.execMtrEnergyCommit p s
  | .mtrEnergyCommitApply => Sys2Proof.Machine.execMtrEnergyCommitApply s
  | .bilCommit p => Sys2Proof.Machine.execBilCommit p s
  | .bilCommitApply => Sys2Proof.Machine.execBilCommitApply s
  | .bilRegs p => Sys2Proof.Machine.execBilRegs p s
  | .bilDemand p => Sys2Proof.Machine.execBilDemand p s
  | .bilSnapshot p => Sys2Proof.Machine.execBilSnapshot p s
  | .bilPeriodEnd p => Sys2Proof.Machine.execBilPeriodEnd p s
  | .bilPeriodEndClose => Sys2Proof.Machine.execBilPeriodEndClose s
  | .bilTimeSet p => Sys2Proof.Machine.execBilTimeSet p s
  | .bilCredit p => Sys2Proof.Machine.execBilCredit p s
  | .ledRead p => Sys2Proof.Machine.execLedRead p s
  | .ledAck p => Sys2Proof.Machine.execLedAck p s
  | .ledStatus p => Sys2Proof.Machine.execLedStatus p s
  | .ledLogRead p => Sys2Proof.Machine.execLedLogRead p s
  | .ledPolicy p => Sys2Proof.Machine.execLedPolicy p s
  | .ptCommit p => Sys2Proof.Machine.execPtCommit p s
  | .ptCommitApply => Sys2Proof.Machine.execPtCommitApply s
  | .ptStatus p => Sys2Proof.Machine.execPtStatus p s
  | .sesStart p => Sys2Proof.Machine.execSesStart p s
  | .sesStop p => Sys2Proof.Machine.execSesStop p s
  | .sesLimit p => Sys2Proof.Machine.execSesLimit p s
  | .sesStatus p => Sys2Proof.Machine.execSesStatus p s
  | .hlcCommit p => Sys2Proof.Machine.execHlcCommit p s
  | .hlcExchange p => Sys2Proof.Machine.execHlcExchange p s
  | .hlcModemTest p => Sys2Proof.Machine.execHlcModemTest p s
  | .safCommit p => Sys2Proof.Machine.execSafCommit p s
  | .safStatus p => Sys2Proof.Machine.execSafStatus p s
  | .safConfirm p => Sys2Proof.Machine.execSafConfirm p s
  | .safReset p => Sys2Proof.Machine.execSafReset p s
  | .efCommit p => Sys2Proof.Machine.execEfCommit p s
  | .efStatus p => Sys2Proof.Machine.execEfStatus p s
  | .efTest p => Sys2Proof.Machine.execEfTest p s
  | .swCommit p => Sys2Proof.Machine.execSwCommit p s
  | .swSet p => Sys2Proof.Machine.execSwSet p s
  | .swStatus p => Sys2Proof.Machine.execSwStatus p s
  | .swClear p => Sys2Proof.Machine.execSwClear p s
  | .swSense p => Sys2Proof.Machine.execSwSense p s
  | .swLock p => Sys2Proof.Machine.execSwLock p s
  | .authCommit p => Sys2Proof.Machine.execAuthCommit p s
  | .authCommitApply => Sys2Proof.Machine.execAuthCommitApply s
  | .authListWrite p => Sys2Proof.Machine.execAuthListWrite p s
  | .authListCommit p => Sys2Proof.Machine.execAuthListCommit p s
  | .rdrStatus p => Sys2Proof.Machine.execRdrStatus p s
  | .rdrSelftest p => Sys2Proof.Machine.execRdrSelftest p s
  | .tdrCommit p => Sys2Proof.Machine.execTdrCommit p s
  | .tdrStatus p => Sys2Proof.Machine.execTdrStatus p s
  | .tdrBudget p => Sys2Proof.Machine.execTdrBudget p s
  | .dspCommit p => Sys2Proof.Machine.execDspCommit p s
  | .dspCommitApply => Sys2Proof.Machine.execDspCommitApply s
  | .dspWrite p => Sys2Proof.Machine.execDspWrite p s
  | .dspUpdate p => Sys2Proof.Machine.execDspUpdate p s
  | .dspStatus p => Sys2Proof.Machine.execDspStatus p s
  | .dspStress p => Sys2Proof.Machine.execDspStress p s
  | .secKey p => Sys2Proof.Machine.execSecKey p s
  | .secStore p => Sys2Proof.Machine.execSecStore p s
  | .secRead p => Sys2Proof.Machine.execSecRead p s
  | .secChallenge p => Sys2Proof.Machine.execSecChallenge p s
  | .secProve p => Sys2Proof.Machine.execSecProve p s
  | .secAttest p => Sys2Proof.Machine.execSecAttest p s
  | .updBegin p => Sys2Proof.Machine.execUpdBegin p s
  | .updData p => Sys2Proof.Machine.execUpdData p s
  | .updSlotWritten => Sys2Proof.Machine.execUpdSlotWritten s
  | .updActivate p => Sys2Proof.Machine.execUpdActivate p s
  | .updActivation => Sys2Proof.Machine.execUpdActivation s
  | .updConfirm p => Sys2Proof.Machine.execUpdConfirm p s
  | .updStatus p => Sys2Proof.Machine.execUpdStatus p s
  | .updAbort p => Sys2Proof.Machine.execUpdAbort p s
  | .trialFailure => Sys2Proof.Machine.execTrialFailure s
  | .trialConfirmTimeout => Sys2Proof.Machine.execTrialConfirmTimeout s
  | .pwrStatus p => Sys2Proof.Machine.execPwrStatus p s
  | .pwrReset p => Sys2Proof.Machine.execPwrReset p s
  | .pwrResetExecute => Sys2Proof.Machine.execPwrResetExecute s
  | .pwrOptionRead p => Sys2Proof.Machine.execPwrOptionRead p s
  | .pwrOptionWrite p => Sys2Proof.Machine.execPwrOptionWrite p s
  | .pwrCommit p => Sys2Proof.Machine.execPwrCommit p s
  | .tstPoint p => Sys2Proof.Machine.execTstPoint p s
  | .tstDegraded p => Sys2Proof.Machine.execTstDegraded p s
  | .fsRead p => Sys2Proof.Machine.execFsRead p s
  | .fsWrite p => Sys2Proof.Machine.execFsWrite p s
  | .fsCtl p => Sys2Proof.Machine.execFsCtl p s
  | .spiWrite mosi => Sys2Proof.Machine.execSpiWrite mosi s
  | .spiRead n => Sys2Proof.Machine.execSpiRead n s
  | .spiStatus type => Sys2Proof.Machine.execSpiStatus type s
  | .fragmentTimeout => Sys2Proof.Machine.execFragmentTimeout s
  | .netServiceRequest kind dst data => Sys2Proof.Machine.execNetServiceRequest kind dst data s
  | .evtNotify k => Sys2Proof.Machine.execEvtNotify k s
  | .evtNotifyResend k => Sys2Proof.Machine.execEvtNotifyResend k s
  | .ringTestSend => Sys2Proof.Machine.execRingTestSend s
  | .ringTestReceive port own => Sys2Proof.Machine.execRingTestReceive port own s
  | .ringTestMissing port => Sys2Proof.Machine.execRingTestMissing port s
  | .linkDown port => Sys2Proof.Machine.execLinkDown port s
  | .flush port => Sys2Proof.Machine.execFlush port s
  | .ethLinkChange port up => Sys2Proof.Machine.execEthLinkChange port up s
  | .macAgeing => Sys2Proof.Machine.execMacAgeing s
  | .ptpMessage m => Sys2Proof.Machine.execPtpMessage m s
  | .ptpAnnounceTimeout => Sys2Proof.Machine.execPtpAnnounceTimeout s
  | .mailboxRing k who count => Sys2Proof.Machine.execMailboxRing k who count s
  | .mailboxAck k who code => Sys2Proof.Machine.execMailboxAck k who code s
  | .registerWrite k who word v => Sys2Proof.Machine.execRegisterWrite k who word v s
  | .mailboxPendingTimeout k => Sys2Proof.Machine.execMailboxPendingTimeout k s
  | .eventCoalesceFlush => Sys2Proof.Machine.execEventCoalesceFlush s
  | .powerOn mv lost => Sys2Proof.Machine.execPowerOn mv lost s
  | .coldReset straps test => Sys2Proof.Machine.execColdReset straps test s
  | .resetNPin low => Sys2Proof.Machine.execResetNPin low s
  | .vioInvalid => Sys2Proof.Machine.execVioInvalid s
  | .vioValid => Sys2Proof.Machine.execVioValid s
  | .vsysInvalid mv => Sys2Proof.Machine.execVsysInvalid mv s
  | .vbatLow mv => Sys2Proof.Machine.execVbatLow mv s
  | .powerFailWarning mv us => Sys2Proof.Machine.execPowerFailWarning mv us s
  | .pfwNSample high => Sys2Proof.Machine.execPfwNSample high s
  | .pfwStop => Sys2Proof.Machine.execPfwStop s
  | .pfwRecovered => Sys2Proof.Machine.execPfwRecovered s
  | .pfwWithdrawn => Sys2Proof.Machine.execPfwWithdrawn s
  | .watchdogExpiry => Sys2Proof.Machine.execWatchdogExpiry s
  | .eccError => Sys2Proof.Machine.execEccError s
  | .warmReset => Sys2Proof.Machine.execWarmReset s
  | .warmResetEnd => Sys2Proof.Machine.execWarmResetEnd s
  | .appRunning => Sys2Proof.Machine.execAppRunning s
  | .blockResetRequest unit => Sys2Proof.Machine.execBlockResetRequest unit s
  | .blockResetBegin => Sys2Proof.Machine.execBlockResetBegin s
  | .blockResetEscalate => Sys2Proof.Machine.execBlockResetEscalate s
  | .blockResetEnd => Sys2Proof.Machine.execBlockResetEnd s
  | .powerStateDescend => Sys2Proof.Machine.execPowerStateDescend s
  | .powerStateWake src => Sys2Proof.Machine.execPowerStateWake src s
  | .enterIdle => Sys2Proof.Machine.execEnterIdle s
  | .shelfWake => Sys2Proof.Machine.execShelfWake s
  | .rtcCorrection => Sys2Proof.Machine.execRtcCorrection s
  | .clockMonitor nfc rtc => Sys2Proof.Machine.execClockMonitor nfc rtc s
  | .mainClockFail pll => Sys2Proof.Machine.execMainClockFail pll s
  | .pllLockLoss app lost => Sys2Proof.Machine.execPllLockLoss app lost s
  | .dieTempWarning t => Sys2Proof.Machine.execDieTempWarning t s
  | .mramScrub word bad => Sys2Proof.Machine.execMramScrub word bad s
  | .coverTamper isOpen => Sys2Proof.Machine.execCoverTamper isOpen s
  | .rotationSlotStart x => Sys2Proof.Machine.execRotationSlotStart x s
  | .modulatorFault m e => Sys2Proof.Machine.execModulatorFault m e s
  | .bitstreamStuck c periods => Sys2Proof.Machine.execBitstreamStuck c periods s
  | .bitstreamRecover c us => Sys2Proof.Machine.execBitstreamRecover c us s
  | .bitstreamOverrange c ones => Sys2Proof.Machine.execBitstreamOverrange c ones s
  | .crossCheckWindow c => Sys2Proof.Machine.execCrossCheckWindow c s
  | .fastPathSample xs => Sys2Proof.Machine.execFastPathSample xs s
  | .presetOutputSample g preset => Sys2Proof.Machine.execPresetOutputSample g preset s
  | .zeroCrossing c => Sys2Proof.Machine.execZeroCrossing c s
  | .zcMissing c => Sys2Proof.Machine.execZcMissing c s
  | .meteringWindowClose m => Sys2Proof.Machine.execMeteringWindowClose m s
  | .nettingPeriodEnd m => Sys2Proof.Machine.execNettingPeriodEnd m s
  | .gridBoundary => Sys2Proof.Machine.execGridBoundary s
  | .p100Persist ok => Sys2Proof.Machine.execP100Persist ok s
  | .pulseIssue k => Sys2Proof.Machine.execPulseIssue k s
  | .ppAuxCheck => Sys2Proof.Machine.execPpAuxCheck s
  | .ledgerRecordWrite done => Sys2Proof.Machine.execLedgerRecordWrite done s
  | .safetyCycle pts npe => Sys2Proof.Machine.execSafetyCycle pts npe s
  | .tripConfirmed n => Sys2Proof.Machine.execTripConfirmed n s
  | .safeCutDrop n => Sys2Proof.Machine.execSafeCutDrop n s
  | .pathTestStepEnd n => Sys2Proof.Machine.execPathTestStepEnd n s
  | .closingTimeout n => Sys2Proof.Machine.execClosingTimeout n s
  | .weldCheck n => Sys2Proof.Machine.execWeldCheck n s
  | .dcVoltageCheckTimeout n => Sys2Proof.Machine.execDcVoltageCheckTimeout n s
  | .weldWhileOpen n => Sys2Proof.Machine.execWeldWhileOpen n s
  | .pathEnableTimeout n cut => Sys2Proof.Machine.execPathEnableTimeout n cut s
  | .cutFault n => Sys2Proof.Machine.execCutFault n s
  | .safetyPairFault x => Sys2Proof.Machine.execSafetyPairFault x s
  | .safeStateSessionEnd n => Sys2Proof.Machine.execSafeStateSessionEnd n s
  | .safeRstPulse idle low high both => Sys2Proof.Machine.execSafeRstPulse idle low high both s
  | .safeRstStuck low => Sys2Proof.Machine.execSafeRstStuck low s
  | .appResetOpenTimeout n => Sys2Proof.Machine.execAppResetOpenTimeout n s
  | .pilotPeriod n l0 l1 gen => Sys2Proof.Machine.execPilotPeriod n l0 l1 gen s
  | .pilotStateAccept n => Sys2Proof.Machine.execPilotStateAccept n s
  | .pilotStateInvalid n => Sys2Proof.Machine.execPilotStateInvalid n s
  | .diodeFault n => Sys2Proof.Machine.execDiodeFault n s
  | .pilotErrorHoldEnd n => Sys2Proof.Machine.execPilotErrorHoldEnd n s
  | .proximityAccept n mv => Sys2Proof.Machine.execProximityAccept n mv s
  | .dutyIncreaseDue n => Sys2Proof.Machine.execDutyIncreaseDue n s
  | .overcurrent n => Sys2Proof.Machine.execOvercurrent n s
  | .bindLapse n => Sys2Proof.Machine.execBindLapse n s
  | .modemLoopback n pass => Sys2Proof.Machine.execModemLoopback n pass s
  | .modemNoAnswer n us => Sys2Proof.Machine.execModemNoAnswer n us s
  | .cmSlacParmReq n => Sys2Proof.Machine.execCmSlacParmReq n s
  | .cmMnbcSoundInd n atten => Sys2Proof.Machine.execCmMnbcSoundInd n atten s
  | .cmAttenCharRsp n => Sys2Proof.Machine.execCmAttenCharRsp n s
  | .cmSlacMatchReq n => Sys2Proof.Machine.execCmSlacMatchReq n s
  | .slacTimeout n => Sys2Proof.Machine.execSlacTimeout n s
  | .slacRetry n => Sys2Proof.Machine.execSlacRetry n s
  | .sdpRequest n => Sys2Proof.Machine.execSdpRequest n s
  | .tlsHandshake n x => Sys2Proof.Machine.execTlsHandshake n x s
  | .supportedAppProtocol n offers => Sys2Proof.Machine.execSupportedAppProtocol n offers s
  | .authorizationRequest n contract => Sys2Proof.Machine.execAuthorizationRequest n contract s
  | .chargeParameterDiscovery n x => Sys2Proof.Machine.execChargeParameterDiscovery n x s
  | .cableCheckRequest n => Sys2Proof.Machine.execCableCheckRequest n s
  | .prechargeRequest n u a => Sys2Proof.Machine.execPrechargeRequest n u a s
  | .powerDeliveryRequest n op => Sys2Proof.Machine.execPowerDeliveryRequest n op s
  | .chargeLoopRequest n x => Sys2Proof.Machine.execChargeLoopRequest n x s
  | .certificateRequest n body => Sys2Proof.Machine.execCertificateRequest n body s
  | .meteringReceipt n => Sys2Proof.Machine.execMeteringReceipt n s
  | .certExchangeTimeout n => Sys2Proof.Machine.execCertExchangeTimeout n s
  | .authorizationTimeout n => Sys2Proof.Machine.execAuthorizationTimeout n s
  | .hlcMessageTimeout n => Sys2Proof.Machine.execHlcMessageTimeout n s
  | .dcStepTimeout n => Sys2Proof.Machine.execDcStepTimeout n s
  | .hostStopTimeout n => Sys2Proof.Machine.execHostStopTimeout n s
  | .tcpLoss n cause => Sys2Proof.Machine.execTcpLoss n cause s
  | .hlcFallback n => Sys2Proof.Machine.execHlcFallback n s
  | .canFrameTransmit f => Sys2Proof.Machine.execCanFrameTransmit f s
  | .canFrameReceive f data => Sys2Proof.Machine.execCanFrameReceive f data s
  | .canReceiveTimeout f => Sys2Proof.Machine.execCanReceiveTimeout f s
  | .psFaultClear n => Sys2Proof.Machine.execPsFaultClear n s
  | .psFaultOpenTimeout n => Sys2Proof.Machine.execPsFaultOpenTimeout n s
  | .offsetMeasurement n => Sys2Proof.Machine.execOffsetMeasurement n s
  | .residualMismatch n => Sys2Proof.Machine.execResidualMismatch n s
  | .testWindingStepEnd n => Sys2Proof.Machine.execTestWindingStepEnd n s
  | .testWindingDue n => Sys2Proof.Machine.execTestWindingDue n s
  | .earthTriggerClear n => Sys2Proof.Machine.execEarthTriggerClear n s
  | .insulationStepEnd n step tapP tapN us settled => Sys2Proof.Machine.execInsulationStepEnd n step tapP tapN us settled s
  | .peChkPulse us => Sys2Proof.Machine.execPeChkPulse us s
  | .shortCircuit c ma => Sys2Proof.Machine.execShortCircuit c ma s
  | .channelOvercurrent c ma us => Sys2Proof.Machine.execChannelOvercurrent c ma us s
  | .channelThermal c temp => Sys2Proof.Machine.execChannelThermal c temp s
  | .supplyUnderVoltage mv us => Sys2Proof.Machine.execSupplyUnderVoltage mv us s
  | .underVoltageRelease mv us => Sys2Proof.Machine.execUnderVoltageRelease mv us s
  | .inrushWindowEnd c => Sys2Proof.Machine.execInrushWindowEnd c s
  | .restartEvaluation c temp => Sys2Proof.Machine.execRestartEvaluation c temp s
  | .retryCounterDecay c => Sys2Proof.Machine.execRetryCounterDecay c s
  | .offStateTest c mv mvB => Sys2Proof.Machine.execOffStateTest c mv mvB s
  | .onStateOpenLoad c ma us => Sys2Proof.Machine.execOnStateOpenLoad c ma us s
  | .economiserUpdate c mv => Sys2Proof.Machine.execEconomiserUpdate c mv s
  | .feedbackChange k high us0 us1 => Sys2Proof.Machine.execFeedbackChange k high us0 us1 s
  | .lockOperation n => Sys2Proof.Machine.execLockOperation n s
  | .lockDriveEnd n ma us => Sys2Proof.Machine.execLockDriveEnd n ma us s
  | .lockConfirm n high us => Sys2Proof.Machine.execLockConfirm n high us s
  | .lockLost n high us => Sys2Proof.Machine.execLockLost n high us s
  | .limpHomeChange lhEn refreshed => Sys2Proof.Machine.execLimpHomeChange lhEn refreshed s
  | .appRefreshTimeout => Sys2Proof.Machine.execAppRefreshTimeout s
  | .lhInputChange k high => Sys2Proof.Machine.execLhInputChange k high s
  | .antennaPing k amp => Sys2Proof.Machine.execAntennaPing k amp s
  | .poll k x => Sys2Proof.Machine.execPoll k x s
  | .pollEnd k => Sys2Proof.Machine.execPollEnd k s
  | .hostDecisionTimeout n => Sys2Proof.Machine.execHostDecisionTimeout n s
  | .presentationEnd k => Sys2Proof.Machine.execPresentationEnd k s
  | .antennaSelftest k ma phase => Sys2Proof.Machine.execAntennaSelftest k ma phase s
  | .baselineStore => Sys2Proof.Machine.execBaselineStore s
  | .fieldPowerUp mAm => Sys2Proof.Machine.execFieldPowerUp mAm s
  | .ndefRead file => Sys2Proof.Machine.execNdefRead file s
  | .fieldRead p1 data => Sys2Proof.Machine.execFieldRead p1 data s
  | .fieldWrite p1 data bad => Sys2Proof.Machine.execFieldWrite p1 data bad s
  | .confirmProcess n => Sys2Proof.Machine.execConfirmProcess n s
  | .halfCycleRecord => Sys2Proof.Machine.execHalfCycleRecord s
  | .tiderSlot pos neg samples amp => Sys2Proof.Machine.execTiderSlot pos neg samples amp s
  | .spanEnd x => Sys2Proof.Machine.execSpanEnd x s
  | .joinListenEnd => Sys2Proof.Machine.execJoinListenEnd s
  | .neighbourTimeout => Sys2Proof.Machine.execNeighbourTimeout s
  | .beaconDue => Sys2Proof.Machine.execBeaconDue s
  | .demandDue => Sys2Proof.Machine.execDemandDue s
  | .allocTimeout => Sys2Proof.Machine.execAllocTimeout s
  | .displayUpdateStart found => Sys2Proof.Machine.execDisplayUpdateStart found s
  | .railPowerOnStep mv => Sys2Proof.Machine.execRailPowerOnStep mv s
  | .displayFrame => Sys2Proof.Machine.execDisplayFrame s
  | .displayUpdateComplete => Sys2Proof.Machine.execDisplayUpdateComplete s
  | .railHoldExpiry => Sys2Proof.Machine.execRailHoldExpiry s
  | .railRetry => Sys2Proof.Machine.execRailRetry s
  | .ntcMeasure t => Sys2Proof.Machine.execNtcMeasure t s
  | .tempDeferralRetry => Sys2Proof.Machine.execTempDeferralRetry s
  | .legalRender => Sys2Proof.Machine.execLegalRender s
  | .recoveryStart => Sys2Proof.Machine.execRecoveryStart s
  | .katRun fails => Sys2Proof.Machine.execKatRun fails s
  | .chuckWaitTimeout => Sys2Proof.Machine.execChuckWaitTimeout s
  | .grantExpiry => Sys2Proof.Machine.execGrantExpiry s
  | .serviceSelection n code dynamic evccid => Sys2Proof.Machine.execServiceSelection n code dynamic evccid s
  | .rejectedPacket x => Sys2Proof.Machine.execRejectedPacket x s
  | .fieldCollapse cut => Sys2Proof.Machine.execFieldCollapse cut s
  | .modulatorOverdue m => Sys2Proof.Machine.execModulatorOverdue m s
  | .nonceExpiry => Sys2Proof.Machine.execNonceExpiry s
  | .keptCommandExpiry => Sys2Proof.Machine.execKeptCommandExpiry s
  | .dhcpv4Message ip ack => Sys2Proof.Machine.execDhcpv4Message ip ack s
  | .frameForwarding port src dst len => Sys2Proof.Machine.execFrameForwarding port src dst len s
  | .syncInterval announce => Sys2Proof.Machine.execSyncInterval announce s

end Sys2Proof.Machine
end

