-- ==== Sys2Proof/Machine/Idle.lean ====
section
/-!
DEFINITION. What the device does while no command waits in the queue (log entry 1): a held command that may start starts
(R377); otherwise one microsecond passes.
-/

namespace Sys2Proof.Machine

/-- The device time runs (R8): from the start of the boot until the supply is lost, unless the 25 MHz crystal or the CLK_META PLL has
failed (R459). -/
def timeRuns (s : State) : Bool :=
  (s.pwr.phase == .boot || s.pwr.phase == .run || s.pwr.phase == .pfwSeq || s.pwr.phase == .pfwWait) &&
    !vat s.pwr.clkFault 0 false && !vat s.pwr.clkFault 1 false

/-- How far the device time moves in a microsecond of elapsed time: 1, and 0 or 2 when a microsecond of slew is due, one in
each millisecond (R114). -/
def slewStep (s : State) : Int := if s.clk.slewAcc < 999 then 0 else max (-1) (min 1 s.clk.slew)

/-- The device time after a further microsecond (R8, R114): a slew in progress never makes it run backwards. -/
def tickTime (s : State) : State :=
  let d := slewStep s
  { s with
    clk.time := (s.clk.time + 1 + d).toNat
    clk.slew := s.clk.slew - d
    clk.slewAcc := if s.clk.slewAcc < 999 then s.clk.slewAcc + 1 else 0 }

/-- A microsecond of elapsed time: the 32.768 kHz clock carries the RTC (R455) unless it has failed (R459), the device time
runs, the event log has emptied the domains' queues (R402), and the conditions of R441 are followed. -/
def tick (s : State) : State :=
  let s := { s with
    clk.mono := s.clk.mono + 1
    tail.rtc := if vat s.pwr.clkFault 5 false then s.tail.rtc else s.tail.rtc + 1
    ev.used := Vector.replicate 16 0 }
  followAllowed (if timeRuns s then tickTime s else s)

/-- The earliest held command that may start now (R377). -/
def nextHeld (s : State) : Option Flight := s.port.held.find? fun f => startable s f

/-- A held command starts. -/
def startHeld (f : Flight) (s : State) : State :=
  match bodyOf f.opcode with
  | some body => startCmd f body { s with port.held := s.port.held.filter fun g => !(g.no == f.no) }
  | none => s

/-- The idle step. -/
def idle (s : State) : State :=
  match nextHeld s with
  | some f => startHeld f s
  | none => tick s

end Sys2Proof.Machine
end

