-- ==== Sys2Proof/Machine/Lands.lean ====
section
/-!
DEFINITION. Lands of the PNV8 package (spec/22_lands_and_package.md): which land lies where (R476 to R478), of what type it is, and
what it does in every reset and power state as a function of the state (R479, R480, R483).
-/

namespace Sys2Proof.Machine

/-- A land by its name. `neg` is the N land of a pair; numbers count from 0. -/
inductive Land where
  | mt (g : Fin 9) (c : Fin 7) (neg : Bool) | mtAgnd (g : Fin 9) | xbsClk (g : Fin 9) | xbsD (g : Fin 9) (c : Fin 7)
  | vsysHv | pgndHv | hs (c : Fin 16) | lp (c : Fin 8) | lk (n : Fin 8) (b : Bool) | lks (n : Fin 8) | fb (k : Fin 16) | isense
  | lhEn | lhIn (k : Fin 4) | safeCut (n : Fin 8) | safeRst | safeState
  | cp (n : Fin 8) | pp (n : Fin 8) | cpVp12 | cpVn12 | gpTx (n : Fin 8) (neg : Bool) | gpRx (n : Fin 8) (neg : Bool)
  | rdcExc (n : Fin 8) (neg : Bool) | rdcSns (n : Fin 8) | rdcTst (n : Fin 8) | isoDrv (n : Fin 4) | isoSns (n : Fin 4) (neg : Bool)
  | peChk | npeSns (neg : Bool) | canTx (p : Fin 2) | canRx (p : Fin 2) | canStby (p : Fin 2) | tdrTx (k : Fin 3) | tdrArm
  | mpls (k : Fin 4) | epdD (k : Fin 16) | epdSdclk | epdSdle | epdSdoe | epdSdce0 | epdGdclk | epdGdsp | epdGdoe
  | dspVin | dspLx | rail (k : Fin 5) | dspNtc | dspAgnd
  | vddaMet | vrefC | nfcTx (k : Fin 4) (neg : Bool) | nfcRx (k : Fin 4) | nfcAsel (k : Fin 4) | xnfcIn | xnfcOut | fstAnt (neg : Bool)
  | ethTx (k : Fin 2) (neg : Bool) | ethRx (k : Fin 2) (neg : Bool) | ethRbias | ethLed (k : Fin 2)
  | spiSck | spiMosi | spiMiso | spiCsN | hostIrqN | addr (k : Fin 6) | resetN | pfwN | wakeN | tamperIn
  | x25In | x25Out | x32kIn | x32kOut | dbgTck | dbgTms | dbgTdi | dbgTdo | testMode | vsys | vio | vbat | vcoreC | vss
  deriving DecidableEq, Repr

/-- A side of the five outer rings (R477). -/
inductive LandSide where
  | T | E | B | W
  deriving DecidableEq, Repr

/-! ## Where the lands lie (R476 to R478) -/

/-- Row and column of position `q` of a side (R477). -/
def sideCoord (sd : LandSide) (q : Nat) : Nat × Nat :=
  let a := q / 5
  let d := q % 5
  match sd with
  | .T => (1 + d, 1 + a)
  | .E => (1 + a, 40 - d)
  | .B => (40 - d, 40 - a)
  | .W => (40 - a, 1 + d)

/-- A pair of lands, P first. -/
def pairOf (f : Bool → Land) : List Land := [f false, f true]

/-- Metrology block of a group, 25 positions (R478). -/
def metroBlock (g : Fin 9) : List Land :=
  (units 7).flatMap (fun c => pairOf (.mt g c)) ++ [.mtAgnd g, .vss, .xbsClk g] ++ (units 7).map (.xbsD g) ++ [.vss]

def sideT : List Land := ((units 9).take 7).flatMap metroBlock

def sideE : List Land :=
  List.replicate 12 .vsysHv ++ (units 16).flatMap (fun c => List.replicate 3 (.hs c)) ++ List.replicate 20 .pgndHv ++
  (units 8).map .lp ++ (units 8).flatMap (fun n => pairOf (.lk n)) ++ List.replicate 12 .vsysHv ++ List.replicate 19 .pgndHv ++
  (units 8).map .lks ++ (units 16).map .fb ++ [.isense, .lhEn] ++ (units 4).map .lhIn ++ (units 8).map .safeCut ++ [.safeRst, .safeState]

def sideB : List Land :=
  (units 8).flatMap (fun n => [.cp n, .pp n]) ++ [.cpVp12, .cpVn12] ++ List.replicate 2 .vss ++
  (units 8).flatMap (fun n => pairOf (.gpTx n) ++ pairOf (.gpRx n)) ++ List.replicate 8 .vss ++
  (units 8).flatMap (fun n => pairOf (.rdcExc n) ++ [.rdcSns n, .rdcTst n]) ++ (units 4).flatMap (fun n => .isoDrv n :: pairOf (.isoSns n)) ++
  .peChk :: pairOf .npeSns ++ List.replicate 8 .vss ++ (units 2).flatMap (fun p => [.canTx p, .canRx p, .canStby p]) ++
  (units 3).map .tdrTx ++ [.tdrArm] ++ (units 4).map .mpls ++ List.replicate 4 .vss ++ (units 16).map .epdD ++
  [.epdSdclk, .epdSdle, .epdSdoe, .epdSdce0, .epdGdclk, .epdGdsp, .epdGdoe, .dspVin, .dspLx] ++ (units 5).map .rail ++
  [.dspNtc, .dspAgnd] ++ List.replicate 10 .vss

def sideW : List Land :=
  ((units 9).drop 7).flatMap metroBlock ++ [.vddaMet, .vddaMet, .vrefC, .vrefC] ++ List.replicate 6 .vss ++
  (units 4).flatMap (fun k => pairOf (.nfcTx k) ++ [.nfcRx k, .nfcAsel k]) ++ [.xnfcIn, .xnfcOut] ++ pairOf .fstAnt ++
  List.replicate 5 .vss ++ (units 2).flatMap (fun k => pairOf (.ethTx k) ++ pairOf (.ethRx k)) ++ .ethRbias :: (units 2).map .ethLed ++
  List.replicate 4 .vss ++ [.spiSck, .spiMosi, .spiMiso, .spiCsN, .hostIrqN] ++ (units 6).map .addr ++
  [.resetN, .pfwN, .wakeN, .tamperIn, .x25In, .x25Out, .x32kIn, .x32kOut, .dbgTck, .dbgTms, .dbgTdi, .dbgTdo, .testMode] ++
  List.replicate 4 .vsys ++ List.replicate 12 .vio ++ [.vbat] ++ List.replicate 6 .vcoreC ++ List.replicate 28 .vss

/-- The 175 lands of a side in order (R478). -/
def sideLands : LandSide → List Land
  | .T => sideT | .E => sideE | .B => sideB | .W => sideW

/-- The positions of the sixth ring that carry a land (R476). -/
def ringSix : List (Nat × Nat) :=
  (List.range 12).flatMap fun k => let c := 9 + 2 * k; [(6, c), (35, c), (c, 6), (c, 35)]

/-- Every populated position with its land (R476, R478). -/
def landMap : List ((Nat × Nat) × Land) :=
  ([.T, .E, .B, .W].flatMap fun sd => ((sideLands sd).zip (List.range 175)).map fun x => (sideCoord sd x.2, x.1)) ++
    ringSix.map fun p => (p, .vss)

/-- The land at a row and column, if the position carries one. -/
def landAt (row col : Nat) : Option Land := (landMap.find? fun x => x.1 == (row, col)).map (·.2)

/-! ## Land types -/

/-- Land types (spec/22_lands_and_package.md, table of land types). -/
inductive LandType where
  | AI | AO | AB | DI | DO | OD | HVO | TS | XT | P
  deriving DecidableEq, Repr

def landType : Land → LandType
  | .mt .. | .rdcSns .. | .isoSns .. | .npeSns .. | .dspNtc | .gpRx .. | .nfcRx .. => .AI
  | .gpTx .. | .nfcTx .. | .rdcExc .. | .rdcTst .. | .isense => .AO
  | .cp .. | .pp .. | .fstAnt .. | .ethTx .. | .ethRx .. => .AB
  | .xbsD .. | .fb .. | .lks .. | .lhEn | .lhIn .. | .peChk | .safeRst | .spiSck | .spiMosi | .spiCsN | .canRx .. | .addr .. | .resetN | .pfwN
  | .wakeN | .dbgTck | .dbgTms | .dbgTdi | .testMode => .DI
  | .xbsClk .. | .safeState | .isoDrv .. | .canTx .. | .canStby .. | .tdrTx .. | .tdrArm | .mpls .. | .nfcAsel .. | .epdD .. | .epdSdclk
  | .epdSdle | .epdSdoe | .epdSdce0 | .epdGdclk | .epdGdsp | .epdGdoe | .spiMiso | .dbgTdo => .DO
  | .hostIrqN | .ethLed .. => .OD
  | .hs .. | .lp .. | .lk .. | .safeCut .. | .rail .. | .dspLx => .HVO
  | .tamperIn => .TS
  | .x25In | .x25Out | .x32kIn | .x32kOut | .xnfcIn | .xnfcOut => .XT
  | .vsys | .vsysHv | .vio | .vbat | .vss | .pgndHv | .mtAgnd .. | .dspAgnd | .dspVin | .vddaMet | .vrefC | .vcoreC | .cpVp12 | .cpVn12
  | .ethRbias => .P

/-! ## What the lands do (R479, R480, R483) -/

/-- What a land does. `owned`: as the owning chapter decides, with no level State holds as such. -/
inductive LandSt where
  | unpowered | highZ | pullUp | pullDown | low | high | clock | input
  | off | on | driven (high : Bool) | braked | pilot (o : OutMode) | proximity
  | measuring | wakeDetector | exciting | bothVss | noCarrier | live | zeroVolt | discharged | linkDown | forwarding | sampled
  | supply | owned
  deriving DecidableEq, Repr

/-- A level as driven. -/
def levelSt (b : Bool) : LandSt := if b then .high else .low

/-- A cold or pin reset, and boot until the owning function starts (first column of R480). -/
def coldLands (s : State) : Bool :=
  s.pwr.phase == .off || s.pwr.phase == .held || s.pwr.phase == .boot || s.pwr.phase == .testHold

/-- Cold reset or SHELF. -/
def darkLands (s : State) : Bool := coldLands s || s.pwr.phase == .shelf

/-- The device is in WATCH. -/
def watchLands (s : State) : Bool := s.pwr.phase == .run && s.pwr.pstate == .watch

/-- A warm reset, or a block reset of the unit, runs. -/
def unitReset (s : State) (u : Nat) : Bool := s.pwr.inWarm || (s.pwr.blkUnit == some u && s.pwr.blkBegan.isSome)

/-- The land is referred to VIO (R479, R483). -/
def vioLand (l : Land) : Bool := landType l == .DI || landType l == .DO || landType l == .OD

/-- The vehicle unit that serves a point (R449). -/
def vehUnitOf (n : Fin 8) : Nat := if n.1 < 4 then 1 else 5

/-- A channel land. -/
def chanSt (s : State) (c : Fin 24) : LandSt := if darkLands s then .off else if conducts s c then .on else .off

/-- A land of a bridge, LKn_A or LKn_B: the lock direction drives LKn_A high, or with DIR_SWAP LKn_B (R263, R270). -/
def lockSt (s : State) (n : Fin 8) (b : Bool) : LandSt :=
  let l := vget s.sw.lk n
  if darkLands s then .off
  else if l.drive = 0 then (if l.brake then .braked else .off)
  else .driven ((b == dirSwap (lkB s n)) == (l.drive == 1))

/-- Display data and control lands. -/
def epdSt (s : State) : LandSt :=
  if darkLands s then .pullUp else if unitReset s 2 || watchLands s then .low else .owned

/-- A display rail, or DSP_LX, that power-on switches on at a step; the discharge lasts at most 2.52 ms (R343, R344). -/
def railSt (s : State) (step : Nat) : LandSt :=
  if darkLands s || watchLands s then .zeroVolt
  else if unitReset s 2 || s.dsp.dischAt.any (fun t => decide (s.clk.mono < t + 2520)) then .discharged
  else if s.dsp.railStep = 0 ∨ s.dsp.railStep < step then .zeroVolt else .on

/-- The power-on step of a rail land: VPOS, VNEG, VGH, VGL, VCOM (R343, R478). -/
def stepOfRail (k : Fin 5) : Nat := match k with | 0 => 4 | 1 => 2 | 2 => 3 | 3 => 1 | 4 => 5

/-- What a powered land does (R479, R480). -/
def poweredSt (s : State) (l : Land) : LandSt :=
  match l with
  | .mt g c _ =>
    if coldLands s then .highZ
    else if s.pwr.phase = .shelf then (if g = 0 ∧ c = 4 then .wakeDetector else .highZ) else .measuring
  | .xbsClk g => if darkLands s then .pullUp else if xbsClk s g.1 then .clock else .low
  | .cp n => .pilot (if darkLands s then .F else (pil s n).out)
  | .pp n => if coldLands s || ppSocket (pilotB s n) then .proximity else .highZ
  | .gpTx n _ => if darkLands s || watchLands s || unitReset s (vehUnitOf n) then .highZ else .owned
  | .rdcExc .. => if darkLands s || watchLands s then .bothVss else .exciting
  | .rdcTst n => if darkLands s || watchLands s || (ear s n).tstOut.isNone then .highZ else .owned
  | .isoDrv k => if darkLands s then .pullDown else if watchLands s then .low else levelSt (ear s (k.castLE (by omega))).isoDrv
  | .safeCut n => if darkLands s then .low else levelSt (saf s n).cut
  | .safeState => if darkLands s then .pullUp else levelSt (safeStateHigh s)
  | .hs c => chanSt s (c.castLE (by omega))
  | .lp c => chanSt s (c.natAdd 16)
  | .lk n b => lockSt s n b
  | .isense => if darkLands s then .highZ else .owned
  | .nfcTx .. => if darkLands s then .bothVss else if unitReset s 2 then .noCarrier else .owned
  | .nfcAsel k => if darkLands s then .pullUp else levelSt (vget s.rdr.asel k)
  | .fstAnt _ => .live
  | .tdrTx k => if darkLands s then .pullDown else if unitReset s 2 then .low else levelSt (vget s.tdr.tx k)
  | .tdrArm => if darkLands s then .pullDown else if unitReset s 2 then .low else levelSt s.tdr.arm
  | .canTx _ => if darkLands s then .pullUp else if unitReset s 1 || watchLands s then .high else .owned
  | .canStby _ => if darkLands s then .pullUp else if watchLands s then .high else .owned
  | .mpls k => if darkLands s then .pullUp else levelSt (vget s.en.pls k).land
  | .epdD _ | .epdSdclk | .epdSdle | .epdSdoe | .epdSdce0 | .epdGdclk | .epdGdsp | .epdGdoe => epdSt s
  | .rail k => railSt s (stepOfRail k)
  | .dspLx => railSt s 1
  | .spiMiso => if darkLands s then .pullUp else if unitReset s 4 then .highZ else .owned
  | .hostIrqN => if hostIrqLow s then .low else .highZ
  | .ethTx .. | .ethRx .. | .ethLed _ => if darkLands s then .linkDown else .forwarding
  | .dbgTdo => if coldLands s || s.pwr.phase == .shelf || (s.pwr.inWarm && !s.key.debug) then .highZ else .owned
  | .tamperIn => .sampled
  | .testMode => .pullDown
  | .gpRx .. | .rdcSns _ | .isoSns .. | .npeSns _ | .dspNtc | .nfcRx _ => .input
  | .xbsD .. | .fb _ | .lks _ | .lhEn | .lhIn _ | .peChk | .safeRst | .spiSck | .spiMosi | .spiCsN | .canRx _ | .addr _ | .resetN | .pfwN
  | .wakeN | .dbgTck | .dbgTms | .dbgTdi => .pullUp
  | .x25In | .x25Out | .x32kIn | .x32kOut | .xnfcIn | .xnfcOut | .vsys | .vsysHv | .vio | .vbat | .vss | .pgndHv | .mtAgnd _ | .dspAgnd
  | .dspVin | .vddaMet | .vrefC | .vcoreC | .cpVp12 | .cpVn12 | .ethRbias => .supply

/-- What a land does: lands referred to VIO are unpowered while VIO is invalid, and power outputs, pilots and proximity sources
while VSYS is (R479, R480, R483). -/
def landSt (s : State) (l : Land) : LandSt :=
  if vioLand l && !s.pwr.vioValid then .unpowered
  else if (landType l == .HVO || match l with | .cp _ | .pp _ => true | _ => false) && !s.pwr.vsysValid then .unpowered
  else poweredSt s l

end Sys2Proof.Machine
end

