-- ==== Sys2Proof/Safety.lean ====
section
/-!
DEFINITION. The terms in which claims about the device are stated: when the port takes a packet and starts its command, what
an answer is, what a step leaves alone, and the invariants every step keeps.
-/

namespace Sys2Proof.Machine

/-! ## Commands and answers -/

/-- The port takes the packet as a command with this opcode, and the command starts at once: the port has room (R368), the
packet passes every check of R366, and no fence and no earlier command of its subsystem holds it (R377). -/
def taken (op : Nat) (p : Pkt) (s : State) : Bool :=
  !noRoom s p && decide (p.flags < 16) && addrOk s p && decide (p.payload.length ≤ 16384) && opAccepted s op &&
    (keptOf s p).isNone && decide ((outstanding s).length < 32) && startable s (newFlight s p op)

/-- The flight of a packet taken now, as its command's own rules meet it. -/
def flightOf (op : Nat) (p : Pkt) (s : State) : Flight := newFlight (wake 0 s) p op

/-- The state in which a command's own rules run: the device woken (R443), the packet counted and kept (R378, R391), and the
command counted as received and not yet replied to (R366). -/
def begun (op : Nat) (p : Pkt) (s : State) : State :=
  let u := takeCmd p op (wake 0 s)
  { u with port.flights := u.port.flights ++ [flightOf op p s] }

/-- In `t` the command of packet `p` has been answered: its reply is kept under its source and SEQ (R378), with this status
and payload. -/
def Answered (op : Nat) (p : Pkt) (status : Nat) (payload : List Byte) (t : State) : Prop :=
  ∃ k ∈ t.port.kept, k.src = p.src ∧ k.seq = p.seq ∧ k.opcode = op ∧
    ∃ r, k.reply = some r ∧ r.src = p.src ∧ r.seq = p.seq ∧ r.opcode = op ∧ r.status = status ∧ r.payload = payload

/-- In `t` the command of packet `p` runs and waits for what completes it: it is received and not yet replied to. -/
def Waiting (op : Nat) (p : Pkt) (t : State) : Prop :=
  ∃ f ∈ t.port.flights, f.pkt = p ∧ f.opcode = op

/-- A commit finds what it names (R518, R433): a valid stored copy of every block, each written by BLK_WRITE or keeping the rules of
its block. -/
def Takes (s : State) (ids : List Nat) (cs : List BlkCopy) : Prop :=
  storedAll s ids = some cs ∧ ∀ c ∈ cs, c.byHost = true ∨ blockRules s c.id c.bytes = true

/-- A command changed nothing but the port's own bookkeeping (its kept commands, counters and replies, and the grants of a source
the kept commands displace, R417), after the wake of R443. -/
def OnlyReplied (s t : State) : Prop := t = { wake 0 s with port := t.port, key.grants := t.key.grants }

/-- The command of packet `p` was refused with a status in `t`: a reply with that status and no payload has left for its source
unless the packet carries NO_REPLY, and nothing else changed. -/
def Refused (op : Nat) (p : Pkt) (status : Nat) (s t : State) : Prop :=
  OnlyReplied s t ∧ (noReply p = false →
    (p.src = .spi → mkReply s p op status [] ∈ t.port.spiOut) ∧
    (p.src ≠ .spi → ∃ fr ∈ t.port.out, fr.dst = Source.dst p.src ∧ fr.data = (mkReply s p op status []).bytes))

/-! ## What a step leaves alone -/

/-- `t` is `s` but for the event log and what an entry brings with it: active bits and queues, the ledger's own counters and the
pending-record queue (R142, R147, R400 to R402). -/
def OnlyEvents (s t : State) : Prop := t = { s with ev := t.ev, led := t.led, p100 := t.p100 }

/-! ## Invariants -/

/-- Every addressed memory has its canonical form: the field store (R303), the display buffers (R347) and the last frame
scanned (R348). -/
def Canonical (s : State) : Prop :=
  cellWf fsDflt s.fst.mem = true ∧ cellWf white s.nvDsp.lastImg = true ∧ cellWf white s.dsp.nextImg = true ∧
    cellWf white s.dsp.curImg = true ∧ cellWf (fun _ => 0) s.dsp.scan = true

/-- Neither path of a point is enabled and no path test runs: the coil is off, SAFE_CUTn is low (R233, R236). -/
def PathsOff (s : State) (n : Fin 8) : Prop := (saf s n).coil = false ∧ (saf s n).cut = false ∧ (saf s n).path = 0

/-- In the device safe state both paths of every point are off (R231); a point the member lacks never has a path on (R2). -/
def SafeStateHolds (s : State) : Prop :=
  ∀ n : Fin 8, s.safeDev.safeState = true ∨ hasPoint s n = false → PathsOff s n

end Sys2Proof.Machine
end

