-- ==== Sys2Proof/Certificates/Slice0/Obligations.lean ====
section
/-!
DEFINITION. The statements about the model, for the provers: what each command and event does, what it leaves alone, and what
every step keeps.
-/

open Sys2Proof Sys2Proof.Machine

/-! ## The machine as a whole -/

/-- With a command c at the front of the queue, step is exec of c on the state with the queue's rest. The queue is the model's
own: it stands for what arrives at the device, in order. -/
def Obligations.StepRunsFrontCommand : Prop :=
  ∀ (c : Instr) (rest : List Instr) (s : State), s.pending = c :: rest → step s = exec c { s with pending := rest }

/-- On an empty queue step answers a next state (the model's choice, log entry 1). When no held command may start, elapsed time
is one microsecond further, a running device time moves by 0, 1 or 2 microseconds and so never backwards while a slew is in
progress (R114), and no host command, mailbox, settings block or contactor request changes. When a held command may start
(R377), the one received first among those leaves the list of held commands, and elapsed time stands. -/
def Obligations.IdleStep : Prop :=
  ∀ s : State, s.pending = [] → ∃ t, step s = .next t ∧
    (nextHeld s = none → t.clk.mono = s.clk.mono + 1 ∧
      (timeRuns s = true → s.clk.time ≤ t.clk.time ∧ t.clk.time ≤ s.clk.time + 2) ∧ (timeRuns s = false → t.clk = { s.clk with mono := s.clk.mono + 1 }) ∧
      t = { s with clk := t.clk, tail.rtc := t.tail.rtc, ev.used := t.ev.used, pwr.allowedSince := t.pwr.allowedSince }) ∧
    (∀ f, nextHeld s = some f → t = startHeld f s)

/-- For every command or event and every state exec answers a next state: none of them faults and none is refused. A command
that its rules turn away answers a status code or leaves the state unchanged. -/
def Obligations.EveryCommandAnswers : Prop := ∀ (i : Instr) (s : State), ∃ t, exec i s = .next t

/-- No command or event changes the queue of commands that wait, the elapsed time, or which member of the family the device is.
That a command takes no elapsed time is the model's choice (log entry 9). -/
def Obligations.CommandsKeepQueueAndElapsedTime : Prop :=
  ∀ (i : Instr) (s t : State), exec i s = .next t → t.pending = s.pending ∧ t.clk.mono = s.clk.mono ∧ t.member = s.member

/-- In every state whose field store, display buffers and scanned frame have their canonical form (strictly rising addresses, no
entry equal to what an unlisted address reads as), every step that answers a next state leaves them in canonical form, so that
equal memories are equal data. -/
def Obligations.StepKeepsCanonicalMemories : Prop :=
  ∀ s t : State, Canonical s → step s = .next t → Canonical t

/-- State.reset's memories list nothing, which is their canonical form. -/
def Obligations.ResetIsCanonical : Prop := Canonical State.reset

/-! ## The host port -/

/-- For every opcode and every command's own rules: when the port has room, the packet passes every packet check and no fence
and no earlier command of its subsystem holds it, the device wakes, the packet is counted and kept, and the command's own rules
run on that state. -/
def Obligations.AcceptedPacketStarts : Prop :=
  ∀ (op : Nat) (body : Flight → State → CmdOut) (p : Pkt) (s : State), taken op p s = true →
    command op body p s = startCmd (flightOf op p s) body (takeCmd p op (wake 0 s)) ∧
    (takeCmd p op (wake 0 s)).port.rxOk = satAdd 32 s.port.rxOk 1 ∧ (wake 0 s).pwr.pstate = .run

/-- The checks of R366 in their order, each with those before it passed: no room on the SPI port sets OVERRUN and changes
nothing else; a packet that carries REPLY changes nothing; an address the port does not accept counts in RX_DROP and changes
nothing else; a payload above 16,384 bytes is answered ST_BAD_LENGTH; reserved FLAGS ST_BAD_PARAM; an opcode that the port state
does not accept ST_NO_CONFIG; a 33rd command not yet replied to ST_BUSY. An answer is none for a broadcast or with NO_REPLY. -/
def Obligations.FailedChecksExecuteNothing : Prop :=
  ∀ (op : Nat) (body : Flight → State → CmdOut) (p : Pkt) (s : State),
    (noRoom s p = true → p.src = .spi → command op body p s = { s with port.overrun := true }) ∧
    (noRoom s p = true → p.src ≠ .spi → command op body p s = s) ∧
    (noRoom s p = false → p.flags.testBit 15 = true → command op body p s = s) ∧
    (noRoom s p = false → p.flags.testBit 15 = false → addrOk s p = false →
      command op body p s = { s with port.rxDrop := satAdd 32 s.port.rxDrop 1 }) ∧
    (noRoom s p = false → p.flags.testBit 15 = false → addrOk s p = true → 16384 < p.payload.length →
      command op body p s = checkFail p op 0x0104 s) ∧
    (noRoom s p = false → p.flags.testBit 15 = false → addrOk s p = true → p.payload.length ≤ 16384 → 16 ≤ p.flags →
      command op body p s = checkFail p op 0x0103 (wake 0 s)) ∧
    (noRoom s p = false → p.flags < 16 → addrOk s p = true → p.payload.length ≤ 16384 → opAccepted s op = false →
      command op body p s = checkFail p op 0x0202 (wake 0 s)) ∧
    (noRoom s p = false → p.flags < 16 → addrOk s p = true → p.payload.length ≤ 16384 → opAccepted s op = true →
      keptOf s p = none → 32 ≤ (outstanding s).length → command op body p s = checkFail p op 0x0501 (wake 0 s)) ∧
    ((isBroadcast p || noReply p) = true → ∀ status, checkFail p op status s = s)

/-- While the port is in the wait state, an opcode whose high byte is none of 0x01, 0x0A, 0x0B, 0x0C and 0x0D is not executed:
with the packet's earlier checks passed it is answered ST_NO_CONFIG, and nothing changes but the reply and the wake. An opcode
with one of these high bytes passes this check. -/
def Obligations.WaitStateExecutesFiveSubsystems : Prop :=
  ∀ (op : Nat) (body : Flight → State → CmdOut) (p : Pkt) (s : State), s.port.wait = true →
    (opAccepted s op = true ↔ op / 256 ∈ [0x01, 0x0A, 0x0B, 0x0C, 0x0D]) ∧
    (op / 256 ∉ [0x01, 0x0A, 0x0B, 0x0C, 0x0D] → noRoom s p = false → p.flags < 16 → addrOk s p = true →
      p.payload.length ≤ 16384 →
      command op body p s = checkFail p op 0x0202 (wake 0 s) ∧
      ((isBroadcast p || noReply p) = false →
        command op body p s = sendReply (mkReply (wake 0 s) p op 0x0202 []) (wake 0 s)))

/-- Every reply packet has VER 0x02, the device's own address even when the command carried 0xFE or 0xFF, the command's SEQ and
OPCODE, FLAGS with bit 15 set and bits 3:0 copied from the command, the status code and BOOT; LEN is the payload's length with
ST_OK and 0 with every other status. The 20 ms bound is timing, which the model leaves out. -/
def Obligations.ReplyHeader : Prop :=
  ∀ (s : State) (p : Pkt) (op status : Nat) (pl : List Byte),
    let b := (mkReply s p op status pl).bytes
    let body := if status = 0 then pl else []
    u8 0 b = 2 ∧ u8 1 b = s.pwr.addr % 256 ∧ u16 2 b = p.seq % 65536 ∧ u16 4 b = op % 65536 ∧ u16 6 b = 0x8000 + p.flags % 16 ∧
    u32 8 b = body.length % 2 ^ 32 ∧ u16 12 b = status % 65536 ∧ u16 14 b = s.led.bootCnt % 65536 ∧
    b.length = body.length + 20 ∧ slice 16 body.length b = body ∧ slice (16 + body.length) 4 b = le 4 (crc32 (b.take (16 + body.length)))

/-- When the packet repeats a kept SEQ of its source: while the kept command waits or runs the answer is ST_PENDING; once it has
completed the kept reply is sent again, unless this packet carries NO_REPLY; with another opcode the answer is ST_BAD_PARAM.
Nothing else changes, and the command is not executed again. The wake of R443 comes before. -/
def Obligations.RepeatsAreAnsweredFromTheKeptCommand : Prop :=
  ∀ (op : Nat) (body : Flight → State → CmdOut) (p : Pkt) (s : State) (k : Kept),
    noRoom s p = false → p.flags < 16 → addrOk s p = true → p.payload.length ≤ 16384 → opAccepted s op = true →
    keptOf s p = some k →
    (k.opcode ≠ op → command op body p s = checkFail p op 0x0103 (wake 0 s)) ∧
    (k.opcode = op → k.reply = none → command op body p s = checkFail p op 0x0001 (wake 0 s)) ∧
    (∀ r, k.opcode = op → k.reply = some r → noReply p = false → command op body p s = sendReply r (wake 0 s)) ∧
    (∀ r, k.opcode = op → k.reply = some r → noReply p = true → command op body p s = wake 0 s)

/-- While no reset that reaches the port is in progress, a transaction returns the status word on its first four bytes, least
significant byte first: bit 0 RX_ROOM (a packet of any length is taken), 1 REPLY_READY, 2 EVENT_PENDING, 3 PORT_READY, 4
WAIT_OPTION, 5 OVERRUN, bits 15:6 zero, bits 31:16 the bytes of the next reply packet; OVERRUN is clear once it has been sent.
During a reset of the port every byte is 0xFF, and the transaction takes nothing. Electrical timing, mode and impedance are
outside the model. -/
def Obligations.SpiStatusWord : Prop :=
  ∀ (type : Byte) (s : State), type ≠ 0x5A → type ≠ 0xA5 →
    (spiDriven s = true → ∃ t, exec (.spiStatus type) s = .next t ∧
      t = { s with port.spiMiso := t.port.spiMiso, port.overrun := false } ∧ t.port.spiMiso = le 4 (spiStatus s) ∧
      (spiStatus s % 2 = 1 ↔ s.port.ready = true ∧ s.port.spiOut.length < 8) ∧
      (spiStatus s / 2 % 2 = 1 ↔ s.port.spiOut ≠ []) ∧
      (spiStatus s / 4 % 2 = 1 ↔ unacked s 0 ≠ []) ∧
      (spiStatus s / 8 % 2 = 1 ↔ s.port.ready = true) ∧
      (spiStatus s / 16 % 2 = 1 ↔ s.port.wait = true) ∧
      (spiStatus s / 32 % 2 = 1 ↔ s.port.overrun = true) ∧
      spiStatus s / 64 % 1024 = 0 ∧
      spiStatus s / 65536 = ((s.port.spiOut.head?.map fun r => r.bytes.length).getD 0)) ∧
    (spiDriven s = false → ∃ t, exec (.spiStatus type) s = .next t ∧
      t = { s with port.spiMiso := [0xFF, 0xFF, 0xFF, 0xFF] })

/-- SPI_WRITE of a whole packet with a correct header, CRC and a defined opcode runs that opcode's command, and one whose CRC is
incomplete counts in RX_DROP; without RX_ROOM it only sets OVERRUN. SPI_READ sends the oldest reply and takes it from the queue
when all its bytes have been clocked out, and leaves it otherwise. A whole datagram runs as an SPI packet does, from its own
source. FRAGMENT_TIMEOUT drops every reassembly 100 ms old, counting each in RX_DROP. KEPT_COMMAND_EXPIRY forgets what has been
kept for 60 s, and nothing else changes. -/
def Obligations.PacketTransportCompletes : Prop :=
  (∀ (mosi : List Byte) (s : State) (body : Flight → State → CmdOut), spiDriven s = true → rxRoom s = true →
    rawLen mosi ≤ 16384 → rawLen mosi + 20 ≤ mosi.length → crcOk (mosi.take (rawLen mosi + 20)) = true → u8 0 mosi = 2 →
    u16 6 mosi < 16 → u16 12 mosi = 0 → u16 14 mosi = 0 → bodyOf (u16 4 mosi) = some body → addrOk s (rawPkt .spi mosi) = true →
    ∃ t, exec (.spiWrite mosi) s = .next t ∧
      t = command (u16 4 mosi) body (rawPkt .spi mosi) (wake 0 { s with port.spiMiso := le 4 (spiStatus s), port.overrun := false })) ∧
  (∀ (mosi : List Byte) (s : State), spiDriven s = true → rxRoom s = true → mosi.length < 20 → rawLen mosi ≤ 16384 →
    exec (.spiWrite mosi) s = .next { s with
      port.spiMiso := le 4 (spiStatus s), port.overrun := false, port.rxDrop := satAdd 32 s.port.rxDrop 1 }) ∧
  (∀ (mosi : List Byte) (s : State), spiDriven s = true → rxRoom s = false →
    exec (.spiWrite mosi) s = .next { s with port.spiMiso := le 4 (spiStatus s), port.overrun := true }) ∧
  (∀ (n : Nat) (r : Reply) (rest : List Reply) (s : State), spiDriven s = true → s.port.spiOut = r :: rest →
    exec (.spiRead n) s = .next { s with
      port.spiMiso := le 4 (spiStatus s) ++ fit n r.bytes, port.overrun := false
      port.spiOut := if r.bytes.length ≤ n then rest else r :: rest }) ∧
  (∀ (src : Source) (b : List Byte) (s : State) (body : Flight → State → CmdOut), s.port.ready = true →
    rawLen b ≤ 16384 → b.length = rawLen b + 20 → crcOk b = true → u8 0 b = 2 → u16 6 b < 16 → u16 12 b = 0 → u16 14 b = 0 →
    bodyOf (u16 4 b) = some body → addrOk s (rawPkt src b) = true →
    ∃ t, exec (.rejectedPacket (.datagram src b none)) s = .next t ∧ t = command (u16 4 b) body (rawPkt src b) (wake 0 s)) ∧
  (∀ (src : Source) (b : List Byte) (s : State), s.port.ready = true → 16 ≤ b.length → b.length ≠ rawLen b + 20 →
    u16 6 b < 32768 → addrOk s (rawPkt src b) = true →
    exec (.rejectedPacket (.datagram src b none)) s = .next (checkFail (rawPkt src b) (u16 4 b) 0x0104 s)) ∧
  (∀ s : State, ∃ t, exec .fragmentTimeout s = .next t ∧ t = { s with port.reasm := t.port.reasm, port.rxDrop := t.port.rxDrop } ∧
    (∀ r, r ∈ t.port.reasm ↔ r ∈ s.port.reasm ∧ s.clk.mono < r.2 + 100000) ∧
    t.port.rxDrop = satAdd 32 s.port.rxDrop (s.port.reasm.length - t.port.reasm.length)) ∧
  (∀ s : State, ∃ t, exec .keptCommandExpiry s = .next t ∧ t = { s with port.kept := t.port.kept } ∧
    (∀ k, k ∈ t.port.kept ↔ k ∈ s.port.kept ∧ s.clk.mono < k.t0 + 60000000))

/-- A SYS_INFO, SYS_STATUS, EVT_STATE or MBX_STATUS the port takes is answered ST_OK with a payload of 40, 104, 32 or 392 bytes
and changes nothing but the port's own bookkeeping (after the wake); SYS_INFO's payload is the layout of R390 byte for byte.
BLK_READ of a copy the device holds is answered with the copy's state, write count, time of commit and bytes. BLK_WRITE of a
block that passes its checks stores the copy with its identifier's write count risen by 1, leaving every committed copy as it
was. NET_COMMIT with a valid stored network block is answered and waits to be applied. -/
def Obligations.IdentityAndBlockCommandsComplete : Prop :=
  (∀ (p : Pkt) (s : State), taken 0x0101 p s = true → p.payload = [] → ∃ t, exec (.sysInfo p) s = .next t ∧ OnlyReplied s t ∧
    Answered 0x0101 p 0 (le 8 Config.serial.toNat ++ s.member.name ++ le 4 (activeSet s).fwVer ++ le 4 (activeSet s).metVer ++
      be 6 Config.mac.toNat ++ le 1 s.pwr.addr ++ le 1 s.pwr.addrSrc ++ le 4 s.led.bootCnt ++ zeros 4) t) ∧
  (∀ (p : Pkt) (s : State), taken 0x0102 p s = true → p.payload = [] → ∃ t pl, exec (.sysStatus p) s = .next t ∧ OnlyReplied s t ∧
    Answered 0x0102 p 0 pl t ∧ pl.length = 104 ∧ slice 0 8 pl = le 8 s.clk.time ∧ slice 12 4 pl = le 4 s.led.bootCnt ∧
    slice 16 4 pl = le 4 (satAdd 32 s.port.rxOk 1) ∧ slice 20 4 pl = le 4 s.port.rxDrop) ∧
  (∀ (p : Pkt) (s : State), taken 0x0107 p s = true → p.payload = [] → ∃ t pl, exec (.evtState p) s = .next t ∧ OnlyReplied s t ∧
    Answered 0x0107 p 0 pl t ∧ pl.length = 32 ∧ slice 0 8 pl = le 8 s.clk.time ∧ slice 8 16 pl = le 16 (activeBits s)) ∧
  (∀ (p : Pkt) (s : State), taken 0x0108 p s = true → p.payload = [] → ∃ t pl, exec (.mbxStatus p) s = .next t ∧ OnlyReplied s t ∧
    Answered 0x0108 p 0 pl t ∧ pl.length = 392 ∧
    ∀ k : Fin 32, slice (8 + 12 * k.1) 2 pl = le 2 (bindOf s k.1) ∧ slice (14 + 12 * k.1) 2 pl = le 2 (vget s.mbx k).refused) ∧
  (∀ (p : Pkt) (s : State) (id sel : Nat) (c : BlkCopy), taken 0x010A p s = true → p.payload = le 2 id ++ le 1 sel ++ [0] → id < 65536 →
    sel ≤ 1 → (blockSize id).isSome = true → blockPresent s id = true →
    (if sel = 0 then committedCopy s id else storedCopy s id) = some c →
    ∃ t, exec (.blkRead p) s = .next t ∧ OnlyReplied s t ∧
      Answered 0x010A p 0 (le 1 (blkState s c) ++ zeros 3 ++ le 4 c.wcount ++ le 8 (if sel = 0 then c.tCommit else 0) ++ c.bytes) t) ∧
  (∀ (p : Pkt) (s : State) (id : Nat) (b : List Byte), taken 0x0109 p s = true → p.payload = le 2 id ++ [0, 0] ++ b → id < 65536 →
    blockPresent s id = true → blockSize id = some b.length → u16 0 b = id → u16 2 b = formatOf s id → crcOk b = true →
    blockRules s id b = true →
    ∃ t, exec (.blkWrite p) s = .next t ∧
      t = { wake 0 s with port := t.port, key.grants := t.key.grants, blk.stored := t.blk.stored, blk.counts := t.blk.counts } ∧
      storedCopy t id = some { id, bytes := b, wcount := (((s.blk.counts.find? fun x => x.1 == id).map (·.2)).getD 0 + 1) % 2 ^ 32 } ∧
      (∀ other, other ≠ id → storedCopy t other = storedCopy s other) ∧
      ∃ pl, Answered 0x0109 p 0 pl t ∧ slice 4 4 pl = le 4 (u32 (b.length - 4) b)) ∧
  (∀ (p : Pkt) (s : State) (cs : List BlkCopy), taken 0x0103 p s = true → p.payload = [0, 0, 0, 0] → s.port.wait = false →
    s.port.netPend = none → storedAll s [0x0110] = some cs → (∀ c ∈ cs, c.byHost = true) →
    ∃ t, exec (.netCommit p) s = .next t ∧
      t = { wake 0 s with port := t.port, key.grants := t.key.grants, blk.taken := t.blk.taken } ∧
      Answered 0x0103 p 0 (le 8 s.clk.time) t ∧ t.port.netPend.map (·.pkt) = some p ∧ t.port.netApplied = s.port.netApplied)

/-- RING_TEST_SEND of a manager sends a TEST frame out of each port. RING_TEST_RECEIVE at a member forwards the frame, and a
member that had lost its manager has it again, with ETH2 unblocked. At a manager an own TEST frame ends the count of missing
ones on its port and, returning on ETH1, counts as an interval; with the 50th interval while the ring is not closed the ring
is closed, ETH2 blocked and FLUSH sent out of both ports; a TEST frame of another manager blocks ETH2 and sets DUAL_MANAGER.
RING_TEST_MISSING at a member that has seen no TEST frame for 10 ms blocks ETH2; at a manager it counts, and the second in a
row on a port opens a closed ring. LINK_DOWN at a manager opens a closed ring at once; elsewhere it is passed on. An opened
ring has ETH2 unblocked and the MAC table clear, and FLUSH sent out of both ports. Each change of the ring's state raises E8
with the state and the port. FLUSH at a member clears the MAC table and is passed on, and on a line is passed on.
ETH_LINK_CHANGE takes the new level, and a member that loses a link sends LINK_DOWN out of the other port. MAC_AGEING forgets
addresses not seen for 300 s. FRAME_FORWARDING learns the source address, and passes the frame to the other port unless it is
for this device, lies behind the port it came from, or the other port is blocked. NET_SERVICE_REQUEST answers an echo with its
data, ARP with the device's MAC and IPv4 addresses and neighbour discovery with its MAC address; in the wait state and without
a committed network block the IPv4 address is 169.254.100.(address + 1). DHCPV4_MESSAGE takes or gives back the address.
NET_COMMIT_APPLY commits the copies the command took and puts the network block in effect; where RING does not change the ring
goes on as it was, and where the PTP role and domain do not, PTP does. -/
def Obligations.SwitchAndRingComplete : Prop :=
  (∀ s : State, switchUp s = true → netRing (netB s) = 2 → exec .ringTestSend s = .next { s with
    port.out := { port := 2, kind := 3 } :: { port := 1, kind := 3 } :: s.port.out }) ∧
  (∀ (st : RingSt) (port : Nat) (s : State), s.port.ring ≠ st →
    setRing st port s = pulse 8 (prm [(1, ringCode st), (1, port)]) { s with port.ring := st }) ∧
  (∀ (k : Fin 2) (own : Bool) (s : State), switchUp s = true → netRing (netB s) = 1 →
    exec (.ringTestReceive k own) s = .next (emit { port := 2 - k.1, kind := 3 }
      (if s.port.ring = .memberNoManager then setRing .closed (k.1 + 1) { s with port.testSeenAt := s.clk.mono, port.eth2Blk := false }
       else { s with port.testSeenAt := s.clk.mono }))) ∧
  (∀ s : State, switchUp s = true → netRing (netB s) = 2 →
    (exec (.ringTestReceive 1 true) s = .next (if s.port.ring ≠ .closed ∧ 50 ≤ s.port.testRet then
        sendFlush (setRing .closed 2 { s with port.eth2Blk := true, port.testMiss := vset s.port.testMiss 1 0 })
      else { s with port.testMiss := vset s.port.testMiss 1 0 })) ∧
    (s.port.ring ≠ .closed → 49 ≤ s.port.testRet → exec (.ringTestReceive 0 true) s = .next (sendFlush (setRing .closed 1 { s with
      port.eth2Blk := true, port.testMiss := vset s.port.testMiss 0 0, port.testRet := s.port.testRet + 1 }))) ∧
    ((s.port.ring = .closed ∨ s.port.testRet < 49) → exec (.ringTestReceive 0 true) s = .next { s with
      port.testMiss := vset s.port.testMiss 0 0, port.testRet := s.port.testRet + 1 }) ∧
    ∀ k : Fin 2, exec (.ringTestReceive k false) s = .next (setRing .dual (k.1 + 1) { s with port.eth2Blk := true, port.testRet := 0 })) ∧
  (∀ s : State, sendFlush s = { s with port.out := { port := 2, kind := 5 } :: { port := 1, kind := 5 } :: s.port.out }) ∧
  (∀ (k : Fin 2) (s : State), switchUp s = true → netRing (netB s) = 1 → s.port.ring ≠ .memberNoManager →
    s.port.testSeenAt + 10000 ≤ s.clk.mono →
    exec (.ringTestMissing k) s = .next (setRing .memberNoManager (k.1 + 1) { s with port.eth2Blk := true })) ∧
  (∀ (k : Fin 2) (s : State), switchUp s = true → netRing (netB s) = 2 →
    let miss := vset s.port.testMiss k (vget s.port.testMiss k + 1)
    (vget s.port.testMiss k = 0 ∨ s.port.ring ≠ .closed →
      exec (.ringTestMissing k) s = .next { s with port.testMiss := miss, port.testRet := 0 }) ∧
    (1 ≤ vget s.port.testMiss k → s.port.ring = .closed → exec (.ringTestMissing k) s = .next (sendFlush
      { setRing .opened (k.1 + 1) { s with port.testMiss := miss, port.testRet := 0 } with
        port.eth2Blk := false, port.macs := [], port.testRet := 0 }))) ∧
  (∀ (k : Fin 2) (s : State), switchUp s = true →
    (netRing (netB s) = 2 → s.port.ring = .closed → exec (.linkDown k) s = .next (sendFlush
      { setRing .opened (k.1 + 1) s with port.eth2Blk := false, port.macs := [], port.testRet := 0 })) ∧
    (netRing (netB s) ≠ 2 → exec (.linkDown k) s = .next { s with port.out := { port := 2 - k.1, kind := 4 } :: s.port.out })) ∧
  (∀ (k : Fin 2) (s : State), switchUp s = true →
    (netRing (netB s) = 1 → exec (.flush k) s = .next { s with
      port.macs := [], port.out := { port := 2 - k.1, kind := 5 } :: s.port.out }) ∧
    (netRing (netB s) = 0 → exec (.flush k) s = .next { s with port.out := { port := 2 - k.1, kind := 5 } :: s.port.out })) ∧
  (∀ (k : Fin 2) (up : Bool) (s : State), switchUp s = true → vget s.port.link k ≠ up →
    exec (.ethLinkChange k up) s = .next { s with
      port.link := vset s.port.link k up
      port.out := if up = false ∧ netRing (netB s) = 1 then { port := 2 - k.1, kind := 4 } :: s.port.out else s.port.out }) ∧
  (∀ s : State, ∃ t, exec .macAgeing s = .next t ∧ t = { s with port.macs := t.port.macs } ∧
    ∀ m, m ∈ t.port.macs ↔ m ∈ s.port.macs ∧ s.clk.mono < m.t0 + 300000000) ∧
  (∀ (k : Fin 2) (src dst len : Nat) (s : State), switchUp s = true → len ≤ 1522 → (s.port.eth2Blk = true → k = 0) →
    ∃ t, exec (.frameForwarding k src dst len) s = .next t ∧ t = { s with port.macs := t.port.macs, port.out := t.port.out } ∧
      t.port.macs = ({ mac := src, port := k.1 + 1, t0 := s.clk.mono } :: s.port.macs.filter fun x => !(x.mac == src)).take 1024 ∧
      t.port.out = (if dst = Config.mac.toNat ∨ s.port.eth2Blk = true ∨ (∃ x ∈ t.port.macs, x.mac = dst ∧ x.port = k.1 + 1) then s.port.out
        else { port := 2 - k.1, kind := 8, dst } :: s.port.out)) ∧
  (∀ (dst a : Nat) (data : List Byte) (s : State), s.port.ready = true → ipv4Of s = some a →
    exec (.netServiceRequest 0 dst data) s = .next { s with
      port.out := { kind := 6, dst, data := be 6 Config.mac.toNat ++ be 4 a } :: s.port.out } ∧
    exec (.netServiceRequest 1 dst data) s = .next { s with port.out := { kind := 6, dst, data } :: s.port.out }) ∧
  (∀ (dst : Nat) (data : List Byte) (s : State), s.port.ready = true →
    exec (.netServiceRequest 2 dst data) s = .next { s with
      port.out := { kind := 6, dst, data := be 6 Config.mac.toNat } :: s.port.out } ∧
    exec (.netServiceRequest 3 dst data) s = .next { s with port.out := { kind := 6, dst, data } :: s.port.out }) ∧
  (∀ s : State, s.port.wait = true ∨ s.port.netApplied = none →
    ipv4Of s = some (169 * 2 ^ 24 + 254 * 2 ^ 16 + 100 * 2 ^ 8 + s.pwr.addr + 1)) ∧
  (∀ (ip : Nat) (ack : Bool) (s : State), s.port.ready = true → ip4Mode (netB s) = 2 →
    exec (.dhcpv4Message ip ack) s = .next { s with port.dhcp := if ack then some ip else none }) ∧
  (∀ (f : Flight) (s : State), s.port.netPend = some f → ∃ t, exec .netCommitApply s = .next t ∧
    t = { s with blk := t.blk, port := t.port, ev := t.ev, led := t.led, p100 := t.p100 } ∧ t.port.netPend = none ∧
    t.blk = (untake f (commitCopies (takenBy s f) s)).blk ∧ t.port.netApplied = committed t 0x0110 ∧
    t.port.dhcp = (if ip4Mode (netB t) = 2 then s.port.dhcp else none) ∧
    (netRing (netB t) = netRing (netB s) → t.port.ring = s.port.ring ∧ t.port.eth2Blk = s.port.eth2Blk ∧ t.port.testMiss = s.port.testMiss) ∧
    (ptpRole (netB t) = ptpRole (netB s) → u8 37 (netB t) = u8 37 (netB s) → t.port.ptp = s.port.ptp ∧ t.port.gmId = s.port.gmId))

/-- A PTP announce takes the grandmaster, the UTC offset and the state the decision leads to: a slave of the same grandmaster
stays what it is, and only a master-capable or boundary clock becomes master or passive. Each change of the PTP state raises
E9 with the state and the grandmaster. A sync in UNCALIBRATED, SLAVE or HOLDOVER makes the state SLAVE and takes the offset,
and corrects the device time towards the PTP time: where time is valid, by a slew if the change is at most 2 s, otherwise by a
step if PTP_STEP is 1 and not at all if it is 0; where time is invalid, by a step whatever the size and whatever PTP_STEP
holds. After a step the device time is the new time, is valid, and is not slewed. A delay measurement in SLAVE or UNCALIBRATED
takes the offset. Three announce intervals without an announce, or as long without a sync, turn SLAVE into HOLDOVER, and
nothing else changes but E9: the device time stays as it is. At the sync and announce intervals a boundary clock, and a
master-capable clock that is master, sends its message. -/
def Obligations.PtpCompletes : Prop :=
  (∀ (st : PtpSt) (s : State), setPtp st s = if s.port.ptp = st then s
    else pulse 9 (prm [(1, ptpCode st), (8, s.port.gmId)]) { s with port.ptp := st }) ∧
  (∀ (gm : Nat) (utc : Int) (d : Nat) (s : State), s.port.ready = true → ptpRole (netB s) ≠ 0 →
    exec (.ptpMessage (.announce gm utc d)) s =
      .next (setPtp (ptpDecide s gm d) { s with port.lastAnn := s.clk.mono, port.gmId := gm, port.utcOfs := utc })) ∧
  (∀ (gm d : Nat) (s : State), ptpRole (netB s) ≠ 2 → ptpRole (netB s) ≠ 3 → ptpDecide s gm d ≠ .master ∧ ptpDecide s gm d ≠ .passive) ∧
  (∀ (gm : Nat) (s : State), (s.port.ptp = .slave ∨ s.port.ptp = .uncalibrated) → s.port.gmId = gm → ptpDecide s gm 2 = s.port.ptp) ∧
  (∀ (ofs : Int) (ptpUs : Nat) (s : State), s.port.ready = true → ptpRole (netB s) ≠ 0 →
    s.port.ptp ∈ [PtpSt.uncalibrated, .slave, .holdover] →
    exec (.ptpMessage (.sync ofs ptpUs)) s =
      .next (ptpCorrect ptpUs (setPtp .slave { s with port.lastSync := s.clk.mono, port.ptpOffset := ofs }))) ∧
  (∀ (ptpUs : Nat) (s : State),
    let target := ((ptpUs : Int) - s.port.utcOfs * 1000000 - 946684800000000).toNat
    (s.clk.timeValid = true → ((target : Int) - s.clk.time).natAbs ≤ 2000000 →
      ptpCorrect ptpUs s = { s with clk.slew := (target : Int) - s.clk.time, clk.slewAcc := 0 }) ∧
    (s.clk.timeValid = true → 2000000 < ((target : Int) - s.clk.time).natAbs →
      ptpCorrect ptpUs s = if ptpStep (bilB s) then timeStep target 0 2 s else s) ∧
    (s.clk.timeValid = false → ptpCorrect ptpUs s = timeStep target 2 2 s)) ∧
  (∀ (new source origin : Nat) (s : State), (timeStep new source origin s).clk.time = new ∧
    (timeStep new source origin s).clk.timeValid = true ∧ (timeStep new source origin s).clk.slew = 0) ∧
  (∀ (ofs : Int) (s : State), s.port.ready = true → ptpRole (netB s) ≠ 0 → s.port.ptp = .slave ∨ s.port.ptp = .uncalibrated →
    exec (.ptpMessage (.delay ofs)) s = .next { s with port.ptpOffset := ofs }) ∧
  (∀ s : State, s.port.ptp = .slave → s.port.lastAnn + 3000000 ≤ s.clk.mono ∨ s.port.lastSync + 3000000 ≤ s.clk.mono →
    exec .ptpAnnounceTimeout s = .next (pulse 9 (prm [(1, ptpCode .holdover), (8, s.port.gmId)]) { s with port.ptp := .holdover })) ∧
  (∀ (announce : Bool) (s : State), s.port.ready = true → ptpRole (netB s) = 3 ∨ (ptpRole (netB s) = 2 ∧ s.port.ptp = .master) →
    exec (.syncInterval announce) s = .next { s with port.out := { kind := 7, data := [if announce then 1 else 0] } :: s.port.out })

/-- EVT_SUBSCRIBE of any sink, with FAMILY 0, 1 or 0xFF as its sink allows, replies NEXT, the entry number the next event
receives, which becomes the acknowledgement point, with the mask and destination given, or nothing subscribed for FAMILY 0xFF.
EVT_READ of a subscribed sink moves the acknowledgement point up to ACK, never back, answers with N, LOST, NEXT and the sink's
oldest unacknowledged entries, at most COUNT, and LOST starts anew. EVT_NOTIFY with a new unacknowledged entry, and
EVT_NOTIFY_RESEND 100 ms after a notification not answered, send a packet of OPCODE 0x0180, FLAGS 0x8000, the sink's SEQ and
up to 32 entries from the acknowledgement point to the sink's destination, and the sink's SEQ rises by 1. PARTING_FENCE with
T_FENCE 0 (the next 2 ms grid instant) or from receipt to 60 s later, while time is valid and no fence runs, makes T_FENCE a
boundary of every meter that runs, raises FENCE_NO and waits for its reply. PARTING_FENCE_COMPLETE freezes the meters that
have no samples once T_FENCE has come, and replies once the snapshot is complete and no identity lags; PARTING_FENCE_TIMEOUT
replies 1 s after the snapshot although some lag, with INCOMPLETE set and their identities. The reply holds T_FENCE, FENCE_NO
and the registers of every meter, and ends the fence. -/
def Obligations.SinksAndFenceComplete : Prop :=
  (∀ (p : Pkt) (s : State) (k : Fin 5) (fam : Nat), taken 0x0104 p s = true → p.payload.length = 36 → u8 0 p.payload = k.1 →
    u8 1 p.payload = fam → fam ≤ 1 ∨ fam = 0xFF → (k = 0 → u16 2 p.payload = 0 ∧ allZero (slice 4 16 p.payload) = true ∧ fam ≠ 1) →
    (fam = 0 → allZero ((slice 4 16 p.payload).drop 4) = true) →
    let u := begun 0x0104 p s
    let sink : Sink := if fam = 0xFF then { ack := u.led.logNext } else
      { on := true, family := fam, port := u16 2 p.payload, ip := unle (slice 4 16 p.payload)
        mask := BitVec.ofNat 128 (fld 16 20 p.payload), ack := u.led.logNext }
    exec (.evtSubscribe p) s = .next (finish (flightOf 0x0104 p s) (le 4 u.led.logNext) { u with
      led.sinks := vset u.led.sinks k sink, port.notify := vset u.port.notify k { seq := (vget u.port.notify k).seq } })) ∧
  (∀ (p : Pkt) (s : State) (k : Fin 5), taken 0x0105 p s = true → p.payload.length = 8 → u8 0 p.payload = k.1 → u8 1 p.payload = 0 →
    u16 2 p.payload ≤ 128 →
    let u := begun 0x0105 p s
    let x := vget u.led.sinks k
    u32 4 p.payload ≤ u.led.logNext → x.on = true → ∃ v, exec (.evtRead p) s =
        .next (finish (flightOf 0x0105 p s) (sinkPayload v k x.lost ((unacked v k).take (u16 2 p.payload))) v) ∧
      v = { u with led.sinks := vset u.led.sinks k { x with ack := max x.ack (u32 4 p.payload), lost := 0 }, port.notify := v.port.notify } ∧
      (u32 4 p.payload ≤ x.ack → v.port.notify = u.port.notify)) ∧
  (∀ (s : State) (k : Fin 5) (lost : Nat) (es : List LogEnt), ∃ nxt,
    sinkPayload s k lost es = le 2 es.length ++ zeros 2 ++ le 4 lost ++ le 4 nxt ++ es.flatMap LogEnt.bytes ∧
    (∀ x, es.getLast? = some x → nxt = (x.no + 1) % 2 ^ 32) ∧
    (es = [] → nxt = ((unacked s k).head?.map (·.no)).getD s.led.logNext)) ∧
  (∀ (k : Fin 4) (s : State), s.port.ready = true →
    ((∃ x ∈ unacked s k.succ, (vget s.port.notify k.succ).upto ≤ x.no) → exec (.evtNotify k) s = .next (notifySend k.succ s)) ∧
    (unacked s k.succ ≠ [] → (∃ t0, (vget s.port.notify k.succ).sentAt = some t0 ∧ t0 + 100000 ≤ s.clk.mono) →
      exec (.evtNotifyResend k) s = .next (notifySend k.succ s))) ∧
  (∀ (k : Fin 5) (s : State), ∃ r, notifySend k s = { s with
      port.out := { kind := 2, dst := (vget s.led.sinks k).ip * 2 ^ 16 + (vget s.led.sinks k).port, data := r } :: s.port.out
      port.notify := vset s.port.notify k { seq := ((vget s.port.notify k).seq + 1) % 2 ^ 16, sentAt := some s.clk.mono
                                            fst0 := ((unacked s k).head?.map (·.no)).getD 0, upto := s.led.logNext } } ∧
    u16 4 r = 0x0180 ∧ u16 6 r = 0x8000 ∧ u16 2 r = (vget s.port.notify k).seq % 65536 ∧
    slice 16 (r.length - 20) r = sinkPayload s k (vget s.led.sinks k).lost ((unacked s k).take 32)) ∧
  (∀ (p : Pkt) (s : State) (tf : Nat), taken 0x0106 p s = true → p.payload = le 8 tf → tf < 2 ^ 64 →
    tf = 0 ∨ (s.clk.time ≤ tf ∧ tf ≤ s.clk.time + 60000000) → s.clk.timeValid = true → s.port.fence = none →
    let u := begun 0x0106 p s
    let t := if tf = 0 then (s.clk.time / 2000 + 1) * 2000 else tf
    exec (.partingFence p) s = .next (fenceSplit t { u with
      port.fence := some { flight := flightOf 0x0106 p s, t }, led.fenceNo := (u.led.fenceNo + 1) % 2 ^ 32 })) ∧
  (∀ (f : Fence) (marks : Vector Nat 16) (s : State), (fenceIdle s).port.fence = some f →
    let u := { fenceIdle s with port.marks := marks }
    (f.doneAt ≠ none → lagging u f.t marks = 0 → exec (.partingFenceComplete marks) s = .next (fenceReply f 0 u)) ∧
    (f.doneAt = none ∨ lagging u f.t marks ≠ 0 → exec (.partingFenceComplete marks) s = .next u)) ∧
  (∀ (f : Fence) (t0 : Nat) (marks : Vector Nat 16) (s : State), s.port.fence = some f → f.doneAt = some t0 → t0 + 1000000 ≤ s.clk.mono →
    lagging s f.t marks ≠ 0 →
    exec (.partingFenceTimeout marks) s = .next (fenceReply f (lagging s f.t marks) { s with port.marks := marks })) ∧
  (∀ (f : Fence) (lag : Nat) (s : State), fenceReply f lag s = finish f.flight
    (le 8 f.t ++ le 2 (if lag = 0 then 0 else 1) ++ le 2 lag ++ le 4 s.led.fenceNo ++ (List.finRange 9).flatMap fun m =>
      let r := (vget f.regs m).getD (List.replicate 108 0, 0)
      r.1.flatMap (le 8) ++ le 4 r.2 ++ zeros 4) { s with port.fence := none })

/-- On a bound mailbox with PENDING 0 the bound sender's RING with COUNT 1 to 16 sets PENDING, stores COUNT, clears TAKEN, raises
the receiver's interrupt and wakes its domain, and its write of a data word stores the word. The bound receiver's ACK while
PENDING is 1 clears PENDING, stores CODE, sets TAKEN and ends E14 of the mailbox. Any other access changes nothing but
REFUSED, which counts it, and raises E13. MAILBOX_PENDING_TIMEOUT marks a message pending for 500 ms before a receiver that is
powered and out of reset (E14) and withdraws nothing. EVENT_COALESCE_FLUSH enters each coalesced event whose domain's queue
has room once, with FLAGS bit 1 and the count in PARAM bytes 12 to 15, raises E15, and leaves the others coalesced. -/
def Obligations.MailboxesComplete : Prop :=
  (∀ (k : Fin 32) (who count : Nat) (s : State), gridRuns s = true → isBound s k.1 = true → bits (bindOf s k.1) 3 0 = who →
    (vget s.mbx k).pending = false → 1 ≤ count → count ≤ 16 → exec (.mailboxRing k who count) s =
      .next (wakeFor (bits (bindOf s k.1) 7 4) 1 { s with
        mbx := vset s.mbx k { vget s.mbx k with pending := true, count, taken := false, irq := true, since := s.clk.mono } })) ∧
  (∀ (k : Fin 32) (who : Nat) (w : Fin 16) (v : BitVec 32) (s : State), gridRuns s = true → isBound s k.1 = true →
    bits (bindOf s k.1) 3 0 = who → (vget s.mbx k).pending = false →
    exec (.registerWrite k who w v) s = .next { s with mbx := vset s.mbx k { vget s.mbx k with w := vset (vget s.mbx k).w w v } }) ∧
  (∀ (k : Fin 32) (who code : Nat) (s : State), gridRuns s = true → isBound s k.1 = true → bits (bindOf s k.1) 7 4 = who →
    (vget s.mbx k).pending = true → exec (.mailboxAck k who code) s = .next (level 14 k.1 false [] { s with
      mbx := vset s.mbx k { vget s.mbx k with pending := false, code := code % 65536, taken := true, irq := false, e14 := false } })) ∧
  (∀ (k : Fin 32) (s : State), gridRuns s = true →
    let ignored := fun (i : Instr) => exec i s = .next (pulse 13 [] { s with
      mbx := vset s.mbx k { vget s.mbx k with refused := satAdd 16 (vget s.mbx k).refused 1 } })
    (∀ who count, isBound s k.1 = false ∨ bits (bindOf s k.1) 3 0 ≠ who ∨ (vget s.mbx k).pending = true ∨ count = 0 ∨ 16 < count →
      ignored (.mailboxRing k who count)) ∧
    (∀ who w v, isBound s k.1 = false ∨ bits (bindOf s k.1) 3 0 ≠ who ∨ (vget s.mbx k).pending = true → ignored (.registerWrite k who w v)) ∧
    (∀ who code, isBound s k.1 = false ∨ bits (bindOf s k.1) 7 4 ≠ who ∨ (vget s.mbx k).pending = false → ignored (.mailboxAck k who code))) ∧
  (∀ (k : Fin 32) (s : State), (vget s.mbx k).pending = true → (vget s.mbx k).e14 = false → (vget s.mbx k).since + 500000 ≤ s.clk.mono →
    rxState s (bits (bindOf s k.1) 7 4) = 0 → exec (.mailboxPendingTimeout k) s =
      .next (level 14 k.1 true [] { s with mbx := vset s.mbx k { vget s.mbx k with e14 := true } })) ∧
  (∀ s : State,
    let fits := fun (c : Coal) => decide (vat s.ev.used c.origin 0 < 32)
    s.ev.coal.filter fits ≠ [] → exec .eventCoalesceFlush s = .next (pulse 15 []
      ((s.ev.coal.filter fits).foldl (fun t c => coalEntry c t) { s with ev.coal := s.ev.coal.filter fun c => !(fits c) }))) ∧
  (∀ (c : Coal) (s : State), coalEntry c s = logEntry c.ev (b2n c.lvl + 2) (fit 12 c.param ++ le 4 c.count)
    { s with ev.used := vatMod s.ev.used c.origin (· + 1) }) ∧
  (∀ (c : Coal) (s : State), c.origin < 16 → c.ev ≠ 10 → c.ev ≠ 15 → s.ev.coal = [c] → (∀ o : Fin 16, vget s.ev.used o = 0) →
    ∃ t, exec .eventCoalesceFlush s = .next t ∧ OnlyEvents s t ∧ t.ev.coal = [] ∧
      ∃ x ∈ t.led.log, x.ev = c.ev ∧ x.flags = (if c.lvl then 3 else 2) ∧ x.param = fit 16 (fit 12 c.param ++ le 4 c.count))

/-! ## Metering front end, detectors and energy engine -/

/-- ROTATION_SLOT_START, from 10 s after metering becomes valid, ends a slot that stands; then a requalified modulator returns, or
an inserted slot runs, or the next slot, and the slot number goes on, modulo 72, the first full rotation ending after slot 71.
A spare that serves no channel and passes its calibration has PASSES risen by 1, takes the passing set (the last good one,
marked FROZEN, while calibration is frozen) and is COLD and overdue no longer; one that fails is faulty with PASSES 0.
MODULATOR_FAULT with evidence R38 accepts marks the modulator faulty: a faulty spare makes its group degraded; the spare takes
over the channel of a serving modulator, or of the one in rotation, in a group not yet degraded, which becomes degraded; in a
degraded group E17 reports the channel. MODULATOR_OVERDUE sets the overdue mark 600 s after the last passing calibration of a
spare or serving modulator, with E17 and OVERDUE. BITSTREAM_STUCK, _RECOVER and _OVERRANGE set and clear the channel's fault
marks with E19. CROSS_CHECK_WINDOW after 1 s starts the next window, and, unless both values are below 1 %, flags XCHK and
raises E20 at the third mismatching window in a row and clears both when a window agrees. MTR_COMMIT takes the stored group
blocks and waits; MTR_COMMIT_APPLY, at a 2 ms boundary with no named spare in rotation, puts them in effect and answers
T_APPLIED. MTR_CAL_STATUS answers the sets, role, serving channel, flags and PASSES of a modulator. MTR_REQUALIFY clears the
verdict of a faulty modulator whose last three calibrations passed: a spare becomes idle, one whose channel the spare serves
returns in the next slot, and one whose channel had none returns at once. -/
def Obligations.FrontEndCompletes : Prop :=
  (∀ (x : SlotMeas) (s : State), s.fe.valid = true → s.fe.validAt + 10000000 ≤ s.clk.mono →
    let u := resumeSlot s
    (s.fe.slotAt = none → u = s) ∧
    (∀ i rest, u.fe.back = i :: rest → exec (.rotationSlotStart x) s = .next (returnMod i x { u with fe.back := rest })) ∧
    (∀ i rest, u.fe.back = [] → u.fe.extra = i :: rest → exec (.rotationSlotStart x) s = .next (slotOf i x { u with fe.extra := rest })) ∧
    (u.fe.back = [] → u.fe.extra = [] → ∃ t, exec (.rotationSlotStart x) s = .next t ∧
      t = { s with fe := t.fe, nvFe := t.nvFe, ev := t.ev, led := t.led, p100 := t.p100 } ∧ t.fe.slot = (u.fe.slot + 1) % 72 ∧
      (u.fe.slot = 71 → t.fe.firstDone = true) ∧
      (∀ g, u.fe.slot = 63 + g → g < 9 → hasGroup s g = true → vat u.nvFe.subst g none = none → x.cut = 0 →
        let frozen := u.fe.frozen || !(calibrate x).2.2.2
        let old := vat u.fe.mods (8 * g + 7) {}
        (calOkay (8 * g + 7) x frozen = true →
          (vat t.nvFe.mods (8 * g + 7) {}).passes = satAdd 8 (vat u.nvFe.mods (8 * g + 7) {}).passes 1 ∧
          vat t.fe.mods (8 * g + 7) {} = { old with
            prev := old.cur, cur := passedCoef frozen old.cur x s.clk.time, cold := false, lastPass := some s.clk.mono, overdue := false }) ∧
        (calOkay (8 * g + 7) x frozen = false → (vat t.nvFe.mods (8 * g + 7) {}).passes = 0 ∧ isFaulty t (8 * g + 7) = true)))) ∧
  (∀ (m : Fin 72) (e : ModEvidence) (s : State), s.fe.valid = true → hasGroup s (m.1 / 8) = true → evidenceHolds s m.1 e = true →
    let g := m.1 / 8
    let c := m.1 % 8
    ∃ t, exec (.modulatorFault m e) s = .next t ∧ t = { s with fe := t.fe, nvFe := t.nvFe, ev := t.ev, led := t.led, p100 := t.p100 } ∧
      (vget t.nvFe.mods m).faulty = true ∧ (isFaulty s m.1 = true → t = s) ∧
      (isFaulty s m.1 = false → c = 7 → isDegraded t g = true ∧ vat t.nvFe.subst g none = vat s.nvFe.subst g none) ∧
      (isFaulty s m.1 = false → c ≠ 7 → vat s.fe.spareBusy g none = some c → isDegraded t g = true ∧ vat t.nvFe.subst g none = some c) ∧
      (isFaulty s m.1 = false → vat s.fe.spareBusy g none ≠ some c → vat s.nvFe.subst g none ≠ some c → internalEn s g c = true →
        (isDegraded s g = false → isDegraded t g = true ∧ vat t.nvFe.subst g none = some c) ∧
        (isDegraded s g = true → t = e17 m.1 2 (e17 m.1 0 (modNvMod m.1 (fun x => { x with faulty := true, passes := 0 }) s))))) ∧
  (∀ (m : Fin 72) (s : State), s.fe.firstDone = true → s.fe.frozen = false → isDegraded s (m.1 / 8) = false →
    (vget s.fe.mods m).overdue = false → (∃ t0, (vget s.fe.mods m).lastPass = some t0 ∧ t0 + 600000000 ≤ s.clk.mono) →
    m.1 % 8 = 7 ∨ internalEn s (m.1 / 8) (m.1 % 8) = true →
    exec (.modulatorOverdue m) s = .next (e17 m.1 1 { s with fe.mods := vset s.fe.mods m { vget s.fe.mods m with overdue := true } })) ∧
  (∀ (c : Fin 72) (s : State),
    (∀ periods, extEn s c.1 = true → 64 ≤ periods → exec (.bitstreamStuck c periods) s = .next (level 19 (2 * c.1) true (xParam c.1)
      (modXch c.1 (fun x => { x with stuck := true }) (if (vget s.fe.xch c).stuck then s else e17 c.1 2 s)))) ∧
    (∀ us, 1000 ≤ us → (vget s.fe.xch c).stuck = true → exec (.bitstreamRecover c us) s = .next (level 19 (2 * c.1) false (xParam c.1)
      { s with fe.xch := vset s.fe.xch c { vget s.fe.xch c with stuck := false, inv := some s.clk.mono } })) ∧
    (∀ ones, extEn s c.1 = true →
      let x := vget s.fe.xch c
      let on := decide (243 < ones ∨ ones < 13)
      exec (.bitstreamOverrange c ones) s = .next (level 19 (2 * c.1 + 1) on (xParam c.1)
        { s with fe.xch := vset s.fe.xch c { x with ovr := on, ovrEnd := if x.ovr = true ∧ on = false then some s.clk.mono else x.ovrEnd } })) ∧
    (s.fe.valid = true → extEn s c.1 = true → chPartner (grp s (c.1 / 8)) (c.1 % 8) ≠ 0x7F → (vget s.fe.xch c).xAt + 1000000 ≤ s.clk.mono →
      let u := xStart c.1 s
      (xCheck s c.1 = none → exec (.crossCheckWindow c) s = .next u) ∧
      (xCheck s c.1 = some true → (vget s.fe.xch c).misRun < 2 →
        exec (.crossCheckWindow c) s = .next (modXch c.1 (fun y => { y with misRun := y.misRun + 1 }) u)) ∧
      (xCheck s c.1 = some true → 2 ≤ (vget s.fe.xch c).misRun →
        exec (.crossCheckWindow c) s = .next (level 20 c.1 true (xParam c.1) (modXch c.1 (fun y => { y with misRun := 3, xchk := true }) u))) ∧
      (xCheck s c.1 = some false →
        exec (.crossCheckWindow c) s = .next (level 20 c.1 false (xParam c.1) (modXch c.1 (fun y => { y with misRun := 0, xchk := false }) u))))) ∧
  (∀ (p : Pkt) (s : State) (m : Nat) (cs : List BlkCopy), taken 0x0201 p s = true → p.payload.length = 2 → u16 0 p.payload = m → 0 < m →
    m < 2 ^ (s.member.points + 1) →
    let u := begun 0x0201 p s
    let f := flightOf 0x0201 p s
    Takes u ((maskGroups m).map (0x0210 + ·)) cs → closedInGroups u m = false → u.fe.commit = none →
    exec (.mtrCommit p) s = .next (take f cs { u with fe.commit := some { f with tag := m } })) ∧
  (∀ (f : Flight) (s : State), s.fe.commit = some f → commitFree s f.tag = true →
    let u := (maskGroups f.tag).foldl (fun t g => applyGroup (grp s g) g t) (commitCopies (takenBy s f) { s with fe.commit := none })
    exec .mtrCommitApply s = .next (startMeters s (recheck (finish f (le 8 s.clk.time) (untake f u))))) ∧
  (∀ (p : Pkt) (s : State) (i : Nat), taken 0x0202 p s = true → p.payload.length = 4 → u8 0 p.payload = i → rsv 1 3 p.payload = true →
    i < 72 → hasGroup s (i / 8) = true →
    let u := begun 0x0202 p s
    exec (.mtrCalStatus p) s = .next (finish (flightOf 0x0202 p s) (coefBytes (vat u.fe.mods i {}).cur ++ coefBytes (factoryCoef i) ++
      le 1 (roleOf u i) ++ le 1 (servingOf u i) ++
      le 2 (b2n (vat u.fe.mods i {}).cold + 2 * b2n u.fe.frozen + 4 * b2n (isDegraded u (i / 8))) ++
      le 1 (vat u.nvFe.mods i {}).passes ++ zeros 3) u)) ∧
  (∀ (p : Pkt) (s : State) (m : Fin 72), taken 0x0203 p s = true → p.payload.length = 4 → u8 0 p.payload = m.1 → rsv 1 3 p.payload = true →
    hasGroup s (m.1 / 8) = true →
    let u := begun 0x0203 p s
    let f := flightOf 0x0203 p s
    let g := m.1 / 8
    let v := modMod m.1 (fun x => { x with cmpFails := 0 }) (modNvMod m.1 (fun x => { x with faulty := false }) u)
    isFaulty u m.1 = true → 3 ≤ (vget u.nvFe.mods m).passes →
    (m.1 % 8 = 7 → exec (.mtrRequalify p) s = .next (finish f [] (leaveDegraded g (setSubst g none v)))) ∧
    (m.1 % 8 ≠ 7 → vat u.nvFe.subst g none = some (m.1 % 8) → isFaulty u (8 * g + 7) = false →
      exec (.mtrRequalify p) s = .next (finish f [] { v with fe.back := v.fe.back ++ [m.1] })) ∧
    (m.1 % 8 ≠ 7 → (vat u.nvFe.subst g none = some (m.1 % 8) ∧ isFaulty u (8 * g + 7) = true) ∨ vat u.nvFe.subst g none ≠ some (m.1 % 8) →
      exec (.mtrRequalify p) s = .next (finish f [] (leaveDegraded g (modXch m.1 (fun x => { x with inv := some v.clk.mono })
        (if vat u.nvFe.subst g none = some (m.1 % 8) then setSubst g none v else v))))))

/-- FAST_PATH_SAMPLE, when the next 16 µs of the sample grid have passed, moves the grid on and issues a sample of every enabled
channel: it goes to the safety queue, which keeps 504, and becomes the newest sample of its detector. PRESET_OUTPUT_SAMPLE
issues the oldest waiting output of its preset; that of the group's PRESET joins the window of a meter that runs, with its
nominal timestamp, and any other leaves the energy engine alone. ZERO_CROSSING takes the crossing the last two samples give,
and ZC_MISSING one where none came in time, each as the channel's newest crossing, with its direction. METERING_WINDOW_CLOSE,
once every sample of the window has come, computes its quantities, where it holds samples, and starts the next window at its
end, with the samples from there on. NETTING_PERIOD_END makes the end a boundary of the window that contains it and sets the
next one, a later multiple of T_NET. PULSE_ISSUE starts a pending pulse and counts it off, ends a pulse whose width has
passed, and holds the land of a disabled output at its off level. MTR_DETECT and MTR_VALUES answer 120 and 208 bytes and
change nothing. MTR_ENERGY_COMMIT takes its blocks and waits. MTR_ENERGY_COMMIT_APPLY gives the meters that do not run their
blocks; with a pulse block named it takes effect, and the command is answered, once every named meter has its block; without
one the answer leaves with the last meter block, at the device time at which it took effect. -/
def Obligations.SamplesAndWindowsComplete : Prop :=
  (∀ (xs : List (Fin 72 × BitVec 64 × BitVec 64)) (s : State), gridDue s = true →
    ∃ t, exec (.fastPathSample xs) s = .next t ∧ t = { s with filt := t.filt, fe := t.fe, pwr.c4LowSince := t.pwr.c4LowSince } ∧
      t.fe.grid = s.fe.grid + 64 ∧ t = followC4 ((List.finRange 72).foldl fastPath (runGrid xs s))) ∧
  (∀ (i : Fin 72) (s : State),
    let g := i.1 / 8
    let c := i.1 % 8
    let e := gridAt s s.fe.grid
    let y := fpSample s g c e (fpWord (vat s.fe.chain (serving s g c) {}))
    (c < 7 → hasGroup s g = true → chEn (grp s g) c = true → ∃ t, fastPath s i = t ∧ t = { s with filt := t.filt, fe.xch := t.fe.xch } ∧
      t.filt.safeq = (s.filt.safeq ++ [(i.1, y.1, y.2)]).take 504 ∧ (vget t.filt.det i).lastX = some y.1 ∧
      (vget t.filt.det i).prevX = (vget s.filt.det i).lastX ∧ ∀ j, j ≠ i → vget t.filt.det j = vget s.filt.det j) ∧
    (c = 7 ∨ hasGroup s g = false ∨ chEn (grp s g) c = false → fastPath s i = s)) ∧
  (∀ (g : Fin 9) (preset : Nat) (o : PreOut) (rest : List PreOut) (s : State), s.fe.valid = true → hasGroup s g.1 = true →
    takeOut preset (vget s.fe.outs g) = some (o, rest) →
    ∃ t, exec (.presetOutputSample g preset) s = .next t ∧ t = { s with filt := t.filt, fe := t.fe, en.m := t.en.m } ∧
      t.fe.outs = vset s.fe.outs g rest ∧ (∀ h, h ≠ g → vget t.en.m h = vget s.en.m h) ∧
      (o.preset = grpPreset (grp s g.1) → meterRuns s g.1 = true → ∃ vals flags,
        (vget t.en.m g).win = { (vget s.en.m g).win with
          smp := (vget s.en.m g).win.smp ++ [(nominal o.preset (gridAt s o.at_), vals, flags)] }) ∧
      (o.preset ≠ grpPreset (grp s g.1) ∨ meterRuns s g.1 = false → t.en.m = s.en.m)) ∧
  (∀ (c : Fin 72) (up : Bool) (s : State), s.fe.valid = true → isVoltage s c.1 = true → crossingOf (vget s.filt.det c) = some up →
    ∃ t, exec (.zeroCrossing c) s = .next t ∧ (vget t.filt.det c).zc.head? = some (crossingTime (vget s.filt.det c)) ∧
      (vget t.filt.det c).zcUp = up ∧ (vget t.filt.det c).accAt = crossingTime (vget s.filt.det c)) ∧
  (∀ (c : Fin 72) (s : State), s.fe.valid = true → isVoltage s c.1 = true → (vget s.filt.det c).zc ≠ [] →
    (vget s.filt.det c).zc.headD 0 + missLimit (vget s.filt.det c) ≤ 64 * s.clk.mono →
    ∃ t, exec (.zcMissing c) s = .next t ∧ (vget t.filt.det c).zc.head? = some (missStart (vget s.filt.det c)) ∧
      (vget t.filt.det c).zcUp = !(vget s.filt.det c).zcUp) ∧
  (∀ (m : Fin 9) (s : State), meterRuns s m.1 = true →
    let e := (winEnd s m).1
    let tm := onDevice s e / 64
    let w := winSum s m e (cutSides e tm (vget s.en.m m).win.sides).1
    winComplete s m e = true → ∃ t, exec (.meteringWindowClose m) s = .next t ∧
      (w.n ≠ 0 → (vget t.en.m m).vals = winVals s m tm w) ∧
      (vget t.en.m m).win.start = tm ∧ (vget t.en.m m).win.startE = e ∧ (vget t.en.m m).win.period = (winEnd s m).2 ∧
      (vget t.en.m m).win.smp = (vget s.en.m m).win.smp.filter fun x => !decide (x.1 < (e : Int))) ∧
  (∀ (m : Fin 9) (s : State), meterRuns s m.1 = true → netMode (mtr s m.1) = 2 → 0 < tNet (mtr s m.1) →
    let p := tNet (mtr s m.1) * 1000000
    let u := modMeter m (fun x => { x with netT := some (netMultiple s m) }) s
    (netMultiple s m % p = 0 ∧ s.clk.time < netMultiple s m) ∧
    ((vget s.en.m m).netT = none → exec (.nettingPeriodEnd m) s = .next (boundaryAt (s.clk.time / p * p) m [] u)) ∧
    (∀ t0, (vget s.en.m m).netT = some t0 → t0 ≤ s.clk.time → exec (.nettingPeriodEnd m) s = .next (boundaryAt t0 m [] u)) ∧
    (∀ t0, (vget s.en.m m).netT = some t0 → netMultiple s m < t0 → exec (.nettingPeriodEnd m) s = .next u)) ∧
  (∀ (t0 : Nat) (m : Fin 9) (acts : List BAct) (s : State), meterRuns s m.1 = true → (vget s.en.m m).win.startE < onGrid s t0 →
    boundaryAt t0 m acts s = modWin m (fun w => { w with sides := splitSides (onGrid s t0) t0 acts (newSide s m) w.sides }) s) ∧
  (∀ (i : Fin 4) (s : State), s.fe.valid = true →
    let x := vget s.en.pls i
    (plsEn (pls s) i.1 = true → x.onUntil = none → 0 < x.pend → x.nextAt ≤ s.clk.mono → exec (.pulseIssue i) s =
      .next { s with en.pls := vset s.en.pls i { x with
        land := !plsPol (pls s) i.1, onUntil := some (s.clk.mono + 2000 * plsWidth (pls s) i.1), pend := x.pend - 1
        nextAt := s.clk.mono + max x.period (4000 * plsWidth (pls s) i.1) } }) ∧
    (plsEn (pls s) i.1 = false ∨ (∃ t0, x.onUntil = some t0 ∧ t0 ≤ s.clk.mono) → exec (.pulseIssue i) s =
      .next { s with en.pls := vset s.en.pls i { x with land := plsPol (pls s) i.1, onUntil := none } })) ∧
  (∀ (p : Pkt) (s : State) (g : Nat), taken 0x0204 p s = true → p.payload = [BitVec.ofNat 8 g, 0, 0, 0] → g < 9 → hasGroup s g = true →
    ∃ t pl, exec (.mtrDetect p) s = .next t ∧ OnlyReplied s t ∧ Answered 0x0204 p 0 pl t ∧ pl.length = 120 ∧
      pl = le 8 s.clk.time ++ (List.range 7).flatMap (detBytes s g)) ∧
  (∀ (p : Pkt) (s : State) (m : Fin 9), taken 0x0205 p s = true → p.payload = [BitVec.ofNat 8 m.1, 0, 0, 0] → m.1 ≤ s.member.points →
    ∃ t pl, exec (.mtrValues p) s = .next t ∧ OnlyReplied s t ∧ Answered 0x0205 p 0 pl t ∧ pl.length = 208 ∧
      slice 0 8 pl = le 8 (vget s.en.m m).vals.tRead ∧ slice 8 4 pl = le 4 (vget s.en.m m).vals.freq ∧ slice 12 4 pl = le 4 (qflags s m) ∧
      slice 112 96 pl = (vget s.p100.m m).acc.toList.flatMap (le 8)) ∧
  (∀ (p : Pkt) (s : State) (m : Nat) (cs : List BlkCopy), taken 0x0206 p s = true → p.payload.length = 4 → u16 0 p.payload = m →
    rsv 2 2 p.payload = true → 0 < m → m < 1024 →
    let u := begun 0x0206 p s
    let f := flightOf 0x0206 p s
    (∀ k ∈ ecMeters m, hasGroup u k.1 = true) → Takes u ((ecMeters m).map (fun k => 0x0220 + k.1) ++ if bit m 9 then [0x0230] else []) cs →
    (∀ n ∈ (ecMeters m).filterMap pointOfMeter, contactorShut u n = false) → u.en.commit = none →
    exec (.mtrEnergyCommit p) s = .next (take f cs { (ecMeters m).foldl (fun t k => modMeter k (fun x => { x with commit := true }) t) u with
      en.commit := some f, en.commitPls := bit m 9 })) ∧
  (∀ (f : Flight) (s : State), s.en.commit = some f →
    let u := (List.finRange 9).foldl (fun t m => if (vget t.en.m m).commit && !meterRuns t m.1 then
      startMeters t (applyMeterBlock m t.clk.time { tEnd := some t.clk.time } t) else t) s
    (u.en.commitPls = true → (∀ m, (vget u.en.m m).commit = false) → exec .mtrEnergyCommitApply s = .next (finish f (le 8 u.clk.time)
      (untake f (applyPulses (takenBy u f) { u with en.commit := none, en.commitPls := false })))) ∧
    (u.en.commitPls = false ∨ (∃ m, (vget u.en.m m).commit = true) → exec .mtrEnergyCommitApply s = .next u)) ∧
  (∀ (f : Flight) (t0 : Nat) (s : State), s.en.commit = some f → s.en.commitPls = false → (∀ m, (vget s.en.m m).commit = false) →
    energyDone t0 s = finish f (le 8 t0) (untake f { s with en.commit := none }))

/-! ## Billing and ledger -/

/-- GRID_BOUNDARY puts the tariff of the device time in force, and a boundary type whose label is later than LAST_FIRED takes that
label. P100_PERSIST writes the live values of class P100 to one of their two copies, and nothing else; a write whose read-back
fails leaves no copy there and raises E45. PP_AUX_CHECK, AUX_T after a command, finds PP_FAULT when the auxiliary contact
differs from the command, and nothing when it does not. BIL_COMMIT takes its blocks and waits; BIL_COMMIT_APPLY puts them in
effect and answers T_APPLIED. BIL_REGS, BIL_DEMAND and BIL_SNAPSHOT answer a register in its forms, the demands and a snapshot
in 296, 424 and 1,272 bytes and change nothing. BIL_PERIOD_END waits; its close sets LAST_FIRED[PERIOD] to the local wall
time, opens the next period at the device time and answers. BIL_TIME_SET, while PTP is not the source, slews a change of at
most 2 s of a valid time, in MODE 1 with TIME authority as in MODE 0, and with that authority and MODE 1 sets the time at once
where the change is larger or time is invalid. Each operation of BIL_CREDIT that the prepayment state allows, with CREDIT
authority and a new token, is done, remembered by its token among the newest 16, written to class P100 and answered with
CREDIT and PP_STATE: operation 0 adds AMOUNT to CREDIT, 1 subtracts it, 2 grants the emergency credit and 3 reconnects the
supply; the prepayment state follows. -/
def Obligations.BillingCompletes : Prop :=
  (∀ s : State, gridRuns s = true → ∃ t, exec .gridBoundary s = .next t ∧ t = tariffEval (gridFire false s).1 ∧
    t.bill.tariff = (tariffAt s s.clk.time).1 ∧ t.clk.time = s.clk.time ∧
    (∀ (b : Fin 3) (lab : Nat), s.clk.timeValid = true → (committed s 0x0343).isSome = true → labelOf s b = some lab →
      vget s.p100.lastFired b < lab → vget t.p100.lastFired b = lab)) ∧
  (∀ s : State, gridRuns s = true → ∃ t, exec (.p100Persist true) s = .next t ∧
    t = { s with nvBill.copyA := t.nvBill.copyA, nvBill.copyB := t.nvBill.copyB } ∧
    ((∃ c, t.nvBill.copyA = some (c, { s.p100 with time := s.clk.time }) ∧ t.nvBill.copyB = s.nvBill.copyB) ∨
     (∃ c, t.nvBill.copyB = some (c, { s.p100 with time := s.clk.time }) ∧ t.nvBill.copyA = s.nvBill.copyA))) ∧
  (∀ s : State, gridRuns s = true →
    exec (.p100Persist false) s = .next (pulse 45 [] { s with nvBill.copyA := none }) ∨
    exec (.p100Persist false) s = .next (pulse 45 [] { s with nvBill.copyB := none })) ∧
  (∀ (c : Fin 24) (t0 : Nat) (s : State), s.bill.supAt = some t0 → supplyChan s = some c → t0 + auxT (ppB s 0) * 1000 ≤ s.clk.mono →
    (auxOf s c.1 = s.bill.supOn → exec .ppAuxCheck s = .next { s with bill.supAt := none }) ∧
    (auxOf s c.1 ≠ s.bill.supOn → exec .ppAuxCheck s = .next (ppGo 0 .ppFault { s with bill.supAt := none }))) ∧
  (∀ (m : Fin 9) (st : PpState) (s : State), (vget (ppGo m st s).p100.m m).ppState = st) ∧
  (∀ (p : Pkt) (s : State) (m : Nat) (cs : List BlkCopy), taken 0x0301 p s = true → p.payload.length = 4 → u16 0 p.payload = m →
    rsv 2 2 p.payload = true → 0 < m → m < 2048 →
    let u := begun 0x0301 p s
    let f := flightOf 0x0301 p s
    (∀ k ∈ bilMeters m, hasGroup u k.1 = true) → Takes u (bilIds m) cs → bilCross u cs m = true → u.bill.commit = none →
    exec (.bilCommit p) s = .next (take f cs { u with bill.commit := some f })) ∧
  (∀ (f : Flight) (s : State), s.bill.commit = some f → ∃ t, exec .bilCommitApply s = .next t ∧
    t = finish f (le 8 s.clk.time) (untake f (bilApply (takenBy s f) { s with bill.commit := none })) ∧ t.bill.commit = none ∧
    (∀ c, takenBy s f = [c] → committedCopy t c.id = some { c with tCommit := s.clk.time, bstate := 1 })) ∧
  (∀ (p : Pkt) (s : State) (m : Fin 9), m.1 ≤ s.member.points →
    (∀ tr : Nat, tr ≤ 8 → taken 0x0302 p s = true → p.payload = [BitVec.ofNat 8 m.1, BitVec.ofNat 8 tr, 0, 0] →
      ∃ t pl, exec (.bilRegs p) s = .next t ∧ OnlyReplied s t ∧ Answered 0x0302 p 0 pl t ∧ pl.length = 296 ∧
        (tr = 0 → pl = le 8 (vget s.en.m m).vals.tRead ++ (List.finRange 12).flatMap fun q => regBytes (totalReg (vget s.p100.m m) q)) ∧
        (∀ k : Fin 8, tr = k.1 + 1 → pl = le 8 (vget s.en.m m).vals.tRead ++
          (List.finRange 12).flatMap fun q => regBytes (tariffReg (vget s.p100.m m) k q))) ∧
    (taken 0x0303 p s = true → p.payload = [BitVec.ofNat 8 m.1, 0, 0, 0] →
      ∃ t pl, exec (.bilDemand p) s = .next t ∧ OnlyReplied s t ∧ Answered 0x0303 p 0 pl t ∧ pl.length = 424 ∧
        pl = le 8 s.bill.tLast ++ (vget s.bill.last m).toList.flatMap (fun d => le 4 d.mw ++ le 2 d.flags ++ zeros 2) ++
          (vget s.p100.m m).maxd.toList.flatMap fun l => l.toList.flatMap maxBytes) ∧
    (∀ (i : Nat) (x : Snap), taken 0x0304 p s = true → p.payload = [BitVec.ofNat 8 m.1, BitVec.ofNat 8 i, 0, 0] → i < 24 →
      (vget s.nvBill.snaps m)[i]? = some x →
      ∃ t pl, exec (.bilSnapshot p) s = .next t ∧ OnlyReplied s t ∧ Answered 0x0304 p 0 pl t ∧
        pl = le 8 x.tOpen ++ le 8 x.tClose ++ le 4 x.flags ++ zeros 4 ++ x.regs.flatMap (le 8) ++ x.maxd.flatMap maxBytes ∧
        (x.regs.length = 108 → x.maxd.length = 32 → pl.length = 1272))) ∧
  (∀ (v : Nat), regBytes v = le 8 v ++ (forms v).flatMap fun f => le 4 f.1 ++ le 4 f.2) ∧
  (∀ (p : Pkt) (s : State), taken 0x0305 p s = true → p.payload = [] → s.clk.timeValid = true → s.bill.perEnd = none →
    exec (.bilPeriodEnd p) s = .next { begun 0x0305 p s with bill.perEnd := some (flightOf 0x0305 p s) }) ∧
  (∀ (f : Flight) (s : State), s.bill.perEnd = some f → ∃ v, exec .bilPeriodEndClose s = .next (finish f (le 8 s.clk.time) v) ∧
    v.bill.perEnd = none ∧ vget v.p100.lastFired 1 = (wall (calB s) s.clk.time).toNat ∧ v.p100.perOpen = s.clk.time ∧
    v.clk.time = s.clk.time) ∧
  (∀ (p : Pkt) (s : State) (tm mode : Nat), taken 0x0306 p s = true → p.payload = le 8 tm ++ le 1 mode ++ zeros 7 →
    7305 * 86400000000 ≤ tm → tm < 2 ^ 64 → mode = 0 ∨ (mode = 1 ∧ holds (begun 0x0306 p s) p.src 0 = true) → ptpSource s = false →
    let u := begun 0x0306 p s
    let f := flightOf 0x0306 p s
    (s.clk.timeValid = true → farApart tm s.clk.time = false → exec (.bilTimeSet p) s = .next (finish f (le 8 s.clk.time ++ le 8 tm)
      { u with clk.slew := (tm : Int) - s.clk.time, clk.slewAcc := 0 })) ∧
    (mode = 1 → s.clk.timeValid = false ∨ farApart tm s.clk.time = true → ∃ t, exec (.bilTimeSet p) s = .next t ∧
      t = finish f (le 8 s.clk.time ++ le 8 tm) (timeStep tm 1 (Source.ident p.src) u) ∧
      t.clk.time = tm ∧ t.clk.timeValid = true ∧ t.clk.slew = 0)) ∧
  (∀ (p : Pkt) (s : State) (m : Fin 9) (op tok a : Nat), taken 0x0307 p s = true →
    p.payload = [BitVec.ofNat 8 m.1, BitVec.ofNat 8 op, 0, 0] ++ le 4 tok ++ le 8 a → m.1 ≤ s.member.points → op ≤ 4 → tok < 2 ^ 32 →
    a < 2 ^ 64 → (2 ≤ op → a = 0) → (op = 3 → m = 0) → (op = 0 → (vget s.p100.m m).credit + a ≤ 2 ^ 62) →
    let u := begun 0x0307 p s
    holds u p.src 1 = true → tok ∉ (vget s.p100.m m).tokens → ppEn (ppB s m.1) = true →
    creditAllowed (ppB s m.1) (vget s.p100.m m) op = true →
    let v := persist (creditOp m op a (modMeterP m (fun x => { x with tokens := (tok :: x.tokens).take 16 }) u))
    exec (.bilCredit p) s = .next (finish (flightOf 0x0307 p s)
      (leInt 8 (vget v.p100.m m).credit ++ le 1 (ppCode (vget v.p100.m m).ppState) ++ zeros 7) v)) ∧
  (∀ (m : Fin 9) (a : Nat) (s : State),
    creditOp m 0 a s = prepay m (modMeterP m (fun x => { x with credit := x.credit + a }) s) ∧
    (-(2 ^ 63 : Int) ≤ (vget s.p100.m m).credit - a →
      creditOp m 1 a s = prepay m (modMeterP m (fun x => { x with credit := x.credit - a }) s)) ∧
    creditOp m 2 a s = prepay m (modMeterP m (fun x => { x with emergOn := true }) s) ∧ creditOp m 3 a s = commandSupply true s)

/-- LEDGER_RECORD_WRITE queues the chain-start record while the session chain is empty, and writes the next queued record whole
into the slot at its chain's write pointer: its type, SEQ, TIME, the hash of the record before it and its body. The pointer
then advances, and the record leaves the queue; an export record follows its session record. A write cut before the pointer
advances leaves the slot written and the record queued. With OVERWRITE 0 and no free slot for it an event record is dropped
and any other waits. A written session record raises E43 with its session number, and the session it closes is over. LED_READ
answers up to COUNT records from FROM on of each of the three chains, where the chain holds FROM; LED_STATUS and LED_LOG_READ
answer; all three change nothing. LED_ACK moves the acknowledgement up to UPTO, never back, and sessions that could not open
may open. LED_POLICY from a source with LEDGER authority sets OVERWRITE; from one without it, it is answered ST_DENIED, with
E122, and the policy stands. -/
def Obligations.LedgerCompletes : Prop :=
  (∀ (done : Bool) (s : State), canWrite s = true →
    let u := queueStart s
    (s.led.nxt ≠ 0 → u = s) ∧ (s.led.nxt = 0 → s.p100.queue = [] → ∃ r, u.p100.queue = [r] ∧ r.type = 8 ∧ r.body = startBody s) ∧
    (nextRec u.p100.queue = none → exec (.ledgerRecordWrite done) s = .next u) ∧
    ∀ r, nextRec u.p100.queue = some r →
      (u.p100.overwrite = true ∨ slotsOf u.p100.queue r ≤ freeSlots u →
        exec (.ledgerRecordWrite true) s = .next (wrote (exportFor u.p100.queue r) r (recWrite r u)) ∧
        exec (.ledgerRecordWrite false) s = .next (slotWrite r u)) ∧
      (u.p100.overwrite = false → freeSlots u < slotsOf u.p100.queue r →
        (isEventRec r.type = true → exec (.ledgerRecordWrite done) s =
          .next (persist (ledgerLimits (dropRec { u with p100.queue := u.p100.queue.erase r })))) ∧
        (isEventRec r.type = false → exec (.ledgerRecordWrite done) s = .next u))) ∧
  (∀ (r : PendRec) (s : State), r.type ≠ 2 → ∃ b,
    (slotWrite r s).led.slot = some (false, b) ∧ (slotWrite r s).p100 = s.p100 ∧
    (recWrite r s).led.nxt = s.led.nxt + 1 ∧ (recWrite r s).led.chain = ((s.led.nxt, b) :: s.led.chain).take chainCap ∧
    (recWrite r s).p100.queue = s.p100.queue.erase r ∧
    slice 0 1 b = le 1 r.type ∧ slice 4 4 b = le 4 s.led.nxt ∧ slice 8 8 b = le 8 r.time ∧
    slice 16 48 b = fit 48 (prevHash s.led.nxt s.led.chain) ∧ slice 64 224 b = fit 224 (if r.type = 8 then startBody s else r.body)) ∧
  (∀ (r : PendRec) (s : State), r.type = 2 → ∃ b,
    (slotWrite r s).led.slot = some (true, b) ∧ (slotWrite r s).p100 = s.p100 ∧
    (recWrite r s).led.dailyNext = s.led.dailyNext + 1 ∧ (recWrite r s).led.daily = ((s.led.dailyNext, b) :: s.led.daily).take 9362 ∧
    (recWrite r s).p100.queue = s.p100.queue.erase r ∧
    slice 0 1 b = le 1 2 ∧ slice 4 4 b = le 4 s.led.dailyNext ∧ slice 8 8 b = le 8 r.time) ∧
  (∀ (n : Fin 8) (r : PendRec) (s : State), r.type = 1 → r.point = n.1 →
    let u := pulse 43 (prm [(4, u32 0 r.body)]) s
    ((sep u n).queued = true → (sep u n).no = u32 0 r.body → afterWrite r s = sessionClosed n u) ∧
    ((sep u n).queued = false ∨ (sep u n).no ≠ u32 0 r.body → afterWrite r s = u)) ∧
  (∀ (p : Pkt) (s : State) (c n frm : Nat), taken 0x0310 p s = true → p.payload = le 1 c ++ [0] ++ le 2 n ++ zeros 4 ++ le 8 frm → c ≤ 2 →
    1 ≤ n → n ≤ (if c = 0 then 42 else if c = 1 then 24 else 85) → frm < 2 ^ 64 →
    let u := begun 0x0310 p s
    let l := if c = 0 then u.led.chain else if c = 1 then u.led.daily else u.led.profile
    let rs := ((l.takeWhile fun r => decide (frm ≤ r.1)).reverse).take n
    (∃ r ∈ l, r.1 = frm) → exec (.ledRead p) s = .next (finish (flightOf 0x0310 p s)
      (le 2 rs.length ++ zeros 2 ++ le 4 (if c = 2 then 0 else frm) ++ rs.flatMap (·.2)) u)) ∧
  (∀ (p : Pkt) (s : State), taken 0x0312 p s = true → p.payload = [] →
    let u := begun 0x0312 p s
    exec (.ledStatus p) s = .next (finish (flightOf 0x0312 p s) (le 4 u.led.nxt ++ le 4 u.led.acked ++ le 4 (freeSlots u) ++
      le 4 u.led.dropped ++ le 4 u.led.overwritten ++ le 4 u.led.dailyNext ++ le 8 ((u.led.profile.head?.map (·.1)).getD 0) ++
      le 4 u.led.logNext ++ le 1 (b2n u.p100.overwrite) ++ zeros 3) u)) ∧
  (∀ (p : Pkt) (s : State) (frm n : Nat) (x : LogEnt), taken 0x0313 p s = true → p.payload = le 4 frm ++ le 2 n ++ [0, 0] → 1 ≤ n → n ≤ 511 →
    frm < 2 ^ 32 → 
    let u := begun 0x0313 p s
    let es := (u.led.log.reverse.dropWhile fun e => !(e.no == frm)).take n
    x ∈ u.led.log → x.no = frm → exec (.ledLogRead p) s = .next (finish (flightOf 0x0313 p s)
      (le 2 es.length ++ zeros 6 ++ es.flatMap LogEnt.bytes) u)) ∧
  (∀ (p : Pkt) (s : State) (upto : Nat), taken 0x0311 p s = true → p.payload = le 4 upto ++ zeros 4 → upto ≤ s.led.nxt → upto < 2 ^ 32 →
    let u := begun 0x0311 p s
    let v := retryOpen (ledgerLimits { u with led.acked := max u.led.acked upto })
    v.led.acked = max s.led.acked upto ∧ v.led.chain = s.led.chain ∧ v.led.nxt = s.led.nxt ∧
    exec (.ledAck p) s = .next (finish (flightOf 0x0311 p s) (le 4 v.led.acked ++ le 4 (freeSlots v)) v)) ∧
  (∀ (p : Pkt) (s : State) (v : Bool), taken 0x0314 p s = true → p.payload = [if v then 1 else 0, 0, 0, 0] →
    let u := begun 0x0314 p s
    let f := flightOf 0x0314 p s
    (holds u p.src 2 = true → exec (.ledPolicy p) s = .next (finish f [] (retryOpen (persist (ledgerLimits { u with p100.overwrite := v }))))) ∧
    (holds u p.src 2 = false → exec (.ledPolicy p) s = .next (complete f 0x0301 [] (deniedEvent f 4 u))))

/-! ## Pilot, proximity and points -/

/-- PILOT_PERIOD puts the output in force that R150 asks for and takes the generator's nodes; a generator found out of range at a
change of mode is a generator fault, which turns the coil off and puts the point out of service. PILOT_STATE_ACCEPT makes the
state S0's values lie in the accepted state, keeping the one before and the time, and the state S1's values lie in S1's; an
accepted error state holds the pilot at X1 for 3 s from now, turns the coil off and records the pilot cause.
PILOT_STATE_INVALID accepts INVALID at the core that has seen gaps for 10 ms, and DIODE_FAULT sets its flag after three low
plateaus out of range at either core, each with the responses of an error. PILOT_ERROR_HOLD_END ends the hold and clears its
flags once A or B is accepted. PROXIMITY_ACCEPT shows the resistance of the last sample and accepts a code that ten samples
agree on, or three where the code is an error in the present state. DUTY_INCREASE_DUE applies the pending current 5 s after
the last duty change. OVERCURRENT, after 10 s (2 s in a DC service), sets its flag, turns the coil off and ends the session.
HLC_FALLBACK begins basic mode 3 s after the change to X1. PT_COMMIT takes its blocks and waits; PT_COMMIT_APPLY puts them in
effect and answers T_APPLIED; PT_STATUS answers 32 bytes. -/
def Obligations.PilotCompletes : Prop :=
  (∀ (n : Fin 8) (l0 l1 : List Int) (gen : Int × Int) (s : State), hasPoint s n = true → s.pwr.vsysValid = true →
    (genOk gen = true → ∃ t, exec (.pilotPeriod n l0 l1 gen) s = .next t ∧
      t = { s with pilot := t.pilot, hlc := t.hlc, ev := t.ev, led := t.led, p100 := t.p100 } ∧
      (pil t n).out = wantOut s n ∧ (pil t n).gen = gen ∧ (pil t n).override = overridden s n ∧ (∀ k, k ≠ n → pil t k = pil s k)) ∧
    (genOk gen = false → outCode (pil s n).out ≠ outCode (wantOut s n) → (nvp s n).genFault = false →
      ∃ t, exec (.pilotPeriod n l0 l1 gen) s = .next t ∧ (pil t n).out = wantOut s n ∧ (nvp t n).genFault = true ∧
        (saf t n).coil = false ∧ (nvp t n).oos.getLsbD 1 = true)) ∧
  (∀ (n : Fin 8) (s : State), hasPoint s n = true →
    (∀ c, acceptable s n 0 = some c → (pil s n).st ≠ some c → exec (.pilotStateAccept n) s = .next (accept1 n (acceptState n c s)) ∧
      (pil (acceptState n c s) n).st = some c ∧ (pil (acceptState n c s) n).prevSt = (pil s n).st ∧
      (pil (acceptState n c s) n).tChange = s.clk.time ∧ (pil (acceptState n c s) n).cX2 = (c == .C && isX2 (pil s n).out)) ∧
    (acceptable s n 0 = none ∨ (acceptable s n 0 = (pil s n).st ∧ ((pil s n).st ≠ some .C ∨ isX2 (pil s n).out = false ∨ (pil s n).cX2 = true)) →
      exec (.pilotStateAccept n) s = .next (accept1 n s)) ∧
    (∀ c, acceptable s n 1 = some c → (pil s n).st1 ≠ some c → accept1 n s = takeState1 n c s ∧ (pil (takeState1 n c s) n).st1 = some c)) ∧
  (∀ (n : Fin 8) (c : PilotSt) (s : State), isError c = true →
    let held := fun (t : State) => (pil t n).holdOn = true ∧ (pil t n).holdUntil = s.clk.mono + 3000000 ∧ (saf t n).coil = false ∧
      (nvp t n).trip.getLsbD 6 = true
    (genOk (pil s n).gen = true → (nvp s n).genFault = false → held (acceptState n c s)) ∧
    ((pil s n).st ≠ some c → held (takeState1 n c s)) ∧
    (hasPoint s n = true → isX2 (pil s n).out = true → 3 ≤ (vget (pil s n).ev 0).diodeBad ∨ 3 ≤ (vget (pil s n).ev 1).diodeBad →
      (pil s n).diodeFault = false → ∃ t, exec (.diodeFault n) s = .next t ∧ (pil t n).diodeFault = true ∧ held t)) ∧
  (∀ (n : Fin 8) (s : State), hasPoint s n = true → (pil s n).out ≠ .F →
    (10000 ≤ (vget (pil s n).ev 0).gapUs → (pil s n).st ≠ some .INVALID →
      ∃ t, exec (.pilotStateInvalid n) s = .next t ∧ (pil t n).st = some .INVALID) ∧
    ((vget (pil s n).ev 0).gapUs < 10000 → 10000 ≤ (vget (pil s n).ev 1).gapUs → (pil s n).st1 ≠ some .INVALID →
      exec (.pilotStateInvalid n) s = .next (takeState1 n .INVALID s)) ∧
    (10000 ≤ (vget (pil s n).ev 0).gapUs → (pil s n).st ≠ some .INVALID → (vget (pil s n).ev 1).gapUs < 10000 →
      exec (.pilotStateInvalid n) s = .next (acceptState n .INVALID s))) ∧
  (∀ (n : Fin 8) (s : State), (pil s n).holdOn = true → (pil s n).holdUntil ≤ s.clk.mono → (pil s n).st = some .A ∨ (pil s n).st = some .B →
    ∃ t, exec (.pilotErrorHoldEnd n) s = .next t ∧ t = { s with
      pilot := vset s.pilot n { pil s n with holdOn := false, stErr := false, diodeFault := false }, ev := t.ev, led := t.led, p100 := t.p100 }) ∧
  (∀ (n : Fin 8) (mv : List Nat) (s : State), hasPoint s n = true → s.pwr.vsysValid = true → ppSocket (pilotB s n) = true → mv ≠ [] →
    let code := ppCodeOf (mv.headD 0)
    let u := modPilot n (fun x => { x with ppOhm := ppOhmOf (mv.getLastD 0) }) s
    ((∀ v ∈ mv, ppCodeOf v = code) → 10 ≤ mv.length ∨ (3 ≤ mv.length ∧ ppError (pil s n).st code = true) →
      (pil s n).ppCode ≠ code ∨ (ppError (pil s n).st code = true ∧ (pil s n).stErr = false) →
      exec (.proximityAccept n mv) s = .next (takeCode n code u) ∧ (pil (takeCode n code u) n).ppCode = code) ∧
    ((∃ v ∈ mv, ppCodeOf v ≠ code) ∨ mv.length < 3 ∨ ((pil s n).ppCode = code ∧ ppError (pil s n).st code = false) →
      exec (.proximityAccept n mv) s = .next u)) ∧
  (∀ (n : Fin 8) (i : Nat) (s : State), (pil s n).iPend = some i → (pil s n).lastDuty + 5000000 ≤ s.clk.mono →
    exec (.dutyIncreaseDue n) s = .next { s with pilot := vset s.pilot n { pil s n with iSig := i, iPend := none } }) ∧
  (∀ (n : Fin 8) (t0 : Nat) (s : State), sessRuns s n = true → (pil s n).ocSince = some t0 →
    t0 + (if dcService s n then 2000000 else 10000000) ≤ s.clk.mono →
    ∃ t, exec (.overcurrent n) s = .next t ∧
      t = endNow n .safetyTrip (pilotNote n (modPilot n fun p => { p with overcur := true, ocSince := none }) s) ∧
      (pil t n).overcur = true ∧ (saf t n).coil = false ∧ ((ses t n).ending ≠ none ∨ sessRuns t n = false)) ∧
  (∀ (n : Fin 8) (t0 : Nat) (s : State), (hl s n).failed = true → fallback (pilotB s n) = true → (hl s n).fallAt = some t0 →
    t0 + 3000000 ≤ s.clk.mono → sessRuns s n = true → ∃ t, exec (.hlcFallback n) s = .next t ∧ (hl t n).fallback = true ∧
      (hl t n).fallAt = none ∧ (hl t n).phase = .basic ∧ (sep t n).service = 0) ∧
  (∀ (p : Pkt) (s : State) (m : Nat) (cs : List BlkCopy), taken 0x0401 p s = true → p.payload.length = 4 → u16 0 p.payload = m →
    rsv 2 2 p.payload = true →
    let u := begun 0x0401 p s
    maskOk u m = true → Takes u ((maskPoints m).map fun n => 0x0401 + n.1) cs → (∀ n ∈ maskPoints m, sessOpen u n = false) →
    waitingCommit u 0x0401 = none → exec (.ptCommit p) s = .next (take (flightOf 0x0401 p s) cs u)) ∧
  (∀ (f : Flight) (s : State), waitingCommit s 0x0401 = some f → ∃ t, exec .ptCommitApply s = .next t ∧
    t = finish f (le 8 s.clk.time) (untake f ((maskPoints (u16 0 f.pkt.payload)).foldl (fun t n => followSig n (basicPath n (tethered n t)))
      (commitCopies (takenBy s f) s))) ∧
    (∀ c, takenBy s f = [c] → committedCopy t c.id = some { c with tCommit := s.clk.time, bstate := 1 })) ∧
  (∀ (p : Pkt) (s : State) (n : Fin 8), taken 0x0402 p s = true → p.payload = [BitVec.ofNat 8 (n.1 + 1), 0, 0, 0] → hasPoint s n = true →
    let u := begun 0x0402 p s
    let x := pil u n
    exec (.ptStatus p) s = .next (finish (flightOf 0x0402 p s) (le 8 s.clk.time ++ le 1 (stCode x.st) ++ le 1 (outCode x.out) ++
      le 2 (match x.out with | .X2 d => d | _ => 0) ++ le 4 x.iSig ++ leInt 2 x.vHigh ++ leInt 2 x.vLow ++ le 1 x.ppCode ++
      le 1 (pflags u n) ++ le 2 x.ppOhm ++ le 8 x.tChange) u))

/-- SAFETY_CYCLE counts the cycle, latches each present point's readback, refreshes both path enables and takes the fast-path
samples. TRIP_CONFIRMED records the causes decided, in TRIP and, but for an insulation fault, as awaiting reset, turns the
coil off and lets SAFE_CUTn follow 1 ms later; SAFE_CUT_DROP drives it low. PATH_TEST_STEP_END goes from step 1 to step 2
(SAFE_CUTn low, coil on) and to step 3 (both on); a test asked for by SAF_RESET ends after step 2 with PATH_FAIL and CUT_FAULT
clear; a step in which coil current flowed sets PATH_FAIL and takes the point out of service with both paths off; a closing
condition that no longer holds ends the test. CLOSING_TIMEOUT trips the point. WELD_CHECK confirms the contactor open, or
latches WELDED, by its indicators; on a DC point the voltage indicator waits for its own WELD_T from B or A.
DC_VOLTAGE_CHECK_TIMEOUT confirms it open with VOLT_UNCHECKED unless the auxiliary contact shows closed, which latches WELDED;
WELD_WHILE_OPEN latches WELDED. PATH_ENABLE_TIMEOUT drops the path not refreshed. CUT_FAULT takes the point out of service.
SAFETY_PAIR_FAULT enters the device safe state with every path off, every pilot to go to F and every open session to end with
SAFETY_TRIP; SAFE_STATE_SESSION_END ends the session there. SAFE_RST_PULSE raises E78, and a good pulse resets the points
whose RESET_MODE allows it; SAFE_RST_STUCK marks the land stuck. APP_RESET_OPEN_TIMEOUT opens the contactor 3 s after the
reset began or after the change from X2 to X1 in state C. -/
def Obligations.SafetyEventsComplete : Prop :=
  (∀ (pts : List PtIn) (npe : Int) (s : State), pairUp s = true → ∃ t, exec (.safetyCycle pts npe) s = .next t ∧ t.safeDev.running = true ∧
    t.safeDev.cycle = (s.safeDev.cycle + 1) % 2 ^ 32 ∧ t.filt.safeq = [] ∧
    (∀ n, hasPoint s n = true → (saf t n).coilRef = s.clk.mono ∧ (saf t n).cutRef = s.clk.mono ∧ (saf t n).cutRead = (pts.getD n.1 {}).cut)) ∧
  (∀ (n : Fin 8) (s : State), pairUp s = true → hasPoint s n = true → decided s n ≠ 0 → ∃ t, exec (.tripConfirmed n) s = .next t ∧
    (nvp t n).trip &&& decided s n = decided s n ∧ ((saf s n).tripAt = none → (nvp t n).trip = decided s n) ∧
    (nvp t n).await = (nvp s n).await ||| (decided s n &&& ~~~(cause 8)) ∧ (saf t n).coil = false ∧
    (saf t n).reqClose = false ∧ ((saf s n).cut = true → (saf s n).cutDropAt = none → (saf t n).cutDropAt = some (s.clk.mono + 1000))) ∧
  (∀ (n : Fin 8) (t0 : Nat) (s : State), (saf s n).cutDropAt = some t0 → t0 ≤ s.clk.mono →
    exec (.safeCutDrop n) s = .next { s with safe := vset s.safe n { saf s n with cut := false, cutDropAt := none } }) ∧
  (∀ (n : Fin 8) (s : State), pairUp s = true → (saf s n).pathAt + 2000 ≤ s.clk.mono →
    let goes := (saf s n).pathOnly = true ∨ ((saf s n).reqClose = true ∧ holdBits s n = 0)
    ((saf s n).path = 1 → (saf s n).pathBad = false → goes →
      ∃ t, exec (.pathTestStepEnd n) s = .next t ∧ t = { s with safe := t.safe, sw := t.sw } ∧
        (saf t n).path = 2 ∧ (saf t n).cut = false ∧ (saf t n).coil = true) ∧
    ((saf s n).path = 2 → (saf s n).pathBad = false → goes → (saf s n).pathOnly = false →
      ∃ t, exec (.pathTestStepEnd n) s = .next t ∧ t = { s with safe := t.safe, sw := t.sw } ∧
        (saf t n).path = 3 ∧ (saf t n).cut = true ∧ (saf t n).coil = true) ∧
    ((saf s n).path = 2 → (saf s n).pathBad = false → (saf s n).pathOnly = true →
      ∃ t, exec (.pathTestStepEnd n) s = .next t ∧ (nvp t n).pathFail = false ∧ (nvp t n).cutFault = false ∧
        (nvp t n).oos.getLsbD 3 = false ∧ PathsOff t n) ∧
    ((saf s n).path = 1 ∨ (saf s n).path = 2 → (saf s n).pathBad = true →
      ∃ t, exec (.pathTestStepEnd n) s = .next t ∧ (nvp t n).pathFail = true ∧ (nvp t n).oos.getLsbD 3 = true ∧ PathsOff t n) ∧
    ((saf s n).path = 1 ∨ (saf s n).path = 2 → (saf s n).pathBad = false → ¬ goes → exec (.pathTestStepEnd n) s = .next (openCoil n s))) ∧
  (∀ (n : Fin 8) (s : State), pairUp s = true → (saf s n).path = 3 → (saf s n).pathAt + weldT (spB s n) ≤ s.clk.mono →
    exec (.closingTimeout n) s = .next (tripPoint n (cause 10) (cause 10) (pulse 75 (prm75 s n) s)) ∧
    ∃ t, exec (.closingTimeout n) s = .next t ∧ (nvp t n).trip.getLsbD 10 = true ∧ (saf t n).coil = false ∧ (saf t n).path = 0) ∧
  (∀ (n : Fin 8) (s : State), (saf (confirmOpen n s) n).openConf = true ∧ (saf (confirmOpen n s) n).closed = false ∧ (saf (confirmOpen n s) n).coilOffAt = none ∧
    (nvp (weldNow n s) n).welded = true ∧ (saf (weldNow n s) n).openConf = false ∧ (saf (weldNow n s) n).cut = false ∧
    (nvp (weldNow n s) n).oos.getLsbD 2 = true) ∧
  (∀ (n : Fin 8) (off : Nat) (s : State), pairUp s = true → (saf s n).coilOffAt = some off → off + weldT (spB s n) ≤ s.clk.mono →
    ((indicators s n).1 = true → exec (.weldCheck n) s = .next (weldNow n s)) ∧
    ((indicators s n).1 = false → dcPoint s n = false ∨ (∃ t0, voltFrom s n off = some t0 ∧ t0 + weldT (spB s n) ≤ s.clk.mono) →
      exec (.weldCheck n) s = .next (if (indicators s n).2 then weldNow n s else confirmOpen n s)) ∧
    ((indicators s n).1 = false → dcPoint s n = true → (∀ t0, voltFrom s n off = some t0 → s.clk.mono < t0 + weldT (spB s n)) →
      exec (.weldCheck n) s = .next { s with safe := vset s.safe n { saf s n with dcVolt := true } })) ∧
  (∀ (n : Fin 8) (off : Nat) (s : State), pairUp s = true → dcPoint s n = true → (saf s n).dcVolt = true → (saf s n).coilOffAt = some off →
    (pil s n).abAt = none → off + 10000000 ≤ s.clk.mono →
    let u := modSafe n (fun x => { x with voltUnch := true }) s
    exec (.dcVoltageCheckTimeout n) s = .next (if auxClosed s n then weldNow n u else confirmOpen n (pulse 75 (prm75 u n) u))) ∧
  (∀ (n : Fin 8) (t0 : Nat) (s : State), pairUp s = true → (saf s n).indSince = some t0 → t0 + 100000 ≤ s.clk.mono → (nvp s n).welded = false →
    exec (.weldWhileOpen n) s = .next (weldNow n s)) ∧
  (∀ (n : Fin 8) (s : State), ((saf s n).cut = true → (saf s n).cutRef + 300 ≤ s.clk.mono →
      exec (.pathEnableTimeout n true) s = .next { s with safe := vset s.safe n { saf s n with cut := false, cutDropAt := none } }) ∧
    ((saf s n).coil = true → (saf s n).coilRef + 300 ≤ s.clk.mono →
      ∃ t, exec (.pathEnableTimeout n false) s = .next t ∧ t = { s with safe := t.safe, sw := t.sw } ∧ (saf t n).coil = false)) ∧
  (∀ (n : Fin 8) (s : State), pairUp s = true → 3 ≤ (saf s n).cutBad → (nvp s n).cutFault = false → ∃ t, exec (.cutFault n) s = .next t ∧
    (nvp t n).cutFault = true ∧ (nvp t n).oos.getLsbD 3 = true ∧ (nvp t n).trip = cause 12) ∧
  (∀ (x : PairFault) (s : State), isPairFault s x = true → pairUp s = true → ∃ t, exec (.safetyPairFault x) s = .next t ∧
    t.safeDev.safeState = true ∧ t.nvSafe.fault = some (faultCode x) ∧
    (∀ n, hasPoint s n = true → PathsOff t n ∧ wantOut t n = .F ∧ (sessRuns s n = true → (ses t n).ending = some .safetyTrip))) ∧
  (∀ (n : Fin 8) (s : State), s.safeDev.safeState = true → s.safeDev.safeAt + weldT (spB s n) ≤ s.clk.mono → sessRuns s n = true →
    ∃ t, exec (.safeStateSessionEnd n) s = .next t ∧ sessRuns t n = false) ∧
  (∀ (idle low high : Nat) (both : Bool) (s : State), rstEn (sdB s) = true → pairUp s = true →
    let stuck := (s.safeDev.srStuck && decide (idle < 1000000)) || decide (10000000 < low)
    let u := e78 low { s with safeDev.srStuck := stuck && decide (high < 1000000) }
    (both = true → stuck = false → 100000 ≤ low → low ≤ 3000000 → 100000 ≤ high → ∃ t, exec (.safeRstPulse idle low high both) s = .next t ∧
      t = { s with safeDev.srStuck := false, nvPt := t.nvPt, ev := t.ev, led := t.led, p100 := t.p100 } ∧
      (∀ n, hasPoint s n = true → resetMode (spB s n) = 2 ∨ resetMode (spB s n) = 3 → triggerClear s n = true →
        (nvp t n).tripped = false ∧ ((nvp s n).tripped = true → (nvp t n).await = 0)) ∧
      (∀ n, resetMode (spB s n) ≠ 2 → resetMode (spB s n) ≠ 3 → nvp t n = nvp s n)) ∧
    (both = false ∨ stuck = true ∨ low < 100000 ∨ 3000000 < low ∨ high < 100000 → exec (.safeRstPulse idle low high both) s = .next u)) ∧
  (∀ (low : Nat) (s : State), rstEn (sdB s) = true → pairUp s = true → 10000000 < low → s.safeDev.srStuck = false →
    exec (.safeRstStuck low) s = .next (e78 low { s with safeDev.srStuck := true })) ∧
  (∀ (n : Fin 8) (s : State), pairUp s = true → (saf s n).coil = true →
    (∃ t0, (pil s n).x1cSince = some t0 ∧ t0 + 3000000 ≤ s.clk.mono) ∨ ((ses s n).x1Arm = true ∧ (ses s n).x1At + 3000000 ≤ s.clk.mono) →
    exec (.appResetOpenTimeout n) s = .next (leaveC n s) ∧ (saf (leaveC n s) n).coil = false)

/-- SAF_COMMIT, with the copies it names taken, the checks of R246 and every named contactor open (every contactor, where MASK bit
0 is set), puts them in effect at once, computes each CHECK_n again and answers T_APPLIED; SAFE_RST stuck low ends with RST_EN
0. SAF_STATUS and TST_DEGRADED answer their fields and change nothing. SAF_CONFIRM with the value of CHECK_n sets both copies
of CONFIRMED_n, and without SAFETY authority is refused with E122. SAF_RESET OP 0 resets the trips its points allow and
answers their mask; where a point has PATH_FAIL or CUT_FAULT and its contactor is open, a path test starts on it and the
command waits; the reply follows the last test. OP 1 clears the welding latches it may. TST_POINT OP 0 puts the point out of
service with the bit HOST and answers the session ended; OP 1 clears HOST, GEN_FAULT and REVERSE together, unless the
generator check that GEN_FAULT asks for fails. HOST_DECISION_TIMEOUT binds the identifier where offline acceptance is set, and
otherwise ends the request; the flow goes on to what waits. BIND_LAPSE drops a binding without a session, and ends the session
of one with it as UNPLUGGED. -/
def Obligations.SafetyCommandsComplete : Prop :=
  (∀ (p : Pkt) (s : State) (m : Nat) (cs : List BlkCopy), taken 0x0501 p s = true → p.payload.length = 4 → u16 0 p.payload = m →
    rsv 2 2 p.payload = true → 0 < m → m < 512 →
    let u := begun 0x0501 p s
    let v := recheck (commitCopies cs u)
    (∀ n ∈ safPoints m, hasPoint u n = true) → Takes u (safIds m) cs → safCross u cs m = true →
    (∀ n ∈ safPoints m, contactorShut u n = false) → (bit m 0 = true → ∀ n, hasPoint u n = true → contactorShut u n = false) →
    exec (.safCommit p) s = .next (finish (flightOf 0x0501 p s) (le 8 s.clk.time)
      (if rstEn (sdB v) then v else { v with safeDev.srStuck := false })) ∧
    ∀ c, cs = [c] → committedCopy v c.id = some { c with tCommit := s.clk.time, bstate := 1 }) ∧
  (∀ (n : Fin 8) (s : State), hasPoint s n = true → (saf (recheck s) n).check = checkValue s n) ∧
  (∀ (p : Pkt) (s : State) (n : Fin 8), taken 0x0502 p s = true → p.payload = [BitVec.ofNat 8 (n.1 + 1), 0, 0, 0] → hasPoint s n = true →
    let u := begun 0x0502 p s
    let x := nvp u n
    let y := saf u n
    exec (.safStatus p) s = .next (finish (flightOf 0x0502 p s) (le 8 s.clk.time ++ le 1 (n.1 + 1) ++ le 1 (sstate u n) ++
      le 2 (holdBits u n).toNat ++ le 4 x.trip.toNat ++ le 8 x.tTrip ++ le 4 y.check ++
      le 4 (if x.confirmed = x.confirmed2 then x.confirmed else 0) ++ le 1 (autoResets u n) ++
      le 1 (b2n y.coil + 2 * b2n y.cutRead + 4 * b2n (auxClosed u n) + 8 * b2n y.lsv + 16 * b2n (safeStateHigh u)) ++ zeros 2 ++
      le 4 (testAge u n)) u)) ∧
  (∀ (p : Pkt) (s : State) (n : Fin 8), taken 0x0503 p s = true → p.payload.length = 8 → u8 0 p.payload = n.1 + 1 → rsv 1 3 p.payload = true →
    hasPoint s n = true →
    let u := begun 0x0503 p s
    let f := flightOf 0x0503 p s
    (holds u p.src 3 = true → u32 4 p.payload = (saf u n).check → ∃ t, exec (.safConfirm p) s = .next t ∧
      t = finish f [] (e77 n (confirmedOf u n) (saf u n).check
        { u with nvPt := vset u.nvPt n { nvp u n with confirmed := (saf u n).check, confirmed2 := (saf u n).check } }) ∧
      (nvp t n).confirmed = (saf s n).check ∧ (nvp t n).confirmed2 = (saf s n).check) ∧
    (holds u p.src 3 = false → exec (.safConfirm p) s = .next (complete f 0x0301 [] (deniedEvent f 8 u)))) ∧
  (∀ (p : Pkt) (s : State) (ns : List (Fin 8)), taken 0x0504 p s = true → p.payload.length = 4 → rsv 2 2 p.payload = true →
    let u := begun 0x0504 p s
    let f := flightOf 0x0504 p s
    resetPoints u (u8 0 p.payload) = some ns →
    let tests := ns.filter (pathDue u)
    let trips := ns.filter fun n => safResets u n && !((nvp u n).pathFail || (nvp u n).cutFault)
    let v := trips.foldl (fun t n => safResetPoint n t) { u with safeDev.resetMask := 0 }
    let welds := ns.filter fun n => (nvp u n).welded && heldFor u (saf u n).clearSince 1000000
    (u8 1 p.payload = 0 → holds u p.src 3 = true → tests = [] → trips ≠ [] → u.safeDev.resetCmd = none →
      exec (.safReset p) s = .next (finish f (le 2 v.safeDev.resetMask ++ zeros 2) { v with safeDev.resetMask := 0 })) ∧
    (u8 1 p.payload = 0 → holds u p.src 3 = true → tests ≠ [] → u.safeDev.resetCmd = none → exec (.safReset p) s = .next
      (tests.foldl (fun t n => modSafe n (fun x => { x with pathOnly := true }) (path1 n t)) { v with safeDev.resetCmd := some f })) ∧
    (u8 1 p.payload = 1 → holds u p.src 3 = true → welds ≠ [] → ∃ t, exec (.safReset p) s = .next t ∧
      t = finish f (le 2 ((welds.map fun n => 2 ^ n.1).sum) ++ zeros 2) (welds.foldl (fun t n => weldClear n t) u) ∧
      ∀ n ∈ welds, (nvp t n).welded = false ∧ (saf t n).openConf = true) ∧
    (u8 1 p.payload ≤ 1 → holds u p.src 3 = false → exec (.safReset p) s = .next (complete f 0x0301 [] (deniedEvent f 8 u)))) ∧
  (∀ (n : Fin 8) (s : State), safResets s n = true → ∃ t, safResetPoint n s = t ∧ (nvp t n).tripped = false ∧ (nvp t n).await = 0 ∧
    t.safeDev.resetMask = s.safeDev.resetMask ||| 2 ^ n.1) ∧
  (∀ (f : Flight) (s : State), s.safeDev.resetCmd = some f → (∀ n, hasPoint s n = true → (saf s n).pathOnly = false) →
    let v := { s with safeDev.resetCmd := none, safeDev.resetMask := 0 }
    resetReply s = if s.safeDev.resetMask = 0 then complete f 0x0201 [] v else finish f (le 2 s.safeDev.resetMask ++ [0, 0]) v) ∧
  (∀ (p : Pkt) (s : State) (n : Fin 8), taken 0x0D01 p s = true → hasPoint s n = true →
    let u := begun 0x0D01 p s
    let f := flightOf 0x0D01 p s
    (p.payload = [BitVec.ofNat 8 (n.1 + 1), 0, 0, 0] → ∃ t v, exec (.tstPoint p) s = .next t ∧ v = setOos n 0 u ∧
      t = finish f (le 4 (if (nvp u n).oos = 0 ∧ sessRuns u n then sessNo u n else 0) ++ le 2 (nvp v n).oos.toNat ++ zeros 2) v ∧
      (nvp t n).oos = (nvp s n).oos ||| 1 ∧ ((nvp u n).oos = 0 → sessRuns u n = true → (ses t n).ending ≠ none ∨ sessRuns t n = false)) ∧
    (p.payload = [BitVec.ofNat 8 (n.1 + 1), 1, 0, 0] →
      ((nvp u n).genFault = false ∨ genOk (pil u n).gen = true → ∃ t v, exec (.tstPoint p) s = .next t ∧
        v = pilotNote n (fun t => clearOos n 0x43 (modNvPt n (fun x => { x with genFault := false }) t)) u ∧
        t = finish f (zeros 4 ++ le 2 (nvp v n).oos.toNat ++ zeros 2) v ∧
        (nvp t n).oos = (nvp s n).oos &&& ~~~0x43 ∧ (nvp t n).genFault = false) ∧
      ((nvp u n).genFault = true → genOk (pil u n).gen = false → exec (.tstPoint p) s = .next (complete f 0x0201 [] u)))) ∧
  (∀ (p : Pkt) (s : State), taken 0x0D02 p s = true → p.payload = [] →
    let u := begun 0x0D02 p s
    exec (.tstDegraded p) s = .next (finish (flightOf 0x0D02 p s) (le 8 s.clk.time ++ le 2 (devFlags u) ++
      le 2 (groupMask u fun g => vget u.nvFe.degraded g) ++ le 2 (groupMask u (noRotation u)) ++ zeros 2 ++ (List.finRange 8).flatMap fun n =>
        le 2 (nvp u n).oos.toNat ++ le 1 (pmode u n) ++ le 1 (if hasPoint u n then pdeg u n else 0) ++ le 4 (nvp u n).tOos) u)) ∧
  (∀ (n : Fin 8) (r : Req) (s : State), (ses s n).req = some r → r.t0 + r.hostT * 1000000 ≤ s.clk.mono → appUp s = true →
    let b := modSess n (fun x => { x with
      bound := true, type := r.type, id := r.id, bpt := false, boundAt := s.clk.mono, limI := 0, limP := 0, limD := 0, req := none }) s
    let a := decision n 2 r.type (followSig n
      (if sessRuns s n then modSessP n (fun x => { x with authType := r.type, authId := r.id }) b else openSession n b))
    let d := decision n 6 r.type (modSess n (fun x => { x with req := none }) s)
    (r.offline = true → exec (.hostDecisionTimeout n) s = .next (flowDrain n (ses a n).waiting a)) ∧
    (r.offline = false → exec (.hostDecisionTimeout n) s = .next (flowDrain n (ses d n).waiting d) ∧ (ses d n).req = none ∧
      (ses d n).bound = (ses s n).bound)) ∧
  (∀ (n : Fin 8) (s : State), (ses s n).bound = true → appUp s = true → inA s n = true → (sep s n).closing = none →
    (ses s n).boundAt + bindT (authB s n) * 1000000 ≤ s.clk.mono →
    let u := decision n 9 (ses s n).type s
    (sessRuns s n = false → exec (.bindLapse n) s =
      .next (modSess n (fun x => { x with bound := false, type := 0, id := [], bpt := false, wantOpen := false }) u)) ∧
    (sessRuns s n = true → exec (.bindLapse n) s = .next (endNow n .unplugged u)))

/-! ## Earth supervision and switch channels -/

/-- EF_COMMIT with the named contactors open (every contactor, where MASK bit 0 is set) puts the blocks taken in effect and
answers T_APPLIED; a changed N_SEC or R_BUR makes the offset invalid and demands a measurement. EF_STATUS answers its fields
and changes nothing. EF_TEST with the contactor confirmed open starts the procedure and waits. OFFSET_MEASUREMENT with ten 20
ms means, each within 0.5 mA of their mean and no detector operating, takes their mean as the offset, is a sensor fault when
it exceeds 2 mA, and is repeated twice when invalid, the third time a sensor fault. RESIDUAL_MISMATCH compares with the
contactor closed only: at the CMP_Nth period in a row outside the limit it sets MISMATCH and takes the point out of service; a
period inside it, and one not compared, ends the run. TEST_WINDING_STEP_END goes from step to step while both cores pass,
stores M_DC and M_AC, ends with a pass after step 5, where EF_TEST clears the sensor fault and the mismatch and is answered,
and fails with a sensor fault. A due or daily test starts with the contactor confirmed open. EARTH_TRIGGER_CLEAR starts the
offset measurement that clears the trigger. INSULATION_STEP_END keeps the pole voltages of step 0 and switches R_UNB on,
switches it off after step 1, where the values of R216 and the status of R217 follow for voltages within 2 %; a step below 100
V is NO_VOLTAGE, and an unsettled one leaves the status. A PE_CHK low level of 1 ms in a positive half-cycle is recognised and
ends the loss; another does nothing. -/
def Obligations.EarthCompletes : Prop :=
  (∀ (p : Pkt) (s : State) (m : Nat) (cs : List BlkCopy), taken 0x0510 p s = true → p.payload.length = 4 → u16 0 p.payload = m →
    rsv 2 2 p.payload = true → 0 < m → m < 2 ^ 13 →
    let u := begun 0x0510 p s
    let v := ((List.finRange 8).filter fun n => bit m (n.1 + 1)).foldl (fun t n => rcdApplied (rcdB u n) n t) (commitCopies cs u)
    (∀ n ∈ efPoints m, hasPoint u n = true) → Takes u (efIds m) cs → (∀ n ∈ efPoints m, contactorShut u n = false) →
    (bit m 0 = true → ∀ n, hasPoint u n = true → contactorShut u n = false) → ∃ t, exec (.efCommit p) s = .next t ∧
      t = finish (flightOf 0x0510 p s) (le 8 s.clk.time) (recheck (if bit m 0 then peApplied v else v)) ∧
      (∀ c, cs = [c] → committedCopy t c.id = some { c with tCommit := s.clk.time, bstate := 1 }) ∧
      (∀ n : Fin 8, bit m (n.1 + 1) = true → nSec (rcdB u n) ≠ nSec (rcdB t n) ∨ rBur (rcdB u n) ≠ rBur (rcdB t n) →
        (ear t n).offOk = false ∧ (ear t n).offRun = true)) ∧
  (∀ (p : Pkt) (s : State) (n : Fin 8), taken 0x0511 p s = true → p.payload = [BitVec.ofNat 8 (n.1 + 1), 0, 0, 0] → hasPoint s n = true →
    let u := begun 0x0511 p s
    let e := ear u n
    let d := vget e.res 0
    exec (.efStatus p) s = .next (finish (flightOf 0x0511 p s) (le 8 s.clk.time ++ le 1 (n.1 + 1) ++ le 1 (if dcPoint u n then e.iso else 0) ++
      le 1 (peStatus u) ++ [0] ++ le 4 (rflags u n) ++ leInt 4 e.offset ++ leInt 4 d.iDc ++ le 4 d.iAc ++ le 4 d.iWb ++ le 4 e.iCalc ++
      le 4 e.rIso ++ le 4 e.rIsoP ++ le 4 e.rIsoN ++ le 4 e.uBus ++ le 4 u.earthDev.uNpe ++ le 8 (nvp u n).tTest) u)) ∧
  (∀ (p : Pkt) (s : State) (n : Fin 8), taken 0x0512 p s = true → p.payload = [BitVec.ofNat 8 (n.1 + 1), 0, 0, 0] → hasPoint s n = true →
    let u := begun 0x0512 p s
    confirmedOpen u n = true → (ear u n).tst = 0 → exec (.efTest p) s = .next (testStart n (some (flightOf 0x0512 p s)) u) ∧
      (ear (testStart n (some (flightOf 0x0512 p s)) u) n).tst = 1) ∧
  (∀ (n : Fin 8) (s : State), (ear s n).offRun = true → (ear s n).tst = 0 → confirmedOpen s n = true → 10 ≤ (ear s n).offMeans.length →
    let e := ear s n
    let anew := fun (e' : Earth) => { s with earth := vset s.earth n { e' with offMeans := [], offAcc := (0, 0) } }
    (∀ o, offsetOf e e.offMeans = some o → o.natAbs ≤ 2000 → ∃ t, exec (.offsetMeasurement n) s = .next t ∧
      t = { s with earth := t.earth, ev := t.ev, led := t.led, p100 := t.p100 } ∧ t.earth = vset s.earth n { e with
        offMeans := [], offAcc := (0, 0), offset := o, offOk := true, offRun := false, offTry := 0, pend := e.pend && !e.clrOff, clrOff := false }) ∧
    (∀ o, offsetOf e e.offMeans = some o → 2000 < o.natAbs →
      exec (.offsetMeasurement n) s = .next (setSensorFault n o (anew { e with offRun := false, offTry := 0 }))) ∧
    (offsetOf e e.offMeans = none → 2 ≤ e.offTry →
      exec (.offsetMeasurement n) s = .next (setSensorFault n (meanI e.offMeans) (anew { e with offRun := false, offTry := 0 }))) ∧
    (offsetOf e e.offMeans = none → e.offTry < 2 → (anyOp e && e.clrOff) = false →
      exec (.offsetMeasurement n) s = .next (anew { e with offTry := e.offTry + 1 })) ∧
    (offsetOf e e.offMeans = none → e.offTry < 2 → (anyOp e && e.clrOff) = true → exec (.offsetMeasurement n) s =
      .next (anew { e with offRun := false, clrOff := false, offTry := e.offTry + 1, lowSince := none }))) ∧
  (∀ (e : Earth) (ms : List Int) (o : Int), offsetOf e ms = some o ↔ (anyOp e = false ∧ ms.length = 10 ∧ o = meanI ms ∧ ∀ m ∈ ms, (m - o).natAbs ≤ 500)) ∧
  (∀ (n : Fin 8) (v : Int) (s : State), (nvp s n).sensorFault = false → ∃ t, setSensorFault n v s = t ∧
    (nvp t n).sensorFault = true ∧ (nvp t n).oos.getLsbD 4 = true) ∧
  (∀ (n : Fin 8) (s : State),
    let b := rcdB s n
    let c := rmsI 0 ((ear s n).comp.take (match trackedPeriod s (n.1 + 1) with | some p => periodSamples p | none => 1250))
    let r := resRms s n
    let out := decide (max (cmpMin b * 1000) (largestRms s n * cmpPct b / 1000) < (c - r) + (r - c))
    let run := if out then (ear s n).misRun + 1 else 0
    let kept := { s with earth := vset s.earth n { ear s n with iCalc := c, misRun := min (cmpN b) run } }
    ((ear s n).compAvail = false → exec (.residualMismatch n) s = .next { s with earth := vset s.earth n { ear s n with misRun := 0 } }) ∧
    ((ear s n).compAvail = true → (saf s n).closed = false ∨ xchkEn b = false →
      exec (.residualMismatch n) s = .next { s with earth := vset s.earth n { ear s n with iCalc := c, misRun := 0 } }) ∧
    ((ear s n).compAvail = true → (saf s n).closed = true → xchkEn b = true →
      (cmpN b ≤ run → (nvp s n).mismatch = false → ∃ t, exec (.residualMismatch n) s = .next t ∧
        t = setOos n 4 (e63 n 4 true c 0 { kept with nvPt := vset s.nvPt n { nvp s n with mismatch := true } }) ∧
        (nvp t n).mismatch = true ∧ (nvp t n).oos.getLsbD 4 = true) ∧
      (run < cmpN b ∨ (nvp s n).mismatch = true → exec (.residualMismatch n) s = .next kept))) ∧
  (∀ (n : Fin 8) (s : State),
    let e := ear s n
    let kept := modEarth n (fun x => { x with
      mDc := if e.tst = 3 then (vget e.res 0).iDc else x.mDc, mAc := if e.tst = 4 then (vget e.res 0).iAc else x.mAc }) s
    let anew := modEarth n (fun x => { x with offMeans := [], offAcc := (0, 0) }) s
    (e.tst = 1 → 10 ≤ e.offMeans.length →
      (∀ o, offsetMean e.offMeans = some o → o.natAbs ≤ 2000 →
        exec (.testWindingStepEnd n) s = .next (testStep n 2 (offsetPass n o anew)) ∧ (ear (offsetPass n o anew) n).offset = o) ∧
      ((∃ o, offsetMean e.offMeans = some o ∧ 2000 < o.natAbs) ∨ (offsetMean e.offMeans = none ∧ 2 ≤ e.offTry) →
        exec (.testWindingStepEnd n) s = .next (testEnd n 1 anew)) ∧
      (offsetMean e.offMeans = none → e.offTry < 2 →
        exec (.testWindingStepEnd n) s = .next (modEarth n (fun x => { x with offTry := x.offTry + 1 }) anew))) ∧
    (2 ≤ e.tst → e.tst ≤ 5 → e.tstAt + (if e.tst = 2 then 200000 else 100000) ≤ s.clk.mono →
      let passes := ∀ k : Fin 2, corePasses e.tst e.tstAt (vget e.res k) = true
      (passes → e.tst ≠ 5 → exec (.testWindingStepEnd n) s = .next (testStep n (e.tst + 1) kept)) ∧
      (passes → e.tst = 5 → exec (.testWindingStepEnd n) s = .next (testEnd n 0 kept)) ∧
      (¬ passes → exec (.testWindingStepEnd n) s = .next (testEnd n e.tst kept)))) ∧
  (∀ (n : Fin 8) (s : State), ∃ t, testEnd n 0 s = t ∧ (ear t n).tst = 0 ∧ (ear t n).tstFailed = false ∧ (nvp t n).tTest = s.clk.time ∧
    ∀ f, (ear s n).tstCmd = some f → (nvp t n).sensorFault = false ∧ (nvp t n).mismatch = false ∧
      ∀ g ∈ t.port.flights, g ∈ s.port.flights ∧ g.no ≠ f.no) ∧
  (∀ (n : Fin 8) (k : Nat) (s : State), k ≠ 0 → ∃ t, testEnd n k s = t ∧ (ear t n).tst = 0 ∧ (ear t n).tstFailed = true ∧
    (nvp t n).sensorFault = true) ∧
  (∀ (n : Fin 8) (s : State), hasPoint s n = true → (ear s n).tstDue = true ∨ dailyDue s n = true → (ear s n).tst = 0 → confirmedOpen s n = true →
    (saf s n).path = 0 → (saf s n).reqClose = false ∨ testFresh s n = false → (committed s (0x0511 + n.1)).isSome = true →
    exec (.testWindingDue n) s = .next (testStart n none
      (modEarth n (fun e => { e with dailyAt := if dailyDue s n then max 1 s.clk.mono else e.dailyAt }) s))) ∧
  (∀ (n : Fin 8) (t0 : Nat) (s : State), (ear s n).pend = true → (ear s n).lowSince = some t0 → t0 + 1000000 ≤ s.clk.mono →
    (saf s n).openConf = true → (ear s n).clrOff = false →
    exec (.earthTriggerClear n) s = .next (modEarth n (fun e => { e with offRun := true, clrOff := true }) s)) ∧
  (∀ (n : Fin 8) (step tapP tapN us : Nat) (settled : Bool) (s : State), dcPoint s n = true → (committed s (0x0521 + n.1)).isSome = true →
    tStep (isoB s n) * 1000 ≤ us → step ≤ 1 →
    let vp := poleVolt s n tapP
    let vn := poleVolt s n tapN
    let off := { s with earth := vset s.earth n { ear s n with isoV0 := none, isoDrv := false } }
    let good := settled = true ∧ us ≤ 4 * tStep (isoB s n) * 1000
    (vp + vn < 100000 → exec (.insulationStepEnd n step tapP tapN us settled) s = .next (setIso n 1 off)) ∧
    (100000 ≤ vp + vn → ¬ good → exec (.insulationStepEnd n step tapP tapN us settled) s = .next off) ∧
    (100000 ≤ vp + vn → good → step = 0 → exec (.insulationStepEnd n step tapP tapN us settled) s =
      .next { s with earth := vset s.earth n { ear s n with isoV0 := some (vp, vn), isoAt := s.clk.mono - us, isoDrv := true } }) ∧
    (100000 ≤ vp + vn → good → step = 1 → (ear s n).isoV0 = none → exec (.insulationStepEnd n step tapP tapN us settled) s = .next off) ∧
    (∀ v0, 100000 ≤ vp + vn → good → step = 1 → (ear s n).isoV0 = some v0 →
      exec (.insulationStepEnd n step tapP tapN us settled) s = .next (isoCycle n v0 vp vn off))) ∧
  (∀ (n : Fin 8) (v0 : Nat × Nat) (vp vn : Nat) (s : State) (ga gb den : Int), (ear s n).isoV0 = none →
    ((v0.1 + v0.2) * 2 < ((v0.1 + v0.2 - (vp + vn)) + (vp + vn - (v0.1 + v0.2))) * 100 → isoCycle n v0 vp vn s = s) ∧
    (((v0.1 + v0.2 - (vp + vn)) + (vp + vn - (v0.1 + v0.2))) * 100 ≤ (v0.1 + v0.2) * 2 → isoCond (isoB s n) v0.1 v0.2 vp vn = some (ga, gb, den) →
      (hl s n).dcStep ≠ 3 → isoCycle n v0 vp vn s = setIso n (isoStatus (isoB s n) (dcMaxU (hlcB s n)) (ga + gb) den)
        { s with earth := vset s.earth n { ear s n with
          rIso := ohmsOf (ga + gb) den, rIsoP := ohmsOf ga den, rIsoN := ohmsOf gb den, uBus := vp + vn } })) ∧
  (∀ (us : Nat) (s : State), peChkEn (peB s) = true →
    (1000 ≤ us → peCounts s = true → ∃ t, exec (.peChkPulse us) s = .next t ∧
      t = { s with earthDev := t.earthDev, ev := t.ev, led := t.led, p100 := t.p100 } ∧
      t.earthDev = { s.earthDev with peSeen := true, peMiss := 0, peLoss := false }) ∧
    (us < 1000 ∨ peCounts s = false → exec (.peChkPulse us) s = .next s))

/-- A current above I_SC, an over-current of OC_T while ON, and a junction at 165 °C switch a conducting channel off: TRIPPED with
its detector, its counter risen by 1 up to 15, the latch its settings ask for, and no other channel changed where it drives no
coil; on a contactor's coil LATCH_COIL is set and the point trips with CLOSE_FAIL; on the supply contactor LATCH_COIL is set
and the contactor stays commanded off. On a lock bridge the drive stops. None of the three does anything to a channel that
does not conduct, nor below its threshold. Under-voltage puts each conducting channel in UV_OFF, with the counter as it was;
on a coil the point trips. Its release puts a commanded channel in INRUSH and the others off. The inrush window ends in ON. A
restart evaluation restarts a channel that may restart, blocks one that is latched or at RETRY_MAX, and leaves the others. 10
s of ON lower the counter by 1. An off-state test finds an open load above 2 V, of a bridge at either half. An on-state
current below 20 mA (HS) or 5 mA (LP) for 1 s is an open load, on a coil a finding of its point, and a larger one clears it.
After T_PULL the economiser sets the hold duty min(100 %, HOLD_V ÷ VSYS), and E88 follows where HOLD_V cannot be reached. A
feedback level that has stood for FB_DEB is taken by each core, with E84 for each coil channel whose contact it changes. -/
def Obligations.ChannelProtectionCompletes : Prop :=
  (∀ (c : Fin 24) (det ma : Nat) (s : State), conducts s c = true → ∃ t, channelTrip c det ma s = t ∧
    (vget t.nvCh c).retry = satAdd 4 (vget s.nvCh c).retry 1 ∧ (vget t.nvCh c).sc = ((vget s.nvCh c).sc || (det == 1 && scLatch (chP s c.1))) ∧
    (vget t.nvCh c).therm = ((vget s.nvCh c).therm || (det == 3 && thermLatch (chP s c.1))) ∧
    (chRole (chP s c.1) ≠ 2 → t = { s with sw := t.sw, nvCh := t.nvCh, ev := t.ev, led := t.led, p100 := t.p100 } ∧
      t.sw = { s.sw with ch := vset s.sw.ch c { vget s.sw.ch c with st := .tripped, offAt := s.clk.mono, det, cur := ma, hold := 1000 } } ∧
      ∀ j, j ≠ c → vget t.nvCh j = vget s.nvCh j) ∧
    (∀ n, chRole (chP s c.1) = 2 → isSupply s c.1 = false → pointOfCoil s c = some n →
      (vget t.nvCh c).coil = true ∧ (nvp t n).trip.getLsbD 10 = true ∧ (nvp t n).tripped = true ∧ (saf t n).coil = false) ∧
    (chRole (chP s c.1) = 2 → isSupply s c.1 = true →
      (vget t.nvCh c).coil = true ∧ t.bill.supOn = false ∧ (vget t.sw.ch c).cmd = false ∧ (vget t.p100.m 0).ppState = .ppFault)) ∧
  (∀ (c : Fin 24) (det ma : Nat) (s : State), conducts s c = false → channelTrip c det ma s = s) ∧
  (∀ (c : Fin 32) (k : Fin 24) (ma : Nat) (temp : Int) (s : State), chanOf s c.1 = some k →
    (chIsc c.1 < ma → exec (.shortCircuit c ma) s = .next (channelTrip k 1 ma s)) ∧
    (16500 ≤ temp → exec (.channelThermal c temp) s = .next (channelTrip k 3 (vget s.sw.ch k).cur.natAbs (modChan k (fun x => { x with temp }) s)))) ∧
  (∀ (n : Fin 8) (ma : Nat) (temp : Int) (s : State),
    let c : Fin 32 := ⟨24 + n.1, by omega⟩
    let off := fun (det : Nat) (l : Lock) (t : State) => t = { s with sw := t.sw, ev := t.ev, led := t.led, p100 := t.p100 } ∧
      t.sw = { s.sw with lk := vset s.sw.lk n { l with drive := 0, brake := true, tripped := det, cur := 0, t0 := s.clk.mono } }
    ((vget s.sw.lk n).drive ≠ 0 → chIsc c.1 < ma → ∃ t, exec (.shortCircuit c ma) s = .next t ∧ off 1 (vget s.sw.lk n) t) ∧
    ((vget s.sw.lk n).drive = 0 → exec (.shortCircuit c ma) s = .next s) ∧
    (16500 ≤ temp → (vget s.sw.lk n).drive ≠ 0 → ∃ t, exec (.channelThermal c temp) s = .next t ∧ off 3 { vget s.sw.lk n with temp } t) ∧
    (16500 ≤ temp → (vget s.sw.lk n).drive = 0 → exec (.channelThermal c temp) s = .next (modLock n (fun l => { l with temp }) s))) ∧
  (∀ (c : Fin 32) (ma : Nat) (temp : Int) (s : State), (ma ≤ chIsc c.1 → exec (.shortCircuit c ma) s = .next s) ∧
    (temp < 16500 → exec (.channelThermal c temp) s = .next s)) ∧
  (∀ (c : Fin 24) (ma us : Nat) (s : State),
    ((vget s.sw.ch c).st = .on → ocLim c.1 (chP s c.1) < ma → ocT (chP s c.1) * 1000 ≤ us →
      exec (.channelOvercurrent c ma us) s = .next (channelTrip c 2 ma s)) ∧
    ((vget s.sw.ch c).st ≠ .on ∨ ma ≤ ocLim c.1 (chP s c.1) ∨ us < ocT (chP s c.1) * 1000 → exec (.channelOvercurrent c ma us) s = .next s)) ∧
  (∀ (mv us : Nat) (s : State),
    (mv < 15000 → 50 ≤ us → s.sw.uv = false → ∃ t, exec (.supplyUnderVoltage mv us) s = .next t ∧ t.sw.uv = true ∧ t.nvCh = s.nvCh ∧
      (∀ c, conducts s c = true → chRole (chP s c.1) ≠ 2 →
        vget t.sw.ch c = { vget s.sw.ch c with st := .uvOff, offAt := s.clk.mono, det := 4, hold := 1000 }) ∧
      (∀ c, conducts t c = false) ∧
      (∀ c n, conducts s c = true → chRole (chP s c.1) = 2 → isSupply s c.1 = false → pointOfCoil s c = some n →
        (nvp t n).trip.getLsbD 10 = true ∧ (saf t n).coil = false)) ∧
    (15000 ≤ mv ∨ us < 50 ∨ s.sw.uv = true → exec (.supplyUnderVoltage mv us) s = .next s)) ∧
  (∀ (mv us : Nat) (s : State), (16000 ≤ mv → 1000 ≤ us → s.sw.uv = true → ∃ t, exec (.underVoltageRelease mv us) s = .next t ∧
      t = { s with sw := t.sw, ev := t.ev, led := t.led, p100 := t.p100 } ∧ t.sw = { s.sw with uv := false, ch := t.sw.ch } ∧
      ∀ c, vget t.sw.ch c = if (vget s.sw.ch c).st ≠ .uvOff then vget s.sw.ch c else if (vget s.sw.ch c).cmd then
        { vget s.sw.ch c with st := .inrush, onAt := s.clk.mono } else { vget s.sw.ch c with st := .off }) ∧
    (mv < 16000 ∨ us < 1000 ∨ s.sw.uv = false → exec (.underVoltageRelease mv us) s = .next s)) ∧
  (∀ (c : Fin 24) (s : State), (vget s.sw.ch c).st = .inrush → (vget s.sw.ch c).onAt + inrushT (chP s c.1) * 1000 ≤ s.clk.mono →
    exec (.inrushWindowEnd c) s = .next { s with sw.ch := vset s.sw.ch c { vget s.sw.ch c with st := .on, goodAt := s.clk.mono } }) ∧
  (∀ (c : Fin 24) (temp : Int) (s : State), (vget s.sw.ch c).st = .tripped ∨ (vget s.sw.ch c).st = .blocked →
    (vget s.sw.ch c).offAt + retryT (chP s c.1) * 1000 ≤ s.clk.mono →
    let x := vget s.sw.ch c
    let barred := retryMax (chP s c.1) ≤ (vget s.nvCh c).retry ∨ latched s c = true
    let may := autoRestart (chP s c.1) = true ∧ chRole (chP s c.1) ≠ 2 ∧ x.cmd = true ∧ temp ≤ 14500 ∧ ¬ barred ∧ s.sw.uv = false
    (may → exec (.restartEvaluation c temp) s = .next (pulse 80 (prm [(1, c.1), (1, x.det), (4, x.cur.natAbs)])
      { s with sw.ch := vset s.sw.ch c { x with st := .inrush, onAt := s.clk.mono, temp } })) ∧
    (barred → exec (.restartEvaluation c temp) s = .next { s with sw.ch := vset s.sw.ch c { x with st := .blocked, offAt := s.clk.mono, temp } }) ∧
    (¬ may → ¬ barred → exec (.restartEvaluation c temp) s = .next { s with sw.ch := vset s.sw.ch c { x with offAt := s.clk.mono, temp } })) ∧
  (∀ (c : Fin 24) (s : State), (vget s.sw.ch c).st = .on → (vget s.sw.ch c).goodAt + 10000000 ≤ s.clk.mono →
    exec (.retryCounterDecay c) s = .next { s with
      sw.ch := vset s.sw.ch c { vget s.sw.ch c with goodAt := s.clk.mono }
      nvCh := vset s.nvCh c { vget s.nvCh c with retry := (vget s.nvCh c).retry - 1 } }) ∧
  (∀ (c : Fin 32) (k : Fin 24) (mv mvB : Nat) (s : State), chanOf s c.1 = some k →
    (offTestRuns s k = true → exec (.offStateTest c mv mvB) s = .next (e82 c.1 0 (decide (2000 < mv))
      { s with sw.ch := vset s.sw.ch k { vget s.sw.ch k with olOff := decide (2000 < mv) } })) ∧
    (offTestRuns s k = false → exec (.offStateTest c mv mvB) s = .next s)) ∧
  (∀ (n : Fin 8) (mv mvB : Nat) (s : State), hasPoint s n = true → (vget s.sw.lk n).drive = 0 →
    exec (.offStateTest ⟨24 + n.1, by omega⟩ mv mvB) s = .next (e82 (24 + n.1) 0 (decide (2000 < mv) || decide (2000 < mvB))
      { s with sw.lk := vset s.sw.lk n { vget s.sw.lk n with olOff := decide (2000 < mv) || decide (2000 < mvB) } })) ∧
  (∀ (c : Fin 24) (ma us : Nat) (s : State),
    let low := ma < if c.1 < 16 then 20 else 5
    let u := fun (on : Bool) => e82 c.1 1 on { s with sw.ch := vset s.sw.ch c { vget s.sw.ch c with olOn := on, cur := ma } }
    (onTestRuns s c = true → low → 1000000 ≤ us →
      exec (.onStateOpenLoad c ma us) s = .next (if chRole (chP s c.1) = 2 then coilFinding c (u true) else u true)) ∧
    (onTestRuns s c = true → ¬ low → exec (.onStateOpenLoad c ma us) s = .next (u false)) ∧
    (onTestRuns s c = false ∨ (low ∧ us < 1000000) → exec (.onStateOpenLoad c ma us) s = .next s)) ∧
  (∀ (c : Fin 24) (n : Fin 8) (s : State), isSupply s c.1 = false → pointOfCoil s c = some n → ∃ t, coilFinding c s = t ∧
    (vget t.nvCh c).coil = true ∧ (nvp t n).trip.getLsbD 10 = true ∧ (saf t n).coil = false) ∧
  (∀ (c : Fin 24) (mv : Nat) (s : State), chRole (chP s c.1) = 2 → conducts s c = true →
    (vget s.sw.ch c).onAt + tPull (chP s c.1) * 1000 ≤ s.clk.mono → holdV (chP s c.1) ≠ 0 → 0 < mv →
    let short := decide (mv < holdV (chP s c.1))
    let u := { s with sw.ch := vset s.sw.ch c { vget s.sw.ch c with hold := min 1000 (convN (holdV (chP s c.1) * 1000) mv), e88 := short } }
    exec (.economiserUpdate c mv) s = .next (if short = true ∧ (vget s.sw.ch c).e88 = false then pulse 88 (prm [(1, c.1), (2, mv)]) u else u)) ∧
  (∀ (k : Fin 16) (high : Bool) (us0 us1 : Nat) (s : State), ∃ t, exec (.feedbackChange k high us0 us1) s = .next t ∧
    t = { s with sw := t.sw, ev := t.ev, led := t.led, p100 := t.p100 } ∧ t.sw = { s.sw with
      fb := if fbSettled s k.1 us0 then vset s.sw.fb k high else s.sw.fb
      fb1 := if fbSettled s k.1 us1 then vset s.sw.fb1 k high else s.sw.fb1 } ∧
    ((∀ c ∈ coilsOfFb s k.1, auxOf t c.1 = auxOf s c.1) → t.ev = s.ev) ∧
    (∀ c, coilsOfFb s k.1 = [c] → auxOf t c.1 ≠ auxOf s c.1 → t = pulse 84 (prm [(1, c.1), (1, b2n high)]) { s with sw := t.sw }))

/-- LOCK_OPERATION starts the lock a session needs, the unlock after one with the contactor confirmed open and no voltage, or the
repetition of an operation a reset cut. LOCK_DRIVE_END brakes the bridge when LK_PULSE is over or a motor stalls; after the
drive in the other direction it drives again, an unlock only while it may run. LKSn's level is taken after 10 ms, by SNS_POL.
LOCK_CONFIRM ends the operation where the required position shows within LK_CONF, with E85, answering the command that asked
for it; after LK_CONF it drives the other direction, and after the last attempt the point has LOCK_FAULT and is out of
service, the command answered. LOCK_LOST, unlocked for 100 ms with the contactor closed, is a lock fault. Limp-home is in
force exactly when LH_EN is high and the application side is away; then every mapped channel is commanded as its inputs ask,
and on entry every bridge brakes, its operation to be repeated. -/
def Obligations.LocksAndLimpHomeComplete : Prop :=
  (∀ (n : Fin 8) (s : State), hasPoint s n = true → lkEn (lkB s n) = true → (vget s.sw.lk n).op = 0 → (nvp s n).lockFault = false → lockUp s = true →
    let l := vget s.sw.lk n
    let go := fun (op : Nat) (l' : Lock) => { s with
      sw.lk := vset s.sw.lk n { l' with op, tries := 1, back := false, drive := op, brake := false, t0 := s.clk.mono, tripped := 0 } }
    (l.needLock = true → exec (.lockOperation n) s = .next (go 1 l)) ∧
    (l.needLock = false → l.wantUnlock = true → unlockOk s n = true → exec (.lockOperation n) s = .next (go 2 l)) ∧
    (l.needLock = false → l.wantUnlock = false → l.repeatOp = 1 → l.lks = false → exec (.lockOperation n) s = .next (go 1 { l with repeatOp := 0 })) ∧
    (l.needLock = false → l.wantUnlock = false → l.repeatOp = 2 → l.lks = true → unlockOk s n = true →
      exec (.lockOperation n) s = .next (go 2 { l with repeatOp := 0 }))) ∧
  (∀ (n : Fin 8) (ma us : Nat) (s : State),
    let l := vget s.sw.lk n
    let stalls := lkMotor (lkB s n) = true ∧ lkStall (lkB s n) < ma ∧ 20000 ≤ us
    (l.drive ≠ 0 → stalls ∨ l.t0 + lkPulse (lkB s n) * 1000 ≤ s.clk.mono →
      (l.back = false → exec (.lockDriveEnd n ma us) s = .next { s with
        sw.lk := vset s.sw.lk n { l with drive := 0, brake := true, t0 := s.clk.mono, cur := ma } }) ∧
      (l.back = true → l.op ≠ 2 ∨ unlockOk s n = true → exec (.lockDriveEnd n ma us) s = .next { s with
        sw.lk := vset s.sw.lk n { l with back := false, tries := l.tries + 1, drive := l.op, brake := false, t0 := s.clk.mono, tripped := 0 } }) ∧
      (l.back = true → l.op = 2 → unlockOk s n = false → exec (.lockDriveEnd n ma us) s = .next { s with
        sw.lk := vset s.sw.lk n { l with op := 0, drive := 0, brake := true, back := false, wantUnlock := true } })) ∧
    (l.drive = 0 ∨ (¬ stalls ∧ s.clk.mono < l.t0 + lkPulse (lkB s n) * 1000) → exec (.lockDriveEnd n ma us) s = .next s)) ∧
  (∀ (n : Fin 8) (high : Bool) (us : Nat) (s : State), lockSense n high us s = if us < 10000 then s else { s with
    sw.lk := vset s.sw.lk n { vget s.sw.lk n with lks := high == snsPol (lkB s n) } }) ∧
  (∀ (n : Fin 8) (high : Bool) (us : Nat) (s : State),
    let u := lockSense n high us s
    let l := vget u.sw.lk n
    let good := l.back = false ∧ l.lks = (l.op == 1) ∧ s.clk.mono ≤ l.t0 + lkConf (lkB s n) * 1000
    (l.op = 0 ∨ l.drive ≠ 0 → exec (.lockConfirm n high us) s = .next u) ∧
    (l.op ≠ 0 → l.drive = 0 → good → exec (.lockConfirm n high us) s = .next (lockDone n u)) ∧
    (l.op ≠ 0 → l.drive = 0 → ¬ good → s.clk.mono < l.t0 + lkConf (lkB s n) * 1000 → exec (.lockConfirm n high us) s = .next u) ∧
    (l.op ≠ 0 → l.drive = 0 → ¬ good → l.t0 + lkConf (lkB s n) * 1000 ≤ s.clk.mono →
      (l.back = true → exec (.lockConfirm n high us) s = .next (lockDrive n false u)) ∧
      (l.back = false → l.tries ≤ lkRetry (lkB s n) → exec (.lockConfirm n high us) s = .next (lockDrive n true u)) ∧
      (l.back = false → lkRetry (lkB s n) < l.tries → exec (.lockConfirm n high us) s = .next (lockFailed n u)))) ∧
  (∀ (n : Fin 8) (back : Bool) (s : State), (vget s.sw.lk n).op ≠ 2 ∨ unlockOk s n = true →
    let l := vget s.sw.lk n
    lockDrive n back s = { s with sw.lk := vset s.sw.lk n { l with
      back, tries := if back then l.tries else l.tries + 1, drive := if back then 3 - l.op else l.op, brake := false
      t0 := s.clk.mono, tripped := 0 } }) ∧
  (∀ (n : Fin 8) (s : State), ∃ t, lockDone n s = t ∧ (vget t.sw.lk n).op = 0 ∧ (vget t.sw.lk n).cmd = none ∧
    (vget t.sw.lk n).lks = ((vget s.sw.lk n).op == 1) ∧ ((vget s.sw.lk n).op = 1 → (vget t.sw.lk n).needLock = false) ∧
    ((vget s.sw.lk n).op = 2 → (vget t.sw.lk n).wantUnlock = false) ∧ ((vget s.sw.lk n).cmd = none → t.port.flights = s.port.flights) ∧
    (∀ f, (vget s.sw.lk n).cmd = some f → ∀ g ∈ t.port.flights, g ∈ s.port.flights ∧ g.no ≠ f.no)) ∧
  (∀ (n : Fin 8) (s : State), ∃ t, lockFailed n s = t ∧ (nvp t n).lockFault = true ∧ (nvp t n).oos.getLsbD 5 = true ∧
    (vget t.sw.lk n).op = 0 ∧ (∀ f, (vget s.sw.lk n).cmd = some f → ∀ g ∈ t.port.flights, g ∈ s.port.flights ∧ g.no ≠ f.no)) ∧
  (∀ (n : Fin 8) (high : Bool) (us : Nat) (s : State), 100000 ≤ us → ∃ t, exec (.lockLost n high us) s = .next t ∧
    (hasPoint s n = true → lkEn (lkB s n) = true → (saf s n).closed = true → high ≠ snsPol (lkB s n) → (nvp s n).lockFault = false →
      t = setOos n 5 (setLockFault n true (lockSense n high us s)) ∧ (nvp t n).lockFault = true ∧ (nvp t n).oos.getLsbD 5 = true) ∧
    (hasPoint s n = false ∨ lkEn (lkB s n) = false ∨ (saf s n).closed = false ∨ high = snsPol (lkB s n) ∨ (nvp s n).lockFault = true →
      t = lockSense n high us s)) ∧
  (∀ (lhEn refreshed : Bool) (s : State), exec (.limpHomeChange lhEn refreshed) s =
    .next (followLimp { s with sw.lhEn := lhEn, sw.stale := s.sw.stale && !refreshed })) ∧
  (∀ s : State, ∃ t, followLimp s = t ∧ t = { s with sw := t.sw, ev := t.ev, led := t.led, p100 := t.p100 } ∧
    t.sw.limp = (s.sw.lhEn && appAway s) ∧ (t.sw.limp = s.sw.limp → t = s) ∧
    (t.sw.limp = true → s.sw.limp = false → (∀ c : Fin 24, (vget t.sw.ch c).cmd =
        if inLimpMap s c.1 = true then lhOn s c.1 else (vget s.sw.ch c).cmd) ∧
      ∀ n : Fin 8, vget t.sw.lk n = if (vget s.sw.lk n).op = 0 then vget s.sw.lk n else
        { vget s.sw.lk n with op := 0, drive := 0, brake := true, repeatOp := (vget s.sw.lk n).op }) ∧
    (t.sw.limp = false → t.sw = { s.sw with limp := false })) ∧
  (∀ s : State, s.pwr.appRunning = true → s.pwr.inWarm = false → s.pwr.appResetAt = none → s.pwr.pstate = .run →
    exec .appRefreshTimeout s = .next (followLimp { s with sw.stale := true })) ∧
  (∀ (k : Fin 4) (high : Bool) (s : State), ∃ t, exec (.lhInputChange k high) s = .next t ∧ t = { s with sw := t.sw } ∧
    t.sw.lhIn = vset s.sw.lhIn k high ∧ (s.sw.limp = false → t = { s with sw.lhIn := t.sw.lhIn }) ∧
    (s.sw.limp = true → ∀ c : Fin 24, (vget t.sw.ch c).cmd = if inLimpMap s c.1 = true then lhOn t c.1 else (vget s.sw.ch c).cmd))

/-- SW_COMMIT of channels that are off, and of bridges whose point has no session, puts the copies taken in effect and answers
T_APPLIED. SW_SET 0 turns a host-driven channel off, 1 turns it on, and 2 sets its duty where its role is 3; a blocked
channel, and a latched one that is off, answer ST_STATE; a coil channel answers ST_DENIED and an unused one ST_STATE.
SW_STATUS answers its fields for a channel and for a bridge. SW_CLEAR clears a channel's latches, counter and findings, or a
bridge's LOCK_FAULT and the out-of-service bit LOCK. SW_SENSE selects the sense channel. SW_LOCK starts the operation and
waits, an unlock only where it may run. -/
def Obligations.SwitchCommandsComplete : Prop :=
  (∀ (p : Pkt) (s : State) (m : Nat) (cs : List BlkCopy), taken 0x0601 p s = true → p.payload = le 4 m → 0 < m → m < 2 ^ 32 →
    let u := begun 0x0601 p s
    (∀ i ∈ maskChans m, hasIndex u i = true) → Takes u ((maskChans m).map (0x0601 + ·)) cs → fbDistinct u cs = true →
    (∀ i ∈ maskChans m, ∀ c, ix 24 i = some c → (vget u.sw.ch c).st = .off) →
    (∀ i ∈ maskChans m, 24 ≤ i → ∀ n, ix 8 (i - 24) = some n → sessOpen u n = false) →
    exec (.swCommit p) s = .next (finish (flightOf 0x0601 p s) (le 8 s.clk.time) (commitCopies cs u)) ∧
    ∀ c, cs = [c] → committedCopy (commitCopies cs u) c.id = some { c with tCommit := s.clk.time, bstate := 1 }) ∧
  (∀ (p : Pkt) (s : State) (c : Fin 24) (cmd d : Nat), taken 0x0602 p s = true → p.payload = le 1 c.1 ++ le 1 cmd ++ le 2 d → hasChan s c.1 = true →
    d ≤ 1000 → cmd ≤ 2 →
    let f := flightOf 0x0602 p s
    let w := begun 0x0602 p s
    let u := { w with sw.lhMapped := w.sw.lhMapped &&& ~~~(BitVec.ofNat 24 (2 ^ c.1)) }
    let role := chRole (chP w c.1)
    let st := (vget w.sw.ch c).st
    let stuck := st = .blocked ∨ (st = .off ∧ latched w c = true)
    ((role = 1 ∨ role = 3) → cmd = 0 → exec (.swSet p) s = .next (finish f [] (chanOff c u))) ∧
    ((role = 1 ∨ role = 3) → cmd = 1 → ¬ stuck → exec (.swSet p) s = .next (finish f [] (chanOn c 1000 u))) ∧
    (role = 3 → cmd = 2 → ¬ stuck → exec (.swSet p) s = .next (finish f [] (chanOn c d u))) ∧
    ((role = 1 ∧ cmd = 1) ∨ (role = 3 ∧ 1 ≤ cmd) → stuck → exec (.swSet p) s = .next (complete f 0x0201 [] w)) ∧
    (role = 1 → cmd = 2 → exec (.swSet p) s = .next (complete f 0x0103 [] w)) ∧
    (role = 2 → exec (.swSet p) s = .next (complete f 0x0301 [] (deniedEvent f 0 w))) ∧
    (role = 0 → exec (.swSet p) s = .next (complete f 0x0201 [] w))) ∧
  (∀ (c : Fin 24) (d : Nat) (s : State), (chanOff c s = { s with sw.ch := vset s.sw.ch c { vget s.sw.ch c with
      st := if s.sw.uv = true ∧ (vget s.sw.ch c).st = .uvOff then .uvOff else .off, cmd := false, duty := 0, hold := 1000
      offAt := if (vget s.sw.ch c).st = .off then (vget s.sw.ch c).offAt else s.clk.mono } }) ∧
    ((vget s.sw.ch c).st = .off → latched s c = false → chanOn c d s = { s with sw.ch := vset s.sw.ch c { vget s.sw.ch c with
      st := if s.sw.uv then .uvOff else .inrush, cmd := true, duty := d, hold := 1000, onAt := s.clk.mono } }) ∧
    ((vget s.sw.ch c).st ≠ .off → chanOn c d s = { s with sw.ch := vset s.sw.ch c { vget s.sw.ch c with cmd := true, duty := d, hold := 1000 } })) ∧
  (∀ (p : Pkt) (s : State) (c : Fin 24), taken 0x0603 p s = true → p.payload = [BitVec.ofNat 8 c.1, 0, 0, 0] → hasChan s c.1 = true →
    let u := begun 0x0603 p s
    let x := vget u.sw.ch c
    exec (.swStatus p) s = .next (finish (flightOf 0x0603 p s) (le 8 s.clk.time ++ le 1 c.1 ++ le 1 (chCode x.st) ++
      le 2 (b2n (x.det == 1) + 2 * b2n (x.det == 2) + 4 * b2n (x.det == 3) + 8 * b2n (x.det == 4) + 16 * b2n x.olOff + 32 * b2n x.olOn +
        64 * b2n u.sw.limp + 128 * b2n x.cmd + 256 * b2n ((pointOfCoil u c).any fun n => (saf u n).coil) + 512 * b2n (auxOf u c.1)) ++
      le 1 (latchBits (vget u.nvCh c)) ++ le 1 (vget u.nvCh c).retry ++ leInt 2 x.temp ++ leInt 4 x.cur ++
      le 2 (if chRole (chP u c.1) = 2 ∧ conducts u c then x.hold else x.duty) ++ [0, 0]) u)) ∧
  (∀ (p : Pkt) (s : State) (n : Fin 8), taken 0x0603 p s = true → p.payload = [BitVec.ofNat 8 (24 + n.1), 0, 0, 0] → hasPoint s n = true →
    let u := begun 0x0603 p s
    let l := vget u.sw.lk n
    exec (.swStatus p) s = .next (finish (flightOf 0x0603 p s) (le 8 s.clk.time ++ le 1 (24 + n.1) ++
      le 1 (if l.tripped ≠ 0 then 3 else if l.drive = 0 then 0 else 2) ++
      le 2 (b2n (l.tripped == 1) + 4 * b2n (l.tripped == 3) + 16 * b2n l.olOff + 64 * b2n u.sw.limp + 128 * b2n (l.drive != 0) +
        1024 * b2n l.lks + 2048 * b2n (nvp u n).lockFault) ++ [0, 0] ++ leInt 2 l.temp ++ leInt 4 l.cur ++ [0, 0, 0, 0]) u)) ∧
  (∀ (p : Pkt) (s : State), taken 0x0604 p s = true →
    let u := begun 0x0604 p s
    u.sw.limp = false →
    (∀ c : Fin 24, p.payload = [BitVec.ofNat 8 c.1, 0, 0, 0] → hasChan u c.1 = true → exec (.swClear p) s = .next (finish (flightOf 0x0604 p s) []
      (e82 c.1 1 false (e82 c.1 0 false (e81 c { u with
        nvCh := vset u.nvCh c {}, sw.ch := vset u.sw.ch c { vget u.sw.ch c with olOff := false, olOn := false } }))))) ∧
    (∀ n : Fin 8, p.payload = [BitVec.ofNat 8 (24 + n.1), 0, 0, 0] → hasPoint u n = true → ∃ t, exec (.swClear p) s = .next t ∧
      t = finish (flightOf 0x0604 p s) [] (e82 (24 + n.1) 0 false (clearOos n 0x20 (setLockFault n false
        { u with sw.lk := vset u.sw.lk n { vget u.sw.lk n with olOff := false, tripped := 0 } }))) ∧
      (nvp t n).lockFault = false ∧ (nvp t n).oos = (nvp u n).oos &&& ~~~0x20)) ∧
  (∀ (p : Pkt) (s : State) (i : Fin 32), taken 0x0605 p s = true → p.payload = [BitVec.ofNat 8 i.1, 0, 0, 0] → hasIndex s i.1 = true →
    exec (.swSense p) s = .next (finish (flightOf 0x0605 p s) [] { begun 0x0605 p s with sw.sense := i.1 })) ∧
  (∀ (p : Pkt) (s : State) (n : Fin 8) (op : Fin 2), taken 0x0606 p s = true → p.payload = [BitVec.ofNat 8 (n.1 + 1), BitVec.ofNat 8 op.1, 0, 0] →
    hasPoint s n = true →
    let u := begun 0x0606 p s
    lkEn (lkB u n) = true → (nvp u n).lockFault = false → (vget u.sw.lk n).op = 0 → (vget u.sw.lk n).cmd = none → lockUp u = true →
    (op = 1 → unlockOk u n = true) → exec (.swLock p) s = .next { u with sw.lk := vset u.sw.lk n { vget u.sw.lk n with
      op := op.1 + 1, tries := 1, back := false, drive := op.1 + 1, brake := false, t0 := u.clk.mono, tripped := 0
      cmd := some (flightOf 0x0606 p s) } })

/-- With the die configured, ISENSE shows for the channel selected by SENSE_SEL: the fault level of 4.6 V to 5.2 V when the
channel is TRIPPED or BLOCKED, holds a latch, or has an open-load finding, or for a lock bridge a trip, a finding or LOCK_FAULT;
the current times 820 Ω over the mirror ratio (2000 for HS, 1000 for LP and LK; the mirror's error is outside the model) while
it conducts without a finding; at most 20 mV otherwise. Before the die is configured it is at 0 V. -/
def Obligations.SenseOutput : Prop :=
  (∀ (s : State) (c : Fin 24), gridRuns s = true → s.sw.sense = c.1 →
    (latched s c = true ∨ (vget s.sw.ch c).st = .tripped ∨ (vget s.sw.ch c).st = .blocked ∨ (vget s.sw.ch c).olOff = true ∨
      (vget s.sw.ch c).olOn = true → isense s = (4600, 5200)) ∧
    (latched s c = false → (vget s.sw.ch c).olOff = false → (vget s.sw.ch c).olOn = false →
      ((vget s.sw.ch c).st = .inrush ∨ (vget s.sw.ch c).st = .on →
        isense s = (let v := convN ((vget s.sw.ch c).cur.natAbs * 820) (if c.1 < 16 then 2000 else 1000); (v, v))) ∧
      ((vget s.sw.ch c).st = .off ∨ (vget s.sw.ch c).st = .uvOff → isense s = (0, 20)))) ∧
  (∀ (s : State) (n : Fin 8), gridRuns s = true → s.sw.sense = 24 + n.1 → (vget s.sw.lk n).tripped ≠ 0 ∨ (vget s.sw.lk n).olOff = true ∨
    (nvp s n).lockFault = true → isense s = (4600, 5200)) ∧
  (∀ s : State, s.pwr.phase = .held ∨ s.pwr.phase = .boot ∨ s.pwr.phase = .shelf ∨ s.pwr.phase = .off → isense s = (0, 0))

/-! ## High-level communication, sessions and the power stage -/

/-- With no session and the pilot in A or at F, HLC_MODEM_TEST waits; MODEM_LOOPBACK notes its time, a failing one is a modem
fault, and one that HLC_MODEM_TEST asked for is answered, and clears the fault when it passes; so is a modem that has not
answered for 100 ms a fault. A modem fault puts a point without a basic path out of service and fails a running high-level
session. CM_SLAC_PARM_REQ before the match begins the soundings, and after it SLAC fails; each sounding within its window adds
its attenuation, the tenth sends the mean, at 600 ms without it the mean of those heard goes out, and CM_ATTEN_CHAR_RSP takes
the profile; CM_SLAC_MATCH_REQ matches with a new NMK and begins setup, on a DC point as DC step 1. SLAC_TIMEOUT, at the
longest wait of the step, is a SLAC failure: while the contactor has not closed in the session and retries are left X1 and
another try, from which everything is chosen anew, and otherwise the high-level session fails. SLAC_RETRY ends the X1 of 4 s. -/
def Obligations.SlacCompletes : Prop :=
  (∀ (n : Fin 8) (pass : Bool) (s : State),
    let u := { s with pwr.timerDue := false, hlc := vset s.hlc n { hl s n with loopAt := s.clk.mono } }
    (vehUp s n = true → loopOk s n = true →
      (modemCmd s n = none → exec (.modemLoopback n pass) s = .next (if pass then u else modemBad n u)) ∧
      (∀ f, modemCmd s n = some f → exec (.modemLoopback n pass) s =
        .next (finish f [if pass then 0 else 1, 0, 0, 0] (if pass then modemGood n u else modemBad n u)))) ∧
    (vehUp s n = false ∨ loopOk s n = false → exec (.modemLoopback n pass) s = .next s)) ∧
  (∀ (n : Fin 8) (s : State), (∃ t, modemGood n s = t ∧ t = { s with nvPt := t.nvPt, ev := t.ev, led := t.led, p100 := t.p100 } ∧
      (nvp t n).modemFault = false ∧ (nvp t n).oos = (nvp s n).oos &&& ~~~0x80) ∧
    (∃ t, modemBad n s = t ∧ (nvp t n).modemFault = true ∧
      ((nvp s n).modemFault = false → hlcEn (pilotB s n) = true → (fallback (pilotB s n) && acEn (hlcB s n)) = false → (nvp t n).oos.getLsbD 7 = true) ∧
      ((nvp s n).modemFault = false → highLevel s n = true → (hl t n).failed = true ∧ (hl t n).active = false)) ∧
    ((nvp s n).modemFault = true → modemBad n s = s)) ∧
  (∀ (n : Fin 8) (us : Nat) (s : State), (vehUp s n = true → 100000 ≤ us → exec (.modemNoAnswer n us) s = .next (modemBad n s)) ∧
    (vehUp s n = false ∨ us < 100000 → exec (.modemNoAnswer n us) s = .next s)) ∧
  (∀ (p : Pkt) (s : State) (n : Fin 8), taken 0x0409 p s = true → p.payload = [BitVec.ofNat 8 (n.1 + 1), 0, 0, 0] → hasPoint s n = true →
    let u := begun 0x0409 p s
    loopOk u n = true → (u.port.flights.filter fun g => g.opcode == 0x0409 && u8 0 g.pkt.payload == n.1 + 1).length ≤ 1 →
    exec (.hlcModemTest p) s = .next u) ∧
  (∀ (n : Fin 8) (s : State), vehUp s n = true → hlcRuns s n = true →
    let h := hl s n
    (h.slac ≠ 0 → h.slac ≠ 5 → exec (.cmSlacParmReq n) s =
      .next { s with hlc := vset s.hlc n { h with slac := 2, slacAt := s.clk.mono, sounds := 0, attSum := 0 } }) ∧
    (h.slac = 5 → exec (.cmSlacParmReq n) s = .next (slacFail n s)) ∧
    (∀ atten, h.slac = 2 → h.sounds = 0 ∨ s.clk.mono ≤ h.slacAt + 600000 →
      (h.sounds < 9 → exec (.cmMnbcSoundInd n atten) s = .next { s with hlc := vset s.hlc n { h with
        sounds := h.sounds + 1, attSum := h.attSum + atten, slacAt := if h.sounds = 0 then s.clk.mono else h.slacAt } }) ∧
      (h.sounds = 9 → exec (.cmMnbcSoundInd n atten) s = .next { s with hlc := vset s.hlc n { h with
        sounds := 10, attSum := h.attSum + atten, slac := 3, slacAt := s.clk.mono, atten := min 255 (convN (h.attSum + atten) 10) } })) ∧
    (∀ atten, h.slac ≠ 2 ∨ (h.sounds ≠ 0 ∧ h.slacAt + 600000 < s.clk.mono) → exec (.cmMnbcSoundInd n atten) s = .next s) ∧
    (h.slac = 3 → exec (.cmAttenCharRsp n) s = .next { s with hlc := vset s.hlc n { h with slac := 4 } }) ∧
    (h.slac = 2 → 0 < h.sounds → h.slacAt + 600000 ≤ s.clk.mono → exec (.cmAttenCharRsp n) s = .next { s with hlc := vset s.hlc n { h with
      slac := 4, slacAt := h.slacAt + 600000, atten := min 255 (convN h.attSum h.sounds) } }) ∧
    (h.slac = 4 → s.pwr.kRunning = true → exec (.cmSlacMatchReq n) s = .next (setPhase n .setup { s with hlc := vset s.hlc n { h with
      slac := 5, nmk := h.nmk + 1, setupAt := s.clk.mono, lastReq := s.clk.mono, dcStep := if dcPoint s n then 1 else 0, dcAt := s.clk.mono } })) ∧
    (h.slac ≠ 4 ∨ s.pwr.kRunning = false → exec (.cmSlacMatchReq n) s = .next s)) ∧
  (∀ (n : Fin 8) (w : Nat) (s : State), hlcRuns s n = true → slacWait s n = some w → (hl s n).slacAt + w ≤ s.clk.mono →
    exec (.slacTimeout n) s = .next (slacFail n s)) ∧
  (∀ (n : Fin 8) (s : State), slacWait s n = (match (hl s n).slac with
    | 1 => some (slacInitT (hlcB s n) * 1000000) | 2 => some (if (hl s n).sounds = 0 then 600000 else 10600000)
    | 3 => some 10000000 | 4 => some 10000000 | _ => none)) ∧
  (∀ (n : Fin 8) (s : State),
    ((ses s n).hasClosed = false → (hl s n).retries < slacRetry (hlcB s n) → (hl s n).cert = none → ∃ t, slacFail n s = t ∧
      t = { s with hlc := t.hlc, p100 := t.p100, ev := t.ev, led := t.led } ∧ (hl t n).slac = 0 ∧ (hl t n).active = false ∧
      (hl t n).retries = (hl s n).retries + 1 ∧ (hl t n).slacX1 = some s.clk.mono ∧ (sep t n).service = 0xFF ∧ (hl t n).proto = 0 ∧
      (hl t n).pnc = false ∧ (hl t n).authAns = 0) ∧
    ((ses s n).hasClosed = true ∨ slacRetry (hlcB s n) ≤ (hl s n).retries → ∃ t, slacFail n s = t ∧ (hl t n).slacFail = true ∧
      (hl t n).failed = true ∧ (hl t n).active = false)) ∧
  (∀ (n : Fin 8) (t0 : Nat) (s : State), (hl s n).slacX1 = some t0 → t0 + 4000000 ≤ s.clk.mono →
    exec (.slacRetry n) s = .next { s with hlc := vset s.hlc n { hl s n with slacX1 := none } })

/-- With SLAC matched: SDP_REQUEST opens the one connection. TLS_HANDSHAKE with a leaf that fits and a Chuck slot for its key
establishes TLS where the handshake is good, its suite is one of R178 and the vehicle is accepted, and otherwise, or without
the leaf, fails; without a slot it waits for one. SUPPORTED_APP_PROTOCOL chooses the protocol of highest rank that both offer,
in the version the vehicle prefers, and fails without one. Then SERVICE_SELECTION fixes an offered service.
AUTHORIZATION_REQUEST under EIM is answered Finished once an authorisation is bound, Failed where it has been refused, and
Ongoing before; a contract whose chain verifies enters the decision flow once, one that does not is answered with the
certificate failure, and an identification not offered Failed. CHARGE_PARAMETER_DISCOVERY and CHARGE_LOOP_REQUEST take what
the vehicle tells and bring the offer to what R184 allows now, but in scheduled control a change in the loop is a
renegotiation. CABLE_CHECK_REQUEST in state C requests closing; PRECHARGE_REQUEST after a good insulation check begins step 4,
and sets the targets in it; POWER_DELIVERY_REQUEST begins energy, ends the session or notes a renegotiation.
CERTIFICATE_REQUEST holds the request for the host; METERING_RECEIPT is counted where receipts are asked. A DC answer carries
the isolation status. -/
def Obligations.VehicleRequestsComplete : Prop :=
  (∀ (n : Fin 8) (s : State), linked s n = true →
    let at_ := fun (h : Hlc) => { s with hlc := vset s.hlc n { h with lastReq := s.clk.mono } }
    ((hl s n).tcp = false → exec (.sdpRequest n) s = .next (at_ { hl s n with tcp := true, tls := false })) ∧
    ((hl s n).tcp = true → exec (.sdpRequest n) s = .next s) ∧
    (∀ x : TlsIn, (hl s n).tcp = true → (hl s n).tls = false → (hl s n).proto = 0 →
      let key := ((certAt s x.role 0).map (·.keyId)).getD 0
      let u := at_ (hl s n)
      (leafOk s x = false ∨ s.pwr.kRunning = false → exec (.tlsHandshake n x) s = .next (hlcFail n 2 .vehicleStop u)) ∧
      (leafOk s x = true → s.pwr.kRunning = true →
        (∀ k v, chuckGet key u = some (k, v) →
          exec (.tlsHandshake n x) s = .next (tlsEnd n x { v with key.waits := v.key.waits.filter fun w => !(w.2.1 == n.1) })) ∧
        (chuckGet key u = none → (∀ w ∈ s.key.waits, w.2.1 ≠ n.1) → exec (.tlsHandshake n x) s =
          .next { u with key.waits := s.key.waits ++ [(key, n.1, s.clk.mono)] }))) ∧
    (∀ offers : List (Nat × Nat), (hl s n).tcp = true → (hl s n).proto = 0 →
      let pick := [3, 2, 1].findSome? fun p => if protoOk s n p then offers.find? fun o => o.1 == p else none
      (∀ p v, pick = some (p, v) → exec (.supportedAppProtocol n offers) s = .next (setPhase n .auth (at_ { hl s n with
        proto := p, version := v, dcStep := if (hl s n).dcStep = 1 then 2 else (hl s n).dcStep, dcAt := s.clk.mono }))) ∧
      (pick = none → exec (.supportedAppProtocol n offers) s = .next (hlcFail n 3 .vehicleStop (at_ (hl s n)))))) ∧
  (∀ (n : Fin 8) (x : TlsIn) (s : State), (x.ok = true → suiteOk x.v13 x.suite = true → oemOk s x = true → tlsEnd n x s = { s with
      hlc := vset s.hlc n { hl s n with ecdhe := (hl s n).ecdhe + 1, tls := true, tls13 := x.v13, suite := some x.suite } }) ∧
    (x.ok = false ∨ suiteOk x.v13 x.suite = false ∨ oemOk s x = false → ∃ t, tlsEnd n x s = t ∧ (hl t n).failed = true ∧ (hl t n).tls = false)) ∧
  (∀ (n : Fin 8) (s : State), talks s n = true →
    let h := hl s n
    let at_ := fun (h : Hlc) => { s with hlc := vset s.hlc n { h with lastReq := s.clk.mono } }
    let iso := fun (h : Hlc) => if dcService s n then { h with isoSent := (ear s n).iso } else h
    (∀ code dynamic evccid, (sep s n).service = 0xFF →
      (serviceOk s n code = true → ∃ t, exec (.serviceSelection n code dynamic evccid) s = .next t ∧
        t = { s with hlc := t.hlc, p100 := t.p100, ev := t.ev, led := t.led } ∧ (sep t n).service = code ∧
        t.hlc = vset s.hlc n { h with ctrl := ctrlOf s n dynamic, evccid := evccid % 2 ^ 48, lastReq := s.clk.mono }) ∧
      (serviceOk s n code = false → exec (.serviceSelection n code dynamic evccid) s = .next (at_ h))) ∧
    (∀ code dynamic evccid, (sep s n).service ≠ 0xFF → exec (.serviceSelection n code dynamic evccid) s = .next s) ∧
    (let u := at_ { h with authAt := some (h.authAt.getD s.clk.mono) }
      let enters := fun (id : List Byte) => enterFlow n 3 id false 0 (modHlc n (fun h => { h with pnc := true, authAns := 1 }) u)
      (eimEn (hlcB s n) = true → exec (.authorizationRequest n none) s =
        .next (authAnswer n (if (ses s n).bound then 2 else if h.authAns = 3 then 3 else 1) u)) ∧
      (eimEn (hlcB s n) = false → exec (.authorizationRequest n none) s = .next (authAnswer n 3 u)) ∧
      (∀ c : ChainIn, (pncOffered s n = false → exec (.authorizationRequest n (some c)) s = .next (authAnswer n 3 u)) ∧
        (pncOffered s n = true → contractOk s c = true → 1 ≤ c.emaid.length → c.emaid.length ≤ 15 →
          (h.pnc = false → exec (.authorizationRequest n (some c)) s =
            .next (authAnswer n (hl (enters c.emaid) n).authAns (enters c.emaid))) ∧
          (h.pnc = true → exec (.authorizationRequest n (some c)) s = .next (authAnswer n (if h.authAns = 0 then 1 else h.authAns) u))) ∧
        (pncOffered s n = true → contractOk s c = false → exec (.authorizationRequest n (some c)) s = .next (authAnswer n 4 u)))) ∧
    (∀ x : EvIn,
      let told := { h with soc := if x.soc ≤ 100 then x.soc else 0xFF, evU := x.u % 2 ^ 32, evI := x.i, evMaxU := if x.maxU = 0 then h.evMaxU else x.maxU }
      (h.authAns = 2 → exec (.chargeParameterDiscovery n x) s = .next (modHlc n (fun h => { h with reneg := false }) (offer n (at_ told)))) ∧
      (h.authAns ≠ 2 → exec (.chargeParameterDiscovery n x) s = .next s) ∧
      let u := at_ (iso { told with meterInfo := vget (sep s n).acc 0 / 1000000, meterId := le 8 Config.serial.toNat ++ le 1 (n.1 + 1) })
      let v := if h.ctrl ≠ 1 then offer n u else if offerNow u n = offered u n then u else modHlc n (fun h => { h with reneg := true }) u
      exec (.chargeLoopRequest n x) s = .next (if h.dcStep = 5 then powerStage n v else v)) ∧
    (dcService s n = true → h.dcStep = 2 → h.authAns = 2 → (pil s n).st = some .C → (ses s n).ending = none →
      exec (.cableCheckRequest n) s = .next (setPhase n .cableCheck { at_ { h with
          isoSent := (ear s n).iso, dcStep := 3, dcAt := s.clk.mono, cable := 0, uStable := none, enable := false, mode := 0, tgtI := 0, stepDone := false } with
        safe := vset s.safe n { saf s n with reqClose := !(vget s.sw.lk n).needLock, sent76 := 0 } })) ∧
    (∀ u i, h.dcStep = 3 → h.cable = 2 ∨ h.cable = 3 → (ses s n).ending = none → exec (.prechargeRequest n u i) s =
      .next (setPhase n .precharge (powerStage n (at_ (iso { h with dcStep := 4, dcAt := s.clk.mono, evU := u % 2 ^ 32, evI := i, stepDone := false }))))) ∧
    (∀ u i, h.dcStep = 4 → exec (.prechargeRequest n u i) s = .next (powerStage n (at_ (iso { h with evU := u % 2 ^ 32, evI := i })))) ∧
    (h.authAns = 2 → (ses s n).ending = none → dcService s n = true → h.dcStep = 4 → h.stepDone = true → exec (.powerDeliveryRequest n 0) s =
      .next (setPhase n .energy (powerStage n (at_ { h with dcStep := 5, dcAt := s.clk.mono })))) ∧
    (h.authAns = 2 → (ses s n).ending = none → dcService s n = false → (sep s n).service ≠ 0xFF → exec (.powerDeliveryRequest n 0) s =
      .next (setPhase n .energy { at_ h with safe := vset s.safe n { saf s n with
        reqClose := !(vget s.sw.lk n).needLock, sent76 := if (saf s n).reqClose then (saf s n).sent76 else 0 } })) ∧
    (exec (.powerDeliveryRequest n 1) s = .next (endSoft n (stopReason s n) (at_ h))) ∧
    (exec (.powerDeliveryRequest n 2) s = .next (at_ { h with reneg := true })) ∧
    (∀ body, 2 ≤ h.proto → 1 ≤ body.length → body.length ≤ 16384 → h.cert = none → exec (.certificateRequest n body) s =
      .next (e55 n 3 [(4, body.length)] (at_ { h with cert := some (body, s.clk.mono), certResp := [], certTot := 0 }))) ∧
    (2 ≤ h.proto → mtrReceipt (hlcB s n) = true → exec (.meteringReceipt n) s = .next (at_ { h with receipt := h.receipt + 1 }))) ∧
  (∀ (n : Fin 8) (s : State),
    let h := hl s n
    let toH := fun (h : Hlc) => { s with hlc := vset s.hlc n h }
    (h.dcStep = 4 → powerStage n s = toH { h with enable := true, mode := 2, tgtU := (min h.evU (dcLimU s n) : Nat), tgtI := max 0 (min 2000 h.evI) }) ∧
    (h.dcStep = 5 → powerStage n s = toH { h with enable := true, mode := 3, tgtU := (min h.evU (dcLimU s n) : Nat), tgtI := energyI s n }) ∧
    (∀ a, authAnswer n a s = if a = 2 ∧ h.phase = .auth then setPhase n .parameters (toH { h with authAns := a }) else toH { h with authAns := a }) ∧
    (offerNow s n = offered s n → offer n s = s) ∧
    (∃ t, offer n s = t ∧ t = { s with hlc := t.hlc, ev := t.ev, led := t.led, p100 := t.p100 } ∧ offered t n = offerNow s n))

/-- Requests that have waited 100 ms for a Chuck slot leave the list, and fail their vehicles; 4 s without the host's certificate
response answer FAILED; 55 s after the first Authorization request without a decision the answer is Failed; 60 s without a
request, or 20 s of setup on an AC point, and the loss of the connection, fail the high-level session. A failed high-level
session is not active and its connection is closed; a DC session whose contactor has closed in steps 3 to 5 goes to step 6
with TARGET_I 0; elsewhere, with FALLBACK 1, the fall-back is due, and otherwise the session ends by X1. A DC step beyond its
longest duration ends the session with SAFETY_TRIP (WARM_RESET where a warm reset has affected it), the contactor open and the
power stage off, in the cable check with the insulation status INVALID; step 1 too long is a failure of the high-level
session. 5 s after a signalled host stop a DC session in steps 3 to 5 goes to step 6, and another ends as HOST_STOP by X1. -/
def Obligations.HlcTimeLimitsComplete : Prop :=
  (∀ s : State, ∃ t, exec .chuckWaitTimeout s = .next t ∧ t.key.waits = (s.key.waits.filter fun w => decide (s.clk.mono < w.2.2 + 100000)) ∧
    (∀ w ∈ s.key.waits, w.2.2 + 100000 ≤ s.clk.mono → ∀ n, ix 8 w.2.1 = some n → hlcRuns s n = true → (hl t n).failed = true ∧ (hl t n).active = false) ∧
    ((∀ w ∈ s.key.waits, s.clk.mono < w.2.2 + 100000) → t = s)) ∧
  (∀ (n : Fin 8) (c : List Byte × Nat) (s : State), (hl s n).cert = some c →
    (c.2 + 4000000 ≤ s.clk.mono → exec (.certExchangeTimeout n) s = .next (certFail n s) ∧ (hl (certFail n s) n).cert = none ∧
      (hl (certFail n s) n).certAns = []) ∧
    (s.clk.mono < c.2 + 4000000 → exec (.certExchangeTimeout n) s = .next s)) ∧
  (∀ (n : Fin 8) (t0 : Nat) (s : State), talks s n = true → (hl s n).authAns = 1 → (hl s n).authAt = some t0 → t0 + 55000000 ≤ s.clk.mono →
    exec (.authorizationTimeout n) s = .next { s with hlc := vset s.hlc n { hl s n with authAns := 3 } }) ∧
  (∀ (n : Fin 8) (s : State), hlcRuns s n = true → (hl s n).slac = 5 →
    let late := (hl s n).lastReq + 60000000 ≤ s.clk.mono ∨
      ((hl s n).phase = .setup ∧ (hl s n).dcStep = 0 ∧ (hl s n).setupAt + 20000000 ≤ s.clk.mono)
    (late → exec (.hlcMessageTimeout n) s = .next (hlcFail n 0 .vehicleStop s)) ∧ (¬ late → exec (.hlcMessageTimeout n) s = .next s)) ∧
  (∀ (n : Fin 8) (cause : Nat) (s : State), linked s n = true → (hl s n).tcp = true → 1 ≤ cause → cause ≤ 3 →
    exec (.tcpLoss n cause) s = .next (hlcFail n cause .vehicleStop s)) ∧
  (∀ (n : Fin 8) (cause : Nat) (r : EndReason) (s : State), ∃ t, hlcFail n cause r s = t ∧ (hl t n).failed = true ∧ (hl t n).active = false ∧
    (hl t n).tcp = false ∧ (hl t n).tls = false ∧ (hl t n).slac = 0 ∧
    (3 ≤ (hl s n).dcStep → (hl s n).dcStep ≤ 5 → (ses s n).hasClosed = true → (hl t n).dcStep = 6 ∧ (hl t n).tgtI = 0) ∧
    (¬ (3 ≤ (hl s n).dcStep ∧ (hl s n).dcStep ≤ 5 ∧ (ses s n).hasClosed = true) → fallback (pilotB s n) = true →
      (hl t n).fallAt = some s.clk.mono ∧ (saf t n).reqClose = false)) ∧
  (∀ (n : Fin 8) (d : Nat) (s : State), sessRuns s n = true → stepLimit (hl s n) = some d → (hl s n).dcAt + d ≤ s.clk.mono →
    ((hl s n).dcStep = 1 → exec (.dcStepTimeout n) s = .next (hlcFail n 0 .vehicleStop s)) ∧
    ((hl s n).dcStep ≠ 1 → ∃ t, exec (.dcStepTimeout n) s = .next t ∧ (hl t n).dcStep = 7 ∧ (hl t n).enable = false ∧ (hl t n).tgtI = 0 ∧
      (saf t n).coil = false ∧ ((ses t n).ending = some (if (ses s n).x1Arm = true ∧ (ses s n).ending = none then .warmReset else .safetyTrip) ∨ sessRuns t n = false) ∧
      ((hl s n).dcStep = 3 → (ear t n).iso = 5))) ∧
  (∀ h : Hlc, stepLimit h = (match h.dcStep with
    | 1 => some 20000000 | 3 => (if h.cable = 2 ∨ h.cable = 3 then none else some 38000000) | 4 => (if h.stepDone then none else some 7000000)
    | 6 => some 1000000 | _ => none)) ∧
  (∀ (n : Fin 8) (t0 : Nat) (s : State), sessRuns s n = true → (ses s n).hostStop = some t0 → t0 + 5000000 ≤ s.clk.mono → (ses s n).ending = none →
    (3 ≤ (hl s n).dcStep → (hl s n).dcStep ≤ 5 → ∃ t, exec (.hostStopTimeout n) s = .next t ∧ (hl t n).dcStep = 6 ∧ (hl t n).tgtI = 0 ∧
      (ses t n).ending = some (if (ses s n).x1Arm then .warmReset else .hostStop)) ∧
    ((hl s n).dcStep < 3 ∨ 5 < (hl s n).dcStep → exec (.hostStopTimeout n) s = .next (endX1 n .hostStop s)))

/-- SES_START with the conditions of R18 met binds the authorisation with its type, identifier and limits and answers the session
number; the pending request it answers ends as BOUND_HOST, another as REFUSED_STATE, and the flow goes on to what waits.
SES_STOP MODE 0 signals the stop to a vehicle in high-level communication, and otherwise opens the contactor and ends the
session as HOST_STOP (WARM_RESET where a warm reset has affected it); MODE 1 ends the pending request, and MODE 2 puts the
point out of service with the bit HOST; each answers the session number. SES_LIMIT sets the session's limits. SES_STATUS
answers its fields and changes nothing. HLC_COMMIT without an open session of the points named puts the copies taken in effect
and answers T_APPLIED. HLC_EXCHANGE reads a chunk of the request held, writes a chunk of the response, sent with the last one,
or lets the exchange fail. -/
def Obligations.SessionCommandsComplete : Prop :=
  (∀ (p : Pkt) (s : State) (n : Fin 8), taken 0x0403 p s = true → p.payload.length = 32 → u8 0 p.payload = n.1 + 1 → startOk p.payload = true →
    hasPoint s n = true →
    let u := begun 0x0403 p s
    let type := u8 1 p.payload
    let id := slice 4 (u8 2 p.payload) p.payload
    (vget u.p100.m (meterOf n)).ppState ≠ .exhausted → blockMissing u n = false → (ses u n).bound = false → outOfService u n = false →
    startSafe u n = true → sessionsRefused u = false →
    (∀ r, bit (u8 3 p.payload) 1 = true → (ses u n).req = some r → r.type = type ∧ r.id = id) →
    (bit (u8 3 p.payload) 1 = true → (ses u n).req ≠ none) →
    let a := if bit (u8 3 p.payload) 1 then decision n 1 type u else match (ses u n).req with
      | some r => decision n 7 r.type (modSess n (fun x => { x with req := none }) u)
      | none => u
    let v := bindAuth n type id (bit (u8 3 p.payload) 0) (u32 20 p.payload) (u32 24 p.payload) (u32 28 p.payload) a
    let w := flowDrain n (ses v n).waiting v
    exec (.sesStart p) s = .next (finish (flightOf 0x0403 p s) (le 4 (sessNo w n) ++ zeros 4) w)) ∧
  (∀ (n : Fin 8) (type : Nat) (id : List Byte) (bpt : Bool) (li lp ld : Nat) (s : State),
    let b := modSess n (fun x => { x with
      bound := true, type, id, bpt, boundAt := s.clk.mono, limI := li, limP := lp, limD := ld, req := none }) s
    bindAuth n type id bpt li lp ld s = followSig n (if sessRuns s n then
      { b with p100.sess := vset s.p100.sess n { sep s n with authType := type, authId := id } } else openSession n b)) ∧
  (∀ (p : Pkt) (s : State) (n : Fin 8), taken 0x0404 p s = true → hasPoint s n = true →
    let u := begun 0x0404 p s
    let f := flightOf 0x0404 p s
    let v := if (hl u n).cert.isSome then certFail n u else u
    (p.payload = [BitVec.ofNat 8 (n.1 + 1), 0, 0, 0] → sessRuns u n = true →
      (hlcRuns u n = true → (hl u n).slac = 5 → (ses u n).ending = none → exec (.sesStop p) s = .next (finish f (le 4 (sessNo u n))
        { v with sess := vset u.sess n { ses u n with hostStop := some ((ses u n).hostStop.getD u.clk.mono) } })) ∧
      (hlcRuns u n = false ∨ (hl u n).slac ≠ 5 → (ses u n).ending = none → ∃ t, exec (.sesStop p) s = .next t ∧
        t = finish f (le 4 (sessNo u n)) (endNow n .hostStop v) ∧ (saf t n).coil = false ∧
        ((ses t n).ending = some (if (ses u n).x1Arm then .warmReset else .hostStop) ∨ sessRuns t n = false))) ∧
    (∀ r, p.payload = [BitVec.ofNat 8 (n.1 + 1), 1, 0, 0] → (ses u n).req = some r →
      let d := decision n 5 r.type (modSess n (fun x => { x with req := none }) u)
      exec (.sesStop p) s = .next (finish f (le 4 (sessNo u n)) (flowDrain n (ses d n).waiting d))) ∧
    (p.payload = [BitVec.ofNat 8 (n.1 + 1), 2, 0, 0] → ∃ t w, exec (.sesStop p) s = .next t ∧ w = setOos n 0 v ∧
      t = finish f (le 4 (sessNo u n)) (if sessRuns w n = true ∧ (ses w n).ending = none then endSoft n .outOfService w else w) ∧
      (nvp t n).oos.getLsbD 0 = true)) ∧
  (∀ (p : Pkt) (s : State) (n : Fin 8) (i pw d : Nat), taken 0x0405 p s = true → hasPoint s n = true → i < 2 ^ 32 →
    pw < 2 ^ 32 → d < 2 ^ 32 → p.payload = [BitVec.ofNat 8 (n.1 + 1), 0, 0, 0] ++ le 4 i ++ le 4 pw ++ le 4 d →
    let u := begun 0x0405 p s
    (sessRuns u n = true → ∃ t, exec (.sesLimit p) s = .next t ∧
      t = finish (flightOf 0x0405 p s) [] (followSig n { u with sess := vset u.sess n { ses u n with limI := i, limP := pw, limD := d } }) ∧
      (ses t n).limI = i ∧ (ses t n).limP = pw ∧ (ses t n).limD = d) ∧
    (sessRuns u n = false → exec (.sesLimit p) s = .next (complete (flightOf 0x0405 p s) 0x0201 [] u))) ∧
  (∀ (p : Pkt) (s : State) (n : Fin 8), taken 0x0406 p s = true → p.payload = [BitVec.ofNat 8 (n.1 + 1), 0, 0, 0] → hasPoint s n = true →
    let u := begun 0x0406 p s
    let h := hl u n
    let x := ses u n
    exec (.sesStatus p) s = .next (finish (flightOf 0x0406 p s) (le 8 s.clk.time ++ le 4 (sessNo u n) ++ le 1 (n.1 + 1) ++
      le 1 (phaseCode h.phase) ++ le 1 (if h.phase = .basic then 0 else (sep u n).service) ++
      le 1 (x.type % 8 + 8 * b2n x.bound + 16 * b2n (exports u n) + 32 * b2n h.tls + 64 * b2n h.pnc) ++ le 6 h.evccid ++ le 1 h.soc ++
      le 1 h.ctrl ++ le 4 h.evU ++ leInt 4 h.evI ++ le 4 (if h.phase = .basic then (pil u n).iSig else h.offI) ++ le 4 h.offP ++
      le 4 (b2n (nvp u n).modemFault + 2 * b2n h.slacFail + 4 * b2n h.fallback + 8 * b2n h.psFault + 16 * b2n h.canTo +
        32 * b2n h.cert.isSome + 64 * b2n h.reneg) ++ le 1 h.atten ++ [0, 0, 0]) u)) ∧
  (∀ (p : Pkt) (s : State) (m : Nat) (cs : List BlkCopy), taken 0x0407 p s = true → p.payload.length = 4 → u16 0 p.payload = m →
    rsv 2 2 p.payload = true → 0 < m → m < 2 ^ 9 →
    let u := begun 0x0407 p s
    let v := (maskPoints m).foldl (fun t n => if dcPoint t n then t else setIso n 0 t) (recheck (commitCopies cs u))
    let w := if bit m 8 then { v with can := Vector.replicate 24 { lastAt := v.clk.mono } } else v
    (∀ n ∈ maskPoints m, hasPoint u n = true ∧ sessOpen u n = false) →
    Takes u (((maskPoints m).map fun n => 0x0411 + n.1) ++ if bit m 8 then [0x0420] else []) cs → canCross u cs = true →
    (bit m 8 = true → ∀ n, hasPoint u n = true → sessOpen u n = true → dcService u n = false) → ∃ t, exec (.hlcCommit p) s = .next t ∧
      t = finish (flightOf 0x0407 p s) (le 8 s.clk.time) ((maskPoints m).foldl (fun t n => basicPath n t) w) ∧
      (∀ c, cs = [c] → committedCopy t c.id = some { c with tCommit := s.clk.time, bstate := 1 })) ∧
  (∀ (p : Pkt) (s : State) (n : Fin 8) (body : List Byte) (t0 : Nat), taken 0x0408 p s = true → hasPoint s n = true →
    let u := begun 0x0408 p s
    let f := flightOf 0x0408 p s
    (hl u n).cert = some (body, t0) → u.clk.mono < t0 + 4000000 →
    (∀ i, i < 65536 → i * 4096 < body.length → p.payload = [BitVec.ofNat 8 (n.1 + 1), 0] ++ le 2 i ++ zeros 4 →
      exec (.hlcExchange p) s = .next (finish f (le 4 body.length ++ le 2 i ++
        le 2 (slice (i * 4096) 4096 body).length ++ slice (i * 4096) 4096 body) u)) ∧
    (∀ (i tot : Nat) (d : List Byte), i < 65536 → 1 ≤ tot → tot ≤ 16384 → 1 ≤ d.length → d.length ≤ 4096 →
      (hl u n).certTot = 0 ∨ (hl u n).certTot = tot →
      p.payload = [BitVec.ofNat 8 (n.1 + 1), 1] ++ le 2 i ++ le 4 tot ++ d →
      let rest := (hl u n).certResp.filter fun c => !(c.1 == i)
      let all := joinChunks ((i, d) :: rest) (rest.length + 1) 0
      (rest.map fun c => c.2.length).sum + d.length ≤ tot → exec (.hlcExchange p) s = .next (finish f (le 4 body.length ++ le 2 i ++ [0, 0])
        { u with hlc := vset u.hlc n (if all.length = tot then { hl u n with cert := none, certResp := [], certTot := 0, certAns := all }
          else { hl u n with certResp := (i, d) :: rest, certTot := tot }) })) ∧
    (p.payload = [BitVec.ofNat 8 (n.1 + 1), 2, 0, 0, 0, 0, 0, 0] → exec (.hlcExchange p) s = .next (finish f (le 4 body.length ++ zeros 4)
      { u with hlc := vset u.hlc n { hl u n with cert := none, certResp := [], certTot := 0, certAns := [] } })))

/-- CAN_FRAME_TRANSMIT brings the setpoints of its points up to date, counts the transmission and sends the frame's data with the
newest values; KIND 8 follows a clamp that comes or goes. CAN_FRAME_RECEIVE takes a frame that passes its checks as the last
one received, hands its signals to their points and follows their faults, and discards one that fails the checks.
CAN_RECEIVE_TIMEOUT marks the frame missing and sets CAN_TIMEOUT and the power-stage fault at every point the frame serves.
PS_FAULT_CLEAR ends the fault after 1 s of good frames. PS_FAULT_OPEN_TIMEOUT opens the contactor 100 ms after a fault without
a readable current, and the power stage is off. -/
def Obligations.CanCompletes : Prop :=
  (∀ (f : Fin 24) (s : State), canRuns s (frmE (canB s) f.1) = true → frmRx (frmE (canB s) f.1) = false →
    let sigs := sigsOf (canB s) f.1
    let u := (points s).foldl (fun t n => if sigs.any fun x => sigPt x == some n then powerStage n t else t) s
    let x := vget s.can f
    let cl := (sigs.zipIdx.filter fun e => (txRaw u (x.alive + 1) e.1).2).map (·.2)
    let v := noteClamps f.1 x.clamped cl sigs u
    exec (.canFrameTransmit f) s = .next { v with
      can := vset s.can f { x with alive := x.alive + 1, lastAt := s.clk.mono, data := txData v f.1 (x.alive + 1), clamped := cl } }) ∧
  (∀ (f : Nat) (old new : List Nat) (sigs : List (List Byte)) (s : State), OnlyEvents s (noteClamps f old new sigs s) ∧
    ((∀ k < sigs.length, k ∈ old ↔ k ∈ new) → noteClamps f old new sigs s = s)) ∧
  (∀ (f : Fin 24) (data : List Byte) (s : State), canRuns s (frmE (canB s) f.1) = true → frmRx (frmE (canB s) f.1) = true →
    (rxGood s f data = true →
      let u := { s with can := vset s.can f { vget s.can f with seen := true, lastAt := s.clk.mono, data := data, tout := false } }
      let v := (sigsOf (canB s) f.1).foldl (fun t g => rxSignal data g t) u
      exec (.canFrameReceive f data) s = .next ((points s).foldl (fun t n => if (rxFrames t n).contains f then rxPoint f data n t else t) v)) ∧
    (rxGood s f data = false → exec (.canFrameReceive f data) s = .next s) ∧
    ((vget s.can f).tout = false → (vget s.can f).lastAt + frmTimeout (frmE (canB s) f.1) * 1000 ≤ s.clk.mono →
      ∃ t, exec (.canReceiveTimeout f) s = .next t ∧ t.can = vset s.can f { vget s.can f with tout := true } ∧
        ∀ n, hasPoint s n = true → f ∈ rxFrames s n → (hl t n).canTo = true ∧ (hl t n).psFault = true)) ∧
  (∀ (d e : List Byte) (n : Fin 8) (s : State), sigPt e = some n →
    let v := physOf e (getSig e d)
    let toH := fun (h : Hlc) => { s with hlc := vset s.hlc n h }
    (sigVar e = 16 → rxSignal d e s = toH { hl s n with ready := v != 0 }) ∧ (sigVar e = 18 → rxSignal d e s = toH { hl s n with measU := v }) ∧
    (sigVar e = 19 → rxSignal d e s = toH { hl s n with measI := v }) ∧ (sigVar e = 20 → rxSignal d e s = toH { hl s n with avU := v }) ∧
    (sigVar e = 21 → rxSignal d e s = toH { hl s n with avI := v }) ∧ (sigVar e = 22 → rxSignal d e s = toH { hl s n with avP := v })) ∧
  (∀ (f : Fin 24) (d : List Byte) (n : Fin 8) (s : State), (∃ e ∈ sigsOf (canB s) f.1, sigPt e = some n ∧ sigVar e = 17 ∧ physOf e (getSig e d) ≠ 0) →
    (hl (rxPoint f d n s) n).psFault = true ∧ (hl (rxPoint f d n s) n).psGood = none) ∧
  (∀ (n : Fin 8) (t0 : Nat) (s : State), (hl s n).psFault = true → (hl s n).psGood = some t0 →
    (t0 + 1000000 ≤ s.clk.mono → ∃ t, exec (.psFaultClear n) s = .next t ∧ t = { s with hlc := t.hlc, ev := t.ev, led := t.led, p100 := t.p100 } ∧
      t.hlc = vset s.hlc n { hl s n with psFault := false, canTo := false }) ∧
    (s.clk.mono < t0 + 1000000 → exec (.psFaultClear n) s = .next s)) ∧
  (∀ (n : Fin 8) (s : State), (hl s n).psFault = true → (hl s n).measOk = false → (hl s n).psAt + 100000 ≤ s.clk.mono →
    (saf s n).coil = true → 3 ≤ (hl s n).dcStep → (hl s n).dcStep ≤ 6 → sessRuns s n = true →
    ∃ t, exec (.psFaultOpenTimeout n) s = .next t ∧ t = endNow n .safetyTrip s ∧ (saf t n).coil = false ∧ (hl t n).enable = false ∧ (hl t n).tgtI = 0)

/-! ## Reader, field store and keys -/

/-- ANTENNA_PING, once in every ping period with no poll on its front end, selects the antenna; one that detects begins a poll and
a presentation and wakes the device, one that does not makes the baseline track it, or forms it from the first 8. POLL yields
the identifiers of R284 with an E96 for each new one, or is abandoned with E103 after 1 s of an external carrier. POLL_END
ends the poll: one new identifier enters the decision flow, the same one read elsewhere within 500 ms is AMBIGUOUS, several
are E99, and the fourth poll without a target sets the baseline anew. PRESENTATION_END follows 3 s without a detection.
BASELINE_STORE writes the baselines and the die temperature every 10 min. ANTENNA_SELFTEST, due every 10 min or for
RDR_SELFTEST, sets ANT_FAULT by its result and answers the command, which records the reference with OP 1. AUTH_COMMIT waits
and AUTH_COMMIT_APPLY puts the blocks in effect once no poll runs. AUTH_LIST_WRITE clears, copies, adds to and removes from
the staging list and answers its length, ST_LIST_FULL where an entry does not fit; AUTH_LIST_COMMIT makes it active with its
version. RDR_STATUS answers its fields and changes nothing. -/
def Obligations.ReaderCompletes : Prop :=
  (∀ (k : Fin 8) (amp : Nat) (s : State),
    let due := rdrRuns s = true ∧ antUsed s k = true ∧ (ant s k).fault = false ∧ frontBusy s k = false ∧
      ((ant s k).lastPing = 0 ∨ (ant s k).lastPing + pingPeriod s * 1000 ≤ s.clk.mono)
    let u := selectAnt k { s with rdr.ant := vset s.rdr.ant k { ant s k with last := amp, lastPing := max 1 s.clk.mono } }
    (due → pingDetects s k amp = true → exec (.antennaPing k amp) s = .next (detection k u) ∧
      (ant (detection k u) k).poll = some s.clk.mono ∧ (ant (detection k u) k).pres.on = true) ∧
    (due → pingDetects s k amp = false → exec (.antennaPing k amp) s = .next (quietPing k amp u)) ∧
    (¬ due → exec (.antennaPing k amp) s = .next s)) ∧
  (∀ (k : Fin 8) (amp : Nat) (s : State), let x := ant s k
    let withAnt := fun (y : Ant) => { s with rdr.ant := vset s.rdr.ant k y }
    (∀ b, x.base = some b → quietPing k amp s = withAnt { x with base := some ((b : Int) + conv ((amp : Int) - b) 16).toNat, noTgt := 0 }) ∧
    (x.base = none → x.fst0.length < 7 → quietPing k amp s = withAnt { x with fst0 := amp :: x.fst0, noTgt := 0 }) ∧
    (x.base = none → x.fst0.length = 7 → quietPing k amp s = pulse 101 (prm [(1, k.1 + 1), (1, 0)]) (withAnt
      { x with base := some (convN (amp :: x.fst0).sum 8), fst0 := [], noTgt := 0, reused := false }))) ∧
  (∀ (k : Fin 8) (s : State), (ant s k).pres.on = true → (ant s k).pres.detAt + 3000000 ≤ s.clk.mono →
    exec (.presentationEnd k) s = .next { s with rdr.ant := vset s.rdr.ant k { ant s k with pres := {} } }) ∧
  (∀ s : State, rdrRuns s = true → (s.rdr.storeAt + 600000000 ≤ s.clk.mono → ∃ t, exec .baselineStore s = .next t ∧
      t = { s with lists.ants := t.lists.ants, rdr.storeAt := s.clk.mono } ∧
      ∀ k, nvAnt t k = (match (ant s k).base with | some b => { nvAnt s k with base := some (b, s.pwr.dieTemp) } | none => nvAnt s k)) ∧
    (s.clk.mono < s.rdr.storeAt + 600000000 → exec .baselineStore s = .next s)) ∧
  (∀ (k : Fin 8) (x : PollIn) (s : State), rdrRuns s = true → (ant s k).poll.isSome = true → (ant s k).pollDone = false →
    (x.ext < 1000000 → ∃ t, exec (.poll k x) s = .next t ∧ t = { s with rdr.ant := t.rdr.ant, ev := t.ev, led := t.led, p100 := t.p100 } ∧
      (ant t k).pollIds = pollIdents (rdrB s) x ∧ (ant t k).pollTg = (targets (rdrB s) x).length ∧ (ant t k).pollDone = true ∧
      (ant t k).poll = (ant s k).poll ∧ (ant t k).ext = decide (0 < x.ext) ∧ ∀ j, j ≠ k → ant t j = ant s j) ∧
    (1000000 ≤ x.ext → exec (.poll k x) s = .next (pulse 103 (prm [(1, k.1 + 1)]) { s with
      rdr.ant := vset s.rdr.ant k { ant s k with ext := true, noTgt := 0, poll := none, pollIds := [], pollTg := 0, pollDone := false } }))) ∧
  (∀ (k : Fin 8) (s : State), (ant s k).poll.isSome = true → (ant s k).pollDone = true →
    let x := ant s k
    let u := pollOver k (countTargets k s)
    let v := pollFlow k x.pollIds x.pres.ids (modAnt k (fun y => { y with
      pres := { y.pres with ids := (y.pres.ids ++ x.pollIds.map fun r => (r.1, r.2.1)).eraseDups } }) u)
    exec (.pollEnd k) s = .next { v with
      rdr.recent := (x.pollIds.map fun r => (r.1, r.2.1, k.1, v.clk.mono)) ++
        (v.rdr.recent.filter fun r => decide (v.clk.mono ≤ r.2.2.2 + 500000)) }) ∧
  (∀ (k : Fin 8) (s : State),
    let x := ant s k
    let withAnt := fun (y : Ant) => { s with rdr.ant := vset s.rdr.ant k y }
    (0 < x.pollTg → countTargets k s = withAnt { x with noTgt := 0 }) ∧
    (x.pollTg = 0 → x.noTgt < 3 → countTargets k s = withAnt { x with noTgt := x.noTgt + 1 }) ∧
    (x.pollTg = 0 → 3 ≤ x.noTgt → countTargets k s = pulse 101 (prm [(1, k.1 + 1), (1, 2)])
      (withAnt { x with base := some x.last, fst0 := [], noTgt := 0, reused := false }))) ∧
  (∀ (k : Fin 8) (ids : List (Nat × List Byte × Bool)) (old : List (Nat × List Byte)) (s : State),
    let l := ((ids.filter fun r => !r.2.2).map fun r => (r.1, r.2.1)).eraseDups
    ((∀ r ∈ l, r ∈ old) → pollFlow k ids old s = s) ∧
    ((∃ r ∈ l, r ∉ old) → (∀ r, l ≠ [r]) → pollFlow k ids old s = pulse 99 (prm [(1, k.1 + 1), (1, 0), (4, l.length)]) s) ∧
    (∀ ty id, l = [(ty, id)] → (ty, id) ∉ old → (readElsewhere s k ty id = none → pollFlow k ids old s = enterFlow k ty id true k.1 s) ∧
      (∀ e, readElsewhere s k ty id = some e → ∀ j, ix 8 e.2.2.1 = some j → pollFlow k ids old s = ambiguous k j ty id s))) ∧
  (∀ (k : Fin 8) (ma : Nat) (phase : Int) (s : State),
    let runs := rdrRuns s = true ∧ antUsed s k = true ∧ frontBusy s k = false
    let u := selectAnt k s
    (runs → selfDue s k = true → (ant s k).stCmd = none →
      exec (.antennaSelftest k ma phase) s = .next (setAntFault k (!selfPass (nvAnt s k).ref ma phase) ma phase u)) ∧
    (∀ f, runs → (ant s k).stCmd = some f →
      let v := { u with rdr.ant := vset u.rdr.ant k { ant u k with stCmd := none } }
      let w := { v with lists.ants := vset v.lists.ants k { nvAnt v k with ref := some (ma, phase) } }
      (u8 1 f.pkt.payload ≠ 1 → exec (.antennaSelftest k ma phase) s = .next (finish f (selfReply (selfPass (nvAnt s k).ref ma phase) ma phase)
        (setAntFault k (!selfPass (nvAnt s k).ref ma phase) ma phase v))) ∧
      (u8 1 f.pkt.payload = 1 → driverOk ma = true → exec (.antennaSelftest k ma phase) s = .next (finish f
        (selfReply (selfPass (some (ma, phase)) ma phase) ma phase) (setAntFault k (!selfPass (some (ma, phase)) ma phase) ma phase w))) ∧
      (u8 1 f.pkt.payload = 1 → driverOk ma = false → exec (.antennaSelftest k ma phase) s = .next (complete f 0x0201 [] v)))) ∧
  (∀ (p : Pkt) (s : State) (k : Fin 8) (op : Fin 2), taken 0x0706 p s = true →
    p.payload = [BitVec.ofNat 8 (k.1 + 1), BitVec.ofNat 8 op.1, 0, 0] → hasPoint s k = true →
    let u := begun 0x0706 p s
    antUsed u k = true → (ant u k).stCmd = none →
    exec (.rdrSelftest p) s = .next { u with rdr.ant := vset u.rdr.ant k { ant u k with stCmd := some (flightOf 0x0706 p s) } }) ∧
  (∀ (p : Pkt) (s : State) (m : Nat) (cs : List BlkCopy), taken 0x0701 p s = true → p.payload.length = 4 → u16 0 p.payload = m →
    rsv 2 2 p.payload = true → 0 < m → m < 2 ^ 9 →
    let u := begun 0x0701 p s
    (∀ n ∈ authPoints m, hasPoint u n = true) → Takes u ((if bit m 0 then [0x0700] else []) ++ (authPoints m).map fun n => 0x0701 + n.1) cs →
    waitingCommit u 0x0701 = none → exec (.authCommit p) s = .next (take (flightOf 0x0701 p s) cs u)) ∧
  (∀ (f : Flight) (s : State), waitingCommit s 0x0701 = some f →
    ((∀ k, (ant s k).poll = none) → exec .authCommitApply s = .next (finish f (le 8 s.clk.time) (untake f (commitCopies (takenBy s f) s))) ∧
      ∀ c, takenBy s f = [c] → committedCopy (commitCopies (takenBy s f) s) c.id = some { c with tCommit := s.clk.time, bstate := 1 }) ∧
    ((∃ k, (ant s k).poll.isSome = true) → exec .authCommitApply s = .next s)) ∧
  (∀ (p : Pkt) (s : State), taken 0x0702 p s = true →
    let u := begun 0x0702 p s
    let f := flightOf 0x0702 p s
    let gives := fun (l : List LEntry) => exec (.authListWrite p) s = .next (finish f (le 4 l.length) { u with lists.staging := l })
    let es := entriesOf p.payload
    let sound := p.payload.length = 4 + 32 * u16 2 p.payload ∧ rsv 1 1 p.payload = true ∧ u16 2 p.payload ≤ 500 ∧
      (∀ e ∈ es, keyOk e = true ∧ onlyBits e.eflags 1 = true)
    (p.payload = [0, 0, 0, 0] → gives []) ∧ (p.payload = [1, 0, 0, 0] → gives u.lists.active) ∧
    (sound → u8 0 p.payload = 2 → (∀ e ∈ es, entryOk u e = true) →
      ((addEntries es u.lists.staging).2 = true → gives (addEntries es u.lists.staging).1) ∧
      ((addEntries es u.lists.staging).2 = false →
        exec (.authListWrite p) s = .next (complete f 0x0503 [] { u with lists.staging := (addEntries es u.lists.staging).1 }))) ∧
    (sound → u8 0 p.payload = 3 → gives (u.lists.staging.filter fun x => !(es.any fun e => e.key == x.key)))) ∧
  (∀ (p : Pkt) (s : State) (v : Nat), taken 0x0703 p s = true → p.payload = le 4 v → v < 2 ^ 32 →
    let u := begun 0x0703 p s
    let w := { u with lists.active := u.lists.staging, lists.ver := v, lists.gen := (u.lists.gen + 1) % 2 ^ 32 }
    exec (.authListCommit p) s = .next (finish (flightOf 0x0703 p s) (le 4 (nAllow w) ++ le 4 (nDeny w))
      (pulse 102 (prm [(4, v), (4, nAllow w), (4, nDeny w)]) w))) ∧
  (∀ (p : Pkt) (s : State) (k : Fin 8), taken 0x0705 p s = true → p.payload = [BitVec.ofNat 8 (k.1 + 1), 0, 0, 0] → hasPoint s k = true →
    let u := begun 0x0705 p s
    let x := ant u k
    exec (.rdrStatus p) s = .next (finish (flightOf 0x0705 p s) (le 8 s.clk.time ++ le 1 (k.1 + 1) ++ le 1 (antState u k) ++
      le 2 (b2n x.fault + 2 * b2n x.ext + 4 * b2n x.reused + 8 * b2n (ses u k).req.isSome + 16 * b2n (nvAnt u k).ref.isNone) ++
      le 2 (convN (x.base.getD 0) 1000) ++ le 2 (convN x.last 1000) ++ le 1 x.lastType ++ le 1 x.lastId.length ++ [0, 0] ++ fit 16 x.lastId ++
      le 8 x.tLast ++ le 4 u.lists.ver ++ le 4 (nAllow u) ++ le 4 (nDeny u)) u))

/-- A field of 1.5 A/m powers the field side, with a new UID drawn when VIO does not supply it, and its collapse ends that, in the
midst of a write after the words written so far. NDEF_READ answers its two files. FIELD_READ answers GEN, DLEN, STATE and the
data of a record. FIELD_WRITE is answered with the status word of the first check that fails, with 0x6581 at a second failed
verify, and otherwise makes the new data current in both copies and answers the new generation. CONFIRM_PROCESS processes a
CONFIRM record of a newer generation once, and a result of 1 confirms the check value. FS_READ repairs the record and answers
its 252 bytes; FS_WRITE writes SITE at the expected generation, and is refused at another; FS_CTL with SAFETY authority sets
the mode, and without it is refused with ST_DENIED and E122. -/
def Obligations.FieldStoreCompletes : Prop :=
  (∀ (mAm : Nat) (s : State),
    (1500 ≤ mAm → s.fst.powered = false → s.pwr.vioValid = true → exec (.fieldPowerUp mAm) s = .next { s with fst.powered := true }) ∧
    (1500 ≤ mAm → s.fst.powered = false → s.pwr.vioValid = false → ∃ t, exec (.fieldPowerUp mAm) s = .next t ∧
      t = { s with fst := t.fst, clk.free := t.clk.free } ∧ t.fst = { s.fst with powered := true, uid := t.fst.uid } ∧ t.fst.uid / 2 ^ 24 = 0x08) ∧
    (mAm < 1500 ∨ s.fst.powered = true → exec (.fieldPowerUp mAm) s = .next s)) ∧
  (∀ s : State, s.fst.powered = true →
    exec (.fieldCollapse none) s = .next { s with fst.powered := false } ∧
    (∀ (r : Nat) (data : List Byte) (k : Nat), fieldRefused s r data = none → exec (.fieldCollapse (some (r, data, k))) s =
      .next (let t := fieldPut r (if s.pwr.vioValid then 192 else k) data s; { t with fst.powered := false })) ∧
    exec (.ndefRead 0xE104) s = .next { s with fst.sw := 0x9000, fst.ans := ndefFile } ∧
    (∃ t, exec (.ndefRead 0xE103) s = .next t ∧ t = { s with fst := t.fst, clk.free := t.clk.free } ∧
      t.fst = { s.fst with sw := 0x9000, ans := t.fst.ans } ∧ t.fst.ans.length = 15) ∧
    (∀ r, r < 32 → (∀ c ok, current s.fst.mem r = some (c, ok) → exec (.fieldRead r []) s = .next { s with
        fst.sw := 0x9000, fst.ans := le 4 (copyGen c) ++ le 2 (copyData c).length ++ le 1 (if ok then 0 else 1) ++ [0] ++ copyData c }) ∧
      (current s.fst.mem r = none → exec (.fieldRead r []) s = .next { s with fst.sw := 0x9000, fst.ans := le 4 0 ++ le 2 0 ++ le 1 2 ++ [0] })) ∧
    (∀ r, 31 < r → exec (.fieldRead r []) s = .next { s with fst.sw := 0x6A83, fst.ans := [] }) ∧
    (∀ (r : Nat) (data : List Byte) (b1 b2 : Nat),
      (∀ sw, fieldRefused s r data = some sw → exec (.fieldWrite r data (b1, b2)) s = .next { s with fst.sw := sw, fst.ans := [] }) ∧
      (fieldRefused s r data = none →
        let t := fun (k : Nat) => fieldPut r ((repairWords s.fst.mem r).length + k) data s
        (2 ≤ b1 → exec (.fieldWrite r data (b1, b2)) s = .next { t 64 with fst.sw := 0x6581, fst.ans := [] }) ∧
        (b1 < 2 → 2 ≤ b2 → exec (.fieldWrite r data (b1, b2)) s = .next { t 128 with fst.sw := 0x6581, fst.ans := [] }) ∧
        (b1 < 2 → b2 < 2 → exec (.fieldWrite r data (b1, b2)) s = .next { t 128 with fst.sw := 0x9000, fst.ans := le 4 (u32 0 data + 1) } ∧
          (cellWf fsDflt s.fst.mem = true → current (t 128).fst.mem r = some (copyBytes r (u32 0 data + 1) (data.drop 6), true) ∧
            ∀ q, q < 32 → q ≠ r → current (t 128).fst.mem q = current s.fst.mem q))))) ∧
  (∀ (n : Fin 8) (s : State),
    (wiredRuns s = true → s.pwr.kRunning = true → exec (.confirmProcess n) s = .next (statusSync (confirmRec n (foundWrites s)))) ∧
    (wiredRuns s = false ∨ s.pwr.kRunning = false → exec (.confirmProcess n) s = .next s)) ∧
  (∀ (n : Fin 8) (c : List Byte) (ok : Bool) (s : State),
    let u := repairRec (n.1 + 2) s
    current u.fst.mem (n.1 + 2) = some (c, ok) →
    (copyGen c ≤ vget s.nvFst.procGen n → confirmRec n s = u) ∧
    (vget s.nvFst.procGen n < copyGen c → ∃ t, confirmRec n s = t ∧ vget t.nvFst.procGen n = copyGen c ∧
      vget t.nvFst.result n = confirmResult u n (copyGen c) (copyData c) ∧
      (vget t.nvFst.result n = 1 → confirmedOf t n = (saf s n).check) ∧ (vget t.nvFst.result n ≠ 1 → t.nvPt = s.nvPt))) ∧
  (∀ (p : Pkt) (s : State) (r : Fin 32), taken 0x0E01 p s = true → p.payload = [BitVec.ofNat 8 r.1, 0, 0, 0] →
    let v := repairRec r.1 (statusSync (begun 0x0E01 p s))
    ∀ c ok, current v.fst.mem r.1 = some (c, ok) → exec (.fsRead p) s = .next (finish (flightOf 0x0E01 p s)
      (le 4 (copyGen c) ++ le 2 (copyData c).length ++ le 1 (if ok then 0 else 1) ++ [0] ++ fit 244 (copyData c)) v)) ∧
  (∀ (p : Pkt) (s : State) (d : List Byte) (e : Nat), taken 0x0E02 p s = true → d.length ≤ 244 → e < 2 ^ 32 →
    p.payload = [10, 0] ++ le 2 d.length ++ le 4 e ++ d →
    let v := repairRec 10 (begun 0x0E02 p s)
    (∀ c ok, current v.fst.mem 10 = some (c, ok) →
      (copyGen c = e → e < 0xFFFFFFFF → exec (.fsWrite p) s = .next (finish (flightOf 0x0E02 p s) (le 4 (e + 1)) (wiredWrite 10 d v))) ∧
      (copyGen c ≠ e ∨ copyGen c = 0xFFFFFFFF → exec (.fsWrite p) s = .next (complete (flightOf 0x0E02 p s) 0x0201 [] v)))) ∧
  (∀ (d c : List Byte) (s : State), d.length ≤ 244 → cellWf fsDflt s.fst.mem = true → current s.fst.mem 10 = some (c, true) → copyGen c < 0xFFFFFFFF →
    current (wiredWrite 10 d s).fst.mem 10 = some (copyBytes 10 (copyGen c + 1) d, true)) ∧
  (∀ (p : Pkt) (s : State) (m : Fin 2), taken 0x0E03 p s = true → p.payload = [BitVec.ofNat 8 m.1, 0, 0, 0] →
    let u := begun 0x0E03 p s
    let f := flightOf 0x0E03 p s
    (holds u p.src 3 = true → exec (.fsCtl p) s = .next (finish f [] (statusSync { u with nvFst.mode := m.1, fst.modeWord := m.1 }))) ∧
    (holds u p.src 3 = false → exec (.fsCtl p) s = .next (complete f 0x0301 [] (deniedEvent f 8 u))))

/-- For a record whose two copies are valid at one generation e: whatever number of the word writes of R305 has been carried out
when the supply collapses, the current content is the old one while fewer than the 64 words of the backup are written, and the
new data at e + 1 from then on; the primary is current again after all 128. No other record changes. -/
def Obligations.RecordWriteIsAtomic : Prop :=
  ∀ (m : List Cell) (r k : Nat) (d : List Byte), cellWf fsDflt m = true → r < 32 → d.length ≤ 244 →
    copyValid r (readCopy m r false) = true → copyValid r (readCopy m r true) = true →
    copyGen (readCopy m r true) = copyGen (readCopy m r false) → copyGen (readCopy m r false) < 0xFFFFFFFF →
    let e := copyGen (readCopy m r false)
    let m' := putWords ((writeWords m r (e + 1) d).take k) m
    (k < 64 → current m' r = some (readCopy m r false, true)) ∧
    (64 ≤ k → k < 128 → current m' r = some (copyBytes r (e + 1) d, false)) ∧
    (128 ≤ k → current m' r = some (copyBytes r (e + 1) d, true)) ∧
    (∀ q, q < 32 → q ≠ r → current m' q = current m q)

/-- SEC_KEY with KEYS authority makes a blob under the next KEY_ID, in the lowest free pair of slots, and answers its identifier
and public key, or deletes one and empties its slot; SEC_STORE stores or removes a certificate, with KEYS authority or as the
first credential with KEYS from the SPI port, and a changed credential ends its grants; SEC_READ answers one. SEC_CHALLENGE
answers 32 drawn bytes kept for its source. SEC_PROVE with a good signature grants the credential's authorities and answers
those its source holds, and is denied with a bad one or while the algorithm has failed its test; the nonce serves once either
way. SEC_ATTEST answers the statement and its signature, or ST_STATE while the algorithm has failed. KAT_RUN sets the failed
algorithms of those it tests, with E121. A nonce ends after 60 s and a grant after 8 h. Without KEYS authority SEC_KEY and
SEC_STORE are refused with ST_DENIED and E122. -/
def Obligations.KeysComplete : Prop :=
  (∀ (p : Pkt) (s : State) (type use key : Nat), taken 0x0A01 p s = true → type < 256 → use < 256 → key < 2 ^ 32 →
    let u := begun 0x0A01 p s
    let f := flightOf 0x0A01 p s
    let id := u.nvKey.nextId
    let b : Blob := { keyId := id, type, use, root := b2n u.key.debug, org := 1, created := if u.clk.timeValid then u.clk.time else 0,
                      pair := freePair u.nvKey.blobs }
    (p.payload = [0] ++ le 1 type ++ le 1 use ++ [0] ++ le 4 key → useOk type use = true →
      (holds u p.src 4 = true → u.nvKey.blobs.length < 2048 → exec (.secKey p) s = .next (finish f
        (le 4 id ++ le 2 (pubLen type) ++ [0, 0] ++ pubKey type id)
        { u with nvKey.blobs := u.nvKey.blobs ++ [b], nvKey.nextId := id + 1 })) ∧
      (holds u p.src 4 = true → 2048 ≤ u.nvKey.blobs.length → exec (.secKey p) s = .next (complete f 0x0504 [] u)) ∧
      (holds u p.src 4 = false → exec (.secKey p) s = .next (complete f 0x0301 [] (deniedEvent f 16 u)))) ∧
    (p.payload = [1, 0, 0, 0] ++ le 4 key → 2 ≤ key → (blobOf u key).isSome = true →
      (holds u p.src 4 = true → ∃ t, exec (.secKey p) s = .next t ∧ t = finish f (le 4 key ++ zeros 4) (dropKey key u) ∧ blobOf t key = none) ∧
      (holds u p.src 4 = false → exec (.secKey p) s = .next (complete f 0x0301 [] (deniedEvent f 16 u))))) ∧
  (∀ (p : Pkt) (s : State) (role i auth key : Nat) (der : List Byte), taken 0x0A02 p s = true → 1 ≤ role → role ≤ 7 → i < roleSize role →
    auth < 256 → (role = 7 → auth < 32) → key < 2 ^ 32 → der.length ≤ 2048 →
    p.payload = le 1 role ++ le 1 i ++ le 1 auth ++ [0] ++ le 4 key ++ le 2 der.length ++ [0, 0] ++ der →
    let u := begun 0x0A02 p s
    let f := flightOf 0x0A02 p s
    let v := dropCert role i u
    let c : Cert := { role, index := i, auth := if role = 7 then auth else 0, keyId := if 4 ≤ role ∧ role ≤ 6 then key else 0, der }
    let may := holds u p.src 4 = true ∨ (role = 7 ∧ der ≠ [] ∧ auth.testBit 4 = true ∧ keysCred u = false ∧ p.src = .spi)
    (der ≠ [] → certOk u role i key der = true → may → ∃ t, exec (.secStore p) s = .next t ∧
      t = finish f [] { v with nvKey.certs := v.nvKey.certs ++ [c] } ∧ certAt t role i = some c) ∧
    (der = [] → may → ∃ t, exec (.secStore p) s = .next t ∧ t = finish f [] v ∧ certAt t role i = none) ∧
    (der = [] ∨ certOk u role i key der = true → ¬ may → exec (.secStore p) s = .next (complete f 0x0301 [] (deniedEvent f 16 u)))) ∧
  (∀ (role i : Nat) (s : State), dropCert role i s = { s with
    nvKey.certs := s.nvKey.certs.filter fun c => !(c.role == role && c.index == i)
    key.grants := s.key.grants.filter fun g => !(role == 7 && g.index == i) }) ∧
  (∀ (p : Pkt) (s : State) (role i : Nat) (c : Cert), taken 0x0A03 p s = true → role < 8 → i < roleSize role →
    p.payload = le 1 role ++ le 1 i ++ [0, 0] →
    let u := begun 0x0A03 p s
    (certAt u role i = some c → exec (.secRead p) s = .next (finish (flightOf 0x0A03 p s)
      (le 1 c.auth ++ [0] ++ le 2 c.der.length ++ le 4 c.keyId ++ c.der) u)) ∧
    (certAt u role i = none → exec (.secRead p) s = .next (complete (flightOf 0x0A03 p s) 0x0201 [] u))) ∧
  (∀ (p : Pkt) (s : State), taken 0x0A04 p s = true → p.payload = [] →
    let u := begun 0x0A04 p s
    exec (.secChallenge p) s = .next (finish (flightOf 0x0A04 p s) (rands 32 u) { u with
      clk.free := u.clk.free + 32
      key.nonces := { src := p.src, nonce := rands 32 u, t0 := u.clk.mono } :: u.key.nonces.filter fun y => !(y.src == p.src) })) ∧
  (∀ (p : Pkt) (s : State) (c : Cert) (pub : List Byte) (y : Nonce), taken 0x0A05 p s = true → p.payload.length = 116 →
    let u := begun 0x0A05 p s
    let f := flightOf 0x0A05 p s
    let used := { u with key.nonces := u.key.nonces.filter fun y => !(y.src == p.src) }
    credOf u (slice 0 20 p.payload) = some (c, pub) →
    u.key.nonces.find? (fun y => y.src == p.src && decide (u.clk.mono < y.t0 + 60000000)) = some y →
    let ok := !u.key.kat.contains 4 && Config.ecdsaVerify pub
      (y.nonce ++ le 8 Config.serial.toNat ++ le 1 (Source.ident p.src) ++ slice 0 20 p.payload) (slice 20 96 p.payload)
    let v := { used with key.grants := ({ src := p.src, auth := c.auth, index := c.index, t0 := u.clk.mono } :: u.key.grants).take 8 }
    (ok = true → exec (.secProve p) s = .next (finish f (le 1 (authMask v p.src) ++ [0, 0, 0]) v)) ∧
    (ok = false → exec (.secProve p) s = .next (complete f 0x0301 [] (deniedEvent f 0 used)))) ∧
  (∀ (p : Pkt) (s : State), taken 0x0A06 p s = true → p.payload.length = 32 →
    let u := begun 0x0A06 p s
    let f := flightOf 0x0A06 p s
    let b := statement u p.payload
    u.pwr.kRunning = true →
    (4 ∉ u.key.kat → exec (.secAttest p) s = .next (finish f (b ++ (signWith 1 b u).2) (signWith 1 b u).1)) ∧
    (4 ∈ u.key.kat → exec (.secAttest p) s = .next (complete f 0x0201 [] u))) ∧
  (∀ (fails : List Nat) (s : State), s.pwr.kRunning = true →
    let full := s.key.katAt = none ∨ ∃ t, s.key.katAt = some t ∧ t + 86400000000 ≤ s.clk.mono
    let again := s.key.kat ≠ [] ∧ s.key.retestAt + 600000000 ≤ s.clk.mono
    (full ∨ again → ∃ t, exec (.katRun fails) s = .next t ∧
      t = { s with key := t.key, pwr.timerDue := false, ev := t.ev, led := t.led, p100 := t.p100 } ∧
      t.key = { s.key with kat := t.key.kat, katAt := t.key.katAt, retestAt := s.clk.mono } ∧
      (full → t.key.katAt = some s.clk.mono) ∧ (¬ full → t.key.katAt = s.key.katAt) ∧
      ∀ a, a < 11 → (full ∨ a ∈ s.key.kat → (a ∈ t.key.kat ↔ a ∈ fails) ∧ ((121, a) ∈ t.ev.active ↔ a ∈ fails)) ∧
        (¬ full → a ∉ s.key.kat → a ∉ t.key.kat)) ∧
    (¬ full → ¬ again → exec (.katRun fails) s = .next s)) ∧
  (∀ s : State, exec .nonceExpiry s = .next { s with key.nonces := s.key.nonces.filter fun x => !decide (x.t0 + 60000000 ≤ s.clk.mono) } ∧
    exec .grantExpiry s = .next { s with key.grants := s.key.grants.filter fun g => !decide (g.t0 + 28800000000 ≤ s.clk.mono) })

/-! ## Tider and display -/

/-- HALF_CYCLE_RECORD takes the oldest record; the first one sets a loop's prediction, and a used crossing moves it by 1/8 and its
period by 1/64 of the error, rounded down. TIDER_SLOT drives the bit's pulse in the half-cycle its value calls for; the slots
of its two half-cycles give the soft level, an erasure where a slot is lost or has no unflagged half-cycle record. SPAN_END,
at the end of the span, decodes the channels of an aligned node, a quiet one left idle and one that does not decode counted,
and one not aligned listens: over to the random wait after two spans without sync, aligned by the same sync word twice.
JOIN_LISTEN_END starts its own span, or listens again. NEIGHBOUR_TIMEOUT leaves only neighbours heard in time; BEACON_DUE and
DEMAND_DUE make their frame due; ALLOC_TIMEOUT sets FAILSAFE_I on every phase in use with E109. TDR_COMMIT puts the block
taken in effect; TDR_STATUS answers its fields; TDR_BUDGET is kept by a holder for its next span, and refused with ST_STATE
elsewhere. -/
def Obligations.TiderCompletes : Prop :=
  (∀ (r : HcRec) (rest : List HcRec) (s : State), s.filt.hcq = r :: rest → s.pwr.tRunning = true →
    (linkOn s = false → exec .halfCycleRecord s = .next { s with filt.hcq := rest }) ∧
    (linkOn s = true → r.ch < tdrPh s → r.ch < 3 → unusedFlags r.flags = false →
      ((loopOf s r.ch).per = 0 → (loopOf s r.ch).lastSeq = none → ∃ t, exec .halfCycleRecord s = .next t ∧ t.filt.hcq = rest ∧
        (loopOf t r.ch).per = 128 * ((r.tEnd : Int) - r.tZc) ∧ (loopOf t r.ch).pred = 64 * (r.tEnd : Int)) ∧
      ((loopOf s r.ch).per ≠ 0 → r.seq < 256 → (loopOf s r.ch).lastSeq = some ((r.seq + 255) % 256) →
        unusedFlags (loopOf s r.ch).lastFlag = false →
        let e := 64 * (r.tZc : Int) - (loopOf s r.ch).pred
        ∃ t, exec .halfCycleRecord s = .next t ∧ t.filt.hcq = rest ∧ (loopOf t r.ch).per = (loopOf s r.ch).per + e / 64 ∧
          (loopOf t r.ch).pred = (loopOf s r.ch).pred + (loopOf s r.ch).per / 2 + e / 8 ∧ (loopOf t r.ch).bad = 0))) ∧
  (∀ (pos : Nat) (xs : List Int) (amp : Nat) (s : State), linkOn s = true → s.tdr.join = 3 → pos < tdrBits s →
    let ph := posPhase s pos
    let fire := fun (b : Bool) => decide (sendBit s pos = some b)
    let driven := fun (b : Bool) => { s.tdr with tx := Vector.ofFn fun k => fire b && k.1 == ph, arm := s.tdr.arm || fire b }
    let rest := s.tdr.mpos.filter fun x => x.pos != pos
    let at0 := slotTime s ph (posSlot s pos)
    let bad := !loopUp s ph
    exec (.tiderSlot pos false xs amp) s = .next { s with
      tdr := { driven true with mpos := { pos, val := notch false xs, lost := bad, tP := at0 } :: rest } } ∧
    (∀ x, s.tdr.mpos.find? (fun x => x.pos == pos) = some x → exec (.tiderSlot pos true xs amp) s = .next { s with
      tdr := { driven false with
        mpos := rest
        metrics := { x with val := softLevel (x.val - notch true xs) amp, lost := x.lost || bad, tN := at0 } :: s.tdr.metrics } }) ∧
    (s.tdr.mpos.find? (fun x => x.pos == pos) = none → exec (.tiderSlot pos true xs amp) s = .next { s with
      tdr := { driven false with metrics := { pos, lost := true } :: s.tdr.metrics } })) ∧
  (∀ (pos : Nat) (neg : Bool) (xs : List Int) (amp : Nat) (s : State), linkOn s = false ∨ s.tdr.join ≠ 3 ∨ tdrBits s ≤ pos →
    exec (.tiderSlot pos neg xs amp) s = .next s) ∧
  (∀ x : TSlot, slotSoft x = if x.lost = false ∧ x.okP = true ∧ x.okN = true then (x.val, false) else (0, true)) ∧
  (∀ (x : SpanIn) (s : State),
    let u := { s with tdr := { s.tdr with halves := s.tdr.halves - spanHalves s } }
    let clear := fun (t : State) => { t with tdr := { t.tdr with metrics := [], mpos := [], tx := Vector.replicate 3 false, arm := false } }
    (linkOn s = true → (spanHalves s : Int) ≤ s.tdr.halves + 1 →
      (s.tdr.join = 3 → exec (.spanEnd x) s = .next (chooseFrames (clear (alignedSpan x u)))) ∧
      (s.tdr.join = 1 ∨ s.tdr.join = 2 → exec (.spanEnd x) s = .next (chooseFrames (clear (takeNext (listenSpan x.syncs u)))))) ∧
    (linkOn s = false ∨ s.tdr.join = 0 ∨ s.tdr.halves + 1 < spanHalves s → exec (.spanEnd x) s = .next s)) ∧
  (∀ (l : List (Nat × Nat × Nat)) (s : State),
    let good := (l.filter fun x => decide (x.2.1 ≤ 16) && decide (56 ≤ x.2.2)).map (·.1)
    (s.tdr.join = 1 → 1 ≤ s.tdr.spans → s.tdr.syncRun = 0 → good = [] →
      (listenSpan l s).tdr.join = 2 ∧ (listenSpan l s).tdr.waitAt = s.clk.mono ∧ (listenSpan l s).tdr.waitN ≤ 1000) ∧
    (s.tdr.syncRun ≠ 0 → s.tdr.syncOfs ∈ good → listenSpan l s = align s.tdr.syncOfs s)) ∧
  (∀ (ofs : Nat) (s : State), (align ofs s).tdr.join = 3 ∧ (align ofs s).tdr.syncOfs = ofs ∧ (align ofs s).tdr.beaconDue = true ∧
    (align ofs s).tdr.halves = s.tdr.halves - 2 * (ofs : Int) ∧ (105, 0) ∈ (align ofs s).ev.active) ∧
  (∀ (s : State) (n c : Nat),
    let l := chanSoft s c
    let eras := (l.filter (·.2)).length
    let weak := (l.filter fun v => v.2 || decide (v.1.natAbs ≤ 2)).length
    let u := { s with tdr := { s.tdr with eras := satAdd 32 s.tdr.eras eras } }
    ((l.map fun v => v.1.natAbs).sum < 2072 → takeChannel (s, n) c = (u, n)) ∧
    (2072 ≤ (l.map fun v => v.1.natAbs).sum →
      (∀ f, decodeFrame (l.map (·.1)) = some f → takeChannel (s, n) c = (takeFrame f (255 * (1036 - weak) / 1036) u, n)) ∧
      (decodeFrame (l.map (·.1)) = none → takeChannel (s, n) c = ({ u with tdr := { u.tdr with bad := satAdd 32 s.tdr.bad 1 } }, n + 1)))) ∧
  (∀ s : State, linkOn s = true → s.tdr.join = 2 → s.tdr.waitAt + 1000 * s.tdr.waitN * tdrSpan (tdrBlk s) ≤ s.clk.mono →
    (s.tdr.syncRun = 0 → exec .joinListenEnd s = .next (align 0 (ownSpan s))) ∧
    (s.tdr.syncRun ≠ 0 → exec .joinListenEnd s = .next { s with tdr.join := 1 })) ∧
  (∀ s : State, ∃ t, exec .neighbourTimeout s = .next t ∧ t = { s with tdr := t.tdr, ev := t.ev, led := t.led, p100 := t.p100 } ∧
    (∀ n ∈ t.tdr.nb, n ∈ s.tdr.nb ∧ s.clk.mono < n.t0 + 3000000 * beaconT (tdrBlk s)) ∧
    ((∀ n ∈ s.tdr.nb, s.clk.mono < n.t0 + 3000000 * beaconT (tdrBlk s)) → t = s)) ∧
  (∀ s : State, linkOn s = true → s.tdr.join = 3 → s.tdr.beacAt + 1000000 * beaconT (tdrBlk s) ≤ s.clk.mono →
    exec .beaconDue s = .next { s with tdr.beaconDue := true }) ∧
  (∀ s : State, linkOn s = true → s.tdr.join = 3 → isHolder s = false → demandMoved s = true ∨
      s.tdr.demAt + 1000000 * demPeriod (tdrBlk s) ≤ s.clk.mono ∨ (s.tdr.demOpen = true ∧ 3 ≤ s.tdr.demSpans) →
    exec .demandDue s = .next { s with tdr.demDue := true }) ∧
  (∀ (t0 : Nat) (s : State), tdrOn s = true → s.pwr.tRunning = true → s.tdr.failsafe = false →
    s.tdr.allocAt = some t0 ∨ s.tdr.l1Unl = some t0 → t0 + 1000000 * allocTimeout (tdrBlk s) ≤ s.clk.mono →
    exec .allocTimeout s = .next (setFailsafe s) ∧ (setFailsafe s).tdr.failsafe = true ∧ (109, 0) ∈ (setFailsafe s).ev.active ∧
      ∀ k : Fin 3, vget (setFailsafe s).tdr.alloc k = if k.1 < tdrPh s then failsafeI (tdrBlk s) else 0) ∧
  (∀ (p : Pkt) (s : State) (c : BlkCopy), taken 0x0801 p s = true → p.payload = [0, 0, 0, 0] →
    let u := begun 0x0801 p s
    Takes u [0x0800] [c] → (tdrPhases c.bytes == 3 && grpSystem (grp u 0) == 2) = false → ∃ t, exec (.tdrCommit p) s = .next t ∧
      Answered 0x0801 p 0 (le 8 s.clk.time) t ∧ committedCopy t 0x0800 = some { c with tCommit := s.clk.time, bstate := 1 } ∧
      t.tdr.dup = false ∧ t.tdr.budget = [0, 0, 0] ∧
      (tdrRestarts u.tdr.applied c.bytes = true → t.tdr.applied = some c.bytes ∧ t.tdr.join = 0) ∧
      (tdrRestarts u.tdr.applied c.bytes = false → u.tdr.join = 3 → t.tdr.nxt = some c.bytes ∧ t.tdr.applied = u.tdr.applied) ∧
      (tdrRestarts u.tdr.applied c.bytes = false → u.tdr.join ≠ 3 → t.tdr.nxt = none ∧ t.tdr.applied = some c.bytes)) ∧
  (∀ (p : Pkt) (s : State), taken 0x0802 p s = true → p.payload = [] →
    let u := begun 0x0802 p s
    let t := u.tdr
    exec (.tdrStatus p) s = .next (finish (flightOf 0x0802 p s) (le 8 s.clk.time ++ le 1 (lstate u) ++ le 1 (lflags u) ++
      le 1 (if linkOn u then tdrChans u else 0) ++ le 1 t.cost ++ le 2 t.parent ++ le 2 (if linkOn u then holderOf u else 0xFFFF) ++
      le 2 t.nb.length ++ zeros 2 ++ t.alloc.toList.flatMap (le 2) ++ zeros 2 ++
      le 4 (match t.allocAt with | some a => min ((u.clk.mono - a) / 1000000) 0xFFFFFFFF | none => 0xFFFFFFFF) ++
      le 4 t.ok ++ le 4 t.bad ++ le 4 t.eras ++ le 4 t.repDrop) u)) ∧
  (∀ (p : Pkt) (s : State) (a b c : Nat), taken 0x0803 p s = true → p.payload = le 2 a ++ le 2 b ++ le 2 c ++ [0, 0] → a < 65536 →
    b < 65536 → c < 65536 →
    let u := begun 0x0803 p s
    ((linkOn u && isHolder u) = true → exec (.tdrBudget p) s =
      .next (finish (flightOf 0x0803 p s) [] { u with tdr := { u.tdr with budNext := some [a, b, c] } })) ∧
    ((linkOn u && isHolder u) = false → exec (.tdrBudget p) s = .next (complete (flightOf 0x0803 p s) 0x0201 [] u)))

/-- A ready display takes the first request of its queue, none but the recovery while one is pending. With the faceplate check
passed and the temperature known and within the bands its update begins: marker ACTIVE over its rectangle with its mode,
current written, the rails switched on unless they are up; with the temperature out of range or faulty it is deferred for 10 s
with E114. A mismatch of the check is E113 and one repair, and a second one FACEPLATE_FAULT with the region blanked. A rail
that settles goes on to the next step; one that does not is switched off and the update tried once more after 1 s, the second
time a display fault. Frames are scanned one each frame period, and the last completes the update: marker IDLE, updates risen
by 1, last displayed the content driven. The rails discharge after RAIL_HOLD. NTC_MEASURE gives the temperature and its
faults. LEGAL_RENDER renders what is shown into the legal region, and RECOVERY_START puts the recovery of the marker's
rectangle at the head of the queue with E118. DSP_COMMIT_APPLY puts the block in effect between updates and clears the faults. -/
def Obligations.DisplayEventsComplete : Prop :=
  (∀ (found : List Nat) (s : State), (dspReady s = true → s.dsp.retryAt = none → s.dsp.defer = none →
      exec (.displayUpdateStart found) s = .next (startUpdate found s)) ∧
    (dspReady s = false ∨ s.dsp.retryAt.isSome = true ∨ s.dsp.defer.isSome = true → exec (.displayUpdateStart found) s = .next s)) ∧
  (∀ (t0 : Nat) (s : State), dspReady s = true →
    (s.dsp.retryAt = some t0 → t0 + 1000000 ≤ s.clk.mono → exec .railRetry s = .next (startUpdate [] { s with dsp.retryAt := none })) ∧
    (s.dsp.defer = some t0 → t0 + 10000000 ≤ s.clk.mono → exec .tempDeferralRetry s = .next (startUpdate [] { s with dsp.defer := none }))) ∧
  (∀ (found : List Nat) (s : State), (s.dsp.queue = [] → startUpdate found s = s) ∧
    (∀ q qs, s.dsp.queue = q :: qs →
      (s.dsp.recPend = true → q.mode ≠ 2 → startUpdate found s = s) ∧
      (s.dsp.recPend = false ∨ q.mode = 2 →
        let c := faceplate found q.kind s
        let u := c.2
        (c.1 = false → startUpdate found s = u) ∧
        (c.1 = true → u.dsp.tempFault = true ∨ inRange u u.dsp.temp = false →
          startUpdate found s = pulse 114 (prm [(2, i2n 2 u.dsp.temp)]) { u with dsp.defer := some u.clk.mono }) ∧
        (c.1 = true → u.dsp.tempFault = false → inRange u u.dsp.temp = true → startUpdate found s = beginUpdate q u)))) ∧
  (∀ (q : UpdReq) (s : State), ∃ t, beginUpdate q s = t ∧ t = { s with dsp := t.dsp, nvDsp := t.nvDsp } ∧ t.dsp.run = some q ∧ t.dsp.frame = 0 ∧
    t.dsp.queue = s.dsp.queue.erase q ∧ t.dsp.railStep = (if s.dsp.railStep = 6 then 6 else 1) ∧ t.dsp.band = (bandIx s s.dsp.temp).toNat ∧
    t.dsp.curImg = fillRect q.rect (fun x y => pix s.dsp.nextImg x y) s.dsp.curImg ∧ t.dsp.frames = updFrames t q ∧
    t.nvDsp = { s.nvDsp with marker := 1, mRect := q.rect, mMode := q.mode, mTime := s.clk.time, mFrames := 0 }) ∧
  (∀ (found : List Nat) (kind : Nat) (s : State),
    let want := expectCrc s
    let u := writeLegal s.dsp.faceBlank (pulse 113 (prm [(4, want), (4, foundCrc found 0 s)]) s)
    (foundCrc found 0 s = want → faceplate found kind s = (true, checkPassed kind s)) ∧
    (foundCrc found 0 s ≠ want → foundCrc found 1 u = want → faceplate found kind s = (true, checkPassed kind u)) ∧
    (foundCrc found 0 s ≠ want → foundCrc found 1 u ≠ want → s.dsp.faceBlank = false → ∃ t, faceplate found kind s = (false, t) ∧
      t.dsp.faceFault = true ∧ t.dsp.blank = true ∧ t.dsp.faceBlank = true ∧ (113, 0) ∈ t.ev.active)) ∧
  (∀ (q : UpdReq) (mv : Int) (s : State), s.dsp.run = some q →
    (1 ≤ s.dsp.railStep → s.dsp.railStep ≤ 5 →
      let p := prm [(1, railCode s.dsp.railStep), (1, s.dsp.railStep)]
      let off := { s with dsp := { s.dsp with railFault := true, run := none, railStep := 0, dischAt := some s.clk.mono, scan := [] } }
      (railOk (dspB s) s.dsp.railStep mv = true → exec (.railPowerOnStep mv) s = .next { s with dsp.railStep := s.dsp.railStep + 1 }) ∧
      (railOk (dspB s) s.dsp.railStep mv = false → q.again = false → exec (.railPowerOnStep mv) s =
        .next (pulse 117 p { off with dsp := { off.dsp with queue := { q with again := true } :: s.dsp.queue, retryAt := some s.clk.mono } })) ∧
      (railOk (dspB s) s.dsp.railStep mv = false → q.again = true → exec (.railPowerOnStep mv) s =
        .next (level 117 0 true p { off with dsp := { off.dsp with dispFault := true } }))) ∧
    (s.dsp.railStep = 0 ∨ 5 < s.dsp.railStep → exec (.railPowerOnStep mv) s = .next s)) ∧
  (∀ (q : UpdReq) (s : State), s.dsp.run = some q → s.dsp.railStep = 6 → s.pwr.phase = .run →
    let due := s.dsp.frame = 0 ∨ s.dsp.frameAt + (if bit (u32 4 (dspB s)) 1 then 6250 else 5000) ≤ s.clk.mono
    (s.dsp.frame < s.dsp.frames → due → exec .displayFrame s = .next { s with
      dsp := { s.dsp with frame := s.dsp.frame + 1, frameAt := s.clk.mono, scan := frameScan s q s.dsp.frame } }) ∧
    (s.dsp.frames ≤ s.dsp.frame ∨ ¬ due → exec .displayFrame s = .next s) ∧
    (s.dsp.frame < s.dsp.frames ∨ ¬ due → exec .displayUpdateComplete s = .next s) ∧
    (s.dsp.frames ≤ s.dsp.frame → due → ∃ t, exec .displayUpdateComplete s = .next t ∧
      t = { s with dsp := t.dsp, nvDsp := t.nvDsp, ev := t.ev, led := t.led, p100 := t.p100 } ∧
      t.dsp = { s.dsp with run := none, railsAt := s.clk.mono, scan := [], recPend := s.dsp.recPend && q.mode != 2, tempUpd := some (q, s.dsp.band) } ∧
      t.nvDsp = { s.nvDsp with marker := 0, updates := (s.nvDsp.updates + 1) % 2 ^ 32, drive := t.nvDsp.drive
                               lastImg := fillRect q.rect (fun x y => if q.mode = 2 then 15 else pix s.dsp.curImg x y) s.nvDsp.lastImg } ∧
      t.nvDsp.drive = (riseDrive (drivenRegions s q s.dsp.frames) s).nvDsp.drive)) ∧
  (∀ s : State, s.dsp.run = none → s.dsp.railStep = 6 → s.dsp.railsAt + 1000 * railHold (dspB s) ≤ s.clk.mono →
    exec .railHoldExpiry s = .next { s with dsp := { s.dsp with railStep := 0, dischAt := some s.clk.mono, scan := [] } }) ∧
  (∀ s : State, dspOn s = true → s.pwr.tRunning = true → gridRuns s = true →
    (∀ v, ∃ t, exec (.ntcMeasure (some v)) s = .next t ∧ t = { s with dsp := t.dsp, ev := t.ev, led := t.led, p100 := t.p100 } ∧
      t.dsp = { s.dsp with temp := v, tempAt := some s.clk.mono, tempFault := false, tempRange := !inRange s v, tempUpd := none, queue := t.dsp.queue } ∧
      ((114, 0) ∉ t.ev.active) ∧ ((114, 1) ∈ t.ev.active ↔ inRange s v = false) ∧
      (s.dsp.tempUpd = none → t.dsp.queue = s.dsp.queue) ∧
      (∀ q b, s.dsp.tempUpd = some (q, b) → (2 ≤ (bandIx s v - b).natAbs → waitingReqs s < 4 →
        t.dsp.queue = insertReq { rect := q.rect, mode := 1, kind := 1 } s.dsp.queue) ∧
        ((bandIx s v - b).natAbs < 2 → t.dsp.queue = s.dsp.queue))) ∧
    (∃ t, exec (.ntcMeasure none) s = .next t ∧ t = { s with dsp := t.dsp, ev := t.ev, led := t.led, p100 := t.p100 } ∧
      t.dsp = { s.dsp with tempAt := some s.clk.mono, tempFault := true, tempRange := false } ∧ (114, 0) ∈ t.ev.active)) ∧
  (∀ s : State, dspOn s = true → gridRuns s = true → (renderDue s = true → ∃ t, exec .legalRender s = .next t ∧
      t = { s with dsp := t.dsp } ∧ t.dsp = { s.dsp with
        legalPix := renderRows s, legalVal := shownNow s, legalAt := s.clk.mono, faceBlank := false
        legalCrc := rectCrc (legalRect (dspB s)) t.dsp.nextImg, nextImg := t.dsp.nextImg, queue := t.dsp.queue } ∧
      t.dsp.nextImg = fillRect (legalRect (dspB s)) (fun x y => ((renderRows s).getD (y - legalY (dspB s)) []).getD (x - legalX (dspB s)) 15) s.dsp.nextImg ∧
      ((∃ q ∈ s.dsp.queue, q.kind = 2) → t.dsp.queue = s.dsp.queue) ∧
      ((∀ q ∈ s.dsp.queue, q.kind ≠ 2) → waitingReqs s < 4 → t.dsp.queue = insertReq { rect := legalRect (dspB s), kind := 2 } s.dsp.queue)) ∧
    (renderDue s = false → exec .legalRender s = .next s)) ∧
  (∀ s : State, dspOn s = true → s.pwr.tRunning = true → s.dsp.recPend = true → (∀ q ∈ s.dsp.queue, q.mode ≠ 2) → s.dsp.run = none →
    ∃ t, exec .recoveryStart s = .next t ∧ t = { s with dsp := t.dsp, nvDsp := t.nvDsp, ev := t.ev, led := t.led, p100 := t.p100 } ∧
      t.dsp = { s.dsp with queue := { rect := s.nvDsp.mRect, mode := 2, kind := 0 } :: s.dsp.queue
                           blank := s.dsp.blank || touches s.nvDsp.mRect (legalRect (dspB s)) } ∧
      t.nvDsp = { s.nvDsp with drive := t.nvDsp.drive, imbal := t.nvDsp.imbal } ∧ (s.nvDsp.marker ≠ 1 → t.nvDsp = s.nvDsp)) ∧
  (∀ (f : Flight) (s : State), waitingCommit s 0x0901 = some f →
    (s.dsp.run = none → ∃ t, exec .dspCommitApply s = .next t ∧ t = finish f (le 8 s.clk.time) (untake f (dspApply (takenBy s f) s)) ∧
      t.dsp.dispFault = false ∧ t.dsp.railFault = false ∧ t.dsp.applied = committed t 0x0900 ∧
      (∀ c, takenBy s f = [c] → committedCopy t c.id = some { c with tCommit := s.clk.time, bstate := 1 })) ∧
    (s.dsp.run.isSome = true → exec .dspCommitApply s = .next s))

/-- DSP_COMMIT waits for the end of any update. DSP_WRITE sets every pixel of its rectangle to its nibble of the payload, low
nibble left, and leaves every other pixel and everything but the port's bookkeeping as it was; a rectangle that touches the
legal region is refused with ST_DENIED and writes nothing. DSP_UPDATE queues the rectangle by its order, and is refused with
ST_BUSY where four requests wait and with ST_STATE where the display is off or has a display fault. DSP_STATUS answers its
fields. DSP_STRESS 0 answers the regions asked for, and 1 clears both counters. -/
def Obligations.DisplayCommandsComplete : Prop :=
  (∀ (p : Pkt) (s : State) (cs : List BlkCopy), taken 0x0901 p s = true → p.payload = [0, 0, 0, 0] →
    let u := begun 0x0901 p s
    Takes u [0x0900] cs → waitingCommit u 0x0901 = none → exec (.dspCommit p) s = .next (take (flightOf 0x0901 p s) cs u)) ∧
  (∀ (p : Pkt) (s : State) (r : Rect), taken 0x0902 p s = true → rectAt 0 p.payload = r → onPanel s r = true → r.x % 2 = 0 → r.w % 2 = 0 →
    r.x + r.w ≤ 800 → p.payload.length = 8 + r.w * r.h / 2 →
    let u := begun 0x0902 p s
    let f := flightOf 0x0902 p s
    (touches r (legalRect (dspB s)) = false → cellWf white s.dsp.nextImg = true → ∃ t m, exec (.dspWrite p) s = .next t ∧
      t = finish f [] { u with dsp := { u.dsp with nextImg := m } } ∧
      (∀ i j, i < r.w → j < r.h → pix m (r.x + i) (r.y + j) =
        u8 (8 + (j * r.w + i) / 2) p.payload / 16 ^ ((j * r.w + i) % 2) % 16) ∧
      (∀ x y, x < 800 → (x < r.x ∨ r.x + r.w ≤ x ∨ y < r.y ∨ r.y + r.h ≤ y) → pix m x y = pix s.dsp.nextImg x y)) ∧
    (touches r (legalRect (dspB s)) = true → exec (.dspWrite p) s = .next (complete f 0x0301 [] (deniedEvent f 0 u)))) ∧
  (∀ (p : Pkt) (s : State), taken 0x0903 p s = true → p.payload.length = 12 → u8 8 p.payload ≤ 1 → rsv 9 3 p.payload = true →
    let u := begun 0x0903 p s
    let f := flightOf 0x0903 p s
    let r := rectAt 0 p.payload
    (onPanel u r = true → dspOn u = true → u.dsp.dispFault = false →
      (waitingReqs u < 4 → exec (.dspUpdate p) s = .next (finish f []
        { u with dsp := { u.dsp with queue := insertReq { rect := r, mode := u8 8 p.payload } u.dsp.queue } })) ∧
      (4 ≤ waitingReqs u → exec (.dspUpdate p) s = .next (complete f 0x0501 [] u))) ∧
    (onPanel u r = true ∨ u.dsp.applied = none → dspOn u = false ∨ u.dsp.dispFault = true →
      exec (.dspUpdate p) s = .next (complete f 0x0201 [] u))) ∧
  (∀ (p : Pkt) (s : State), taken 0x0904 p s = true → p.payload = [] →
    let u := begun 0x0904 p s
    let d := u.dsp
    exec (.dspStatus p) s = .next (finish (flightOf 0x0904 p s) (le 8 s.clk.time ++ le 1 (dstate u) ++ le 1 d.band ++ le 2 (dspFlags u) ++
      leInt 2 d.temp ++ le 1 d.queue.length ++ zeros 1 ++ le 2 (if d.run.isSome then d.frame else 0) ++
      le 2 (if d.run.isSome then d.frames else 0) ++ le 4 u.nvDsp.updates ++ le 4 d.legalCrc ++ zeros 4) u)) ∧
  (∀ (p : Pkt) (s : State) (k c : Nat), taken 0x0905 p s = true → k < 65536 →
    let u := begun 0x0905 p s
    let f := flightOf 0x0905 p s
    (1 ≤ c → c ≤ 1000 → p.payload = [0, 0] ++ le 2 k ++ le 2 c → exec (.dspStress p) s = .next (finish f (le 2 (min c (regions u - k)) ++ zeros 2 ++
      (List.range (min c (regions u - k))).flatMap fun i => le 4 (driveOf u (k + i)) ++ leInt 4 (imbalOf u (k + i))) u)) ∧
    (p.payload = [1, 0] ++ le 2 k ++ [0, 0] →
      (u.dsp.run = none → exec (.dspStress p) s = .next (finish f [0, 0, 0, 0] { u with nvDsp := { u.nvDsp with drive := [], imbal := [] } })) ∧
      (u.dsp.run.isSome = true → exec (.dspStress p) s = .next (complete f 0x0201 [] u))))

/-! ## Supplies, resets, power states and updates -/

/-- POWER_ON with VSYS at 17.5 V begins a counted cold reset that boots as soon as nothing holds it; VSYS_INVALID below 12 V stops
everything at once and saves nothing. VIO_INVALID and RESET_N held low cause a cold and a pin reset, held until VIO is valid
or the land is released. COLD_RESET boots the device: metering and the port run, and the port start counter has risen by 1;
with TEST_MODE high no core is released. WATCHDOG_EXPIRY, ECC_ERROR and PWR_RESET make a warm reset due, and WARM_RESET
carries it out: the application side is reset, and metering and safety run on. WARM_RESET_END restarts K, P0, P1 and T,
APP_RUNNING the application. A block reset is requested, begins, ends, and escalates after 50 ms. PWR_RESET_EXECUTE does what
was asked 10 ms later, and SHELF_WAKE wakes a device in SHELF. A request that meets a reset in hand is counted and absorbed,
and a row whose condition does not hold changes nothing. -/
def Obligations.ResetsComplete : Prop :=
  (∀ (mv : Nat) (lost : Bool) (s : State),
    (s.pwr.vsysValid = true ∨ mv < 17500 → exec (.powerOn mv lost) s = .next s) ∧
    (s.pwr.vsysValid = false → 17500 ≤ mv → ∃ t, exec (.powerOn mv lost) s = .next t ∧ t.pwr.vsysValid = true ∧ t.pwr.vsysMv = mv ∧
      t.pwr.phase = (if s.pwr.vioValid && s.pwr.resetN then .boot else .held) ∧ t.tail.lastKind = 0 ∧ t.tail.lastCause = 0 ∧
      (lost = false → t.tail.cold = satAdd 32 s.tail.cold 1) ∧ (lost = true → t.tail.intact = false ∧ t.tail.cold = 1) ∧
      t.nvKey = s.nvKey ∧ t.nvPt = s.nvPt ∧ t.nvFe = s.nvFe ∧ t.fst = s.fst ∧ t.blk.committed = s.blk.committed ∧
      ∀ n, PathsOff t n ∧ (pil t n).out = .F)) ∧
  (∀ (mv : Nat) (s : State),
    (s.pwr.vsysValid = false ∨ 12000 ≤ mv → exec (.vsysInvalid mv) s = .next s) ∧
    (s.pwr.vsysValid = true → mv < 12000 → ∃ t, exec (.vsysInvalid mv) s = .next t ∧ t.pwr.phase = .off ∧
      t.pwr.vsysValid = false ∧ t.tail = s.tail ∧ t.nvBill = s.nvBill ∧ t.nvKey = s.nvKey ∧ t.nvPt = s.nvPt ∧ t.port.ready = false ∧
      t.port.flights = [] ∧ t.ev.active = [] ∧ ∀ n, PathsOff t n ∧ (pil t n).out = .F)) ∧
  (∀ s : State,
    (s.pwr.vioValid = false → exec .vioInvalid s = .next s) ∧
    (s.pwr.vioValid = true → exec .vioInvalid s =
      .next (if s.pwr.phase = .shelf then { s with pwr.vioValid := false } else coldReset 0 1 { s with pwr.vioValid := false })) ∧
    (s.pwr.vioValid = true → exec .vioValid s = .next s) ∧
    (s.pwr.vioValid = false → ∃ t, exec .vioValid s = .next t ∧ t = { s with pwr := t.pwr, fst := t.fst, clk := { s.clk with free := t.clk.free } } ∧
      t.pwr = { s.pwr with
        vioValid := true, phase := if s.pwr.phase = .held ∧ s.pwr.vsysValid = true ∧ s.pwr.resetN = true then .boot else s.pwr.phase }) ∧
    (s.pwr.resetN = true → exec (.resetNPin true) s = .next (coldReset 1 5 { s with pwr.resetN := false }) ∧
      exec (.resetNPin false) s = .next s) ∧
    (s.pwr.resetN = false → exec (.resetNPin true) s = .next s ∧ exec (.resetNPin false) s = .next { s with
      pwr.resetN := true, pwr.phase := if s.pwr.phase = .held ∧ s.pwr.vsysValid = true ∧ s.pwr.vioValid = true then .boot else s.pwr.phase })) ∧
  (∀ (k c : Nat) (s : State),
    (s.pwr.phase = .off → coldReset k c s = s) ∧ (s.pwr.phase = .held → coldReset k c s = countReset k s) ∧
    (s.pwr.phase = .boot → coldReset k c s =
      if released s then countReset k s else { countReset k s with pwr.phase := .held }) ∧
    (s.pwr.phase ≠ .off → s.pwr.phase ≠ .held → s.pwr.phase ≠ .boot → onTrial s = false → ∃ t, coldReset k c s = t ∧
      t.pwr.phase = (if released s then .boot else .held) ∧ t.tail.lastKind = k ∧ t.tail.lastCause = c ∧
      (k = 0 → t.tail.cold = satAdd 32 s.tail.cold 1) ∧ (k = 1 → t.tail.pin = satAdd 32 s.tail.pin 1) ∧
      t.port.ready = false ∧ t.port.flights = [] ∧ t.ev.active = [] ∧ t.nvKey = s.nvKey ∧ t.nvPt = s.nvPt ∧ t.fst = s.fst ∧
      ∀ n, PathsOff t n ∧ (pil t n).out = .F)) ∧
  (∀ (straps : Nat) (s : State),
    (s.pwr.phase ≠ .boot → ∀ test, exec (.coldReset straps test) s = .next s) ∧
    (s.pwr.phase = .boot →
      exec (.coldReset straps true) s = .next { s with pwr.testMode := true, pwr.straps := straps % 64, pwr.phase := .testHold } ∧
      ∃ t, exec (.coldReset straps false) s = .next t ∧ t.pwr.phase = .run ∧ t.port.ready = true ∧ t.pwr.appRunning = true ∧
        t.led.bootCnt = (s.led.bootCnt + 1) % 2 ^ 32 ∧ t.port.wait = (optPick s).isNone ∧ t.pwr.optLoaded = optPick s)) ∧
  (∀ (c : Nat) (s : State), (gridRuns s = false → reqWarm c s = s) ∧
    (gridRuns s = true → s.pwr.inWarm = true ∨ s.pwr.warmReq.isSome = true → reqWarm c s = countReset 2 s) ∧
    (gridRuns s = true → s.pwr.inWarm = false → s.pwr.warmReq = none → reqWarm c s = { s with pwr.warmReq := some c })) ∧
  (∀ s : State, exec .watchdogExpiry s = .next (if appUp s then reqWarm 6 s else s) ∧ exec .eccError s = .next (reqWarm 8 s)) ∧
  (∀ s : State, (s.pwr.warmReq = none ∨ gridRuns s = false → exec .warmReset s = .next s) ∧
    (∀ c, s.pwr.warmReq = some c → gridRuns s = true →
      (onTrial s = true → exec .warmReset s = .next (trialReset c s)) ∧
      (onTrial s = false → ∃ t, exec .warmReset s = .next t ∧
        t.pwr.inWarm = true ∧ t.pwr.warmReq = none ∧ t.tail.warm = satAdd 32 s.tail.warm 1 ∧ t.tail.lastKind = 2 ∧ t.tail.lastCause = c ∧
        t.port.ready = false ∧ t.port.flights = [] ∧ t.port.held = [] ∧ t.key.grants = [] ∧ t.fe = s.fe ∧ t.filt = s.filt ∧
        t.safeDev = s.safeDev ∧ t.mbx = s.mbx ∧ t.blk.stored = s.blk.stored ∧ t.blk.committed = s.blk.committed ∧
        ((∀ n, sessRuns s n = false) → t.en = s.en)))) ∧
  (∀ s : State,
    let ok := s.pwr.inWarm = true ∧ heldFor s s.pwr.warmAt 2000 = true ∧ vget s.pwr.clkFault 2 = false ∧ vget s.pwr.clkFault 3 = false
    (¬ ok → exec .warmResetEnd s = .next s) ∧
    (ok → ∃ t, exec .warmResetEnd s = .next t ∧ t.pwr.inWarm = false ∧ t.pwr.kRunning = true ∧ t.pwr.tRunning = true ∧
      t.pwr.pRunning = Vector.replicate 2 true ∧ t.fe = s.fe ∧ t.en = s.en ∧ t.safe = s.safe)) ∧
  (∀ s : State,
    let ok := gridRuns s = true ∧ s.pwr.inWarm = false ∧ s.pwr.appResetAt.isSome = true ∧ s.pwr.blkBegan = none
    (¬ ok → exec .appRunning s = .next s) ∧
    (ok → ∃ t, exec .appRunning s = .next t ∧ t = e1 2 s.pwr.warmCause (appStart s) ∧ t.port.ready = true ∧
      t.pwr.appRunning = true ∧ t.pwr.appResetAt = none ∧ t.led.bootCnt = (s.led.bootCnt + 1) % 2 ^ 32)) ∧
  (∀ (u : Nat) (s : State), (gridRuns s = false ∨ u = 0 ∨ 5 < u → reqBlock u s = s) ∧
    (gridRuns s = true → 1 ≤ u → u ≤ 5 →
      (s.pwr.inWarm = true ∨ s.pwr.warmReq.isSome = true ∨ s.pwr.blkUnit.isSome = true → reqBlock u s = countReset 3 s) ∧
      (s.pwr.inWarm = false → s.pwr.warmReq = none → s.pwr.blkUnit = none →
        reqBlock u s = { s with pwr.blkUnit := some u, pwr.blkReqAt := s.clk.mono })) ∧
    exec (.blockResetRequest u) s = .next (reqBlock u s)) ∧
  (∀ s : State, s.pwr.blkUnit = none → exec .blockResetBegin s = .next s ∧ exec .blockResetEscalate s = .next s ∧
    exec .blockResetEnd s = .next s) ∧
  (∀ (u : Nat) (s : State), s.pwr.blkUnit = some u →
    (s.pwr.blkBegan.isSome = true ∨ gridRuns s = false → exec .blockResetBegin s = .next s) ∧
    (s.pwr.blkBegan = none → gridRuns s = true →
      (onTrial s = true → exec .blockResetBegin s = .next (trialReset 7 { countReset 3 s with pwr.blkUnit := none })) ∧
      (onTrial s = false → ∃ t, exec .blockResetBegin s = .next t ∧
        t = e2 u true false (blockReach u { s with
          pwr.blkBegan := some s.clk.mono, tail := { s.tail with block := satAdd 32 s.tail.block 1, lastKind := 3, lastCause := 10 } }) ∧
        t.pwr.blkBegan = some s.clk.mono ∧ (2, u) ∈ t.ev.active ∧ t.fe = s.fe ∧ t.safeDev = s.safeDev ∧ t.mbx = s.mbx ∧
        (u = 2 → t.pwr.tRunning = false) ∧ (u = 3 → t.pwr.kRunning = false ∧ t.en = s.en) ∧
        (u = 4 → t.port.ready = false ∧ t.pwr.appRunning = false))) ∧
    (s.pwr.blkBegan.isSome = true ∨ s.clk.mono < s.pwr.blkReqAt + 50000 → exec .blockResetEscalate s = .next s) ∧
    (s.pwr.blkBegan = none → s.pwr.blkReqAt + 50000 ≤ s.clk.mono →
      exec .blockResetEscalate s = .next (reqWarm 11 (pulse 2 (prm [(1, u), (1, 1)]) { s with pwr.blkUnit := none }))) ∧
    (s.pwr.blkBegan = none ∨ gridRuns s = false → exec .blockResetEnd s = .next s) ∧
    (s.pwr.blkBegan.isSome = true → gridRuns s = true → ∃ t, exec .blockResetEnd s = .next t ∧ t = blockStart u (blockOver s) ∧
      t.pwr.blkUnit = none ∧ t.pwr.blkBegan = none ∧ (2, u) ∉ t.ev.active ∧ (u = 2 → t.pwr.tRunning = true) ∧
      (u = 3 → t.pwr.kRunning = true) ∧ (u = 4 → t.port.ready = true ∧ t.pwr.appRunning = true))) ∧
  (∀ s : State, s.pwr.resetReq = none ∨ s.pwr.phase ≠ .run → exec .pwrResetExecute s = .next s) ∧
  (∀ (k u t0 : Nat) (s : State), s.pwr.resetReq = some (k, u, t0) →
    (s.clk.mono < t0 + 10000 → exec .pwrResetExecute s = .next s) ∧
    (t0 + 10000 ≤ s.clk.mono → s.pwr.phase = .run →
      let v := { s with pwr.resetReq := none }
      (k = 0 → exec .pwrResetExecute s = .next (reqWarm 7 v)) ∧ (k = 1 → exec .pwrResetExecute s = .next (reqBlock u v)) ∧
      (k = 2 → exec .pwrResetExecute s = .next (coldReset 0 4 (savePlanned v))) ∧
      (3 ≤ k → ∃ t, exec .pwrResetExecute s = .next t ∧ t.pwr.phase = .shelf ∧ t.port.ready = false ∧
        ∀ n, PathsOff t n ∧ (pil t n).out = .F))) ∧
  (∀ s : State, (s.pwr.phase ≠ .shelf → exec .shelfWake s = .next s) ∧
    (s.pwr.phase = .shelf → exec .shelfWake s = .next (coldReset 0 3 s)))

/-- A warning of a running device starts the power-fail sequence and keeps its time and source, with E0; before metering is valid
the outputs go off and nothing is saved. PFW_N arms after 100 high samples and warns at the third low one. PFW_STOP ends the
sequence 8 ms after the warning with every path and every channel off; PFW_RECOVERED is a cold reset 1 ms later, and a
withdrawn source clears E0. ENTER_IDLE and POWER_STATE_DESCEND go to the state R441 allows, and a wake to RUN. VBAT_LOW,
RTC_CORRECTION, CLOCK_MONITOR, MAIN_CLOCK_FAIL, PLL_LOCK_LOSS, DIE_TEMP_WARNING, MRAM_SCRUB and COVER_TAMPER set and clear
their flags and events as R12, R136, R148 and R455 to R465 say: five equal samples are the level of the cover, and an
uncorrectable word of the MRAM is E45 in the ledger partition and E7 with partition and word in any other. A row whose
condition does not hold changes nothing. -/
def Obligations.PowerEventsComplete : Prop :=
  (∀ (mv us : Nat) (s : State),
    let u := { s with pwr.vsysMv := mv }
    exec (.powerFailWarning mv us) s =
      .next (if s.pwr.vsysValid = true ∧ mv < 17000 ∧ 20 ≤ us then powerFail 2 u else u)) ∧
  (∀ s : State,
    let hi := { s with
      pwr.pfwnLevel := true, pwr.pfwnHigh := min 100 (s.pwr.pfwnHigh + 1), pwr.pfwnLow := 0
      pwr.pfwnArmed := s.pwr.pfwnArmed || min 100 (s.pwr.pfwnHigh + 1) == 100 }
    let lo := { s with pwr.pfwnLevel := false, pwr.pfwnHigh := 0, pwr.pfwnLow := min 3 (s.pwr.pfwnLow + 1) }
    exec (.pfwNSample true) s = .next hi ∧
    exec (.pfwNSample false) s =
      .next (if 2 ≤ s.pwr.pfwnLow ∧ s.pwr.pfwnArmed = true ∧ pfwnEn (pwrB s) = true then powerFail 0 lo else lo)) ∧
  (∀ (src : Nat) (s : State),
    let u := { s with pwr.pfwSrc := some src, pwr.pfwAt := s.clk.mono }
    (s.pwr.phase ≠ .boot → s.pwr.phase ≠ .run → powerFail src s = s) ∧
    (s.pwr.phase = .boot ∨ (s.pwr.phase = .run ∧ s.fe.valid = false) →
      powerFail src s = e0 src true { outputsOff u with pwr.phase := .pfwWait, pwr.pfwEndAt := s.clk.mono }) ∧
    (s.pwr.phase = .run → s.fe.valid = true → ∃ t, powerFail src s = t ∧ t.pwr.phase = .pfwSeq ∧ t.pwr.pfwSrc = some src ∧
      t.pwr.pfwAt = s.clk.mono ∧ t.nvBill.warned = some (s.clk.time, src) ∧ (0, 0) ∈ t.ev.active ∧ t.dsp.run = none)) ∧
  (∀ s : State,
    let ok := s.pwr.phase = .pfwSeq ∧ s.pwr.pfwAt + 8000 ≤ s.clk.mono
    (¬ ok → exec .pfwStop s = .next s) ∧
    (ok → ∃ t, exec .pfwStop s = .next t ∧ t.pwr.phase = .pfwWait ∧ t.fe.valid = false ∧ t.pwr.pfwEndAt = s.clk.mono ∧
      (∀ n, PathsOff t n) ∧ (∀ n, wantOut t n = .F) ∧ (∀ c, (vget t.sw.ch c).st = .off) ∧ (∀ n, (vget t.sw.lk n).drive = 0))) ∧
  (∀ s : State,
    (s.pwr.phase = .pfwWait → s.pwr.vsysValid = true → s.pwr.pfwEndAt + 1000 ≤ s.clk.mono → exec .pfwRecovered s = .next (coldReset 0 2 s)) ∧
    (s.pwr.phase ≠ .pfwWait ∨ s.pwr.vsysValid = false ∨ s.clk.mono < s.pwr.pfwEndAt + 1000 → exec .pfwRecovered s = .next s) ∧
    (s.pwr.phase ≠ .pfwSeq → s.pwr.phase ≠ .pfwWait → exec .pfwWithdrawn s = .next s) ∧
    (s.pwr.phase = .pfwSeq ∨ s.pwr.phase = .pfwWait → ∃ t, exec .pfwWithdrawn s = .next t ∧ t = e0 (s.pwr.pfwSrc.getD 0) false s ∧
      OnlyEvents s t ∧ (0, 0) ∉ t.ev.active)) ∧
  (∀ s : State,
    let u := { s with pwr.aTask := false }
    (appUp s = false → exec .enterIdle s = .next s) ∧
    (appUp s = true → exec .enterIdle s = .next (if s.pwr.pstate = .run ∧ 1 ≤ allowedState u then
      pulse 3 (prm [(1, 1), (1, 0), (1, 0xFF)]) { u with pwr.pstate := .idle, pwr.allowedSince := none } else u)) ∧
    (let ok := appUp s = true ∧ 2 ≤ allowedState s ∧ pstCode s.pwr.pstate < allowedState s ∧
        heldFor s s.pwr.allowedSince (descendT (pwrB s) * 1000) = true
     (¬ ok → exec .powerStateDescend s = .next s) ∧
     (ok → ∃ t, exec .powerStateDescend s = .next t ∧ t = goPstate (pstOf (allowedState s)) 0xFF s ∧
       pstCode t.pwr.pstate = allowedState s))) ∧
  (∀ (src : Nat) (s : State),
    (gridRuns s = false → exec (.powerStateWake src) s = .next s) ∧
    (gridRuns s = true → src ≠ 4 → ∃ t, exec (.powerStateWake src) s = .next t ∧ t = wake src s ∧ t.pwr.pstate = .run) ∧
    (gridRuns s = true → ∃ t, exec (.powerStateWake 4) s = .next t ∧ t.pwr.timerDue = true ∧
      t.pwr.pstate = (if s.pwr.pstate = .watch then .doze else s.pwr.pstate))) ∧
  (∀ (mv : Nat) (s : State),
    let u := { s with pwr.vbatMv := mv, pwr.vbatLow := decide (mv < 2600) }
    (s.pwr.vsysValid = false → exec (.vbatLow mv) s = .next u) ∧
    (s.pwr.vsysValid = true → ∃ t, exec (.vbatLow mv) s = .next t ∧ OnlyEvents u t ∧ ((4, 0) ∈ t.ev.active ↔ mv < 2600))) ∧
  (∀ s : State, (gridRuns s = false ∨ s.clk.timeValid = false → exec .rtcCorrection s = .next s) ∧
    (gridRuns s = true → s.clk.timeValid = true → ∃ t, exec .rtcCorrection s = .next t ∧
      t = { s with tail := { s.tail with rtc := s.clk.time, rtcLoss := s.tail.rtcLoss && vget s.pwr.clkFault 5 }
                   ev := t.ev, led := t.led, p100 := t.p100 } ∧ (vget s.pwr.clkFault 5 = false → (4, 1) ∉ t.ev.active))) ∧
  (∀ (nfc rtc : Bool) (s : State), (gridRuns s = false → exec (.clockMonitor nfc rtc) s = .next s) ∧
    (gridRuns s = true → ∃ t, exec (.clockMonitor nfc rtc) s = .next t ∧
      t = { s with pwr := { s.pwr with clkFault := vset (vset s.pwr.clkFault 4 nfc) 5 rtc }
                   tail := { s.tail with rtcLoss := s.tail.rtcLoss || rtc }, ev := t.ev, led := t.led, p100 := t.p100 } ∧
      ((6, 4) ∈ t.ev.active ↔ nfc = true) ∧ ((6, 5) ∈ t.ev.active ↔ rtc = true) ∧ (rtc = true → (4, 1) ∈ t.ev.active))) ∧
  (∀ (pll : Bool) (s : State), (gridRuns s = false → exec (.mainClockFail pll) s = .next s) ∧
    (gridRuns s = true → ∃ t, exec (.mainClockFail pll) s = .next t ∧ t = enterSafe 5 0 (e6 (b2n pll) true { s with fe.valid := false }) ∧
      t.fe.valid = false ∧ t.safeDev.safeState = true ∧ (6, b2n pll) ∈ t.ev.active)) ∧
  (∀ (app lost : Bool) (s : State), (gridRuns s = false → exec (.pllLockLoss app lost) s = .next s) ∧
    (gridRuns s = true → exec (.pllLockLoss app true) s = .next (reqWarm 9 (e6 (2 + b2n app) true s)) ∧
      ∃ t, exec (.pllLockLoss app false) s = .next t ∧ t = e6 (2 + b2n app) false s ∧ (6, 2 + b2n app) ∉ t.ev.active)) ∧
  (∀ (temp : Int) (s : State),
    let u := { s with pwr.dieTemp := temp }
    (gridRuns s = false ∨ (10500 ≤ temp ∧ temp < 11500) → exec (.dieTempWarning temp) s = .next u) ∧
    (gridRuns s = true → (11500 ≤ temp → ∃ t, exec (.dieTempWarning temp) s = .next t ∧ OnlyEvents u t ∧ (5, 0) ∈ t.ev.active) ∧
      (temp < 10500 → ∃ t, exec (.dieTempWarning temp) s = .next t ∧ OnlyEvents u t ∧ (5, 0) ∉ t.ev.active))) ∧
  (∀ a, a < 2 ^ 27 → mramPart a < 12 ∧ mramStart (mramPart a) ≤ a ∧ a < mramStart (mramPart a + 1)) ∧
  (∀ (w : Nat) (s : State),
    let part := mramPart (8 * w)
    let u := pulse 7 (prm [(1, part), (4, w)]) { s with pwr.e7Raised := true }
    exec (.mramScrub w false) s = .next s ∧
    (2 ^ 24 ≤ w ∨ (gridRuns s = false ∧ s.pwr.phase ≠ .pfwWait) → exec (.mramScrub w true) s = .next s) ∧
    (w < 2 ^ 24 → gridRuns s = true ∨ s.pwr.phase = .pfwWait →
      (part = 4 → exec (.mramScrub w true) s = .next (pulse 45 [] s)) ∧
      (part = 9 → exec (.mramScrub w true) s = .next { u with nvDsp.lastBad := true }) ∧
      (part = 6 → 8 * w < mramStart 6 + 2 ^ 19 →
        exec (.mramScrub w true) s = .next (blobCopyBad ((8 * w - mramStart 6) / 128) u)) ∧
      (part ≠ 4 → part ≠ 9 → part ≠ 6 ∨ mramStart 6 + 2 ^ 19 ≤ 8 * w → exec (.mramScrub w true) s = .next u))) ∧
  (∀ (isOpen : Bool) (s : State),
    let run := if s.tail.coverCand = isOpen then min 5 (s.tail.coverRun + 1) else 1
    let u := { s with tail.coverCand := isOpen, tail.coverRun := run }
    let v := { u with
      tail.coverOpen := isOpen, tail.openCount := if isOpen then satAdd 32 s.tail.openCount 1 else s.tail.openCount }
    (run < 5 ∨ s.tail.coverOpen = isOpen → exec (.coverTamper isOpen) s = .next u) ∧
    (run = 5 → s.tail.coverOpen ≠ isOpen →
      (gridRuns s = true → ∃ t, exec (.coverTamper isOpen) s = .next t ∧
        t = tamperRec (if isOpen then 1 else 2) 0xFF 0 s.clk.time (level 44 0 isOpen [] v) ∧ ((44, 0) ∈ t.ev.active ↔ isOpen = true)) ∧
      (gridRuns s = false → exec (.coverTamper isOpen) s =
        .next (if isOpen = true ∧ s.tail.latched = false then { v with tail.latched := true, tail.openTime := s.tail.rtc } else v))))

/-- PWR_STATUS answers its 56 bytes. PWR_RESET is accepted for a kind that fits and waits for its execution, and refused with
ST_STATE where a session is open, a block reset runs, or SHELF is not allowed. PWR_OPTION_READ answers a valid copy;
PWR_OPTION_WRITE from the SPI port writes both copies with the next generation, and from the network is refused with
ST_DENIED. PWR_COMMIT puts the block in effect, and a change of MAINS_LOSS or U_NOM disarms the mains source. UPD_BEGIN with a
header that passes begins reception, and one that fails is answered ST_PKG_REJECTED with its REASON; UPD_DATA appends, and its
last byte begins the writing; UPD_SLOT_WRITTEN makes the set ready, or rejects the package. UPD_ACTIVATE is carried out 10 ms
later by UPD_ACTIVATION: the new slot is selected, on trial. UPD_CONFIRM, and the 60 s of a trial without CONFIRM_T, confirm
it with its security version; a failure or CONFIRM_T without confirmation revert to the old slot and settings. UPD_ABORT
empties the staging partition. UPD_STATUS answers its 88 bytes. -/
def Obligations.PowerAndUpdateCommandsComplete : Prop :=
  (∀ (p : Pkt) (s : State), taken 0x0C01 p s = true → p.payload = [] →
    let u := begun 0x0C01 p s
    let w := u.pwr
    let supply := b2n w.vsysValid + 2 * b2n w.vioValid + 4 * b2n w.vbatLow + 8 * b2n u.tail.rtcLoss +
      16 * b2n (w.phase == .pfwSeq || w.phase == .pfwWait) + 32 * b2n w.pfwnArmed + 64 * b2n w.mainsArmed + 128 * b2n w.pfwnLevel
    let pl := le 8 s.clk.time ++ le 1 (pstCode w.pstate) ++ le 1 (latFloor u) ++ le 2 (holdMask u) ++ le 2 supply ++ le 2 w.vsysMv ++
      le 2 w.vbatMv ++ leInt 2 w.dieTemp ++ le 1 u.tail.lastKind ++ le 1 u.tail.lastCause ++
      le 1 (b2n w.optA + 2 * b2n w.optB + 4 * b2n u.key.debug + 8 * b2n u.port.wait) ++ zeros 1 ++ le 4 u.tail.cold ++ le 4 u.tail.pin ++
      le 4 u.tail.warm ++ le 4 u.tail.block ++ le 4 ((w.optLoaded.map (u32 8)).getD 0) ++ zeros 4 ++ le 8 u.clk.tStart
    exec (.pwrStatus p) s = .next (finish (flightOf 0x0C01 p s) pl u) ∧ pl.length = 56) ∧
  (∀ (p : Pkt) (s : State) (k v : Nat), taken 0x0C02 p s = true → p.payload = le 1 k ++ le 1 v ++ zeros 2 → k ≤ 3 →
    (k = 1 ∧ 1 ≤ v ∧ v ≤ 5) ∨ (k ≠ 1 ∧ v = 0) →
    let u := begun 0x0C02 p s
    let f := flightOf 0x0C02 p s
    let stop := (2 ≤ k ∧ ∃ n, hasPoint u n = true ∧ sessOpen u n = true) ∨ (k = 1 ∧ u.pwr.blkUnit.isSome = true) ∨
      (k = 3 ∧ ¬ (grpEn (grp u 0) = true ∧ chEn (grp u 0) 4 = true ∧ heldFor u u.pwr.c4LowSince 10000000 = true ∧
        (u.upd.st = .empty ∨ u.upd.st = .reverted)))
    (stop → exec (.pwrReset p) s = .next (complete f 0x0201 [] u)) ∧
    (¬ stop → exec (.pwrReset p) s = .next (finish f [] { u with pwr.resetReq := some (k, v, u.clk.mono) }))) ∧
  (∀ (p : Pkt) (s : State), taken 0x0C03 p s = true →
    let u := begun 0x0C03 p s
    let f := flightOf 0x0C03 p s
    let ans := fun (o : Option (List Byte)) => match o with
      | some b => exec (.pwrOptionRead p) s = .next (finish f b u)
      | none => exec (.pwrOptionRead p) s = .next (complete f 0x0201 [] u)
    (p.payload = [0, 0, 0, 0] → ans u.pwr.optLoaded) ∧
    (p.payload = [1, 0, 0, 0] → ans (if optValid u.upd.opt1 then some u.upd.opt1 else none)) ∧
    (p.payload = [2, 0, 0, 0] → ans (if optValid u.upd.opt2 then some u.upd.opt2 else none))) ∧
  (∀ (p : Pkt) (s : State), taken 0x0C04 p s = true → optValid p.payload = true → optReserved p.payload = true →
    (∀ k, k < 32 → bindOk (u16 (16 + 2 * k) p.payload) = true) →
    let u := begun 0x0C04 p s
    let f := flightOf 0x0C04 p s
    let g := (((optPick u).map (u32 8)).getD 0 + 1) % 2 ^ 32
    let b := withCrc (patch 8 (le 4 g) (p.payload.take 220))
    (p.src = .spi → exec (.pwrOptionWrite p) s = .next (finish f (le 4 g) { u with upd := { u.upd with opt1 := b, opt2 := b } }) ∧
      u32 8 b = g ∧ optValid b = true) ∧
    (p.src ≠ .spi → exec (.pwrOptionWrite p) s = .next (complete f 0x0301 [] (deniedEvent f 0 u)))) ∧
  (∀ (p : Pkt) (s : State) (cs : List BlkCopy), taken 0x0C05 p s = true → p.payload = [0, 0, 0, 0] →
    let u := begun 0x0C05 p s
    let f := flightOf 0x0C05 p s
    let v := commitCopies cs u
    let same := mainsLoss (pwrB u) = mainsLoss (pwrB v) ∧ uNom (pwrB u) = uNom (pwrB v)
    Takes u [0x0C10] cs → exec (.pwrCommit p) s = .next (finish f (le 8 s.clk.time)
      (if same then v else { v with pwr.mainsArmed := false, pwr.mainsGood := 0 }))) ∧
  (∀ (p : Pkt) (s : State), taken 0x0B01 p s = true → p.payload.length = 1024 →
    let u := begun 0x0B01 p s
    let f := flightOf 0x0B01 p s
    (updBusy s = false → onTrial s = false → headerFail u p.payload = none → exec (.updBegin p) s = .next (finish f []
      { u with upd := { u.upd with st := .receiving, header := p.payload, data := [], src := p.src, cls := 0 } })) ∧
    (∀ r, updBusy s = false → onTrial s = false → headerFail u p.payload = some r → ∃ t, exec (.updBegin p) s = .next t ∧
      t = complete f 0x0302 [] (pkgReject r u) ∧ t.upd.st = .empty ∧ t.upd.reason = r) ∧
    (updBusy s = true ∨ onTrial s = true → exec (.updBegin p) s = .next (complete f 0x0201 [] u))) ∧
  (∀ (p : Pkt) (s : State) (d : List Byte), taken 0x0B02 p s = true → s.upd.st = .receiving → s.upd.src = p.src →
    s.upd.data.length < 2 ^ 32 → p.payload = le 4 s.upd.data.length ++ d → d ≠ [] → d.length ≤ 16380 →
    s.upd.data.length + d.length ≤ pkgTotal s.upd.header →
    let u := begun 0x0B02 p s
    let f := flightOf 0x0B02 p s
    let h := s.upd.header
    let all := s.upd.data ++ d
    let due := s.upd.data.length < manLen h ∧ manLen h ≤ all.length
    (∀ r, due → manifestFail u h (all.take (manLen h)) = some r →
      exec (.updData p) s = .next (complete f 0x0302 [] (pkgReject r u))) ∧
    (¬ due ∨ manifestFail u h (all.take (manLen h)) = none →
      (all.length < pkgTotal h →
        exec (.updData p) s = .next (finish f (le 4 all.length) { u with upd := { u.upd with data := all } })) ∧
      (all.length = pkgTotal h → exec (.updData p) s = .next (finish f (le 4 all.length)
        (modSlots (spareSlot s) (fun x => { x with valid := false }) { u with upd := { u.upd with data := all, st := .writing } }))))) ∧
  (∀ s : State,
    let h := s.upd.header
    let man := s.upd.data.take (manLen h)
    let ps := resultParts (activeSet s) man (s.upd.data.drop (manLen h))
    let imgs := ps.map fun p => (p.1, p.2.getD [])
    (s.upd.st ≠ .writing ∨ appUp s = false → exec .updSlotWritten s = .next s) ∧
    (s.upd.st = .writing → appUp s = true →
      (∀ r, slotFail man ps = some r → exec .updSlotWritten s = .next (pkgReject r s)) ∧
      (slotFail man ps = none → ∃ t, exec .updSlotWritten s = .next t ∧
        t = { s with upd := t.upd, ev := t.ev, led := t.led, p100 := t.p100 } ∧ t.upd.st = .ready ∧
        t.upd.cls = classOf (activeSet s) imgs ∧ (selector t).slot = (selector s).slot ∧
        vat t.upd.slots (spareSlot s) {} =
          { fwVer := u32 12 h, metVer := u32 16 h, secVer := u32 20 h, manifest := man, parts := imgs,
            formats := Config.declaredFormats imgs, valid := true }))) ∧
  (∀ (p : Pkt) (s : State) (k : Nat), taken 0x0B03 p s = true → p.payload = le 2 k ++ [0, 0] → k = 0 ∨ (10 ≤ k ∧ k ≤ 3600) →
    let u := begun 0x0B03 p s
    let f := flightOf 0x0B03 p s
    let ok := s.upd.st = .ready ∧ ∀ n, hasPoint s n = true → sessOpen s n = false
    (ok → exec (.updActivate p) s = .next (finish f [] { u with upd.actAt := some (u.clk.mono, k) })) ∧
    (¬ ok → exec (.updActivate p) s = .next (complete f 0x0201 [] u))) ∧
  (∀ s : State, s.upd.actAt = none → exec .updActivation s = .next s) ∧
  (∀ (t0 k : Nat) (s : State), s.upd.actAt = some (t0, k) →
    let ok := t0 + 10000 ≤ s.clk.mono ∧ s.upd.st = .ready ∧ s.pwr.phase = .run
    (¬ ok → exec .updActivation s = .next s) ∧
    (ok → s.upd.cls ≠ 2 → exec .updActivation s = .next (warmEnter 7 (trialBegin k s))) ∧
    (ok → ∃ t, exec .updActivation s = .next t ∧ onTrial t = true ∧ (selector t).slot = spareSlot s ∧ t.upd.st = .trial ∧
      t.blk.keepStored = s.blk.stored ∧ (s.upd.cls ≠ 2 → t.pwr.inWarm = true) ∧ (s.upd.cls = 2 → t.tail.lastCause = 4))) ∧
  (∀ (p : Pkt) (s : State), taken 0x0B04 p s = true → p.payload = [] →
    let u := begun 0x0B04 p s
    let f := flightOf 0x0B04 p s
    (onTrial s = true → exec (.updConfirm p) s = .next (finish f [] (confirmSet u))) ∧
    (onTrial s = false → exec (.updConfirm p) s = .next (complete f 0x0201 [] u))) ∧
  (∀ s : State, let t := confirmSet s
    onTrial t = false ∧ (selector t).slot = (selector s).slot ∧ t.upd.st = .empty ∧ t.upd.secVer = max s.upd.secVer (selector s).secVer) ∧
  (∀ (p : Pkt) (s : State), taken 0x0B05 p s = true → p.payload = [] →
    let u := begun 0x0B05 p s
    let sel := selector u
    let a := activeSet u
    let h := u.upd.header
    let pl := le 8 s.clk.time ++ le 1 (ustCode u.upd.st) ++ le 1 u.upd.reason ++ le 1 sel.slot ++ le 1 u.upd.cls ++
      le 4 u.upd.data.length ++ le 4 (pkgTotal h) ++ le 4 a.fwVer ++ le 4 a.metVer ++ le 4 u.upd.secVer ++ le 4 (u32 12 h) ++
      le 4 (if sel.trial = true ∧ sel.deadline ≠ 0 then (sel.deadline - s.clk.mono + 999999) / 1000000 else 0) ++ sha a.manifest
    exec (.updStatus p) s = .next (finish (flightOf 0x0B05 p s) pl u) ∧ pl.length = 88) ∧
  (∀ (p : Pkt) (s : State), taken 0x0B06 p s = true → p.payload = [] →
    let u := begun 0x0B06 p s
    let f := flightOf 0x0B06 p s
    (onTrial s = true → exec (.updAbort p) s = .next (complete f 0x0201 [] u)) ∧
    (onTrial s = false → ∃ t, exec (.updAbort p) s = .next t ∧
      t = finish f [] { updDrop u with upd.st := if s.upd.st = .reverted then .reverted else .empty } ∧ t.upd.data = [] ∧ t.upd.header = [])) ∧
  (∀ s : State, (onTrial s = false ∨ gridRuns s = false → exec .trialFailure s = .next s ∧ exec .trialConfirmTimeout s = .next s) ∧
    (onTrial s = true → gridRuns s = true →
      let back := if (selector s).cls = 2 then coldEnter 0 4 (revertSet s) else warmEnter 7 (revertSet s)
      exec .trialFailure s = .next back ∧
      onTrial back = false ∧ (selector back).slot = 1 - (selector s).slot ∧ back.upd.st = .reverted ∧
      back.blk.stored = s.blk.keepStored ∧ back.blk.committed = s.blk.keepCommitted ∧
      ((selector s).deadline = 0 → exec .trialConfirmTimeout s =
        .next (if s.upd.trialAt + 60000000 ≤ s.clk.mono then confirmSet s else s)) ∧
      ((selector s).deadline ≠ 0 → exec .trialConfirmTimeout s = .next (if (selector s).deadline ≤ s.clk.mono then back else s))))

/-! ## Rules of the whole machine -/

/-- A contribution c to quantity q of a meter, with D = fs x 3600 x 65536: the residue and D times ACC[q] together rise by
exactly c, and the residue stays below D; the tariff accumulator of the side rises by what ACC[q] rises by; the residues of
other quantities and meters stay; and an increment of a quadrant (q 4 to 7) reaches R+ or R− too. -/
def Obligations.EnergyIsConserved : Prop :=
  ∀ (m : Fin 9) (q : Fin 12) (c : Nat) (sd : Side) (s : State),
    let d := presetRate (grpPreset (grp s m.1)) * 3600 * 65536
    let t := transferQ m q c sd s
    let res := fun (u : State) => vget (vget u.pfw.res m) q
    let acc := fun (u : State) (k : Fin 12) => vget (vget u.p100.m m).acc k
    0 < d →
    res t + d * acc t q = res s + c + d * acc s q ∧ res t < d ∧
    (∀ k : Fin 8, sd.tariff = k.1 → vget (vget (vget t.p100.m m).tacc k) q + acc s q = vget (vget (vget s.p100.m m).tacc k) q + acc t q) ∧
    (∀ k, k ≠ q → vget (vget t.pfw.res m) k = vget (vget s.pfw.res m) k) ∧ (∀ k, k ≠ m → vget t.pfw.res k = vget s.pfw.res k) ∧
    (q = 4 ∨ q = 5 → acc t 2 + acc s q = acc s 2 + acc t q) ∧ (q = 6 ∨ q = 7 → acc t 3 + acc s q = acc s 3 + acc t q) ∧
    (∀ k, k ≠ m → vget t.p100.m k = vget s.p100.m k)

/-- Whatever packet reaches the port with whatever opcode of the table, no lifetime accumulator of any meter is lower
afterwards. -/
def Obligations.NoCommandLowersAcc : Prop :=
  ∀ (op : Nat) (body : Flight → State → CmdOut) (p : Pkt) (s : State) (m : Fin 9) (q : Fin 12), bodyOf op = some body →
    vget (vget s.p100.m m).acc q ≤ vget (vget (command op body p s).p100.m m).acc q

/-- In the device safe state neither path of any point is enabled and no path test runs; a point the member lacks never has a path
on. Every step keeps this. While the safe state stands, a step leaves the pilot output of a point or makes it F, and a pilot
period of a point present begins with F; so no path is enabled and no pilot offers a current. -/
def Obligations.StepKeepsSafeState : Prop :=
  (∀ s t : State, SafeStateHolds s → step s = .next t → SafeStateHolds t ∧
    (s.safeDev.safeState = true → t.safeDev.safeState = true → ∀ n, (pil t n).out = (pil s n).out ∨ (pil t n).out = .F)) ∧
  (∀ (n : Fin 8) (l0 l1 : List Int) (g : Int × Int) (s : State), s.safeDev.safeState = true → hasPoint s n = true → s.pwr.vsysValid = true →
    ∃ t, exec (.pilotPeriod n l0 l1 g) s = .next t ∧ (pil t n).out = .F)

/-- At reset VSYS is not valid, nothing waits in the queue, the port does not execute commands, every path is off and every
pilot at F, every mailbox word is 0, no event is active, no session is open, and what every step keeps about the device safe
state holds. That the reset state is a device before its first power-on is the model's choice (log entry 3). -/
def Obligations.ResetState : Prop :=
  State.reset.pending = [] ∧ State.reset.pwr.vsysValid = false ∧ State.reset.pwr.phase = .off ∧ State.reset.port.ready = false ∧
    State.reset.ev.active = [] ∧ SafeStateHolds State.reset ∧
    (∀ n, PathsOff State.reset n ∧ (pil State.reset n).out = .F ∧ sessOpen State.reset n = false) ∧
    (∀ k, (vget State.reset.mbx k).pending = false ∧ (vget State.reset.mbx k).count = 0)

/-- BIL_TIME_SET with MODE 1, BIL_CREDIT, LED_POLICY, SAF_CONFIRM, SAF_RESET, FS_CTL and SEC_KEY with parameters in range, from
a source that does not hold the authority of the table of R414, are answered ST_DENIED, and nothing changes but the port's
bookkeeping and the event log. -/
def Obligations.DeniedCommandsChangeNothing : Prop :=
  ∀ (p : Pkt) (s : State),
    let only := fun (t : State) (op : Nat) => Answered op p 0x0301 [] t ∧
      t = { wake 0 s with port := t.port, key.grants := t.key.grants, ev := t.ev, led := t.led, p100 := t.p100 }
    (∀ n : Fin 8, taken 0x0503 p s = true → hasPoint s n = true → holds s p.src 3 = false →
      p.payload = [BitVec.ofNat 8 (n.1 + 1), 0, 0, 0] ++ le 4 (saf s n).check → ∃ t, exec (.safConfirm p) s = .next t ∧ only t 0x0503) ∧
    (∀ n : Fin 8, taken 0x0504 p s = true → hasPoint s n = true → holds s p.src 3 = false →
      p.payload = [BitVec.ofNat 8 (n.1 + 1), 0, 0, 0] → ∃ t, exec (.safReset p) s = .next t ∧ only t 0x0504) ∧
    (∀ m : Fin 2, taken 0x0E03 p s = true → holds s p.src 3 = false → p.payload = [BitVec.ofNat 8 m.1, 0, 0, 0] →
      ∃ t, exec (.fsCtl p) s = .next t ∧ only t 0x0E03) ∧
    (∀ type use, taken 0x0A01 p s = true → holds s p.src 4 = false → type < 256 → use < 256 → useOk type use = true →
      p.payload = [0, BitVec.ofNat 8 type, BitVec.ofNat 8 use, 0, 0, 0, 0, 0] → ∃ t, exec (.secKey p) s = .next t ∧ only t 0x0A01) ∧
    (∀ v, taken 0x0306 p s = true → holds s p.src 0 = false → 7305 * dayUs ≤ v → v < 2 ^ 64 →
      p.payload = le 8 v ++ [1, 0, 0, 0, 0, 0, 0, 0] → ∃ t, exec (.bilTimeSet p) s = .next t ∧ only t 0x0306) ∧
    (∀ code op tok a, taken 0x0307 p s = true → holds s p.src 1 = false → code ≤ s.member.points → code < 9 → 1 ≤ op → op ≤ 4 →
      (op = 1 ∨ a = 0) → (op = 3 → code = 0) → a < 2 ^ 64 → p.payload = le 1 code ++ le 1 op ++ [0, 0] ++ le 4 tok ++ le 8 a →
      ∃ t, exec (.bilCredit p) s = .next t ∧ only t 0x0307) ∧
    (∀ v, taken 0x0314 p s = true → holds s p.src 2 = false → v ≤ 1 → p.payload = [BitVec.ofNat 8 v, 0, 0, 0] →
      ∃ t, exec (.ledPolicy p) s = .next t ∧ only t 0x0314)

/-! ## Rules stated whole -/

/-- The opcodes the port knows are exactly the listed ones, the high byte of each names its subsystem and the low byte of none
is 0x80 or above. A host command that is whole, with a correct CRC, version, reserved fields and address, and that carries an
opcode with a low byte from 0x80 to 0xFF or an opcode that is not listed, is answered ST_BAD_OPCODE on the SPI port and on the
network, and nothing else happens but the wake. -/
def Obligations.UnlistedOpcodesAreRefused : Prop :=
  let listed := [0x0101, 0x0102, 0x0103, 0x0104, 0x0105, 0x0106, 0x0107, 0x0108, 0x0109, 0x010A,
    0x0201, 0x0202, 0x0203, 0x0204, 0x0205, 0x0206, 0x0301, 0x0302, 0x0303, 0x0304, 0x0305, 0x0306, 0x0307,
    0x0310, 0x0311, 0x0312, 0x0313, 0x0314, 0x0401, 0x0402, 0x0403, 0x0404, 0x0405, 0x0406, 0x0407, 0x0408, 0x0409,
    0x0501, 0x0502, 0x0503, 0x0504, 0x0510, 0x0511, 0x0512, 0x0601, 0x0602, 0x0603, 0x0604, 0x0605, 0x0606,
    0x0701, 0x0702, 0x0703, 0x0705, 0x0706, 0x0801, 0x0802, 0x0803, 0x0901, 0x0902, 0x0903, 0x0904, 0x0905,
    0x0A01, 0x0A02, 0x0A03, 0x0A04, 0x0A05, 0x0A06, 0x0B01, 0x0B02, 0x0B03, 0x0B04, 0x0B05, 0x0B06,
    0x0C01, 0x0C02, 0x0C03, 0x0C04, 0x0C05, 0x0D01, 0x0D02, 0x0E01, 0x0E02, 0x0E03]
  (∀ op, (bodyOf op).isSome = true ↔ op ∈ listed) ∧ (∀ op ∈ listed, op % 256 < 0x80 ∧ subsys op = op / 256 ∧ 1 ≤ subsys op ∧ subsys op ≤ 14) ∧
  (∀ (b : List Byte) (s : State), u16 4 b ∉ listed ∨ 0x80 ≤ u16 4 b % 256 → spiDriven s = true → rxRoom s = true →
    rawLen b ≤ 16384 → rawLen b + 20 ≤ b.length → crcOk (b.take (rawLen b + 20)) = true → u8 0 b = 2 → u16 6 b < 16 → u16 12 b = 0 →
    u16 14 b = 0 → addrOk s (rawPkt .spi b) = true →
    exec (.spiWrite b) s = .next (checkFail (rawPkt .spi b) (u16 4 b) 0x0102
      (wake 0 { s with port.spiMiso := le 4 (spiStatus s), port.overrun := false }))) ∧
  (∀ (src : Source) (b : List Byte) (s : State), u16 4 b ∉ listed ∨ 0x80 ≤ u16 4 b % 256 → s.port.ready = true → rawLen b ≤ 16384 →
    b.length = rawLen b + 20 → crcOk b = true → u8 0 b = 2 → u16 6 b < 16 → u16 12 b = 0 → u16 14 b = 0 → addrOk s (rawPkt src b) = true →
    exec (.rejectedPacket (.datagram src b none)) s = .next (checkFail (rawPkt src b) (u16 4 b) 0x0102 (wake 0 s)))

/-- SW_CLEAR that the port takes: with a payload that is not CH and three zero bytes, or a channel index the member lacks,
ST_BAD_PARAM; in limp-home ST_STATE; else ST_OK with no payload. Then the latch bits and the retry counter of an HS or LP
channel are 0 and its OL_OFF and OL_ON clear; of a lock bridge LOCK_FAULT, its latch and its open-load finding clear. A refusal
changes nothing, and other channels stay as they were. -/
def Obligations.SwClearRule : Prop :=
  ∀ (p : Pkt) (s : State), taken 0x0604 p s = true →
    let good := p.payload.length = 4 ∧ rsv 1 3 p.payload = true ∧ hasIndex s (u8 0 p.payload) = true
    (¬ good → ∃ t, exec (.swClear p) s = .next t ∧ Refused 0x0604 p 0x0103 s t) ∧
    (good → s.sw.limp = true → ∃ t, exec (.swClear p) s = .next t ∧ OnlyReplied s t ∧ Answered 0x0604 p 0x0201 [] t) ∧
    (good → s.sw.limp = false → ∃ t, exec (.swClear p) s = .next t ∧ Answered 0x0604 p 0 [] t ∧
      (∀ c : Fin 24, u8 0 p.payload = c.1 →
        vget t.nvCh c = {} ∧ latchBits (vget t.nvCh c) = 0 ∧ (vget t.nvCh c).retry = 0 ∧
        vget t.sw.ch c = { vget s.sw.ch c with olOff := false, olOn := false }) ∧
      (∀ c : Fin 24, u8 0 p.payload ≠ c.1 → vget t.nvCh c = vget s.nvCh c ∧ vget t.sw.ch c = vget s.sw.ch c) ∧
      (∀ n : Fin 8, u8 0 p.payload = 24 + n.1 →
        (nvp t n).lockFault = false ∧ vget t.sw.lk n = { vget s.sw.lk n with olOff := false, tripped := 0 }) ∧
      (∀ n : Fin 8, u8 0 p.payload ≠ 24 + n.1 → nvp t n = nvp s n ∧ vget t.sw.lk n = vget s.sw.lk n))

/-- FS_READ that the port takes: with a payload that is not REC below 32 and three zero bytes, ST_BAD_PARAM; else the reply is
GEN, DLEN, STATE, a zero byte and 244 bytes of data, zero beyond DLEN, 252 bytes in all, of the record as it then stands. -/
def Obligations.FsReadRule : Prop :=
  ∀ (p : Pkt) (s : State), taken 0x0E01 p s = true →
    let r := u8 0 p.payload
    let good := p.payload.length = 4 ∧ r < 32 ∧ rsv 1 3 p.payload = true
    (¬ good → ∃ t, exec (.fsRead p) s = .next t ∧ Refused 0x0E01 p 0x0103 s t) ∧
    (good → ∃ t d, exec (.fsRead p) s = .next t ∧ d.length ≤ 244 ∧ (∀ c, current t.fst.mem r = some c → d = copyData c.1) ∧
      (current t.fst.mem r = none → d = []) ∧
      Answered 0x0E01 p 0 (le 4 (recGen t.fst.mem r) ++ le 2 d.length ++ le 1 (recState t.fst.mem r) ++ [0] ++ d ++ zeros (244 - d.length)) t ∧
      (le 4 (recGen t.fst.mem r) ++ le 2 d.length ++ le 1 (recState t.fst.mem r) ++ [0] ++ d ++ zeros (244 - d.length)).length = 252)

/-- SAF_RESET OP 1, taken from a source that holds SAFETY, of a point whose WELDED clears because both indicators have shown
open and absent for 1 s: WELDED is clear afterwards, and the start-up demand of a passed welding check is met. -/
def Obligations.ClearedWeldCountsAsPassedCheck : Prop :=
  ∀ (p : Pkt) (s : State) (n : Fin 8), taken 0x0504 p s = true → holds s p.src 3 = true → hasPoint s n = true →
    p.payload = [BitVec.ofNat 8 (n.1 + 1), 1, 0, 0] → (nvp s n).welded = true → heldFor s (saf s n).clearSince 1000000 = true →
    ∃ t, exec (.safReset p) s = .next t ∧ Answered 0x0504 p 0 (le 2 (2 ^ n.1) ++ [0, 0]) t ∧
      (nvp t n).welded = false ∧ (saf t n).weldOk = true

/-! ## Lands -/

/-- Position q of a side, with a = q div 5 and d = q mod 5, has the coordinate of R477; every position of a side lies in one of
the five outer rings, no two positions of the four sides share a coordinate, and every position of the five outer rings of the
grid of 40 rows by 40 columns is one of them. -/
def Obligations.SidesCoverTheRings : Prop :=
  (∀ q, q < 175 → ∃ a d, a < 35 ∧ d < 5 ∧ q = 5 * a + d ∧ sideCoord .T q = (1 + d, 1 + a) ∧ sideCoord .E q = (1 + a, 40 - d) ∧
    sideCoord .B q = (40 - d, 40 - a) ∧ sideCoord .W q = (40 - a, 1 + d)) ∧
  (∀ sd q sd' q', q < 175 → q' < 175 → sideCoord sd q = sideCoord sd' q' → sd = sd' ∧ q = q') ∧
  (∀ r c, 1 ≤ r ∧ r ≤ 40 ∧ 1 ≤ c ∧ c ≤ 40 ∧ (r ≤ 5 ∨ 36 ≤ r ∨ c ≤ 5 ∨ 36 ≤ c) ↔ ∃ sd q, q < 175 ∧ sideCoord sd q = (r, c))

/-- In a cold or pin reset until the boot is over, and in SHELF, with both supplies valid: every pilot land carries F, every
SAFE_CUTn and every pulse output of the Tider link is low or pulled low, every HS, LP and LK output is off, SAFE_STATE is pulled
high, HOST_IRQ_N is at high impedance and every DI land but TEST_MODE is pulled up. With VIO invalid every land referred to VIO
is unpowered. In a warm reset with both supplies valid the Tider outputs are low, the modems' transmit lands and HOST_IRQ_N are
at high impedance, and CAN is recessive. SAFE_CUTn of a point is never high while its path is off. -/
def Obligations.LandsInReset : Prop :=
  (∀ s : State, darkLands s = true → s.pwr.vsysValid = true → s.pwr.vioValid = true →
    (∀ n, landSt s (.cp n) = .pilot .F ∧ landSt s (.safeCut n) = .low) ∧ (∀ k, landSt s (.tdrTx k) = .pullDown) ∧
    landSt s .tdrArm = .pullDown ∧ (∀ k, landSt s (.isoDrv k) = .pullDown) ∧ (∀ c, landSt s (.hs c) = .off) ∧ (∀ c, landSt s (.lp c) = .off) ∧
    (∀ n b, landSt s (.lk n b) = .off) ∧ landSt s .safeState = .pullUp ∧ landSt s .hostIrqN = .highZ ∧
    (∀ l, landType l = .DI → l ≠ .testMode → landSt s l = .pullUp) ∧ landSt s .testMode = .pullDown) ∧
  (∀ (s : State) (l : Land), s.pwr.vioValid = false → landType l = .DI ∨ landType l = .DO ∨ landType l = .OD → landSt s l = .unpowered) ∧
  (∀ s : State, gridRuns s = true → s.pwr.inWarm = true → s.pwr.vsysValid = true → s.pwr.vioValid = true →
    (∀ k, landSt s (.tdrTx k) = .low) ∧ landSt s .tdrArm = .low ∧ (∀ n b, landSt s (.gpTx n b) = .highZ) ∧ landSt s .hostIrqN = .highZ ∧
    landSt s .spiMiso = .highZ ∧ (∀ p, landSt s (.canTx p) = .high) ∧ ∀ k, landSt s (.epdD k) = .low) ∧
  (∀ (s : State) (n : Fin 8), PathsOff s n → landSt s (.safeCut n) ≠ .high)
end

