-- ==== Sys2Proof/Laws/Bytes.lean ====
section
/-!
SUPPORT. Laws of bytes, of vectors of like units, and of the addressed memories: what was written is read, the rest stays,
and every memory operation keeps the canonical form.
-/

namespace Sys2Proof.Laws

open Sys2Proof Sys2Proof.Machine

/-! ## Vectors -/

@[simp] theorem vget_vset_same {α : Type} {n : Nat} (v : Vector α n) (i : Fin n) (x : α) : vget (vset v i x) i = x := by
  simp [vget, vset]

theorem vget_vset_other {α : Type} {n : Nat} (v : Vector α n) (i j : Fin n) (x : α) (h : j ≠ i) : vget (vset v i x) j = vget v j := by
  simp only [vget, vset, Fin.getElem_fin]
  exact Vector.getElem_set_ne _ _ fun e => h (Fin.ext e.symm)

@[simp] theorem vget_vmod_same {α : Type} {n : Nat} (v : Vector α n) (i : Fin n) (f : α → α) : vget (vmod v i f) i = f (vget v i) := by
  simp [vget, vmod]

theorem vget_vmod_other {α : Type} {n : Nat} (v : Vector α n) (i j : Fin n) (f : α → α) (h : j ≠ i) :
    vget (vmod v i f) j = vget v j := by
  simp only [vget, vmod, Fin.getElem_fin]
  exact Vector.getElem_set_ne _ _ fun e => h (Fin.ext e.symm)

theorem vat_lt {α : Type} {n : Nat} (v : Vector α n) (i : Fin n) (d : α) : vat v i.1 d = vget v i := by
  simp [vat, vget, i.2]

/-! ## Bytes -/

@[simp] theorem le_length (n v : Nat) : (le n v).length = n := by
  induction n generalizing v with
  | zero => rfl
  | succ n ih => simp [le, ih]

@[simp] theorem be_length (n v : Nat) : (be n v).length = n := by simp [be]

@[simp] theorem zeros_length (n : Nat) : (zeros n).length = n := by simp [zeros]

@[simp] theorem fit_length (n : Nat) (b : List Byte) : (fit n b).length = n := by simp [fit]

/-- The value of little-endian bytes is the number they were made from, cut to their width (R6). -/
theorem unle_le (n v : Nat) : unle (le n v) = v % 256 ^ n := by
  induction n generalizing v with
  | zero => simp [le, unle, Nat.mod_one]
  | succ n ih =>
    simp only [le, unle, ih, BitVec.toNat_ofNat]
    rw [show 256 ^ (n + 1) = 256 * 256 ^ n from Nat.pow_succ', Nat.mod_mul]

/-- A field at the front of a list of bytes. -/
theorem fld_le_append (n v : Nat) (b : List Byte) : fld n 0 (le n v ++ b) = v % 256 ^ n := by
  simp [fld, unle_le]

/-- A field behind a prefix. -/
theorem fld_append (n off : Nat) (a b : List Byte) (h : a.length ≤ off) : fld n off (a ++ b) = fld n (off - a.length) b := by
  simp [fld, List.drop_append, List.drop_eq_nil_of_le h]

theorem slice_length (off n : Nat) (b : List Byte) : (slice off n b).length = min n (b.length - off) := by simp [slice]

/-- Padding a list that fits adds zeros behind it. -/
theorem fit_eq_append (n : Nat) (b : List Byte) (h : b.length ≤ n) : fit n b = b ++ zeros (n - b.length) := by
  simp [fit, zeros, List.take_append, List.take_of_length_le h, List.take_replicate]

/-! ## Addressed memories -/

/-- Every listed address of a canonical memory lies above the one before it. -/
theorem cellWf_cons (d : Nat → Byte) (c : Cell) (m : List Cell) :
    cellWf d (c :: m) = true ↔ c.2 ≠ d c.1 ∧ (∀ x, m.head? = some x → c.1 < x.1) ∧ cellWf d m = true := by
  cases m <;> simp [cellWf, and_assoc]

/-- An address below every listed one reads as an unlisted address does. -/
theorem cellGet_below (d : Nat → Byte) (m : List Cell) (a : Nat) (w : cellWf d m = true) (h : ∀ x, m.head? = some x → a < x.1) :
    cellGet d m a = d a := by
  induction m with
  | nil => rfl
  | cons c m ih =>
    have hc : a < c.1 := h c rfl
    obtain ⟨-, hn, wm⟩ := (cellWf_cons d c m).1 w
    rw [cellGet, if_neg (by omega)]
    exact ih wm fun x hx => lt_trans hc (hn x hx)

/-- The first address after a write is the one written or the first before it. -/
theorem cellPut_head (d : Nat → Byte) (a : Nat) (v : Byte) (m : List Cell) (k : Nat) (ha : k < a)
    (h : ∀ x, m.head? = some x → k < x.1) (w : cellWf d m = true) : ∀ x, (cellPut d a v m).head? = some x → k < x.1 := by
  cases m with
  | nil => intro x; simp only [cellPut]; split <;> simp; rintro rfl; exact ha
  | cons c m =>
    have hc : k < c.1 := h c rfl
    intro x; simp only [cellPut]
    split
    · split
      · simp; rintro rfl; exact hc
      · simp; rintro rfl; exact ha
    · split
      · split
        · intro hx; exact lt_trans hc (((cellWf_cons d c m).1 w).2.1 x hx)
        · simp; rintro rfl; exact ha
      · simp; rintro rfl; exact hc

/-- Writing a byte keeps the canonical form. -/
theorem cellPut_wf (d : Nat → Byte) (a : Nat) (v : Byte) (m : List Cell) (w : cellWf d m = true) :
    cellWf d (cellPut d a v m) = true := by
  induction m with
  | nil => simp only [cellPut]; split <;> simp_all [cellWf]
  | cons c m ih =>
    obtain ⟨hc, hn, wm⟩ := (cellWf_cons d c m).1 w
    simp only [cellPut]
    split
    · split
      · exact w
      · rename_i hv
        exact (cellWf_cons d _ _).2 ⟨hv, by simp; assumption, w⟩
    · split
      · split
        · exact wm
        · rename_i hv
          subst a
          exact (cellWf_cons d _ _).2 ⟨hv, hn, wm⟩
      · exact (cellWf_cons d _ _).2 ⟨hc, cellPut_head d a v m c.1 (by omega) hn wm, ih wm⟩

/-- The byte written is read. -/
theorem cellGet_cellPut_same (d : Nat → Byte) (a : Nat) (v : Byte) (m : List Cell) (w : cellWf d m = true) :
    cellGet d (cellPut d a v m) a = v := by
  induction m with
  | nil => simp only [cellPut]; split <;> simp_all [cellGet]
  | cons c m ih =>
    obtain ⟨hc, hn, wm⟩ := (cellWf_cons d c m).1 w
    simp only [cellPut]
    split
    · split
      · rename_i h hv
        rw [cellGet_below d _ a w (by simp; exact h), hv]
      · simp [cellGet]
    · split
      · split
        · rename_i hv
          subst a
          rw [cellGet_below d _ _ wm hn, hv]
        · simp [cellGet]
      · rw [cellGet, if_neg (by omega)]
        exact ih wm

/-- Every other byte reads as before. -/
theorem cellGet_cellPut_other (d : Nat → Byte) (a b : Nat) (v : Byte) (m : List Cell) (w : cellWf d m = true) (h : b ≠ a) :
    cellGet d (cellPut d a v m) b = cellGet d m b := by
  induction m with
  | nil =>
    simp only [cellPut]
    split
    · rfl
    · simp [cellGet, Ne.symm h]
  | cons c m ih =>
    obtain ⟨hc, hn, wm⟩ := (cellWf_cons d c m).1 w
    simp only [cellPut]
    split
    · split
      · rfl
      · rw [cellGet, if_neg (Ne.symm h)]
    · split
      · split
        · subst a
          rw [cellGet, if_neg (Ne.symm h)]
        · subst a
          rw [cellGet, cellGet, if_neg (Ne.symm h), if_neg (Ne.symm h)]
      · rw [cellGet, cellGet]
        split
        · rfl
        · exact ih wm

/-- Writing bytes keeps the canonical form. -/
theorem cellPuts_wf (d : Nat → Byte) (a : Nat) (bs : List Byte) (m : List Cell) (w : cellWf d m = true) :
    cellWf d (cellPuts d a bs m) = true := by
  induction bs generalizing a m with
  | nil => exact w
  | cons b bs ih => exact ih (a + 1) _ (cellPut_wf d a b m w)

/-- A byte outside the bytes written reads as before. -/
theorem cellGet_cellPuts_outside (d : Nat → Byte) (a : Nat) (bs : List Byte) (m : List Cell) (k : Nat) (w : cellWf d m = true)
    (h : k < a ∨ a + bs.length ≤ k) : cellGet d (cellPuts d a bs m) k = cellGet d m k := by
  induction bs generalizing a m with
  | nil => rfl
  | cons b bs ih =>
    simp only [List.length_cons] at h
    rw [cellPuts, ih (a + 1) _ (cellPut_wf d a b m w) (by omega), cellGet_cellPut_other d a k b m w (by omega)]

/-- A byte inside the bytes written reads as the byte written there. -/
theorem cellGet_cellPuts_inside (d : Nat → Byte) (a : Nat) (bs : List Byte) (m : List Cell) (k : Nat) (w : cellWf d m = true)
    (h : k < bs.length) : cellGet d (cellPuts d a bs m) (a + k) = bs[k] := by
  induction bs generalizing a m k with
  | nil => simp at h
  | cons b bs ih =>
    rw [cellPuts]
    cases k with
    | zero =>
      rw [cellGet_cellPuts_outside d (a + 1) bs _ (a + 0) (cellPut_wf d a b m w) (by omega)]
      exact cellGet_cellPut_same d a b m w
    | succ k =>
      have := ih (a + 1) _ k (cellPut_wf d a b m w) (by simpa using h)
      rw [show a + (k + 1) = a + 1 + k by omega, this]
      rfl

end Sys2Proof.Laws
end

