-- ==== Sys2Proof/Laws/Events.lean ====
section
/-!
SUPPORT. Everything raising an event can do: `quiet` erases from a state what an event brings with it (the event log's entries,
queues and active bits, the ledger's counters of R136 to R145, and the pending-record queue), and each event operation leaves
the rest.
-/

namespace Sys2Proof.Laws

open Sys2Proof Sys2Proof.Machine

/-- The state without what raising events changes. -/
def quiet (s : State) : State :=
  { s with
    ev := {}
    led := { s.led with log := [], logNext := 0, sinks := Vector.replicate 5 {}, dropped := 0, refusing := false, low := false, legal := Vector.replicate 6 {} }
    p100 := { s.p100 with queue := [] } }

/-- A fold of steps that each keep a projection keeps it. -/
theorem foldl_keeps {α β : Type} (q : State → α) (g : State → β → State) (h : ∀ t b, q (g t b) = q t) (l : List β) (s : State) :
    q (l.foldl g s) = q s := by
  induction l generalizing s with
  | nil => rfl
  | cons b l ih => rw [List.foldl_cons, ih, h]

@[simp] theorem quiet_logPut (ev flags : Nat) (p : List Byte) (s : State) : quiet (logPut ev flags p s) = quiet s := rfl

@[simp] theorem quiet_logEntry (ev flags : Nat) (p : List Byte) (s : State) : quiet (logEntry ev flags p s) = quiet s := by
  unfold logEntry
  split
  · exact quiet_logPut ev flags p s
  · rw [foldl_keeps quiet _ (fun t k => by split <;> simp)]
    exact quiet_logPut ev flags p s

@[simp] theorem quiet_deliver (ev : Nat) (lvl : Bool) (p : List Byte) (s : State) : quiet (deliver ev lvl p s) = quiet s := by
  unfold deliver
  dsimp only
  split
  · simp; rfl
  · rfl

@[simp] theorem quiet_dropRec (s : State) : quiet (dropRec s) = quiet s := by
  unfold dropRec
  simp; rfl

@[simp] theorem quiet_ledgerLimits (s : State) : quiet (ledgerLimits s) = quiet s := by
  have tail : ∀ (t : State) (low : Bool), quiet (if low == t.led.low then t else deliver 41 low [] { t with
      led.low := low
      ev.active := if low then (41, 0) :: t.ev.active else t.ev.active.filter (· ≠ (41, 0)) }) = quiet t := by
    intro t low
    split
    · rfl
    · exact quiet_deliver _ _ _ _
  have head : ∀ c : Bool, quiet (if c then deliver 42 true [] { s with led.refusing := true }
      else { s with led.refusing := sessionsRefused s }) = quiet s := by
    intro c
    split
    · exact quiet_deliver _ _ _ _
    · rfl
  unfold ledgerLimits
  exact (tail _ _).trans (head _)

@[simp] theorem quiet_queueRec (r : PendRec) (s : State) : quiet (queueRec r s) = quiet s := by
  have put : ∀ (q : List PendRec) (t : State), quiet (ledgerLimits { t with p100.queue := q }) = quiet t :=
    fun q t => (quiet_ledgerLimits _).trans rfl
  unfold queueRec
  dsimp only
  split
  · exact quiet_dropRec s
  · split
    · exact put _ s
    · split
      · exact (put _ _).trans (quiet_dropRec s)
      · split
        · exact quiet_dropRec s
        · split
          · exact (put _ _).trans (quiet_dropRec s)
          · exact put _ s

@[simp] theorem quiet_legalRecord (ev : Nat) (lvl : Bool) (p : List Byte) (s : State) : quiet (legalRecord ev lvl p s) = quiet s := by
  unfold legalRecord
  split
  · rfl
  · dsimp only
    split
    · exact (quiet_queueRec _ _).trans rfl
    · rfl

@[simp] theorem quiet_occur (ev : Nat) (lvl : Bool) (p : List Byte) (s : State) : quiet (occur ev lvl p s) = quiet s := by
  simp [occur]

@[simp] theorem quiet_pulse (ev : Nat) (p : List Byte) (s : State) : quiet (pulse ev p s) = quiet s := by simp [pulse]

@[simp] theorem quiet_level (ev key : Nat) (on : Bool) (p : List Byte) (s : State) : quiet (level ev key on p s) = quiet s := by
  unfold level
  split
  · rfl
  · simp; rfl

@[simp] theorem quiet_coalEntry (c : Coal) (s : State) : quiet (coalEntry c s) = quiet s := by
  unfold coalEntry
  simp; rfl

/-- What `quiet` does not erase is the same in two states that agree when quiet. -/
theorem of_quiet {α : Type} (f : State → α) (hf : ∀ u, f (quiet u) = f u) {s t : State} (h : quiet t = quiet s) : f t = f s := by
  rw [← hf t, h, hf s]

/-- Two states that agree when quiet differ only by events. -/
theorem onlyEvents_of_quiet (s t : State) (h : quiet t = quiet s) : OnlyEvents s t := by
  cases s; cases t
  simp_all [quiet, OnlyEvents]

/-- A pulse event changes nothing but the event log and what it brings. -/
theorem pulse_only (ev : Nat) (p : List Byte) (s : State) : OnlyEvents s (pulse ev p s) := onlyEvents_of_quiet _ _ (by simp)

/-- A level event changes nothing but the event log and what it brings. -/
theorem level_only (ev key : Nat) (on : Bool) (p : List Byte) (s : State) : OnlyEvents s (level ev key on p s) :=
  onlyEvents_of_quiet _ _ (by simp)

/-- A level event whose condition already holds as given is no occurrence (R401). -/
theorem level_same (ev key : Nat) (on : Bool) (p : List Byte) (s : State) (h : s.ev.active.contains (ev, key) = on) :
    level ev key on p s = s := by
  unfold level
  rw [if_pos (by simpa using h)]

/-! ## The fields events leave alone -/

@[simp] theorem deliver_pending (ev : Nat) (lvl : Bool) (p : List Byte) (s : State) : (deliver ev lvl p s).pending = s.pending := of_quiet State.pending (fun _ => rfl) (quiet_deliver ev lvl p s)
@[simp] theorem deliver_member (ev : Nat) (lvl : Bool) (p : List Byte) (s : State) : (deliver ev lvl p s).member = s.member := of_quiet State.member (fun _ => rfl) (quiet_deliver ev lvl p s)
@[simp] theorem deliver_clk (ev : Nat) (lvl : Bool) (p : List Byte) (s : State) : (deliver ev lvl p s).clk = s.clk := of_quiet State.clk (fun _ => rfl) (quiet_deliver ev lvl p s)
@[simp] theorem deliver_pwr (ev : Nat) (lvl : Bool) (p : List Byte) (s : State) : (deliver ev lvl p s).pwr = s.pwr := of_quiet State.pwr (fun _ => rfl) (quiet_deliver ev lvl p s)
@[simp] theorem deliver_tail (ev : Nat) (lvl : Bool) (p : List Byte) (s : State) : (deliver ev lvl p s).tail = s.tail := of_quiet State.tail (fun _ => rfl) (quiet_deliver ev lvl p s)
@[simp] theorem deliver_blk (ev : Nat) (lvl : Bool) (p : List Byte) (s : State) : (deliver ev lvl p s).blk = s.blk := of_quiet State.blk (fun _ => rfl) (quiet_deliver ev lvl p s)
@[simp] theorem deliver_port (ev : Nat) (lvl : Bool) (p : List Byte) (s : State) : (deliver ev lvl p s).port = s.port := of_quiet State.port (fun _ => rfl) (quiet_deliver ev lvl p s)
@[simp] theorem deliver_mbx (ev : Nat) (lvl : Bool) (p : List Byte) (s : State) : (deliver ev lvl p s).mbx = s.mbx := of_quiet State.mbx (fun _ => rfl) (quiet_deliver ev lvl p s)
@[simp] theorem deliver_fe (ev : Nat) (lvl : Bool) (p : List Byte) (s : State) : (deliver ev lvl p s).fe = s.fe := of_quiet State.fe (fun _ => rfl) (quiet_deliver ev lvl p s)
@[simp] theorem deliver_nvFe (ev : Nat) (lvl : Bool) (p : List Byte) (s : State) : (deliver ev lvl p s).nvFe = s.nvFe := of_quiet State.nvFe (fun _ => rfl) (quiet_deliver ev lvl p s)
@[simp] theorem deliver_filt (ev : Nat) (lvl : Bool) (p : List Byte) (s : State) : (deliver ev lvl p s).filt = s.filt := of_quiet State.filt (fun _ => rfl) (quiet_deliver ev lvl p s)
@[simp] theorem deliver_en (ev : Nat) (lvl : Bool) (p : List Byte) (s : State) : (deliver ev lvl p s).en = s.en := of_quiet State.en (fun _ => rfl) (quiet_deliver ev lvl p s)
@[simp] theorem deliver_pfw (ev : Nat) (lvl : Bool) (p : List Byte) (s : State) : (deliver ev lvl p s).pfw = s.pfw := of_quiet State.pfw (fun _ => rfl) (quiet_deliver ev lvl p s)
@[simp] theorem deliver_nvBill (ev : Nat) (lvl : Bool) (p : List Byte) (s : State) : (deliver ev lvl p s).nvBill = s.nvBill := of_quiet State.nvBill (fun _ => rfl) (quiet_deliver ev lvl p s)
@[simp] theorem deliver_bill (ev : Nat) (lvl : Bool) (p : List Byte) (s : State) : (deliver ev lvl p s).bill = s.bill := of_quiet State.bill (fun _ => rfl) (quiet_deliver ev lvl p s)
@[simp] theorem deliver_nvPt (ev : Nat) (lvl : Bool) (p : List Byte) (s : State) : (deliver ev lvl p s).nvPt = s.nvPt := of_quiet State.nvPt (fun _ => rfl) (quiet_deliver ev lvl p s)
@[simp] theorem deliver_nvSafe (ev : Nat) (lvl : Bool) (p : List Byte) (s : State) : (deliver ev lvl p s).nvSafe = s.nvSafe := of_quiet State.nvSafe (fun _ => rfl) (quiet_deliver ev lvl p s)
@[simp] theorem deliver_pilot (ev : Nat) (lvl : Bool) (p : List Byte) (s : State) : (deliver ev lvl p s).pilot = s.pilot := of_quiet State.pilot (fun _ => rfl) (quiet_deliver ev lvl p s)
@[simp] theorem deliver_sess (ev : Nat) (lvl : Bool) (p : List Byte) (s : State) : (deliver ev lvl p s).sess = s.sess := of_quiet State.sess (fun _ => rfl) (quiet_deliver ev lvl p s)
@[simp] theorem deliver_hlc (ev : Nat) (lvl : Bool) (p : List Byte) (s : State) : (deliver ev lvl p s).hlc = s.hlc := of_quiet State.hlc (fun _ => rfl) (quiet_deliver ev lvl p s)
@[simp] theorem deliver_can (ev : Nat) (lvl : Bool) (p : List Byte) (s : State) : (deliver ev lvl p s).can = s.can := of_quiet State.can (fun _ => rfl) (quiet_deliver ev lvl p s)
@[simp] theorem deliver_earth (ev : Nat) (lvl : Bool) (p : List Byte) (s : State) : (deliver ev lvl p s).earth = s.earth := of_quiet State.earth (fun _ => rfl) (quiet_deliver ev lvl p s)
@[simp] theorem deliver_earthDev (ev : Nat) (lvl : Bool) (p : List Byte) (s : State) : (deliver ev lvl p s).earthDev = s.earthDev := of_quiet State.earthDev (fun _ => rfl) (quiet_deliver ev lvl p s)
@[simp] theorem deliver_safe (ev : Nat) (lvl : Bool) (p : List Byte) (s : State) : (deliver ev lvl p s).safe = s.safe := of_quiet State.safe (fun _ => rfl) (quiet_deliver ev lvl p s)
@[simp] theorem deliver_safeDev (ev : Nat) (lvl : Bool) (p : List Byte) (s : State) : (deliver ev lvl p s).safeDev = s.safeDev := of_quiet State.safeDev (fun _ => rfl) (quiet_deliver ev lvl p s)
@[simp] theorem deliver_nvCh (ev : Nat) (lvl : Bool) (p : List Byte) (s : State) : (deliver ev lvl p s).nvCh = s.nvCh := of_quiet State.nvCh (fun _ => rfl) (quiet_deliver ev lvl p s)
@[simp] theorem deliver_sw (ev : Nat) (lvl : Bool) (p : List Byte) (s : State) : (deliver ev lvl p s).sw = s.sw := of_quiet State.sw (fun _ => rfl) (quiet_deliver ev lvl p s)
@[simp] theorem deliver_lists (ev : Nat) (lvl : Bool) (p : List Byte) (s : State) : (deliver ev lvl p s).lists = s.lists := of_quiet State.lists (fun _ => rfl) (quiet_deliver ev lvl p s)
@[simp] theorem deliver_rdr (ev : Nat) (lvl : Bool) (p : List Byte) (s : State) : (deliver ev lvl p s).rdr = s.rdr := of_quiet State.rdr (fun _ => rfl) (quiet_deliver ev lvl p s)
@[simp] theorem deliver_fst (ev : Nat) (lvl : Bool) (p : List Byte) (s : State) : (deliver ev lvl p s).fst = s.fst := of_quiet State.fst (fun _ => rfl) (quiet_deliver ev lvl p s)
@[simp] theorem deliver_nvFst (ev : Nat) (lvl : Bool) (p : List Byte) (s : State) : (deliver ev lvl p s).nvFst = s.nvFst := of_quiet State.nvFst (fun _ => rfl) (quiet_deliver ev lvl p s)
@[simp] theorem deliver_tdr (ev : Nat) (lvl : Bool) (p : List Byte) (s : State) : (deliver ev lvl p s).tdr = s.tdr := of_quiet State.tdr (fun _ => rfl) (quiet_deliver ev lvl p s)
@[simp] theorem deliver_nvDsp (ev : Nat) (lvl : Bool) (p : List Byte) (s : State) : (deliver ev lvl p s).nvDsp = s.nvDsp := of_quiet State.nvDsp (fun _ => rfl) (quiet_deliver ev lvl p s)
@[simp] theorem deliver_dsp (ev : Nat) (lvl : Bool) (p : List Byte) (s : State) : (deliver ev lvl p s).dsp = s.dsp := of_quiet State.dsp (fun _ => rfl) (quiet_deliver ev lvl p s)
@[simp] theorem deliver_nvKey (ev : Nat) (lvl : Bool) (p : List Byte) (s : State) : (deliver ev lvl p s).nvKey = s.nvKey := of_quiet State.nvKey (fun _ => rfl) (quiet_deliver ev lvl p s)
@[simp] theorem deliver_key (ev : Nat) (lvl : Bool) (p : List Byte) (s : State) : (deliver ev lvl p s).key = s.key := of_quiet State.key (fun _ => rfl) (quiet_deliver ev lvl p s)
@[simp] theorem deliver_upd (ev : Nat) (lvl : Bool) (p : List Byte) (s : State) : (deliver ev lvl p s).upd = s.upd := of_quiet State.upd (fun _ => rfl) (quiet_deliver ev lvl p s)
@[simp] theorem deliver_led_bootCnt (ev : Nat) (lvl : Bool) (p : List Byte) (s : State) : (deliver ev lvl p s).led.bootCnt = s.led.bootCnt := of_quiet (fun t => t.led.bootCnt) (fun _ => rfl) (quiet_deliver ev lvl p s)
@[simp] theorem deliver_led_nxt (ev : Nat) (lvl : Bool) (p : List Byte) (s : State) : (deliver ev lvl p s).led.nxt = s.led.nxt := of_quiet (fun t => t.led.nxt) (fun _ => rfl) (quiet_deliver ev lvl p s)
@[simp] theorem deliver_led_acked (ev : Nat) (lvl : Bool) (p : List Byte) (s : State) : (deliver ev lvl p s).led.acked = s.led.acked := of_quiet (fun t => t.led.acked) (fun _ => rfl) (quiet_deliver ev lvl p s)
@[simp] theorem deliver_led_chain (ev : Nat) (lvl : Bool) (p : List Byte) (s : State) : (deliver ev lvl p s).led.chain = s.led.chain := of_quiet (fun t => t.led.chain) (fun _ => rfl) (quiet_deliver ev lvl p s)
@[simp] theorem deliver_led_daily (ev : Nat) (lvl : Bool) (p : List Byte) (s : State) : (deliver ev lvl p s).led.daily = s.led.daily := of_quiet (fun t => t.led.daily) (fun _ => rfl) (quiet_deliver ev lvl p s)
@[simp] theorem deliver_led_dailyNext (ev : Nat) (lvl : Bool) (p : List Byte) (s : State) : (deliver ev lvl p s).led.dailyNext = s.led.dailyNext := of_quiet (fun t => t.led.dailyNext) (fun _ => rfl) (quiet_deliver ev lvl p s)
@[simp] theorem deliver_led_profile (ev : Nat) (lvl : Bool) (p : List Byte) (s : State) : (deliver ev lvl p s).led.profile = s.led.profile := of_quiet (fun t => t.led.profile) (fun _ => rfl) (quiet_deliver ev lvl p s)
@[simp] theorem deliver_led_sesNo (ev : Nat) (lvl : Bool) (p : List Byte) (s : State) : (deliver ev lvl p s).led.sesNo = s.led.sesNo := of_quiet (fun t => t.led.sesNo) (fun _ => rfl) (quiet_deliver ev lvl p s)
@[simp] theorem deliver_led_fenceNo (ev : Nat) (lvl : Bool) (p : List Byte) (s : State) : (deliver ev lvl p s).led.fenceNo = s.led.fenceNo := of_quiet (fun t => t.led.fenceNo) (fun _ => rfl) (quiet_deliver ev lvl p s)
@[simp] theorem deliver_led_overwritten (ev : Nat) (lvl : Bool) (p : List Byte) (s : State) : (deliver ev lvl p s).led.overwritten = s.led.overwritten := of_quiet (fun t => t.led.overwritten) (fun _ => rfl) (quiet_deliver ev lvl p s)
@[simp] theorem deliver_p100_m (ev : Nat) (lvl : Bool) (p : List Byte) (s : State) : (deliver ev lvl p s).p100.m = s.p100.m := of_quiet (fun t => t.p100.m) (fun _ => rfl) (quiet_deliver ev lvl p s)
@[simp] theorem deliver_p100_sess (ev : Nat) (lvl : Bool) (p : List Byte) (s : State) : (deliver ev lvl p s).p100.sess = s.p100.sess := of_quiet (fun t => t.p100.sess) (fun _ => rfl) (quiet_deliver ev lvl p s)
@[simp] theorem deliver_p100_lastFired (ev : Nat) (lvl : Bool) (p : List Byte) (s : State) : (deliver ev lvl p s).p100.lastFired = s.p100.lastFired := of_quiet (fun t => t.p100.lastFired) (fun _ => rfl) (quiet_deliver ev lvl p s)
@[simp] theorem deliver_p100_overwrite (ev : Nat) (lvl : Bool) (p : List Byte) (s : State) : (deliver ev lvl p s).p100.overwrite = s.p100.overwrite := of_quiet (fun t => t.p100.overwrite) (fun _ => rfl) (quiet_deliver ev lvl p s)
@[simp] theorem deliver_p100_perOpen (ev : Nat) (lvl : Bool) (p : List Byte) (s : State) : (deliver ev lvl p s).p100.perOpen = s.p100.perOpen := of_quiet (fun t => t.p100.perOpen) (fun _ => rfl) (quiet_deliver ev lvl p s)
@[simp] theorem deliver_p100_day (ev : Nat) (lvl : Bool) (p : List Byte) (s : State) : (deliver ev lvl p s).p100.day = s.p100.day := of_quiet (fun t => t.p100.day) (fun _ => rfl) (quiet_deliver ev lvl p s)

@[simp] theorem queueRec_pending (r : PendRec) (s : State) : (queueRec r s).pending = s.pending := of_quiet State.pending (fun _ => rfl) (quiet_queueRec r s)
@[simp] theorem queueRec_member (r : PendRec) (s : State) : (queueRec r s).member = s.member := of_quiet State.member (fun _ => rfl) (quiet_queueRec r s)
@[simp] theorem queueRec_clk (r : PendRec) (s : State) : (queueRec r s).clk = s.clk := of_quiet State.clk (fun _ => rfl) (quiet_queueRec r s)
@[simp] theorem queueRec_pwr (r : PendRec) (s : State) : (queueRec r s).pwr = s.pwr := of_quiet State.pwr (fun _ => rfl) (quiet_queueRec r s)
@[simp] theorem queueRec_tail (r : PendRec) (s : State) : (queueRec r s).tail = s.tail := of_quiet State.tail (fun _ => rfl) (quiet_queueRec r s)
@[simp] theorem queueRec_blk (r : PendRec) (s : State) : (queueRec r s).blk = s.blk := of_quiet State.blk (fun _ => rfl) (quiet_queueRec r s)
@[simp] theorem queueRec_port (r : PendRec) (s : State) : (queueRec r s).port = s.port := of_quiet State.port (fun _ => rfl) (quiet_queueRec r s)
@[simp] theorem queueRec_mbx (r : PendRec) (s : State) : (queueRec r s).mbx = s.mbx := of_quiet State.mbx (fun _ => rfl) (quiet_queueRec r s)
@[simp] theorem queueRec_fe (r : PendRec) (s : State) : (queueRec r s).fe = s.fe := of_quiet State.fe (fun _ => rfl) (quiet_queueRec r s)
@[simp] theorem queueRec_nvFe (r : PendRec) (s : State) : (queueRec r s).nvFe = s.nvFe := of_quiet State.nvFe (fun _ => rfl) (quiet_queueRec r s)
@[simp] theorem queueRec_filt (r : PendRec) (s : State) : (queueRec r s).filt = s.filt := of_quiet State.filt (fun _ => rfl) (quiet_queueRec r s)
@[simp] theorem queueRec_en (r : PendRec) (s : State) : (queueRec r s).en = s.en := of_quiet State.en (fun _ => rfl) (quiet_queueRec r s)
@[simp] theorem queueRec_pfw (r : PendRec) (s : State) : (queueRec r s).pfw = s.pfw := of_quiet State.pfw (fun _ => rfl) (quiet_queueRec r s)
@[simp] theorem queueRec_nvBill (r : PendRec) (s : State) : (queueRec r s).nvBill = s.nvBill := of_quiet State.nvBill (fun _ => rfl) (quiet_queueRec r s)
@[simp] theorem queueRec_bill (r : PendRec) (s : State) : (queueRec r s).bill = s.bill := of_quiet State.bill (fun _ => rfl) (quiet_queueRec r s)
@[simp] theorem queueRec_nvPt (r : PendRec) (s : State) : (queueRec r s).nvPt = s.nvPt := of_quiet State.nvPt (fun _ => rfl) (quiet_queueRec r s)
@[simp] theorem queueRec_nvSafe (r : PendRec) (s : State) : (queueRec r s).nvSafe = s.nvSafe := of_quiet State.nvSafe (fun _ => rfl) (quiet_queueRec r s)
@[simp] theorem queueRec_pilot (r : PendRec) (s : State) : (queueRec r s).pilot = s.pilot := of_quiet State.pilot (fun _ => rfl) (quiet_queueRec r s)
@[simp] theorem queueRec_sess (r : PendRec) (s : State) : (queueRec r s).sess = s.sess := of_quiet State.sess (fun _ => rfl) (quiet_queueRec r s)
@[simp] theorem queueRec_hlc (r : PendRec) (s : State) : (queueRec r s).hlc = s.hlc := of_quiet State.hlc (fun _ => rfl) (quiet_queueRec r s)
@[simp] theorem queueRec_can (r : PendRec) (s : State) : (queueRec r s).can = s.can := of_quiet State.can (fun _ => rfl) (quiet_queueRec r s)
@[simp] theorem queueRec_earth (r : PendRec) (s : State) : (queueRec r s).earth = s.earth := of_quiet State.earth (fun _ => rfl) (quiet_queueRec r s)
@[simp] theorem queueRec_earthDev (r : PendRec) (s : State) : (queueRec r s).earthDev = s.earthDev := of_quiet State.earthDev (fun _ => rfl) (quiet_queueRec r s)
@[simp] theorem queueRec_safe (r : PendRec) (s : State) : (queueRec r s).safe = s.safe := of_quiet State.safe (fun _ => rfl) (quiet_queueRec r s)
@[simp] theorem queueRec_safeDev (r : PendRec) (s : State) : (queueRec r s).safeDev = s.safeDev := of_quiet State.safeDev (fun _ => rfl) (quiet_queueRec r s)
@[simp] theorem queueRec_nvCh (r : PendRec) (s : State) : (queueRec r s).nvCh = s.nvCh := of_quiet State.nvCh (fun _ => rfl) (quiet_queueRec r s)
@[simp] theorem queueRec_sw (r : PendRec) (s : State) : (queueRec r s).sw = s.sw := of_quiet State.sw (fun _ => rfl) (quiet_queueRec r s)
@[simp] theorem queueRec_lists (r : PendRec) (s : State) : (queueRec r s).lists = s.lists := of_quiet State.lists (fun _ => rfl) (quiet_queueRec r s)
@[simp] theorem queueRec_rdr (r : PendRec) (s : State) : (queueRec r s).rdr = s.rdr := of_quiet State.rdr (fun _ => rfl) (quiet_queueRec r s)
@[simp] theorem queueRec_fst (r : PendRec) (s : State) : (queueRec r s).fst = s.fst := of_quiet State.fst (fun _ => rfl) (quiet_queueRec r s)
@[simp] theorem queueRec_nvFst (r : PendRec) (s : State) : (queueRec r s).nvFst = s.nvFst := of_quiet State.nvFst (fun _ => rfl) (quiet_queueRec r s)
@[simp] theorem queueRec_tdr (r : PendRec) (s : State) : (queueRec r s).tdr = s.tdr := of_quiet State.tdr (fun _ => rfl) (quiet_queueRec r s)
@[simp] theorem queueRec_nvDsp (r : PendRec) (s : State) : (queueRec r s).nvDsp = s.nvDsp := of_quiet State.nvDsp (fun _ => rfl) (quiet_queueRec r s)
@[simp] theorem queueRec_dsp (r : PendRec) (s : State) : (queueRec r s).dsp = s.dsp := of_quiet State.dsp (fun _ => rfl) (quiet_queueRec r s)
@[simp] theorem queueRec_nvKey (r : PendRec) (s : State) : (queueRec r s).nvKey = s.nvKey := of_quiet State.nvKey (fun _ => rfl) (quiet_queueRec r s)
@[simp] theorem queueRec_key (r : PendRec) (s : State) : (queueRec r s).key = s.key := of_quiet State.key (fun _ => rfl) (quiet_queueRec r s)
@[simp] theorem queueRec_upd (r : PendRec) (s : State) : (queueRec r s).upd = s.upd := of_quiet State.upd (fun _ => rfl) (quiet_queueRec r s)
@[simp] theorem queueRec_led_bootCnt (r : PendRec) (s : State) : (queueRec r s).led.bootCnt = s.led.bootCnt := of_quiet (fun t => t.led.bootCnt) (fun _ => rfl) (quiet_queueRec r s)
@[simp] theorem queueRec_led_nxt (r : PendRec) (s : State) : (queueRec r s).led.nxt = s.led.nxt := of_quiet (fun t => t.led.nxt) (fun _ => rfl) (quiet_queueRec r s)
@[simp] theorem queueRec_led_acked (r : PendRec) (s : State) : (queueRec r s).led.acked = s.led.acked := of_quiet (fun t => t.led.acked) (fun _ => rfl) (quiet_queueRec r s)
@[simp] theorem queueRec_led_chain (r : PendRec) (s : State) : (queueRec r s).led.chain = s.led.chain := of_quiet (fun t => t.led.chain) (fun _ => rfl) (quiet_queueRec r s)
@[simp] theorem queueRec_led_daily (r : PendRec) (s : State) : (queueRec r s).led.daily = s.led.daily := of_quiet (fun t => t.led.daily) (fun _ => rfl) (quiet_queueRec r s)
@[simp] theorem queueRec_led_dailyNext (r : PendRec) (s : State) : (queueRec r s).led.dailyNext = s.led.dailyNext := of_quiet (fun t => t.led.dailyNext) (fun _ => rfl) (quiet_queueRec r s)
@[simp] theorem queueRec_led_profile (r : PendRec) (s : State) : (queueRec r s).led.profile = s.led.profile := of_quiet (fun t => t.led.profile) (fun _ => rfl) (quiet_queueRec r s)
@[simp] theorem queueRec_led_sesNo (r : PendRec) (s : State) : (queueRec r s).led.sesNo = s.led.sesNo := of_quiet (fun t => t.led.sesNo) (fun _ => rfl) (quiet_queueRec r s)
@[simp] theorem queueRec_led_fenceNo (r : PendRec) (s : State) : (queueRec r s).led.fenceNo = s.led.fenceNo := of_quiet (fun t => t.led.fenceNo) (fun _ => rfl) (quiet_queueRec r s)
@[simp] theorem queueRec_led_overwritten (r : PendRec) (s : State) : (queueRec r s).led.overwritten = s.led.overwritten := of_quiet (fun t => t.led.overwritten) (fun _ => rfl) (quiet_queueRec r s)
@[simp] theorem queueRec_p100_m (r : PendRec) (s : State) : (queueRec r s).p100.m = s.p100.m := of_quiet (fun t => t.p100.m) (fun _ => rfl) (quiet_queueRec r s)
@[simp] theorem queueRec_p100_sess (r : PendRec) (s : State) : (queueRec r s).p100.sess = s.p100.sess := of_quiet (fun t => t.p100.sess) (fun _ => rfl) (quiet_queueRec r s)
@[simp] theorem queueRec_p100_lastFired (r : PendRec) (s : State) : (queueRec r s).p100.lastFired = s.p100.lastFired := of_quiet (fun t => t.p100.lastFired) (fun _ => rfl) (quiet_queueRec r s)
@[simp] theorem queueRec_p100_overwrite (r : PendRec) (s : State) : (queueRec r s).p100.overwrite = s.p100.overwrite := of_quiet (fun t => t.p100.overwrite) (fun _ => rfl) (quiet_queueRec r s)
@[simp] theorem queueRec_p100_perOpen (r : PendRec) (s : State) : (queueRec r s).p100.perOpen = s.p100.perOpen := of_quiet (fun t => t.p100.perOpen) (fun _ => rfl) (quiet_queueRec r s)
@[simp] theorem queueRec_p100_day (r : PendRec) (s : State) : (queueRec r s).p100.day = s.p100.day := of_quiet (fun t => t.p100.day) (fun _ => rfl) (quiet_queueRec r s)

@[simp] theorem occur_pending (ev : Nat) (lvl : Bool) (p : List Byte) (s : State) : (occur ev lvl p s).pending = s.pending := of_quiet State.pending (fun _ => rfl) (quiet_occur ev lvl p s)
@[simp] theorem occur_member (ev : Nat) (lvl : Bool) (p : List Byte) (s : State) : (occur ev lvl p s).member = s.member := of_quiet State.member (fun _ => rfl) (quiet_occur ev lvl p s)
@[simp] theorem occur_clk (ev : Nat) (lvl : Bool) (p : List Byte) (s : State) : (occur ev lvl p s).clk = s.clk := of_quiet State.clk (fun _ => rfl) (quiet_occur ev lvl p s)
@[simp] theorem occur_pwr (ev : Nat) (lvl : Bool) (p : List Byte) (s : State) : (occur ev lvl p s).pwr = s.pwr := of_quiet State.pwr (fun _ => rfl) (quiet_occur ev lvl p s)
@[simp] theorem occur_tail (ev : Nat) (lvl : Bool) (p : List Byte) (s : State) : (occur ev lvl p s).tail = s.tail := of_quiet State.tail (fun _ => rfl) (quiet_occur ev lvl p s)
@[simp] theorem occur_blk (ev : Nat) (lvl : Bool) (p : List Byte) (s : State) : (occur ev lvl p s).blk = s.blk := of_quiet State.blk (fun _ => rfl) (quiet_occur ev lvl p s)
@[simp] theorem occur_port (ev : Nat) (lvl : Bool) (p : List Byte) (s : State) : (occur ev lvl p s).port = s.port := of_quiet State.port (fun _ => rfl) (quiet_occur ev lvl p s)
@[simp] theorem occur_mbx (ev : Nat) (lvl : Bool) (p : List Byte) (s : State) : (occur ev lvl p s).mbx = s.mbx := of_quiet State.mbx (fun _ => rfl) (quiet_occur ev lvl p s)
@[simp] theorem occur_fe (ev : Nat) (lvl : Bool) (p : List Byte) (s : State) : (occur ev lvl p s).fe = s.fe := of_quiet State.fe (fun _ => rfl) (quiet_occur ev lvl p s)
@[simp] theorem occur_nvFe (ev : Nat) (lvl : Bool) (p : List Byte) (s : State) : (occur ev lvl p s).nvFe = s.nvFe := of_quiet State.nvFe (fun _ => rfl) (quiet_occur ev lvl p s)
@[simp] theorem occur_filt (ev : Nat) (lvl : Bool) (p : List Byte) (s : State) : (occur ev lvl p s).filt = s.filt := of_quiet State.filt (fun _ => rfl) (quiet_occur ev lvl p s)
@[simp] theorem occur_en (ev : Nat) (lvl : Bool) (p : List Byte) (s : State) : (occur ev lvl p s).en = s.en := of_quiet State.en (fun _ => rfl) (quiet_occur ev lvl p s)
@[simp] theorem occur_pfw (ev : Nat) (lvl : Bool) (p : List Byte) (s : State) : (occur ev lvl p s).pfw = s.pfw := of_quiet State.pfw (fun _ => rfl) (quiet_occur ev lvl p s)
@[simp] theorem occur_nvBill (ev : Nat) (lvl : Bool) (p : List Byte) (s : State) : (occur ev lvl p s).nvBill = s.nvBill := of_quiet State.nvBill (fun _ => rfl) (quiet_occur ev lvl p s)
@[simp] theorem occur_bill (ev : Nat) (lvl : Bool) (p : List Byte) (s : State) : (occur ev lvl p s).bill = s.bill := of_quiet State.bill (fun _ => rfl) (quiet_occur ev lvl p s)
@[simp] theorem occur_nvPt (ev : Nat) (lvl : Bool) (p : List Byte) (s : State) : (occur ev lvl p s).nvPt = s.nvPt := of_quiet State.nvPt (fun _ => rfl) (quiet_occur ev lvl p s)
@[simp] theorem occur_nvSafe (ev : Nat) (lvl : Bool) (p : List Byte) (s : State) : (occur ev lvl p s).nvSafe = s.nvSafe := of_quiet State.nvSafe (fun _ => rfl) (quiet_occur ev lvl p s)
@[simp] theorem occur_pilot (ev : Nat) (lvl : Bool) (p : List Byte) (s : State) : (occur ev lvl p s).pilot = s.pilot := of_quiet State.pilot (fun _ => rfl) (quiet_occur ev lvl p s)
@[simp] theorem occur_sess (ev : Nat) (lvl : Bool) (p : List Byte) (s : State) : (occur ev lvl p s).sess = s.sess := of_quiet State.sess (fun _ => rfl) (quiet_occur ev lvl p s)
@[simp] theorem occur_hlc (ev : Nat) (lvl : Bool) (p : List Byte) (s : State) : (occur ev lvl p s).hlc = s.hlc := of_quiet State.hlc (fun _ => rfl) (quiet_occur ev lvl p s)
@[simp] theorem occur_can (ev : Nat) (lvl : Bool) (p : List Byte) (s : State) : (occur ev lvl p s).can = s.can := of_quiet State.can (fun _ => rfl) (quiet_occur ev lvl p s)
@[simp] theorem occur_earth (ev : Nat) (lvl : Bool) (p : List Byte) (s : State) : (occur ev lvl p s).earth = s.earth := of_quiet State.earth (fun _ => rfl) (quiet_occur ev lvl p s)
@[simp] theorem occur_earthDev (ev : Nat) (lvl : Bool) (p : List Byte) (s : State) : (occur ev lvl p s).earthDev = s.earthDev := of_quiet State.earthDev (fun _ => rfl) (quiet_occur ev lvl p s)
@[simp] theorem occur_safe (ev : Nat) (lvl : Bool) (p : List Byte) (s : State) : (occur ev lvl p s).safe = s.safe := of_quiet State.safe (fun _ => rfl) (quiet_occur ev lvl p s)
@[simp] theorem occur_safeDev (ev : Nat) (lvl : Bool) (p : List Byte) (s : State) : (occur ev lvl p s).safeDev = s.safeDev := of_quiet State.safeDev (fun _ => rfl) (quiet_occur ev lvl p s)
@[simp] theorem occur_nvCh (ev : Nat) (lvl : Bool) (p : List Byte) (s : State) : (occur ev lvl p s).nvCh = s.nvCh := of_quiet State.nvCh (fun _ => rfl) (quiet_occur ev lvl p s)
@[simp] theorem occur_sw (ev : Nat) (lvl : Bool) (p : List Byte) (s : State) : (occur ev lvl p s).sw = s.sw := of_quiet State.sw (fun _ => rfl) (quiet_occur ev lvl p s)
@[simp] theorem occur_lists (ev : Nat) (lvl : Bool) (p : List Byte) (s : State) : (occur ev lvl p s).lists = s.lists := of_quiet State.lists (fun _ => rfl) (quiet_occur ev lvl p s)
@[simp] theorem occur_rdr (ev : Nat) (lvl : Bool) (p : List Byte) (s : State) : (occur ev lvl p s).rdr = s.rdr := of_quiet State.rdr (fun _ => rfl) (quiet_occur ev lvl p s)
@[simp] theorem occur_fst (ev : Nat) (lvl : Bool) (p : List Byte) (s : State) : (occur ev lvl p s).fst = s.fst := of_quiet State.fst (fun _ => rfl) (quiet_occur ev lvl p s)
@[simp] theorem occur_nvFst (ev : Nat) (lvl : Bool) (p : List Byte) (s : State) : (occur ev lvl p s).nvFst = s.nvFst := of_quiet State.nvFst (fun _ => rfl) (quiet_occur ev lvl p s)
@[simp] theorem occur_tdr (ev : Nat) (lvl : Bool) (p : List Byte) (s : State) : (occur ev lvl p s).tdr = s.tdr := of_quiet State.tdr (fun _ => rfl) (quiet_occur ev lvl p s)
@[simp] theorem occur_nvDsp (ev : Nat) (lvl : Bool) (p : List Byte) (s : State) : (occur ev lvl p s).nvDsp = s.nvDsp := of_quiet State.nvDsp (fun _ => rfl) (quiet_occur ev lvl p s)
@[simp] theorem occur_dsp (ev : Nat) (lvl : Bool) (p : List Byte) (s : State) : (occur ev lvl p s).dsp = s.dsp := of_quiet State.dsp (fun _ => rfl) (quiet_occur ev lvl p s)
@[simp] theorem occur_nvKey (ev : Nat) (lvl : Bool) (p : List Byte) (s : State) : (occur ev lvl p s).nvKey = s.nvKey := of_quiet State.nvKey (fun _ => rfl) (quiet_occur ev lvl p s)
@[simp] theorem occur_key (ev : Nat) (lvl : Bool) (p : List Byte) (s : State) : (occur ev lvl p s).key = s.key := of_quiet State.key (fun _ => rfl) (quiet_occur ev lvl p s)
@[simp] theorem occur_upd (ev : Nat) (lvl : Bool) (p : List Byte) (s : State) : (occur ev lvl p s).upd = s.upd := of_quiet State.upd (fun _ => rfl) (quiet_occur ev lvl p s)
@[simp] theorem occur_led_bootCnt (ev : Nat) (lvl : Bool) (p : List Byte) (s : State) : (occur ev lvl p s).led.bootCnt = s.led.bootCnt := of_quiet (fun t => t.led.bootCnt) (fun _ => rfl) (quiet_occur ev lvl p s)
@[simp] theorem occur_led_nxt (ev : Nat) (lvl : Bool) (p : List Byte) (s : State) : (occur ev lvl p s).led.nxt = s.led.nxt := of_quiet (fun t => t.led.nxt) (fun _ => rfl) (quiet_occur ev lvl p s)
@[simp] theorem occur_led_acked (ev : Nat) (lvl : Bool) (p : List Byte) (s : State) : (occur ev lvl p s).led.acked = s.led.acked := of_quiet (fun t => t.led.acked) (fun _ => rfl) (quiet_occur ev lvl p s)
@[simp] theorem occur_led_chain (ev : Nat) (lvl : Bool) (p : List Byte) (s : State) : (occur ev lvl p s).led.chain = s.led.chain := of_quiet (fun t => t.led.chain) (fun _ => rfl) (quiet_occur ev lvl p s)
@[simp] theorem occur_led_daily (ev : Nat) (lvl : Bool) (p : List Byte) (s : State) : (occur ev lvl p s).led.daily = s.led.daily := of_quiet (fun t => t.led.daily) (fun _ => rfl) (quiet_occur ev lvl p s)
@[simp] theorem occur_led_dailyNext (ev : Nat) (lvl : Bool) (p : List Byte) (s : State) : (occur ev lvl p s).led.dailyNext = s.led.dailyNext := of_quiet (fun t => t.led.dailyNext) (fun _ => rfl) (quiet_occur ev lvl p s)
@[simp] theorem occur_led_profile (ev : Nat) (lvl : Bool) (p : List Byte) (s : State) : (occur ev lvl p s).led.profile = s.led.profile := of_quiet (fun t => t.led.profile) (fun _ => rfl) (quiet_occur ev lvl p s)
@[simp] theorem occur_led_sesNo (ev : Nat) (lvl : Bool) (p : List Byte) (s : State) : (occur ev lvl p s).led.sesNo = s.led.sesNo := of_quiet (fun t => t.led.sesNo) (fun _ => rfl) (quiet_occur ev lvl p s)
@[simp] theorem occur_led_fenceNo (ev : Nat) (lvl : Bool) (p : List Byte) (s : State) : (occur ev lvl p s).led.fenceNo = s.led.fenceNo := of_quiet (fun t => t.led.fenceNo) (fun _ => rfl) (quiet_occur ev lvl p s)
@[simp] theorem occur_led_overwritten (ev : Nat) (lvl : Bool) (p : List Byte) (s : State) : (occur ev lvl p s).led.overwritten = s.led.overwritten := of_quiet (fun t => t.led.overwritten) (fun _ => rfl) (quiet_occur ev lvl p s)
@[simp] theorem occur_p100_m (ev : Nat) (lvl : Bool) (p : List Byte) (s : State) : (occur ev lvl p s).p100.m = s.p100.m := of_quiet (fun t => t.p100.m) (fun _ => rfl) (quiet_occur ev lvl p s)
@[simp] theorem occur_p100_sess (ev : Nat) (lvl : Bool) (p : List Byte) (s : State) : (occur ev lvl p s).p100.sess = s.p100.sess := of_quiet (fun t => t.p100.sess) (fun _ => rfl) (quiet_occur ev lvl p s)
@[simp] theorem occur_p100_lastFired (ev : Nat) (lvl : Bool) (p : List Byte) (s : State) : (occur ev lvl p s).p100.lastFired = s.p100.lastFired := of_quiet (fun t => t.p100.lastFired) (fun _ => rfl) (quiet_occur ev lvl p s)
@[simp] theorem occur_p100_overwrite (ev : Nat) (lvl : Bool) (p : List Byte) (s : State) : (occur ev lvl p s).p100.overwrite = s.p100.overwrite := of_quiet (fun t => t.p100.overwrite) (fun _ => rfl) (quiet_occur ev lvl p s)
@[simp] theorem occur_p100_perOpen (ev : Nat) (lvl : Bool) (p : List Byte) (s : State) : (occur ev lvl p s).p100.perOpen = s.p100.perOpen := of_quiet (fun t => t.p100.perOpen) (fun _ => rfl) (quiet_occur ev lvl p s)
@[simp] theorem occur_p100_day (ev : Nat) (lvl : Bool) (p : List Byte) (s : State) : (occur ev lvl p s).p100.day = s.p100.day := of_quiet (fun t => t.p100.day) (fun _ => rfl) (quiet_occur ev lvl p s)

@[simp] theorem pulse_pending (ev : Nat) (p : List Byte) (s : State) : (pulse ev p s).pending = s.pending := of_quiet State.pending (fun _ => rfl) (quiet_pulse ev p s)
@[simp] theorem pulse_member (ev : Nat) (p : List Byte) (s : State) : (pulse ev p s).member = s.member := of_quiet State.member (fun _ => rfl) (quiet_pulse ev p s)
@[simp] theorem pulse_clk (ev : Nat) (p : List Byte) (s : State) : (pulse ev p s).clk = s.clk := of_quiet State.clk (fun _ => rfl) (quiet_pulse ev p s)
@[simp] theorem pulse_pwr (ev : Nat) (p : List Byte) (s : State) : (pulse ev p s).pwr = s.pwr := of_quiet State.pwr (fun _ => rfl) (quiet_pulse ev p s)
@[simp] theorem pulse_tail (ev : Nat) (p : List Byte) (s : State) : (pulse ev p s).tail = s.tail := of_quiet State.tail (fun _ => rfl) (quiet_pulse ev p s)
@[simp] theorem pulse_blk (ev : Nat) (p : List Byte) (s : State) : (pulse ev p s).blk = s.blk := of_quiet State.blk (fun _ => rfl) (quiet_pulse ev p s)
@[simp] theorem pulse_port (ev : Nat) (p : List Byte) (s : State) : (pulse ev p s).port = s.port := of_quiet State.port (fun _ => rfl) (quiet_pulse ev p s)
@[simp] theorem pulse_mbx (ev : Nat) (p : List Byte) (s : State) : (pulse ev p s).mbx = s.mbx := of_quiet State.mbx (fun _ => rfl) (quiet_pulse ev p s)
@[simp] theorem pulse_fe (ev : Nat) (p : List Byte) (s : State) : (pulse ev p s).fe = s.fe := of_quiet State.fe (fun _ => rfl) (quiet_pulse ev p s)
@[simp] theorem pulse_nvFe (ev : Nat) (p : List Byte) (s : State) : (pulse ev p s).nvFe = s.nvFe := of_quiet State.nvFe (fun _ => rfl) (quiet_pulse ev p s)
@[simp] theorem pulse_filt (ev : Nat) (p : List Byte) (s : State) : (pulse ev p s).filt = s.filt := of_quiet State.filt (fun _ => rfl) (quiet_pulse ev p s)
@[simp] theorem pulse_en (ev : Nat) (p : List Byte) (s : State) : (pulse ev p s).en = s.en := of_quiet State.en (fun _ => rfl) (quiet_pulse ev p s)
@[simp] theorem pulse_pfw (ev : Nat) (p : List Byte) (s : State) : (pulse ev p s).pfw = s.pfw := of_quiet State.pfw (fun _ => rfl) (quiet_pulse ev p s)
@[simp] theorem pulse_nvBill (ev : Nat) (p : List Byte) (s : State) : (pulse ev p s).nvBill = s.nvBill := of_quiet State.nvBill (fun _ => rfl) (quiet_pulse ev p s)
@[simp] theorem pulse_bill (ev : Nat) (p : List Byte) (s : State) : (pulse ev p s).bill = s.bill := of_quiet State.bill (fun _ => rfl) (quiet_pulse ev p s)
@[simp] theorem pulse_nvPt (ev : Nat) (p : List Byte) (s : State) : (pulse ev p s).nvPt = s.nvPt := of_quiet State.nvPt (fun _ => rfl) (quiet_pulse ev p s)
@[simp] theorem pulse_nvSafe (ev : Nat) (p : List Byte) (s : State) : (pulse ev p s).nvSafe = s.nvSafe := of_quiet State.nvSafe (fun _ => rfl) (quiet_pulse ev p s)
@[simp] theorem pulse_pilot (ev : Nat) (p : List Byte) (s : State) : (pulse ev p s).pilot = s.pilot := of_quiet State.pilot (fun _ => rfl) (quiet_pulse ev p s)
@[simp] theorem pulse_sess (ev : Nat) (p : List Byte) (s : State) : (pulse ev p s).sess = s.sess := of_quiet State.sess (fun _ => rfl) (quiet_pulse ev p s)
@[simp] theorem pulse_hlc (ev : Nat) (p : List Byte) (s : State) : (pulse ev p s).hlc = s.hlc := of_quiet State.hlc (fun _ => rfl) (quiet_pulse ev p s)
@[simp] theorem pulse_can (ev : Nat) (p : List Byte) (s : State) : (pulse ev p s).can = s.can := of_quiet State.can (fun _ => rfl) (quiet_pulse ev p s)
@[simp] theorem pulse_earth (ev : Nat) (p : List Byte) (s : State) : (pulse ev p s).earth = s.earth := of_quiet State.earth (fun _ => rfl) (quiet_pulse ev p s)
@[simp] theorem pulse_earthDev (ev : Nat) (p : List Byte) (s : State) : (pulse ev p s).earthDev = s.earthDev := of_quiet State.earthDev (fun _ => rfl) (quiet_pulse ev p s)
@[simp] theorem pulse_safe (ev : Nat) (p : List Byte) (s : State) : (pulse ev p s).safe = s.safe := of_quiet State.safe (fun _ => rfl) (quiet_pulse ev p s)
@[simp] theorem pulse_safeDev (ev : Nat) (p : List Byte) (s : State) : (pulse ev p s).safeDev = s.safeDev := of_quiet State.safeDev (fun _ => rfl) (quiet_pulse ev p s)
@[simp] theorem pulse_nvCh (ev : Nat) (p : List Byte) (s : State) : (pulse ev p s).nvCh = s.nvCh := of_quiet State.nvCh (fun _ => rfl) (quiet_pulse ev p s)
@[simp] theorem pulse_sw (ev : Nat) (p : List Byte) (s : State) : (pulse ev p s).sw = s.sw := of_quiet State.sw (fun _ => rfl) (quiet_pulse ev p s)
@[simp] theorem pulse_lists (ev : Nat) (p : List Byte) (s : State) : (pulse ev p s).lists = s.lists := of_quiet State.lists (fun _ => rfl) (quiet_pulse ev p s)
@[simp] theorem pulse_rdr (ev : Nat) (p : List Byte) (s : State) : (pulse ev p s).rdr = s.rdr := of_quiet State.rdr (fun _ => rfl) (quiet_pulse ev p s)
@[simp] theorem pulse_fst (ev : Nat) (p : List Byte) (s : State) : (pulse ev p s).fst = s.fst := of_quiet State.fst (fun _ => rfl) (quiet_pulse ev p s)
@[simp] theorem pulse_nvFst (ev : Nat) (p : List Byte) (s : State) : (pulse ev p s).nvFst = s.nvFst := of_quiet State.nvFst (fun _ => rfl) (quiet_pulse ev p s)
@[simp] theorem pulse_tdr (ev : Nat) (p : List Byte) (s : State) : (pulse ev p s).tdr = s.tdr := of_quiet State.tdr (fun _ => rfl) (quiet_pulse ev p s)
@[simp] theorem pulse_nvDsp (ev : Nat) (p : List Byte) (s : State) : (pulse ev p s).nvDsp = s.nvDsp := of_quiet State.nvDsp (fun _ => rfl) (quiet_pulse ev p s)
@[simp] theorem pulse_dsp (ev : Nat) (p : List Byte) (s : State) : (pulse ev p s).dsp = s.dsp := of_quiet State.dsp (fun _ => rfl) (quiet_pulse ev p s)
@[simp] theorem pulse_nvKey (ev : Nat) (p : List Byte) (s : State) : (pulse ev p s).nvKey = s.nvKey := of_quiet State.nvKey (fun _ => rfl) (quiet_pulse ev p s)
@[simp] theorem pulse_key (ev : Nat) (p : List Byte) (s : State) : (pulse ev p s).key = s.key := of_quiet State.key (fun _ => rfl) (quiet_pulse ev p s)
@[simp] theorem pulse_upd (ev : Nat) (p : List Byte) (s : State) : (pulse ev p s).upd = s.upd := of_quiet State.upd (fun _ => rfl) (quiet_pulse ev p s)
@[simp] theorem pulse_led_bootCnt (ev : Nat) (p : List Byte) (s : State) : (pulse ev p s).led.bootCnt = s.led.bootCnt := of_quiet (fun t => t.led.bootCnt) (fun _ => rfl) (quiet_pulse ev p s)
@[simp] theorem pulse_led_nxt (ev : Nat) (p : List Byte) (s : State) : (pulse ev p s).led.nxt = s.led.nxt := of_quiet (fun t => t.led.nxt) (fun _ => rfl) (quiet_pulse ev p s)
@[simp] theorem pulse_led_acked (ev : Nat) (p : List Byte) (s : State) : (pulse ev p s).led.acked = s.led.acked := of_quiet (fun t => t.led.acked) (fun _ => rfl) (quiet_pulse ev p s)
@[simp] theorem pulse_led_chain (ev : Nat) (p : List Byte) (s : State) : (pulse ev p s).led.chain = s.led.chain := of_quiet (fun t => t.led.chain) (fun _ => rfl) (quiet_pulse ev p s)
@[simp] theorem pulse_led_daily (ev : Nat) (p : List Byte) (s : State) : (pulse ev p s).led.daily = s.led.daily := of_quiet (fun t => t.led.daily) (fun _ => rfl) (quiet_pulse ev p s)
@[simp] theorem pulse_led_dailyNext (ev : Nat) (p : List Byte) (s : State) : (pulse ev p s).led.dailyNext = s.led.dailyNext := of_quiet (fun t => t.led.dailyNext) (fun _ => rfl) (quiet_pulse ev p s)
@[simp] theorem pulse_led_profile (ev : Nat) (p : List Byte) (s : State) : (pulse ev p s).led.profile = s.led.profile := of_quiet (fun t => t.led.profile) (fun _ => rfl) (quiet_pulse ev p s)
@[simp] theorem pulse_led_sesNo (ev : Nat) (p : List Byte) (s : State) : (pulse ev p s).led.sesNo = s.led.sesNo := of_quiet (fun t => t.led.sesNo) (fun _ => rfl) (quiet_pulse ev p s)
@[simp] theorem pulse_led_fenceNo (ev : Nat) (p : List Byte) (s : State) : (pulse ev p s).led.fenceNo = s.led.fenceNo := of_quiet (fun t => t.led.fenceNo) (fun _ => rfl) (quiet_pulse ev p s)
@[simp] theorem pulse_led_overwritten (ev : Nat) (p : List Byte) (s : State) : (pulse ev p s).led.overwritten = s.led.overwritten := of_quiet (fun t => t.led.overwritten) (fun _ => rfl) (quiet_pulse ev p s)
@[simp] theorem pulse_p100_m (ev : Nat) (p : List Byte) (s : State) : (pulse ev p s).p100.m = s.p100.m := of_quiet (fun t => t.p100.m) (fun _ => rfl) (quiet_pulse ev p s)
@[simp] theorem pulse_p100_sess (ev : Nat) (p : List Byte) (s : State) : (pulse ev p s).p100.sess = s.p100.sess := of_quiet (fun t => t.p100.sess) (fun _ => rfl) (quiet_pulse ev p s)
@[simp] theorem pulse_p100_lastFired (ev : Nat) (p : List Byte) (s : State) : (pulse ev p s).p100.lastFired = s.p100.lastFired := of_quiet (fun t => t.p100.lastFired) (fun _ => rfl) (quiet_pulse ev p s)
@[simp] theorem pulse_p100_overwrite (ev : Nat) (p : List Byte) (s : State) : (pulse ev p s).p100.overwrite = s.p100.overwrite := of_quiet (fun t => t.p100.overwrite) (fun _ => rfl) (quiet_pulse ev p s)
@[simp] theorem pulse_p100_perOpen (ev : Nat) (p : List Byte) (s : State) : (pulse ev p s).p100.perOpen = s.p100.perOpen := of_quiet (fun t => t.p100.perOpen) (fun _ => rfl) (quiet_pulse ev p s)
@[simp] theorem pulse_p100_day (ev : Nat) (p : List Byte) (s : State) : (pulse ev p s).p100.day = s.p100.day := of_quiet (fun t => t.p100.day) (fun _ => rfl) (quiet_pulse ev p s)

@[simp] theorem level_pending (ev key : Nat) (on : Bool) (p : List Byte) (s : State) : (level ev key on p s).pending = s.pending := of_quiet State.pending (fun _ => rfl) (quiet_level ev key on p s)
@[simp] theorem level_member (ev key : Nat) (on : Bool) (p : List Byte) (s : State) : (level ev key on p s).member = s.member := of_quiet State.member (fun _ => rfl) (quiet_level ev key on p s)
@[simp] theorem level_clk (ev key : Nat) (on : Bool) (p : List Byte) (s : State) : (level ev key on p s).clk = s.clk := of_quiet State.clk (fun _ => rfl) (quiet_level ev key on p s)
@[simp] theorem level_pwr (ev key : Nat) (on : Bool) (p : List Byte) (s : State) : (level ev key on p s).pwr = s.pwr := of_quiet State.pwr (fun _ => rfl) (quiet_level ev key on p s)
@[simp] theorem level_tail (ev key : Nat) (on : Bool) (p : List Byte) (s : State) : (level ev key on p s).tail = s.tail := of_quiet State.tail (fun _ => rfl) (quiet_level ev key on p s)
@[simp] theorem level_blk (ev key : Nat) (on : Bool) (p : List Byte) (s : State) : (level ev key on p s).blk = s.blk := of_quiet State.blk (fun _ => rfl) (quiet_level ev key on p s)
@[simp] theorem level_port (ev key : Nat) (on : Bool) (p : List Byte) (s : State) : (level ev key on p s).port = s.port := of_quiet State.port (fun _ => rfl) (quiet_level ev key on p s)
@[simp] theorem level_mbx (ev key : Nat) (on : Bool) (p : List Byte) (s : State) : (level ev key on p s).mbx = s.mbx := of_quiet State.mbx (fun _ => rfl) (quiet_level ev key on p s)
@[simp] theorem level_fe (ev key : Nat) (on : Bool) (p : List Byte) (s : State) : (level ev key on p s).fe = s.fe := of_quiet State.fe (fun _ => rfl) (quiet_level ev key on p s)
@[simp] theorem level_nvFe (ev key : Nat) (on : Bool) (p : List Byte) (s : State) : (level ev key on p s).nvFe = s.nvFe := of_quiet State.nvFe (fun _ => rfl) (quiet_level ev key on p s)
@[simp] theorem level_filt (ev key : Nat) (on : Bool) (p : List Byte) (s : State) : (level ev key on p s).filt = s.filt := of_quiet State.filt (fun _ => rfl) (quiet_level ev key on p s)
@[simp] theorem level_en (ev key : Nat) (on : Bool) (p : List Byte) (s : State) : (level ev key on p s).en = s.en := of_quiet State.en (fun _ => rfl) (quiet_level ev key on p s)
@[simp] theorem level_pfw (ev key : Nat) (on : Bool) (p : List Byte) (s : State) : (level ev key on p s).pfw = s.pfw := of_quiet State.pfw (fun _ => rfl) (quiet_level ev key on p s)
@[simp] theorem level_nvBill (ev key : Nat) (on : Bool) (p : List Byte) (s : State) : (level ev key on p s).nvBill = s.nvBill := of_quiet State.nvBill (fun _ => rfl) (quiet_level ev key on p s)
@[simp] theorem level_bill (ev key : Nat) (on : Bool) (p : List Byte) (s : State) : (level ev key on p s).bill = s.bill := of_quiet State.bill (fun _ => rfl) (quiet_level ev key on p s)
@[simp] theorem level_nvPt (ev key : Nat) (on : Bool) (p : List Byte) (s : State) : (level ev key on p s).nvPt = s.nvPt := of_quiet State.nvPt (fun _ => rfl) (quiet_level ev key on p s)
@[simp] theorem level_nvSafe (ev key : Nat) (on : Bool) (p : List Byte) (s : State) : (level ev key on p s).nvSafe = s.nvSafe := of_quiet State.nvSafe (fun _ => rfl) (quiet_level ev key on p s)
@[simp] theorem level_pilot (ev key : Nat) (on : Bool) (p : List Byte) (s : State) : (level ev key on p s).pilot = s.pilot := of_quiet State.pilot (fun _ => rfl) (quiet_level ev key on p s)
@[simp] theorem level_sess (ev key : Nat) (on : Bool) (p : List Byte) (s : State) : (level ev key on p s).sess = s.sess := of_quiet State.sess (fun _ => rfl) (quiet_level ev key on p s)
@[simp] theorem level_hlc (ev key : Nat) (on : Bool) (p : List Byte) (s : State) : (level ev key on p s).hlc = s.hlc := of_quiet State.hlc (fun _ => rfl) (quiet_level ev key on p s)
@[simp] theorem level_can (ev key : Nat) (on : Bool) (p : List Byte) (s : State) : (level ev key on p s).can = s.can := of_quiet State.can (fun _ => rfl) (quiet_level ev key on p s)
@[simp] theorem level_earth (ev key : Nat) (on : Bool) (p : List Byte) (s : State) : (level ev key on p s).earth = s.earth := of_quiet State.earth (fun _ => rfl) (quiet_level ev key on p s)
@[simp] theorem level_earthDev (ev key : Nat) (on : Bool) (p : List Byte) (s : State) : (level ev key on p s).earthDev = s.earthDev := of_quiet State.earthDev (fun _ => rfl) (quiet_level ev key on p s)
@[simp] theorem level_safe (ev key : Nat) (on : Bool) (p : List Byte) (s : State) : (level ev key on p s).safe = s.safe := of_quiet State.safe (fun _ => rfl) (quiet_level ev key on p s)
@[simp] theorem level_safeDev (ev key : Nat) (on : Bool) (p : List Byte) (s : State) : (level ev key on p s).safeDev = s.safeDev := of_quiet State.safeDev (fun _ => rfl) (quiet_level ev key on p s)
@[simp] theorem level_nvCh (ev key : Nat) (on : Bool) (p : List Byte) (s : State) : (level ev key on p s).nvCh = s.nvCh := of_quiet State.nvCh (fun _ => rfl) (quiet_level ev key on p s)
@[simp] theorem level_sw (ev key : Nat) (on : Bool) (p : List Byte) (s : State) : (level ev key on p s).sw = s.sw := of_quiet State.sw (fun _ => rfl) (quiet_level ev key on p s)
@[simp] theorem level_lists (ev key : Nat) (on : Bool) (p : List Byte) (s : State) : (level ev key on p s).lists = s.lists := of_quiet State.lists (fun _ => rfl) (quiet_level ev key on p s)
@[simp] theorem level_rdr (ev key : Nat) (on : Bool) (p : List Byte) (s : State) : (level ev key on p s).rdr = s.rdr := of_quiet State.rdr (fun _ => rfl) (quiet_level ev key on p s)
@[simp] theorem level_fst (ev key : Nat) (on : Bool) (p : List Byte) (s : State) : (level ev key on p s).fst = s.fst := of_quiet State.fst (fun _ => rfl) (quiet_level ev key on p s)
@[simp] theorem level_nvFst (ev key : Nat) (on : Bool) (p : List Byte) (s : State) : (level ev key on p s).nvFst = s.nvFst := of_quiet State.nvFst (fun _ => rfl) (quiet_level ev key on p s)
@[simp] theorem level_tdr (ev key : Nat) (on : Bool) (p : List Byte) (s : State) : (level ev key on p s).tdr = s.tdr := of_quiet State.tdr (fun _ => rfl) (quiet_level ev key on p s)
@[simp] theorem level_nvDsp (ev key : Nat) (on : Bool) (p : List Byte) (s : State) : (level ev key on p s).nvDsp = s.nvDsp := of_quiet State.nvDsp (fun _ => rfl) (quiet_level ev key on p s)
@[simp] theorem level_dsp (ev key : Nat) (on : Bool) (p : List Byte) (s : State) : (level ev key on p s).dsp = s.dsp := of_quiet State.dsp (fun _ => rfl) (quiet_level ev key on p s)
@[simp] theorem level_nvKey (ev key : Nat) (on : Bool) (p : List Byte) (s : State) : (level ev key on p s).nvKey = s.nvKey := of_quiet State.nvKey (fun _ => rfl) (quiet_level ev key on p s)
@[simp] theorem level_key (ev key : Nat) (on : Bool) (p : List Byte) (s : State) : (level ev key on p s).key = s.key := of_quiet State.key (fun _ => rfl) (quiet_level ev key on p s)
@[simp] theorem level_upd (ev key : Nat) (on : Bool) (p : List Byte) (s : State) : (level ev key on p s).upd = s.upd := of_quiet State.upd (fun _ => rfl) (quiet_level ev key on p s)
@[simp] theorem level_led_bootCnt (ev key : Nat) (on : Bool) (p : List Byte) (s : State) : (level ev key on p s).led.bootCnt = s.led.bootCnt := of_quiet (fun t => t.led.bootCnt) (fun _ => rfl) (quiet_level ev key on p s)
@[simp] theorem level_led_nxt (ev key : Nat) (on : Bool) (p : List Byte) (s : State) : (level ev key on p s).led.nxt = s.led.nxt := of_quiet (fun t => t.led.nxt) (fun _ => rfl) (quiet_level ev key on p s)
@[simp] theorem level_led_acked (ev key : Nat) (on : Bool) (p : List Byte) (s : State) : (level ev key on p s).led.acked = s.led.acked := of_quiet (fun t => t.led.acked) (fun _ => rfl) (quiet_level ev key on p s)
@[simp] theorem level_led_chain (ev key : Nat) (on : Bool) (p : List Byte) (s : State) : (level ev key on p s).led.chain = s.led.chain := of_quiet (fun t => t.led.chain) (fun _ => rfl) (quiet_level ev key on p s)
@[simp] theorem level_led_daily (ev key : Nat) (on : Bool) (p : List Byte) (s : State) : (level ev key on p s).led.daily = s.led.daily := of_quiet (fun t => t.led.daily) (fun _ => rfl) (quiet_level ev key on p s)
@[simp] theorem level_led_dailyNext (ev key : Nat) (on : Bool) (p : List Byte) (s : State) : (level ev key on p s).led.dailyNext = s.led.dailyNext := of_quiet (fun t => t.led.dailyNext) (fun _ => rfl) (quiet_level ev key on p s)
@[simp] theorem level_led_profile (ev key : Nat) (on : Bool) (p : List Byte) (s : State) : (level ev key on p s).led.profile = s.led.profile := of_quiet (fun t => t.led.profile) (fun _ => rfl) (quiet_level ev key on p s)
@[simp] theorem level_led_sesNo (ev key : Nat) (on : Bool) (p : List Byte) (s : State) : (level ev key on p s).led.sesNo = s.led.sesNo := of_quiet (fun t => t.led.sesNo) (fun _ => rfl) (quiet_level ev key on p s)
@[simp] theorem level_led_fenceNo (ev key : Nat) (on : Bool) (p : List Byte) (s : State) : (level ev key on p s).led.fenceNo = s.led.fenceNo := of_quiet (fun t => t.led.fenceNo) (fun _ => rfl) (quiet_level ev key on p s)
@[simp] theorem level_led_overwritten (ev key : Nat) (on : Bool) (p : List Byte) (s : State) : (level ev key on p s).led.overwritten = s.led.overwritten := of_quiet (fun t => t.led.overwritten) (fun _ => rfl) (quiet_level ev key on p s)
@[simp] theorem level_p100_m (ev key : Nat) (on : Bool) (p : List Byte) (s : State) : (level ev key on p s).p100.m = s.p100.m := of_quiet (fun t => t.p100.m) (fun _ => rfl) (quiet_level ev key on p s)
@[simp] theorem level_p100_sess (ev key : Nat) (on : Bool) (p : List Byte) (s : State) : (level ev key on p s).p100.sess = s.p100.sess := of_quiet (fun t => t.p100.sess) (fun _ => rfl) (quiet_level ev key on p s)
@[simp] theorem level_p100_lastFired (ev key : Nat) (on : Bool) (p : List Byte) (s : State) : (level ev key on p s).p100.lastFired = s.p100.lastFired := of_quiet (fun t => t.p100.lastFired) (fun _ => rfl) (quiet_level ev key on p s)
@[simp] theorem level_p100_overwrite (ev key : Nat) (on : Bool) (p : List Byte) (s : State) : (level ev key on p s).p100.overwrite = s.p100.overwrite := of_quiet (fun t => t.p100.overwrite) (fun _ => rfl) (quiet_level ev key on p s)
@[simp] theorem level_p100_perOpen (ev key : Nat) (on : Bool) (p : List Byte) (s : State) : (level ev key on p s).p100.perOpen = s.p100.perOpen := of_quiet (fun t => t.p100.perOpen) (fun _ => rfl) (quiet_level ev key on p s)
@[simp] theorem level_p100_day (ev key : Nat) (on : Bool) (p : List Byte) (s : State) : (level ev key on p s).p100.day = s.p100.day := of_quiet (fun t => t.p100.day) (fun _ => rfl) (quiet_level ev key on p s)

end Sys2Proof.Laws
end

