-- ==== Sys2Proof/Laws/Port.lean ====
section
/-!
SUPPORT. Everything the wake, the port's bookkeeping and the reception of a packet can do: `drowsy` erases from a state what a wake
changes, `offPort` what the port itself keeps; `command_cases` names the ways a packet can end.
-/

namespace Sys2Proof.Laws

open Sys2Proof Sys2Proof.Machine

/-! ## Wake (R443) -/

/-- The state without what a change of the power state changes: the power state itself, the offsets to be measured again, and
the events. -/
def drowsy (s : State) : State :=
  quiet { s with
    pwr := { s.pwr with pstate := .run, allowedSince := none, aTask := true }
    earth := Vector.replicate 8 {} }

@[simp] theorem drowsy_pulse (ev : Nat) (p : List Byte) (s : State) : drowsy (pulse ev p s) = drowsy s :=
  of_quiet drowsy (fun _ => rfl) (quiet_pulse ev p s)

@[simp] theorem drowsy_goPstate (st : PState) (src : Nat) (s : State) : drowsy (goPstate st src s) = drowsy s := by
  unfold goPstate
  split
  · rfl
  · exact drowsy_pulse _ _ _

@[simp] theorem drowsy_wake (src : Nat) (s : State) : drowsy (wake src s) = drowsy s := by
  unfold wake
  split
  · rfl
  · exact drowsy_goPstate _ _ _

/-- What `drowsy` does not erase is the same in two states that agree when drowsy. -/
theorem of_drowsy {α : Type} (f : State → α) (hf : ∀ u, f (drowsy u) = f u) {s t : State} (h : drowsy t = drowsy s) : f t = f s := by
  rw [← hf t, h, hf s]

/-- A device in RUN is not changed by a wake. -/
theorem wake_of_run (src : Nat) (s : State) (h : s.pwr.pstate = .run) : wake src s = s := by simp [wake, h]

/-! ## The port's own bookkeeping (R366, R378) -/

/-- The state without what the port itself keeps: its replies, kept and running commands and counters, and the proven grants a
displaced source loses (R417). -/
def offPort (s : State) : State := { s with port := {}, key := { s.key with grants := [] } }

/-- What `offPort` does not erase is the same in two states that agree without the port. -/
theorem of_offPort {α : Type} (f : State → α) (hf : ∀ u, f (offPort u) = f u) {s t : State} (h : offPort t = offPort s) : f t = f s := by
  rw [← hf t, h, hf s]

@[simp] theorem offPort_emit (x : Frame) (s : State) : offPort (emit x s) = offPort s := rfl

@[simp] theorem offPort_sendReply (r : Reply) (s : State) : offPort (sendReply r s) = offPort s := by
  unfold sendReply
  split <;> rfl

@[simp] theorem offPort_checkFail (p : Pkt) (op status : Nat) (s : State) : offPort (checkFail p op status s) = offPort s := by
  unfold checkFail
  split
  · rfl
  · exact offPort_sendReply _ _

@[simp] theorem offPort_rxDrop (s : State) : offPort (rxDrop s) = offPort s := rfl

@[simp] theorem offPort_keep (k : Kept) (s : State) : offPort (keep k s) = offPort s := rfl

@[simp] theorem offPort_takeCmd (p : Pkt) (op : Nat) (s : State) : offPort (takeCmd p op s) = offPort s := rfl

@[simp] theorem offPort_keepReply (f : Flight) (r : Reply) (s : State) : offPort (keepReply f r s) = offPort s := by
  unfold keepReply
  dsimp only
  split <;> rfl

@[simp] theorem offPort_refusePkt (p : Pkt) (s : State) : offPort (refusePkt p s) = offPort s := by
  unfold refusePkt
  split <;> rfl

@[simp] theorem offPort_answerRepeat (k : Kept) (p : Pkt) (op : Nat) (s : State) : offPort (answerRepeat k p op s) = offPort s := by
  unfold answerRepeat
  split
  · simp
  · split
    · simp
    · split <;> simp

/-- Completing a command changes nothing but the port. -/
@[simp] theorem offPort_complete (f : Flight) (status : Nat) (pl : List Byte) (s : State) : offPort (complete f status pl s) = offPort s := by
  have h : ∀ r, offPort (keepReply f r (dropFlight f s)) = offPort s := fun r => offPort_keepReply _ _ _
  unfold complete
  split
  · dsimp only
    split
    · exact h _
    · rw [offPort_sendReply]; exact h _
  · rfl

@[simp] theorem offPort_finish (f : Flight) (pl : List Byte) (s : State) : offPort (finish f pl s) = offPort s := offPort_complete _ _ _ _

/-! ## A packet reaches the port (R366, R377) -/

/-- The ways a packet ends: at most the port changes, with or without the wake; or its command starts on the state that counts
it; or the command is held behind a fence or an earlier command. -/
theorem command_cases (op : Nat) (body : Flight → State → CmdOut) (p : Pkt) (s : State) :
    offPort (command op body p s) = offPort s ∨ offPort (command op body p s) = offPort (wake 0 s) ∨
    (keptOf (wake 0 s) p = none ∧ startable (takeCmd p op (wake 0 s)) (newFlight (wake 0 s) p op) = true ∧
      command op body p s = startCmd (newFlight (wake 0 s) p op) body (takeCmd p op (wake 0 s))) := by
  unfold command
  split
  · exact .inl (offPort_refusePkt _ _)
  · split
    · exact .inl rfl
    · split
      · exact .inl (offPort_rxDrop _)
      · split
        · exact .inl (offPort_checkFail _ _ _ _)
        · dsimp only
          split
          · exact .inr (.inl (offPort_checkFail _ _ _ _))
          · split
            · exact .inr (.inl (offPort_checkFail _ _ _ _))
            · split
              · exact .inr (.inl (offPort_answerRepeat _ _ _ _))
              · rename_i hk
                split
                · exact .inr (.inl (offPort_checkFail _ _ _ _))
                · split
                  · rename_i hs
                    exact .inr (.inr ⟨hk, hs, rfl⟩)
                  · exact .inr (.inl rfl)

/-- How a started command ends, by what its own rules answer. -/
theorem startCmd_done (f : Flight) (body : Flight → State → CmdOut) (s t : State) (pl : List Byte)
    (h : body f { s with port.flights := s.port.flights ++ [f] } = .done t pl) : startCmd f body s = complete f 0 pl t := by
  unfold startCmd
  simp only [h]
  rfl

theorem startCmd_fail (f : Flight) (body : Flight → State → CmdOut) (s : State) (st : Nat)
    (h : body f { s with port.flights := s.port.flights ++ [f] } = .fail st) (hd : st ≠ 0x0301) :
    startCmd f body s = complete f st [] { s with port.flights := s.port.flights ++ [f] } := by
  unfold startCmd
  simp only [h]
  rw [if_neg (show ¬ st = stDenied from hd)]

theorem startCmd_wait (f : Flight) (body : Flight → State → CmdOut) (s t : State)
    (h : body f { s with port.flights := s.port.flights ++ [f] } = .wait t) : startCmd f body s = t := by
  unfold startCmd
  simp only [h]

/-- A command whose parameters have the right size runs its own rules; one of another size is refused (R515). -/
theorem sized_eq (n : Nat) (body : Flight → State → CmdOut) (f : Flight) (s : State) (h : f.pkt.payload.length = n) :
    sized n body f s = body f s := if_pos h

theorem sized_ne (n : Nat) (body : Flight → State → CmdOut) (f : Flight) (s : State) (h : f.pkt.payload.length ≠ n) :
    sized n body f s = .fail 0x0103 := if_neg h

theorem need_true (st : Nat) (k : CmdOut) : need true st k = k := rfl
theorem need_false (st : Nat) (k : CmdOut) : need false st k = .fail st := rfl

/-! ## Settings and persistence -/

/-- Committing copies changes the committed copies alone (R518). -/
theorem commitCopies_only (cs : List BlkCopy) (s : State) :
    commitCopies cs s = { s with blk.committed := (commitCopies cs s).blk.committed } := by
  unfold commitCopies
  induction cs generalizing s with
  | nil => rfl
  | cons c cs ih => rw [List.foldl_cons, ih]

theorem commitBlk_only (s : State) (id : Nat) : commitBlk s id = { s with blk.committed := (commitBlk s id).blk.committed } := by
  unfold commitBlk
  split <;> rfl

/-- Persisting class P100 changes the persisted copies alone (R128, R135). -/
theorem persist_only (s : State) : persist s = { s with nvBill := (persist s).nvBill } := by
  unfold persist
  dsimp only
  split <;> rfl

/-! ## The fields these operations leave alone -/

@[simp] theorem wake_pending (src : Nat) (s : State) : (wake src s).pending = s.pending := of_drowsy State.pending (fun _ => rfl) (drowsy_wake src s)
@[simp] theorem wake_member (src : Nat) (s : State) : (wake src s).member = s.member := of_drowsy State.member (fun _ => rfl) (drowsy_wake src s)
@[simp] theorem wake_clk (src : Nat) (s : State) : (wake src s).clk = s.clk := of_drowsy State.clk (fun _ => rfl) (drowsy_wake src s)
@[simp] theorem wake_tail (src : Nat) (s : State) : (wake src s).tail = s.tail := of_drowsy State.tail (fun _ => rfl) (drowsy_wake src s)
@[simp] theorem wake_blk (src : Nat) (s : State) : (wake src s).blk = s.blk := of_drowsy State.blk (fun _ => rfl) (drowsy_wake src s)
@[simp] theorem wake_port (src : Nat) (s : State) : (wake src s).port = s.port := of_drowsy State.port (fun _ => rfl) (drowsy_wake src s)
@[simp] theorem wake_mbx (src : Nat) (s : State) : (wake src s).mbx = s.mbx := of_drowsy State.mbx (fun _ => rfl) (drowsy_wake src s)
@[simp] theorem wake_fe (src : Nat) (s : State) : (wake src s).fe = s.fe := of_drowsy State.fe (fun _ => rfl) (drowsy_wake src s)
@[simp] theorem wake_nvFe (src : Nat) (s : State) : (wake src s).nvFe = s.nvFe := of_drowsy State.nvFe (fun _ => rfl) (drowsy_wake src s)
@[simp] theorem wake_filt (src : Nat) (s : State) : (wake src s).filt = s.filt := of_drowsy State.filt (fun _ => rfl) (drowsy_wake src s)
@[simp] theorem wake_en (src : Nat) (s : State) : (wake src s).en = s.en := of_drowsy State.en (fun _ => rfl) (drowsy_wake src s)
@[simp] theorem wake_pfw (src : Nat) (s : State) : (wake src s).pfw = s.pfw := of_drowsy State.pfw (fun _ => rfl) (drowsy_wake src s)
@[simp] theorem wake_nvBill (src : Nat) (s : State) : (wake src s).nvBill = s.nvBill := of_drowsy State.nvBill (fun _ => rfl) (drowsy_wake src s)
@[simp] theorem wake_bill (src : Nat) (s : State) : (wake src s).bill = s.bill := of_drowsy State.bill (fun _ => rfl) (drowsy_wake src s)
@[simp] theorem wake_nvPt (src : Nat) (s : State) : (wake src s).nvPt = s.nvPt := of_drowsy State.nvPt (fun _ => rfl) (drowsy_wake src s)
@[simp] theorem wake_nvSafe (src : Nat) (s : State) : (wake src s).nvSafe = s.nvSafe := of_drowsy State.nvSafe (fun _ => rfl) (drowsy_wake src s)
@[simp] theorem wake_pilot (src : Nat) (s : State) : (wake src s).pilot = s.pilot := of_drowsy State.pilot (fun _ => rfl) (drowsy_wake src s)
@[simp] theorem wake_sess (src : Nat) (s : State) : (wake src s).sess = s.sess := of_drowsy State.sess (fun _ => rfl) (drowsy_wake src s)
@[simp] theorem wake_hlc (src : Nat) (s : State) : (wake src s).hlc = s.hlc := of_drowsy State.hlc (fun _ => rfl) (drowsy_wake src s)
@[simp] theorem wake_can (src : Nat) (s : State) : (wake src s).can = s.can := of_drowsy State.can (fun _ => rfl) (drowsy_wake src s)
@[simp] theorem wake_earthDev (src : Nat) (s : State) : (wake src s).earthDev = s.earthDev := of_drowsy State.earthDev (fun _ => rfl) (drowsy_wake src s)
@[simp] theorem wake_safe (src : Nat) (s : State) : (wake src s).safe = s.safe := of_drowsy State.safe (fun _ => rfl) (drowsy_wake src s)
@[simp] theorem wake_safeDev (src : Nat) (s : State) : (wake src s).safeDev = s.safeDev := of_drowsy State.safeDev (fun _ => rfl) (drowsy_wake src s)
@[simp] theorem wake_nvCh (src : Nat) (s : State) : (wake src s).nvCh = s.nvCh := of_drowsy State.nvCh (fun _ => rfl) (drowsy_wake src s)
@[simp] theorem wake_sw (src : Nat) (s : State) : (wake src s).sw = s.sw := of_drowsy State.sw (fun _ => rfl) (drowsy_wake src s)
@[simp] theorem wake_lists (src : Nat) (s : State) : (wake src s).lists = s.lists := of_drowsy State.lists (fun _ => rfl) (drowsy_wake src s)
@[simp] theorem wake_rdr (src : Nat) (s : State) : (wake src s).rdr = s.rdr := of_drowsy State.rdr (fun _ => rfl) (drowsy_wake src s)
@[simp] theorem wake_fst (src : Nat) (s : State) : (wake src s).fst = s.fst := of_drowsy State.fst (fun _ => rfl) (drowsy_wake src s)
@[simp] theorem wake_nvFst (src : Nat) (s : State) : (wake src s).nvFst = s.nvFst := of_drowsy State.nvFst (fun _ => rfl) (drowsy_wake src s)
@[simp] theorem wake_tdr (src : Nat) (s : State) : (wake src s).tdr = s.tdr := of_drowsy State.tdr (fun _ => rfl) (drowsy_wake src s)
@[simp] theorem wake_nvDsp (src : Nat) (s : State) : (wake src s).nvDsp = s.nvDsp := of_drowsy State.nvDsp (fun _ => rfl) (drowsy_wake src s)
@[simp] theorem wake_dsp (src : Nat) (s : State) : (wake src s).dsp = s.dsp := of_drowsy State.dsp (fun _ => rfl) (drowsy_wake src s)
@[simp] theorem wake_nvKey (src : Nat) (s : State) : (wake src s).nvKey = s.nvKey := of_drowsy State.nvKey (fun _ => rfl) (drowsy_wake src s)
@[simp] theorem wake_key (src : Nat) (s : State) : (wake src s).key = s.key := of_drowsy State.key (fun _ => rfl) (drowsy_wake src s)
@[simp] theorem wake_upd (src : Nat) (s : State) : (wake src s).upd = s.upd := of_drowsy State.upd (fun _ => rfl) (drowsy_wake src s)

@[simp] theorem complete_pending (f : Flight) (st : Nat) (pl : List Byte) (s : State) : (complete f st pl s).pending = s.pending := of_offPort State.pending (fun _ => rfl) (offPort_complete f st pl s)
@[simp] theorem complete_member (f : Flight) (st : Nat) (pl : List Byte) (s : State) : (complete f st pl s).member = s.member := of_offPort State.member (fun _ => rfl) (offPort_complete f st pl s)
@[simp] theorem complete_clk (f : Flight) (st : Nat) (pl : List Byte) (s : State) : (complete f st pl s).clk = s.clk := of_offPort State.clk (fun _ => rfl) (offPort_complete f st pl s)
@[simp] theorem complete_pwr (f : Flight) (st : Nat) (pl : List Byte) (s : State) : (complete f st pl s).pwr = s.pwr := of_offPort State.pwr (fun _ => rfl) (offPort_complete f st pl s)
@[simp] theorem complete_tail (f : Flight) (st : Nat) (pl : List Byte) (s : State) : (complete f st pl s).tail = s.tail := of_offPort State.tail (fun _ => rfl) (offPort_complete f st pl s)
@[simp] theorem complete_blk (f : Flight) (st : Nat) (pl : List Byte) (s : State) : (complete f st pl s).blk = s.blk := of_offPort State.blk (fun _ => rfl) (offPort_complete f st pl s)
@[simp] theorem complete_ev (f : Flight) (st : Nat) (pl : List Byte) (s : State) : (complete f st pl s).ev = s.ev := of_offPort State.ev (fun _ => rfl) (offPort_complete f st pl s)
@[simp] theorem complete_mbx (f : Flight) (st : Nat) (pl : List Byte) (s : State) : (complete f st pl s).mbx = s.mbx := of_offPort State.mbx (fun _ => rfl) (offPort_complete f st pl s)
@[simp] theorem complete_fe (f : Flight) (st : Nat) (pl : List Byte) (s : State) : (complete f st pl s).fe = s.fe := of_offPort State.fe (fun _ => rfl) (offPort_complete f st pl s)
@[simp] theorem complete_nvFe (f : Flight) (st : Nat) (pl : List Byte) (s : State) : (complete f st pl s).nvFe = s.nvFe := of_offPort State.nvFe (fun _ => rfl) (offPort_complete f st pl s)
@[simp] theorem complete_filt (f : Flight) (st : Nat) (pl : List Byte) (s : State) : (complete f st pl s).filt = s.filt := of_offPort State.filt (fun _ => rfl) (offPort_complete f st pl s)
@[simp] theorem complete_en (f : Flight) (st : Nat) (pl : List Byte) (s : State) : (complete f st pl s).en = s.en := of_offPort State.en (fun _ => rfl) (offPort_complete f st pl s)
@[simp] theorem complete_p100 (f : Flight) (st : Nat) (pl : List Byte) (s : State) : (complete f st pl s).p100 = s.p100 := of_offPort State.p100 (fun _ => rfl) (offPort_complete f st pl s)
@[simp] theorem complete_pfw (f : Flight) (st : Nat) (pl : List Byte) (s : State) : (complete f st pl s).pfw = s.pfw := of_offPort State.pfw (fun _ => rfl) (offPort_complete f st pl s)
@[simp] theorem complete_nvBill (f : Flight) (st : Nat) (pl : List Byte) (s : State) : (complete f st pl s).nvBill = s.nvBill := of_offPort State.nvBill (fun _ => rfl) (offPort_complete f st pl s)
@[simp] theorem complete_bill (f : Flight) (st : Nat) (pl : List Byte) (s : State) : (complete f st pl s).bill = s.bill := of_offPort State.bill (fun _ => rfl) (offPort_complete f st pl s)
@[simp] theorem complete_led (f : Flight) (st : Nat) (pl : List Byte) (s : State) : (complete f st pl s).led = s.led := of_offPort State.led (fun _ => rfl) (offPort_complete f st pl s)
@[simp] theorem complete_nvPt (f : Flight) (st : Nat) (pl : List Byte) (s : State) : (complete f st pl s).nvPt = s.nvPt := of_offPort State.nvPt (fun _ => rfl) (offPort_complete f st pl s)
@[simp] theorem complete_nvSafe (f : Flight) (st : Nat) (pl : List Byte) (s : State) : (complete f st pl s).nvSafe = s.nvSafe := of_offPort State.nvSafe (fun _ => rfl) (offPort_complete f st pl s)
@[simp] theorem complete_pilot (f : Flight) (st : Nat) (pl : List Byte) (s : State) : (complete f st pl s).pilot = s.pilot := of_offPort State.pilot (fun _ => rfl) (offPort_complete f st pl s)
@[simp] theorem complete_sess (f : Flight) (st : Nat) (pl : List Byte) (s : State) : (complete f st pl s).sess = s.sess := of_offPort State.sess (fun _ => rfl) (offPort_complete f st pl s)
@[simp] theorem complete_hlc (f : Flight) (st : Nat) (pl : List Byte) (s : State) : (complete f st pl s).hlc = s.hlc := of_offPort State.hlc (fun _ => rfl) (offPort_complete f st pl s)
@[simp] theorem complete_can (f : Flight) (st : Nat) (pl : List Byte) (s : State) : (complete f st pl s).can = s.can := of_offPort State.can (fun _ => rfl) (offPort_complete f st pl s)
@[simp] theorem complete_earth (f : Flight) (st : Nat) (pl : List Byte) (s : State) : (complete f st pl s).earth = s.earth := of_offPort State.earth (fun _ => rfl) (offPort_complete f st pl s)
@[simp] theorem complete_earthDev (f : Flight) (st : Nat) (pl : List Byte) (s : State) : (complete f st pl s).earthDev = s.earthDev := of_offPort State.earthDev (fun _ => rfl) (offPort_complete f st pl s)
@[simp] theorem complete_safe (f : Flight) (st : Nat) (pl : List Byte) (s : State) : (complete f st pl s).safe = s.safe := of_offPort State.safe (fun _ => rfl) (offPort_complete f st pl s)
@[simp] theorem complete_safeDev (f : Flight) (st : Nat) (pl : List Byte) (s : State) : (complete f st pl s).safeDev = s.safeDev := of_offPort State.safeDev (fun _ => rfl) (offPort_complete f st pl s)
@[simp] theorem complete_nvCh (f : Flight) (st : Nat) (pl : List Byte) (s : State) : (complete f st pl s).nvCh = s.nvCh := of_offPort State.nvCh (fun _ => rfl) (offPort_complete f st pl s)
@[simp] theorem complete_sw (f : Flight) (st : Nat) (pl : List Byte) (s : State) : (complete f st pl s).sw = s.sw := of_offPort State.sw (fun _ => rfl) (offPort_complete f st pl s)
@[simp] theorem complete_lists (f : Flight) (st : Nat) (pl : List Byte) (s : State) : (complete f st pl s).lists = s.lists := of_offPort State.lists (fun _ => rfl) (offPort_complete f st pl s)
@[simp] theorem complete_rdr (f : Flight) (st : Nat) (pl : List Byte) (s : State) : (complete f st pl s).rdr = s.rdr := of_offPort State.rdr (fun _ => rfl) (offPort_complete f st pl s)
@[simp] theorem complete_fst (f : Flight) (st : Nat) (pl : List Byte) (s : State) : (complete f st pl s).fst = s.fst := of_offPort State.fst (fun _ => rfl) (offPort_complete f st pl s)
@[simp] theorem complete_nvFst (f : Flight) (st : Nat) (pl : List Byte) (s : State) : (complete f st pl s).nvFst = s.nvFst := of_offPort State.nvFst (fun _ => rfl) (offPort_complete f st pl s)
@[simp] theorem complete_tdr (f : Flight) (st : Nat) (pl : List Byte) (s : State) : (complete f st pl s).tdr = s.tdr := of_offPort State.tdr (fun _ => rfl) (offPort_complete f st pl s)
@[simp] theorem complete_nvDsp (f : Flight) (st : Nat) (pl : List Byte) (s : State) : (complete f st pl s).nvDsp = s.nvDsp := of_offPort State.nvDsp (fun _ => rfl) (offPort_complete f st pl s)
@[simp] theorem complete_dsp (f : Flight) (st : Nat) (pl : List Byte) (s : State) : (complete f st pl s).dsp = s.dsp := of_offPort State.dsp (fun _ => rfl) (offPort_complete f st pl s)
@[simp] theorem complete_nvKey (f : Flight) (st : Nat) (pl : List Byte) (s : State) : (complete f st pl s).nvKey = s.nvKey := of_offPort State.nvKey (fun _ => rfl) (offPort_complete f st pl s)
@[simp] theorem complete_upd (f : Flight) (st : Nat) (pl : List Byte) (s : State) : (complete f st pl s).upd = s.upd := of_offPort State.upd (fun _ => rfl) (offPort_complete f st pl s)

@[simp] theorem checkFail_pending (p : Pkt) (op st : Nat) (s : State) : (checkFail p op st s).pending = s.pending := of_offPort State.pending (fun _ => rfl) (offPort_checkFail p op st s)
@[simp] theorem checkFail_member (p : Pkt) (op st : Nat) (s : State) : (checkFail p op st s).member = s.member := of_offPort State.member (fun _ => rfl) (offPort_checkFail p op st s)
@[simp] theorem checkFail_clk (p : Pkt) (op st : Nat) (s : State) : (checkFail p op st s).clk = s.clk := of_offPort State.clk (fun _ => rfl) (offPort_checkFail p op st s)
@[simp] theorem checkFail_pwr (p : Pkt) (op st : Nat) (s : State) : (checkFail p op st s).pwr = s.pwr := of_offPort State.pwr (fun _ => rfl) (offPort_checkFail p op st s)
@[simp] theorem checkFail_tail (p : Pkt) (op st : Nat) (s : State) : (checkFail p op st s).tail = s.tail := of_offPort State.tail (fun _ => rfl) (offPort_checkFail p op st s)
@[simp] theorem checkFail_blk (p : Pkt) (op st : Nat) (s : State) : (checkFail p op st s).blk = s.blk := of_offPort State.blk (fun _ => rfl) (offPort_checkFail p op st s)
@[simp] theorem checkFail_ev (p : Pkt) (op st : Nat) (s : State) : (checkFail p op st s).ev = s.ev := of_offPort State.ev (fun _ => rfl) (offPort_checkFail p op st s)
@[simp] theorem checkFail_mbx (p : Pkt) (op st : Nat) (s : State) : (checkFail p op st s).mbx = s.mbx := of_offPort State.mbx (fun _ => rfl) (offPort_checkFail p op st s)
@[simp] theorem checkFail_fe (p : Pkt) (op st : Nat) (s : State) : (checkFail p op st s).fe = s.fe := of_offPort State.fe (fun _ => rfl) (offPort_checkFail p op st s)
@[simp] theorem checkFail_nvFe (p : Pkt) (op st : Nat) (s : State) : (checkFail p op st s).nvFe = s.nvFe := of_offPort State.nvFe (fun _ => rfl) (offPort_checkFail p op st s)
@[simp] theorem checkFail_filt (p : Pkt) (op st : Nat) (s : State) : (checkFail p op st s).filt = s.filt := of_offPort State.filt (fun _ => rfl) (offPort_checkFail p op st s)
@[simp] theorem checkFail_en (p : Pkt) (op st : Nat) (s : State) : (checkFail p op st s).en = s.en := of_offPort State.en (fun _ => rfl) (offPort_checkFail p op st s)
@[simp] theorem checkFail_p100 (p : Pkt) (op st : Nat) (s : State) : (checkFail p op st s).p100 = s.p100 := of_offPort State.p100 (fun _ => rfl) (offPort_checkFail p op st s)
@[simp] theorem checkFail_pfw (p : Pkt) (op st : Nat) (s : State) : (checkFail p op st s).pfw = s.pfw := of_offPort State.pfw (fun _ => rfl) (offPort_checkFail p op st s)
@[simp] theorem checkFail_nvBill (p : Pkt) (op st : Nat) (s : State) : (checkFail p op st s).nvBill = s.nvBill := of_offPort State.nvBill (fun _ => rfl) (offPort_checkFail p op st s)
@[simp] theorem checkFail_bill (p : Pkt) (op st : Nat) (s : State) : (checkFail p op st s).bill = s.bill := of_offPort State.bill (fun _ => rfl) (offPort_checkFail p op st s)
@[simp] theorem checkFail_led (p : Pkt) (op st : Nat) (s : State) : (checkFail p op st s).led = s.led := of_offPort State.led (fun _ => rfl) (offPort_checkFail p op st s)
@[simp] theorem checkFail_nvPt (p : Pkt) (op st : Nat) (s : State) : (checkFail p op st s).nvPt = s.nvPt := of_offPort State.nvPt (fun _ => rfl) (offPort_checkFail p op st s)
@[simp] theorem checkFail_nvSafe (p : Pkt) (op st : Nat) (s : State) : (checkFail p op st s).nvSafe = s.nvSafe := of_offPort State.nvSafe (fun _ => rfl) (offPort_checkFail p op st s)
@[simp] theorem checkFail_pilot (p : Pkt) (op st : Nat) (s : State) : (checkFail p op st s).pilot = s.pilot := of_offPort State.pilot (fun _ => rfl) (offPort_checkFail p op st s)
@[simp] theorem checkFail_sess (p : Pkt) (op st : Nat) (s : State) : (checkFail p op st s).sess = s.sess := of_offPort State.sess (fun _ => rfl) (offPort_checkFail p op st s)
@[simp] theorem checkFail_hlc (p : Pkt) (op st : Nat) (s : State) : (checkFail p op st s).hlc = s.hlc := of_offPort State.hlc (fun _ => rfl) (offPort_checkFail p op st s)
@[simp] theorem checkFail_can (p : Pkt) (op st : Nat) (s : State) : (checkFail p op st s).can = s.can := of_offPort State.can (fun _ => rfl) (offPort_checkFail p op st s)
@[simp] theorem checkFail_earth (p : Pkt) (op st : Nat) (s : State) : (checkFail p op st s).earth = s.earth := of_offPort State.earth (fun _ => rfl) (offPort_checkFail p op st s)
@[simp] theorem checkFail_earthDev (p : Pkt) (op st : Nat) (s : State) : (checkFail p op st s).earthDev = s.earthDev := of_offPort State.earthDev (fun _ => rfl) (offPort_checkFail p op st s)
@[simp] theorem checkFail_safe (p : Pkt) (op st : Nat) (s : State) : (checkFail p op st s).safe = s.safe := of_offPort State.safe (fun _ => rfl) (offPort_checkFail p op st s)
@[simp] theorem checkFail_safeDev (p : Pkt) (op st : Nat) (s : State) : (checkFail p op st s).safeDev = s.safeDev := of_offPort State.safeDev (fun _ => rfl) (offPort_checkFail p op st s)
@[simp] theorem checkFail_nvCh (p : Pkt) (op st : Nat) (s : State) : (checkFail p op st s).nvCh = s.nvCh := of_offPort State.nvCh (fun _ => rfl) (offPort_checkFail p op st s)
@[simp] theorem checkFail_sw (p : Pkt) (op st : Nat) (s : State) : (checkFail p op st s).sw = s.sw := of_offPort State.sw (fun _ => rfl) (offPort_checkFail p op st s)
@[simp] theorem checkFail_lists (p : Pkt) (op st : Nat) (s : State) : (checkFail p op st s).lists = s.lists := of_offPort State.lists (fun _ => rfl) (offPort_checkFail p op st s)
@[simp] theorem checkFail_rdr (p : Pkt) (op st : Nat) (s : State) : (checkFail p op st s).rdr = s.rdr := of_offPort State.rdr (fun _ => rfl) (offPort_checkFail p op st s)
@[simp] theorem checkFail_fst (p : Pkt) (op st : Nat) (s : State) : (checkFail p op st s).fst = s.fst := of_offPort State.fst (fun _ => rfl) (offPort_checkFail p op st s)
@[simp] theorem checkFail_nvFst (p : Pkt) (op st : Nat) (s : State) : (checkFail p op st s).nvFst = s.nvFst := of_offPort State.nvFst (fun _ => rfl) (offPort_checkFail p op st s)
@[simp] theorem checkFail_tdr (p : Pkt) (op st : Nat) (s : State) : (checkFail p op st s).tdr = s.tdr := of_offPort State.tdr (fun _ => rfl) (offPort_checkFail p op st s)
@[simp] theorem checkFail_nvDsp (p : Pkt) (op st : Nat) (s : State) : (checkFail p op st s).nvDsp = s.nvDsp := of_offPort State.nvDsp (fun _ => rfl) (offPort_checkFail p op st s)
@[simp] theorem checkFail_dsp (p : Pkt) (op st : Nat) (s : State) : (checkFail p op st s).dsp = s.dsp := of_offPort State.dsp (fun _ => rfl) (offPort_checkFail p op st s)
@[simp] theorem checkFail_nvKey (p : Pkt) (op st : Nat) (s : State) : (checkFail p op st s).nvKey = s.nvKey := of_offPort State.nvKey (fun _ => rfl) (offPort_checkFail p op st s)
@[simp] theorem checkFail_upd (p : Pkt) (op st : Nat) (s : State) : (checkFail p op st s).upd = s.upd := of_offPort State.upd (fun _ => rfl) (offPort_checkFail p op st s)

@[simp] theorem takeCmd_pending (p : Pkt) (op : Nat) (s : State) : (takeCmd p op s).pending = s.pending := of_offPort State.pending (fun _ => rfl) (offPort_takeCmd p op s)
@[simp] theorem takeCmd_member (p : Pkt) (op : Nat) (s : State) : (takeCmd p op s).member = s.member := of_offPort State.member (fun _ => rfl) (offPort_takeCmd p op s)
@[simp] theorem takeCmd_clk (p : Pkt) (op : Nat) (s : State) : (takeCmd p op s).clk = s.clk := of_offPort State.clk (fun _ => rfl) (offPort_takeCmd p op s)
@[simp] theorem takeCmd_pwr (p : Pkt) (op : Nat) (s : State) : (takeCmd p op s).pwr = s.pwr := of_offPort State.pwr (fun _ => rfl) (offPort_takeCmd p op s)
@[simp] theorem takeCmd_tail (p : Pkt) (op : Nat) (s : State) : (takeCmd p op s).tail = s.tail := of_offPort State.tail (fun _ => rfl) (offPort_takeCmd p op s)
@[simp] theorem takeCmd_blk (p : Pkt) (op : Nat) (s : State) : (takeCmd p op s).blk = s.blk := of_offPort State.blk (fun _ => rfl) (offPort_takeCmd p op s)
@[simp] theorem takeCmd_ev (p : Pkt) (op : Nat) (s : State) : (takeCmd p op s).ev = s.ev := of_offPort State.ev (fun _ => rfl) (offPort_takeCmd p op s)
@[simp] theorem takeCmd_mbx (p : Pkt) (op : Nat) (s : State) : (takeCmd p op s).mbx = s.mbx := of_offPort State.mbx (fun _ => rfl) (offPort_takeCmd p op s)
@[simp] theorem takeCmd_fe (p : Pkt) (op : Nat) (s : State) : (takeCmd p op s).fe = s.fe := of_offPort State.fe (fun _ => rfl) (offPort_takeCmd p op s)
@[simp] theorem takeCmd_nvFe (p : Pkt) (op : Nat) (s : State) : (takeCmd p op s).nvFe = s.nvFe := of_offPort State.nvFe (fun _ => rfl) (offPort_takeCmd p op s)
@[simp] theorem takeCmd_filt (p : Pkt) (op : Nat) (s : State) : (takeCmd p op s).filt = s.filt := of_offPort State.filt (fun _ => rfl) (offPort_takeCmd p op s)
@[simp] theorem takeCmd_en (p : Pkt) (op : Nat) (s : State) : (takeCmd p op s).en = s.en := of_offPort State.en (fun _ => rfl) (offPort_takeCmd p op s)
@[simp] theorem takeCmd_p100 (p : Pkt) (op : Nat) (s : State) : (takeCmd p op s).p100 = s.p100 := of_offPort State.p100 (fun _ => rfl) (offPort_takeCmd p op s)
@[simp] theorem takeCmd_pfw (p : Pkt) (op : Nat) (s : State) : (takeCmd p op s).pfw = s.pfw := of_offPort State.pfw (fun _ => rfl) (offPort_takeCmd p op s)
@[simp] theorem takeCmd_nvBill (p : Pkt) (op : Nat) (s : State) : (takeCmd p op s).nvBill = s.nvBill := of_offPort State.nvBill (fun _ => rfl) (offPort_takeCmd p op s)
@[simp] theorem takeCmd_bill (p : Pkt) (op : Nat) (s : State) : (takeCmd p op s).bill = s.bill := of_offPort State.bill (fun _ => rfl) (offPort_takeCmd p op s)
@[simp] theorem takeCmd_led (p : Pkt) (op : Nat) (s : State) : (takeCmd p op s).led = s.led := of_offPort State.led (fun _ => rfl) (offPort_takeCmd p op s)
@[simp] theorem takeCmd_nvPt (p : Pkt) (op : Nat) (s : State) : (takeCmd p op s).nvPt = s.nvPt := of_offPort State.nvPt (fun _ => rfl) (offPort_takeCmd p op s)
@[simp] theorem takeCmd_nvSafe (p : Pkt) (op : Nat) (s : State) : (takeCmd p op s).nvSafe = s.nvSafe := of_offPort State.nvSafe (fun _ => rfl) (offPort_takeCmd p op s)
@[simp] theorem takeCmd_pilot (p : Pkt) (op : Nat) (s : State) : (takeCmd p op s).pilot = s.pilot := of_offPort State.pilot (fun _ => rfl) (offPort_takeCmd p op s)
@[simp] theorem takeCmd_sess (p : Pkt) (op : Nat) (s : State) : (takeCmd p op s).sess = s.sess := of_offPort State.sess (fun _ => rfl) (offPort_takeCmd p op s)
@[simp] theorem takeCmd_hlc (p : Pkt) (op : Nat) (s : State) : (takeCmd p op s).hlc = s.hlc := of_offPort State.hlc (fun _ => rfl) (offPort_takeCmd p op s)
@[simp] theorem takeCmd_can (p : Pkt) (op : Nat) (s : State) : (takeCmd p op s).can = s.can := of_offPort State.can (fun _ => rfl) (offPort_takeCmd p op s)
@[simp] theorem takeCmd_earth (p : Pkt) (op : Nat) (s : State) : (takeCmd p op s).earth = s.earth := of_offPort State.earth (fun _ => rfl) (offPort_takeCmd p op s)
@[simp] theorem takeCmd_earthDev (p : Pkt) (op : Nat) (s : State) : (takeCmd p op s).earthDev = s.earthDev := of_offPort State.earthDev (fun _ => rfl) (offPort_takeCmd p op s)
@[simp] theorem takeCmd_safe (p : Pkt) (op : Nat) (s : State) : (takeCmd p op s).safe = s.safe := of_offPort State.safe (fun _ => rfl) (offPort_takeCmd p op s)
@[simp] theorem takeCmd_safeDev (p : Pkt) (op : Nat) (s : State) : (takeCmd p op s).safeDev = s.safeDev := of_offPort State.safeDev (fun _ => rfl) (offPort_takeCmd p op s)
@[simp] theorem takeCmd_nvCh (p : Pkt) (op : Nat) (s : State) : (takeCmd p op s).nvCh = s.nvCh := of_offPort State.nvCh (fun _ => rfl) (offPort_takeCmd p op s)
@[simp] theorem takeCmd_sw (p : Pkt) (op : Nat) (s : State) : (takeCmd p op s).sw = s.sw := of_offPort State.sw (fun _ => rfl) (offPort_takeCmd p op s)
@[simp] theorem takeCmd_lists (p : Pkt) (op : Nat) (s : State) : (takeCmd p op s).lists = s.lists := of_offPort State.lists (fun _ => rfl) (offPort_takeCmd p op s)
@[simp] theorem takeCmd_rdr (p : Pkt) (op : Nat) (s : State) : (takeCmd p op s).rdr = s.rdr := of_offPort State.rdr (fun _ => rfl) (offPort_takeCmd p op s)
@[simp] theorem takeCmd_fst (p : Pkt) (op : Nat) (s : State) : (takeCmd p op s).fst = s.fst := of_offPort State.fst (fun _ => rfl) (offPort_takeCmd p op s)
@[simp] theorem takeCmd_nvFst (p : Pkt) (op : Nat) (s : State) : (takeCmd p op s).nvFst = s.nvFst := of_offPort State.nvFst (fun _ => rfl) (offPort_takeCmd p op s)
@[simp] theorem takeCmd_tdr (p : Pkt) (op : Nat) (s : State) : (takeCmd p op s).tdr = s.tdr := of_offPort State.tdr (fun _ => rfl) (offPort_takeCmd p op s)
@[simp] theorem takeCmd_nvDsp (p : Pkt) (op : Nat) (s : State) : (takeCmd p op s).nvDsp = s.nvDsp := of_offPort State.nvDsp (fun _ => rfl) (offPort_takeCmd p op s)
@[simp] theorem takeCmd_dsp (p : Pkt) (op : Nat) (s : State) : (takeCmd p op s).dsp = s.dsp := of_offPort State.dsp (fun _ => rfl) (offPort_takeCmd p op s)
@[simp] theorem takeCmd_nvKey (p : Pkt) (op : Nat) (s : State) : (takeCmd p op s).nvKey = s.nvKey := of_offPort State.nvKey (fun _ => rfl) (offPort_takeCmd p op s)
@[simp] theorem takeCmd_upd (p : Pkt) (op : Nat) (s : State) : (takeCmd p op s).upd = s.upd := of_offPort State.upd (fun _ => rfl) (offPort_takeCmd p op s)

@[simp] theorem persist_pending (s : State) : (persist s).pending = s.pending := by rw [persist_only]
@[simp] theorem persist_member (s : State) : (persist s).member = s.member := by rw [persist_only]
@[simp] theorem persist_clk (s : State) : (persist s).clk = s.clk := by rw [persist_only]
@[simp] theorem persist_pwr (s : State) : (persist s).pwr = s.pwr := by rw [persist_only]
@[simp] theorem persist_tail (s : State) : (persist s).tail = s.tail := by rw [persist_only]
@[simp] theorem persist_blk (s : State) : (persist s).blk = s.blk := by rw [persist_only]
@[simp] theorem persist_port (s : State) : (persist s).port = s.port := by rw [persist_only]
@[simp] theorem persist_ev (s : State) : (persist s).ev = s.ev := by rw [persist_only]
@[simp] theorem persist_mbx (s : State) : (persist s).mbx = s.mbx := by rw [persist_only]
@[simp] theorem persist_fe (s : State) : (persist s).fe = s.fe := by rw [persist_only]
@[simp] theorem persist_nvFe (s : State) : (persist s).nvFe = s.nvFe := by rw [persist_only]
@[simp] theorem persist_filt (s : State) : (persist s).filt = s.filt := by rw [persist_only]
@[simp] theorem persist_en (s : State) : (persist s).en = s.en := by rw [persist_only]
@[simp] theorem persist_p100 (s : State) : (persist s).p100 = s.p100 := by rw [persist_only]
@[simp] theorem persist_pfw (s : State) : (persist s).pfw = s.pfw := by rw [persist_only]
@[simp] theorem persist_bill (s : State) : (persist s).bill = s.bill := by rw [persist_only]
@[simp] theorem persist_led (s : State) : (persist s).led = s.led := by rw [persist_only]
@[simp] theorem persist_nvPt (s : State) : (persist s).nvPt = s.nvPt := by rw [persist_only]
@[simp] theorem persist_nvSafe (s : State) : (persist s).nvSafe = s.nvSafe := by rw [persist_only]
@[simp] theorem persist_pilot (s : State) : (persist s).pilot = s.pilot := by rw [persist_only]
@[simp] theorem persist_sess (s : State) : (persist s).sess = s.sess := by rw [persist_only]
@[simp] theorem persist_hlc (s : State) : (persist s).hlc = s.hlc := by rw [persist_only]
@[simp] theorem persist_can (s : State) : (persist s).can = s.can := by rw [persist_only]
@[simp] theorem persist_earth (s : State) : (persist s).earth = s.earth := by rw [persist_only]
@[simp] theorem persist_earthDev (s : State) : (persist s).earthDev = s.earthDev := by rw [persist_only]
@[simp] theorem persist_safe (s : State) : (persist s).safe = s.safe := by rw [persist_only]
@[simp] theorem persist_safeDev (s : State) : (persist s).safeDev = s.safeDev := by rw [persist_only]
@[simp] theorem persist_nvCh (s : State) : (persist s).nvCh = s.nvCh := by rw [persist_only]
@[simp] theorem persist_sw (s : State) : (persist s).sw = s.sw := by rw [persist_only]
@[simp] theorem persist_lists (s : State) : (persist s).lists = s.lists := by rw [persist_only]
@[simp] theorem persist_rdr (s : State) : (persist s).rdr = s.rdr := by rw [persist_only]
@[simp] theorem persist_fst (s : State) : (persist s).fst = s.fst := by rw [persist_only]
@[simp] theorem persist_nvFst (s : State) : (persist s).nvFst = s.nvFst := by rw [persist_only]
@[simp] theorem persist_tdr (s : State) : (persist s).tdr = s.tdr := by rw [persist_only]
@[simp] theorem persist_nvDsp (s : State) : (persist s).nvDsp = s.nvDsp := by rw [persist_only]
@[simp] theorem persist_dsp (s : State) : (persist s).dsp = s.dsp := by rw [persist_only]
@[simp] theorem persist_nvKey (s : State) : (persist s).nvKey = s.nvKey := by rw [persist_only]
@[simp] theorem persist_key (s : State) : (persist s).key = s.key := by rw [persist_only]
@[simp] theorem persist_upd (s : State) : (persist s).upd = s.upd := by rw [persist_only]

/-- A wake leaves the life phase and the supplies as they are (R443). -/
@[simp] theorem wake_pwr_phase (src : Nat) (s : State) : (wake src s).pwr.phase = s.pwr.phase := of_drowsy (fun t => t.pwr.phase) (fun _ => rfl) (drowsy_wake src s)
@[simp] theorem wake_pwr_vsysValid (src : Nat) (s : State) : (wake src s).pwr.vsysValid = s.pwr.vsysValid := of_drowsy (fun t => t.pwr.vsysValid) (fun _ => rfl) (drowsy_wake src s)
@[simp] theorem wake_pwr_addr (src : Nat) (s : State) : (wake src s).pwr.addr = s.pwr.addr := of_drowsy (fun t => t.pwr.addr) (fun _ => rfl) (drowsy_wake src s)
@[simp] theorem wake_pwr_optLoaded (src : Nat) (s : State) : (wake src s).pwr.optLoaded = s.pwr.optLoaded := of_drowsy (fun t => t.pwr.optLoaded) (fun _ => rfl) (drowsy_wake src s)

end Sys2Proof.Laws
end

