-- ==== Sys2Proof/Laws/State.lean ====
section
/-!
SUPPORT. What each update of one part of the state leaves of every field: one lemma for each field and update, so that no proof
unfolds a record update.
-/

namespace Sys2Proof.Laws

open Sys2Proof Sys2Proof.Machine

/-! ## slewTo -/

@[simp] theorem slewTo_pending (target : Nat) (s : State) : (slewTo target s).pending = s.pending := rfl
@[simp] theorem slewTo_member (target : Nat) (s : State) : (slewTo target s).member = s.member := rfl
@[simp] theorem slewTo_clk (target : Nat) (s : State) : (slewTo target s).clk = { s.clk with slew := (target : Int) - now s, slewAcc := 0 } := rfl
@[simp] theorem slewTo_pwr (target : Nat) (s : State) : (slewTo target s).pwr = s.pwr := rfl
@[simp] theorem slewTo_tail (target : Nat) (s : State) : (slewTo target s).tail = s.tail := rfl
@[simp] theorem slewTo_blk (target : Nat) (s : State) : (slewTo target s).blk = s.blk := rfl
@[simp] theorem slewTo_port (target : Nat) (s : State) : (slewTo target s).port = s.port := rfl
@[simp] theorem slewTo_ev (target : Nat) (s : State) : (slewTo target s).ev = s.ev := rfl
@[simp] theorem slewTo_mbx (target : Nat) (s : State) : (slewTo target s).mbx = s.mbx := rfl
@[simp] theorem slewTo_fe (target : Nat) (s : State) : (slewTo target s).fe = s.fe := rfl
@[simp] theorem slewTo_nvFe (target : Nat) (s : State) : (slewTo target s).nvFe = s.nvFe := rfl
@[simp] theorem slewTo_filt (target : Nat) (s : State) : (slewTo target s).filt = s.filt := rfl
@[simp] theorem slewTo_en (target : Nat) (s : State) : (slewTo target s).en = s.en := rfl
@[simp] theorem slewTo_p100 (target : Nat) (s : State) : (slewTo target s).p100 = s.p100 := rfl
@[simp] theorem slewTo_pfw (target : Nat) (s : State) : (slewTo target s).pfw = s.pfw := rfl
@[simp] theorem slewTo_nvBill (target : Nat) (s : State) : (slewTo target s).nvBill = s.nvBill := rfl
@[simp] theorem slewTo_bill (target : Nat) (s : State) : (slewTo target s).bill = s.bill := rfl
@[simp] theorem slewTo_led (target : Nat) (s : State) : (slewTo target s).led = s.led := rfl
@[simp] theorem slewTo_nvPt (target : Nat) (s : State) : (slewTo target s).nvPt = s.nvPt := rfl
@[simp] theorem slewTo_nvSafe (target : Nat) (s : State) : (slewTo target s).nvSafe = s.nvSafe := rfl
@[simp] theorem slewTo_pilot (target : Nat) (s : State) : (slewTo target s).pilot = s.pilot := rfl
@[simp] theorem slewTo_sess (target : Nat) (s : State) : (slewTo target s).sess = s.sess := rfl
@[simp] theorem slewTo_hlc (target : Nat) (s : State) : (slewTo target s).hlc = s.hlc := rfl
@[simp] theorem slewTo_can (target : Nat) (s : State) : (slewTo target s).can = s.can := rfl
@[simp] theorem slewTo_earth (target : Nat) (s : State) : (slewTo target s).earth = s.earth := rfl
@[simp] theorem slewTo_earthDev (target : Nat) (s : State) : (slewTo target s).earthDev = s.earthDev := rfl
@[simp] theorem slewTo_safe (target : Nat) (s : State) : (slewTo target s).safe = s.safe := rfl
@[simp] theorem slewTo_safeDev (target : Nat) (s : State) : (slewTo target s).safeDev = s.safeDev := rfl
@[simp] theorem slewTo_nvCh (target : Nat) (s : State) : (slewTo target s).nvCh = s.nvCh := rfl
@[simp] theorem slewTo_sw (target : Nat) (s : State) : (slewTo target s).sw = s.sw := rfl
@[simp] theorem slewTo_lists (target : Nat) (s : State) : (slewTo target s).lists = s.lists := rfl
@[simp] theorem slewTo_rdr (target : Nat) (s : State) : (slewTo target s).rdr = s.rdr := rfl
@[simp] theorem slewTo_fst (target : Nat) (s : State) : (slewTo target s).fst = s.fst := rfl
@[simp] theorem slewTo_nvFst (target : Nat) (s : State) : (slewTo target s).nvFst = s.nvFst := rfl
@[simp] theorem slewTo_tdr (target : Nat) (s : State) : (slewTo target s).tdr = s.tdr := rfl
@[simp] theorem slewTo_nvDsp (target : Nat) (s : State) : (slewTo target s).nvDsp = s.nvDsp := rfl
@[simp] theorem slewTo_dsp (target : Nat) (s : State) : (slewTo target s).dsp = s.dsp := rfl
@[simp] theorem slewTo_nvKey (target : Nat) (s : State) : (slewTo target s).nvKey = s.nvKey := rfl
@[simp] theorem slewTo_key (target : Nat) (s : State) : (slewTo target s).key = s.key := rfl
@[simp] theorem slewTo_upd (target : Nat) (s : State) : (slewTo target s).upd = s.upd := rfl

/-! ## modCan -/

@[simp] theorem modCan_pending (f : Fin 24) (g : CanFrm → CanFrm) (s : State) : (modCan f g s).pending = s.pending := rfl
@[simp] theorem modCan_member (f : Fin 24) (g : CanFrm → CanFrm) (s : State) : (modCan f g s).member = s.member := rfl
@[simp] theorem modCan_clk (f : Fin 24) (g : CanFrm → CanFrm) (s : State) : (modCan f g s).clk = s.clk := rfl
@[simp] theorem modCan_pwr (f : Fin 24) (g : CanFrm → CanFrm) (s : State) : (modCan f g s).pwr = s.pwr := rfl
@[simp] theorem modCan_tail (f : Fin 24) (g : CanFrm → CanFrm) (s : State) : (modCan f g s).tail = s.tail := rfl
@[simp] theorem modCan_blk (f : Fin 24) (g : CanFrm → CanFrm) (s : State) : (modCan f g s).blk = s.blk := rfl
@[simp] theorem modCan_port (f : Fin 24) (g : CanFrm → CanFrm) (s : State) : (modCan f g s).port = s.port := rfl
@[simp] theorem modCan_ev (f : Fin 24) (g : CanFrm → CanFrm) (s : State) : (modCan f g s).ev = s.ev := rfl
@[simp] theorem modCan_mbx (f : Fin 24) (g : CanFrm → CanFrm) (s : State) : (modCan f g s).mbx = s.mbx := rfl
@[simp] theorem modCan_fe (f : Fin 24) (g : CanFrm → CanFrm) (s : State) : (modCan f g s).fe = s.fe := rfl
@[simp] theorem modCan_nvFe (f : Fin 24) (g : CanFrm → CanFrm) (s : State) : (modCan f g s).nvFe = s.nvFe := rfl
@[simp] theorem modCan_filt (f : Fin 24) (g : CanFrm → CanFrm) (s : State) : (modCan f g s).filt = s.filt := rfl
@[simp] theorem modCan_en (f : Fin 24) (g : CanFrm → CanFrm) (s : State) : (modCan f g s).en = s.en := rfl
@[simp] theorem modCan_p100 (f : Fin 24) (g : CanFrm → CanFrm) (s : State) : (modCan f g s).p100 = s.p100 := rfl
@[simp] theorem modCan_pfw (f : Fin 24) (g : CanFrm → CanFrm) (s : State) : (modCan f g s).pfw = s.pfw := rfl
@[simp] theorem modCan_nvBill (f : Fin 24) (g : CanFrm → CanFrm) (s : State) : (modCan f g s).nvBill = s.nvBill := rfl
@[simp] theorem modCan_bill (f : Fin 24) (g : CanFrm → CanFrm) (s : State) : (modCan f g s).bill = s.bill := rfl
@[simp] theorem modCan_led (f : Fin 24) (g : CanFrm → CanFrm) (s : State) : (modCan f g s).led = s.led := rfl
@[simp] theorem modCan_nvPt (f : Fin 24) (g : CanFrm → CanFrm) (s : State) : (modCan f g s).nvPt = s.nvPt := rfl
@[simp] theorem modCan_nvSafe (f : Fin 24) (g : CanFrm → CanFrm) (s : State) : (modCan f g s).nvSafe = s.nvSafe := rfl
@[simp] theorem modCan_pilot (f : Fin 24) (g : CanFrm → CanFrm) (s : State) : (modCan f g s).pilot = s.pilot := rfl
@[simp] theorem modCan_sess (f : Fin 24) (g : CanFrm → CanFrm) (s : State) : (modCan f g s).sess = s.sess := rfl
@[simp] theorem modCan_hlc (f : Fin 24) (g : CanFrm → CanFrm) (s : State) : (modCan f g s).hlc = s.hlc := rfl
@[simp] theorem modCan_can (f : Fin 24) (g : CanFrm → CanFrm) (s : State) : (modCan f g s).can = vmod s.can f g := rfl
@[simp] theorem modCan_earth (f : Fin 24) (g : CanFrm → CanFrm) (s : State) : (modCan f g s).earth = s.earth := rfl
@[simp] theorem modCan_earthDev (f : Fin 24) (g : CanFrm → CanFrm) (s : State) : (modCan f g s).earthDev = s.earthDev := rfl
@[simp] theorem modCan_safe (f : Fin 24) (g : CanFrm → CanFrm) (s : State) : (modCan f g s).safe = s.safe := rfl
@[simp] theorem modCan_safeDev (f : Fin 24) (g : CanFrm → CanFrm) (s : State) : (modCan f g s).safeDev = s.safeDev := rfl
@[simp] theorem modCan_nvCh (f : Fin 24) (g : CanFrm → CanFrm) (s : State) : (modCan f g s).nvCh = s.nvCh := rfl
@[simp] theorem modCan_sw (f : Fin 24) (g : CanFrm → CanFrm) (s : State) : (modCan f g s).sw = s.sw := rfl
@[simp] theorem modCan_lists (f : Fin 24) (g : CanFrm → CanFrm) (s : State) : (modCan f g s).lists = s.lists := rfl
@[simp] theorem modCan_rdr (f : Fin 24) (g : CanFrm → CanFrm) (s : State) : (modCan f g s).rdr = s.rdr := rfl
@[simp] theorem modCan_fst (f : Fin 24) (g : CanFrm → CanFrm) (s : State) : (modCan f g s).fst = s.fst := rfl
@[simp] theorem modCan_nvFst (f : Fin 24) (g : CanFrm → CanFrm) (s : State) : (modCan f g s).nvFst = s.nvFst := rfl
@[simp] theorem modCan_tdr (f : Fin 24) (g : CanFrm → CanFrm) (s : State) : (modCan f g s).tdr = s.tdr := rfl
@[simp] theorem modCan_nvDsp (f : Fin 24) (g : CanFrm → CanFrm) (s : State) : (modCan f g s).nvDsp = s.nvDsp := rfl
@[simp] theorem modCan_dsp (f : Fin 24) (g : CanFrm → CanFrm) (s : State) : (modCan f g s).dsp = s.dsp := rfl
@[simp] theorem modCan_nvKey (f : Fin 24) (g : CanFrm → CanFrm) (s : State) : (modCan f g s).nvKey = s.nvKey := rfl
@[simp] theorem modCan_key (f : Fin 24) (g : CanFrm → CanFrm) (s : State) : (modCan f g s).key = s.key := rfl
@[simp] theorem modCan_upd (f : Fin 24) (g : CanFrm → CanFrm) (s : State) : (modCan f g s).upd = s.upd := rfl

/-! ## modDsp -/

@[simp] theorem modDsp_pending (f : Disp → Disp) (s : State) : (modDsp f s).pending = s.pending := rfl
@[simp] theorem modDsp_member (f : Disp → Disp) (s : State) : (modDsp f s).member = s.member := rfl
@[simp] theorem modDsp_clk (f : Disp → Disp) (s : State) : (modDsp f s).clk = s.clk := rfl
@[simp] theorem modDsp_pwr (f : Disp → Disp) (s : State) : (modDsp f s).pwr = s.pwr := rfl
@[simp] theorem modDsp_tail (f : Disp → Disp) (s : State) : (modDsp f s).tail = s.tail := rfl
@[simp] theorem modDsp_blk (f : Disp → Disp) (s : State) : (modDsp f s).blk = s.blk := rfl
@[simp] theorem modDsp_port (f : Disp → Disp) (s : State) : (modDsp f s).port = s.port := rfl
@[simp] theorem modDsp_ev (f : Disp → Disp) (s : State) : (modDsp f s).ev = s.ev := rfl
@[simp] theorem modDsp_mbx (f : Disp → Disp) (s : State) : (modDsp f s).mbx = s.mbx := rfl
@[simp] theorem modDsp_fe (f : Disp → Disp) (s : State) : (modDsp f s).fe = s.fe := rfl
@[simp] theorem modDsp_nvFe (f : Disp → Disp) (s : State) : (modDsp f s).nvFe = s.nvFe := rfl
@[simp] theorem modDsp_filt (f : Disp → Disp) (s : State) : (modDsp f s).filt = s.filt := rfl
@[simp] theorem modDsp_en (f : Disp → Disp) (s : State) : (modDsp f s).en = s.en := rfl
@[simp] theorem modDsp_p100 (f : Disp → Disp) (s : State) : (modDsp f s).p100 = s.p100 := rfl
@[simp] theorem modDsp_pfw (f : Disp → Disp) (s : State) : (modDsp f s).pfw = s.pfw := rfl
@[simp] theorem modDsp_nvBill (f : Disp → Disp) (s : State) : (modDsp f s).nvBill = s.nvBill := rfl
@[simp] theorem modDsp_bill (f : Disp → Disp) (s : State) : (modDsp f s).bill = s.bill := rfl
@[simp] theorem modDsp_led (f : Disp → Disp) (s : State) : (modDsp f s).led = s.led := rfl
@[simp] theorem modDsp_nvPt (f : Disp → Disp) (s : State) : (modDsp f s).nvPt = s.nvPt := rfl
@[simp] theorem modDsp_nvSafe (f : Disp → Disp) (s : State) : (modDsp f s).nvSafe = s.nvSafe := rfl
@[simp] theorem modDsp_pilot (f : Disp → Disp) (s : State) : (modDsp f s).pilot = s.pilot := rfl
@[simp] theorem modDsp_sess (f : Disp → Disp) (s : State) : (modDsp f s).sess = s.sess := rfl
@[simp] theorem modDsp_hlc (f : Disp → Disp) (s : State) : (modDsp f s).hlc = s.hlc := rfl
@[simp] theorem modDsp_can (f : Disp → Disp) (s : State) : (modDsp f s).can = s.can := rfl
@[simp] theorem modDsp_earth (f : Disp → Disp) (s : State) : (modDsp f s).earth = s.earth := rfl
@[simp] theorem modDsp_earthDev (f : Disp → Disp) (s : State) : (modDsp f s).earthDev = s.earthDev := rfl
@[simp] theorem modDsp_safe (f : Disp → Disp) (s : State) : (modDsp f s).safe = s.safe := rfl
@[simp] theorem modDsp_safeDev (f : Disp → Disp) (s : State) : (modDsp f s).safeDev = s.safeDev := rfl
@[simp] theorem modDsp_nvCh (f : Disp → Disp) (s : State) : (modDsp f s).nvCh = s.nvCh := rfl
@[simp] theorem modDsp_sw (f : Disp → Disp) (s : State) : (modDsp f s).sw = s.sw := rfl
@[simp] theorem modDsp_lists (f : Disp → Disp) (s : State) : (modDsp f s).lists = s.lists := rfl
@[simp] theorem modDsp_rdr (f : Disp → Disp) (s : State) : (modDsp f s).rdr = s.rdr := rfl
@[simp] theorem modDsp_fst (f : Disp → Disp) (s : State) : (modDsp f s).fst = s.fst := rfl
@[simp] theorem modDsp_nvFst (f : Disp → Disp) (s : State) : (modDsp f s).nvFst = s.nvFst := rfl
@[simp] theorem modDsp_tdr (f : Disp → Disp) (s : State) : (modDsp f s).tdr = s.tdr := rfl
@[simp] theorem modDsp_nvDsp (f : Disp → Disp) (s : State) : (modDsp f s).nvDsp = s.nvDsp := rfl
@[simp] theorem modDsp_dsp (f : Disp → Disp) (s : State) : (modDsp f s).dsp = f s.dsp := rfl
@[simp] theorem modDsp_nvKey (f : Disp → Disp) (s : State) : (modDsp f s).nvKey = s.nvKey := rfl
@[simp] theorem modDsp_key (f : Disp → Disp) (s : State) : (modDsp f s).key = s.key := rfl
@[simp] theorem modDsp_upd (f : Disp → Disp) (s : State) : (modDsp f s).upd = s.upd := rfl

/-! ## modNvDsp -/

@[simp] theorem modNvDsp_pending (f : NvDisp → NvDisp) (s : State) : (modNvDsp f s).pending = s.pending := rfl
@[simp] theorem modNvDsp_member (f : NvDisp → NvDisp) (s : State) : (modNvDsp f s).member = s.member := rfl
@[simp] theorem modNvDsp_clk (f : NvDisp → NvDisp) (s : State) : (modNvDsp f s).clk = s.clk := rfl
@[simp] theorem modNvDsp_pwr (f : NvDisp → NvDisp) (s : State) : (modNvDsp f s).pwr = s.pwr := rfl
@[simp] theorem modNvDsp_tail (f : NvDisp → NvDisp) (s : State) : (modNvDsp f s).tail = s.tail := rfl
@[simp] theorem modNvDsp_blk (f : NvDisp → NvDisp) (s : State) : (modNvDsp f s).blk = s.blk := rfl
@[simp] theorem modNvDsp_port (f : NvDisp → NvDisp) (s : State) : (modNvDsp f s).port = s.port := rfl
@[simp] theorem modNvDsp_ev (f : NvDisp → NvDisp) (s : State) : (modNvDsp f s).ev = s.ev := rfl
@[simp] theorem modNvDsp_mbx (f : NvDisp → NvDisp) (s : State) : (modNvDsp f s).mbx = s.mbx := rfl
@[simp] theorem modNvDsp_fe (f : NvDisp → NvDisp) (s : State) : (modNvDsp f s).fe = s.fe := rfl
@[simp] theorem modNvDsp_nvFe (f : NvDisp → NvDisp) (s : State) : (modNvDsp f s).nvFe = s.nvFe := rfl
@[simp] theorem modNvDsp_filt (f : NvDisp → NvDisp) (s : State) : (modNvDsp f s).filt = s.filt := rfl
@[simp] theorem modNvDsp_en (f : NvDisp → NvDisp) (s : State) : (modNvDsp f s).en = s.en := rfl
@[simp] theorem modNvDsp_p100 (f : NvDisp → NvDisp) (s : State) : (modNvDsp f s).p100 = s.p100 := rfl
@[simp] theorem modNvDsp_pfw (f : NvDisp → NvDisp) (s : State) : (modNvDsp f s).pfw = s.pfw := rfl
@[simp] theorem modNvDsp_nvBill (f : NvDisp → NvDisp) (s : State) : (modNvDsp f s).nvBill = s.nvBill := rfl
@[simp] theorem modNvDsp_bill (f : NvDisp → NvDisp) (s : State) : (modNvDsp f s).bill = s.bill := rfl
@[simp] theorem modNvDsp_led (f : NvDisp → NvDisp) (s : State) : (modNvDsp f s).led = s.led := rfl
@[simp] theorem modNvDsp_nvPt (f : NvDisp → NvDisp) (s : State) : (modNvDsp f s).nvPt = s.nvPt := rfl
@[simp] theorem modNvDsp_nvSafe (f : NvDisp → NvDisp) (s : State) : (modNvDsp f s).nvSafe = s.nvSafe := rfl
@[simp] theorem modNvDsp_pilot (f : NvDisp → NvDisp) (s : State) : (modNvDsp f s).pilot = s.pilot := rfl
@[simp] theorem modNvDsp_sess (f : NvDisp → NvDisp) (s : State) : (modNvDsp f s).sess = s.sess := rfl
@[simp] theorem modNvDsp_hlc (f : NvDisp → NvDisp) (s : State) : (modNvDsp f s).hlc = s.hlc := rfl
@[simp] theorem modNvDsp_can (f : NvDisp → NvDisp) (s : State) : (modNvDsp f s).can = s.can := rfl
@[simp] theorem modNvDsp_earth (f : NvDisp → NvDisp) (s : State) : (modNvDsp f s).earth = s.earth := rfl
@[simp] theorem modNvDsp_earthDev (f : NvDisp → NvDisp) (s : State) : (modNvDsp f s).earthDev = s.earthDev := rfl
@[simp] theorem modNvDsp_safe (f : NvDisp → NvDisp) (s : State) : (modNvDsp f s).safe = s.safe := rfl
@[simp] theorem modNvDsp_safeDev (f : NvDisp → NvDisp) (s : State) : (modNvDsp f s).safeDev = s.safeDev := rfl
@[simp] theorem modNvDsp_nvCh (f : NvDisp → NvDisp) (s : State) : (modNvDsp f s).nvCh = s.nvCh := rfl
@[simp] theorem modNvDsp_sw (f : NvDisp → NvDisp) (s : State) : (modNvDsp f s).sw = s.sw := rfl
@[simp] theorem modNvDsp_lists (f : NvDisp → NvDisp) (s : State) : (modNvDsp f s).lists = s.lists := rfl
@[simp] theorem modNvDsp_rdr (f : NvDisp → NvDisp) (s : State) : (modNvDsp f s).rdr = s.rdr := rfl
@[simp] theorem modNvDsp_fst (f : NvDisp → NvDisp) (s : State) : (modNvDsp f s).fst = s.fst := rfl
@[simp] theorem modNvDsp_nvFst (f : NvDisp → NvDisp) (s : State) : (modNvDsp f s).nvFst = s.nvFst := rfl
@[simp] theorem modNvDsp_tdr (f : NvDisp → NvDisp) (s : State) : (modNvDsp f s).tdr = s.tdr := rfl
@[simp] theorem modNvDsp_nvDsp (f : NvDisp → NvDisp) (s : State) : (modNvDsp f s).nvDsp = f s.nvDsp := rfl
@[simp] theorem modNvDsp_dsp (f : NvDisp → NvDisp) (s : State) : (modNvDsp f s).dsp = s.dsp := rfl
@[simp] theorem modNvDsp_nvKey (f : NvDisp → NvDisp) (s : State) : (modNvDsp f s).nvKey = s.nvKey := rfl
@[simp] theorem modNvDsp_key (f : NvDisp → NvDisp) (s : State) : (modNvDsp f s).key = s.key := rfl
@[simp] theorem modNvDsp_upd (f : NvDisp → NvDisp) (s : State) : (modNvDsp f s).upd = s.upd := rfl

/-! ## modEd -/

@[simp] theorem modEd_pending (f : EarthDev → EarthDev) (s : State) : (modEd f s).pending = s.pending := rfl
@[simp] theorem modEd_member (f : EarthDev → EarthDev) (s : State) : (modEd f s).member = s.member := rfl
@[simp] theorem modEd_clk (f : EarthDev → EarthDev) (s : State) : (modEd f s).clk = s.clk := rfl
@[simp] theorem modEd_pwr (f : EarthDev → EarthDev) (s : State) : (modEd f s).pwr = s.pwr := rfl
@[simp] theorem modEd_tail (f : EarthDev → EarthDev) (s : State) : (modEd f s).tail = s.tail := rfl
@[simp] theorem modEd_blk (f : EarthDev → EarthDev) (s : State) : (modEd f s).blk = s.blk := rfl
@[simp] theorem modEd_port (f : EarthDev → EarthDev) (s : State) : (modEd f s).port = s.port := rfl
@[simp] theorem modEd_ev (f : EarthDev → EarthDev) (s : State) : (modEd f s).ev = s.ev := rfl
@[simp] theorem modEd_mbx (f : EarthDev → EarthDev) (s : State) : (modEd f s).mbx = s.mbx := rfl
@[simp] theorem modEd_fe (f : EarthDev → EarthDev) (s : State) : (modEd f s).fe = s.fe := rfl
@[simp] theorem modEd_nvFe (f : EarthDev → EarthDev) (s : State) : (modEd f s).nvFe = s.nvFe := rfl
@[simp] theorem modEd_filt (f : EarthDev → EarthDev) (s : State) : (modEd f s).filt = s.filt := rfl
@[simp] theorem modEd_en (f : EarthDev → EarthDev) (s : State) : (modEd f s).en = s.en := rfl
@[simp] theorem modEd_p100 (f : EarthDev → EarthDev) (s : State) : (modEd f s).p100 = s.p100 := rfl
@[simp] theorem modEd_pfw (f : EarthDev → EarthDev) (s : State) : (modEd f s).pfw = s.pfw := rfl
@[simp] theorem modEd_nvBill (f : EarthDev → EarthDev) (s : State) : (modEd f s).nvBill = s.nvBill := rfl
@[simp] theorem modEd_bill (f : EarthDev → EarthDev) (s : State) : (modEd f s).bill = s.bill := rfl
@[simp] theorem modEd_led (f : EarthDev → EarthDev) (s : State) : (modEd f s).led = s.led := rfl
@[simp] theorem modEd_nvPt (f : EarthDev → EarthDev) (s : State) : (modEd f s).nvPt = s.nvPt := rfl
@[simp] theorem modEd_nvSafe (f : EarthDev → EarthDev) (s : State) : (modEd f s).nvSafe = s.nvSafe := rfl
@[simp] theorem modEd_pilot (f : EarthDev → EarthDev) (s : State) : (modEd f s).pilot = s.pilot := rfl
@[simp] theorem modEd_sess (f : EarthDev → EarthDev) (s : State) : (modEd f s).sess = s.sess := rfl
@[simp] theorem modEd_hlc (f : EarthDev → EarthDev) (s : State) : (modEd f s).hlc = s.hlc := rfl
@[simp] theorem modEd_can (f : EarthDev → EarthDev) (s : State) : (modEd f s).can = s.can := rfl
@[simp] theorem modEd_earth (f : EarthDev → EarthDev) (s : State) : (modEd f s).earth = s.earth := rfl
@[simp] theorem modEd_earthDev (f : EarthDev → EarthDev) (s : State) : (modEd f s).earthDev = f s.earthDev := rfl
@[simp] theorem modEd_safe (f : EarthDev → EarthDev) (s : State) : (modEd f s).safe = s.safe := rfl
@[simp] theorem modEd_safeDev (f : EarthDev → EarthDev) (s : State) : (modEd f s).safeDev = s.safeDev := rfl
@[simp] theorem modEd_nvCh (f : EarthDev → EarthDev) (s : State) : (modEd f s).nvCh = s.nvCh := rfl
@[simp] theorem modEd_sw (f : EarthDev → EarthDev) (s : State) : (modEd f s).sw = s.sw := rfl
@[simp] theorem modEd_lists (f : EarthDev → EarthDev) (s : State) : (modEd f s).lists = s.lists := rfl
@[simp] theorem modEd_rdr (f : EarthDev → EarthDev) (s : State) : (modEd f s).rdr = s.rdr := rfl
@[simp] theorem modEd_fst (f : EarthDev → EarthDev) (s : State) : (modEd f s).fst = s.fst := rfl
@[simp] theorem modEd_nvFst (f : EarthDev → EarthDev) (s : State) : (modEd f s).nvFst = s.nvFst := rfl
@[simp] theorem modEd_tdr (f : EarthDev → EarthDev) (s : State) : (modEd f s).tdr = s.tdr := rfl
@[simp] theorem modEd_nvDsp (f : EarthDev → EarthDev) (s : State) : (modEd f s).nvDsp = s.nvDsp := rfl
@[simp] theorem modEd_dsp (f : EarthDev → EarthDev) (s : State) : (modEd f s).dsp = s.dsp := rfl
@[simp] theorem modEd_nvKey (f : EarthDev → EarthDev) (s : State) : (modEd f s).nvKey = s.nvKey := rfl
@[simp] theorem modEd_key (f : EarthDev → EarthDev) (s : State) : (modEd f s).key = s.key := rfl
@[simp] theorem modEd_upd (f : EarthDev → EarthDev) (s : State) : (modEd f s).upd = s.upd := rfl

/-! ## modDet -/

@[simp] theorem modDet_pending (i : Nat) (f : Det → Det) (s : State) : (modDet i f s).pending = s.pending := rfl
@[simp] theorem modDet_member (i : Nat) (f : Det → Det) (s : State) : (modDet i f s).member = s.member := rfl
@[simp] theorem modDet_clk (i : Nat) (f : Det → Det) (s : State) : (modDet i f s).clk = s.clk := rfl
@[simp] theorem modDet_pwr (i : Nat) (f : Det → Det) (s : State) : (modDet i f s).pwr = s.pwr := rfl
@[simp] theorem modDet_tail (i : Nat) (f : Det → Det) (s : State) : (modDet i f s).tail = s.tail := rfl
@[simp] theorem modDet_blk (i : Nat) (f : Det → Det) (s : State) : (modDet i f s).blk = s.blk := rfl
@[simp] theorem modDet_port (i : Nat) (f : Det → Det) (s : State) : (modDet i f s).port = s.port := rfl
@[simp] theorem modDet_ev (i : Nat) (f : Det → Det) (s : State) : (modDet i f s).ev = s.ev := rfl
@[simp] theorem modDet_mbx (i : Nat) (f : Det → Det) (s : State) : (modDet i f s).mbx = s.mbx := rfl
@[simp] theorem modDet_fe (i : Nat) (f : Det → Det) (s : State) : (modDet i f s).fe = s.fe := rfl
@[simp] theorem modDet_nvFe (i : Nat) (f : Det → Det) (s : State) : (modDet i f s).nvFe = s.nvFe := rfl
@[simp] theorem modDet_filt (i : Nat) (f : Det → Det) (s : State) : (modDet i f s).filt = { s.filt with det := vatMod s.filt.det i f } := rfl
@[simp] theorem modDet_en (i : Nat) (f : Det → Det) (s : State) : (modDet i f s).en = s.en := rfl
@[simp] theorem modDet_p100 (i : Nat) (f : Det → Det) (s : State) : (modDet i f s).p100 = s.p100 := rfl
@[simp] theorem modDet_pfw (i : Nat) (f : Det → Det) (s : State) : (modDet i f s).pfw = s.pfw := rfl
@[simp] theorem modDet_nvBill (i : Nat) (f : Det → Det) (s : State) : (modDet i f s).nvBill = s.nvBill := rfl
@[simp] theorem modDet_bill (i : Nat) (f : Det → Det) (s : State) : (modDet i f s).bill = s.bill := rfl
@[simp] theorem modDet_led (i : Nat) (f : Det → Det) (s : State) : (modDet i f s).led = s.led := rfl
@[simp] theorem modDet_nvPt (i : Nat) (f : Det → Det) (s : State) : (modDet i f s).nvPt = s.nvPt := rfl
@[simp] theorem modDet_nvSafe (i : Nat) (f : Det → Det) (s : State) : (modDet i f s).nvSafe = s.nvSafe := rfl
@[simp] theorem modDet_pilot (i : Nat) (f : Det → Det) (s : State) : (modDet i f s).pilot = s.pilot := rfl
@[simp] theorem modDet_sess (i : Nat) (f : Det → Det) (s : State) : (modDet i f s).sess = s.sess := rfl
@[simp] theorem modDet_hlc (i : Nat) (f : Det → Det) (s : State) : (modDet i f s).hlc = s.hlc := rfl
@[simp] theorem modDet_can (i : Nat) (f : Det → Det) (s : State) : (modDet i f s).can = s.can := rfl
@[simp] theorem modDet_earth (i : Nat) (f : Det → Det) (s : State) : (modDet i f s).earth = s.earth := rfl
@[simp] theorem modDet_earthDev (i : Nat) (f : Det → Det) (s : State) : (modDet i f s).earthDev = s.earthDev := rfl
@[simp] theorem modDet_safe (i : Nat) (f : Det → Det) (s : State) : (modDet i f s).safe = s.safe := rfl
@[simp] theorem modDet_safeDev (i : Nat) (f : Det → Det) (s : State) : (modDet i f s).safeDev = s.safeDev := rfl
@[simp] theorem modDet_nvCh (i : Nat) (f : Det → Det) (s : State) : (modDet i f s).nvCh = s.nvCh := rfl
@[simp] theorem modDet_sw (i : Nat) (f : Det → Det) (s : State) : (modDet i f s).sw = s.sw := rfl
@[simp] theorem modDet_lists (i : Nat) (f : Det → Det) (s : State) : (modDet i f s).lists = s.lists := rfl
@[simp] theorem modDet_rdr (i : Nat) (f : Det → Det) (s : State) : (modDet i f s).rdr = s.rdr := rfl
@[simp] theorem modDet_fst (i : Nat) (f : Det → Det) (s : State) : (modDet i f s).fst = s.fst := rfl
@[simp] theorem modDet_nvFst (i : Nat) (f : Det → Det) (s : State) : (modDet i f s).nvFst = s.nvFst := rfl
@[simp] theorem modDet_tdr (i : Nat) (f : Det → Det) (s : State) : (modDet i f s).tdr = s.tdr := rfl
@[simp] theorem modDet_nvDsp (i : Nat) (f : Det → Det) (s : State) : (modDet i f s).nvDsp = s.nvDsp := rfl
@[simp] theorem modDet_dsp (i : Nat) (f : Det → Det) (s : State) : (modDet i f s).dsp = s.dsp := rfl
@[simp] theorem modDet_nvKey (i : Nat) (f : Det → Det) (s : State) : (modDet i f s).nvKey = s.nvKey := rfl
@[simp] theorem modDet_key (i : Nat) (f : Det → Det) (s : State) : (modDet i f s).key = s.key := rfl
@[simp] theorem modDet_upd (i : Nat) (f : Det → Det) (s : State) : (modDet i f s).upd = s.upd := rfl

/-! ## modMod -/

@[simp] theorem modMod_pending (i : Nat) (f : Modu → Modu) (s : State) : (modMod i f s).pending = s.pending := rfl
@[simp] theorem modMod_member (i : Nat) (f : Modu → Modu) (s : State) : (modMod i f s).member = s.member := rfl
@[simp] theorem modMod_clk (i : Nat) (f : Modu → Modu) (s : State) : (modMod i f s).clk = s.clk := rfl
@[simp] theorem modMod_pwr (i : Nat) (f : Modu → Modu) (s : State) : (modMod i f s).pwr = s.pwr := rfl
@[simp] theorem modMod_tail (i : Nat) (f : Modu → Modu) (s : State) : (modMod i f s).tail = s.tail := rfl
@[simp] theorem modMod_blk (i : Nat) (f : Modu → Modu) (s : State) : (modMod i f s).blk = s.blk := rfl
@[simp] theorem modMod_port (i : Nat) (f : Modu → Modu) (s : State) : (modMod i f s).port = s.port := rfl
@[simp] theorem modMod_ev (i : Nat) (f : Modu → Modu) (s : State) : (modMod i f s).ev = s.ev := rfl
@[simp] theorem modMod_mbx (i : Nat) (f : Modu → Modu) (s : State) : (modMod i f s).mbx = s.mbx := rfl
@[simp] theorem modMod_fe (i : Nat) (f : Modu → Modu) (s : State) : (modMod i f s).fe = { s.fe with mods := vatMod s.fe.mods i f } := rfl
@[simp] theorem modMod_nvFe (i : Nat) (f : Modu → Modu) (s : State) : (modMod i f s).nvFe = s.nvFe := rfl
@[simp] theorem modMod_filt (i : Nat) (f : Modu → Modu) (s : State) : (modMod i f s).filt = s.filt := rfl
@[simp] theorem modMod_en (i : Nat) (f : Modu → Modu) (s : State) : (modMod i f s).en = s.en := rfl
@[simp] theorem modMod_p100 (i : Nat) (f : Modu → Modu) (s : State) : (modMod i f s).p100 = s.p100 := rfl
@[simp] theorem modMod_pfw (i : Nat) (f : Modu → Modu) (s : State) : (modMod i f s).pfw = s.pfw := rfl
@[simp] theorem modMod_nvBill (i : Nat) (f : Modu → Modu) (s : State) : (modMod i f s).nvBill = s.nvBill := rfl
@[simp] theorem modMod_bill (i : Nat) (f : Modu → Modu) (s : State) : (modMod i f s).bill = s.bill := rfl
@[simp] theorem modMod_led (i : Nat) (f : Modu → Modu) (s : State) : (modMod i f s).led = s.led := rfl
@[simp] theorem modMod_nvPt (i : Nat) (f : Modu → Modu) (s : State) : (modMod i f s).nvPt = s.nvPt := rfl
@[simp] theorem modMod_nvSafe (i : Nat) (f : Modu → Modu) (s : State) : (modMod i f s).nvSafe = s.nvSafe := rfl
@[simp] theorem modMod_pilot (i : Nat) (f : Modu → Modu) (s : State) : (modMod i f s).pilot = s.pilot := rfl
@[simp] theorem modMod_sess (i : Nat) (f : Modu → Modu) (s : State) : (modMod i f s).sess = s.sess := rfl
@[simp] theorem modMod_hlc (i : Nat) (f : Modu → Modu) (s : State) : (modMod i f s).hlc = s.hlc := rfl
@[simp] theorem modMod_can (i : Nat) (f : Modu → Modu) (s : State) : (modMod i f s).can = s.can := rfl
@[simp] theorem modMod_earth (i : Nat) (f : Modu → Modu) (s : State) : (modMod i f s).earth = s.earth := rfl
@[simp] theorem modMod_earthDev (i : Nat) (f : Modu → Modu) (s : State) : (modMod i f s).earthDev = s.earthDev := rfl
@[simp] theorem modMod_safe (i : Nat) (f : Modu → Modu) (s : State) : (modMod i f s).safe = s.safe := rfl
@[simp] theorem modMod_safeDev (i : Nat) (f : Modu → Modu) (s : State) : (modMod i f s).safeDev = s.safeDev := rfl
@[simp] theorem modMod_nvCh (i : Nat) (f : Modu → Modu) (s : State) : (modMod i f s).nvCh = s.nvCh := rfl
@[simp] theorem modMod_sw (i : Nat) (f : Modu → Modu) (s : State) : (modMod i f s).sw = s.sw := rfl
@[simp] theorem modMod_lists (i : Nat) (f : Modu → Modu) (s : State) : (modMod i f s).lists = s.lists := rfl
@[simp] theorem modMod_rdr (i : Nat) (f : Modu → Modu) (s : State) : (modMod i f s).rdr = s.rdr := rfl
@[simp] theorem modMod_fst (i : Nat) (f : Modu → Modu) (s : State) : (modMod i f s).fst = s.fst := rfl
@[simp] theorem modMod_nvFst (i : Nat) (f : Modu → Modu) (s : State) : (modMod i f s).nvFst = s.nvFst := rfl
@[simp] theorem modMod_tdr (i : Nat) (f : Modu → Modu) (s : State) : (modMod i f s).tdr = s.tdr := rfl
@[simp] theorem modMod_nvDsp (i : Nat) (f : Modu → Modu) (s : State) : (modMod i f s).nvDsp = s.nvDsp := rfl
@[simp] theorem modMod_dsp (i : Nat) (f : Modu → Modu) (s : State) : (modMod i f s).dsp = s.dsp := rfl
@[simp] theorem modMod_nvKey (i : Nat) (f : Modu → Modu) (s : State) : (modMod i f s).nvKey = s.nvKey := rfl
@[simp] theorem modMod_key (i : Nat) (f : Modu → Modu) (s : State) : (modMod i f s).key = s.key := rfl
@[simp] theorem modMod_upd (i : Nat) (f : Modu → Modu) (s : State) : (modMod i f s).upd = s.upd := rfl

/-! ## modNvMod -/

@[simp] theorem modNvMod_pending (i : Nat) (f : NvMod → NvMod) (s : State) : (modNvMod i f s).pending = s.pending := rfl
@[simp] theorem modNvMod_member (i : Nat) (f : NvMod → NvMod) (s : State) : (modNvMod i f s).member = s.member := rfl
@[simp] theorem modNvMod_clk (i : Nat) (f : NvMod → NvMod) (s : State) : (modNvMod i f s).clk = s.clk := rfl
@[simp] theorem modNvMod_pwr (i : Nat) (f : NvMod → NvMod) (s : State) : (modNvMod i f s).pwr = s.pwr := rfl
@[simp] theorem modNvMod_tail (i : Nat) (f : NvMod → NvMod) (s : State) : (modNvMod i f s).tail = s.tail := rfl
@[simp] theorem modNvMod_blk (i : Nat) (f : NvMod → NvMod) (s : State) : (modNvMod i f s).blk = s.blk := rfl
@[simp] theorem modNvMod_port (i : Nat) (f : NvMod → NvMod) (s : State) : (modNvMod i f s).port = s.port := rfl
@[simp] theorem modNvMod_ev (i : Nat) (f : NvMod → NvMod) (s : State) : (modNvMod i f s).ev = s.ev := rfl
@[simp] theorem modNvMod_mbx (i : Nat) (f : NvMod → NvMod) (s : State) : (modNvMod i f s).mbx = s.mbx := rfl
@[simp] theorem modNvMod_fe (i : Nat) (f : NvMod → NvMod) (s : State) : (modNvMod i f s).fe = s.fe := rfl
@[simp] theorem modNvMod_nvFe (i : Nat) (f : NvMod → NvMod) (s : State) : (modNvMod i f s).nvFe = { s.nvFe with mods := vatMod s.nvFe.mods i f } := rfl
@[simp] theorem modNvMod_filt (i : Nat) (f : NvMod → NvMod) (s : State) : (modNvMod i f s).filt = s.filt := rfl
@[simp] theorem modNvMod_en (i : Nat) (f : NvMod → NvMod) (s : State) : (modNvMod i f s).en = s.en := rfl
@[simp] theorem modNvMod_p100 (i : Nat) (f : NvMod → NvMod) (s : State) : (modNvMod i f s).p100 = s.p100 := rfl
@[simp] theorem modNvMod_pfw (i : Nat) (f : NvMod → NvMod) (s : State) : (modNvMod i f s).pfw = s.pfw := rfl
@[simp] theorem modNvMod_nvBill (i : Nat) (f : NvMod → NvMod) (s : State) : (modNvMod i f s).nvBill = s.nvBill := rfl
@[simp] theorem modNvMod_bill (i : Nat) (f : NvMod → NvMod) (s : State) : (modNvMod i f s).bill = s.bill := rfl
@[simp] theorem modNvMod_led (i : Nat) (f : NvMod → NvMod) (s : State) : (modNvMod i f s).led = s.led := rfl
@[simp] theorem modNvMod_nvPt (i : Nat) (f : NvMod → NvMod) (s : State) : (modNvMod i f s).nvPt = s.nvPt := rfl
@[simp] theorem modNvMod_nvSafe (i : Nat) (f : NvMod → NvMod) (s : State) : (modNvMod i f s).nvSafe = s.nvSafe := rfl
@[simp] theorem modNvMod_pilot (i : Nat) (f : NvMod → NvMod) (s : State) : (modNvMod i f s).pilot = s.pilot := rfl
@[simp] theorem modNvMod_sess (i : Nat) (f : NvMod → NvMod) (s : State) : (modNvMod i f s).sess = s.sess := rfl
@[simp] theorem modNvMod_hlc (i : Nat) (f : NvMod → NvMod) (s : State) : (modNvMod i f s).hlc = s.hlc := rfl
@[simp] theorem modNvMod_can (i : Nat) (f : NvMod → NvMod) (s : State) : (modNvMod i f s).can = s.can := rfl
@[simp] theorem modNvMod_earth (i : Nat) (f : NvMod → NvMod) (s : State) : (modNvMod i f s).earth = s.earth := rfl
@[simp] theorem modNvMod_earthDev (i : Nat) (f : NvMod → NvMod) (s : State) : (modNvMod i f s).earthDev = s.earthDev := rfl
@[simp] theorem modNvMod_safe (i : Nat) (f : NvMod → NvMod) (s : State) : (modNvMod i f s).safe = s.safe := rfl
@[simp] theorem modNvMod_safeDev (i : Nat) (f : NvMod → NvMod) (s : State) : (modNvMod i f s).safeDev = s.safeDev := rfl
@[simp] theorem modNvMod_nvCh (i : Nat) (f : NvMod → NvMod) (s : State) : (modNvMod i f s).nvCh = s.nvCh := rfl
@[simp] theorem modNvMod_sw (i : Nat) (f : NvMod → NvMod) (s : State) : (modNvMod i f s).sw = s.sw := rfl
@[simp] theorem modNvMod_lists (i : Nat) (f : NvMod → NvMod) (s : State) : (modNvMod i f s).lists = s.lists := rfl
@[simp] theorem modNvMod_rdr (i : Nat) (f : NvMod → NvMod) (s : State) : (modNvMod i f s).rdr = s.rdr := rfl
@[simp] theorem modNvMod_fst (i : Nat) (f : NvMod → NvMod) (s : State) : (modNvMod i f s).fst = s.fst := rfl
@[simp] theorem modNvMod_nvFst (i : Nat) (f : NvMod → NvMod) (s : State) : (modNvMod i f s).nvFst = s.nvFst := rfl
@[simp] theorem modNvMod_tdr (i : Nat) (f : NvMod → NvMod) (s : State) : (modNvMod i f s).tdr = s.tdr := rfl
@[simp] theorem modNvMod_nvDsp (i : Nat) (f : NvMod → NvMod) (s : State) : (modNvMod i f s).nvDsp = s.nvDsp := rfl
@[simp] theorem modNvMod_dsp (i : Nat) (f : NvMod → NvMod) (s : State) : (modNvMod i f s).dsp = s.dsp := rfl
@[simp] theorem modNvMod_nvKey (i : Nat) (f : NvMod → NvMod) (s : State) : (modNvMod i f s).nvKey = s.nvKey := rfl
@[simp] theorem modNvMod_key (i : Nat) (f : NvMod → NvMod) (s : State) : (modNvMod i f s).key = s.key := rfl
@[simp] theorem modNvMod_upd (i : Nat) (f : NvMod → NvMod) (s : State) : (modNvMod i f s).upd = s.upd := rfl

/-! ## modXch -/

@[simp] theorem modXch_pending (i : Nat) (f : XCh → XCh) (s : State) : (modXch i f s).pending = s.pending := rfl
@[simp] theorem modXch_member (i : Nat) (f : XCh → XCh) (s : State) : (modXch i f s).member = s.member := rfl
@[simp] theorem modXch_clk (i : Nat) (f : XCh → XCh) (s : State) : (modXch i f s).clk = s.clk := rfl
@[simp] theorem modXch_pwr (i : Nat) (f : XCh → XCh) (s : State) : (modXch i f s).pwr = s.pwr := rfl
@[simp] theorem modXch_tail (i : Nat) (f : XCh → XCh) (s : State) : (modXch i f s).tail = s.tail := rfl
@[simp] theorem modXch_blk (i : Nat) (f : XCh → XCh) (s : State) : (modXch i f s).blk = s.blk := rfl
@[simp] theorem modXch_port (i : Nat) (f : XCh → XCh) (s : State) : (modXch i f s).port = s.port := rfl
@[simp] theorem modXch_ev (i : Nat) (f : XCh → XCh) (s : State) : (modXch i f s).ev = s.ev := rfl
@[simp] theorem modXch_mbx (i : Nat) (f : XCh → XCh) (s : State) : (modXch i f s).mbx = s.mbx := rfl
@[simp] theorem modXch_fe (i : Nat) (f : XCh → XCh) (s : State) : (modXch i f s).fe = { s.fe with xch := vatMod s.fe.xch i f } := rfl
@[simp] theorem modXch_nvFe (i : Nat) (f : XCh → XCh) (s : State) : (modXch i f s).nvFe = s.nvFe := rfl
@[simp] theorem modXch_filt (i : Nat) (f : XCh → XCh) (s : State) : (modXch i f s).filt = s.filt := rfl
@[simp] theorem modXch_en (i : Nat) (f : XCh → XCh) (s : State) : (modXch i f s).en = s.en := rfl
@[simp] theorem modXch_p100 (i : Nat) (f : XCh → XCh) (s : State) : (modXch i f s).p100 = s.p100 := rfl
@[simp] theorem modXch_pfw (i : Nat) (f : XCh → XCh) (s : State) : (modXch i f s).pfw = s.pfw := rfl
@[simp] theorem modXch_nvBill (i : Nat) (f : XCh → XCh) (s : State) : (modXch i f s).nvBill = s.nvBill := rfl
@[simp] theorem modXch_bill (i : Nat) (f : XCh → XCh) (s : State) : (modXch i f s).bill = s.bill := rfl
@[simp] theorem modXch_led (i : Nat) (f : XCh → XCh) (s : State) : (modXch i f s).led = s.led := rfl
@[simp] theorem modXch_nvPt (i : Nat) (f : XCh → XCh) (s : State) : (modXch i f s).nvPt = s.nvPt := rfl
@[simp] theorem modXch_nvSafe (i : Nat) (f : XCh → XCh) (s : State) : (modXch i f s).nvSafe = s.nvSafe := rfl
@[simp] theorem modXch_pilot (i : Nat) (f : XCh → XCh) (s : State) : (modXch i f s).pilot = s.pilot := rfl
@[simp] theorem modXch_sess (i : Nat) (f : XCh → XCh) (s : State) : (modXch i f s).sess = s.sess := rfl
@[simp] theorem modXch_hlc (i : Nat) (f : XCh → XCh) (s : State) : (modXch i f s).hlc = s.hlc := rfl
@[simp] theorem modXch_can (i : Nat) (f : XCh → XCh) (s : State) : (modXch i f s).can = s.can := rfl
@[simp] theorem modXch_earth (i : Nat) (f : XCh → XCh) (s : State) : (modXch i f s).earth = s.earth := rfl
@[simp] theorem modXch_earthDev (i : Nat) (f : XCh → XCh) (s : State) : (modXch i f s).earthDev = s.earthDev := rfl
@[simp] theorem modXch_safe (i : Nat) (f : XCh → XCh) (s : State) : (modXch i f s).safe = s.safe := rfl
@[simp] theorem modXch_safeDev (i : Nat) (f : XCh → XCh) (s : State) : (modXch i f s).safeDev = s.safeDev := rfl
@[simp] theorem modXch_nvCh (i : Nat) (f : XCh → XCh) (s : State) : (modXch i f s).nvCh = s.nvCh := rfl
@[simp] theorem modXch_sw (i : Nat) (f : XCh → XCh) (s : State) : (modXch i f s).sw = s.sw := rfl
@[simp] theorem modXch_lists (i : Nat) (f : XCh → XCh) (s : State) : (modXch i f s).lists = s.lists := rfl
@[simp] theorem modXch_rdr (i : Nat) (f : XCh → XCh) (s : State) : (modXch i f s).rdr = s.rdr := rfl
@[simp] theorem modXch_fst (i : Nat) (f : XCh → XCh) (s : State) : (modXch i f s).fst = s.fst := rfl
@[simp] theorem modXch_nvFst (i : Nat) (f : XCh → XCh) (s : State) : (modXch i f s).nvFst = s.nvFst := rfl
@[simp] theorem modXch_tdr (i : Nat) (f : XCh → XCh) (s : State) : (modXch i f s).tdr = s.tdr := rfl
@[simp] theorem modXch_nvDsp (i : Nat) (f : XCh → XCh) (s : State) : (modXch i f s).nvDsp = s.nvDsp := rfl
@[simp] theorem modXch_dsp (i : Nat) (f : XCh → XCh) (s : State) : (modXch i f s).dsp = s.dsp := rfl
@[simp] theorem modXch_nvKey (i : Nat) (f : XCh → XCh) (s : State) : (modXch i f s).nvKey = s.nvKey := rfl
@[simp] theorem modXch_key (i : Nat) (f : XCh → XCh) (s : State) : (modXch i f s).key = s.key := rfl
@[simp] theorem modXch_upd (i : Nat) (f : XCh → XCh) (s : State) : (modXch i f s).upd = s.upd := rfl

/-! ## emit -/

@[simp] theorem emit_pending (f : Frame) (s : State) : (emit f s).pending = s.pending := rfl
@[simp] theorem emit_member (f : Frame) (s : State) : (emit f s).member = s.member := rfl
@[simp] theorem emit_clk (f : Frame) (s : State) : (emit f s).clk = s.clk := rfl
@[simp] theorem emit_pwr (f : Frame) (s : State) : (emit f s).pwr = s.pwr := rfl
@[simp] theorem emit_tail (f : Frame) (s : State) : (emit f s).tail = s.tail := rfl
@[simp] theorem emit_blk (f : Frame) (s : State) : (emit f s).blk = s.blk := rfl
@[simp] theorem emit_port (f : Frame) (s : State) : (emit f s).port = { s.port with out := f :: s.port.out } := rfl
@[simp] theorem emit_ev (f : Frame) (s : State) : (emit f s).ev = s.ev := rfl
@[simp] theorem emit_mbx (f : Frame) (s : State) : (emit f s).mbx = s.mbx := rfl
@[simp] theorem emit_fe (f : Frame) (s : State) : (emit f s).fe = s.fe := rfl
@[simp] theorem emit_nvFe (f : Frame) (s : State) : (emit f s).nvFe = s.nvFe := rfl
@[simp] theorem emit_filt (f : Frame) (s : State) : (emit f s).filt = s.filt := rfl
@[simp] theorem emit_en (f : Frame) (s : State) : (emit f s).en = s.en := rfl
@[simp] theorem emit_p100 (f : Frame) (s : State) : (emit f s).p100 = s.p100 := rfl
@[simp] theorem emit_pfw (f : Frame) (s : State) : (emit f s).pfw = s.pfw := rfl
@[simp] theorem emit_nvBill (f : Frame) (s : State) : (emit f s).nvBill = s.nvBill := rfl
@[simp] theorem emit_bill (f : Frame) (s : State) : (emit f s).bill = s.bill := rfl
@[simp] theorem emit_led (f : Frame) (s : State) : (emit f s).led = s.led := rfl
@[simp] theorem emit_nvPt (f : Frame) (s : State) : (emit f s).nvPt = s.nvPt := rfl
@[simp] theorem emit_nvSafe (f : Frame) (s : State) : (emit f s).nvSafe = s.nvSafe := rfl
@[simp] theorem emit_pilot (f : Frame) (s : State) : (emit f s).pilot = s.pilot := rfl
@[simp] theorem emit_sess (f : Frame) (s : State) : (emit f s).sess = s.sess := rfl
@[simp] theorem emit_hlc (f : Frame) (s : State) : (emit f s).hlc = s.hlc := rfl
@[simp] theorem emit_can (f : Frame) (s : State) : (emit f s).can = s.can := rfl
@[simp] theorem emit_earth (f : Frame) (s : State) : (emit f s).earth = s.earth := rfl
@[simp] theorem emit_earthDev (f : Frame) (s : State) : (emit f s).earthDev = s.earthDev := rfl
@[simp] theorem emit_safe (f : Frame) (s : State) : (emit f s).safe = s.safe := rfl
@[simp] theorem emit_safeDev (f : Frame) (s : State) : (emit f s).safeDev = s.safeDev := rfl
@[simp] theorem emit_nvCh (f : Frame) (s : State) : (emit f s).nvCh = s.nvCh := rfl
@[simp] theorem emit_sw (f : Frame) (s : State) : (emit f s).sw = s.sw := rfl
@[simp] theorem emit_lists (f : Frame) (s : State) : (emit f s).lists = s.lists := rfl
@[simp] theorem emit_rdr (f : Frame) (s : State) : (emit f s).rdr = s.rdr := rfl
@[simp] theorem emit_fst (f : Frame) (s : State) : (emit f s).fst = s.fst := rfl
@[simp] theorem emit_nvFst (f : Frame) (s : State) : (emit f s).nvFst = s.nvFst := rfl
@[simp] theorem emit_tdr (f : Frame) (s : State) : (emit f s).tdr = s.tdr := rfl
@[simp] theorem emit_nvDsp (f : Frame) (s : State) : (emit f s).nvDsp = s.nvDsp := rfl
@[simp] theorem emit_dsp (f : Frame) (s : State) : (emit f s).dsp = s.dsp := rfl
@[simp] theorem emit_nvKey (f : Frame) (s : State) : (emit f s).nvKey = s.nvKey := rfl
@[simp] theorem emit_key (f : Frame) (s : State) : (emit f s).key = s.key := rfl
@[simp] theorem emit_upd (f : Frame) (s : State) : (emit f s).upd = s.upd := rfl

/-! ## rxDrop -/

@[simp] theorem rxDrop_pending  (s : State) : (rxDrop  s).pending = s.pending := rfl
@[simp] theorem rxDrop_member  (s : State) : (rxDrop  s).member = s.member := rfl
@[simp] theorem rxDrop_clk  (s : State) : (rxDrop  s).clk = s.clk := rfl
@[simp] theorem rxDrop_pwr  (s : State) : (rxDrop  s).pwr = s.pwr := rfl
@[simp] theorem rxDrop_tail  (s : State) : (rxDrop  s).tail = s.tail := rfl
@[simp] theorem rxDrop_blk  (s : State) : (rxDrop  s).blk = s.blk := rfl
@[simp] theorem rxDrop_port  (s : State) : (rxDrop  s).port = { s.port with rxDrop := satAdd 32 s.port.rxDrop 1 } := rfl
@[simp] theorem rxDrop_ev  (s : State) : (rxDrop  s).ev = s.ev := rfl
@[simp] theorem rxDrop_mbx  (s : State) : (rxDrop  s).mbx = s.mbx := rfl
@[simp] theorem rxDrop_fe  (s : State) : (rxDrop  s).fe = s.fe := rfl
@[simp] theorem rxDrop_nvFe  (s : State) : (rxDrop  s).nvFe = s.nvFe := rfl
@[simp] theorem rxDrop_filt  (s : State) : (rxDrop  s).filt = s.filt := rfl
@[simp] theorem rxDrop_en  (s : State) : (rxDrop  s).en = s.en := rfl
@[simp] theorem rxDrop_p100  (s : State) : (rxDrop  s).p100 = s.p100 := rfl
@[simp] theorem rxDrop_pfw  (s : State) : (rxDrop  s).pfw = s.pfw := rfl
@[simp] theorem rxDrop_nvBill  (s : State) : (rxDrop  s).nvBill = s.nvBill := rfl
@[simp] theorem rxDrop_bill  (s : State) : (rxDrop  s).bill = s.bill := rfl
@[simp] theorem rxDrop_led  (s : State) : (rxDrop  s).led = s.led := rfl
@[simp] theorem rxDrop_nvPt  (s : State) : (rxDrop  s).nvPt = s.nvPt := rfl
@[simp] theorem rxDrop_nvSafe  (s : State) : (rxDrop  s).nvSafe = s.nvSafe := rfl
@[simp] theorem rxDrop_pilot  (s : State) : (rxDrop  s).pilot = s.pilot := rfl
@[simp] theorem rxDrop_sess  (s : State) : (rxDrop  s).sess = s.sess := rfl
@[simp] theorem rxDrop_hlc  (s : State) : (rxDrop  s).hlc = s.hlc := rfl
@[simp] theorem rxDrop_can  (s : State) : (rxDrop  s).can = s.can := rfl
@[simp] theorem rxDrop_earth  (s : State) : (rxDrop  s).earth = s.earth := rfl
@[simp] theorem rxDrop_earthDev  (s : State) : (rxDrop  s).earthDev = s.earthDev := rfl
@[simp] theorem rxDrop_safe  (s : State) : (rxDrop  s).safe = s.safe := rfl
@[simp] theorem rxDrop_safeDev  (s : State) : (rxDrop  s).safeDev = s.safeDev := rfl
@[simp] theorem rxDrop_nvCh  (s : State) : (rxDrop  s).nvCh = s.nvCh := rfl
@[simp] theorem rxDrop_sw  (s : State) : (rxDrop  s).sw = s.sw := rfl
@[simp] theorem rxDrop_lists  (s : State) : (rxDrop  s).lists = s.lists := rfl
@[simp] theorem rxDrop_rdr  (s : State) : (rxDrop  s).rdr = s.rdr := rfl
@[simp] theorem rxDrop_fst  (s : State) : (rxDrop  s).fst = s.fst := rfl
@[simp] theorem rxDrop_nvFst  (s : State) : (rxDrop  s).nvFst = s.nvFst := rfl
@[simp] theorem rxDrop_tdr  (s : State) : (rxDrop  s).tdr = s.tdr := rfl
@[simp] theorem rxDrop_nvDsp  (s : State) : (rxDrop  s).nvDsp = s.nvDsp := rfl
@[simp] theorem rxDrop_dsp  (s : State) : (rxDrop  s).dsp = s.dsp := rfl
@[simp] theorem rxDrop_nvKey  (s : State) : (rxDrop  s).nvKey = s.nvKey := rfl
@[simp] theorem rxDrop_key  (s : State) : (rxDrop  s).key = s.key := rfl
@[simp] theorem rxDrop_upd  (s : State) : (rxDrop  s).upd = s.upd := rfl

/-! ## dropFlight -/

@[simp] theorem dropFlight_pending (f : Flight) (s : State) : (dropFlight f s).pending = s.pending := rfl
@[simp] theorem dropFlight_member (f : Flight) (s : State) : (dropFlight f s).member = s.member := rfl
@[simp] theorem dropFlight_clk (f : Flight) (s : State) : (dropFlight f s).clk = s.clk := rfl
@[simp] theorem dropFlight_pwr (f : Flight) (s : State) : (dropFlight f s).pwr = s.pwr := rfl
@[simp] theorem dropFlight_tail (f : Flight) (s : State) : (dropFlight f s).tail = s.tail := rfl
@[simp] theorem dropFlight_blk (f : Flight) (s : State) : (dropFlight f s).blk = s.blk := rfl
@[simp] theorem dropFlight_port (f : Flight) (s : State) : (dropFlight f s).port = { s.port with flights := s.port.flights.filter fun g => !(g.no == f.no) } := rfl
@[simp] theorem dropFlight_ev (f : Flight) (s : State) : (dropFlight f s).ev = s.ev := rfl
@[simp] theorem dropFlight_mbx (f : Flight) (s : State) : (dropFlight f s).mbx = s.mbx := rfl
@[simp] theorem dropFlight_fe (f : Flight) (s : State) : (dropFlight f s).fe = s.fe := rfl
@[simp] theorem dropFlight_nvFe (f : Flight) (s : State) : (dropFlight f s).nvFe = s.nvFe := rfl
@[simp] theorem dropFlight_filt (f : Flight) (s : State) : (dropFlight f s).filt = s.filt := rfl
@[simp] theorem dropFlight_en (f : Flight) (s : State) : (dropFlight f s).en = s.en := rfl
@[simp] theorem dropFlight_p100 (f : Flight) (s : State) : (dropFlight f s).p100 = s.p100 := rfl
@[simp] theorem dropFlight_pfw (f : Flight) (s : State) : (dropFlight f s).pfw = s.pfw := rfl
@[simp] theorem dropFlight_nvBill (f : Flight) (s : State) : (dropFlight f s).nvBill = s.nvBill := rfl
@[simp] theorem dropFlight_bill (f : Flight) (s : State) : (dropFlight f s).bill = s.bill := rfl
@[simp] theorem dropFlight_led (f : Flight) (s : State) : (dropFlight f s).led = s.led := rfl
@[simp] theorem dropFlight_nvPt (f : Flight) (s : State) : (dropFlight f s).nvPt = s.nvPt := rfl
@[simp] theorem dropFlight_nvSafe (f : Flight) (s : State) : (dropFlight f s).nvSafe = s.nvSafe := rfl
@[simp] theorem dropFlight_pilot (f : Flight) (s : State) : (dropFlight f s).pilot = s.pilot := rfl
@[simp] theorem dropFlight_sess (f : Flight) (s : State) : (dropFlight f s).sess = s.sess := rfl
@[simp] theorem dropFlight_hlc (f : Flight) (s : State) : (dropFlight f s).hlc = s.hlc := rfl
@[simp] theorem dropFlight_can (f : Flight) (s : State) : (dropFlight f s).can = s.can := rfl
@[simp] theorem dropFlight_earth (f : Flight) (s : State) : (dropFlight f s).earth = s.earth := rfl
@[simp] theorem dropFlight_earthDev (f : Flight) (s : State) : (dropFlight f s).earthDev = s.earthDev := rfl
@[simp] theorem dropFlight_safe (f : Flight) (s : State) : (dropFlight f s).safe = s.safe := rfl
@[simp] theorem dropFlight_safeDev (f : Flight) (s : State) : (dropFlight f s).safeDev = s.safeDev := rfl
@[simp] theorem dropFlight_nvCh (f : Flight) (s : State) : (dropFlight f s).nvCh = s.nvCh := rfl
@[simp] theorem dropFlight_sw (f : Flight) (s : State) : (dropFlight f s).sw = s.sw := rfl
@[simp] theorem dropFlight_lists (f : Flight) (s : State) : (dropFlight f s).lists = s.lists := rfl
@[simp] theorem dropFlight_rdr (f : Flight) (s : State) : (dropFlight f s).rdr = s.rdr := rfl
@[simp] theorem dropFlight_fst (f : Flight) (s : State) : (dropFlight f s).fst = s.fst := rfl
@[simp] theorem dropFlight_nvFst (f : Flight) (s : State) : (dropFlight f s).nvFst = s.nvFst := rfl
@[simp] theorem dropFlight_tdr (f : Flight) (s : State) : (dropFlight f s).tdr = s.tdr := rfl
@[simp] theorem dropFlight_nvDsp (f : Flight) (s : State) : (dropFlight f s).nvDsp = s.nvDsp := rfl
@[simp] theorem dropFlight_dsp (f : Flight) (s : State) : (dropFlight f s).dsp = s.dsp := rfl
@[simp] theorem dropFlight_nvKey (f : Flight) (s : State) : (dropFlight f s).nvKey = s.nvKey := rfl
@[simp] theorem dropFlight_key (f : Flight) (s : State) : (dropFlight f s).key = s.key := rfl
@[simp] theorem dropFlight_upd (f : Flight) (s : State) : (dropFlight f s).upd = s.upd := rfl

/-! ## modSlot -/

@[simp] theorem modSlot_pending (i : Nat) (f : Slot → Slot) (s : State) : (modSlot i f s).pending = s.pending := rfl
@[simp] theorem modSlot_member (i : Nat) (f : Slot → Slot) (s : State) : (modSlot i f s).member = s.member := rfl
@[simp] theorem modSlot_clk (i : Nat) (f : Slot → Slot) (s : State) : (modSlot i f s).clk = s.clk := rfl
@[simp] theorem modSlot_pwr (i : Nat) (f : Slot → Slot) (s : State) : (modSlot i f s).pwr = s.pwr := rfl
@[simp] theorem modSlot_tail (i : Nat) (f : Slot → Slot) (s : State) : (modSlot i f s).tail = s.tail := rfl
@[simp] theorem modSlot_blk (i : Nat) (f : Slot → Slot) (s : State) : (modSlot i f s).blk = s.blk := rfl
@[simp] theorem modSlot_port (i : Nat) (f : Slot → Slot) (s : State) : (modSlot i f s).port = s.port := rfl
@[simp] theorem modSlot_ev (i : Nat) (f : Slot → Slot) (s : State) : (modSlot i f s).ev = s.ev := rfl
@[simp] theorem modSlot_mbx (i : Nat) (f : Slot → Slot) (s : State) : (modSlot i f s).mbx = s.mbx := rfl
@[simp] theorem modSlot_fe (i : Nat) (f : Slot → Slot) (s : State) : (modSlot i f s).fe = s.fe := rfl
@[simp] theorem modSlot_nvFe (i : Nat) (f : Slot → Slot) (s : State) : (modSlot i f s).nvFe = s.nvFe := rfl
@[simp] theorem modSlot_filt (i : Nat) (f : Slot → Slot) (s : State) : (modSlot i f s).filt = s.filt := rfl
@[simp] theorem modSlot_en (i : Nat) (f : Slot → Slot) (s : State) : (modSlot i f s).en = s.en := rfl
@[simp] theorem modSlot_p100 (i : Nat) (f : Slot → Slot) (s : State) : (modSlot i f s).p100 = s.p100 := rfl
@[simp] theorem modSlot_pfw (i : Nat) (f : Slot → Slot) (s : State) : (modSlot i f s).pfw = s.pfw := rfl
@[simp] theorem modSlot_nvBill (i : Nat) (f : Slot → Slot) (s : State) : (modSlot i f s).nvBill = s.nvBill := rfl
@[simp] theorem modSlot_bill (i : Nat) (f : Slot → Slot) (s : State) : (modSlot i f s).bill = s.bill := rfl
@[simp] theorem modSlot_led (i : Nat) (f : Slot → Slot) (s : State) : (modSlot i f s).led = s.led := rfl
@[simp] theorem modSlot_nvPt (i : Nat) (f : Slot → Slot) (s : State) : (modSlot i f s).nvPt = s.nvPt := rfl
@[simp] theorem modSlot_nvSafe (i : Nat) (f : Slot → Slot) (s : State) : (modSlot i f s).nvSafe = s.nvSafe := rfl
@[simp] theorem modSlot_pilot (i : Nat) (f : Slot → Slot) (s : State) : (modSlot i f s).pilot = s.pilot := rfl
@[simp] theorem modSlot_sess (i : Nat) (f : Slot → Slot) (s : State) : (modSlot i f s).sess = s.sess := rfl
@[simp] theorem modSlot_hlc (i : Nat) (f : Slot → Slot) (s : State) : (modSlot i f s).hlc = s.hlc := rfl
@[simp] theorem modSlot_can (i : Nat) (f : Slot → Slot) (s : State) : (modSlot i f s).can = s.can := rfl
@[simp] theorem modSlot_earth (i : Nat) (f : Slot → Slot) (s : State) : (modSlot i f s).earth = s.earth := rfl
@[simp] theorem modSlot_earthDev (i : Nat) (f : Slot → Slot) (s : State) : (modSlot i f s).earthDev = s.earthDev := rfl
@[simp] theorem modSlot_safe (i : Nat) (f : Slot → Slot) (s : State) : (modSlot i f s).safe = s.safe := rfl
@[simp] theorem modSlot_safeDev (i : Nat) (f : Slot → Slot) (s : State) : (modSlot i f s).safeDev = s.safeDev := rfl
@[simp] theorem modSlot_nvCh (i : Nat) (f : Slot → Slot) (s : State) : (modSlot i f s).nvCh = s.nvCh := rfl
@[simp] theorem modSlot_sw (i : Nat) (f : Slot → Slot) (s : State) : (modSlot i f s).sw = s.sw := rfl
@[simp] theorem modSlot_lists (i : Nat) (f : Slot → Slot) (s : State) : (modSlot i f s).lists = s.lists := rfl
@[simp] theorem modSlot_rdr (i : Nat) (f : Slot → Slot) (s : State) : (modSlot i f s).rdr = s.rdr := rfl
@[simp] theorem modSlot_fst (i : Nat) (f : Slot → Slot) (s : State) : (modSlot i f s).fst = s.fst := rfl
@[simp] theorem modSlot_nvFst (i : Nat) (f : Slot → Slot) (s : State) : (modSlot i f s).nvFst = s.nvFst := rfl
@[simp] theorem modSlot_tdr (i : Nat) (f : Slot → Slot) (s : State) : (modSlot i f s).tdr = s.tdr := rfl
@[simp] theorem modSlot_nvDsp (i : Nat) (f : Slot → Slot) (s : State) : (modSlot i f s).nvDsp = s.nvDsp := rfl
@[simp] theorem modSlot_dsp (i : Nat) (f : Slot → Slot) (s : State) : (modSlot i f s).dsp = s.dsp := rfl
@[simp] theorem modSlot_nvKey (i : Nat) (f : Slot → Slot) (s : State) : (modSlot i f s).nvKey = s.nvKey := rfl
@[simp] theorem modSlot_key (i : Nat) (f : Slot → Slot) (s : State) : (modSlot i f s).key = { s.key with chuck := vatMod s.key.chuck i f } := rfl
@[simp] theorem modSlot_upd (i : Nat) (f : Slot → Slot) (s : State) : (modSlot i f s).upd = s.upd := rfl

/-! ## modMeter -/

@[simp] theorem modMeter_pending (m : Fin 9) (f : Meter → Meter) (s : State) : (modMeter m f s).pending = s.pending := rfl
@[simp] theorem modMeter_member (m : Fin 9) (f : Meter → Meter) (s : State) : (modMeter m f s).member = s.member := rfl
@[simp] theorem modMeter_clk (m : Fin 9) (f : Meter → Meter) (s : State) : (modMeter m f s).clk = s.clk := rfl
@[simp] theorem modMeter_pwr (m : Fin 9) (f : Meter → Meter) (s : State) : (modMeter m f s).pwr = s.pwr := rfl
@[simp] theorem modMeter_tail (m : Fin 9) (f : Meter → Meter) (s : State) : (modMeter m f s).tail = s.tail := rfl
@[simp] theorem modMeter_blk (m : Fin 9) (f : Meter → Meter) (s : State) : (modMeter m f s).blk = s.blk := rfl
@[simp] theorem modMeter_port (m : Fin 9) (f : Meter → Meter) (s : State) : (modMeter m f s).port = s.port := rfl
@[simp] theorem modMeter_ev (m : Fin 9) (f : Meter → Meter) (s : State) : (modMeter m f s).ev = s.ev := rfl
@[simp] theorem modMeter_mbx (m : Fin 9) (f : Meter → Meter) (s : State) : (modMeter m f s).mbx = s.mbx := rfl
@[simp] theorem modMeter_fe (m : Fin 9) (f : Meter → Meter) (s : State) : (modMeter m f s).fe = s.fe := rfl
@[simp] theorem modMeter_nvFe (m : Fin 9) (f : Meter → Meter) (s : State) : (modMeter m f s).nvFe = s.nvFe := rfl
@[simp] theorem modMeter_filt (m : Fin 9) (f : Meter → Meter) (s : State) : (modMeter m f s).filt = s.filt := rfl
@[simp] theorem modMeter_en (m : Fin 9) (f : Meter → Meter) (s : State) : (modMeter m f s).en = { s.en with m := vmod s.en.m m f } := rfl
@[simp] theorem modMeter_p100 (m : Fin 9) (f : Meter → Meter) (s : State) : (modMeter m f s).p100 = s.p100 := rfl
@[simp] theorem modMeter_pfw (m : Fin 9) (f : Meter → Meter) (s : State) : (modMeter m f s).pfw = s.pfw := rfl
@[simp] theorem modMeter_nvBill (m : Fin 9) (f : Meter → Meter) (s : State) : (modMeter m f s).nvBill = s.nvBill := rfl
@[simp] theorem modMeter_bill (m : Fin 9) (f : Meter → Meter) (s : State) : (modMeter m f s).bill = s.bill := rfl
@[simp] theorem modMeter_led (m : Fin 9) (f : Meter → Meter) (s : State) : (modMeter m f s).led = s.led := rfl
@[simp] theorem modMeter_nvPt (m : Fin 9) (f : Meter → Meter) (s : State) : (modMeter m f s).nvPt = s.nvPt := rfl
@[simp] theorem modMeter_nvSafe (m : Fin 9) (f : Meter → Meter) (s : State) : (modMeter m f s).nvSafe = s.nvSafe := rfl
@[simp] theorem modMeter_pilot (m : Fin 9) (f : Meter → Meter) (s : State) : (modMeter m f s).pilot = s.pilot := rfl
@[simp] theorem modMeter_sess (m : Fin 9) (f : Meter → Meter) (s : State) : (modMeter m f s).sess = s.sess := rfl
@[simp] theorem modMeter_hlc (m : Fin 9) (f : Meter → Meter) (s : State) : (modMeter m f s).hlc = s.hlc := rfl
@[simp] theorem modMeter_can (m : Fin 9) (f : Meter → Meter) (s : State) : (modMeter m f s).can = s.can := rfl
@[simp] theorem modMeter_earth (m : Fin 9) (f : Meter → Meter) (s : State) : (modMeter m f s).earth = s.earth := rfl
@[simp] theorem modMeter_earthDev (m : Fin 9) (f : Meter → Meter) (s : State) : (modMeter m f s).earthDev = s.earthDev := rfl
@[simp] theorem modMeter_safe (m : Fin 9) (f : Meter → Meter) (s : State) : (modMeter m f s).safe = s.safe := rfl
@[simp] theorem modMeter_safeDev (m : Fin 9) (f : Meter → Meter) (s : State) : (modMeter m f s).safeDev = s.safeDev := rfl
@[simp] theorem modMeter_nvCh (m : Fin 9) (f : Meter → Meter) (s : State) : (modMeter m f s).nvCh = s.nvCh := rfl
@[simp] theorem modMeter_sw (m : Fin 9) (f : Meter → Meter) (s : State) : (modMeter m f s).sw = s.sw := rfl
@[simp] theorem modMeter_lists (m : Fin 9) (f : Meter → Meter) (s : State) : (modMeter m f s).lists = s.lists := rfl
@[simp] theorem modMeter_rdr (m : Fin 9) (f : Meter → Meter) (s : State) : (modMeter m f s).rdr = s.rdr := rfl
@[simp] theorem modMeter_fst (m : Fin 9) (f : Meter → Meter) (s : State) : (modMeter m f s).fst = s.fst := rfl
@[simp] theorem modMeter_nvFst (m : Fin 9) (f : Meter → Meter) (s : State) : (modMeter m f s).nvFst = s.nvFst := rfl
@[simp] theorem modMeter_tdr (m : Fin 9) (f : Meter → Meter) (s : State) : (modMeter m f s).tdr = s.tdr := rfl
@[simp] theorem modMeter_nvDsp (m : Fin 9) (f : Meter → Meter) (s : State) : (modMeter m f s).nvDsp = s.nvDsp := rfl
@[simp] theorem modMeter_dsp (m : Fin 9) (f : Meter → Meter) (s : State) : (modMeter m f s).dsp = s.dsp := rfl
@[simp] theorem modMeter_nvKey (m : Fin 9) (f : Meter → Meter) (s : State) : (modMeter m f s).nvKey = s.nvKey := rfl
@[simp] theorem modMeter_key (m : Fin 9) (f : Meter → Meter) (s : State) : (modMeter m f s).key = s.key := rfl
@[simp] theorem modMeter_upd (m : Fin 9) (f : Meter → Meter) (s : State) : (modMeter m f s).upd = s.upd := rfl

/-! ## modMeterP -/

@[simp] theorem modMeterP_pending (m : Fin 9) (f : MeterP → MeterP) (s : State) : (modMeterP m f s).pending = s.pending := rfl
@[simp] theorem modMeterP_member (m : Fin 9) (f : MeterP → MeterP) (s : State) : (modMeterP m f s).member = s.member := rfl
@[simp] theorem modMeterP_clk (m : Fin 9) (f : MeterP → MeterP) (s : State) : (modMeterP m f s).clk = s.clk := rfl
@[simp] theorem modMeterP_pwr (m : Fin 9) (f : MeterP → MeterP) (s : State) : (modMeterP m f s).pwr = s.pwr := rfl
@[simp] theorem modMeterP_tail (m : Fin 9) (f : MeterP → MeterP) (s : State) : (modMeterP m f s).tail = s.tail := rfl
@[simp] theorem modMeterP_blk (m : Fin 9) (f : MeterP → MeterP) (s : State) : (modMeterP m f s).blk = s.blk := rfl
@[simp] theorem modMeterP_port (m : Fin 9) (f : MeterP → MeterP) (s : State) : (modMeterP m f s).port = s.port := rfl
@[simp] theorem modMeterP_ev (m : Fin 9) (f : MeterP → MeterP) (s : State) : (modMeterP m f s).ev = s.ev := rfl
@[simp] theorem modMeterP_mbx (m : Fin 9) (f : MeterP → MeterP) (s : State) : (modMeterP m f s).mbx = s.mbx := rfl
@[simp] theorem modMeterP_fe (m : Fin 9) (f : MeterP → MeterP) (s : State) : (modMeterP m f s).fe = s.fe := rfl
@[simp] theorem modMeterP_nvFe (m : Fin 9) (f : MeterP → MeterP) (s : State) : (modMeterP m f s).nvFe = s.nvFe := rfl
@[simp] theorem modMeterP_filt (m : Fin 9) (f : MeterP → MeterP) (s : State) : (modMeterP m f s).filt = s.filt := rfl
@[simp] theorem modMeterP_en (m : Fin 9) (f : MeterP → MeterP) (s : State) : (modMeterP m f s).en = s.en := rfl
@[simp] theorem modMeterP_p100 (m : Fin 9) (f : MeterP → MeterP) (s : State) : (modMeterP m f s).p100 = { s.p100 with m := vmod s.p100.m m f } := rfl
@[simp] theorem modMeterP_pfw (m : Fin 9) (f : MeterP → MeterP) (s : State) : (modMeterP m f s).pfw = s.pfw := rfl
@[simp] theorem modMeterP_nvBill (m : Fin 9) (f : MeterP → MeterP) (s : State) : (modMeterP m f s).nvBill = s.nvBill := rfl
@[simp] theorem modMeterP_bill (m : Fin 9) (f : MeterP → MeterP) (s : State) : (modMeterP m f s).bill = s.bill := rfl
@[simp] theorem modMeterP_led (m : Fin 9) (f : MeterP → MeterP) (s : State) : (modMeterP m f s).led = s.led := rfl
@[simp] theorem modMeterP_nvPt (m : Fin 9) (f : MeterP → MeterP) (s : State) : (modMeterP m f s).nvPt = s.nvPt := rfl
@[simp] theorem modMeterP_nvSafe (m : Fin 9) (f : MeterP → MeterP) (s : State) : (modMeterP m f s).nvSafe = s.nvSafe := rfl
@[simp] theorem modMeterP_pilot (m : Fin 9) (f : MeterP → MeterP) (s : State) : (modMeterP m f s).pilot = s.pilot := rfl
@[simp] theorem modMeterP_sess (m : Fin 9) (f : MeterP → MeterP) (s : State) : (modMeterP m f s).sess = s.sess := rfl
@[simp] theorem modMeterP_hlc (m : Fin 9) (f : MeterP → MeterP) (s : State) : (modMeterP m f s).hlc = s.hlc := rfl
@[simp] theorem modMeterP_can (m : Fin 9) (f : MeterP → MeterP) (s : State) : (modMeterP m f s).can = s.can := rfl
@[simp] theorem modMeterP_earth (m : Fin 9) (f : MeterP → MeterP) (s : State) : (modMeterP m f s).earth = s.earth := rfl
@[simp] theorem modMeterP_earthDev (m : Fin 9) (f : MeterP → MeterP) (s : State) : (modMeterP m f s).earthDev = s.earthDev := rfl
@[simp] theorem modMeterP_safe (m : Fin 9) (f : MeterP → MeterP) (s : State) : (modMeterP m f s).safe = s.safe := rfl
@[simp] theorem modMeterP_safeDev (m : Fin 9) (f : MeterP → MeterP) (s : State) : (modMeterP m f s).safeDev = s.safeDev := rfl
@[simp] theorem modMeterP_nvCh (m : Fin 9) (f : MeterP → MeterP) (s : State) : (modMeterP m f s).nvCh = s.nvCh := rfl
@[simp] theorem modMeterP_sw (m : Fin 9) (f : MeterP → MeterP) (s : State) : (modMeterP m f s).sw = s.sw := rfl
@[simp] theorem modMeterP_lists (m : Fin 9) (f : MeterP → MeterP) (s : State) : (modMeterP m f s).lists = s.lists := rfl
@[simp] theorem modMeterP_rdr (m : Fin 9) (f : MeterP → MeterP) (s : State) : (modMeterP m f s).rdr = s.rdr := rfl
@[simp] theorem modMeterP_fst (m : Fin 9) (f : MeterP → MeterP) (s : State) : (modMeterP m f s).fst = s.fst := rfl
@[simp] theorem modMeterP_nvFst (m : Fin 9) (f : MeterP → MeterP) (s : State) : (modMeterP m f s).nvFst = s.nvFst := rfl
@[simp] theorem modMeterP_tdr (m : Fin 9) (f : MeterP → MeterP) (s : State) : (modMeterP m f s).tdr = s.tdr := rfl
@[simp] theorem modMeterP_nvDsp (m : Fin 9) (f : MeterP → MeterP) (s : State) : (modMeterP m f s).nvDsp = s.nvDsp := rfl
@[simp] theorem modMeterP_dsp (m : Fin 9) (f : MeterP → MeterP) (s : State) : (modMeterP m f s).dsp = s.dsp := rfl
@[simp] theorem modMeterP_nvKey (m : Fin 9) (f : MeterP → MeterP) (s : State) : (modMeterP m f s).nvKey = s.nvKey := rfl
@[simp] theorem modMeterP_key (m : Fin 9) (f : MeterP → MeterP) (s : State) : (modMeterP m f s).key = s.key := rfl
@[simp] theorem modMeterP_upd (m : Fin 9) (f : MeterP → MeterP) (s : State) : (modMeterP m f s).upd = s.upd := rfl

/-! ## modSessP -/

@[simp] theorem modSessP_pending (n : Fin 8) (f : SessP → SessP) (s : State) : (modSessP n f s).pending = s.pending := rfl
@[simp] theorem modSessP_member (n : Fin 8) (f : SessP → SessP) (s : State) : (modSessP n f s).member = s.member := rfl
@[simp] theorem modSessP_clk (n : Fin 8) (f : SessP → SessP) (s : State) : (modSessP n f s).clk = s.clk := rfl
@[simp] theorem modSessP_pwr (n : Fin 8) (f : SessP → SessP) (s : State) : (modSessP n f s).pwr = s.pwr := rfl
@[simp] theorem modSessP_tail (n : Fin 8) (f : SessP → SessP) (s : State) : (modSessP n f s).tail = s.tail := rfl
@[simp] theorem modSessP_blk (n : Fin 8) (f : SessP → SessP) (s : State) : (modSessP n f s).blk = s.blk := rfl
@[simp] theorem modSessP_port (n : Fin 8) (f : SessP → SessP) (s : State) : (modSessP n f s).port = s.port := rfl
@[simp] theorem modSessP_ev (n : Fin 8) (f : SessP → SessP) (s : State) : (modSessP n f s).ev = s.ev := rfl
@[simp] theorem modSessP_mbx (n : Fin 8) (f : SessP → SessP) (s : State) : (modSessP n f s).mbx = s.mbx := rfl
@[simp] theorem modSessP_fe (n : Fin 8) (f : SessP → SessP) (s : State) : (modSessP n f s).fe = s.fe := rfl
@[simp] theorem modSessP_nvFe (n : Fin 8) (f : SessP → SessP) (s : State) : (modSessP n f s).nvFe = s.nvFe := rfl
@[simp] theorem modSessP_filt (n : Fin 8) (f : SessP → SessP) (s : State) : (modSessP n f s).filt = s.filt := rfl
@[simp] theorem modSessP_en (n : Fin 8) (f : SessP → SessP) (s : State) : (modSessP n f s).en = s.en := rfl
@[simp] theorem modSessP_p100 (n : Fin 8) (f : SessP → SessP) (s : State) : (modSessP n f s).p100 = { s.p100 with sess := vmod s.p100.sess n f } := rfl
@[simp] theorem modSessP_pfw (n : Fin 8) (f : SessP → SessP) (s : State) : (modSessP n f s).pfw = s.pfw := rfl
@[simp] theorem modSessP_nvBill (n : Fin 8) (f : SessP → SessP) (s : State) : (modSessP n f s).nvBill = s.nvBill := rfl
@[simp] theorem modSessP_bill (n : Fin 8) (f : SessP → SessP) (s : State) : (modSessP n f s).bill = s.bill := rfl
@[simp] theorem modSessP_led (n : Fin 8) (f : SessP → SessP) (s : State) : (modSessP n f s).led = s.led := rfl
@[simp] theorem modSessP_nvPt (n : Fin 8) (f : SessP → SessP) (s : State) : (modSessP n f s).nvPt = s.nvPt := rfl
@[simp] theorem modSessP_nvSafe (n : Fin 8) (f : SessP → SessP) (s : State) : (modSessP n f s).nvSafe = s.nvSafe := rfl
@[simp] theorem modSessP_pilot (n : Fin 8) (f : SessP → SessP) (s : State) : (modSessP n f s).pilot = s.pilot := rfl
@[simp] theorem modSessP_sess (n : Fin 8) (f : SessP → SessP) (s : State) : (modSessP n f s).sess = s.sess := rfl
@[simp] theorem modSessP_hlc (n : Fin 8) (f : SessP → SessP) (s : State) : (modSessP n f s).hlc = s.hlc := rfl
@[simp] theorem modSessP_can (n : Fin 8) (f : SessP → SessP) (s : State) : (modSessP n f s).can = s.can := rfl
@[simp] theorem modSessP_earth (n : Fin 8) (f : SessP → SessP) (s : State) : (modSessP n f s).earth = s.earth := rfl
@[simp] theorem modSessP_earthDev (n : Fin 8) (f : SessP → SessP) (s : State) : (modSessP n f s).earthDev = s.earthDev := rfl
@[simp] theorem modSessP_safe (n : Fin 8) (f : SessP → SessP) (s : State) : (modSessP n f s).safe = s.safe := rfl
@[simp] theorem modSessP_safeDev (n : Fin 8) (f : SessP → SessP) (s : State) : (modSessP n f s).safeDev = s.safeDev := rfl
@[simp] theorem modSessP_nvCh (n : Fin 8) (f : SessP → SessP) (s : State) : (modSessP n f s).nvCh = s.nvCh := rfl
@[simp] theorem modSessP_sw (n : Fin 8) (f : SessP → SessP) (s : State) : (modSessP n f s).sw = s.sw := rfl
@[simp] theorem modSessP_lists (n : Fin 8) (f : SessP → SessP) (s : State) : (modSessP n f s).lists = s.lists := rfl
@[simp] theorem modSessP_rdr (n : Fin 8) (f : SessP → SessP) (s : State) : (modSessP n f s).rdr = s.rdr := rfl
@[simp] theorem modSessP_fst (n : Fin 8) (f : SessP → SessP) (s : State) : (modSessP n f s).fst = s.fst := rfl
@[simp] theorem modSessP_nvFst (n : Fin 8) (f : SessP → SessP) (s : State) : (modSessP n f s).nvFst = s.nvFst := rfl
@[simp] theorem modSessP_tdr (n : Fin 8) (f : SessP → SessP) (s : State) : (modSessP n f s).tdr = s.tdr := rfl
@[simp] theorem modSessP_nvDsp (n : Fin 8) (f : SessP → SessP) (s : State) : (modSessP n f s).nvDsp = s.nvDsp := rfl
@[simp] theorem modSessP_dsp (n : Fin 8) (f : SessP → SessP) (s : State) : (modSessP n f s).dsp = s.dsp := rfl
@[simp] theorem modSessP_nvKey (n : Fin 8) (f : SessP → SessP) (s : State) : (modSessP n f s).nvKey = s.nvKey := rfl
@[simp] theorem modSessP_key (n : Fin 8) (f : SessP → SessP) (s : State) : (modSessP n f s).key = s.key := rfl
@[simp] theorem modSessP_upd (n : Fin 8) (f : SessP → SessP) (s : State) : (modSessP n f s).upd = s.upd := rfl

/-! ## drawn -/

@[simp] theorem drawn_pending (n : Nat) (s : State) : (drawn n s).pending = s.pending := rfl
@[simp] theorem drawn_member (n : Nat) (s : State) : (drawn n s).member = s.member := rfl
@[simp] theorem drawn_clk (n : Nat) (s : State) : (drawn n s).clk = { s.clk with free := s.clk.free + n } := rfl
@[simp] theorem drawn_pwr (n : Nat) (s : State) : (drawn n s).pwr = s.pwr := rfl
@[simp] theorem drawn_tail (n : Nat) (s : State) : (drawn n s).tail = s.tail := rfl
@[simp] theorem drawn_blk (n : Nat) (s : State) : (drawn n s).blk = s.blk := rfl
@[simp] theorem drawn_port (n : Nat) (s : State) : (drawn n s).port = s.port := rfl
@[simp] theorem drawn_ev (n : Nat) (s : State) : (drawn n s).ev = s.ev := rfl
@[simp] theorem drawn_mbx (n : Nat) (s : State) : (drawn n s).mbx = s.mbx := rfl
@[simp] theorem drawn_fe (n : Nat) (s : State) : (drawn n s).fe = s.fe := rfl
@[simp] theorem drawn_nvFe (n : Nat) (s : State) : (drawn n s).nvFe = s.nvFe := rfl
@[simp] theorem drawn_filt (n : Nat) (s : State) : (drawn n s).filt = s.filt := rfl
@[simp] theorem drawn_en (n : Nat) (s : State) : (drawn n s).en = s.en := rfl
@[simp] theorem drawn_p100 (n : Nat) (s : State) : (drawn n s).p100 = s.p100 := rfl
@[simp] theorem drawn_pfw (n : Nat) (s : State) : (drawn n s).pfw = s.pfw := rfl
@[simp] theorem drawn_nvBill (n : Nat) (s : State) : (drawn n s).nvBill = s.nvBill := rfl
@[simp] theorem drawn_bill (n : Nat) (s : State) : (drawn n s).bill = s.bill := rfl
@[simp] theorem drawn_led (n : Nat) (s : State) : (drawn n s).led = s.led := rfl
@[simp] theorem drawn_nvPt (n : Nat) (s : State) : (drawn n s).nvPt = s.nvPt := rfl
@[simp] theorem drawn_nvSafe (n : Nat) (s : State) : (drawn n s).nvSafe = s.nvSafe := rfl
@[simp] theorem drawn_pilot (n : Nat) (s : State) : (drawn n s).pilot = s.pilot := rfl
@[simp] theorem drawn_sess (n : Nat) (s : State) : (drawn n s).sess = s.sess := rfl
@[simp] theorem drawn_hlc (n : Nat) (s : State) : (drawn n s).hlc = s.hlc := rfl
@[simp] theorem drawn_can (n : Nat) (s : State) : (drawn n s).can = s.can := rfl
@[simp] theorem drawn_earth (n : Nat) (s : State) : (drawn n s).earth = s.earth := rfl
@[simp] theorem drawn_earthDev (n : Nat) (s : State) : (drawn n s).earthDev = s.earthDev := rfl
@[simp] theorem drawn_safe (n : Nat) (s : State) : (drawn n s).safe = s.safe := rfl
@[simp] theorem drawn_safeDev (n : Nat) (s : State) : (drawn n s).safeDev = s.safeDev := rfl
@[simp] theorem drawn_nvCh (n : Nat) (s : State) : (drawn n s).nvCh = s.nvCh := rfl
@[simp] theorem drawn_sw (n : Nat) (s : State) : (drawn n s).sw = s.sw := rfl
@[simp] theorem drawn_lists (n : Nat) (s : State) : (drawn n s).lists = s.lists := rfl
@[simp] theorem drawn_rdr (n : Nat) (s : State) : (drawn n s).rdr = s.rdr := rfl
@[simp] theorem drawn_fst (n : Nat) (s : State) : (drawn n s).fst = s.fst := rfl
@[simp] theorem drawn_nvFst (n : Nat) (s : State) : (drawn n s).nvFst = s.nvFst := rfl
@[simp] theorem drawn_tdr (n : Nat) (s : State) : (drawn n s).tdr = s.tdr := rfl
@[simp] theorem drawn_nvDsp (n : Nat) (s : State) : (drawn n s).nvDsp = s.nvDsp := rfl
@[simp] theorem drawn_dsp (n : Nat) (s : State) : (drawn n s).dsp = s.dsp := rfl
@[simp] theorem drawn_nvKey (n : Nat) (s : State) : (drawn n s).nvKey = s.nvKey := rfl
@[simp] theorem drawn_key (n : Nat) (s : State) : (drawn n s).key = s.key := rfl
@[simp] theorem drawn_upd (n : Nat) (s : State) : (drawn n s).upd = s.upd := rfl

/-! ## modPilot -/

@[simp] theorem modPilot_pending (n : Fin 8) (f : Pilot → Pilot) (s : State) : (modPilot n f s).pending = s.pending := rfl
@[simp] theorem modPilot_member (n : Fin 8) (f : Pilot → Pilot) (s : State) : (modPilot n f s).member = s.member := rfl
@[simp] theorem modPilot_clk (n : Fin 8) (f : Pilot → Pilot) (s : State) : (modPilot n f s).clk = s.clk := rfl
@[simp] theorem modPilot_pwr (n : Fin 8) (f : Pilot → Pilot) (s : State) : (modPilot n f s).pwr = s.pwr := rfl
@[simp] theorem modPilot_tail (n : Fin 8) (f : Pilot → Pilot) (s : State) : (modPilot n f s).tail = s.tail := rfl
@[simp] theorem modPilot_blk (n : Fin 8) (f : Pilot → Pilot) (s : State) : (modPilot n f s).blk = s.blk := rfl
@[simp] theorem modPilot_port (n : Fin 8) (f : Pilot → Pilot) (s : State) : (modPilot n f s).port = s.port := rfl
@[simp] theorem modPilot_ev (n : Fin 8) (f : Pilot → Pilot) (s : State) : (modPilot n f s).ev = s.ev := rfl
@[simp] theorem modPilot_mbx (n : Fin 8) (f : Pilot → Pilot) (s : State) : (modPilot n f s).mbx = s.mbx := rfl
@[simp] theorem modPilot_fe (n : Fin 8) (f : Pilot → Pilot) (s : State) : (modPilot n f s).fe = s.fe := rfl
@[simp] theorem modPilot_nvFe (n : Fin 8) (f : Pilot → Pilot) (s : State) : (modPilot n f s).nvFe = s.nvFe := rfl
@[simp] theorem modPilot_filt (n : Fin 8) (f : Pilot → Pilot) (s : State) : (modPilot n f s).filt = s.filt := rfl
@[simp] theorem modPilot_en (n : Fin 8) (f : Pilot → Pilot) (s : State) : (modPilot n f s).en = s.en := rfl
@[simp] theorem modPilot_p100 (n : Fin 8) (f : Pilot → Pilot) (s : State) : (modPilot n f s).p100 = s.p100 := rfl
@[simp] theorem modPilot_pfw (n : Fin 8) (f : Pilot → Pilot) (s : State) : (modPilot n f s).pfw = s.pfw := rfl
@[simp] theorem modPilot_nvBill (n : Fin 8) (f : Pilot → Pilot) (s : State) : (modPilot n f s).nvBill = s.nvBill := rfl
@[simp] theorem modPilot_bill (n : Fin 8) (f : Pilot → Pilot) (s : State) : (modPilot n f s).bill = s.bill := rfl
@[simp] theorem modPilot_led (n : Fin 8) (f : Pilot → Pilot) (s : State) : (modPilot n f s).led = s.led := rfl
@[simp] theorem modPilot_nvPt (n : Fin 8) (f : Pilot → Pilot) (s : State) : (modPilot n f s).nvPt = s.nvPt := rfl
@[simp] theorem modPilot_nvSafe (n : Fin 8) (f : Pilot → Pilot) (s : State) : (modPilot n f s).nvSafe = s.nvSafe := rfl
@[simp] theorem modPilot_pilot (n : Fin 8) (f : Pilot → Pilot) (s : State) : (modPilot n f s).pilot = vmod s.pilot n f := rfl
@[simp] theorem modPilot_sess (n : Fin 8) (f : Pilot → Pilot) (s : State) : (modPilot n f s).sess = s.sess := rfl
@[simp] theorem modPilot_hlc (n : Fin 8) (f : Pilot → Pilot) (s : State) : (modPilot n f s).hlc = s.hlc := rfl
@[simp] theorem modPilot_can (n : Fin 8) (f : Pilot → Pilot) (s : State) : (modPilot n f s).can = s.can := rfl
@[simp] theorem modPilot_earth (n : Fin 8) (f : Pilot → Pilot) (s : State) : (modPilot n f s).earth = s.earth := rfl
@[simp] theorem modPilot_earthDev (n : Fin 8) (f : Pilot → Pilot) (s : State) : (modPilot n f s).earthDev = s.earthDev := rfl
@[simp] theorem modPilot_safe (n : Fin 8) (f : Pilot → Pilot) (s : State) : (modPilot n f s).safe = s.safe := rfl
@[simp] theorem modPilot_safeDev (n : Fin 8) (f : Pilot → Pilot) (s : State) : (modPilot n f s).safeDev = s.safeDev := rfl
@[simp] theorem modPilot_nvCh (n : Fin 8) (f : Pilot → Pilot) (s : State) : (modPilot n f s).nvCh = s.nvCh := rfl
@[simp] theorem modPilot_sw (n : Fin 8) (f : Pilot → Pilot) (s : State) : (modPilot n f s).sw = s.sw := rfl
@[simp] theorem modPilot_lists (n : Fin 8) (f : Pilot → Pilot) (s : State) : (modPilot n f s).lists = s.lists := rfl
@[simp] theorem modPilot_rdr (n : Fin 8) (f : Pilot → Pilot) (s : State) : (modPilot n f s).rdr = s.rdr := rfl
@[simp] theorem modPilot_fst (n : Fin 8) (f : Pilot → Pilot) (s : State) : (modPilot n f s).fst = s.fst := rfl
@[simp] theorem modPilot_nvFst (n : Fin 8) (f : Pilot → Pilot) (s : State) : (modPilot n f s).nvFst = s.nvFst := rfl
@[simp] theorem modPilot_tdr (n : Fin 8) (f : Pilot → Pilot) (s : State) : (modPilot n f s).tdr = s.tdr := rfl
@[simp] theorem modPilot_nvDsp (n : Fin 8) (f : Pilot → Pilot) (s : State) : (modPilot n f s).nvDsp = s.nvDsp := rfl
@[simp] theorem modPilot_dsp (n : Fin 8) (f : Pilot → Pilot) (s : State) : (modPilot n f s).dsp = s.dsp := rfl
@[simp] theorem modPilot_nvKey (n : Fin 8) (f : Pilot → Pilot) (s : State) : (modPilot n f s).nvKey = s.nvKey := rfl
@[simp] theorem modPilot_key (n : Fin 8) (f : Pilot → Pilot) (s : State) : (modPilot n f s).key = s.key := rfl
@[simp] theorem modPilot_upd (n : Fin 8) (f : Pilot → Pilot) (s : State) : (modPilot n f s).upd = s.upd := rfl

/-! ## modSess -/

@[simp] theorem modSess_pending (n : Fin 8) (f : Sess → Sess) (s : State) : (modSess n f s).pending = s.pending := rfl
@[simp] theorem modSess_member (n : Fin 8) (f : Sess → Sess) (s : State) : (modSess n f s).member = s.member := rfl
@[simp] theorem modSess_clk (n : Fin 8) (f : Sess → Sess) (s : State) : (modSess n f s).clk = s.clk := rfl
@[simp] theorem modSess_pwr (n : Fin 8) (f : Sess → Sess) (s : State) : (modSess n f s).pwr = s.pwr := rfl
@[simp] theorem modSess_tail (n : Fin 8) (f : Sess → Sess) (s : State) : (modSess n f s).tail = s.tail := rfl
@[simp] theorem modSess_blk (n : Fin 8) (f : Sess → Sess) (s : State) : (modSess n f s).blk = s.blk := rfl
@[simp] theorem modSess_port (n : Fin 8) (f : Sess → Sess) (s : State) : (modSess n f s).port = s.port := rfl
@[simp] theorem modSess_ev (n : Fin 8) (f : Sess → Sess) (s : State) : (modSess n f s).ev = s.ev := rfl
@[simp] theorem modSess_mbx (n : Fin 8) (f : Sess → Sess) (s : State) : (modSess n f s).mbx = s.mbx := rfl
@[simp] theorem modSess_fe (n : Fin 8) (f : Sess → Sess) (s : State) : (modSess n f s).fe = s.fe := rfl
@[simp] theorem modSess_nvFe (n : Fin 8) (f : Sess → Sess) (s : State) : (modSess n f s).nvFe = s.nvFe := rfl
@[simp] theorem modSess_filt (n : Fin 8) (f : Sess → Sess) (s : State) : (modSess n f s).filt = s.filt := rfl
@[simp] theorem modSess_en (n : Fin 8) (f : Sess → Sess) (s : State) : (modSess n f s).en = s.en := rfl
@[simp] theorem modSess_p100 (n : Fin 8) (f : Sess → Sess) (s : State) : (modSess n f s).p100 = s.p100 := rfl
@[simp] theorem modSess_pfw (n : Fin 8) (f : Sess → Sess) (s : State) : (modSess n f s).pfw = s.pfw := rfl
@[simp] theorem modSess_nvBill (n : Fin 8) (f : Sess → Sess) (s : State) : (modSess n f s).nvBill = s.nvBill := rfl
@[simp] theorem modSess_bill (n : Fin 8) (f : Sess → Sess) (s : State) : (modSess n f s).bill = s.bill := rfl
@[simp] theorem modSess_led (n : Fin 8) (f : Sess → Sess) (s : State) : (modSess n f s).led = s.led := rfl
@[simp] theorem modSess_nvPt (n : Fin 8) (f : Sess → Sess) (s : State) : (modSess n f s).nvPt = s.nvPt := rfl
@[simp] theorem modSess_nvSafe (n : Fin 8) (f : Sess → Sess) (s : State) : (modSess n f s).nvSafe = s.nvSafe := rfl
@[simp] theorem modSess_pilot (n : Fin 8) (f : Sess → Sess) (s : State) : (modSess n f s).pilot = s.pilot := rfl
@[simp] theorem modSess_sess (n : Fin 8) (f : Sess → Sess) (s : State) : (modSess n f s).sess = vmod s.sess n f := rfl
@[simp] theorem modSess_hlc (n : Fin 8) (f : Sess → Sess) (s : State) : (modSess n f s).hlc = s.hlc := rfl
@[simp] theorem modSess_can (n : Fin 8) (f : Sess → Sess) (s : State) : (modSess n f s).can = s.can := rfl
@[simp] theorem modSess_earth (n : Fin 8) (f : Sess → Sess) (s : State) : (modSess n f s).earth = s.earth := rfl
@[simp] theorem modSess_earthDev (n : Fin 8) (f : Sess → Sess) (s : State) : (modSess n f s).earthDev = s.earthDev := rfl
@[simp] theorem modSess_safe (n : Fin 8) (f : Sess → Sess) (s : State) : (modSess n f s).safe = s.safe := rfl
@[simp] theorem modSess_safeDev (n : Fin 8) (f : Sess → Sess) (s : State) : (modSess n f s).safeDev = s.safeDev := rfl
@[simp] theorem modSess_nvCh (n : Fin 8) (f : Sess → Sess) (s : State) : (modSess n f s).nvCh = s.nvCh := rfl
@[simp] theorem modSess_sw (n : Fin 8) (f : Sess → Sess) (s : State) : (modSess n f s).sw = s.sw := rfl
@[simp] theorem modSess_lists (n : Fin 8) (f : Sess → Sess) (s : State) : (modSess n f s).lists = s.lists := rfl
@[simp] theorem modSess_rdr (n : Fin 8) (f : Sess → Sess) (s : State) : (modSess n f s).rdr = s.rdr := rfl
@[simp] theorem modSess_fst (n : Fin 8) (f : Sess → Sess) (s : State) : (modSess n f s).fst = s.fst := rfl
@[simp] theorem modSess_nvFst (n : Fin 8) (f : Sess → Sess) (s : State) : (modSess n f s).nvFst = s.nvFst := rfl
@[simp] theorem modSess_tdr (n : Fin 8) (f : Sess → Sess) (s : State) : (modSess n f s).tdr = s.tdr := rfl
@[simp] theorem modSess_nvDsp (n : Fin 8) (f : Sess → Sess) (s : State) : (modSess n f s).nvDsp = s.nvDsp := rfl
@[simp] theorem modSess_dsp (n : Fin 8) (f : Sess → Sess) (s : State) : (modSess n f s).dsp = s.dsp := rfl
@[simp] theorem modSess_nvKey (n : Fin 8) (f : Sess → Sess) (s : State) : (modSess n f s).nvKey = s.nvKey := rfl
@[simp] theorem modSess_key (n : Fin 8) (f : Sess → Sess) (s : State) : (modSess n f s).key = s.key := rfl
@[simp] theorem modSess_upd (n : Fin 8) (f : Sess → Sess) (s : State) : (modSess n f s).upd = s.upd := rfl

/-! ## modHlc -/

@[simp] theorem modHlc_pending (n : Fin 8) (f : Hlc → Hlc) (s : State) : (modHlc n f s).pending = s.pending := rfl
@[simp] theorem modHlc_member (n : Fin 8) (f : Hlc → Hlc) (s : State) : (modHlc n f s).member = s.member := rfl
@[simp] theorem modHlc_clk (n : Fin 8) (f : Hlc → Hlc) (s : State) : (modHlc n f s).clk = s.clk := rfl
@[simp] theorem modHlc_pwr (n : Fin 8) (f : Hlc → Hlc) (s : State) : (modHlc n f s).pwr = s.pwr := rfl
@[simp] theorem modHlc_tail (n : Fin 8) (f : Hlc → Hlc) (s : State) : (modHlc n f s).tail = s.tail := rfl
@[simp] theorem modHlc_blk (n : Fin 8) (f : Hlc → Hlc) (s : State) : (modHlc n f s).blk = s.blk := rfl
@[simp] theorem modHlc_port (n : Fin 8) (f : Hlc → Hlc) (s : State) : (modHlc n f s).port = s.port := rfl
@[simp] theorem modHlc_ev (n : Fin 8) (f : Hlc → Hlc) (s : State) : (modHlc n f s).ev = s.ev := rfl
@[simp] theorem modHlc_mbx (n : Fin 8) (f : Hlc → Hlc) (s : State) : (modHlc n f s).mbx = s.mbx := rfl
@[simp] theorem modHlc_fe (n : Fin 8) (f : Hlc → Hlc) (s : State) : (modHlc n f s).fe = s.fe := rfl
@[simp] theorem modHlc_nvFe (n : Fin 8) (f : Hlc → Hlc) (s : State) : (modHlc n f s).nvFe = s.nvFe := rfl
@[simp] theorem modHlc_filt (n : Fin 8) (f : Hlc → Hlc) (s : State) : (modHlc n f s).filt = s.filt := rfl
@[simp] theorem modHlc_en (n : Fin 8) (f : Hlc → Hlc) (s : State) : (modHlc n f s).en = s.en := rfl
@[simp] theorem modHlc_p100 (n : Fin 8) (f : Hlc → Hlc) (s : State) : (modHlc n f s).p100 = s.p100 := rfl
@[simp] theorem modHlc_pfw (n : Fin 8) (f : Hlc → Hlc) (s : State) : (modHlc n f s).pfw = s.pfw := rfl
@[simp] theorem modHlc_nvBill (n : Fin 8) (f : Hlc → Hlc) (s : State) : (modHlc n f s).nvBill = s.nvBill := rfl
@[simp] theorem modHlc_bill (n : Fin 8) (f : Hlc → Hlc) (s : State) : (modHlc n f s).bill = s.bill := rfl
@[simp] theorem modHlc_led (n : Fin 8) (f : Hlc → Hlc) (s : State) : (modHlc n f s).led = s.led := rfl
@[simp] theorem modHlc_nvPt (n : Fin 8) (f : Hlc → Hlc) (s : State) : (modHlc n f s).nvPt = s.nvPt := rfl
@[simp] theorem modHlc_nvSafe (n : Fin 8) (f : Hlc → Hlc) (s : State) : (modHlc n f s).nvSafe = s.nvSafe := rfl
@[simp] theorem modHlc_pilot (n : Fin 8) (f : Hlc → Hlc) (s : State) : (modHlc n f s).pilot = s.pilot := rfl
@[simp] theorem modHlc_sess (n : Fin 8) (f : Hlc → Hlc) (s : State) : (modHlc n f s).sess = s.sess := rfl
@[simp] theorem modHlc_hlc (n : Fin 8) (f : Hlc → Hlc) (s : State) : (modHlc n f s).hlc = vmod s.hlc n f := rfl
@[simp] theorem modHlc_can (n : Fin 8) (f : Hlc → Hlc) (s : State) : (modHlc n f s).can = s.can := rfl
@[simp] theorem modHlc_earth (n : Fin 8) (f : Hlc → Hlc) (s : State) : (modHlc n f s).earth = s.earth := rfl
@[simp] theorem modHlc_earthDev (n : Fin 8) (f : Hlc → Hlc) (s : State) : (modHlc n f s).earthDev = s.earthDev := rfl
@[simp] theorem modHlc_safe (n : Fin 8) (f : Hlc → Hlc) (s : State) : (modHlc n f s).safe = s.safe := rfl
@[simp] theorem modHlc_safeDev (n : Fin 8) (f : Hlc → Hlc) (s : State) : (modHlc n f s).safeDev = s.safeDev := rfl
@[simp] theorem modHlc_nvCh (n : Fin 8) (f : Hlc → Hlc) (s : State) : (modHlc n f s).nvCh = s.nvCh := rfl
@[simp] theorem modHlc_sw (n : Fin 8) (f : Hlc → Hlc) (s : State) : (modHlc n f s).sw = s.sw := rfl
@[simp] theorem modHlc_lists (n : Fin 8) (f : Hlc → Hlc) (s : State) : (modHlc n f s).lists = s.lists := rfl
@[simp] theorem modHlc_rdr (n : Fin 8) (f : Hlc → Hlc) (s : State) : (modHlc n f s).rdr = s.rdr := rfl
@[simp] theorem modHlc_fst (n : Fin 8) (f : Hlc → Hlc) (s : State) : (modHlc n f s).fst = s.fst := rfl
@[simp] theorem modHlc_nvFst (n : Fin 8) (f : Hlc → Hlc) (s : State) : (modHlc n f s).nvFst = s.nvFst := rfl
@[simp] theorem modHlc_tdr (n : Fin 8) (f : Hlc → Hlc) (s : State) : (modHlc n f s).tdr = s.tdr := rfl
@[simp] theorem modHlc_nvDsp (n : Fin 8) (f : Hlc → Hlc) (s : State) : (modHlc n f s).nvDsp = s.nvDsp := rfl
@[simp] theorem modHlc_dsp (n : Fin 8) (f : Hlc → Hlc) (s : State) : (modHlc n f s).dsp = s.dsp := rfl
@[simp] theorem modHlc_nvKey (n : Fin 8) (f : Hlc → Hlc) (s : State) : (modHlc n f s).nvKey = s.nvKey := rfl
@[simp] theorem modHlc_key (n : Fin 8) (f : Hlc → Hlc) (s : State) : (modHlc n f s).key = s.key := rfl
@[simp] theorem modHlc_upd (n : Fin 8) (f : Hlc → Hlc) (s : State) : (modHlc n f s).upd = s.upd := rfl

/-! ## modSafe -/

@[simp] theorem modSafe_pending (n : Fin 8) (f : Safe → Safe) (s : State) : (modSafe n f s).pending = s.pending := rfl
@[simp] theorem modSafe_member (n : Fin 8) (f : Safe → Safe) (s : State) : (modSafe n f s).member = s.member := rfl
@[simp] theorem modSafe_clk (n : Fin 8) (f : Safe → Safe) (s : State) : (modSafe n f s).clk = s.clk := rfl
@[simp] theorem modSafe_pwr (n : Fin 8) (f : Safe → Safe) (s : State) : (modSafe n f s).pwr = s.pwr := rfl
@[simp] theorem modSafe_tail (n : Fin 8) (f : Safe → Safe) (s : State) : (modSafe n f s).tail = s.tail := rfl
@[simp] theorem modSafe_blk (n : Fin 8) (f : Safe → Safe) (s : State) : (modSafe n f s).blk = s.blk := rfl
@[simp] theorem modSafe_port (n : Fin 8) (f : Safe → Safe) (s : State) : (modSafe n f s).port = s.port := rfl
@[simp] theorem modSafe_ev (n : Fin 8) (f : Safe → Safe) (s : State) : (modSafe n f s).ev = s.ev := rfl
@[simp] theorem modSafe_mbx (n : Fin 8) (f : Safe → Safe) (s : State) : (modSafe n f s).mbx = s.mbx := rfl
@[simp] theorem modSafe_fe (n : Fin 8) (f : Safe → Safe) (s : State) : (modSafe n f s).fe = s.fe := rfl
@[simp] theorem modSafe_nvFe (n : Fin 8) (f : Safe → Safe) (s : State) : (modSafe n f s).nvFe = s.nvFe := rfl
@[simp] theorem modSafe_filt (n : Fin 8) (f : Safe → Safe) (s : State) : (modSafe n f s).filt = s.filt := rfl
@[simp] theorem modSafe_en (n : Fin 8) (f : Safe → Safe) (s : State) : (modSafe n f s).en = s.en := rfl
@[simp] theorem modSafe_p100 (n : Fin 8) (f : Safe → Safe) (s : State) : (modSafe n f s).p100 = s.p100 := rfl
@[simp] theorem modSafe_pfw (n : Fin 8) (f : Safe → Safe) (s : State) : (modSafe n f s).pfw = s.pfw := rfl
@[simp] theorem modSafe_nvBill (n : Fin 8) (f : Safe → Safe) (s : State) : (modSafe n f s).nvBill = s.nvBill := rfl
@[simp] theorem modSafe_bill (n : Fin 8) (f : Safe → Safe) (s : State) : (modSafe n f s).bill = s.bill := rfl
@[simp] theorem modSafe_led (n : Fin 8) (f : Safe → Safe) (s : State) : (modSafe n f s).led = s.led := rfl
@[simp] theorem modSafe_nvPt (n : Fin 8) (f : Safe → Safe) (s : State) : (modSafe n f s).nvPt = s.nvPt := rfl
@[simp] theorem modSafe_nvSafe (n : Fin 8) (f : Safe → Safe) (s : State) : (modSafe n f s).nvSafe = s.nvSafe := rfl
@[simp] theorem modSafe_pilot (n : Fin 8) (f : Safe → Safe) (s : State) : (modSafe n f s).pilot = s.pilot := rfl
@[simp] theorem modSafe_sess (n : Fin 8) (f : Safe → Safe) (s : State) : (modSafe n f s).sess = s.sess := rfl
@[simp] theorem modSafe_hlc (n : Fin 8) (f : Safe → Safe) (s : State) : (modSafe n f s).hlc = s.hlc := rfl
@[simp] theorem modSafe_can (n : Fin 8) (f : Safe → Safe) (s : State) : (modSafe n f s).can = s.can := rfl
@[simp] theorem modSafe_earth (n : Fin 8) (f : Safe → Safe) (s : State) : (modSafe n f s).earth = s.earth := rfl
@[simp] theorem modSafe_earthDev (n : Fin 8) (f : Safe → Safe) (s : State) : (modSafe n f s).earthDev = s.earthDev := rfl
@[simp] theorem modSafe_safe (n : Fin 8) (f : Safe → Safe) (s : State) : (modSafe n f s).safe = vmod s.safe n f := rfl
@[simp] theorem modSafe_safeDev (n : Fin 8) (f : Safe → Safe) (s : State) : (modSafe n f s).safeDev = s.safeDev := rfl
@[simp] theorem modSafe_nvCh (n : Fin 8) (f : Safe → Safe) (s : State) : (modSafe n f s).nvCh = s.nvCh := rfl
@[simp] theorem modSafe_sw (n : Fin 8) (f : Safe → Safe) (s : State) : (modSafe n f s).sw = s.sw := rfl
@[simp] theorem modSafe_lists (n : Fin 8) (f : Safe → Safe) (s : State) : (modSafe n f s).lists = s.lists := rfl
@[simp] theorem modSafe_rdr (n : Fin 8) (f : Safe → Safe) (s : State) : (modSafe n f s).rdr = s.rdr := rfl
@[simp] theorem modSafe_fst (n : Fin 8) (f : Safe → Safe) (s : State) : (modSafe n f s).fst = s.fst := rfl
@[simp] theorem modSafe_nvFst (n : Fin 8) (f : Safe → Safe) (s : State) : (modSafe n f s).nvFst = s.nvFst := rfl
@[simp] theorem modSafe_tdr (n : Fin 8) (f : Safe → Safe) (s : State) : (modSafe n f s).tdr = s.tdr := rfl
@[simp] theorem modSafe_nvDsp (n : Fin 8) (f : Safe → Safe) (s : State) : (modSafe n f s).nvDsp = s.nvDsp := rfl
@[simp] theorem modSafe_dsp (n : Fin 8) (f : Safe → Safe) (s : State) : (modSafe n f s).dsp = s.dsp := rfl
@[simp] theorem modSafe_nvKey (n : Fin 8) (f : Safe → Safe) (s : State) : (modSafe n f s).nvKey = s.nvKey := rfl
@[simp] theorem modSafe_key (n : Fin 8) (f : Safe → Safe) (s : State) : (modSafe n f s).key = s.key := rfl
@[simp] theorem modSafe_upd (n : Fin 8) (f : Safe → Safe) (s : State) : (modSafe n f s).upd = s.upd := rfl

/-! ## modEarth -/

@[simp] theorem modEarth_pending (n : Fin 8) (f : Earth → Earth) (s : State) : (modEarth n f s).pending = s.pending := rfl
@[simp] theorem modEarth_member (n : Fin 8) (f : Earth → Earth) (s : State) : (modEarth n f s).member = s.member := rfl
@[simp] theorem modEarth_clk (n : Fin 8) (f : Earth → Earth) (s : State) : (modEarth n f s).clk = s.clk := rfl
@[simp] theorem modEarth_pwr (n : Fin 8) (f : Earth → Earth) (s : State) : (modEarth n f s).pwr = s.pwr := rfl
@[simp] theorem modEarth_tail (n : Fin 8) (f : Earth → Earth) (s : State) : (modEarth n f s).tail = s.tail := rfl
@[simp] theorem modEarth_blk (n : Fin 8) (f : Earth → Earth) (s : State) : (modEarth n f s).blk = s.blk := rfl
@[simp] theorem modEarth_port (n : Fin 8) (f : Earth → Earth) (s : State) : (modEarth n f s).port = s.port := rfl
@[simp] theorem modEarth_ev (n : Fin 8) (f : Earth → Earth) (s : State) : (modEarth n f s).ev = s.ev := rfl
@[simp] theorem modEarth_mbx (n : Fin 8) (f : Earth → Earth) (s : State) : (modEarth n f s).mbx = s.mbx := rfl
@[simp] theorem modEarth_fe (n : Fin 8) (f : Earth → Earth) (s : State) : (modEarth n f s).fe = s.fe := rfl
@[simp] theorem modEarth_nvFe (n : Fin 8) (f : Earth → Earth) (s : State) : (modEarth n f s).nvFe = s.nvFe := rfl
@[simp] theorem modEarth_filt (n : Fin 8) (f : Earth → Earth) (s : State) : (modEarth n f s).filt = s.filt := rfl
@[simp] theorem modEarth_en (n : Fin 8) (f : Earth → Earth) (s : State) : (modEarth n f s).en = s.en := rfl
@[simp] theorem modEarth_p100 (n : Fin 8) (f : Earth → Earth) (s : State) : (modEarth n f s).p100 = s.p100 := rfl
@[simp] theorem modEarth_pfw (n : Fin 8) (f : Earth → Earth) (s : State) : (modEarth n f s).pfw = s.pfw := rfl
@[simp] theorem modEarth_nvBill (n : Fin 8) (f : Earth → Earth) (s : State) : (modEarth n f s).nvBill = s.nvBill := rfl
@[simp] theorem modEarth_bill (n : Fin 8) (f : Earth → Earth) (s : State) : (modEarth n f s).bill = s.bill := rfl
@[simp] theorem modEarth_led (n : Fin 8) (f : Earth → Earth) (s : State) : (modEarth n f s).led = s.led := rfl
@[simp] theorem modEarth_nvPt (n : Fin 8) (f : Earth → Earth) (s : State) : (modEarth n f s).nvPt = s.nvPt := rfl
@[simp] theorem modEarth_nvSafe (n : Fin 8) (f : Earth → Earth) (s : State) : (modEarth n f s).nvSafe = s.nvSafe := rfl
@[simp] theorem modEarth_pilot (n : Fin 8) (f : Earth → Earth) (s : State) : (modEarth n f s).pilot = s.pilot := rfl
@[simp] theorem modEarth_sess (n : Fin 8) (f : Earth → Earth) (s : State) : (modEarth n f s).sess = s.sess := rfl
@[simp] theorem modEarth_hlc (n : Fin 8) (f : Earth → Earth) (s : State) : (modEarth n f s).hlc = s.hlc := rfl
@[simp] theorem modEarth_can (n : Fin 8) (f : Earth → Earth) (s : State) : (modEarth n f s).can = s.can := rfl
@[simp] theorem modEarth_earth (n : Fin 8) (f : Earth → Earth) (s : State) : (modEarth n f s).earth = vmod s.earth n f := rfl
@[simp] theorem modEarth_earthDev (n : Fin 8) (f : Earth → Earth) (s : State) : (modEarth n f s).earthDev = s.earthDev := rfl
@[simp] theorem modEarth_safe (n : Fin 8) (f : Earth → Earth) (s : State) : (modEarth n f s).safe = s.safe := rfl
@[simp] theorem modEarth_safeDev (n : Fin 8) (f : Earth → Earth) (s : State) : (modEarth n f s).safeDev = s.safeDev := rfl
@[simp] theorem modEarth_nvCh (n : Fin 8) (f : Earth → Earth) (s : State) : (modEarth n f s).nvCh = s.nvCh := rfl
@[simp] theorem modEarth_sw (n : Fin 8) (f : Earth → Earth) (s : State) : (modEarth n f s).sw = s.sw := rfl
@[simp] theorem modEarth_lists (n : Fin 8) (f : Earth → Earth) (s : State) : (modEarth n f s).lists = s.lists := rfl
@[simp] theorem modEarth_rdr (n : Fin 8) (f : Earth → Earth) (s : State) : (modEarth n f s).rdr = s.rdr := rfl
@[simp] theorem modEarth_fst (n : Fin 8) (f : Earth → Earth) (s : State) : (modEarth n f s).fst = s.fst := rfl
@[simp] theorem modEarth_nvFst (n : Fin 8) (f : Earth → Earth) (s : State) : (modEarth n f s).nvFst = s.nvFst := rfl
@[simp] theorem modEarth_tdr (n : Fin 8) (f : Earth → Earth) (s : State) : (modEarth n f s).tdr = s.tdr := rfl
@[simp] theorem modEarth_nvDsp (n : Fin 8) (f : Earth → Earth) (s : State) : (modEarth n f s).nvDsp = s.nvDsp := rfl
@[simp] theorem modEarth_dsp (n : Fin 8) (f : Earth → Earth) (s : State) : (modEarth n f s).dsp = s.dsp := rfl
@[simp] theorem modEarth_nvKey (n : Fin 8) (f : Earth → Earth) (s : State) : (modEarth n f s).nvKey = s.nvKey := rfl
@[simp] theorem modEarth_key (n : Fin 8) (f : Earth → Earth) (s : State) : (modEarth n f s).key = s.key := rfl
@[simp] theorem modEarth_upd (n : Fin 8) (f : Earth → Earth) (s : State) : (modEarth n f s).upd = s.upd := rfl

/-! ## modNvPt -/

@[simp] theorem modNvPt_pending (n : Fin 8) (f : NvPoint → NvPoint) (s : State) : (modNvPt n f s).pending = s.pending := rfl
@[simp] theorem modNvPt_member (n : Fin 8) (f : NvPoint → NvPoint) (s : State) : (modNvPt n f s).member = s.member := rfl
@[simp] theorem modNvPt_clk (n : Fin 8) (f : NvPoint → NvPoint) (s : State) : (modNvPt n f s).clk = s.clk := rfl
@[simp] theorem modNvPt_pwr (n : Fin 8) (f : NvPoint → NvPoint) (s : State) : (modNvPt n f s).pwr = s.pwr := rfl
@[simp] theorem modNvPt_tail (n : Fin 8) (f : NvPoint → NvPoint) (s : State) : (modNvPt n f s).tail = s.tail := rfl
@[simp] theorem modNvPt_blk (n : Fin 8) (f : NvPoint → NvPoint) (s : State) : (modNvPt n f s).blk = s.blk := rfl
@[simp] theorem modNvPt_port (n : Fin 8) (f : NvPoint → NvPoint) (s : State) : (modNvPt n f s).port = s.port := rfl
@[simp] theorem modNvPt_ev (n : Fin 8) (f : NvPoint → NvPoint) (s : State) : (modNvPt n f s).ev = s.ev := rfl
@[simp] theorem modNvPt_mbx (n : Fin 8) (f : NvPoint → NvPoint) (s : State) : (modNvPt n f s).mbx = s.mbx := rfl
@[simp] theorem modNvPt_fe (n : Fin 8) (f : NvPoint → NvPoint) (s : State) : (modNvPt n f s).fe = s.fe := rfl
@[simp] theorem modNvPt_nvFe (n : Fin 8) (f : NvPoint → NvPoint) (s : State) : (modNvPt n f s).nvFe = s.nvFe := rfl
@[simp] theorem modNvPt_filt (n : Fin 8) (f : NvPoint → NvPoint) (s : State) : (modNvPt n f s).filt = s.filt := rfl
@[simp] theorem modNvPt_en (n : Fin 8) (f : NvPoint → NvPoint) (s : State) : (modNvPt n f s).en = s.en := rfl
@[simp] theorem modNvPt_p100 (n : Fin 8) (f : NvPoint → NvPoint) (s : State) : (modNvPt n f s).p100 = s.p100 := rfl
@[simp] theorem modNvPt_pfw (n : Fin 8) (f : NvPoint → NvPoint) (s : State) : (modNvPt n f s).pfw = s.pfw := rfl
@[simp] theorem modNvPt_nvBill (n : Fin 8) (f : NvPoint → NvPoint) (s : State) : (modNvPt n f s).nvBill = s.nvBill := rfl
@[simp] theorem modNvPt_bill (n : Fin 8) (f : NvPoint → NvPoint) (s : State) : (modNvPt n f s).bill = s.bill := rfl
@[simp] theorem modNvPt_led (n : Fin 8) (f : NvPoint → NvPoint) (s : State) : (modNvPt n f s).led = s.led := rfl
@[simp] theorem modNvPt_nvPt (n : Fin 8) (f : NvPoint → NvPoint) (s : State) : (modNvPt n f s).nvPt = vmod s.nvPt n f := rfl
@[simp] theorem modNvPt_nvSafe (n : Fin 8) (f : NvPoint → NvPoint) (s : State) : (modNvPt n f s).nvSafe = s.nvSafe := rfl
@[simp] theorem modNvPt_pilot (n : Fin 8) (f : NvPoint → NvPoint) (s : State) : (modNvPt n f s).pilot = s.pilot := rfl
@[simp] theorem modNvPt_sess (n : Fin 8) (f : NvPoint → NvPoint) (s : State) : (modNvPt n f s).sess = s.sess := rfl
@[simp] theorem modNvPt_hlc (n : Fin 8) (f : NvPoint → NvPoint) (s : State) : (modNvPt n f s).hlc = s.hlc := rfl
@[simp] theorem modNvPt_can (n : Fin 8) (f : NvPoint → NvPoint) (s : State) : (modNvPt n f s).can = s.can := rfl
@[simp] theorem modNvPt_earth (n : Fin 8) (f : NvPoint → NvPoint) (s : State) : (modNvPt n f s).earth = s.earth := rfl
@[simp] theorem modNvPt_earthDev (n : Fin 8) (f : NvPoint → NvPoint) (s : State) : (modNvPt n f s).earthDev = s.earthDev := rfl
@[simp] theorem modNvPt_safe (n : Fin 8) (f : NvPoint → NvPoint) (s : State) : (modNvPt n f s).safe = s.safe := rfl
@[simp] theorem modNvPt_safeDev (n : Fin 8) (f : NvPoint → NvPoint) (s : State) : (modNvPt n f s).safeDev = s.safeDev := rfl
@[simp] theorem modNvPt_nvCh (n : Fin 8) (f : NvPoint → NvPoint) (s : State) : (modNvPt n f s).nvCh = s.nvCh := rfl
@[simp] theorem modNvPt_sw (n : Fin 8) (f : NvPoint → NvPoint) (s : State) : (modNvPt n f s).sw = s.sw := rfl
@[simp] theorem modNvPt_lists (n : Fin 8) (f : NvPoint → NvPoint) (s : State) : (modNvPt n f s).lists = s.lists := rfl
@[simp] theorem modNvPt_rdr (n : Fin 8) (f : NvPoint → NvPoint) (s : State) : (modNvPt n f s).rdr = s.rdr := rfl
@[simp] theorem modNvPt_fst (n : Fin 8) (f : NvPoint → NvPoint) (s : State) : (modNvPt n f s).fst = s.fst := rfl
@[simp] theorem modNvPt_nvFst (n : Fin 8) (f : NvPoint → NvPoint) (s : State) : (modNvPt n f s).nvFst = s.nvFst := rfl
@[simp] theorem modNvPt_tdr (n : Fin 8) (f : NvPoint → NvPoint) (s : State) : (modNvPt n f s).tdr = s.tdr := rfl
@[simp] theorem modNvPt_nvDsp (n : Fin 8) (f : NvPoint → NvPoint) (s : State) : (modNvPt n f s).nvDsp = s.nvDsp := rfl
@[simp] theorem modNvPt_dsp (n : Fin 8) (f : NvPoint → NvPoint) (s : State) : (modNvPt n f s).dsp = s.dsp := rfl
@[simp] theorem modNvPt_nvKey (n : Fin 8) (f : NvPoint → NvPoint) (s : State) : (modNvPt n f s).nvKey = s.nvKey := rfl
@[simp] theorem modNvPt_key (n : Fin 8) (f : NvPoint → NvPoint) (s : State) : (modNvPt n f s).key = s.key := rfl
@[simp] theorem modNvPt_upd (n : Fin 8) (f : NvPoint → NvPoint) (s : State) : (modNvPt n f s).upd = s.upd := rfl

/-! ## modChan -/

@[simp] theorem modChan_pending (c : Fin 24) (f : Chan → Chan) (s : State) : (modChan c f s).pending = s.pending := rfl
@[simp] theorem modChan_member (c : Fin 24) (f : Chan → Chan) (s : State) : (modChan c f s).member = s.member := rfl
@[simp] theorem modChan_clk (c : Fin 24) (f : Chan → Chan) (s : State) : (modChan c f s).clk = s.clk := rfl
@[simp] theorem modChan_pwr (c : Fin 24) (f : Chan → Chan) (s : State) : (modChan c f s).pwr = s.pwr := rfl
@[simp] theorem modChan_tail (c : Fin 24) (f : Chan → Chan) (s : State) : (modChan c f s).tail = s.tail := rfl
@[simp] theorem modChan_blk (c : Fin 24) (f : Chan → Chan) (s : State) : (modChan c f s).blk = s.blk := rfl
@[simp] theorem modChan_port (c : Fin 24) (f : Chan → Chan) (s : State) : (modChan c f s).port = s.port := rfl
@[simp] theorem modChan_ev (c : Fin 24) (f : Chan → Chan) (s : State) : (modChan c f s).ev = s.ev := rfl
@[simp] theorem modChan_mbx (c : Fin 24) (f : Chan → Chan) (s : State) : (modChan c f s).mbx = s.mbx := rfl
@[simp] theorem modChan_fe (c : Fin 24) (f : Chan → Chan) (s : State) : (modChan c f s).fe = s.fe := rfl
@[simp] theorem modChan_nvFe (c : Fin 24) (f : Chan → Chan) (s : State) : (modChan c f s).nvFe = s.nvFe := rfl
@[simp] theorem modChan_filt (c : Fin 24) (f : Chan → Chan) (s : State) : (modChan c f s).filt = s.filt := rfl
@[simp] theorem modChan_en (c : Fin 24) (f : Chan → Chan) (s : State) : (modChan c f s).en = s.en := rfl
@[simp] theorem modChan_p100 (c : Fin 24) (f : Chan → Chan) (s : State) : (modChan c f s).p100 = s.p100 := rfl
@[simp] theorem modChan_pfw (c : Fin 24) (f : Chan → Chan) (s : State) : (modChan c f s).pfw = s.pfw := rfl
@[simp] theorem modChan_nvBill (c : Fin 24) (f : Chan → Chan) (s : State) : (modChan c f s).nvBill = s.nvBill := rfl
@[simp] theorem modChan_bill (c : Fin 24) (f : Chan → Chan) (s : State) : (modChan c f s).bill = s.bill := rfl
@[simp] theorem modChan_led (c : Fin 24) (f : Chan → Chan) (s : State) : (modChan c f s).led = s.led := rfl
@[simp] theorem modChan_nvPt (c : Fin 24) (f : Chan → Chan) (s : State) : (modChan c f s).nvPt = s.nvPt := rfl
@[simp] theorem modChan_nvSafe (c : Fin 24) (f : Chan → Chan) (s : State) : (modChan c f s).nvSafe = s.nvSafe := rfl
@[simp] theorem modChan_pilot (c : Fin 24) (f : Chan → Chan) (s : State) : (modChan c f s).pilot = s.pilot := rfl
@[simp] theorem modChan_sess (c : Fin 24) (f : Chan → Chan) (s : State) : (modChan c f s).sess = s.sess := rfl
@[simp] theorem modChan_hlc (c : Fin 24) (f : Chan → Chan) (s : State) : (modChan c f s).hlc = s.hlc := rfl
@[simp] theorem modChan_can (c : Fin 24) (f : Chan → Chan) (s : State) : (modChan c f s).can = s.can := rfl
@[simp] theorem modChan_earth (c : Fin 24) (f : Chan → Chan) (s : State) : (modChan c f s).earth = s.earth := rfl
@[simp] theorem modChan_earthDev (c : Fin 24) (f : Chan → Chan) (s : State) : (modChan c f s).earthDev = s.earthDev := rfl
@[simp] theorem modChan_safe (c : Fin 24) (f : Chan → Chan) (s : State) : (modChan c f s).safe = s.safe := rfl
@[simp] theorem modChan_safeDev (c : Fin 24) (f : Chan → Chan) (s : State) : (modChan c f s).safeDev = s.safeDev := rfl
@[simp] theorem modChan_nvCh (c : Fin 24) (f : Chan → Chan) (s : State) : (modChan c f s).nvCh = s.nvCh := rfl
@[simp] theorem modChan_sw (c : Fin 24) (f : Chan → Chan) (s : State) : (modChan c f s).sw = { s.sw with ch := vmod s.sw.ch c f } := rfl
@[simp] theorem modChan_lists (c : Fin 24) (f : Chan → Chan) (s : State) : (modChan c f s).lists = s.lists := rfl
@[simp] theorem modChan_rdr (c : Fin 24) (f : Chan → Chan) (s : State) : (modChan c f s).rdr = s.rdr := rfl
@[simp] theorem modChan_fst (c : Fin 24) (f : Chan → Chan) (s : State) : (modChan c f s).fst = s.fst := rfl
@[simp] theorem modChan_nvFst (c : Fin 24) (f : Chan → Chan) (s : State) : (modChan c f s).nvFst = s.nvFst := rfl
@[simp] theorem modChan_tdr (c : Fin 24) (f : Chan → Chan) (s : State) : (modChan c f s).tdr = s.tdr := rfl
@[simp] theorem modChan_nvDsp (c : Fin 24) (f : Chan → Chan) (s : State) : (modChan c f s).nvDsp = s.nvDsp := rfl
@[simp] theorem modChan_dsp (c : Fin 24) (f : Chan → Chan) (s : State) : (modChan c f s).dsp = s.dsp := rfl
@[simp] theorem modChan_nvKey (c : Fin 24) (f : Chan → Chan) (s : State) : (modChan c f s).nvKey = s.nvKey := rfl
@[simp] theorem modChan_key (c : Fin 24) (f : Chan → Chan) (s : State) : (modChan c f s).key = s.key := rfl
@[simp] theorem modChan_upd (c : Fin 24) (f : Chan → Chan) (s : State) : (modChan c f s).upd = s.upd := rfl

/-! ## modNvCh -/

@[simp] theorem modNvCh_pending (c : Fin 24) (f : NvChan → NvChan) (s : State) : (modNvCh c f s).pending = s.pending := rfl
@[simp] theorem modNvCh_member (c : Fin 24) (f : NvChan → NvChan) (s : State) : (modNvCh c f s).member = s.member := rfl
@[simp] theorem modNvCh_clk (c : Fin 24) (f : NvChan → NvChan) (s : State) : (modNvCh c f s).clk = s.clk := rfl
@[simp] theorem modNvCh_pwr (c : Fin 24) (f : NvChan → NvChan) (s : State) : (modNvCh c f s).pwr = s.pwr := rfl
@[simp] theorem modNvCh_tail (c : Fin 24) (f : NvChan → NvChan) (s : State) : (modNvCh c f s).tail = s.tail := rfl
@[simp] theorem modNvCh_blk (c : Fin 24) (f : NvChan → NvChan) (s : State) : (modNvCh c f s).blk = s.blk := rfl
@[simp] theorem modNvCh_port (c : Fin 24) (f : NvChan → NvChan) (s : State) : (modNvCh c f s).port = s.port := rfl
@[simp] theorem modNvCh_ev (c : Fin 24) (f : NvChan → NvChan) (s : State) : (modNvCh c f s).ev = s.ev := rfl
@[simp] theorem modNvCh_mbx (c : Fin 24) (f : NvChan → NvChan) (s : State) : (modNvCh c f s).mbx = s.mbx := rfl
@[simp] theorem modNvCh_fe (c : Fin 24) (f : NvChan → NvChan) (s : State) : (modNvCh c f s).fe = s.fe := rfl
@[simp] theorem modNvCh_nvFe (c : Fin 24) (f : NvChan → NvChan) (s : State) : (modNvCh c f s).nvFe = s.nvFe := rfl
@[simp] theorem modNvCh_filt (c : Fin 24) (f : NvChan → NvChan) (s : State) : (modNvCh c f s).filt = s.filt := rfl
@[simp] theorem modNvCh_en (c : Fin 24) (f : NvChan → NvChan) (s : State) : (modNvCh c f s).en = s.en := rfl
@[simp] theorem modNvCh_p100 (c : Fin 24) (f : NvChan → NvChan) (s : State) : (modNvCh c f s).p100 = s.p100 := rfl
@[simp] theorem modNvCh_pfw (c : Fin 24) (f : NvChan → NvChan) (s : State) : (modNvCh c f s).pfw = s.pfw := rfl
@[simp] theorem modNvCh_nvBill (c : Fin 24) (f : NvChan → NvChan) (s : State) : (modNvCh c f s).nvBill = s.nvBill := rfl
@[simp] theorem modNvCh_bill (c : Fin 24) (f : NvChan → NvChan) (s : State) : (modNvCh c f s).bill = s.bill := rfl
@[simp] theorem modNvCh_led (c : Fin 24) (f : NvChan → NvChan) (s : State) : (modNvCh c f s).led = s.led := rfl
@[simp] theorem modNvCh_nvPt (c : Fin 24) (f : NvChan → NvChan) (s : State) : (modNvCh c f s).nvPt = s.nvPt := rfl
@[simp] theorem modNvCh_nvSafe (c : Fin 24) (f : NvChan → NvChan) (s : State) : (modNvCh c f s).nvSafe = s.nvSafe := rfl
@[simp] theorem modNvCh_pilot (c : Fin 24) (f : NvChan → NvChan) (s : State) : (modNvCh c f s).pilot = s.pilot := rfl
@[simp] theorem modNvCh_sess (c : Fin 24) (f : NvChan → NvChan) (s : State) : (modNvCh c f s).sess = s.sess := rfl
@[simp] theorem modNvCh_hlc (c : Fin 24) (f : NvChan → NvChan) (s : State) : (modNvCh c f s).hlc = s.hlc := rfl
@[simp] theorem modNvCh_can (c : Fin 24) (f : NvChan → NvChan) (s : State) : (modNvCh c f s).can = s.can := rfl
@[simp] theorem modNvCh_earth (c : Fin 24) (f : NvChan → NvChan) (s : State) : (modNvCh c f s).earth = s.earth := rfl
@[simp] theorem modNvCh_earthDev (c : Fin 24) (f : NvChan → NvChan) (s : State) : (modNvCh c f s).earthDev = s.earthDev := rfl
@[simp] theorem modNvCh_safe (c : Fin 24) (f : NvChan → NvChan) (s : State) : (modNvCh c f s).safe = s.safe := rfl
@[simp] theorem modNvCh_safeDev (c : Fin 24) (f : NvChan → NvChan) (s : State) : (modNvCh c f s).safeDev = s.safeDev := rfl
@[simp] theorem modNvCh_nvCh (c : Fin 24) (f : NvChan → NvChan) (s : State) : (modNvCh c f s).nvCh = vmod s.nvCh c f := rfl
@[simp] theorem modNvCh_sw (c : Fin 24) (f : NvChan → NvChan) (s : State) : (modNvCh c f s).sw = s.sw := rfl
@[simp] theorem modNvCh_lists (c : Fin 24) (f : NvChan → NvChan) (s : State) : (modNvCh c f s).lists = s.lists := rfl
@[simp] theorem modNvCh_rdr (c : Fin 24) (f : NvChan → NvChan) (s : State) : (modNvCh c f s).rdr = s.rdr := rfl
@[simp] theorem modNvCh_fst (c : Fin 24) (f : NvChan → NvChan) (s : State) : (modNvCh c f s).fst = s.fst := rfl
@[simp] theorem modNvCh_nvFst (c : Fin 24) (f : NvChan → NvChan) (s : State) : (modNvCh c f s).nvFst = s.nvFst := rfl
@[simp] theorem modNvCh_tdr (c : Fin 24) (f : NvChan → NvChan) (s : State) : (modNvCh c f s).tdr = s.tdr := rfl
@[simp] theorem modNvCh_nvDsp (c : Fin 24) (f : NvChan → NvChan) (s : State) : (modNvCh c f s).nvDsp = s.nvDsp := rfl
@[simp] theorem modNvCh_dsp (c : Fin 24) (f : NvChan → NvChan) (s : State) : (modNvCh c f s).dsp = s.dsp := rfl
@[simp] theorem modNvCh_nvKey (c : Fin 24) (f : NvChan → NvChan) (s : State) : (modNvCh c f s).nvKey = s.nvKey := rfl
@[simp] theorem modNvCh_key (c : Fin 24) (f : NvChan → NvChan) (s : State) : (modNvCh c f s).key = s.key := rfl
@[simp] theorem modNvCh_upd (c : Fin 24) (f : NvChan → NvChan) (s : State) : (modNvCh c f s).upd = s.upd := rfl

/-! ## modLock -/

@[simp] theorem modLock_pending (n : Fin 8) (f : Lock → Lock) (s : State) : (modLock n f s).pending = s.pending := rfl
@[simp] theorem modLock_member (n : Fin 8) (f : Lock → Lock) (s : State) : (modLock n f s).member = s.member := rfl
@[simp] theorem modLock_clk (n : Fin 8) (f : Lock → Lock) (s : State) : (modLock n f s).clk = s.clk := rfl
@[simp] theorem modLock_pwr (n : Fin 8) (f : Lock → Lock) (s : State) : (modLock n f s).pwr = s.pwr := rfl
@[simp] theorem modLock_tail (n : Fin 8) (f : Lock → Lock) (s : State) : (modLock n f s).tail = s.tail := rfl
@[simp] theorem modLock_blk (n : Fin 8) (f : Lock → Lock) (s : State) : (modLock n f s).blk = s.blk := rfl
@[simp] theorem modLock_port (n : Fin 8) (f : Lock → Lock) (s : State) : (modLock n f s).port = s.port := rfl
@[simp] theorem modLock_ev (n : Fin 8) (f : Lock → Lock) (s : State) : (modLock n f s).ev = s.ev := rfl
@[simp] theorem modLock_mbx (n : Fin 8) (f : Lock → Lock) (s : State) : (modLock n f s).mbx = s.mbx := rfl
@[simp] theorem modLock_fe (n : Fin 8) (f : Lock → Lock) (s : State) : (modLock n f s).fe = s.fe := rfl
@[simp] theorem modLock_nvFe (n : Fin 8) (f : Lock → Lock) (s : State) : (modLock n f s).nvFe = s.nvFe := rfl
@[simp] theorem modLock_filt (n : Fin 8) (f : Lock → Lock) (s : State) : (modLock n f s).filt = s.filt := rfl
@[simp] theorem modLock_en (n : Fin 8) (f : Lock → Lock) (s : State) : (modLock n f s).en = s.en := rfl
@[simp] theorem modLock_p100 (n : Fin 8) (f : Lock → Lock) (s : State) : (modLock n f s).p100 = s.p100 := rfl
@[simp] theorem modLock_pfw (n : Fin 8) (f : Lock → Lock) (s : State) : (modLock n f s).pfw = s.pfw := rfl
@[simp] theorem modLock_nvBill (n : Fin 8) (f : Lock → Lock) (s : State) : (modLock n f s).nvBill = s.nvBill := rfl
@[simp] theorem modLock_bill (n : Fin 8) (f : Lock → Lock) (s : State) : (modLock n f s).bill = s.bill := rfl
@[simp] theorem modLock_led (n : Fin 8) (f : Lock → Lock) (s : State) : (modLock n f s).led = s.led := rfl
@[simp] theorem modLock_nvPt (n : Fin 8) (f : Lock → Lock) (s : State) : (modLock n f s).nvPt = s.nvPt := rfl
@[simp] theorem modLock_nvSafe (n : Fin 8) (f : Lock → Lock) (s : State) : (modLock n f s).nvSafe = s.nvSafe := rfl
@[simp] theorem modLock_pilot (n : Fin 8) (f : Lock → Lock) (s : State) : (modLock n f s).pilot = s.pilot := rfl
@[simp] theorem modLock_sess (n : Fin 8) (f : Lock → Lock) (s : State) : (modLock n f s).sess = s.sess := rfl
@[simp] theorem modLock_hlc (n : Fin 8) (f : Lock → Lock) (s : State) : (modLock n f s).hlc = s.hlc := rfl
@[simp] theorem modLock_can (n : Fin 8) (f : Lock → Lock) (s : State) : (modLock n f s).can = s.can := rfl
@[simp] theorem modLock_earth (n : Fin 8) (f : Lock → Lock) (s : State) : (modLock n f s).earth = s.earth := rfl
@[simp] theorem modLock_earthDev (n : Fin 8) (f : Lock → Lock) (s : State) : (modLock n f s).earthDev = s.earthDev := rfl
@[simp] theorem modLock_safe (n : Fin 8) (f : Lock → Lock) (s : State) : (modLock n f s).safe = s.safe := rfl
@[simp] theorem modLock_safeDev (n : Fin 8) (f : Lock → Lock) (s : State) : (modLock n f s).safeDev = s.safeDev := rfl
@[simp] theorem modLock_nvCh (n : Fin 8) (f : Lock → Lock) (s : State) : (modLock n f s).nvCh = s.nvCh := rfl
@[simp] theorem modLock_sw (n : Fin 8) (f : Lock → Lock) (s : State) : (modLock n f s).sw = { s.sw with lk := vmod s.sw.lk n f } := rfl
@[simp] theorem modLock_lists (n : Fin 8) (f : Lock → Lock) (s : State) : (modLock n f s).lists = s.lists := rfl
@[simp] theorem modLock_rdr (n : Fin 8) (f : Lock → Lock) (s : State) : (modLock n f s).rdr = s.rdr := rfl
@[simp] theorem modLock_fst (n : Fin 8) (f : Lock → Lock) (s : State) : (modLock n f s).fst = s.fst := rfl
@[simp] theorem modLock_nvFst (n : Fin 8) (f : Lock → Lock) (s : State) : (modLock n f s).nvFst = s.nvFst := rfl
@[simp] theorem modLock_tdr (n : Fin 8) (f : Lock → Lock) (s : State) : (modLock n f s).tdr = s.tdr := rfl
@[simp] theorem modLock_nvDsp (n : Fin 8) (f : Lock → Lock) (s : State) : (modLock n f s).nvDsp = s.nvDsp := rfl
@[simp] theorem modLock_dsp (n : Fin 8) (f : Lock → Lock) (s : State) : (modLock n f s).dsp = s.dsp := rfl
@[simp] theorem modLock_nvKey (n : Fin 8) (f : Lock → Lock) (s : State) : (modLock n f s).nvKey = s.nvKey := rfl
@[simp] theorem modLock_key (n : Fin 8) (f : Lock → Lock) (s : State) : (modLock n f s).key = s.key := rfl
@[simp] theorem modLock_upd (n : Fin 8) (f : Lock → Lock) (s : State) : (modLock n f s).upd = s.upd := rfl

/-! ## modAnt -/

@[simp] theorem modAnt_pending (k : Fin 8) (f : Ant → Ant) (s : State) : (modAnt k f s).pending = s.pending := rfl
@[simp] theorem modAnt_member (k : Fin 8) (f : Ant → Ant) (s : State) : (modAnt k f s).member = s.member := rfl
@[simp] theorem modAnt_clk (k : Fin 8) (f : Ant → Ant) (s : State) : (modAnt k f s).clk = s.clk := rfl
@[simp] theorem modAnt_pwr (k : Fin 8) (f : Ant → Ant) (s : State) : (modAnt k f s).pwr = s.pwr := rfl
@[simp] theorem modAnt_tail (k : Fin 8) (f : Ant → Ant) (s : State) : (modAnt k f s).tail = s.tail := rfl
@[simp] theorem modAnt_blk (k : Fin 8) (f : Ant → Ant) (s : State) : (modAnt k f s).blk = s.blk := rfl
@[simp] theorem modAnt_port (k : Fin 8) (f : Ant → Ant) (s : State) : (modAnt k f s).port = s.port := rfl
@[simp] theorem modAnt_ev (k : Fin 8) (f : Ant → Ant) (s : State) : (modAnt k f s).ev = s.ev := rfl
@[simp] theorem modAnt_mbx (k : Fin 8) (f : Ant → Ant) (s : State) : (modAnt k f s).mbx = s.mbx := rfl
@[simp] theorem modAnt_fe (k : Fin 8) (f : Ant → Ant) (s : State) : (modAnt k f s).fe = s.fe := rfl
@[simp] theorem modAnt_nvFe (k : Fin 8) (f : Ant → Ant) (s : State) : (modAnt k f s).nvFe = s.nvFe := rfl
@[simp] theorem modAnt_filt (k : Fin 8) (f : Ant → Ant) (s : State) : (modAnt k f s).filt = s.filt := rfl
@[simp] theorem modAnt_en (k : Fin 8) (f : Ant → Ant) (s : State) : (modAnt k f s).en = s.en := rfl
@[simp] theorem modAnt_p100 (k : Fin 8) (f : Ant → Ant) (s : State) : (modAnt k f s).p100 = s.p100 := rfl
@[simp] theorem modAnt_pfw (k : Fin 8) (f : Ant → Ant) (s : State) : (modAnt k f s).pfw = s.pfw := rfl
@[simp] theorem modAnt_nvBill (k : Fin 8) (f : Ant → Ant) (s : State) : (modAnt k f s).nvBill = s.nvBill := rfl
@[simp] theorem modAnt_bill (k : Fin 8) (f : Ant → Ant) (s : State) : (modAnt k f s).bill = s.bill := rfl
@[simp] theorem modAnt_led (k : Fin 8) (f : Ant → Ant) (s : State) : (modAnt k f s).led = s.led := rfl
@[simp] theorem modAnt_nvPt (k : Fin 8) (f : Ant → Ant) (s : State) : (modAnt k f s).nvPt = s.nvPt := rfl
@[simp] theorem modAnt_nvSafe (k : Fin 8) (f : Ant → Ant) (s : State) : (modAnt k f s).nvSafe = s.nvSafe := rfl
@[simp] theorem modAnt_pilot (k : Fin 8) (f : Ant → Ant) (s : State) : (modAnt k f s).pilot = s.pilot := rfl
@[simp] theorem modAnt_sess (k : Fin 8) (f : Ant → Ant) (s : State) : (modAnt k f s).sess = s.sess := rfl
@[simp] theorem modAnt_hlc (k : Fin 8) (f : Ant → Ant) (s : State) : (modAnt k f s).hlc = s.hlc := rfl
@[simp] theorem modAnt_can (k : Fin 8) (f : Ant → Ant) (s : State) : (modAnt k f s).can = s.can := rfl
@[simp] theorem modAnt_earth (k : Fin 8) (f : Ant → Ant) (s : State) : (modAnt k f s).earth = s.earth := rfl
@[simp] theorem modAnt_earthDev (k : Fin 8) (f : Ant → Ant) (s : State) : (modAnt k f s).earthDev = s.earthDev := rfl
@[simp] theorem modAnt_safe (k : Fin 8) (f : Ant → Ant) (s : State) : (modAnt k f s).safe = s.safe := rfl
@[simp] theorem modAnt_safeDev (k : Fin 8) (f : Ant → Ant) (s : State) : (modAnt k f s).safeDev = s.safeDev := rfl
@[simp] theorem modAnt_nvCh (k : Fin 8) (f : Ant → Ant) (s : State) : (modAnt k f s).nvCh = s.nvCh := rfl
@[simp] theorem modAnt_sw (k : Fin 8) (f : Ant → Ant) (s : State) : (modAnt k f s).sw = s.sw := rfl
@[simp] theorem modAnt_lists (k : Fin 8) (f : Ant → Ant) (s : State) : (modAnt k f s).lists = s.lists := rfl
@[simp] theorem modAnt_rdr (k : Fin 8) (f : Ant → Ant) (s : State) : (modAnt k f s).rdr = { s.rdr with ant := vmod s.rdr.ant k f } := rfl
@[simp] theorem modAnt_fst (k : Fin 8) (f : Ant → Ant) (s : State) : (modAnt k f s).fst = s.fst := rfl
@[simp] theorem modAnt_nvFst (k : Fin 8) (f : Ant → Ant) (s : State) : (modAnt k f s).nvFst = s.nvFst := rfl
@[simp] theorem modAnt_tdr (k : Fin 8) (f : Ant → Ant) (s : State) : (modAnt k f s).tdr = s.tdr := rfl
@[simp] theorem modAnt_nvDsp (k : Fin 8) (f : Ant → Ant) (s : State) : (modAnt k f s).nvDsp = s.nvDsp := rfl
@[simp] theorem modAnt_dsp (k : Fin 8) (f : Ant → Ant) (s : State) : (modAnt k f s).dsp = s.dsp := rfl
@[simp] theorem modAnt_nvKey (k : Fin 8) (f : Ant → Ant) (s : State) : (modAnt k f s).nvKey = s.nvKey := rfl
@[simp] theorem modAnt_key (k : Fin 8) (f : Ant → Ant) (s : State) : (modAnt k f s).key = s.key := rfl
@[simp] theorem modAnt_upd (k : Fin 8) (f : Ant → Ant) (s : State) : (modAnt k f s).upd = s.upd := rfl

/-! ## modNvAnt -/

@[simp] theorem modNvAnt_pending (k : Fin 8) (f : NvAnt → NvAnt) (s : State) : (modNvAnt k f s).pending = s.pending := rfl
@[simp] theorem modNvAnt_member (k : Fin 8) (f : NvAnt → NvAnt) (s : State) : (modNvAnt k f s).member = s.member := rfl
@[simp] theorem modNvAnt_clk (k : Fin 8) (f : NvAnt → NvAnt) (s : State) : (modNvAnt k f s).clk = s.clk := rfl
@[simp] theorem modNvAnt_pwr (k : Fin 8) (f : NvAnt → NvAnt) (s : State) : (modNvAnt k f s).pwr = s.pwr := rfl
@[simp] theorem modNvAnt_tail (k : Fin 8) (f : NvAnt → NvAnt) (s : State) : (modNvAnt k f s).tail = s.tail := rfl
@[simp] theorem modNvAnt_blk (k : Fin 8) (f : NvAnt → NvAnt) (s : State) : (modNvAnt k f s).blk = s.blk := rfl
@[simp] theorem modNvAnt_port (k : Fin 8) (f : NvAnt → NvAnt) (s : State) : (modNvAnt k f s).port = s.port := rfl
@[simp] theorem modNvAnt_ev (k : Fin 8) (f : NvAnt → NvAnt) (s : State) : (modNvAnt k f s).ev = s.ev := rfl
@[simp] theorem modNvAnt_mbx (k : Fin 8) (f : NvAnt → NvAnt) (s : State) : (modNvAnt k f s).mbx = s.mbx := rfl
@[simp] theorem modNvAnt_fe (k : Fin 8) (f : NvAnt → NvAnt) (s : State) : (modNvAnt k f s).fe = s.fe := rfl
@[simp] theorem modNvAnt_nvFe (k : Fin 8) (f : NvAnt → NvAnt) (s : State) : (modNvAnt k f s).nvFe = s.nvFe := rfl
@[simp] theorem modNvAnt_filt (k : Fin 8) (f : NvAnt → NvAnt) (s : State) : (modNvAnt k f s).filt = s.filt := rfl
@[simp] theorem modNvAnt_en (k : Fin 8) (f : NvAnt → NvAnt) (s : State) : (modNvAnt k f s).en = s.en := rfl
@[simp] theorem modNvAnt_p100 (k : Fin 8) (f : NvAnt → NvAnt) (s : State) : (modNvAnt k f s).p100 = s.p100 := rfl
@[simp] theorem modNvAnt_pfw (k : Fin 8) (f : NvAnt → NvAnt) (s : State) : (modNvAnt k f s).pfw = s.pfw := rfl
@[simp] theorem modNvAnt_nvBill (k : Fin 8) (f : NvAnt → NvAnt) (s : State) : (modNvAnt k f s).nvBill = s.nvBill := rfl
@[simp] theorem modNvAnt_bill (k : Fin 8) (f : NvAnt → NvAnt) (s : State) : (modNvAnt k f s).bill = s.bill := rfl
@[simp] theorem modNvAnt_led (k : Fin 8) (f : NvAnt → NvAnt) (s : State) : (modNvAnt k f s).led = s.led := rfl
@[simp] theorem modNvAnt_nvPt (k : Fin 8) (f : NvAnt → NvAnt) (s : State) : (modNvAnt k f s).nvPt = s.nvPt := rfl
@[simp] theorem modNvAnt_nvSafe (k : Fin 8) (f : NvAnt → NvAnt) (s : State) : (modNvAnt k f s).nvSafe = s.nvSafe := rfl
@[simp] theorem modNvAnt_pilot (k : Fin 8) (f : NvAnt → NvAnt) (s : State) : (modNvAnt k f s).pilot = s.pilot := rfl
@[simp] theorem modNvAnt_sess (k : Fin 8) (f : NvAnt → NvAnt) (s : State) : (modNvAnt k f s).sess = s.sess := rfl
@[simp] theorem modNvAnt_hlc (k : Fin 8) (f : NvAnt → NvAnt) (s : State) : (modNvAnt k f s).hlc = s.hlc := rfl
@[simp] theorem modNvAnt_can (k : Fin 8) (f : NvAnt → NvAnt) (s : State) : (modNvAnt k f s).can = s.can := rfl
@[simp] theorem modNvAnt_earth (k : Fin 8) (f : NvAnt → NvAnt) (s : State) : (modNvAnt k f s).earth = s.earth := rfl
@[simp] theorem modNvAnt_earthDev (k : Fin 8) (f : NvAnt → NvAnt) (s : State) : (modNvAnt k f s).earthDev = s.earthDev := rfl
@[simp] theorem modNvAnt_safe (k : Fin 8) (f : NvAnt → NvAnt) (s : State) : (modNvAnt k f s).safe = s.safe := rfl
@[simp] theorem modNvAnt_safeDev (k : Fin 8) (f : NvAnt → NvAnt) (s : State) : (modNvAnt k f s).safeDev = s.safeDev := rfl
@[simp] theorem modNvAnt_nvCh (k : Fin 8) (f : NvAnt → NvAnt) (s : State) : (modNvAnt k f s).nvCh = s.nvCh := rfl
@[simp] theorem modNvAnt_sw (k : Fin 8) (f : NvAnt → NvAnt) (s : State) : (modNvAnt k f s).sw = s.sw := rfl
@[simp] theorem modNvAnt_lists (k : Fin 8) (f : NvAnt → NvAnt) (s : State) : (modNvAnt k f s).lists = { s.lists with ants := vmod s.lists.ants k f } := rfl
@[simp] theorem modNvAnt_rdr (k : Fin 8) (f : NvAnt → NvAnt) (s : State) : (modNvAnt k f s).rdr = s.rdr := rfl
@[simp] theorem modNvAnt_fst (k : Fin 8) (f : NvAnt → NvAnt) (s : State) : (modNvAnt k f s).fst = s.fst := rfl
@[simp] theorem modNvAnt_nvFst (k : Fin 8) (f : NvAnt → NvAnt) (s : State) : (modNvAnt k f s).nvFst = s.nvFst := rfl
@[simp] theorem modNvAnt_tdr (k : Fin 8) (f : NvAnt → NvAnt) (s : State) : (modNvAnt k f s).tdr = s.tdr := rfl
@[simp] theorem modNvAnt_nvDsp (k : Fin 8) (f : NvAnt → NvAnt) (s : State) : (modNvAnt k f s).nvDsp = s.nvDsp := rfl
@[simp] theorem modNvAnt_dsp (k : Fin 8) (f : NvAnt → NvAnt) (s : State) : (modNvAnt k f s).dsp = s.dsp := rfl
@[simp] theorem modNvAnt_nvKey (k : Fin 8) (f : NvAnt → NvAnt) (s : State) : (modNvAnt k f s).nvKey = s.nvKey := rfl
@[simp] theorem modNvAnt_key (k : Fin 8) (f : NvAnt → NvAnt) (s : State) : (modNvAnt k f s).key = s.key := rfl
@[simp] theorem modNvAnt_upd (k : Fin 8) (f : NvAnt → NvAnt) (s : State) : (modNvAnt k f s).upd = s.upd := rfl

/-! ## modMbx -/

@[simp] theorem modMbx_pending (k : Fin 32) (f : Mbx → Mbx) (s : State) : (modMbx k f s).pending = s.pending := rfl
@[simp] theorem modMbx_member (k : Fin 32) (f : Mbx → Mbx) (s : State) : (modMbx k f s).member = s.member := rfl
@[simp] theorem modMbx_clk (k : Fin 32) (f : Mbx → Mbx) (s : State) : (modMbx k f s).clk = s.clk := rfl
@[simp] theorem modMbx_pwr (k : Fin 32) (f : Mbx → Mbx) (s : State) : (modMbx k f s).pwr = s.pwr := rfl
@[simp] theorem modMbx_tail (k : Fin 32) (f : Mbx → Mbx) (s : State) : (modMbx k f s).tail = s.tail := rfl
@[simp] theorem modMbx_blk (k : Fin 32) (f : Mbx → Mbx) (s : State) : (modMbx k f s).blk = s.blk := rfl
@[simp] theorem modMbx_port (k : Fin 32) (f : Mbx → Mbx) (s : State) : (modMbx k f s).port = s.port := rfl
@[simp] theorem modMbx_ev (k : Fin 32) (f : Mbx → Mbx) (s : State) : (modMbx k f s).ev = s.ev := rfl
@[simp] theorem modMbx_mbx (k : Fin 32) (f : Mbx → Mbx) (s : State) : (modMbx k f s).mbx = vmod s.mbx k f := rfl
@[simp] theorem modMbx_fe (k : Fin 32) (f : Mbx → Mbx) (s : State) : (modMbx k f s).fe = s.fe := rfl
@[simp] theorem modMbx_nvFe (k : Fin 32) (f : Mbx → Mbx) (s : State) : (modMbx k f s).nvFe = s.nvFe := rfl
@[simp] theorem modMbx_filt (k : Fin 32) (f : Mbx → Mbx) (s : State) : (modMbx k f s).filt = s.filt := rfl
@[simp] theorem modMbx_en (k : Fin 32) (f : Mbx → Mbx) (s : State) : (modMbx k f s).en = s.en := rfl
@[simp] theorem modMbx_p100 (k : Fin 32) (f : Mbx → Mbx) (s : State) : (modMbx k f s).p100 = s.p100 := rfl
@[simp] theorem modMbx_pfw (k : Fin 32) (f : Mbx → Mbx) (s : State) : (modMbx k f s).pfw = s.pfw := rfl
@[simp] theorem modMbx_nvBill (k : Fin 32) (f : Mbx → Mbx) (s : State) : (modMbx k f s).nvBill = s.nvBill := rfl
@[simp] theorem modMbx_bill (k : Fin 32) (f : Mbx → Mbx) (s : State) : (modMbx k f s).bill = s.bill := rfl
@[simp] theorem modMbx_led (k : Fin 32) (f : Mbx → Mbx) (s : State) : (modMbx k f s).led = s.led := rfl
@[simp] theorem modMbx_nvPt (k : Fin 32) (f : Mbx → Mbx) (s : State) : (modMbx k f s).nvPt = s.nvPt := rfl
@[simp] theorem modMbx_nvSafe (k : Fin 32) (f : Mbx → Mbx) (s : State) : (modMbx k f s).nvSafe = s.nvSafe := rfl
@[simp] theorem modMbx_pilot (k : Fin 32) (f : Mbx → Mbx) (s : State) : (modMbx k f s).pilot = s.pilot := rfl
@[simp] theorem modMbx_sess (k : Fin 32) (f : Mbx → Mbx) (s : State) : (modMbx k f s).sess = s.sess := rfl
@[simp] theorem modMbx_hlc (k : Fin 32) (f : Mbx → Mbx) (s : State) : (modMbx k f s).hlc = s.hlc := rfl
@[simp] theorem modMbx_can (k : Fin 32) (f : Mbx → Mbx) (s : State) : (modMbx k f s).can = s.can := rfl
@[simp] theorem modMbx_earth (k : Fin 32) (f : Mbx → Mbx) (s : State) : (modMbx k f s).earth = s.earth := rfl
@[simp] theorem modMbx_earthDev (k : Fin 32) (f : Mbx → Mbx) (s : State) : (modMbx k f s).earthDev = s.earthDev := rfl
@[simp] theorem modMbx_safe (k : Fin 32) (f : Mbx → Mbx) (s : State) : (modMbx k f s).safe = s.safe := rfl
@[simp] theorem modMbx_safeDev (k : Fin 32) (f : Mbx → Mbx) (s : State) : (modMbx k f s).safeDev = s.safeDev := rfl
@[simp] theorem modMbx_nvCh (k : Fin 32) (f : Mbx → Mbx) (s : State) : (modMbx k f s).nvCh = s.nvCh := rfl
@[simp] theorem modMbx_sw (k : Fin 32) (f : Mbx → Mbx) (s : State) : (modMbx k f s).sw = s.sw := rfl
@[simp] theorem modMbx_lists (k : Fin 32) (f : Mbx → Mbx) (s : State) : (modMbx k f s).lists = s.lists := rfl
@[simp] theorem modMbx_rdr (k : Fin 32) (f : Mbx → Mbx) (s : State) : (modMbx k f s).rdr = s.rdr := rfl
@[simp] theorem modMbx_fst (k : Fin 32) (f : Mbx → Mbx) (s : State) : (modMbx k f s).fst = s.fst := rfl
@[simp] theorem modMbx_nvFst (k : Fin 32) (f : Mbx → Mbx) (s : State) : (modMbx k f s).nvFst = s.nvFst := rfl
@[simp] theorem modMbx_tdr (k : Fin 32) (f : Mbx → Mbx) (s : State) : (modMbx k f s).tdr = s.tdr := rfl
@[simp] theorem modMbx_nvDsp (k : Fin 32) (f : Mbx → Mbx) (s : State) : (modMbx k f s).nvDsp = s.nvDsp := rfl
@[simp] theorem modMbx_dsp (k : Fin 32) (f : Mbx → Mbx) (s : State) : (modMbx k f s).dsp = s.dsp := rfl
@[simp] theorem modMbx_nvKey (k : Fin 32) (f : Mbx → Mbx) (s : State) : (modMbx k f s).nvKey = s.nvKey := rfl
@[simp] theorem modMbx_key (k : Fin 32) (f : Mbx → Mbx) (s : State) : (modMbx k f s).key = s.key := rfl
@[simp] theorem modMbx_upd (k : Fin 32) (f : Mbx → Mbx) (s : State) : (modMbx k f s).upd = s.upd := rfl

/-! ## modSink -/

@[simp] theorem modSink_pending (k : Fin 5) (f : Sink → Sink) (s : State) : (modSink k f s).pending = s.pending := rfl
@[simp] theorem modSink_member (k : Fin 5) (f : Sink → Sink) (s : State) : (modSink k f s).member = s.member := rfl
@[simp] theorem modSink_clk (k : Fin 5) (f : Sink → Sink) (s : State) : (modSink k f s).clk = s.clk := rfl
@[simp] theorem modSink_pwr (k : Fin 5) (f : Sink → Sink) (s : State) : (modSink k f s).pwr = s.pwr := rfl
@[simp] theorem modSink_tail (k : Fin 5) (f : Sink → Sink) (s : State) : (modSink k f s).tail = s.tail := rfl
@[simp] theorem modSink_blk (k : Fin 5) (f : Sink → Sink) (s : State) : (modSink k f s).blk = s.blk := rfl
@[simp] theorem modSink_port (k : Fin 5) (f : Sink → Sink) (s : State) : (modSink k f s).port = s.port := rfl
@[simp] theorem modSink_ev (k : Fin 5) (f : Sink → Sink) (s : State) : (modSink k f s).ev = s.ev := rfl
@[simp] theorem modSink_mbx (k : Fin 5) (f : Sink → Sink) (s : State) : (modSink k f s).mbx = s.mbx := rfl
@[simp] theorem modSink_fe (k : Fin 5) (f : Sink → Sink) (s : State) : (modSink k f s).fe = s.fe := rfl
@[simp] theorem modSink_nvFe (k : Fin 5) (f : Sink → Sink) (s : State) : (modSink k f s).nvFe = s.nvFe := rfl
@[simp] theorem modSink_filt (k : Fin 5) (f : Sink → Sink) (s : State) : (modSink k f s).filt = s.filt := rfl
@[simp] theorem modSink_en (k : Fin 5) (f : Sink → Sink) (s : State) : (modSink k f s).en = s.en := rfl
@[simp] theorem modSink_p100 (k : Fin 5) (f : Sink → Sink) (s : State) : (modSink k f s).p100 = s.p100 := rfl
@[simp] theorem modSink_pfw (k : Fin 5) (f : Sink → Sink) (s : State) : (modSink k f s).pfw = s.pfw := rfl
@[simp] theorem modSink_nvBill (k : Fin 5) (f : Sink → Sink) (s : State) : (modSink k f s).nvBill = s.nvBill := rfl
@[simp] theorem modSink_bill (k : Fin 5) (f : Sink → Sink) (s : State) : (modSink k f s).bill = s.bill := rfl
@[simp] theorem modSink_led (k : Fin 5) (f : Sink → Sink) (s : State) : (modSink k f s).led = { s.led with sinks := vmod s.led.sinks k f } := rfl
@[simp] theorem modSink_nvPt (k : Fin 5) (f : Sink → Sink) (s : State) : (modSink k f s).nvPt = s.nvPt := rfl
@[simp] theorem modSink_nvSafe (k : Fin 5) (f : Sink → Sink) (s : State) : (modSink k f s).nvSafe = s.nvSafe := rfl
@[simp] theorem modSink_pilot (k : Fin 5) (f : Sink → Sink) (s : State) : (modSink k f s).pilot = s.pilot := rfl
@[simp] theorem modSink_sess (k : Fin 5) (f : Sink → Sink) (s : State) : (modSink k f s).sess = s.sess := rfl
@[simp] theorem modSink_hlc (k : Fin 5) (f : Sink → Sink) (s : State) : (modSink k f s).hlc = s.hlc := rfl
@[simp] theorem modSink_can (k : Fin 5) (f : Sink → Sink) (s : State) : (modSink k f s).can = s.can := rfl
@[simp] theorem modSink_earth (k : Fin 5) (f : Sink → Sink) (s : State) : (modSink k f s).earth = s.earth := rfl
@[simp] theorem modSink_earthDev (k : Fin 5) (f : Sink → Sink) (s : State) : (modSink k f s).earthDev = s.earthDev := rfl
@[simp] theorem modSink_safe (k : Fin 5) (f : Sink → Sink) (s : State) : (modSink k f s).safe = s.safe := rfl
@[simp] theorem modSink_safeDev (k : Fin 5) (f : Sink → Sink) (s : State) : (modSink k f s).safeDev = s.safeDev := rfl
@[simp] theorem modSink_nvCh (k : Fin 5) (f : Sink → Sink) (s : State) : (modSink k f s).nvCh = s.nvCh := rfl
@[simp] theorem modSink_sw (k : Fin 5) (f : Sink → Sink) (s : State) : (modSink k f s).sw = s.sw := rfl
@[simp] theorem modSink_lists (k : Fin 5) (f : Sink → Sink) (s : State) : (modSink k f s).lists = s.lists := rfl
@[simp] theorem modSink_rdr (k : Fin 5) (f : Sink → Sink) (s : State) : (modSink k f s).rdr = s.rdr := rfl
@[simp] theorem modSink_fst (k : Fin 5) (f : Sink → Sink) (s : State) : (modSink k f s).fst = s.fst := rfl
@[simp] theorem modSink_nvFst (k : Fin 5) (f : Sink → Sink) (s : State) : (modSink k f s).nvFst = s.nvFst := rfl
@[simp] theorem modSink_tdr (k : Fin 5) (f : Sink → Sink) (s : State) : (modSink k f s).tdr = s.tdr := rfl
@[simp] theorem modSink_nvDsp (k : Fin 5) (f : Sink → Sink) (s : State) : (modSink k f s).nvDsp = s.nvDsp := rfl
@[simp] theorem modSink_dsp (k : Fin 5) (f : Sink → Sink) (s : State) : (modSink k f s).dsp = s.dsp := rfl
@[simp] theorem modSink_nvKey (k : Fin 5) (f : Sink → Sink) (s : State) : (modSink k f s).nvKey = s.nvKey := rfl
@[simp] theorem modSink_key (k : Fin 5) (f : Sink → Sink) (s : State) : (modSink k f s).key = s.key := rfl
@[simp] theorem modSink_upd (k : Fin 5) (f : Sink → Sink) (s : State) : (modSink k f s).upd = s.upd := rfl

/-! ## modNotify -/

@[simp] theorem modNotify_pending (k : Fin 5) (f : Notify → Notify) (s : State) : (modNotify k f s).pending = s.pending := rfl
@[simp] theorem modNotify_member (k : Fin 5) (f : Notify → Notify) (s : State) : (modNotify k f s).member = s.member := rfl
@[simp] theorem modNotify_clk (k : Fin 5) (f : Notify → Notify) (s : State) : (modNotify k f s).clk = s.clk := rfl
@[simp] theorem modNotify_pwr (k : Fin 5) (f : Notify → Notify) (s : State) : (modNotify k f s).pwr = s.pwr := rfl
@[simp] theorem modNotify_tail (k : Fin 5) (f : Notify → Notify) (s : State) : (modNotify k f s).tail = s.tail := rfl
@[simp] theorem modNotify_blk (k : Fin 5) (f : Notify → Notify) (s : State) : (modNotify k f s).blk = s.blk := rfl
@[simp] theorem modNotify_port (k : Fin 5) (f : Notify → Notify) (s : State) : (modNotify k f s).port = { s.port with notify := vmod s.port.notify k f } := rfl
@[simp] theorem modNotify_ev (k : Fin 5) (f : Notify → Notify) (s : State) : (modNotify k f s).ev = s.ev := rfl
@[simp] theorem modNotify_mbx (k : Fin 5) (f : Notify → Notify) (s : State) : (modNotify k f s).mbx = s.mbx := rfl
@[simp] theorem modNotify_fe (k : Fin 5) (f : Notify → Notify) (s : State) : (modNotify k f s).fe = s.fe := rfl
@[simp] theorem modNotify_nvFe (k : Fin 5) (f : Notify → Notify) (s : State) : (modNotify k f s).nvFe = s.nvFe := rfl
@[simp] theorem modNotify_filt (k : Fin 5) (f : Notify → Notify) (s : State) : (modNotify k f s).filt = s.filt := rfl
@[simp] theorem modNotify_en (k : Fin 5) (f : Notify → Notify) (s : State) : (modNotify k f s).en = s.en := rfl
@[simp] theorem modNotify_p100 (k : Fin 5) (f : Notify → Notify) (s : State) : (modNotify k f s).p100 = s.p100 := rfl
@[simp] theorem modNotify_pfw (k : Fin 5) (f : Notify → Notify) (s : State) : (modNotify k f s).pfw = s.pfw := rfl
@[simp] theorem modNotify_nvBill (k : Fin 5) (f : Notify → Notify) (s : State) : (modNotify k f s).nvBill = s.nvBill := rfl
@[simp] theorem modNotify_bill (k : Fin 5) (f : Notify → Notify) (s : State) : (modNotify k f s).bill = s.bill := rfl
@[simp] theorem modNotify_led (k : Fin 5) (f : Notify → Notify) (s : State) : (modNotify k f s).led = s.led := rfl
@[simp] theorem modNotify_nvPt (k : Fin 5) (f : Notify → Notify) (s : State) : (modNotify k f s).nvPt = s.nvPt := rfl
@[simp] theorem modNotify_nvSafe (k : Fin 5) (f : Notify → Notify) (s : State) : (modNotify k f s).nvSafe = s.nvSafe := rfl
@[simp] theorem modNotify_pilot (k : Fin 5) (f : Notify → Notify) (s : State) : (modNotify k f s).pilot = s.pilot := rfl
@[simp] theorem modNotify_sess (k : Fin 5) (f : Notify → Notify) (s : State) : (modNotify k f s).sess = s.sess := rfl
@[simp] theorem modNotify_hlc (k : Fin 5) (f : Notify → Notify) (s : State) : (modNotify k f s).hlc = s.hlc := rfl
@[simp] theorem modNotify_can (k : Fin 5) (f : Notify → Notify) (s : State) : (modNotify k f s).can = s.can := rfl
@[simp] theorem modNotify_earth (k : Fin 5) (f : Notify → Notify) (s : State) : (modNotify k f s).earth = s.earth := rfl
@[simp] theorem modNotify_earthDev (k : Fin 5) (f : Notify → Notify) (s : State) : (modNotify k f s).earthDev = s.earthDev := rfl
@[simp] theorem modNotify_safe (k : Fin 5) (f : Notify → Notify) (s : State) : (modNotify k f s).safe = s.safe := rfl
@[simp] theorem modNotify_safeDev (k : Fin 5) (f : Notify → Notify) (s : State) : (modNotify k f s).safeDev = s.safeDev := rfl
@[simp] theorem modNotify_nvCh (k : Fin 5) (f : Notify → Notify) (s : State) : (modNotify k f s).nvCh = s.nvCh := rfl
@[simp] theorem modNotify_sw (k : Fin 5) (f : Notify → Notify) (s : State) : (modNotify k f s).sw = s.sw := rfl
@[simp] theorem modNotify_lists (k : Fin 5) (f : Notify → Notify) (s : State) : (modNotify k f s).lists = s.lists := rfl
@[simp] theorem modNotify_rdr (k : Fin 5) (f : Notify → Notify) (s : State) : (modNotify k f s).rdr = s.rdr := rfl
@[simp] theorem modNotify_fst (k : Fin 5) (f : Notify → Notify) (s : State) : (modNotify k f s).fst = s.fst := rfl
@[simp] theorem modNotify_nvFst (k : Fin 5) (f : Notify → Notify) (s : State) : (modNotify k f s).nvFst = s.nvFst := rfl
@[simp] theorem modNotify_tdr (k : Fin 5) (f : Notify → Notify) (s : State) : (modNotify k f s).tdr = s.tdr := rfl
@[simp] theorem modNotify_nvDsp (k : Fin 5) (f : Notify → Notify) (s : State) : (modNotify k f s).nvDsp = s.nvDsp := rfl
@[simp] theorem modNotify_dsp (k : Fin 5) (f : Notify → Notify) (s : State) : (modNotify k f s).dsp = s.dsp := rfl
@[simp] theorem modNotify_nvKey (k : Fin 5) (f : Notify → Notify) (s : State) : (modNotify k f s).nvKey = s.nvKey := rfl
@[simp] theorem modNotify_key (k : Fin 5) (f : Notify → Notify) (s : State) : (modNotify k f s).key = s.key := rfl
@[simp] theorem modNotify_upd (k : Fin 5) (f : Notify → Notify) (s : State) : (modNotify k f s).upd = s.upd := rfl

/-! ## modTdr -/

@[simp] theorem modTdr_pending (f : Tider → Tider) (s : State) : (modTdr f s).pending = s.pending := rfl
@[simp] theorem modTdr_member (f : Tider → Tider) (s : State) : (modTdr f s).member = s.member := rfl
@[simp] theorem modTdr_clk (f : Tider → Tider) (s : State) : (modTdr f s).clk = s.clk := rfl
@[simp] theorem modTdr_pwr (f : Tider → Tider) (s : State) : (modTdr f s).pwr = s.pwr := rfl
@[simp] theorem modTdr_tail (f : Tider → Tider) (s : State) : (modTdr f s).tail = s.tail := rfl
@[simp] theorem modTdr_blk (f : Tider → Tider) (s : State) : (modTdr f s).blk = s.blk := rfl
@[simp] theorem modTdr_port (f : Tider → Tider) (s : State) : (modTdr f s).port = s.port := rfl
@[simp] theorem modTdr_ev (f : Tider → Tider) (s : State) : (modTdr f s).ev = s.ev := rfl
@[simp] theorem modTdr_mbx (f : Tider → Tider) (s : State) : (modTdr f s).mbx = s.mbx := rfl
@[simp] theorem modTdr_fe (f : Tider → Tider) (s : State) : (modTdr f s).fe = s.fe := rfl
@[simp] theorem modTdr_nvFe (f : Tider → Tider) (s : State) : (modTdr f s).nvFe = s.nvFe := rfl
@[simp] theorem modTdr_filt (f : Tider → Tider) (s : State) : (modTdr f s).filt = s.filt := rfl
@[simp] theorem modTdr_en (f : Tider → Tider) (s : State) : (modTdr f s).en = s.en := rfl
@[simp] theorem modTdr_p100 (f : Tider → Tider) (s : State) : (modTdr f s).p100 = s.p100 := rfl
@[simp] theorem modTdr_pfw (f : Tider → Tider) (s : State) : (modTdr f s).pfw = s.pfw := rfl
@[simp] theorem modTdr_nvBill (f : Tider → Tider) (s : State) : (modTdr f s).nvBill = s.nvBill := rfl
@[simp] theorem modTdr_bill (f : Tider → Tider) (s : State) : (modTdr f s).bill = s.bill := rfl
@[simp] theorem modTdr_led (f : Tider → Tider) (s : State) : (modTdr f s).led = s.led := rfl
@[simp] theorem modTdr_nvPt (f : Tider → Tider) (s : State) : (modTdr f s).nvPt = s.nvPt := rfl
@[simp] theorem modTdr_nvSafe (f : Tider → Tider) (s : State) : (modTdr f s).nvSafe = s.nvSafe := rfl
@[simp] theorem modTdr_pilot (f : Tider → Tider) (s : State) : (modTdr f s).pilot = s.pilot := rfl
@[simp] theorem modTdr_sess (f : Tider → Tider) (s : State) : (modTdr f s).sess = s.sess := rfl
@[simp] theorem modTdr_hlc (f : Tider → Tider) (s : State) : (modTdr f s).hlc = s.hlc := rfl
@[simp] theorem modTdr_can (f : Tider → Tider) (s : State) : (modTdr f s).can = s.can := rfl
@[simp] theorem modTdr_earth (f : Tider → Tider) (s : State) : (modTdr f s).earth = s.earth := rfl
@[simp] theorem modTdr_earthDev (f : Tider → Tider) (s : State) : (modTdr f s).earthDev = s.earthDev := rfl
@[simp] theorem modTdr_safe (f : Tider → Tider) (s : State) : (modTdr f s).safe = s.safe := rfl
@[simp] theorem modTdr_safeDev (f : Tider → Tider) (s : State) : (modTdr f s).safeDev = s.safeDev := rfl
@[simp] theorem modTdr_nvCh (f : Tider → Tider) (s : State) : (modTdr f s).nvCh = s.nvCh := rfl
@[simp] theorem modTdr_sw (f : Tider → Tider) (s : State) : (modTdr f s).sw = s.sw := rfl
@[simp] theorem modTdr_lists (f : Tider → Tider) (s : State) : (modTdr f s).lists = s.lists := rfl
@[simp] theorem modTdr_rdr (f : Tider → Tider) (s : State) : (modTdr f s).rdr = s.rdr := rfl
@[simp] theorem modTdr_fst (f : Tider → Tider) (s : State) : (modTdr f s).fst = s.fst := rfl
@[simp] theorem modTdr_nvFst (f : Tider → Tider) (s : State) : (modTdr f s).nvFst = s.nvFst := rfl
@[simp] theorem modTdr_tdr (f : Tider → Tider) (s : State) : (modTdr f s).tdr = f s.tdr := rfl
@[simp] theorem modTdr_nvDsp (f : Tider → Tider) (s : State) : (modTdr f s).nvDsp = s.nvDsp := rfl
@[simp] theorem modTdr_dsp (f : Tider → Tider) (s : State) : (modTdr f s).dsp = s.dsp := rfl
@[simp] theorem modTdr_nvKey (f : Tider → Tider) (s : State) : (modTdr f s).nvKey = s.nvKey := rfl
@[simp] theorem modTdr_key (f : Tider → Tider) (s : State) : (modTdr f s).key = s.key := rfl
@[simp] theorem modTdr_upd (f : Tider → Tider) (s : State) : (modTdr f s).upd = s.upd := rfl

/-! ## modSlots -/

@[simp] theorem modSlots_pending (i : Nat) (f : FwSet → FwSet) (s : State) : (modSlots i f s).pending = s.pending := rfl
@[simp] theorem modSlots_member (i : Nat) (f : FwSet → FwSet) (s : State) : (modSlots i f s).member = s.member := rfl
@[simp] theorem modSlots_clk (i : Nat) (f : FwSet → FwSet) (s : State) : (modSlots i f s).clk = s.clk := rfl
@[simp] theorem modSlots_pwr (i : Nat) (f : FwSet → FwSet) (s : State) : (modSlots i f s).pwr = s.pwr := rfl
@[simp] theorem modSlots_tail (i : Nat) (f : FwSet → FwSet) (s : State) : (modSlots i f s).tail = s.tail := rfl
@[simp] theorem modSlots_blk (i : Nat) (f : FwSet → FwSet) (s : State) : (modSlots i f s).blk = s.blk := rfl
@[simp] theorem modSlots_port (i : Nat) (f : FwSet → FwSet) (s : State) : (modSlots i f s).port = s.port := rfl
@[simp] theorem modSlots_ev (i : Nat) (f : FwSet → FwSet) (s : State) : (modSlots i f s).ev = s.ev := rfl
@[simp] theorem modSlots_mbx (i : Nat) (f : FwSet → FwSet) (s : State) : (modSlots i f s).mbx = s.mbx := rfl
@[simp] theorem modSlots_fe (i : Nat) (f : FwSet → FwSet) (s : State) : (modSlots i f s).fe = s.fe := rfl
@[simp] theorem modSlots_nvFe (i : Nat) (f : FwSet → FwSet) (s : State) : (modSlots i f s).nvFe = s.nvFe := rfl
@[simp] theorem modSlots_filt (i : Nat) (f : FwSet → FwSet) (s : State) : (modSlots i f s).filt = s.filt := rfl
@[simp] theorem modSlots_en (i : Nat) (f : FwSet → FwSet) (s : State) : (modSlots i f s).en = s.en := rfl
@[simp] theorem modSlots_p100 (i : Nat) (f : FwSet → FwSet) (s : State) : (modSlots i f s).p100 = s.p100 := rfl
@[simp] theorem modSlots_pfw (i : Nat) (f : FwSet → FwSet) (s : State) : (modSlots i f s).pfw = s.pfw := rfl
@[simp] theorem modSlots_nvBill (i : Nat) (f : FwSet → FwSet) (s : State) : (modSlots i f s).nvBill = s.nvBill := rfl
@[simp] theorem modSlots_bill (i : Nat) (f : FwSet → FwSet) (s : State) : (modSlots i f s).bill = s.bill := rfl
@[simp] theorem modSlots_led (i : Nat) (f : FwSet → FwSet) (s : State) : (modSlots i f s).led = s.led := rfl
@[simp] theorem modSlots_nvPt (i : Nat) (f : FwSet → FwSet) (s : State) : (modSlots i f s).nvPt = s.nvPt := rfl
@[simp] theorem modSlots_nvSafe (i : Nat) (f : FwSet → FwSet) (s : State) : (modSlots i f s).nvSafe = s.nvSafe := rfl
@[simp] theorem modSlots_pilot (i : Nat) (f : FwSet → FwSet) (s : State) : (modSlots i f s).pilot = s.pilot := rfl
@[simp] theorem modSlots_sess (i : Nat) (f : FwSet → FwSet) (s : State) : (modSlots i f s).sess = s.sess := rfl
@[simp] theorem modSlots_hlc (i : Nat) (f : FwSet → FwSet) (s : State) : (modSlots i f s).hlc = s.hlc := rfl
@[simp] theorem modSlots_can (i : Nat) (f : FwSet → FwSet) (s : State) : (modSlots i f s).can = s.can := rfl
@[simp] theorem modSlots_earth (i : Nat) (f : FwSet → FwSet) (s : State) : (modSlots i f s).earth = s.earth := rfl
@[simp] theorem modSlots_earthDev (i : Nat) (f : FwSet → FwSet) (s : State) : (modSlots i f s).earthDev = s.earthDev := rfl
@[simp] theorem modSlots_safe (i : Nat) (f : FwSet → FwSet) (s : State) : (modSlots i f s).safe = s.safe := rfl
@[simp] theorem modSlots_safeDev (i : Nat) (f : FwSet → FwSet) (s : State) : (modSlots i f s).safeDev = s.safeDev := rfl
@[simp] theorem modSlots_nvCh (i : Nat) (f : FwSet → FwSet) (s : State) : (modSlots i f s).nvCh = s.nvCh := rfl
@[simp] theorem modSlots_sw (i : Nat) (f : FwSet → FwSet) (s : State) : (modSlots i f s).sw = s.sw := rfl
@[simp] theorem modSlots_lists (i : Nat) (f : FwSet → FwSet) (s : State) : (modSlots i f s).lists = s.lists := rfl
@[simp] theorem modSlots_rdr (i : Nat) (f : FwSet → FwSet) (s : State) : (modSlots i f s).rdr = s.rdr := rfl
@[simp] theorem modSlots_fst (i : Nat) (f : FwSet → FwSet) (s : State) : (modSlots i f s).fst = s.fst := rfl
@[simp] theorem modSlots_nvFst (i : Nat) (f : FwSet → FwSet) (s : State) : (modSlots i f s).nvFst = s.nvFst := rfl
@[simp] theorem modSlots_tdr (i : Nat) (f : FwSet → FwSet) (s : State) : (modSlots i f s).tdr = s.tdr := rfl
@[simp] theorem modSlots_nvDsp (i : Nat) (f : FwSet → FwSet) (s : State) : (modSlots i f s).nvDsp = s.nvDsp := rfl
@[simp] theorem modSlots_dsp (i : Nat) (f : FwSet → FwSet) (s : State) : (modSlots i f s).dsp = s.dsp := rfl
@[simp] theorem modSlots_nvKey (i : Nat) (f : FwSet → FwSet) (s : State) : (modSlots i f s).nvKey = s.nvKey := rfl
@[simp] theorem modSlots_key (i : Nat) (f : FwSet → FwSet) (s : State) : (modSlots i f s).key = s.key := rfl
@[simp] theorem modSlots_upd (i : Nat) (f : FwSet → FwSet) (s : State) : (modSlots i f s).upd = { s.upd with slots := vatMod s.upd.slots i f } := rfl

end Sys2Proof.Laws
end

