-- ==== Sys2Proof/Laws/Meters.lean ====
section
/-!
SUPPORT. Everything the operations of the energy engine and of the boundaries can do (R72 to R82, R98 to R111, R118, R384): `offMeter`
erases the registers of the classes P100 and PFW, the engine's and the billing's own state, a running fence and the events, and each
operation leaves the rest.
-/

namespace Sys2Proof.Laws

open Sys2Proof Sys2Proof.Machine

/-- The state without what delivering energy and closing at boundaries changes. -/
def offMeter (s : State) : State :=
  quiet { s with p100 := {}, pfw := {}, en := {}, nvBill := {}, bill := {}, port := { s.port with fence := none } }

/-- What `offMeter` does not erase is the same in two states that agree without it. -/
theorem of_offMeter {α : Type} (f : State → α) (hf : ∀ u, f (offMeter u) = f u) {s t : State} (h : offMeter t = offMeter s) : f t = f s := by
  rw [← hf t, h, hf s]

@[simp] theorem offMeter_upd_p100 (s : State) (x) : offMeter { s with p100 := x } = offMeter s := rfl
@[simp] theorem offMeter_upd_pfw (s : State) (x) : offMeter { s with pfw := x } = offMeter s := rfl
@[simp] theorem offMeter_upd_en (s : State) (x) : offMeter { s with en := x } = offMeter s := rfl
@[simp] theorem offMeter_upd_nvBill (s : State) (x) : offMeter { s with nvBill := x } = offMeter s := rfl
@[simp] theorem offMeter_upd_bill (s : State) (x) : offMeter { s with bill := x } = offMeter s := rfl
@[simp] theorem offMeter_upd_ev (s : State) (x) : offMeter { s with ev := x } = offMeter s := rfl

@[simp] theorem offMeter_pulse (ev : Nat) (p : List Byte) (s : State) : offMeter (pulse ev p s) = offMeter s :=
  of_quiet offMeter (fun _ => rfl) (quiet_pulse ev p s)
@[simp] theorem offMeter_level (ev key : Nat) (on : Bool) (p : List Byte) (s : State) : offMeter (level ev key on p s) = offMeter s :=
  of_quiet offMeter (fun _ => rfl) (quiet_level ev key on p s)
@[simp] theorem offMeter_queueRec (r : PendRec) (s : State) : offMeter (queueRec r s) = offMeter s :=
  of_quiet offMeter (fun _ => rfl) (quiet_queueRec r s)
@[simp] theorem offMeter_modMeter (m : Fin 9) (f : Meter → Meter) (s : State) : offMeter (modMeter m f s) = offMeter s := rfl
@[simp] theorem offMeter_modMeterP (m : Fin 9) (f : MeterP → MeterP) (s : State) : offMeter (modMeterP m f s) = offMeter s := rfl
@[simp] theorem offMeter_modSessP (n : Fin 8) (f : SessP → SessP) (s : State) : offMeter (modSessP n f s) = offMeter s := rfl
@[simp] theorem offMeter_modWin (m : Fin 9) (f : Win → Win) (s : State) : offMeter (modWin m f s) = offMeter s := rfl
@[simp] theorem offMeter_persist (s : State) : offMeter (persist s) = offMeter s := by rw [persist_only]; rfl

@[simp] theorem offMeter_pulses (m q delta : Nat) (s : State) : offMeter (pulses m q delta s) = offMeter s := by
  unfold pulses
  refine foldl_keeps offMeter _ (fun t b => ?_) _ s
  dsimp only
  repeat' split
  all_goals simp

@[simp] theorem offMeter_pulsePeriods (m len : Nat) (s : State) : offMeter (pulsePeriods m len s) = offMeter s := by
  unfold pulsePeriods
  refine foldl_keeps offMeter _ (fun t b => ?_) _ s
  split
  all_goals rfl

@[simp] theorem offMeter_startWin (m : Fin 9) (s : State) : offMeter (startWin m s) = offMeter s := rfl

@[simp] theorem offMeter_startMeters (old s : State) : offMeter (startMeters old s) = offMeter s := by
  unfold startMeters
  refine foldl_keeps offMeter _ (fun t b => ?_) _ s
  split
  all_goals simp

@[simp] theorem offMeter_chargeCredit (m : Fin 9) (delta : Nat) (sd : Side) (s : State) : offMeter (chargeCredit m delta sd s) = offMeter s := by
  unfold chargeCredit
  dsimp only
  repeat' split
  all_goals simp

@[simp] theorem offMeter_deliverInc (m : Fin 9) (q : Fin 12) (delta : Nat) (sd : Side) (s : State) : offMeter (deliverInc m q delta sd s) = offMeter s := by
  unfold deliverInc
  dsimp only
  repeat' split
  all_goals simp

@[simp] theorem offMeter_transferQ (m : Fin 9) (q : Fin 12) (c : Nat) (sd : Side) (s : State) : offMeter (transferQ m q c sd s) = offMeter s := by
  unfold transferQ
  dsimp only
  repeat' split
  all_goals simp

@[simp] theorem offMeter_markFlags (m : Fin 9) (flags : Nat) (sd : Side) (s : State) : offMeter (markFlags m flags sd s) = offMeter s := by
  unfold markFlags
  dsimp only
  repeat' split
  all_goals simp

@[simp] theorem offMeter_transfer (m : Fin 9) (cs : List (Fin 12 × Nat)) (sd : Side) (s : State) : offMeter (transfer m cs sd s) = offMeter s := by
  unfold transfer
  refine foldl_keeps offMeter _ (fun t b => ?_) _ s
  all_goals simp

@[simp] theorem offMeter_netClose (m : Fin 9) (sd : Side) (s : State) : offMeter (netClose m sd s) = offMeter s := by
  unfold netClose
  dsimp only
  repeat' split
  all_goals simp

@[simp] theorem offMeter_demandClose (m : Fin 9) (flags t tariff len sub : Nat) (s : State) : offMeter (demandClose m flags t tariff len sub s) = offMeter s := by
  unfold demandClose
  dsimp only
  repeat' split
  all_goals simp

@[simp] theorem offMeter_periodClose (m : Fin 9) (flags tOpen tClose : Nat) (s : State) : offMeter (periodClose m flags tOpen tClose s) = offMeter s := by
  unfold periodClose
  dsimp only
  repeat' split
  all_goals simp

@[simp] theorem offMeter_dailyTake (m : Fin 9) (s : State) : offMeter (dailyTake m s) = offMeter s := by
  unfold dailyTake
  dsimp only
  repeat' split
  all_goals simp

@[simp] theorem offMeter_fenceTake (m : Fin 9) (s : State) : offMeter (fenceTake m s) = offMeter s := by
  unfold fenceTake
  dsimp only
  repeat' split
  all_goals first | simp | rfl

@[simp] theorem offMeter_queueSession (n : Fin 8) (reason : EndReason) (flags tClose : Nat) (rest : Bool) (s : State) : offMeter (queueSession n reason flags tClose rest s) = offMeter s := by
  unfold queueSession
  dsimp only
  repeat' split
  all_goals simp

@[simp] theorem offMeter_sessionValues (n : Fin 8) (s : State) : offMeter (sessionValues n s) = offMeter s := by
  unfold sessionValues
  repeat' split
  all_goals simp

@[simp] theorem offMeter_demandStart (m : Fin 9) (s : State) : offMeter (demandStart m s) = offMeter s := rfl

@[simp] theorem offMeter_sessionStart (n : Fin 8) (s : State) : offMeter (sessionStart n s) = offMeter s := by
  unfold sessionStart
  simp

@[simp] theorem offMeter_runAct (m : Fin 9) (a : BAct) (s : State) : offMeter (runAct m a s) = offMeter s := by
  unfold runAct
  repeat' split
  all_goals simp

@[simp] theorem offMeter_boundaryAt (t : Nat) (m : Fin 9) (acts : List BAct) (s : State) : offMeter (boundaryAt t m acts s) = offMeter s := by
  have h : ∀ u, offMeter (acts.foldl (fun t a => runAct m a t) u) = offMeter u := foldl_keeps offMeter _ (fun t a => offMeter_runAct m a t) acts
  unfold boundaryAt
  dsimp only
  repeat' split
  all_goals simp [h]

@[simp] theorem offMeter_boundary (m : Fin 9) (acts : List BAct) (s : State) : offMeter (boundary m acts s) = offMeter s := by
  simp [boundary]

@[simp] theorem offMeter_boundaryAll (acts : List BAct) (s : State) : offMeter (boundaryAll acts s) = offMeter s := by
  unfold boundaryAll
  refine foldl_keeps offMeter _ (fun t b => ?_) _ s
  repeat' split
  all_goals simp

end Sys2Proof.Laws
end

