-- ==== Sys2Proof/Laws/Points.lean ====
section
/-!
SUPPORT. Everything the operations of a charging point can do (R16 to R19, R150, R160, R233 to R239, R255, R468): `offPoint` erases the
registers of the points (pilot, session, high-level communication, earth fault, safety, out-of-service and trip), the switch
channels, the session number and what closing billing values changes, and each operation leaves the rest.
-/

namespace Sys2Proof.Laws

open Sys2Proof Sys2Proof.Machine

/-- The state without what an operation of a point changes. -/
def offPoint (s : State) : State :=
  offMeter { s with
    pilot := Vector.replicate 8 {}, sess := Vector.replicate 8 {}, hlc := Vector.replicate 8 {}, earth := Vector.replicate 8 {}
    safe := Vector.replicate 8 {}, nvPt := Vector.replicate 8 {}, sw := {}, led := { s.led with sesNo := 0 } }

/-- What `offPoint` does not erase is the same in two states that agree without it. -/
theorem of_offPoint {α : Type} (f : State → α) (hf : ∀ u, f (offPoint u) = f u) {s t : State} (h : offPoint t = offPoint s) : f t = f s := by
  rw [← hf t, h, hf s]

/-- What leaves the meters' part alone leaves the points' part alone. -/
theorem offPoint_of_offMeter {s t : State} (h : offMeter t = offMeter s) : offPoint t = offPoint s :=
  of_offMeter offPoint (fun _ => rfl) h

@[simp] theorem offPoint_upd_p100 (s : State) (x) : offPoint { s with p100 := x } = offPoint s := rfl
@[simp] theorem offPoint_upd_pfw (s : State) (x) : offPoint { s with pfw := x } = offPoint s := rfl
@[simp] theorem offPoint_upd_en (s : State) (x) : offPoint { s with en := x } = offPoint s := rfl
@[simp] theorem offPoint_upd_nvBill (s : State) (x) : offPoint { s with nvBill := x } = offPoint s := rfl
@[simp] theorem offPoint_upd_bill (s : State) (x) : offPoint { s with bill := x } = offPoint s := rfl
@[simp] theorem offPoint_upd_ev (s : State) (x) : offPoint { s with ev := x } = offPoint s := rfl
@[simp] theorem offPoint_upd_pilot (s : State) (x) : offPoint { s with pilot := x } = offPoint s := rfl
@[simp] theorem offPoint_upd_sess (s : State) (x) : offPoint { s with sess := x } = offPoint s := rfl
@[simp] theorem offPoint_upd_hlc (s : State) (x) : offPoint { s with hlc := x } = offPoint s := rfl
@[simp] theorem offPoint_upd_earth (s : State) (x) : offPoint { s with earth := x } = offPoint s := rfl
@[simp] theorem offPoint_upd_safe (s : State) (x) : offPoint { s with safe := x } = offPoint s := rfl
@[simp] theorem offPoint_upd_nvPt (s : State) (x) : offPoint { s with nvPt := x } = offPoint s := rfl
@[simp] theorem offPoint_upd_sw (s : State) (x) : offPoint { s with sw := x } = offPoint s := rfl
@[simp] theorem offPoint_upd_sesNo (s : State) (x : Nat) : offPoint { s with led.sesNo := x } = offPoint s := rfl

@[simp] theorem offPoint_pulse (ev : Nat) (p : List Byte) (s : State) : offPoint (pulse ev p s) = offPoint s :=
  offPoint_of_offMeter (offMeter_pulse ev p s)
@[simp] theorem offPoint_level (ev key : Nat) (on : Bool) (p : List Byte) (s : State) : offPoint (level ev key on p s) = offPoint s :=
  offPoint_of_offMeter (offMeter_level ev key on p s)
@[simp] theorem offPoint_queueRec (r : PendRec) (s : State) : offPoint (queueRec r s) = offPoint s :=
  offPoint_of_offMeter (offMeter_queueRec r s)
@[simp] theorem offPoint_persist  (s : State) : offPoint (persist  s) = offPoint s :=
  offPoint_of_offMeter (offMeter_persist  s)
@[simp] theorem offPoint_boundary (m : Fin 9) (acts : List BAct) (s : State) : offPoint (boundary m acts s) = offPoint s :=
  offPoint_of_offMeter (offMeter_boundary m acts s)
@[simp] theorem offPoint_boundaryAll (acts : List BAct) (s : State) : offPoint (boundaryAll acts s) = offPoint s :=
  offPoint_of_offMeter (offMeter_boundaryAll acts s)
@[simp] theorem offPoint_modMeterP (m : Fin 9) (f : MeterP → MeterP) (s : State) : offPoint (modMeterP m f s) = offPoint s :=
  offPoint_of_offMeter (offMeter_modMeterP m f s)
@[simp] theorem offPoint_modMeter (m : Fin 9) (f : Meter → Meter) (s : State) : offPoint (modMeter m f s) = offPoint s :=
  offPoint_of_offMeter (offMeter_modMeter m f s)
@[simp] theorem offPoint_modSessP (n : Fin 8) (f : SessP → SessP) (s : State) : offPoint (modSessP n f s) = offPoint s :=
  offPoint_of_offMeter (offMeter_modSessP n f s)
@[simp] theorem offPoint_modPilot (n : Fin 8) (f : Pilot → Pilot) (s : State) : offPoint (modPilot n f s) = offPoint s := rfl
@[simp] theorem offPoint_modSess (n : Fin 8) (f : Sess → Sess) (s : State) : offPoint (modSess n f s) = offPoint s := rfl
@[simp] theorem offPoint_modHlc (n : Fin 8) (f : Hlc → Hlc) (s : State) : offPoint (modHlc n f s) = offPoint s := rfl
@[simp] theorem offPoint_modSafe (n : Fin 8) (f : Safe → Safe) (s : State) : offPoint (modSafe n f s) = offPoint s := rfl
@[simp] theorem offPoint_modEarth (n : Fin 8) (f : Earth → Earth) (s : State) : offPoint (modEarth n f s) = offPoint s := rfl
@[simp] theorem offPoint_modNvPt (n : Fin 8) (f : NvPoint → NvPoint) (s : State) : offPoint (modNvPt n f s) = offPoint s := rfl
@[simp] theorem offPoint_modChan (n : Fin 24) (f : Chan → Chan) (s : State) : offPoint (modChan n f s) = offPoint s := rfl
@[simp] theorem offPoint_modLock (n : Fin 8) (f : Lock → Lock) (s : State) : offPoint (modLock n f s) = offPoint s := rfl

@[simp] theorem offPoint_pilotNote (n : Fin 8) (f : State → State) (h : ∀ u, offPoint (f u) = offPoint u) (s : State) :
    offPoint (pilotNote n f s) = offPoint s := by
  unfold pilotNote
  dsimp only
  split
  · exact h s
  · simp [h]

@[simp] theorem offPoint_e55 (n : Fin 8) (kind : Nat) (l : List (Nat × Nat)) (s : State) : offPoint (e55 n kind l s) = offPoint s := by
  unfold e55
  all_goals simp

@[simp] theorem offPoint_setPhase (n : Fin 8) (p : HlcPhase) (s : State) : offPoint (setPhase n p s) = offPoint s := by
  unfold setPhase
  repeat' split
  all_goals simp

@[simp] theorem offPoint_e63 (n : Fin 8) (kind : Nat) (on : Bool) (val : Int) (step : Nat) (s : State) : offPoint (e63 n kind on val step s) = offPoint s := by
  simp [e63]

@[simp] theorem offPoint_chanOn (c : Fin 24) (duty : Nat) (s : State) : offPoint (chanOn c duty s) = offPoint s := by
  unfold chanOn
  dsimp only
  repeat' split
  all_goals simp

@[simp] theorem offPoint_chanOff (c : Fin 24) (s : State) : offPoint (chanOff c s) = offPoint s := by
  unfold chanOff
  all_goals simp

@[simp] theorem offPoint_e77 (n : Fin 8) (old new : Nat) (s : State) : offPoint (e77 n old new s) = offPoint s := by
  unfold e77
  all_goals simp

@[simp] theorem offPoint_recheck  (s : State) : offPoint (recheck  s) = offPoint s := by
  unfold recheck
  refine foldl_keeps offPoint _ (fun t b => ?_) _ s
  dsimp only
  split
  all_goals simp

@[simp] theorem offPoint_followOne (n : Fin 8) (s : State) : offPoint (followOne n s) = offPoint s := by
  unfold followOne
  dsimp only
  repeat' split
  all_goals simp

@[simp] theorem offPoint_followSig (n : Fin 8) (s : State) : offPoint (followSig n s) = offPoint s := by
  unfold followSig
  split
  · exact foldl_keeps offPoint _ (fun t k => offPoint_followOne k t) _ s
  · simp

@[simp] theorem offPoint_openCoil (n : Fin 8) (s : State) : offPoint (openCoil n s) = offPoint s := by
  unfold openCoil
  dsimp only
  repeat' split
  all_goals simp

@[simp] theorem offPoint_dropCut (n : Fin 8) (s : State) : offPoint (dropCut n s) = offPoint s := by
  unfold dropCut
  all_goals simp

@[simp] theorem offPoint_closeValues (n : Fin 8) (reason : EndReason) (flags : Nat) (s : State) : offPoint (closeValues n reason flags s) = offPoint s := by
  unfold closeValues
  dsimp only
  repeat' split
  all_goals simp

@[simp] theorem offPoint_tryClose (n : Fin 8) (flags : Nat) (s : State) : offPoint (tryClose n flags s) = offPoint s := by
  unfold tryClose
  repeat' split
  all_goals simp

@[simp] theorem offPoint_markEnd (n : Fin 8) (reason : EndReason) (s : State) : offPoint (markEnd n reason s) = offPoint s := by
  unfold markEnd
  repeat' split
  all_goals simp

@[simp] theorem offPoint_weldPhase (n : Fin 8) (s : State) : offPoint (weldPhase n s) = offPoint s := by
  unfold weldPhase
  repeat' split
  all_goals simp

@[simp] theorem offPoint_leaveDc (n : Fin 8) (s : State) : offPoint (leaveDc n s) = offPoint s := by
  unfold leaveDc
  repeat' split
  all_goals simp

@[simp] theorem offPoint_endNow (n : Fin 8) (reason : EndReason) (s : State) : offPoint (endNow n reason s) = offPoint s := by
  unfold endNow
  repeat' split
  all_goals simp

@[simp] theorem offPoint_endSoft (n : Fin 8) (reason : EndReason) (s : State) : offPoint (endSoft n reason s) = offPoint s := by
  unfold endSoft
  repeat' split
  all_goals simp

@[simp] theorem offPoint_endX1 (n : Fin 8) (reason : EndReason) (s : State) : offPoint (endX1 n reason s) = offPoint s := by
  unfold endX1
  repeat' split
  all_goals simp

@[simp] theorem offPoint_rampCheck (n : Fin 8) (s : State) : offPoint (rampCheck n s) = offPoint s := by
  unfold rampCheck
  dsimp only
  repeat' split
  all_goals simp

@[simp] theorem offPoint_setOos (n : Fin 8) (i : Nat) (s : State) : offPoint (setOos n i s) = offPoint s := by
  unfold setOos
  dsimp only
  repeat' split
  all_goals simp

@[simp] theorem offPoint_clearOos (n : Fin 8) (m : Nat) (s : State) : offPoint (clearOos n m s) = offPoint s := by
  unfold clearOos
  dsimp only
  all_goals simp

@[simp] theorem offPoint_basicPath (n : Fin 8) (s : State) : offPoint (basicPath n s) = offPoint s := by
  unfold basicPath
  repeat' split
  all_goals simp

@[simp] theorem offPoint_openSession (n : Fin 8) (s : State) : offPoint (openSession n s) = offPoint s := by
  have h : ∀ (f : Pilot → Pilot) u, offPoint (pilotNote n (modPilot n f) u) = offPoint u :=
    fun f => offPoint_pilotNote n _ fun _ => rfl
  unfold openSession
  dsimp only
  split
  · rfl
  · split
    · simp
    · rw [offPoint_setPhase, offPoint_followSig, offPoint_boundary, h, offPoint_modSess, offPoint_modSessP]
      rfl

@[simp] theorem offPoint_bindAuth (n : Fin 8) (type : Nat) (id : List Byte) (bpt : Bool) (limI limP limD : Nat) (s : State) : offPoint (bindAuth n type id bpt limI limP limD s) = offPoint s := by
  unfold bindAuth
  dsimp only
  repeat' split
  all_goals simp

@[simp] theorem offPoint_freeBind (n : Fin 8) (s : State) : offPoint (freeBind n s) = offPoint s := by
  unfold freeBind
  repeat' split
  all_goals simp

@[simp] theorem offPoint_ppGo (m : Fin 9) (st : PpState) (s : State) : offPoint (ppGo m st s) = offPoint s := by
  unfold ppGo
  dsimp only
  repeat' split
  all_goals simp

@[simp] theorem offPoint_e74 (n : Fin 8) (trip : BitVec 32) (src : Nat) (s : State) : offPoint (e74 n trip src s) = offPoint s := by
  unfold e74
  all_goals simp

@[simp] theorem offPoint_tripPoint (n : Fin 8) (causes latch : BitVec 32) (s : State) : offPoint (tripPoint n causes latch s) = offPoint s := by
  unfold tripPoint
  dsimp only
  repeat' split
  all_goals simp

@[simp] theorem offPoint_noteTrip (n : Fin 8) (causes : BitVec 32) (s : State) : offPoint (noteTrip n causes s) = offPoint s := by
  unfold noteTrip
  all_goals simp

@[simp] theorem offPoint_leaveC (n : Fin 8) (s : State) : offPoint (leaveC n s) = offPoint s := by
  unfold leaveC
  repeat' split
  all_goals simp

@[simp] theorem offPoint_sessionClosed (n : Fin 8) (s : State) : offPoint (sessionClosed n s) = offPoint s := by
  unfold sessionClosed
  dsimp only
  repeat' split
  all_goals simp

end Sys2Proof.Laws
end

