-- ==== Sys2Proof/Laws/Step.lean ====
section
/-!
SUPPORT. The ways a step ends: the front command's effect, a held command's start, or a microsecond of time.
-/

namespace Sys2Proof.Laws

open Sys2Proof Sys2Proof.Machine

/-- A step that answers a next state ran the front command on the queue's rest, or idled on an empty queue. -/
theorem step_cases (s t : State) (h : step s = .next t) :
    (∃ c rest, s.pending = c :: rest ∧ exec c { s with pending := rest } = .next t) ∨ (s.pending = [] ∧ t = idle s) := by
  unfold step at h
  split at h
  · rename_i c rest hp
    exact .inl ⟨c, rest, hp, h⟩
  · rename_i hp
    injection h with h
    exact .inr ⟨hp, h.symm⟩

/-- To show what every step keeps, show it of every command and of the idle step. -/
theorem step_keeps (P : State → Prop) (hq : ∀ s l, P s → P { s with pending := l }) (hc : ∀ c s t, P s → exec c s = .next t → P t)
    (hi : ∀ s, P s → P (idle s)) (s t : State) (hs : P s) (h : step s = .next t) : P t := by
  rcases step_cases s t h with ⟨c, rest, -, he⟩ | ⟨-, rfl⟩
  · exact hc c _ t (hq s rest hs) he
  · exact hi s hs

/-- The idle step starts the earliest held command that may start, or lets a microsecond pass. -/
theorem idle_cases (s : State) :
    (nextHeld s = none ∧ idle s = tick s) ∨ (∃ f, nextHeld s = some f ∧ idle s = startHeld f s) := by
  unfold idle
  split
  · rename_i f hf
    exact .inr ⟨f, hf, rfl⟩
  · rename_i hn
    exact .inl ⟨hn, rfl⟩

/-- Following the conditions of a descent changes only since when they hold (R441). -/
theorem followAllowed_only (s : State) : followAllowed s = { s with pwr.allowedSince := (followAllowed s).pwr.allowedSince } := by
  unfold followAllowed
  rfl

end Sys2Proof.Laws
end

