-- ==== Sys2Proof/WellFormed.lean ====
section
/-!
DEFINITION. Well-formed commands: the field widths of a packet (R365), and the codes and masks an event's operand can
take. The machine gives every command a meaning, well-formed or not; these are the commands the wires can carry.
-/

namespace Sys2Proof

/-- An IPv4 or IPv6 address and a UDP port (R374). -/
def Source.wf : Source → Bool
  | .spi => true
  | .net ip port => decide (ip < 2 ^ 128) && decide (port < 65536)

/-- The header fields fit their widths, and LEN is at most 16,384 (R365). -/
def Pkt.wf (p : Pkt) : Bool :=
  p.src.wf && decide (p.addr < 256) && decide (p.seq < 65536) && decide (p.flags < 65536) && decide (p.payload.length ≤ 16384)

/-- A datagram's source and size (R374): at most 65,507 bytes of UDP data. -/
def NetIn.wf : NetIn → Bool
  | .datagram src data _ => src.wf && decide (data.length ≤ 65507)
  | .fragment _ => true


/-- The command is one that can arrive. -/
def Instr.wf : Instr → Bool
  | .sysInfo p => p.wf
  | .sysStatus p => p.wf
  | .netCommit p => p.wf
  | .netCommitApply => true
  | .evtSubscribe p => p.wf
  | .evtRead p => p.wf
  | .partingFence p => p.wf
  | .partingFenceComplete _ => true
  | .partingFenceTimeout _ => true
  | .evtState p => p.wf
  | .mbxStatus p => p.wf
  | .blkWrite p => p.wf
  | .blkRead p => p.wf
  | .mtrCommit p => p.wf
  | .mtrCommitApply => true
  | .mtrCalStatus p => p.wf
  | .mtrRequalify p => p.wf
  | .mtrDetect p => p.wf
  | .mtrValues p => p.wf
  | .mtrEnergyCommit p => p.wf
  | .mtrEnergyCommitApply => true
  | .bilCommit p => p.wf
  | .bilCommitApply => true
  | .bilRegs p => p.wf
  | .bilDemand p => p.wf
  | .bilSnapshot p => p.wf
  | .bilPeriodEnd p => p.wf
  | .bilPeriodEndClose => true
  | .bilTimeSet p => p.wf
  | .bilCredit p => p.wf
  | .ledRead p => p.wf
  | .ledAck p => p.wf
  | .ledStatus p => p.wf
  | .ledLogRead p => p.wf
  | .ledPolicy p => p.wf
  | .ptCommit p => p.wf
  | .ptCommitApply => true
  | .ptStatus p => p.wf
  | .sesStart p => p.wf
  | .sesStop p => p.wf
  | .sesLimit p => p.wf
  | .sesStatus p => p.wf
  | .hlcCommit p => p.wf
  | .hlcExchange p => p.wf
  | .hlcModemTest p => p.wf
  | .safCommit p => p.wf
  | .safStatus p => p.wf
  | .safConfirm p => p.wf
  | .safReset p => p.wf
  | .efCommit p => p.wf
  | .efStatus p => p.wf
  | .efTest p => p.wf
  | .swCommit p => p.wf
  | .swSet p => p.wf
  | .swStatus p => p.wf
  | .swClear p => p.wf
  | .swSense p => p.wf
  | .swLock p => p.wf
  | .authCommit p => p.wf
  | .authCommitApply => true
  | .authListWrite p => p.wf
  | .authListCommit p => p.wf
  | .rdrStatus p => p.wf
  | .rdrSelftest p => p.wf
  | .tdrCommit p => p.wf
  | .tdrStatus p => p.wf
  | .tdrBudget p => p.wf
  | .dspCommit p => p.wf
  | .dspCommitApply => true
  | .dspWrite p => p.wf
  | .dspUpdate p => p.wf
  | .dspStatus p => p.wf
  | .dspStress p => p.wf
  | .secKey p => p.wf
  | .secStore p => p.wf
  | .secRead p => p.wf
  | .secChallenge p => p.wf
  | .secProve p => p.wf
  | .secAttest p => p.wf
  | .updBegin p => p.wf
  | .updData p => p.wf
  | .updSlotWritten => true
  | .updActivate p => p.wf
  | .updActivation => true
  | .updConfirm p => p.wf
  | .updStatus p => p.wf
  | .updAbort p => p.wf
  | .trialFailure => true
  | .trialConfirmTimeout => true
  | .pwrStatus p => p.wf
  | .pwrReset p => p.wf
  | .pwrResetExecute => true
  | .pwrOptionRead p => p.wf
  | .pwrOptionWrite p => p.wf
  | .pwrCommit p => p.wf
  | .tstPoint p => p.wf
  | .tstDegraded p => p.wf
  | .fsRead p => p.wf
  | .fsWrite p => p.wf
  | .fsCtl p => p.wf
  | .spiWrite _ => true
  | .spiRead _ => true
  | .spiStatus _ => true
  | .fragmentTimeout => true
  | .netServiceRequest kind _ _ => decide (kind ≤ 3)
  | .evtNotify _ => true
  | .evtNotifyResend _ => true
  | .ringTestSend => true
  | .ringTestReceive _ _ => true
  | .ringTestMissing _ => true
  | .linkDown _ => true
  | .flush _ => true
  | .ethLinkChange _ _ => true
  | .macAgeing => true
  | .ptpMessage _ => true
  | .ptpAnnounceTimeout => true
  | .mailboxRing _ who count => decide (who < 16) && decide (count < 32)
  | .mailboxAck _ who code => decide (who < 16) && decide (code < 65536)
  | .registerWrite _ who _ _ => decide (who < 16)
  | .mailboxPendingTimeout _ => true
  | .eventCoalesceFlush => true
  | .powerOn _ _ => true
  | .coldReset straps _ => decide (straps < 64)
  | .resetNPin _ => true
  | .vioInvalid => true
  | .vioValid => true
  | .vsysInvalid _ => true
  | .vbatLow _ => true
  | .powerFailWarning _ _ => true
  | .pfwNSample _ => true
  | .pfwStop => true
  | .pfwRecovered => true
  | .pfwWithdrawn => true
  | .watchdogExpiry => true
  | .eccError => true
  | .warmReset => true
  | .warmResetEnd => true
  | .appRunning => true
  | .blockResetRequest unit => decide (1 ≤ unit) && decide (unit ≤ 5)
  | .blockResetBegin => true
  | .blockResetEscalate => true
  | .blockResetEnd => true
  | .powerStateDescend => true
  | .powerStateWake src => decide (src ≤ 4)
  | .enterIdle => true
  | .shelfWake => true
  | .rtcCorrection => true
  | .clockMonitor _ _ => true
  | .mainClockFail _ => true
  | .pllLockLoss _ _ => true
  | .dieTempWarning _ => true
  | .mramScrub word _ => decide (word < 2 ^ 24)
  | .coverTamper _ => true
  | .rotationSlotStart _ => true
  | .modulatorFault _ _ => true
  | .bitstreamStuck _ _ => true
  | .bitstreamRecover _ _ => true
  | .bitstreamOverrange _ _ => true
  | .crossCheckWindow _ => true
  | .fastPathSample _ => true
  | .presetOutputSample _ preset => decide (preset < 4)
  | .zeroCrossing _ => true
  | .zcMissing _ => true
  | .meteringWindowClose _ => true
  | .nettingPeriodEnd _ => true
  | .gridBoundary => true
  | .p100Persist _ => true
  | .pulseIssue _ => true
  | .ppAuxCheck => true
  | .ledgerRecordWrite _ => true
  | .safetyCycle _ _ => true
  | .tripConfirmed _ => true
  | .safeCutDrop _ => true
  | .pathTestStepEnd _ => true
  | .closingTimeout _ => true
  | .weldCheck _ => true
  | .dcVoltageCheckTimeout _ => true
  | .weldWhileOpen _ => true
  | .pathEnableTimeout _ _ => true
  | .cutFault _ => true
  | .safetyPairFault _ => true
  | .safeStateSessionEnd _ => true
  | .safeRstPulse _ _ _ _ => true
  | .safeRstStuck _ => true
  | .appResetOpenTimeout _ => true
  | .pilotPeriod _ _ _ _ => true
  | .pilotStateAccept _ => true
  | .pilotStateInvalid _ => true
  | .diodeFault _ => true
  | .pilotErrorHoldEnd _ => true
  | .proximityAccept _ _ => true
  | .dutyIncreaseDue _ => true
  | .overcurrent _ => true
  | .bindLapse _ => true
  | .modemLoopback _ _ => true
  | .modemNoAnswer _ _ => true
  | .cmSlacParmReq _ => true
  | .cmMnbcSoundInd _ _ => true
  | .cmAttenCharRsp _ => true
  | .cmSlacMatchReq _ => true
  | .slacTimeout _ => true
  | .slacRetry _ => true
  | .sdpRequest _ => true
  | .tlsHandshake _ _ => true
  | .supportedAppProtocol _ _ => true
  | .authorizationRequest _ _ => true
  | .chargeParameterDiscovery _ _ => true
  | .cableCheckRequest _ => true
  | .prechargeRequest _ _ _ => true
  | .powerDeliveryRequest _ _ => true
  | .chargeLoopRequest _ _ => true
  | .certificateRequest _ _ => true
  | .meteringReceipt _ => true
  | .certExchangeTimeout _ => true
  | .authorizationTimeout _ => true
  | .hlcMessageTimeout _ => true
  | .dcStepTimeout _ => true
  | .hostStopTimeout _ => true
  | .tcpLoss _ _ => true
  | .hlcFallback _ => true
  | .canFrameTransmit _ => true
  | .canFrameReceive _ data => decide (data.length ≤ 64)
  | .canReceiveTimeout _ => true
  | .psFaultClear _ => true
  | .psFaultOpenTimeout _ => true
  | .offsetMeasurement _ => true
  | .residualMismatch _ => true
  | .testWindingStepEnd _ => true
  | .testWindingDue _ => true
  | .earthTriggerClear _ => true
  | .insulationStepEnd _ step _ _ _ _ => decide (step < 2)
  | .peChkPulse _ => true
  | .shortCircuit _ _ => true
  | .channelOvercurrent _ _ _ => true
  | .channelThermal _ _ => true
  | .supplyUnderVoltage _ _ => true
  | .underVoltageRelease _ _ => true
  | .inrushWindowEnd _ => true
  | .restartEvaluation _ _ => true
  | .retryCounterDecay _ => true
  | .offStateTest _ _ _ => true
  | .onStateOpenLoad _ _ _ => true
  | .economiserUpdate _ _ => true
  | .feedbackChange _ _ _ _ => true
  | .lockOperation _ => true
  | .lockDriveEnd _ _ _ => true
  | .lockConfirm _ _ _ => true
  | .lockLost _ _ _ => true
  | .limpHomeChange _ _ => true
  | .appRefreshTimeout => true
  | .lhInputChange _ _ => true
  | .antennaPing _ _ => true
  | .poll _ _ => true
  | .pollEnd _ => true
  | .hostDecisionTimeout _ => true
  | .presentationEnd _ => true
  | .antennaSelftest _ _ _ => true
  | .baselineStore => true
  | .fieldPowerUp _ => true
  | .ndefRead _ => true
  | .fieldRead p1 _ => decide (p1 < 256)
  | .fieldWrite p1 _ _ => decide (p1 < 256)
  | .confirmProcess _ => true
  | .halfCycleRecord => true
  | .tiderSlot pos _ _ _ => decide (pos < 65536)
  | .spanEnd _ => true
  | .joinListenEnd => true
  | .neighbourTimeout => true
  | .beaconDue => true
  | .demandDue => true
  | .allocTimeout => true
  | .displayUpdateStart _ => true
  | .railPowerOnStep _ => true
  | .displayFrame => true
  | .displayUpdateComplete => true
  | .railHoldExpiry => true
  | .railRetry => true
  | .ntcMeasure _ => true
  | .tempDeferralRetry => true
  | .legalRender => true
  | .recoveryStart => true
  | .katRun _ => true
  | .chuckWaitTimeout => true
  | .grantExpiry => true
  | .serviceSelection _ _ _ _ => true
  | .rejectedPacket x => x.wf
  | .fieldCollapse _ => true
  | .modulatorOverdue _ => true
  | .nonceExpiry => true
  | .keptCommandExpiry => true
  | .dhcpv4Message ip _ => decide (ip < 2 ^ 32)
  | .frameForwarding _ src dst _ => decide (src < 2 ^ 48) && decide (dst < 2 ^ 48)
  | .syncInterval _ => true

end Sys2Proof
end

