-- ==== Sys2Proof/Tests/Slice0.lean ====
section
/-!
SUPPORT. The model's own tests: the WellFormed smoke, worked examples of the spec, and a concrete state that meets the
hypotheses of each statement.
-/

namespace Sys2Proof.Tests

open Sys2Proof Sys2Proof.Machine

set_option Elab.async false

/-! ## Small states -/

/-- A running device: supplies valid, boot over, metering valid, time valid, the port ready. -/
def up : State := { State.reset with
  pwr.phase := .run, pwr.vsysValid := true, pwr.vioValid := true, pwr.appRunning := true, pwr.kRunning := true, pwr.tRunning := true, pwr.pRunning := Vector.replicate 2 true
  port.ready := true, fe.valid := true, safeDev.running := true
  clk.mono := 1000000000, clk.time := 800000000000000000, clk.timeValid := true }

/-- A command packet from the SPI port. -/
def pk (b : List Byte) : Pkt := { payload := b }

/-- A settings block of FORMAT 1 with `n` further bytes, zero but for the bytes given by their offset. -/
def cp (id n : Nat) (ps : List (Nat × Nat)) : BlkCopy :=
  { id, bytes := ps.foldl (fun b x => patch x.1 [BitVec.ofNat 8 x.2] b) (le 2 id ++ le 2 1 ++ zeros n) }

/-- The device with settings blocks stored and committed. -/
def withB (cs : List BlkCopy) (s : State) : State := { s with blk.stored := cs, blk.committed := cs }

/-- A command of the SPI port that runs. -/
def fl (op : Nat) : Flight := { opcode := op, no := 3 }

/-- The point of most witnesses. -/
def p1 : Fin 8 := 0

/-! ## The well-formedness checks refuse an ill-formed command of each kind -/

/-- A packet's header fields and payload. -/
theorem test_wf_packet :
    Instr.wf (.sysInfo {}) = true ∧ Instr.wf (.sysInfo { addr := 256 }) = false ∧ Instr.wf (.sysInfo { seq := 65536 }) = false ∧
    Instr.wf (.sysInfo { flags := 65536 }) = false ∧ Instr.wf (.sysInfo { src := .net (2 ^ 128) 1 }) = false ∧
    Instr.wf (.sysInfo { src := .net 1 65536 }) = false := by decide +kernel

/-- A payload longer than LEN can say, and a datagram longer than UDP carries. -/
theorem test_wf_payload (b : List Byte) :
    (16384 < b.length → Instr.wf (.blkWrite { payload := b }) = false) ∧
    (65507 < b.length → Instr.wf (.rejectedPacket (.datagram .spi b none)) = false) := by
  constructor <;> intro h
  · change Pkt.wf { payload := b } = false
    simp [Pkt.wf, Nat.not_le.mpr h]
  · change NetIn.wf (.datagram .spi b none) = false
    simp [NetIn.wf, Nat.not_le.mpr h]

/-- The codes, masks and addresses of events. -/
theorem test_wf_operands :
    Instr.wf (.coldReset 64 true) = false ∧ Instr.wf (.blockResetRequest 0) = false ∧ Instr.wf (.blockResetRequest 6) = false ∧
    Instr.wf (.mailboxRing 0 16 0) = false ∧ Instr.wf (.mailboxRing 0 0 32) = false ∧ Instr.wf (.mailboxAck 0 0 65536) = false ∧
    Instr.wf (.netServiceRequest 4 0 []) = false ∧ Instr.wf (.powerStateWake 5) = false ∧ Instr.wf (.dhcpv4Message (2 ^ 32) true) = false ∧
    Instr.wf (.frameForwarding 0 (2 ^ 48) 0 64) = false ∧ Instr.wf (.frameForwarding 0 0 (2 ^ 48) 64) = false ∧
    Instr.wf (.canFrameReceive 0 (zeros 65)) = false ∧ Instr.wf (.insulationStepEnd 0 2 0 0 0 true) = false ∧
    Instr.wf (.fieldRead 256 []) = false ∧ Instr.wf (.fieldWrite 256 [] (0, 0)) = false ∧ Instr.wf (.coldReset 37 true) = true := by decide +kernel

/-! ## The spec's worked examples -/

/-- Convergent rounding of 0.5, 1.5, 2.5 and 3.5 (the example after R51). -/
theorem test_conv : [conv 1 2, conv 3 2, conv 5 2, conv 7 2] = [0, 2, 2, 4] := by decide +kernel

/-- Wrapping forms of a displayed register (the example after R103). -/
theorem test_forms : ((forms 39999987500000).getD 1 (0, 0), (forms 40000015000000).getD 1 (0, 0)) = ((999998750, 3), (1500, 4)) := by decide +kernel

/-- Three windows at 11,040 W transfer 61,333, 61,333 and 61,334 µWh and leave no residue (the example of file 04). -/
theorem test_transfer :
    (let s := withB [cp 0x0212 92 [(4, 9)]] up
     let w := fun t => transferQ 2 0 (1766400000000 * 65536) {} t
     let acc := fun (t : State) => vget (vget t.p100.m 2).acc 0
     (acc (w s), acc (w (w s)), acc (w (w (w s))), vget (vget (w (w (w s))).pfw.res 2) 0)) = (61333, 122666, 184000, 0) := by decide +kernel

/-- The duty codes of 20 A, 16 A and 5 A (R151). -/
theorem test_duty : (dutyOf 20000, dutyOf 16000, dutyOf 5000) = (some 666, some 533, none) := by decide +kernel

/-- The frame of the example after R199: point 2, fifth transmission. -/
theorem test_can_frame :
    (let sig := fun (var start ctl : Nat) (factor offset : Int) => le 1 0 ++ le 1 var ++ le 2 start ++ le 2 (ctl + 256 + 1024) ++ zeros 2 ++ leInt 4 factor ++ leInt 4 offset
     let b := le 2 0x0420 ++ le 2 1 ++ zeros 16 ++ le 4 0x180 ++ [0x09, 8] ++ le 2 50 ++ zeros 8 ++ zeros 368 ++
       (sig 1 0 0 65536 0 ++ sig 2 1 2 65536 0 ++ sig 6 4 3 65536 0 ++ sig 3 8 15 6553600 0 ++ sig 4 24 15 6553600 (-3200000) ++
         sig 5 40 15 655360 0 ++ sig 7 56 7 65536 0 ++ zeros 1428)
     let s := modHlc 1 (fun h => { h with enable := true, mode := 3, tgtU := 410000, tgtI := 125000, avP := 50000 })
       (withB [{ id := 0x0420, bytes := b }, cp 0x0412 28 [(16, 0x50), (17, 0xC3)]] up)
     txData s 0 5) = [0x57, 0x04, 0x10, 0xE2, 0x81, 0x88, 0x13, 0xBB] := by decide +kernel

/-- Insulation of point 2 (the example after R218): 500 kΩ, 1,000 kΩ and 333 kΩ; 333 kΩ lies between 80 and 400 kΩ. -/
theorem test_insulation :
    (let b := (cp 0x0532 20 [(4, 0xD0), (5, 7), (8, 200), (16, 0xF4), (17, 1), (18, 100)]).bytes
     match isoCond b 300000 500000 133333 666667 with
     | some (ga, gb, den) => (ohmsOf ga den, ohmsOf gb den, ohmsOf (ga + gb) den, isoStatus b 800000 (ga + gb) den)
     | none => (0, 0, 0, 0)) = (500, 1000, 333, 3) := by decide +kernel

/-- The cards 1A2B3C4D and 1A2B3CCD in the order the walk reads them, whichever way they lie (the example after R286). -/
theorem test_walk :
    (let t := fun b => ({ uid := [0x1A, 0x2B, 0x3C, b] } : ATgt)
     (walk [t 0xCD, t 0x4D]).map (·.uid.getD 3 0)) = [0x4D, 0xCD] := by decide +kernel

/-- Address straps 37 give 169.254.100.38 (the example of file 22). -/
theorem test_address : ipv4Of { up with pwr.addr := 37 } = some (169 * 2 ^ 24 + 254 * 2 ^ 16 + 100 * 2 ^ 8 + 38) := by decide +kernel

/-! ## What each statement assumes, met by a concrete state -/

/-- StepRunsFrontCommand and IdleStep: a queue with a command in front, an empty queue, a held command that may start and none. -/
theorem wit_queue : ({ up with pending := [.fragmentTimeout] } : State).pending = [.fragmentTimeout] ∧ up.pending = [] ∧
    nextHeld up = none ∧ timeRuns up = true ∧ timeRuns State.reset = false ∧
    nextHeld { up with port.held := [fl 0x0101] } = some (fl 0x0101) := by decide +kernel

/-- AcceptedPacketStarts. -/
theorem wit_taken : taken 0x0101 (pk []) up = true := by decide +kernel

/-- FailedChecksExecuteNothing, clause by clause. -/
theorem wit_checks :
    (noRoom State.reset (pk []) = true ∧ noRoom State.reset { pk [] with src := .net 1 1 } = true ∧ noRoom up (pk []) = false) ∧
    ({ pk [] with flags := 32768 } : Pkt).flags.testBit 15 = true ∧ addrOk up { pk [] with addr := 7 } = false ∧ addrOk up (pk []) = true ∧
    ((pk []).flags.testBit 15 = false ∧ opAccepted { up with port.wait := true } 0x0201 = false ∧ opAccepted up 0x0201 = true) ∧
    keptOf up (pk []) = none ∧ 32 ≤ (outstanding { up with port.held := List.replicate 32 (fl 0x0101) }).length ∧
    (isBroadcast { pk [] with addr := 0xFF } || noReply { pk [] with addr := 0xFF }) = true := by decide +kernel

/-- The longest payload, and one byte more. -/
theorem wit_longPayload : 16384 < (List.replicate 16385 (0 : Byte)).length ∧ (List.replicate 16384 (0 : Byte)).length ≤ 16384 := by
  rw [List.length_replicate, List.length_replicate]; omega

/-- WaitStateExecutesFiveSubsystems. -/
theorem wit_waitState :
    let s := { up with port.wait := true }
    s.port.wait = true ∧ 0x0201 / 256 ∉ [0x01, 0x0A, 0x0B, 0x0C, 0x0D] ∧ noRoom s (pk []) = false ∧ addrOk s (pk []) = true ∧
      (isBroadcast (pk []) || noReply (pk [])) = false := by decide +kernel

/-- RepeatsAreAnsweredFromTheKeptCommand: a kept command that runs, and one that has been answered. -/
theorem wit_repeats :
    let k : Kept := { opcode := 0x0101, t0 := 1000000000 }
    let r : Reply := { opcode := 0x0101 }
    keptOf { up with port.kept := [k] } (pk []) = some k ∧ k.opcode ≠ 0x0102 ∧ k.reply = none ∧
      keptOf { up with port.kept := [{ k with reply := some r }] } (pk []) = some { k with reply := some r } ∧ noReply (pk []) = false ∧
      noReply { pk [] with flags := 4 } = true := by decide +kernel

/-- SpiStatusWord. -/
theorem wit_spiStatus : (0x00 : Byte) ≠ 0x5A ∧ (0x00 : Byte) ≠ 0xA5 ∧ spiDriven up = true ∧ spiDriven State.reset = false := by decide +kernel

/-- A whole SYS_INFO packet. -/
def rawInfo : List Byte := withCrc ([2, 0xFE] ++ le 2 0 ++ le 2 0x0101 ++ le 2 0 ++ le 4 0 ++ le 4 0)

/-- PacketTransportCompletes: a whole packet, one cut short, a full queue of replies, a reply that waits, datagrams. -/
theorem wit_transport :
    (spiDriven up = true ∧ rxRoom up = true ∧ rawLen rawInfo ≤ 16384 ∧ rawLen rawInfo + 20 ≤ rawInfo.length ∧
      crcOk (rawInfo.take (rawLen rawInfo + 20)) = true ∧ u8 0 rawInfo = 2 ∧ u16 6 rawInfo < 16 ∧ u16 12 rawInfo = 0 ∧ u16 14 rawInfo = 0 ∧
      (bodyOf (u16 4 rawInfo)).isSome = true ∧ addrOk up (rawPkt .spi rawInfo) = true) ∧
    (rawInfo.take 19).length < 20 ∧ rawLen (rawInfo.take 19) ≤ 16384 ∧ rxRoom { up with port.spiOut := List.replicate 8 {} } = false ∧
    (rawInfo.length = rawLen rawInfo + 20 ∧ addrOk up (rawPkt (.net 1 1) (patch 1 [0xFF] rawInfo)) = true ∧ up.port.ready = true) ∧
    (16 ≤ (rawInfo ++ [0]).length ∧ (rawInfo ++ [0]).length ≠ rawLen (rawInfo ++ [0]) + 20 ∧ u16 6 (rawInfo ++ [0]) < 32768) := by decide +kernel

/-- IdentityAndBlockCommandsComplete. -/
theorem wit_blocks :
    let c := cp 0x0230 40 [(44, 0)]
    let b := withCrc ([0x30, 2, 1, 0] ++ plsReset)
    (taken 0x0101 (pk []) up = true ∧ taken 0x0102 (pk []) up = true ∧ taken 0x0107 (pk []) up = true ∧ taken 0x0108 (pk []) up = true) ∧
    (taken 0x010A (pk (le 2 0x0230 ++ le 1 0 ++ [0])) (withB [c] up) = true ∧ (blockSize 0x0230).isSome = true ∧
      blockPresent (withB [c] up) 0x0230 = true ∧ (committedCopy (withB [c] up) 0x0230).isSome = true ∧
      (storedCopy (withB [c] up) 0x0230).isSome = true) ∧
    (taken 0x0109 (pk (le 2 0x0230 ++ [0, 0] ++ b)) up = true ∧ blockPresent up 0x0230 = true ∧ blockSize 0x0230 = some b.length ∧
      u16 0 b = 0x0230 ∧ u16 2 b = formatOf up 0x0230 ∧ crcOk b = true ∧ blockRules up 0x0230 b = true) ∧
    (taken 0x0103 (pk [0, 0, 0, 0]) (withB [cp 0x0110 60 []] up) = true ∧ storedAll (withB [cp 0x0110 60 []] up) [0x0110] = some [cp 0x0110 60 []] ∧
      (cp 0x0110 60 []).byHost = true ∧ up.port.wait = false ∧ up.port.netPend = none) := by decide +kernel

/-- The device with a network block in effect: RING, PTP role and IPv4 mode as given. -/
def net (ring ptp ip4 : Nat) (s : State) : State := { s with port.netApplied := some (cp 0x0110 60 [(4, ip4 + 8 * ring), (40, ptp)]).bytes }

/-- SwitchAndRingComplete. -/
theorem wit_ring :
    (switchUp (net 2 0 1 up) = true ∧ switchUp (net 1 0 1 up) = true ∧ switchUp (net 0 0 1 up) = true ∧ netRing (netB (net 2 0 1 up)) = 2 ∧
      netRing (netB (net 1 0 1 up)) = 1 ∧ netRing (netB (net 0 0 1 up)) = 0 ∧ up.port.ring ≠ .memberNoManager ∧
      ({ up with port.ring := .memberNoManager } : State).port.ring = .memberNoManager ∧ up.port.testSeenAt + 10000 ≤ up.clk.mono) ∧
    (let s := { net 2 0 1 up with port.ring := .opened, port.testRet := 49 }
     s.port.ring ≠ .closed ∧ 49 ≤ s.port.testRet ∧ ({ s with port.testRet := 48 } : State).port.testRet < 49) ∧
    (let s := { net 2 0 1 up with port.ring := .closed, port.testMiss := Vector.replicate 2 1 }
     1 ≤ vget s.port.testMiss 0 ∧ s.port.ring = .closed ∧ vget up.port.testMiss 0 = 0) ∧
    (vget up.port.link 0 ≠ true ∧ vget ({ up with port.link := Vector.replicate 2 true } : State).port.link 1 ≠ false) ∧
    (ipv4Of up = some 0xA9FE6401 ∧ ip4Mode (netB (net 0 0 2 up)) = 2 ∧ up.port.netApplied = none) ∧
    ({ up with port.netPend := some (fl 0x0103), blk.taken := [(fl 0x0103, [cp 0x0110 60 []])] } : State).port.netPend = some (fl 0x0103) ∧
    takenBy { up with blk.taken := [(fl 0x0103, [cp 0x0110 60 []])] } (fl 0x0103) = [cp 0x0110 60 []] := by decide +kernel

/-- FRAME_FORWARDING from an unknown source, to a destination that is not the device's own. -/
theorem wit_forward : ∃ src dst : Nat, dst ≠ Config.mac.toNat ∧ src ≠ dst ∧ up.port.eth2Blk = false ∧
    ∀ x ∈ up.port.macs, x.mac = dst → x.port ≠ 1 :=
  ⟨Config.mac.toNat, Config.mac.toNat + 1, by omega, by omega, rfl, by intro x h; cases h⟩

/-- PtpCompletes: a slave within 2 s of the PTP time and further from it, with time valid and invalid, and the other roles. -/
theorem wit_ptp :
    let s := net 0 1 1 { up with port.ptp := .slave, port.utcOfs := 37 }
    let near := 946684800000000 + 37000000 + 800000000000000000 + 2000000
    let far := near + 1
    let target := fun (t : Nat) => ((t : Int) - s.port.utcOfs * 1000000 - 946684800000000).toNat
    s.port.ready = true ∧ ptpRole (netB s) ≠ 0 ∧ s.port.ptp ∈ [PtpSt.uncalibrated, .slave, .holdover] ∧ s.port.gmId = 0 ∧ s.clk.timeValid = true ∧
      ((target near : Int) - s.clk.time).natAbs ≤ 2000000 ∧ 2000000 < ((target far : Int) - s.clk.time).natAbs ∧
      s.port.lastAnn + 3000000 ≤ s.clk.mono ∧ ptpRole (netB s) ≠ 2 ∧ ptpRole (netB s) ≠ 3 ∧ ptpRole (netB (net 0 3 1 up)) = 3 ∧
      ptpRole (netB (net 0 2 1 up)) = 2 ∧ ({ net 0 2 1 up with port.ptp := .master } : State).port.ptp = .master ∧
      ({ s with clk.timeValid := false } : State).clk.timeValid = false := by decide +kernel

/-- A device whose sink 1 is subscribed and has an entry not acknowledged. -/
def sub : State := { up with
  led.sinks := vset State.reset.led.sinks 1 { on := true, mask := BitVec.ofNat 128 (2 ^ 128 - 1), port := 7 }
  led.log := [{ ev := 36, no := 5 }], led.logNext := 6, port.notify := vset State.reset.port.notify 1 { sentAt := some 0 } }

/-- SinksAndFenceComplete, the sinks, and a fence at a time given or at the next grid instant. -/
theorem wit_sinks :
    (let b := [1, 0, 0, 0] ++ zeros 32
     let c := [0, 0xFF, 0, 0] ++ zeros 32
     taken 0x0104 (pk b) up = true ∧ taken 0x0104 (pk c) up = true ∧ b.length = 36 ∧ u8 1 b = 0 ∧ u8 1 c = 0xFF ∧ u16 2 c = 0 ∧
      allZero (slice 4 16 c) = true ∧ allZero ((slice 4 16 b).drop 4) = true) ∧
    (let b := [1, 0, 128, 0, 6, 0, 0, 0]
     taken 0x0105 (pk b) sub = true ∧ u16 2 b ≤ 128 ∧ u32 4 b ≤ (begun 0x0105 (pk b) sub).led.logNext ∧
      (vget (begun 0x0105 (pk b) sub).led.sinks 1).on = true ∧ u32 4 [1, 0, 128, 0, 0, 0, 0, 0] ≤ (vget (begun 0x0105 (pk b) sub).led.sinks 1).ack) ∧
    (sub.port.ready = true ∧ unacked sub 1 = [{ ev := 36, no := 5 }] ∧ (vget sub.port.notify 1).upto ≤ 5 ∧ (vget sub.port.notify 1).sentAt = some 0 ∧
      0 + 100000 ≤ sub.clk.mono ∧ unacked up 1 = []) ∧
    (taken 0x0106 (pk (le 8 0)) up = true ∧ taken 0x0106 (pk (le 8 800000000000000000)) up = true ∧ taken 0x0106 (pk (le 8 800000000060000000)) up = true ∧
      up.clk.time = 800000000000000000 ∧ up.clk.timeValid = true ∧ up.port.fence = none) := by
  decide +kernel

/-- SinksAndFenceComplete: a fence whose snapshot is complete, with marks up to it and behind it, and one that still waits. -/
theorem wit_fence :
    let f : Fence := { flight := fl 0x0106, t := 5, doneAt := some 0, split := Vector.replicate 9 true }
    let s := { up with port.fence := some f }
    let g : Fence := { flight := fl 0x0106, t := 5 }
    let at_ := fun (k : Nat) => { fenceIdle s with port.marks := Vector.replicate 16 k }
    (s.port.fence = some f ∧ f.doneAt = some 0 ∧ 0 + 1000000 ≤ s.clk.mono ∧ lagging s f.t (Vector.replicate 16 4) ≠ 0 ∧
      ((fenceIdle s).port.fence.any fun f => f.doneAt.isSome && lagging (at_ 5) f.t (Vector.replicate 16 5) == 0 &&
        lagging (at_ 4) f.t (Vector.replicate 16 4) != 0) = true) ∧
    ((fenceIdle { up with clk.time := 4, port.fence := some g }).port.fence = some g ∧ g.doneAt = none) := by decide +kernel

/-- A device whose option record binds mailbox 0 from 2 to 3. -/
def boxed : State := { up with pwr.optLoaded := some (zeros 16 ++ [0x32, 1] ++ zeros 206), pwr.pRunning := Vector.replicate 2 true }

/-- MailboxesComplete. -/
theorem wit_mailboxes :
    let full := { boxed with mbx := vset boxed.mbx 0 { pending := true, count := 16 } }
    (gridRuns boxed = true ∧ isBound boxed 0 = true ∧ bits (bindOf boxed 0) 3 0 = 2 ∧ bits (bindOf boxed 0) 7 4 = 3 ∧
      (vget boxed.mbx 0).pending = false) ∧
    ((vget full.mbx 0).pending = true ∧ (vget full.mbx 0).e14 = false ∧ (vget full.mbx 0).since + 500000 ≤ full.clk.mono ∧
      rxState full (bits (bindOf full 0) 7 4) = 0) ∧
    (isBound boxed 1 = false ∧ bits (bindOf boxed 0) 3 0 ≠ 7) ∧
    (∀ o : Fin 16, vget ({ up with ev.coal := [{ ev := 36, count := 3 }] } : State).ev.used o = 0) := by decide +kernel

/-- The device with group block `g`, enabled with every channel on the modulator inputs, and the meter's block. -/
def metered : State := withB [cp 0x0210 92 ([(4, 1), (64, 0x7F)] ++ (List.range 7).map fun c => (8 + 4 * c, 3)),
  cp 0x0211 92 [(4, 1), (8, 1)], cp 0x0220 24 [(4, 2), (12, 1)], cp 0x0230 36 [(4, 1), (5, 40)]] up

/-- The comparison of channel 0 with channel 1 within 10 %. -/
def crossed : State := withB [cp 0x0210 92 [(4, 1), (8, 3), (12, 3), (36, 1), (40, 1), (64, 1), (65, 200)]] up

/-- The device with channels 0 and 6 of G0 on its own modulators. -/
def inner : State := withB [cp 0x0210 92 [(4, 1), (8, 1), (32, 1)]] up

/-- FrontEndCompletes, rotation and faults. -/
theorem wit_frontEnd :
    (up.fe.valid = true ∧ up.fe.validAt + 10000000 ≤ up.clk.mono ∧ up.fe.slotAt = none ∧ (resumeSlot up).fe.back = [] ∧ (resumeSlot up).fe.extra = [] ∧
      (resumeSlot { up with fe.back := [3] }).fe.back = [3] ∧ (resumeSlot { up with fe.extra := [3] }).fe.extra = [3] ∧
      (resumeSlot { up with fe.slot := 71 }).fe.slot = 63 + 8 ∧ hasGroup up 8 = true ∧ vat up.nvFe.subst 8 none = none) ∧
    (evidenceHolds up 71 (.stuck 64) = true ∧ hasGroup up (71 / 8) = true ∧ 71 % 8 = 7 ∧ isFaulty up 71 = false) ∧
    (let s := { inner with fe.slotAt := some (0, { cut := 1 }) }
     evidenceHolds s 0 (.density 12 false) = true ∧ evidenceHolds s 7 (.density 244 false) = true ∧ evidenceHolds s 0 (.density 13 false) = false ∧
      evidenceHolds inner 0 (.density 0 false) = false ∧ internalEn s 0 0 = true ∧ isDegraded s 0 = false ∧
      vat s.fe.spareBusy 0 none ≠ some 0 ∧ vat s.nvFe.subst 0 none ≠ some 0) ∧
    (let s := { inner with fe.spareBusy := Vector.replicate 9 (some 6), nvFe.degraded := Vector.replicate 9 true }
     vat s.fe.spareBusy 0 none = some 6 ∧ isFaulty s 6 = false ∧ isDegraded s 0 = true ∧ internalEn s 0 0 = true) ∧
    (let s := { up with fe.firstDone := true, fe.mods := Vector.replicate 72 { lastPass := some 0 } }
     s.fe.firstDone = true ∧ s.fe.frozen = false ∧ isDegraded s (7 / 8) = false ∧ (vget s.fe.mods 7).overdue = false ∧
      (vget s.fe.mods 7).lastPass = some 0 ∧ 0 + 600000000 ≤ s.clk.mono) := by decide +kernel

/-- FrontEndCompletes, external bitstreams: windows that agree, differ, and are not compared. -/
theorem wit_bitstreams :
    let w := fun (n a b : Nat) => { crossed with fe.xch := vset (vset crossed.fe.xch 0 { stuck := true, misRun := n, tot := (a, 0, 1) }) 1 { tot := (b, 0, 1) } }
    let dc := fun (s : State) => withB [cp 0x0210 92 [(4, 7), (8, 3), (12, 3), (36, 1), (40, 1), (64, 1), (65, 200)]] s
    extEn crossed 0 = true ∧ (vget (w 0 0 0).fe.xch 0).stuck = true ∧ chPartner (grp crossed 0) 0 ≠ 0x7F ∧
      (vget (w 0 0 0).fe.xch 0).xAt + 1000000 ≤ up.clk.mono ∧ (w 0 0 0).fe.valid = true ∧ xCheck (dc (w 0 0 0)) 0 = none ∧
      xCheck (dc (w 0 8000000 8000000)) 0 = some false ∧ xCheck (dc (w 1 8000000 6000000)) 0 = some true ∧
      (vget (dc (w 1 8000000 6000000)).fe.xch 0).misRun < 2 ∧ 2 ≤ (vget (dc (w 2 8000000 6000000)).fe.xch 0).misRun := by decide +kernel

/-- FrontEndCompletes, commands. -/
theorem wit_frontCommands :
    (taken 0x0201 (pk (le 2 1)) crossed = true ∧ 1 < 2 ^ (crossed.member.points + 1) ∧
      storedAll crossed ((maskGroups 1).map (0x0210 + ·)) = some crossed.blk.stored ∧ (crossed.blk.stored.all fun c => c.byHost) = true ∧
      closedInGroups crossed 1 = false ∧ crossed.fe.commit = none) ∧
    (let f := { fl 0x0201 with tag := 1 }
     let s := { crossed with fe.commit := some f, blk.taken := [(f, [cp 0x0210 92 []])] }
     s.fe.commit = some f ∧ commitFree s f.tag = true ∧ takenBy s f = [cp 0x0210 92 []]) ∧
    (taken 0x0202 (pk [71, 0, 0, 0]) up = true ∧ hasGroup up (71 / 8) = true) ∧
    (let s := { up with nvFe.mods := Vector.replicate 72 { faulty := true, passes := 3 } }
     taken 0x0203 (pk [7, 0, 0, 0]) s = true ∧ isFaulty s 7 = true ∧ 3 ≤ (vget s.nvFe.mods 7).passes ∧ taken 0x0203 (pk [6, 0, 0, 0]) s = true ∧
      vat s.nvFe.subst 0 none ≠ some 6) ∧
    (let s := { up with nvFe.mods := vset up.nvFe.mods 6 { faulty := true, passes := 3 }, nvFe.subst := Vector.replicate 9 (some 6) }
     taken 0x0203 (pk [6, 0, 0, 0]) s = true ∧ isFaulty s 6 = true ∧ vat s.nvFe.subst 0 none = some 6 ∧ isFaulty s 7 = false ∧
      isFaulty (modNvMod 7 (fun x => { x with faulty := true }) s) 7 = true) := by decide +kernel

/-- A spare's calibration that passes while calibration is frozen. -/
theorem wit_calOkay : calOkay 7 {} true = true := by decide +kernel

/-- SamplesAndWindowsComplete, samples and crossings. -/
theorem wit_samples :
    (gridDue metered = true ∧ 6 % 8 < 7 ∧ chEn (grp metered 0) 6 = true ∧ hasGroup metered 0 = true ∧ chEn (grp up 0) 0 = false) ∧
    (let s := { metered with fe.outs := vset metered.fe.outs 0 [{ preset := 3, at_ := 1 }, { preset := 0, at_ := 2 }] }
     takeOut 0 (vget s.fe.outs 0) = some ({ preset := 0, at_ := 2 }, [{ preset := 3, at_ := 1 }]) ∧
      takeOut 3 (vget s.fe.outs 0) = some ({ preset := 3, at_ := 1 }, [{ preset := 0, at_ := 2 }]) ∧
      grpPreset (grp s 0) = 0 ∧ meterRuns s 0 = true ∧ meterRuns up 0 = false) ∧
    (let d : Det := { prevX := some (-1), lastX := some 0, wentNeg := true }
     let s := { metered with filt.det := vset metered.filt.det 4 d }
     isVoltage s 4 = true ∧ crossingOf (vget s.filt.det 4) = some true ∧ crossingOf { prevX := some 1, lastX := some 0, wentPos := true } = some false) ∧
    (let s := { metered with filt.det := vset metered.filt.det 4 { zc := [5] } }
     (vget s.filt.det 4).zc ≠ [] ∧ (vget s.filt.det 4).zc.headD 0 + missLimit (vget s.filt.det 4) ≤ 64 * s.clk.mono) := by decide +kernel

/-- SamplesAndWindowsComplete, windows, netting and pulses. -/
theorem wit_windows :
    (let s := { metered with en.m := Vector.replicate 9 { win := { smp := [(5, List.replicate 7 1, List.replicate 7 0)] } } }
     meterRuns s 0 = true ∧ winComplete s 0 (winEnd s 0).1 = true ∧ (winSum s 0 (winEnd s 0).1 (cutSides (winEnd s 0).1 0 (vget s.en.m 0).win.sides).1).n ≠ 0) ∧
    (let s := fun (t : Option Nat) => { metered with en.m := Vector.replicate 9 { netT := t } }
     meterRuns (s none) 0 = true ∧ netMode (mtr (s none) 0) = 2 ∧ 0 < tNet (mtr (s none) 0) ∧ (vget (s none).en.m 0).netT = none ∧
      (vget (s (some 0)).en.m 0).netT = some 0 ∧ 0 ≤ up.clk.time ∧ netMultiple (s (some (2 ^ 62))) 0 < 2 ^ 62 ∧
      (vget (s none).en.m 0).win.startE < onGrid (s none) up.clk.time) ∧
    (let s := { metered with en.pls := Vector.replicate 4 { pend := 1 } }
     plsEn (pls s) 0 = true ∧ (vget s.en.pls 0).onUntil = none ∧ 0 < (vget s.en.pls 0).pend ∧ (vget s.en.pls 0).nextAt ≤ s.clk.mono ∧
      plsEn (pls s) 1 = false ∧ (vget ({ s with en.pls := Vector.replicate 4 { onUntil := some 5 } } : State).en.pls 0).onUntil = some 5) := by decide +kernel

/-- SamplesAndWindowsComplete, commands. -/
theorem wit_energyCommands :
    (taken 0x0204 (pk [8, 0, 0, 0]) up = true ∧ hasGroup up 8 = true ∧ taken 0x0205 (pk [8, 0, 0, 0]) up = true ∧ 8 ≤ up.member.points) ∧
    (taken 0x0206 (pk (le 2 0x201 ++ [0, 0])) metered = true ∧ (∀ k ∈ ecMeters 0x201, hasGroup metered k.1 = true) ∧
      (storedAll metered ((ecMeters 0x201).map (fun k => 0x0220 + k.1) ++ [0x0230])).isSome = true ∧ bit 0x201 9 = true ∧
      (metered.blk.stored.all fun c => c.byHost) = true ∧ (∀ n ∈ (ecMeters 0x201).filterMap pointOfMeter, contactorShut metered n = false) ∧
      metered.en.commit = none) ∧
    (let s := { up with en.commit := some (fl 0x0206), en.commitPls := true }
     s.en.commit = some (fl 0x0206) ∧ s.en.commitPls = true ∧ ∀ m, (vget s.en.m m).commit = false) ∧
    (let s := { metered with en.commit := some (fl 0x0206), en.m := vset up.en.m 0 { commit := true } }
     s.en.commitPls = false ∧ (vget s.en.m 0).commit = true ∧ meterRuns s 0 = true) := by decide +kernel

/-- EnergyIsConserved: the rate of a preset is never 0. -/
theorem wit_rate : 0 < presetRate (grpPreset (grp metered 0)) * 3600 * 65536 := by decide +kernel

/-- The SPI port holds every authority for the session of a credential. -/
def granted (s : State) : State := { s with key.grants := [{ src := .spi, auth := 31, t0 := s.clk.mono }] }

/-- The device with billing blocks: calendar, billing, and prepayment of the device group enabled with supply channel 1. -/
def billed : State := withB [cp 0x0340 120 [], cp 0x0341 772 [], cp 0x0342 800 [], cp 0x0343 20 [(4, 11)],
  cp 0x0350 56 [(4, 1), (5, 1)], cp 0x0601 60 [(4, 2)]] up

/-- BillingCompletes, boundaries, the auxiliary check and commits. -/
theorem wit_billing :
    (gridRuns billed = true ∧ billed.clk.timeValid = true ∧ (committed billed 0x0343).isSome = true ∧ (labelOf billed 0).isSome = true ∧
      vget billed.p100.lastFired 0 < (labelOf billed 0).getD 0) ∧
    (let s := { billed with bill.supAt := some 0 }
     s.bill.supAt = some 0 ∧ supplyChan s = some 0 ∧ 0 + auxT (ppB s 0) * 1000 ≤ s.clk.mono ∧
      auxOf s 0 ≠ ({ s with bill.supOn := true } : State).bill.supOn ∧ auxOf s 0 = s.bill.supOn) ∧
    (taken 0x0301 (pk (le 2 2 ++ [0, 0])) billed = true ∧ (∀ k ∈ bilMeters 2, hasGroup billed k.1 = true) ∧
      (storedAll billed (bilIds 2)).isSome = true ∧ (billed.blk.stored.all fun c => c.byHost) = true ∧
      bilCross billed [cp 0x0343 20 [(4, 11)]] 2 = true ∧ billed.bill.commit = none) ∧
    (let s := { billed with bill.commit := some (fl 0x0301), blk.taken := [(fl 0x0301, [cp 0x0343 20 []])] }
     s.bill.commit = some (fl 0x0301) ∧ takenBy s (fl 0x0301) = [cp 0x0343 20 []]) := by decide +kernel

/-- BillingCompletes, reads, time and the end of a period: tariff 0 and 8, the last snapshot, a time change of 2 s and a larger one. -/
theorem wit_billingReads :
    (taken 0x0302 (pk [8, 8, 0, 0]) up = true ∧ taken 0x0302 (pk [0, 0, 0, 0]) up = true ∧ taken 0x0303 (pk [8, 0, 0, 0]) up = true ∧
      taken 0x0304 (pk [8, 0, 0, 0]) up = true ∧
      (vget ({ up with nvBill.snaps := Vector.replicate 9 [{ tOpen := 1 }] } : State).nvBill.snaps 8)[0]? = some { tOpen := 1 }) ∧
    (taken 0x0305 (pk []) up = true ∧ up.bill.perEnd = none ∧ up.clk.timeValid = true ∧
      ({ up with bill.perEnd := some (fl 0x0305) } : State).bill.perEnd = some (fl 0x0305)) ∧
    (taken 0x0306 (pk (le 8 800000000002000000 ++ zeros 8)) up = true ∧ farApart 800000000002000000 up.clk.time = false ∧ ptpSource up = false) ∧
    (taken 0x0306 (pk (le 8 (7305 * 86400000000) ++ [1] ++ zeros 7)) (granted up) = true ∧ farApart (7305 * 86400000000) (granted up).clk.time = true ∧
      ptpSource (granted up) = false ∧ holds (begun 0x0306 (pk []) (granted up)) .spi 0 = true) := by decide +kernel

/-- BillingCompletes, each operation of BIL_CREDIT in a prepayment state that allows it. -/
theorem wit_credit :
    let s := granted billed
    (∀ b ∈ [[0, 0, 0, 0] ++ le 4 9 ++ le 8 (2 ^ 62), [0, 4, 0, 0] ++ le 4 9 ++ zeros 8], taken 0x0307 (pk b) s = true) ∧
      (vget s.p100.m 0).credit + (2 ^ 62 : Nat) ≤ 2 ^ 62 ∧ holds (begun 0x0307 (pk []) s) .spi 1 = true ∧
      9 ∉ (vget s.p100.m 0).tokens ∧ ppEn (ppB s 0) = true ∧ creditAllowed (ppB s 0) (vget s.p100.m 0) 0 = true ∧
      creditAllowed (ppB s 0) (vget s.p100.m 0) 1 = true ∧ -(2 ^ 63 : Int) ≤ (vget s.p100.m 0).credit - (2 ^ 62 : Nat) ∧
      creditAllowed (ppB s 0) { vget s.p100.m 0 with credit := 0 } 2 = true ∧ creditAllowed (ppB s 0) { vget s.p100.m 0 with ppState := .low } 3 = true ∧
      creditAllowed (ppB s 0) { vget s.p100.m 0 with ppState := .ppFault } 4 = true := by
  decide +kernel

/-- LedgerCompletes, writing: an empty chain, a session record, a daily one, a chain that is full. -/
theorem wit_ledger :
    (canWrite up = true ∧ up.led.nxt = 0 ∧ up.p100.queue = [] ∧ nextRec (queueStart up).p100.queue ≠ none ∧
      nextRec ({ up with led.nxt := 1 } : State).p100.queue = none) ∧
    (let r : PendRec := { type := 9 }
     let s := { up with led.nxt := 1, led.chain := [(0, zeros 384)], p100.queue := [r] }
     s.led.nxt ≠ 0 ∧ nextRec (queueStart s).p100.queue = some r ∧ isEventRec r.type = true ∧ slotsOf s.p100.queue r ≤ freeSlots s ∧ r.type ≠ 2) ∧
    (let r : PendRec := { type := 1, body := le 4 5 ++ zeros 220 }
     let s := { up with led.nxt := 1 + chainCap, p100.queue := [r], p100.sess := vset up.p100.sess 0 { queued := true, no := 5 } }
     nextRec s.p100.queue = some r ∧ s.p100.overwrite = false ∧ freeSlots s < slotsOf s.p100.queue r ∧ isEventRec r.type = false ∧
      (sep (pulse 43 (prm [(4, u32 0 r.body)]) s) 0).queued = true ∧ (sep (pulse 43 (prm [(4, u32 0 r.body)]) s) 0).no = u32 0 r.body ∧
      (sep up 0).queued = false ∧ isEventRec 9 = true) := by decide +kernel

/-- LedgerCompletes, commands. -/
theorem wit_ledgerCommands :
    (let s := { up with led.nxt := 1, led.chain := [(0, zeros 384)], led.daily := [(2, zeros 672)], led.profile := [(3, zeros 192)] }
     taken 0x0310 (pk ([0, 0] ++ le 2 42 ++ zeros 4 ++ le 8 0)) s = true ∧ (∃ x ∈ s.led.chain, x.1 = 0) ∧
      taken 0x0310 (pk ([1, 0] ++ le 2 24 ++ zeros 4 ++ le 8 2)) s = true ∧ (∃ x ∈ s.led.daily, x.1 = 2) ∧
      taken 0x0310 (pk ([2, 0] ++ le 2 85 ++ zeros 4 ++ le 8 3)) s = true ∧ (∃ x ∈ s.led.profile, x.1 = 3) ∧
      taken 0x0311 (pk (le 4 1 ++ zeros 4)) s = true ∧ 1 ≤ s.led.nxt) ∧
    taken 0x0312 (pk []) up = true ∧
    (taken 0x0313 (pk (le 4 0 ++ le 2 511 ++ [0, 0])) up = true ∧ ({ no := 0 } : LogEnt) ∈ ({ up with led.log := [{ no := 0 }] } : State).led.log) ∧
    (taken 0x0314 (pk [1, 0, 0, 0]) (granted up) = true ∧ holds (begun 0x0314 (pk []) (granted up)) .spi 2 = true ∧
      taken 0x0314 (pk [0, 0, 0, 0]) up = true ∧ holds (begun 0x0314 (pk []) up) .spi 2 = false) := by decide +kernel

/-- The blocks point 1 needs, and its coil channel. -/
def pointBlocks : List BlkCopy := [cp 0x0210 92 [(4, 1)], cp 0x0220 24 [], cp 0x0401 12 [(4, 3), (9, 125)], cp 0x0500 8 [], cp 0x0501 16 [(4, 1)],
  cp 0x0601 60 [(4, 2)], cp 0x0619 24 [], cp 0x0701 24 [(10, 10)], cp 0x0110 60 [], cp 0x0340 120 [], cp 0x0341 772 [], cp 0x0342 800 [], cp 0x0343 20 [(4, 11)],
  cp 0x0510 16 [], cp 0x0511 28 [], cp 0x0411 24 [], cp 0x0211 92 [(4, 1)], cp 0x0221 24 [], cp 0x0801 24 []]

/-- A session of point 1 that may close its contactor: everything healthy, the pilot in C under X2, an identifier bound. -/
def charging : State := { withB pointBlocks up with
  nvPt := vset up.nvPt 0 { confirmed := 7, confirmed2 := 7 }
  safe := vset up.safe 0 { check := 7, reqClose := true }
  earth := vset up.earth 0 { offOk := true, compAvail := true }
  pilot := vset up.pilot 0 { out := .X2 1000, st := some .C, st1 := some .C, cX2 := true, cX21 := true, ev := Vector.replicate 2 { diodeOk := 10 }, override := false, aSince := none }
  p100.sess := vset up.p100.sess 0 { on := true, no := 1 }
  sess := vset up.sess 0 { bound := true } }

/-- `charging` with the safety state of point 1 changed. -/
def atPath (f : Safe → Safe) : State := modSafe p1 f charging

/-- PilotCompletes, the pilot. -/
theorem wit_pilot :
    (hasPoint up 7 = true ∧ up.pwr.vsysValid = true ∧ genOk (11600, -12400) = true ∧ genOk (12400, -11600) = true ∧ genOk (12401, -12000) = false ∧
      outCode (pil (modPilot 7 (fun x => { x with out := .X1 }) up) 7).out ≠ outCode (wantOut up 7) ∧ (nvp up 7).genFault = false) ∧
    (let e : PilotEval := { cand := some .C, count := 100 }
     let s := modPilot 7 (fun x => { x with out := .X1, ev := Vector.replicate 2 e }) up
     acceptable s 7 0 = some .C ∧ acceptable s 7 1 = some .C ∧ (pil s 7).st ≠ some .C ∧ (pil s 7).st1 ≠ some .C ∧ acceptable up 7 0 = none ∧
      isError .E = true ∧ genOk (pil s 7).gen = true ∧ (pil s 7).st ≠ some .E) ∧
    (let s := fun (a b : Nat) => modPilot 7 (fun x => { x with out := .X1, ev := Vector.ofFn fun k => { gapUs := if k.1 = 0 then a else b } }) up
     (pil (s 10000 0) 7).out ≠ .F ∧ 10000 ≤ (vget (pil (s 10000 0) 7).ev 0).gapUs ∧ (pil (s 10000 0) 7).st ≠ some .INVALID ∧
      (vget (pil (s 10000 9999) 7).ev 1).gapUs < 10000 ∧ (vget (pil (s 9999 10000) 7).ev 0).gapUs < 10000 ∧
      10000 ≤ (vget (pil (s 9999 10000) 7).ev 1).gapUs ∧ (pil (s 9999 10000) 7).st1 ≠ some .INVALID) ∧
    (let s := modPilot 7 (fun x => { x with out := .X2 100, ev := vset x.ev 1 { diodeBad := 3 } }) up
     isX2 (pil s 7).out = true ∧ 3 ≤ (vget (pil s 7).ev 1).diodeBad ∧ (pil s 7).diodeFault = false) ∧
    (let s := modPilot 7 (fun x => { x with holdOn := true, st := some .B }) up
     (pil s 7).holdOn = true ∧ (pil s 7).holdUntil ≤ s.clk.mono ∧ ((pil s 7).st = some .A ∨ (pil s 7).st = some .B)) := by decide +kernel

/-- PilotCompletes, proximity, duty, overcurrent and commands. -/
theorem wit_proximity :
    (let mv := List.replicate 10 900
     ppSocket (pilotB charging 0) = true ∧ 10 ≤ mv.length ∧ (∀ v ∈ mv, ppCodeOf v = ppCodeOf (mv.headD 0)) ∧
      (pil charging 0).ppCode ≠ ppCodeOf 900 ∧ ppError (pil charging 0).st (ppCodeOf 5000) = true ∧ (pil charging 0).stErr = false) ∧
    (let s := modPilot 7 (fun x => { x with iPend := some 6000 }) up
     (pil s 7).iPend = some 6000 ∧ (pil s 7).lastDuty + 5000000 ≤ s.clk.mono) ∧
    (let s := modPilot p1 (fun x => { x with ocSince := some 0 }) charging
     sessRuns s 0 = true ∧ (pil s 0).ocSince = some 0 ∧ 0 + 10000000 ≤ s.clk.mono ∧ dcService s 0 = false) ∧
    (let s := { withB [cp 0x0401 12 [(4, 16)]] charging with hlc := vset up.hlc 0 { failed := true, fallAt := some 0 } }
     (hl s 0).failed = true ∧ fallback (pilotB s 0) = true ∧ (hl s 0).fallAt = some 0 ∧ 0 + 3000000 ≤ s.clk.mono ∧ sessRuns s 0 = true) ∧
    (let s := withB pointBlocks up
     taken 0x0401 (pk (le 2 1 ++ [0, 0])) s = true ∧ maskOk s 1 = true ∧ (storedAll s ((maskPoints 1).map fun n => 0x0401 + n.1)).isSome = true ∧
      (s.blk.stored.all fun c => c.byHost) = true ∧ (∀ n ∈ maskPoints 1, sessOpen s n = false) ∧ waitingCommit s 0x0401 = none) ∧
    (waitingCommit { up with blk.taken := [(fl 0x0401, [])] } 0x0401 = some (fl 0x0401) ∧
      takenBy { up with blk.taken := [(fl 0x0401, [cp 0x0401 12 []])] } (fl 0x0401) = [cp 0x0401 12 []]) ∧
    (taken 0x0402 (pk [8, 0, 0, 0]) up = true ∧ hasPoint up 7 = true) := by decide +kernel

/-- SafetyEventsComplete, cycles, trips and paths. -/
theorem wit_safety :
    (pairUp up = true ∧ hasPoint up 7 = true) ∧
    (let s := modSafe p1 (fun x => { x with since := Vector.replicate 2 (Vector.replicate 6 (some 0)), cut := true })
        (modEarth p1 (fun e => { e with res := Vector.replicate 2 { dcOp := true } }) charging)
     decided s 0 ≠ 0 ∧ (saf s 0).tripAt = none ∧ (saf s 0).cut = true ∧ (saf s 0).cutDropAt = none ∧ hasPoint s 0 = true ∧ pairUp s = true) ∧
    ((saf (atPath fun x => { x with cutDropAt := some 1000000000 }) 0).cutDropAt = some 1000000000) ∧
    (pairUp charging = true ∧ (saf (atPath fun x => { x with path := 1 }) 0).pathBad = false ∧
      holdBits (atPath fun x => { x with path := 1 }) 0 = 0 ∧ holdBits (atPath fun x => { x with path := 2 }) 0 = 0 ∧
      (saf (atPath fun x => { x with path := 2 }) 0).pathOnly = false ∧ (saf (atPath fun x => { x with path := 2 }) 0).reqClose = true ∧
      (saf (atPath fun x => { x with path := 2, pathBad := true }) 0).pathBad = true ∧ (saf charging 0).pathAt + 2000 ≤ charging.clk.mono ∧
      (saf (atPath fun x => { x with path := 2, pathOnly := true }) 0).pathOnly = true ∧
      (saf (atPath fun x => { x with path := 1, reqClose := false }) 0).reqClose = false) ∧
    (saf (atPath fun x => { x with path := 3 }) 0).pathAt + weldT (spB charging 0) ≤ charging.clk.mono ∧
    (let s := atPath fun x => { x with cut := true, coil := true }
     (saf s 0).cut = true ∧ (saf s 0).coil = true ∧ (saf s 0).cutRef + 300 ≤ s.clk.mono ∧ (saf s 0).coilRef + 300 ≤ s.clk.mono) ∧
    (let s := atPath fun x => { x with cutBad := 3 }
     3 ≤ (saf s 0).cutBad ∧ (nvp s 0).cutFault = false) := by decide +kernel

/-- SafetyEventsComplete, opening, faults and resets. -/
theorem wit_opening :
    (let s := atPath fun x => { x with coilOffAt := some 0 }
     dcPoint s 0 = false ∧ indicators s 0 = (false, false) ∧ 0 + weldT (spB s 0) ≤ s.clk.mono ∧ (saf s 0).coilOffAt = some 0 ∧
      (indicators (modSafe p1 (fun x => { x with lsv := true }) s) 0).2 = true ∧
      (indicators { withB [cp 0x0501 16 [(4, 1)], cp 0x0601 60 [(4, 2), (5, 0x20)]] s with sw.fb := Vector.replicate 16 false } 0).1 = true) ∧
    (let s := withB [cp 0x0411 24 [(4, 16)]] (modPilot p1 (fun x => { x with abAt := none, st := some .C }) (atPath fun x => { x with coilOffAt := some 0, dcVolt := true }))
     pairUp s = true ∧ dcPoint s 0 = true ∧ (saf s 0).dcVolt = true ∧ (pil s 0).abAt = none ∧ 0 + 10000000 ≤ s.clk.mono ∧ voltFrom s 0 0 = none ∧
      (∃ t0, voltFrom (modPilot p1 (fun x => { x with abAt := some 7 }) s) 0 0 = some t0 ∧ t0 + weldT (spB s 0) ≤ s.clk.mono)) ∧
    (let s := atPath fun x => { x with indSince := some 0 }
     (saf s 0).indSince = some 0 ∧ 0 + 100000 ≤ s.clk.mono ∧ (nvp s 0).welded = false) ∧
    (isPairFault up .selfTest = true ∧ isPairFault up (.overrun 101) = true ∧ isPairFault up (.silent 3) = true ∧ isPairFault up (.words true 1 0) = true ∧
      isPairFault up (.tick false [9000, 9000, 9000]) = true ∧ isPairFault up (.tick false [9800, 9800, 9800]) = false ∧
      isPairFault (atPath fun x => { x with resDiff := 100 }) (.lasting 0 1) = true ∧
      isPairFault (atPath fun x => { x with pilDiff := some 999984999 }) (.lasting 0 3) = true ∧
      isPairFault (atPath fun x => { x with vecDiff := some 999000000 }) (.lasting 0 4) = true) ∧
    (let s := { charging with safeDev.safeState := true }
     s.safeDev.safeAt + weldT (spB s 0) ≤ s.clk.mono ∧ sessRuns s 0 = true) ∧
    (let s := withB [cp 0x0500 8 [(4, 1)], cp 0x0501 16 [(4, 64)]] up
     rstEn (sdB s) = true ∧ pairUp s = true ∧ s.safeDev.srStuck = false ∧ resetMode (spB s 0) = 2 ∧ triggerClear s 0 = true ∧ resetMode (spB up 1) ≠ 2) ∧
    (let s := modPilot p1 (fun x => { x with x1cSince := some 0 }) (atPath fun x => { x with coil := true })
     (pil s 0).x1cSince = some 0 ∧ 0 + 3000000 ≤ s.clk.mono ∧ (saf s 0).coil = true) := by decide +kernel

/-- SafetyCommandsComplete, commits, resets and confirmations. -/
theorem wit_safetyCommands :
    (let s := withB pointBlocks up
     taken 0x0501 (pk (le 2 2 ++ [0, 0])) s = true ∧ (∀ n ∈ safPoints 2, hasPoint s n = true) ∧ storedAll s (safIds 2) = some [cp 0x0501 16 [(4, 1)]] ∧
      (cp 0x0501 16 [(4, 1)]).byHost = true ∧ safCross s [cp 0x0501 16 [(4, 1)]] 2 = true ∧ ∀ n, contactorShut s n = false) ∧
    (taken 0x0502 (pk [8, 0, 0, 0]) up = true ∧ taken 0x0503 (pk ([1, 0, 0, 0] ++ le 4 7)) (granted charging) = true ∧
      (saf (begun 0x0503 (pk []) (granted charging)) 0).check = 7 ∧ holds (begun 0x0503 (pk []) (granted charging)) .spi 3 = true ∧
      holds (begun 0x0503 (pk []) charging) .spi 3 = false) ∧
    (let s := granted (withB [cp 0x0501 16 [(4, 32)]] { up with nvPt := vset up.nvPt 0 { tripped := true } })
     taken 0x0504 (pk [1, 0, 0, 0]) s = true ∧ resetPoints s 1 = some [0] ∧ safResets s 0 = true ∧ (nvp s 0).pathFail = false ∧ (nvp s 0).cutFault = false ∧
      pathDue s 0 = false ∧ s.safeDev.resetCmd = none) ∧
    (let s := granted { up with nvPt := vset up.nvPt 0 { pathFail := true, welded := true }, safe := vset up.safe 0 { openConf := true, clearSince := some 0 } }
     pathDue s 0 = true ∧ taken 0x0504 (pk [1, 1, 0, 0]) s = true ∧ (nvp s 0).welded = true ∧ heldFor s (saf s 0).clearSince 1000000 = true) ∧
    (let s := { up with safeDev.resetCmd := some (fl 0x0504), safeDev.resetMask := 1 }
     s.safeDev.resetCmd = some (fl 0x0504) ∧ ∀ n, (saf s n).pathOnly = false) := by decide +kernel

/-- SafetyCommandsComplete, service, decisions and bindings. -/
theorem wit_service :
    (taken 0x0D01 (pk [8, 0, 0, 0]) up = true ∧ taken 0x0D01 (pk [8, 1, 0, 0]) up = true ∧ (nvp up 7).genFault = false ∧
      taken 0x0D02 (pk []) up = true ∧ (nvp charging 0).oos = 0 ∧ sessRuns charging 0 = true ∧
      genOk (pil (modPilot p1 (fun x => { x with gen := (0, 0) }) charging) 0).gen = false) ∧
    (let s := fun (o : Bool) => { up with sess := vset up.sess 0 { req := some { offline := o } } }
     (∀ o : Bool, (ses (s o) 0).req = some { offline := o }) ∧ 0 + 0 * 1000000 ≤ up.clk.mono ∧ appUp up = true) ∧
    (let s := { withB pointBlocks up with sess := vset up.sess 0 { bound := true }, pilot := vset up.pilot 0 { st := some .A } }
     let c := { s with p100.sess := vset up.p100.sess 0 { on := true, no := 1 } }
     (ses s 0).bound = true ∧ appUp s = true ∧ inA s 0 = true ∧ (sep s 0).closing = none ∧ sessRuns s 0 = false ∧ sessRuns c 0 = true ∧ inA c 0 = true ∧
      (ses s 0).boundAt + bindT (authB s 0) * 1000000 ≤ s.clk.mono) := by decide +kernel

/-- `charging` with the earth state of point 1 changed. -/
def atEarth (f : Earth → Earth) : State := modEarth p1 f charging

/-- EarthCompletes, commands, the offset and the comparison. -/
theorem wit_earth :
    (let s := withB pointBlocks up
     taken 0x0510 (pk (le 2 2 ++ [0, 0])) s = true ∧ (∀ n ∈ efPoints 2, hasPoint s n = true) ∧ storedAll s (efIds 2) = some [cp 0x0511 28 []] ∧
      (∀ n, contactorShut s n = false) ∧ nSec (rcdB s 0) ≠ nSec (cp 0x0511 28 [(8, 100)]).bytes) ∧
    (taken 0x0511 (pk [8, 0, 0, 0]) up = true ∧ taken 0x0512 (pk [8, 0, 0, 0]) up = true ∧ confirmedOpen up 7 = true ∧ (ear up 7).tst = 0) ∧
    (let s := fun (v : Int) => atEarth fun e => { e with offRun := true, offMeans := List.replicate 10 v }
     confirmedOpen (s 0) 0 = true ∧ (ear (s 0) 0).tst = 0 ∧ 10 ≤ (ear (s 0) 0).offMeans.length ∧ (ear (s 0) 0).offRun = true ∧
      offsetOf (ear (s 2000) 0) (ear (s 2000) 0).offMeans = some 2000 ∧ offsetOf (ear (s 2001) 0) (ear (s 2001) 0).offMeans = some 2001 ∧
      offsetOf (ear (s 0) 0) (0 :: List.replicate 9 2000) = none ∧ (ear (s 0) 0).offTry < 2 ∧ (anyOp (ear (s 0) 0) && (ear (s 0) 0).clrOff) = false) ∧
    (let d : ResDet := { dcOp := true }
     let s := atEarth fun e => { e with res := Vector.replicate 2 d, clrOff := true, offTry := 2 }
     offsetOf (ear s 0) [] = none ∧ (anyOp (ear s 0) && (ear s 0).clrOff) = true ∧ 2 ≤ (ear s 0).offTry ∧ (nvp s 0).sensorFault = false) ∧
    (let d : ResDet := { r := [0] }
     let s := withB [cp 0x0511 28 [(4, 1), (16, 3), (17, 5), (19, 10)]] (modSafe p1 (fun x => { x with closed := true })
        (atEarth fun e => { e with comp := [100000], res := Vector.replicate 2 d, misRun := 9 }))
     (saf s 0).closed = true ∧ (ear s 0).compAvail = true ∧ xchkEn (rcdB s 0) = true ∧ 1 ≤ cmpN (rcdB s 0) ∧ trackedPeriod s 1 = none ∧
      max (cmpMin (rcdB s 0) * 1000) (largestRms s 0 * cmpPct (rcdB s 0) / 1000) < rmsI 0 [100000] - resRms s 0 ∧
      cmpN (rcdB s 0) ≤ (ear s 0).misRun + 1 ∧ (nvp s 0).mismatch = false) := by decide +kernel

/-- EarthCompletes, its procedures. -/
theorem wit_earthProcedures :
    (let ops := fun (k : Fin 3) (t : Nat) => vset (Vector.replicate 3 none : Vector (Option Nat) 3) k (some t)
     corePasses 2 5 { iDc := 2640 } = true ∧ corePasses 3 5 { iDc := 8100, opAt := ops 0 40005 } = true ∧
      corePasses 4 5 { iAc := 49500, opAt := ops 1 21005 } = true ∧ corePasses 5 5 { r := [1000] } = true ∧
      corePasses 2 5 { iDc := 2641 } = false ∧ corePasses 5 5 { dcOp := true } = false) ∧
    (let s := fun (k : Nat) => atEarth fun e => { e with tst := k, tstCmd := some (fl 0x0512), offMeans := List.replicate 10 2000 }
     (ear (s 1) 0).tst = 1 ∧ 10 ≤ (ear (s 1) 0).offMeans.length ∧ offsetMean (ear (s 1) 0).offMeans = some 2000 ∧ offsetMean [] = none ∧
      (ear (s 5) 0).tst = 5 ∧ (ear (s 5) 0).tstAt + 200000 ≤ (s 5).clk.mono ∧ (ear (s 5) 0).tstCmd = some (fl 0x0512)) ∧
    (let s := atEarth fun e => { e with tstDue := true }
     let s := modSafe p1 (fun x => { x with reqClose := false }) s
     hasPoint s 0 = true ∧ (ear s 0).tstDue = true ∧ (ear s 0).tst = 0 ∧ confirmedOpen s 0 = true ∧ (saf s 0).path = 0 ∧ (saf s 0).reqClose = false ∧
      (committed s 0x0511).isSome = true) ∧
    (let s := atEarth fun e => { e with pend := true, lowSince := some 0 }
     (ear s 0).pend = true ∧ (ear s 0).lowSince = some 0 ∧ 0 + 1000000 ≤ s.clk.mono ∧ (saf s 0).openConf = true ∧ (ear s 0).clrOff = false) ∧
    (peChkEn (peB (withB [cp 0x0510 16 [(4, 1)]] up)) = true ∧ peCounts (withB [cp 0x0510 16 [(4, 1)]] up) = true) := by decide +kernel

/-- EarthCompletes, the insulation monitor: both steps, a bus below 100 V, and a bus that moved. -/
theorem wit_insulation :
    let s := withB [cp 0x0411 24 [(4, 16)], cp 0x0521 24 [(4, 100), (8, 100), (12, 0xE8), (13, 3), (20, 100)]] (atEarth fun e => { e with isoV0 := some (250000, 250000) })
    dcPoint s 0 = true ∧ (committed s 0x0521).isSome = true ∧ tStep (isoB s 0) * 1000 ≤ 100000 ∧ 100000 ≤ 4 * tStep (isoB s 0) * 1000 ∧
      poleVolt s 0 49999 + poleVolt s 0 50000 < 100000 ∧ 100000 ≤ poleVolt s 0 50000 + poleVolt s 0 50000 ∧ (ear s 0).isoV0 = some (250000, 250000) ∧
      (ear (modEarth p1 (fun e => { e with isoV0 := none }) s) 0).isoV0 = none ∧
      (isoCond (isoB s 0) 250000 250000 200000 300000).isSome = true ∧ (hl s 0).dcStep ≠ 3 := by decide +kernel

/-- Channel 0 in a state of its own, with a block of ROLE `role`. -/
def withChan (role : Nat) (x : Chan) : State :=
  { withB [cp 0x0601 60 [(4, role + 8 + 128), (5, 12), (9, 1), (12, 1), (13, 10)], cp 0x0501 16 [(4, 1)]] up with sw.ch := vset up.sw.ch 0 x }

/-- ChannelProtectionCompletes, a channel driven by the host. -/
theorem wit_channels :
    (let s := withChan 1 { st := .on }
     chanOf s 0 = some 0 ∧ chIsc 0 < 8001 ∧ conducts s 0 = true ∧ chRole (chP s 0) ≠ 2 ∧ ocLim 0 (chP s 0) < 2501 ∧ ocT (chP s 0) * 1000 ≤ 16000 ∧
      (vget s.sw.ch 0).goodAt + 10000000 ≤ s.clk.mono ∧ onTestRuns s 0 = true ∧ conducts up 23 = false ∧ offTestRuns s 0 = false ∧ onTestRuns up 0 = false) ∧
    (let s := { up with sw.lk := vset up.sw.lk 7 { drive := 1 } }
     chIsc 31 < 3001 ∧ (vget s.sw.lk 7).drive ≠ 0 ∧ (vget up.sw.lk 7).drive = 0 ∧ hasPoint up 7 = true) ∧
    (up.sw.uv = false ∧ ({ up with sw.uv := true } : State).sw.uv = true) ∧
    (let s := withChan 1 { st := .inrush }
     (vget s.sw.ch 0).st = .inrush ∧ (vget s.sw.ch 0).onAt + inrushT (chP s 0) * 1000 ≤ s.clk.mono) ∧
    (let s := withChan 1 { st := .tripped, cmd := true }
     (vget s.sw.ch 0).st = .tripped ∧ (vget s.sw.ch 0).offAt + retryT (chP s 0) * 1000 ≤ s.clk.mono ∧ autoRestart (chP s 0) = true ∧
      chRole (chP s 0) ≠ 2 ∧ (vget s.sw.ch 0).cmd = true ∧ (vget s.nvCh 0).retry < retryMax (chP s 0) ∧ latched s 0 = false ∧ s.sw.uv = false ∧
      retryMax (chP s 0) ≤ (vget ({ s with nvCh := vset s.nvCh 0 { retry := 15 } } : State).nvCh 0).retry ∧
      (vget (withChan 1 { st := .tripped }).sw.ch 0).cmd = false ∧ (vget (withChan 1 { st := .blocked }).sw.ch 0).st = .blocked) ∧
    offTestRuns (withChan 1 {}) 0 = true := by decide +kernel

/-- ChannelProtectionCompletes: a point's coil, the supply contactor's coil, and a coil that reads feedback land FB0. -/
theorem wit_coils :
    (let s := withChan 2 { st := .on }
     chRole (chP s 0) = 2 ∧ isSupply s 0 = false ∧ pointOfCoil s 0 = some 0 ∧ conducts s 0 = true ∧ onTestRuns s 0 = true ∧
      (vget s.sw.ch 0).onAt + tPull (chP s 0) * 1000 ≤ s.clk.mono ∧ holdV (chP s 0) ≠ 0) ∧
    (let s := { withB [cp 0x0601 60 [(4, 2)], cp 0x0350 76 [(4, 1), (5, 1), (6, 1)]] up with sw.ch := vset up.sw.ch 0 { st := .on } }
     chRole (chP s 0) = 2 ∧ conducts s 0 = true ∧ isSupply s 0 = true) ∧
    (let s := withB [cp 0x0601 60 [(4, 2), (5, 32), (6, 84)], cp 0x0501 16 [(4, 1)]] up
     coilsOfFb s 0 = [0] ∧ fbSettled s 0 10000 = true ∧ fbSettled s 0 9999 = false ∧ fbSettled s 1 10000 = false ∧
      auxOf { s with sw.fb := vset s.sw.fb 0 false, sw.fb1 := vset s.sw.fb1 0 false } 0 ≠ auxOf s 0) := by decide +kernel

/-- The device with a lock block for point 1. -/
def locked (l : Lock) : State := { withB [cp 0x0619 16 [(4, 17), (8, 100), (9, 100)]] charging with sw.lk := vset up.sw.lk 0 l }

/-- LocksAndLimpHomeComplete, the operations. -/
theorem wit_locks :
    (let s := locked { needLock := true }
     hasPoint s 0 = true ∧ lkEn (lkB s 0) = true ∧ (vget s.sw.lk 0).op = 0 ∧ (nvp s 0).lockFault = false ∧ lockUp s = true ∧
      (vget s.sw.lk 0).needLock = true) ∧
    (let s := locked { wantUnlock := true }
     (vget s.sw.lk 0).needLock = false ∧ (vget s.sw.lk 0).wantUnlock = true ∧ unlockOk s 0 = true ∧ lockUp s = true) ∧
    (lockUp (locked { repeatOp := 1 }) = true ∧ lockUp (locked { repeatOp := 2, lks := true }) = true ∧ unlockOk (locked { repeatOp := 2, lks := true }) 0 = true) ∧
    (let s := locked { op := 1, drive := 1 }
     (vget s.sw.lk 0).drive ≠ 0 ∧ (vget s.sw.lk 0).t0 + lkPulse (lkB s 0) * 1000 ≤ s.clk.mono ∧ (vget s.sw.lk 0).back = false ∧
      s.clk.mono < (vget (locked { op := 1, drive := 1, t0 := 1000000000 }).sw.lk 0).t0 + lkPulse (lkB s 0) * 1000 ∧
      (vget (locked { op := 1, drive := 2, back := true }).sw.lk 0).back = true) ∧
    (let s := atPath fun x => { x with coil := true }
     unlockOk { s with sw.lk := vset s.sw.lk 0 { op := 2, drive := 1, back := true } } 0 = false) := by decide +kernel

/-- LocksAndLimpHomeComplete, the position after a drive, a lock lost, and limp-home. -/
theorem wit_lockPosition :
    (let l : Lock := { op := 1, tries := 1, cmd := some (fl 0x0606) }
     let s := locked l
     let u := lockSense p1 true 10000 s
     (vget u.sw.lk 0).op ≠ 0 ∧ (vget u.sw.lk 0).drive = 0 ∧ (vget u.sw.lk 0).lks = snsPol (lkB s 0) ∧ (vget u.sw.lk 0).back = false ∧
      (vget (lockSense p1 (snsPol (lkB s 0)) 10000 (locked { l with t0 := 1000000000 })).sw.lk 0).lks = true ∧
      (vget (lockSense p1 (!snsPol (lkB s 0)) 10000 s).sw.lk 0).lks = false ∧
      (vget s.sw.lk 0).t0 + lkConf (lkB s 0) * 1000 ≤ s.clk.mono ∧ s.clk.mono ≤ 1000000000 + lkConf (lkB s 0) * 1000 ∧ 0 < lkConf (lkB s 0) ∧
      (vget s.sw.lk 0).tries ≤ lkRetry (lkB s 0) ∧ lkRetry (lkB s 0) < (vget (locked { op := 1, tries := 2 }).sw.lk 0).tries ∧
      (vget (locked { op := 1, back := true }).sw.lk 0).back = true) ∧
    (let s := modSafe p1 (fun x => { x with closed := true }) (locked {})
     hasPoint s 0 = true ∧ (saf s 0).closed = true ∧ lkEn (lkB s 0) = true ∧ (nvp s 0).lockFault = false) ∧
    (up.pwr.appRunning = true ∧ up.pwr.inWarm = false ∧ up.pwr.appResetAt = none ∧ up.pwr.pstate = .run) ∧
    (let s := { up with sw.lhMap := [2 ^ 23, 0, 0, 0], sw.lhEn := true, sw.stale := true }
     s.sw.limp = false ∧ (s.sw.lhEn && appAway s) = true ∧ inLimpMap s 23 = true ∧ inLimpMap s 0 = false ∧ ({ s with sw.limp := true } : State).sw.limp = true) := by
  decide +kernel

/-- SwitchCommandsComplete. -/
theorem wit_switchCommands :
    (let s := withChan 1 {}
     let u := begun 0x0601 (pk (le 4 1)) s
     taken 0x0601 (pk (le 4 1)) s = true ∧ (∀ i ∈ maskChans 1, hasIndex u i = true) ∧
      storedAll u ((maskChans 1).map (0x0601 + ·)) = some [cp 0x0601 60 [(4, 1 + 8 + 128), (5, 12), (9, 1), (12, 1), (13, 10)]] ∧
      fbDistinct u [cp 0x0601 60 [(4, 1 + 8 + 128), (5, 12), (9, 1), (12, 1), (13, 10)]] = true ∧
      (∀ i ∈ maskChans 1, ∀ c ∈ (ix 24 i).toList, (vget u.sw.ch c).st = .off) ∧ (∀ n, sessOpen u n = false)) ∧
    (let s := withChan 1 {}
     taken 0x0602 (pk ([0, 0] ++ le 2 1000)) s = true ∧ taken 0x0602 (pk ([0, 1] ++ le 2 0)) s = true ∧ taken 0x0602 (pk ([0, 2] ++ le 2 1000)) s = true ∧
      hasChan s 0 = true ∧ chRole (chP s 0) = 1 ∧ (vget s.sw.ch 0).st = .off ∧ latched s 0 = false ∧ s.sw.uv = false ∧
      (vget (withChan 1 { st := .blocked }).sw.ch 0).st = .blocked ∧ latched { s with nvCh := vset s.nvCh 0 { sc := true } } 0 = true) ∧
    (chRole (chP (withChan 3 {}) 0) = 3 ∧ chRole (chP (withChan 2 {}) 0) = 2 ∧ chRole (chP up 23) = 0 ∧ hasChan up 23 = true) ∧
    (taken 0x0603 (pk [23, 0, 0, 0]) up = true ∧ taken 0x0603 (pk [31, 0, 0, 0]) up = true ∧ hasPoint up 7 = true ∧
      taken 0x0604 (pk [23, 0, 0, 0]) up = true ∧ taken 0x0604 (pk [31, 0, 0, 0]) up = true ∧ (begun 0x0604 (pk [31, 0, 0, 0]) up).sw.limp = false ∧
      taken 0x0605 (pk [23, 0, 0, 0]) up = true ∧ hasIndex up 23 = true) ∧
    (let s := locked {}
     taken 0x0606 (pk [1, 1, 0, 0]) s = true ∧ hasPoint s 0 = true ∧ lkEn (lkB s 0) = true ∧ (nvp s 0).lockFault = false ∧ (vget s.sw.lk 0).op = 0 ∧
      (vget s.sw.lk 0).cmd = none ∧ lockUp s = true ∧ unlockOk s 0 = true) := by
  decide +kernel

/-- SlacCompletes. -/
theorem wit_slac :
    (let s := modPilot p1 (fun x => { x with st := some .A }) (withB [cp 0x0401 12 [(4, 9)], cp 0x0411 24 []] up)
     vehUp s 0 = true ∧ loopOk s 0 = true ∧ modemCmd s 0 = none ∧ (nvp s 0).modemFault = false ∧ hlcEn (pilotB s 0) = true ∧
      (fallback (pilotB s 0) && acEn (hlcB s 0)) = false ∧ taken 0x0409 (pk [1, 0, 0, 0]) s = true ∧ hasPoint s 0 = true ∧
      (let u := begun 0x0409 (pk [1, 0, 0, 0]) s
       loopOk u 0 = true ∧ (u.port.flights.filter fun g => g.opcode == 0x0409 && u8 0 g.pkt.payload == 1).length ≤ 1) ∧
      modemCmd { s with port.flights := [{ fl 0x0409 with pkt := pk [1, 0, 0, 0] }] } 0 = some { fl 0x0409 with pkt := pk [1, 0, 0, 0] } ∧
      loopOk charging 0 = false ∧ highLevel (modHlc p1 (fun h => { h with active := true }) charging) 0 = true) ∧
    (let s := modHlc p1 (fun h => { h with active := true, slac := 2 }) charging
     vehUp s 0 = true ∧ hlcRuns s 0 = true ∧ (hl s 0).slac ≠ 0 ∧ (hl s 0).slac ≠ 5 ∧ (hl s 0).slac = 2 ∧ (hl s 0).sounds < 9 ∧ (hl s 0).sounds = 0 ∧
      slacWait s 0 = some 600000 ∧ (hl s 0).slacAt + 600000 ≤ s.clk.mono ∧
      (hl (modHlc p1 (fun h => { h with sounds := 9, slacAt := 1000000000 }) s) 0).sounds = 9 ∧ s.clk.mono ≤ 1000000000 + 600000 ∧
      0 < (hl (modHlc p1 (fun h => { h with sounds := 9 }) s) 0).sounds ∧ (hl (modHlc p1 (fun h => { h with slac := 3 }) s) 0).slac = 3 ∧
      hlcRuns (modHlc p1 (fun h => { h with slac := 4 }) s) 0 = true ∧ s.pwr.kRunning = true) ∧
    (let s := withB [cp 0x0411 24 [(20, 20), (21, 1)]] (modHlc p1 (fun h => { h with active := true, slac := 1 }) charging)
     hlcRuns s 0 = true ∧ (hl s 0).slac = 1 ∧ slacWait s 0 = some (slacInitT (hlcB s 0) * 1000000) ∧
      (hl s 0).slacAt + slacInitT (hlcB s 0) * 1000000 ≤ s.clk.mono ∧ (ses s 0).hasClosed = false ∧ (hl s 0).cert = none ∧
      (hl s 0).retries < slacRetry (hlcB s 0) ∧ slacRetry (hlcB s 0) ≤ (hl (modHlc p1 (fun h => { h with retries := 1 }) s) 0).retries) ∧
    (let s := modHlc p1 (fun h => { h with slacX1 := some 0 }) up
     (hl s 0).slacX1 = some 0 ∧ 0 + 4000000 ≤ s.clk.mono) := by decide +kernel

/-- A session whose modem has matched; HLC_CTL holds `ctl` and `ctl2`. -/
def talking (ctl ctl2 : Nat) (f : Hlc → Hlc) : State :=
  modHlc p1 (fun h => f { h with active := true, slac := 5 }) (withB (cp 0x0411 24 [(4, ctl), (5, ctl2), (9, 1)] :: pointBlocks) charging)

/-- VehicleRequestsComplete, setup. -/
theorem wit_setup :
    (linked (talking 2 0 id) 0 = true ∧ (hl (talking 2 0 id) 0).tcp = false) ∧
    (let s := { talking 2 0 fun h => { h with tcp := true } with
        nvKey.certs := [{ role := 4, index := 0, keyId := 7 }, { role := 4, index := 1 }], key.chuck := vset up.key.chuck 5 { key := some 7 } }
     linked s 0 = true ∧ (hl s 0).tcp = true ∧ (hl s 0).tls = false ∧ (hl s 0).proto = 0 ∧ leafOk s {} = true ∧ s.pwr.kRunning = true ∧
      (chuckGet (((certAt s 4 0).map (·.keyId)).getD 0) s).isSome = true ∧ suiteOk false .aes128CbcSha256 = true ∧ suiteOk true .aes128CbcSha256 = false ∧
      oemOk s {} = true ∧ leafOk (talking 2 0 id) {} = false ∧
      (chuckGet 7 { s with key.chuck := Vector.replicate 64 { key := some 1, inUse := true } }).isNone = true ∧ s.key.waits = []) ∧
    (let s := talking 2 0 fun h => { h with tcp := true }
     let pick := fun (offers : List (Nat × Nat)) => [3, 2, 1].findSome? fun p => if protoOk s 0 p then offers.find? fun o => o.1 == p else none
     pick [(1, 0), (2, 3), (2, 2)] = some (2, 3) ∧ pick [(3, 0)] = none) := by decide +kernel

/-- VehicleRequestsComplete, once the protocol is chosen, on an AC point. -/
theorem wit_requests :
    (let s := talking 0x4A 4 fun h => { h with proto := 2, authAns := 2 }
     talks s 0 = true ∧ (sep s 0).service = 0xFF ∧ serviceOk s 0 2 = true ∧ serviceOk s 0 1 = false ∧ eimEn (hlcB s 0) = true ∧ (hl s 0).ctrl ≠ 1 ∧
      (hl s 0).authAns = 2 ∧ 2 ≤ (hl s 0).proto ∧ (hl s 0).cert = none ∧ mtrReceipt (hlcB s 0) = true ∧ (ses s 0).ending = none ∧ (hl s 0).dcStep ≠ 5 ∧
      (let t := modHlc p1 (fun h => { h with offI := 1 }) s
       offerNow t 0 ≠ offered t 0) ∧ (hl (talking 0x4A 4 id) 0).authAns ≠ 2 ∧ eimEn (hlcB (talking 2 0 id) 0) = false) ∧
    (let c : ChainIn := { emaid := [65, 66], certs := [(0, 2 ^ 62, true)], anchor := [9] }
     let s := { talking 0x80 0 fun h => { h with proto := 2, tls := true } with
        sess := vset up.sess 0 { req := some {} }, nvKey.certs := [{ role := 2, der := [9] }] }
     talks s 0 = true ∧ pncOffered s 0 = true ∧ pncOffered (talking 2 0 id) 0 = false ∧ contractOk s c = true ∧ contractOk s { c with certs := [(0, 1, true)] } = false ∧
      c.emaid.length ≤ 15 ∧ (hl s 0).pnc = false ∧ (hl (modHlc p1 (fun h => { h with pnc := true }) s) 0).pnc = true) ∧
    (let s := talking 0x48 0 fun h => { h with proto := 2, ctrl := 1, offI := 1 }
     talks s 0 = true ∧ (hl s 0).ctrl = 1 ∧ offerNow s 0 ≠ offered s 0) ∧
    (let s := modSessP p1 (fun x => { x with service := 2 }) (talking 0x4A 0 fun h => { h with proto := 2, authAns := 2 })
     dcService s 0 = false ∧ (sep s 0).service ≠ 0xFF ∧ talks s 0 = true) := by decide +kernel

/-- VehicleRequestsComplete, DC on point 1. -/
theorem wit_dcRequests :
    (let s := modSessP p1 (fun x => { x with service := 3 }) (talking 0x52 0 fun h => { h with proto := 2, authAns := 2, dcStep := 2 })
     talks s 0 = true ∧ dcService s 0 = true ∧ (hl s 0).dcStep = 2 ∧ (hl s 0).authAns = 2 ∧ (pil s 0).st = some .C ∧ (ses s 0).ending = none) ∧
    (let s := modSessP p1 (fun x => { x with service := 3 }) (talking 0x52 0 fun h => { h with proto := 2, authAns := 2, dcStep := 3, cable := 3 })
     talks s 0 = true ∧ (hl s 0).dcStep = 3 ∧ ((hl s 0).cable = 2 ∨ (hl s 0).cable = 3) ∧ (ses s 0).ending = none ∧
      (let s := modHlc p1 (fun h => { h with dcStep := 4, stepDone := true }) s
       talks s 0 = true ∧ (ses s 0).ending = none ∧ dcService s 0 = true ∧ (hl s 0).authAns = 2 ∧ (hl s 0).dcStep = 4 ∧ (hl s 0).stepDone = true)) ∧
    (hl (talking 0x52 0 fun h => { h with proto := 2, authAns := 2, dcStep := 5 }) 0).dcStep = 5 := by decide +kernel

/-- HlcTimeLimitsComplete. -/
theorem wit_hlcLimits :
    (let s := { talking 2 0 id with key.waits := [(7, 0, 0)] }
     (7, 0, 0) ∈ s.key.waits ∧ 0 + 100000 ≤ s.clk.mono ∧ ix 8 0 = some p1 ∧ hlcRuns s 0 = true ∧ (talking 2 0 id).key.waits = []) ∧
    ((hl (talking 2 0 fun h => { h with cert := some ([1], 0) }) 0).cert = some ([1], 0) ∧ 0 + 4000000 ≤ up.clk.mono ∧ up.clk.mono < 999000000 + 4000000) ∧
    (let s := talking 2 0 fun h => { h with proto := 2, authAns := 1, authAt := some 0 }
     talks s 0 = true ∧ (hl s 0).authAns = 1 ∧ (hl s 0).authAt = some 0 ∧ 0 + 55000000 ≤ s.clk.mono) ∧
    (hlcRuns (talking 2 0 id) 0 = true ∧ (hl (talking 2 0 id) 0).slac = 5 ∧ (hl (talking 2 0 id) 0).lastReq + 60000000 ≤ (talking 2 0 id).clk.mono ∧
      up.clk.mono < (hl (talking 2 0 fun h => { h with lastReq := 999000000, setupAt := 999000000 }) 0).lastReq + 60000000) ∧
    (let s := talking 2 0 fun h => { h with tcp := true, dcStep := 5 }
     linked s 0 = true ∧ (hl s 0).tcp = true ∧ 3 ≤ (hl s 0).dcStep ∧ (hl s 0).dcStep ≤ 5 ∧
      (ses (modSess p1 (fun x => { x with hasClosed := true }) s) 0).hasClosed = true ∧ (ses s 0).hasClosed = false ∧ fallback (cp 0x0401 12 [(4, 16)]).bytes = true) ∧
    (let s := talking 2 0 fun h => { h with dcStep := 3 }
     sessRuns s 0 = true ∧ stepLimit (hl s 0) = some 38000000 ∧ (hl s 0).dcStep ≠ 1 ∧ (hl s 0).dcAt + 38000000 ≤ s.clk.mono ∧
      stepLimit (hl (talking 2 0 fun h => { h with dcStep := 1 }) 0) = some 20000000) ∧
    (let s := modSess p1 (fun x => { x with hostStop := some 0 }) (talking 2 0 fun h => { h with dcStep := 5 })
     sessRuns s 0 = true ∧ (ses s 0).hostStop = some 0 ∧ 0 + 5000000 ≤ s.clk.mono ∧ (ses s 0).ending = none ∧ (hl s 0).dcStep = 5 ∧
      (hl (modHlc p1 (fun h => { h with dcStep := 0 }) s) 0).dcStep = 0) := by decide +kernel

/-- SessionCommandsComplete, SES_START, SES_STOP, SES_LIMIT and SES_STATUS. -/
theorem wit_sessionCommands :
    (let s := modSess p1 (fun x => { x with bound := false }) charging
     let b := [1, 1, 16, 1] ++ List.replicate 16 7 ++ zeros 12
     let c := [1, 1, 16, 3] ++ List.replicate 16 7 ++ zeros 12
     let u := begun 0x0403 (pk b) s
     taken 0x0403 (pk b) s = true ∧ taken 0x0403 (pk c) s = true ∧ b.length = 32 ∧ u8 0 b = 0 + 1 ∧ startOk b = true ∧ startOk c = true ∧ hasPoint s 0 = true ∧
      bit (u8 3 b) 1 = false ∧ bit (u8 3 c) 1 = true ∧ (vget u.p100.m (meterOf 0)).ppState ≠ .exhausted ∧ blockMissing u 0 = false ∧
      (ses u 0).bound = false ∧ outOfService u 0 = false ∧ startSafe u 0 = true ∧ sessionsRefused u = false ∧ sessRuns u 0 = true ∧
      sessRuns (begun 0x0403 (pk b) up) 0 = false) ∧
    (let s := modHlc p1 (fun h => { h with active := true, slac := 5 }) charging
     let u := begun 0x0404 (pk [1, 0, 0, 0]) charging
     taken 0x0404 (pk [1, 0, 0, 0]) charging = true ∧ sessRuns u 0 = true ∧ hlcRuns u 0 = false ∧ (ses u 0).ending = none ∧
      taken 0x0404 (pk [1, 0, 0, 0]) s = true ∧ hlcRuns (begun 0x0404 (pk [1, 0, 0, 0]) s) 0 = true ∧
      taken 0x0404 (pk [1, 1, 0, 0]) charging = true ∧ taken 0x0404 (pk [1, 2, 0, 0]) charging = true ∧
      (ses ({ up with sess := vset up.sess 0 { req := some {} } } : State) 0).req.isSome = true) ∧
    (taken 0x0405 (pk ([1, 0, 0, 0] ++ le 4 6000 ++ le 4 0 ++ le 4 (2 ^ 32 - 1))) charging = true ∧
      taken 0x0405 (pk ([1, 0, 0, 0] ++ le 4 6000 ++ le 4 0 ++ le 4 (2 ^ 32 - 1))) up = true ∧ sessRuns up 0 = false ∧
      taken 0x0406 (pk [8, 0, 0, 0]) up = true ∧ hasPoint up 7 = true) := by decide +kernel

/-- SessionCommandsComplete, HLC_COMMIT and HLC_EXCHANGE. -/
theorem wit_hlcCommands :
    (let s := withB [cp 0x0411 24 [(4, 0x4A)], cp 0x0420 1940 []] up
     let u := begun 0x0407 (pk (le 2 257 ++ [0, 0])) s
     taken 0x0407 (pk (le 2 257 ++ [0, 0])) s = true ∧ taken 0x0407 (pk (le 2 1 ++ [0, 0])) s = true ∧ (∀ n ∈ maskPoints 257, hasPoint u n = true) ∧
      storedAll u (((maskPoints 257).map fun n => 0x0411 + n.1) ++ [0x0420]) = some [cp 0x0411 24 [(4, 0x4A)], cp 0x0420 1940 []] ∧
      canCross u [cp 0x0411 24 [(4, 0x4A)], cp 0x0420 1940 []] = true ∧ (∀ n, sessOpen u n = false) ∧ bit 1 8 = false) ∧
    (let s := talking 2 0 fun h => { h with cert := some ([1], 999000000) }
     taken 0x0408 (pk ([1, 0] ++ le 2 0 ++ zeros 4)) s = true ∧ (hl s 0).cert = some ([1], 999000000) ∧ s.clk.mono < 999000000 + 4000000 ∧
      taken 0x0408 (pk ([1, 1, 0, 0] ++ le 4 1 ++ [9])) s = true ∧ (hl s 0).certResp = [] ∧ (hl s 0).certTot = 0 ∧
      taken 0x0408 (pk [1, 2, 0, 0, 0, 0, 0, 0]) s = true ∧ hasPoint s 0 = true) := by decide +kernel

/-- The device with a CAN block: port 1 enabled, frame 0 transmitted, frame 1 received with a signal of point 1, 8 bytes each. -/
def canned : State := withB (cp 0x0420 1940 [(4, 1), (24, 1), (25, 8), (26, 10), (40, 3), (41, 8), (42, 10), (44, 10), (404, 1), (405, 18),
  (408, 7 + 128), (409, 4), (412, 1)] :: pointBlocks) charging

/-- CanCompletes. -/
theorem wit_can :
    (canRuns canned (frmE (canB canned) 0) = true ∧ frmRx (frmE (canB canned) 0) = false ∧ canRuns canned (frmE (canB canned) 1) = true ∧
      frmRx (frmE (canB canned) 1) = true ∧ rxGood canned 1 (zeros 8) = true ∧ rxGood canned 1 (zeros 7) = false ∧ (vget canned.can 1).tout = false ∧
      (vget canned.can 1).lastAt + frmTimeout (frmE (canB canned) 1) * 1000 ≤ canned.clk.mono ∧ hasPoint canned 0 = true ∧ 1 ∈ rxFrames canned 0 ∧
      (sigsOf (canB canned) 1).all (fun e => sigPt e == some p1) = true ∧ sigsOf (canB canned) 1 ≠ []) ∧
    (let s := modHlc p1 (fun h => { h with psFault := true, psGood := some 0, dcStep := 5 }) (atPath fun x => { x with coil := true })
     (hl s 0).psFault = true ∧ (hl s 0).psGood = some 0 ∧ 0 + 1000000 ≤ s.clk.mono ∧ (hl s 0).measOk = false ∧
      (hl (modHlc p1 (fun h => { h with psGood := some 999500000 }) s) 0).psGood = some 999500000 ∧ s.clk.mono < 999500000 + 1000000 ∧
      (hl s 0).psAt + 100000 ≤ s.clk.mono ∧ (saf s 0).coil = true ∧ 3 ≤ (hl s 0).dcStep ∧ (hl s 0).dcStep ≤ 6 ∧ sessRuns s 0 = true) ∧
    (let e : List Byte := [1, 17, 0, 0] ++ le 2 1024 ++ zeros 2 ++ le 4 65536 ++ zeros 4
     sigPt e = some p1 ∧ sigVar e = 17 ∧ physOf e (getSig e (255 :: zeros 7)) ≠ 0) := by
  decide +kernel

/-- Block 0x0700 with antenna 1 driven, and a recent reading on it. -/
def reading (f : Ant → Ant) : State :=
  let s := withB (cp 0x0700 48 [(8, 50), (12, 1), (10, 50)] :: pointBlocks) charging
  { s with rdr.ant := vset s.rdr.ant 0 (f {}) }

/-- ReaderCompletes, pings and polls. -/
theorem wit_reader :
    (let s := reading fun x => { x with base := some 1000000 }
     rdrRuns s = true ∧ antUsed s 0 = true ∧ (ant s 0).fault = false ∧ frontBusy s 0 = false ∧ (ant s 0).lastPing = 0 ∧ pingDetects s 0 2000000 = true ∧
      (ant s 0).base = some 1000000 ∧ pingDetects s 0 1000000 = false ∧
      s.clk.mono < (ant (reading fun x => { x with lastPing := 1000000000 }) 0).lastPing + pingPeriod s * 1000 ∧
      (ant (reading fun x => { x with lastPing := 1 }) 0).lastPing + pingPeriod s * 1000 ≤ s.clk.mono) ∧
    (let s := reading fun x => { x with fst0 := List.replicate 7 1000000 }
     (ant s 0).base = none ∧ (ant s 0).fst0.length = 7 ∧ pingDetects s 0 1000000 = false ∧ (ant (reading id) 0).fst0.length < 7) ∧
    (let s := reading fun x => { x with pres := { on := true } }
     (ant s 0).pres.on = true ∧ (ant s 0).pres.detAt + 3000000 ≤ s.clk.mono) ∧
    ((reading id).rdr.storeAt + 600000000 ≤ (reading id).clk.mono ∧ (reading id).clk.mono < ({ (reading id) with rdr.storeAt := 999000000 } : State).rdr.storeAt + 600000000) ∧
    (let s := reading fun x => { x with poll := some 0 }
     (ant s 0).poll.isSome = true ∧ (ant s 0).pollDone = false) ∧
    (let s := modSess p1 (fun x => { x with req := some {} }) (reading fun x => { x with poll := some 0, pollDone := true, pollIds := [(1, [4], false)], pollTg := 1 })
     (ant s 0).poll.isSome = true ∧ (ant s 0).pollDone = true ∧ (ant s 0).pollIds = [(1, [4], false)] ∧ (1, [4]) ∉ (ant s 0).pres.ids ∧
      readElsewhere s 0 1 [4] = none ∧ 0 < (ant s 0).pollTg ∧
      (readElsewhere { s with rdr.recent := [(1, [4], 1, 999900000)] } 0 1 [4]).isSome = true) ∧
    (let s := reading fun x => { x with poll := some 0, pollDone := true, noTgt := 3 }
     (ant s 0).pollIds = [] ∧ (ant s 0).pollTg = 0 ∧ (ant s 0).noTgt = 3 ∧ (ant (reading id) 0).noTgt < 3) := by decide +kernel

/-- ReaderCompletes, identifiers of a poll and the self-test. -/
theorem wit_pollFlow :
    (let two : List (Nat × List Byte × Bool) := [(1, [4], false), (3, [5], false)]
     let l := ((two.filter fun r => !r.2.2).map fun r => (r.1, r.2.1)).eraseDups
     l = [(1, [4]), (3, [5])]) ∧
    (let f : Flight := { fl 0x0706 with pkt := pk [1, 1, 0, 0] }
     let s := reading fun x => { x with stCmd := some f }
     rdrRuns s = true ∧ antUsed s 0 = true ∧ frontBusy s 0 = false ∧ (ant s 0).stCmd = some f ∧ u8 1 f.pkt.payload = 1 ∧
      u8 1 ({ fl 0x0706 with pkt := pk [1, 0, 0, 0] } : Flight).pkt.payload ≠ 1 ∧ driverOk 40 = true ∧ driverOk 250 = true ∧ driverOk 251 = false ∧
      selfDue (reading id) 0 = true) := by decide +kernel

/-- ReaderCompletes, its commands. -/
theorem wit_readerCommands :
    (let s := reading id
     let u := begun 0x0701 (pk (le 2 257 ++ [0, 0])) s
     taken 0x0706 (pk [1, 1, 0, 0]) s = true ∧ hasPoint s 0 = true ∧ antUsed (begun 0x0706 (pk [1, 1, 0, 0]) s) 0 = true ∧
      (ant (begun 0x0706 (pk [1, 1, 0, 0]) s) 0).stCmd = none ∧ taken 0x0701 (pk (le 2 3 ++ [0, 0])) s = true ∧
      (∀ n ∈ authPoints 3, hasPoint u n = true) ∧ rsv 2 2 (le 2 3 ++ [0, 0]) = true ∧ bit 3 0 = true ∧ bit 2 0 = false ∧
      (storedAll u ([0x0700] ++ (authPoints 3).map fun n => 0x0701 + n.1)).isSome = true ∧ waitingCommit u 0x0701 = none) ∧
    (let s := { up with port.flights := [fl 0x0701], blk.taken := [(fl 0x0701, [cp 0x0700 48 []])] }
     waitingCommit s 0x0701 = some (fl 0x0701) ∧ takenBy s (fl 0x0701) = [cp 0x0700 48 []] ∧ (∀ k, (ant s k).poll = none) ∧
      (ant ({ s with rdr.ant := vset s.rdr.ant 7 { poll := some 0 } } : State) 7).poll.isSome = true) ∧
    (let e := [1, 16, 0, 0, 1, 0, 0, 0] ++ List.replicate 16 7 ++ zeros 8
     let p := [2, 0, 1, 0] ++ e
     taken 0x0702 (pk [0, 0, 0, 0]) up = true ∧ taken 0x0702 (pk [1, 0, 0, 0]) up = true ∧ taken 0x0702 (pk p) up = true ∧
      taken 0x0702 (pk ([3, 0, 1, 0] ++ e)) up = true ∧ p.length = 4 + 32 * u16 2 p ∧ rsv 1 1 p = true ∧ u16 2 p ≤ 500 ∧ entriesOf p = [entryOf e] ∧
      keyOk (entryOf e) = true ∧ onlyBits (entryOf e).eflags 1 = true ∧ entryOk up (entryOf e) = true ∧
      (addEntries [entryOf e] up.lists.staging).2 = true) ∧
    (taken 0x0703 (pk (le 4 9)) up = true ∧ taken 0x0705 (pk [8, 0, 0, 0]) up = true ∧ hasPoint up 7 = true) := by decide +kernel

/-- ReaderCompletes: an entry that does not fit, whatever the 65,536 entries staged. -/
theorem wit_listFull (e : LEntry) (l : List LEntry) (h : l.length = 65536) (k : ∀ x ∈ l, x.key ≠ e.key) : (addEntries [e] l).2 = false := by
  have hk : (l.any fun x => x.key == e.key) = false := by
    rw [List.any_eq_false]; intro x hx; simpa using k x hx
  simp [addEntries, hk, h, listCap]

/-- FieldStoreCompletes, the field side. -/
theorem wit_fieldStore :
    (up.fst.powered = false ∧ 1500 ≤ 1500 ∧ up.pwr.vioValid = true ∧ State.reset.pwr.vioValid = false ∧ State.reset.fst.powered = false) ∧
    (current up.fst.mem 10 = some (readCopy up.fst.mem 10 false, true) ∧ copyGen (readCopy up.fst.mem 10 false) = 0) ∧
    (let s := { up with fst.powered := true }
     s.fst.powered = true ∧ fieldRefused s 10 (le 4 0 ++ le 2 2 ++ [7, 8]) = none ∧ (fieldRefused s 10 (le 4 1 ++ le 2 2 ++ [7, 8])).isSome = true ∧
      cellWf fsDflt s.fst.mem = true) := by decide +kernel

/-- FieldStoreCompletes, the wired side. -/
theorem wit_wired :
    (wiredRuns up = true ∧ up.pwr.kRunning = true ∧ wiredRuns State.reset = false ∧ taken 0x0E01 (pk [31, 0, 0, 0]) up = true ∧
      taken 0x0E02 (pk ([10, 0] ++ le 2 244 ++ le 4 0 ++ zeros 244)) up = true ∧ (zeros 244).length ≤ 244 ∧
      current up.fst.mem 31 = some (readCopy up.fst.mem 31 false, true)) ∧
    (taken 0x0E03 (pk [1, 0, 0, 0]) (granted up) = true ∧ holds (begun 0x0E03 (pk [1, 0, 0, 0]) (granted up)) .spi 3 = true ∧
      taken 0x0E03 (pk [1, 0, 0, 0]) up = true ∧ holds (begun 0x0E03 (pk [1, 0, 0, 0]) up) .spi 3 = false) := by decide +kernel

/-- RecordWriteIsAtomic: both copies valid at one generation. -/
theorem wit_record :
    copyValid 10 (readCopy [] 10 false) = true ∧ copyValid 10 (readCopy [] 10 true) = true ∧
      copyGen (readCopy [] 10 true) = copyGen (readCopy [] 10 false) ∧ copyGen (readCopy [] 10 false) < 0xFFFFFFFF := by decide +kernel

/-- CONFIRM_PROCESS: a record written by the field side is newer than the one processed. -/
theorem wit_confirm :
    let m := putWords (writeWords [] 2 1 [9]) []
    current m 2 = some (copyBytes 2 1 [9], true) ∧ 0 < copyGen (copyBytes 2 1 [9]) := by decide +kernel

/-- KeysComplete. -/
theorem wit_keys :
    (let s := granted { up with nvKey.blobs := [{ keyId := 5, type := 1, use := 4 }] }
     taken 0x0A01 (pk [0, 1, 4, 0, 0, 0, 0, 0]) s = true ∧ useOk 1 4 = true ∧ holds (begun 0x0A01 (pk []) s) .spi 4 = true ∧ s.nvKey.blobs.length < 2048 ∧
      taken 0x0A01 (pk ([1, 0, 0, 0] ++ le 4 5)) s = true ∧ (blobOf s 5).isSome = true ∧ holds (begun 0x0A01 (pk []) up) .spi 4 = false ∧
      2048 ≤ ({ up with nvKey.blobs := List.replicate 2048 {} } : State).nvKey.blobs.length) ∧
    (taken 0x0A02 (pk ([1, 3, 0, 0] ++ le 4 0 ++ le 2 1 ++ [0, 0] ++ [9])) (granted up) = true ∧ 3 < roleSize 1 ∧
      taken 0x0A02 (pk ([1, 3, 0, 0] ++ le 4 0 ++ le 2 0 ++ [0, 0])) (granted up) = true ∧ holds up .spi 4 = false ∧
      keysCred up = false ∧ (16 : Nat).testBit 4 = true) ∧
    (taken 0x0A03 (pk [0, 2, 0, 0]) up = true ∧ 2 < roleSize 0 ∧ certAt up 1 3 = none) ∧
    (taken 0x0A04 (pk []) up = true ∧ taken 0x0A05 (pk (zeros 116)) up = true ∧ (zeros 116).length = 116) ∧
    (let y : Nonce := { t0 := 999999999 }
     ({ up with key.nonces := [y] } : State).key.nonces.find? (fun y => y.src == .spi && decide (up.clk.mono < y.t0 + 60000000)) = some y) ∧
    (taken 0x0A06 (pk (zeros 32)) up = true ∧ up.pwr.kRunning = true ∧ 4 ∉ up.key.kat ∧ 4 ∈ ({ up with key.kat := [4] } : State).key.kat ∧
      up.key.katAt = none ∧ ({ up with key.kat := [4] } : State).key.kat ≠ [] ∧ up.key.retestAt + 600000000 ≤ up.clk.mono) := by decide +kernel

/-- A stored certificate of the manufacturer. -/
theorem wit_certAt : certAt up 0 2 = some { role := 0, index := 2, der := Config.certDer 2 } := rfl

/-- What a certificate holds is a constant without a body (log entry 5); where it parses and fits, it can be stored and is a
credential. -/
theorem wit_certOk (der : List Byte) (x : List Byte × List Byte × Nat × Nat) (h : Config.certParse der = some (1, x)) :
    certOk up 1 3 0 der = true := by simp [certOk, h, roleAlg, within]

theorem wit_credOf (der ski pub : List Byte) (h : Config.certParse der = some (4, pub, ski, 0, 2 ^ 63)) :
    credOf { up with nvKey.certs := [{ role := 7, auth := 8, der }] } ski = some ({ role := 7, auth := 8, der }, pub) := by
  simp [credOf, h, within, up, now]

/-- The mains link enabled on one phase as node 3; `ctl` is TDR_CTL. -/
def link (ctl : Nat) (f : Tider → Tider) : State :=
  let s := withB [cp 0x0210 92 [(4, 5)], cp 0x0800 28 [(4, ctl)]] up
  { s with tdr := f { s.tdr with applied := some (cp 0x0800 28 [(4, ctl), (10, 3), (12, 60), (14, 60), (16, 120), (18, 60)]).bytes } }

/-- TiderCompletes, records and slots. -/
theorem wit_tider :
    (let r : HcRec := { seq := 5, tZc := 100, tEnd := 740 }
     let s := { link 1 id with filt.hcq := [r] }
     s.filt.hcq = [r] ∧ s.pwr.tRunning = true ∧ linkOn s = true ∧ linkOn { up with filt.hcq := [r] } = false ∧ r.ch < tdrPh s ∧ unusedFlags r.flags = false ∧
      (loopOf s 0).per = 0 ∧ (loopOf s 0).lastSeq = none ∧
      (let l : Loop := { per := 81920, lastSeq := some 4 }
       let s := { link 1 (fun t => { t with loops := Vector.replicate 3 l }) with filt.hcq := [r] }
       (loopOf s 0).per ≠ 0 ∧ r.seq < 256 ∧ (loopOf s 0).lastSeq = some ((r.seq + 255) % 256) ∧ unusedFlags (loopOf s 0).lastFlag = false)) ∧
    (let x : TSlot := { pos := 0, val := 5 }
     let s := link 33 fun t => { t with join := 3, mpos := [x], loops := Vector.replicate 3 { st := .locked } }
     linkOn s = true ∧ s.tdr.join = 3 ∧ 0 < tdrBits s ∧ sendBit s 0 = some true ∧ sendBit s 4 ≠ some true ∧
      s.tdr.mpos.find? (fun x => x.pos == 0) = some x ∧ s.tdr.mpos.find? (fun x => x.pos == 1) = none ∧ loopUp s (posPhase s 0) = true) := by decide +kernel

/-- TiderCompletes, spans and time limits. -/
theorem wit_spans :
    (let s := link 1 fun t => { t with join := 1, spans := 1, halves := 100000 }
     linkOn s = true ∧ (spanHalves s : Int) ≤ s.tdr.halves + 1 ∧ s.tdr.join = 1 ∧ 1 ≤ s.tdr.spans ∧ s.tdr.syncRun = 0 ∧
      ((link 1 id).tdr.join = 0)) ∧
    (let s := link 1 fun t => { t with join := 3, halves := 100000 }
     linkOn s = true ∧ (spanHalves s : Int) ≤ s.tdr.halves + 1 ∧ s.tdr.join = 3) ∧
    (let s := link 1 fun t => { t with join := 2, syncRun := 1, syncOfs := 7 }
     s.tdr.syncRun ≠ 0 ∧ s.tdr.syncOfs ∈ ([(7, 16, 56)].filter fun (x : Nat × Nat × Nat) => decide (x.2.1 ≤ 16) && decide (56 ≤ x.2.2)).map (·.1) ∧
      s.tdr.waitAt + 1000 * s.tdr.waitN * tdrSpan (tdrBlk s) ≤ s.clk.mono ∧ (link 1 fun t => { t with join := 2 }).tdr.syncRun = 0) ∧
    (let s := link 1 fun t => { t with join := 3, allocAt := some 0 }
     s.tdr.beacAt + 1000000 * beaconT (tdrBlk s) ≤ s.clk.mono ∧ isHolder s = false ∧ s.tdr.demAt + 1000000 * demPeriod (tdrBlk s) ≤ s.clk.mono ∧
      tdrOn s = true ∧ s.pwr.tRunning = true ∧ s.tdr.failsafe = false ∧ 0 + 1000000 * allocTimeout (tdrBlk s) ≤ s.clk.mono ∧ s.tdr.nb = []) := by
  decide +kernel

/-- TiderCompletes, the commands. -/
theorem wit_tiderCommands :
    (let s := link 1 id
     let u := begun 0x0801 (pk [0, 0, 0, 0]) s
     taken 0x0801 (pk [0, 0, 0, 0]) s = true ∧ storedAll u [0x0800] = some [cp 0x0800 28 [(4, 1)]] ∧
      (tdrPhases (cp 0x0800 28 [(4, 1)]).bytes == 3 && grpSystem (grp u 0) == 2) = false ∧ tdrRestarts u.tdr.applied (cp 0x0800 28 [(4, 1)]).bytes = true ∧
      tdrRestarts (some (cp 0x0800 28 [(4, 1)]).bytes) (cp 0x0800 28 [(4, 1)]).bytes = false ∧
      taken 0x0802 (pk []) s = true ∧ taken 0x0803 (pk (le 2 65535 ++ le 2 0 ++ le 2 0 ++ [0, 0])) s = true ∧
      (linkOn (begun 0x0803 (pk []) s) && isHolder (begun 0x0803 (pk []) s)) = false ∧
      (linkOn (begun 0x0803 (pk []) (link 3 id)) && isHolder (begun 0x0803 (pk []) (link 3 id))) = true) := by decide +kernel

/-- A panel of 64 by 64 pixels, driven, with the legal region rendered; the firmware set has no parts. -/
def panelled (f : Disp → Disp) : State :=
  { up with dsp := f { applied := some (cp 0x0900 28 [(4, 1), (8, 64), (10, 64), (28, 10)]).bytes, legalPix := [[0]], faceBlank := true, tempAt := some 1000000000 }
            upd.slots := Vector.replicate 2 { parts := [] } }

/-- DisplayEventsComplete, the start of an update; whether a temperature lies within the bands is a matter of the waveform tables
(`wit_bands`). -/
theorem wit_display :
    (let q : UpdReq := {}
     let s := panelled fun d => { d with queue := [q] }
     dspReady s = true ∧ s.dsp.queue = [q] ∧ s.dsp.recPend = false ∧ s.dsp.tempFault = false ∧ s.dsp.retryAt = none ∧ s.dsp.defer = none ∧
      foundCrc [] 0 s = expectCrc s ∧ foundCrc [expectCrc s + 1] 0 s ≠ expectCrc s ∧
      (panelled fun d => { d with queue := [q], retryAt := some 0 }).dsp.retryAt = some 0 ∧ 0 + 10000000 ≤ s.clk.mono ∧
      (panelled fun d => { d with queue := [q], tempFault := true }).dsp.tempFault = true ∧
      (panelled fun d => { d with queue := [q], recPend := true }).dsp.recPend = true ∧ q.mode ≠ 2 ∧
      dspReady (panelled fun d => { d with queue := [q], retryAt := some 0, tempFault := true }) = true ∧ dspReady up = false) ∧
    (let s := panelled fun d => { d with faceBlank := false, nextImg := [] }
     let u := writeLegal s.dsp.faceBlank (pulse 113 (prm [(4, expectCrc s), (4, foundCrc [1, 1] 0 s)]) s)
     s.dsp.faceBlank = false ∧ foundCrc [1, 1] 0 s ≠ expectCrc s ∧ foundCrc [1, 1] 1 u ≠ expectCrc s) := by
  decide +kernel

/-- DisplayEventsComplete, rails, frames, rendering and recovery. -/
theorem wit_rails :
    (let q : UpdReq := {}
     let s := panelled fun d => { d with run := some q, railStep := 5 }
     s.dsp.run = some q ∧ 1 ≤ s.dsp.railStep ∧ s.dsp.railStep ≤ 5 ∧ railOk (dspB s) 5 (railNominal (dspB s) 5 + 20) = true ∧
      railOk (dspB s) 5 (railNominal (dspB s) 5 + 21) = false ∧ q.again = false ∧ s.pwr.phase = .run ∧
      (panelled fun d => { d with run := some q, railStep := 6, frames := 1 }).dsp.frame < 1 ∧
      (panelled fun d => { d with run := some q, railStep := 6, frames := 1, frame := 1 }).dsp.frameAt + 6250 ≤ s.clk.mono) ∧
    (let s := panelled fun d => { d with railStep := 6 }
     s.dsp.run = none ∧ s.dsp.railStep = 6 ∧ s.dsp.railsAt + 1000 * railHold (dspB s) ≤ s.clk.mono ∧ dspOn s = true ∧ s.pwr.tRunning = true ∧
      gridRuns s = true ∧ renderDue (panelled fun d => { d with legalPix := [] }) = true ∧ s.dsp.tempUpd = none ∧
      (panelled fun d => { d with tempUpd := some ({}, 0) }).dsp.tempUpd = some ({}, 0)) ∧
    (let s := panelled fun d => { d with recPend := true }
     s.dsp.recPend = true ∧ (∀ q ∈ s.dsp.queue, q.mode ≠ 2) ∧ s.dsp.run = none ∧ s.nvDsp.marker ≠ 1) ∧
    (let s := { up with port.flights := [fl 0x0901], blk.taken := [(fl 0x0901, [cp 0x0900 28 []])] }
     waitingCommit s 0x0901 = some (fl 0x0901) ∧ takenBy s (fl 0x0901) = [cp 0x0900 28 []] ∧ s.dsp.run = none) := by
  decide +kernel

/-- With tables that name a band from 0 °C to 50 °C, 25 °C lies within it and 60 °C does not. -/
theorem wit_bands (h : Config.waveBounds [] = [0, 500]) (s : State) (hp : wavePart s = []) : inRange s 2500 = true ∧ inRange s 6000 = false := by
  simp [inRange, bandIx, hp, h, List.filter]

/-- DisplayCommandsComplete. -/
theorem wit_displayCommands :
    (let s := withB [cp 0x0900 28 []] up
     let u := begun 0x0901 (pk [0, 0, 0, 0]) s
     taken 0x0901 (pk [0, 0, 0, 0]) s = true ∧ storedAll u [0x0900] = some [cp 0x0900 28 []] ∧ waitingCommit u 0x0901 = none) ∧
    (let s := panelled id
     let b := le 2 62 ++ le 2 63 ++ le 2 2 ++ le 2 1 ++ [0x21]
     taken 0x0902 (pk b) s = true ∧ onPanel s (rectAt 0 b) = true ∧ (rectAt 0 b).x % 2 = 0 ∧ (rectAt 0 b).w % 2 = 0 ∧ (rectAt 0 b).x + (rectAt 0 b).w ≤ 800 ∧
      b.length = 8 + (rectAt 0 b).w * (rectAt 0 b).h / 2 ∧ touches (rectAt 0 b) (legalRect (dspB s)) = false ∧ cellWf white s.dsp.nextImg = true) ∧
    (let s := { up with dsp.applied := some (cp 0x0900 28 [(9, 2), (10, 64), (20, 0), (21, 16)]).bytes }
     let b := le 2 0 ++ le 2 31 ++ le 2 2 ++ le 2 1 ++ [0x21]
     taken 0x0902 (pk b) s = true ∧ onPanel s (rectAt 0 b) = true ∧ touches (rectAt 0 b) (legalRect (dspB s)) = true) ∧
    (let b := le 2 0 ++ le 2 0 ++ le 2 64 ++ le 2 64 ++ [1, 0, 0, 0]
     let u := fun (s : State) => begun 0x0903 (pk b) s
     let s := panelled id
     taken 0x0903 (pk b) s = true ∧ b.length = 12 ∧ u8 8 b ≤ 1 ∧ rsv 9 3 b = true ∧ onPanel (u s) (rectAt 0 b) = true ∧ dspOn (u s) = true ∧
      (u s).dsp.dispFault = false ∧ waitingReqs (u s) < 4 ∧ 4 ≤ waitingReqs (u (panelled fun d => { d with queue := List.replicate 4 {} })) ∧
      taken 0x0903 (pk b) up = true ∧ (u up).dsp.applied = none ∧ dspOn (u up) = false) ∧
    (let s := panelled id
     taken 0x0904 (pk []) s = true ∧ taken 0x0905 (pk ([0, 0] ++ le 2 0 ++ le 2 1000)) s = true ∧ taken 0x0905 (pk ([1, 0] ++ le 2 0 ++ [0, 0])) s = true ∧
      (begun 0x0905 (pk []) s).dsp.run = none ∧ (begun 0x0905 (pk []) (panelled fun d => { d with run := some {} })).dsp.run.isSome = true) := by decide +kernel

/-- The device on trial of the set in slot B. -/
def onTrialB (f : SelCopy → SelCopy) : State := { up with upd.selA := some (f { slot := 1, trial := true }), upd.selB := none, upd.st := .trial }

/-- ResetsComplete. -/
theorem wit_resets :
    (State.reset.pwr.vsysValid = false ∧ 17500 ≤ 17500 ∧ up.pwr.vsysValid = true ∧ 11999 < 12000) ∧
    (up.pwr.phase = .run ∧ onTrial up = false ∧ up.pwr.vioValid = true ∧ up.pwr.resetN = true) ∧
    (let s := { up with pwr.phase := .held, pwr.vioValid := false }
     s.pwr.phase = .held ∧ s.pwr.vsysValid = true ∧ s.pwr.vioValid = false ∧ s.pwr.resetN = true ∧
      ({ up with pwr.phase := .held, pwr.resetN := false } : State).pwr.resetN = false) ∧
    ({ up with pwr.phase := .boot } : State).pwr.phase = .boot ∧
    (appUp up = true ∧ up.pwr.warmReq = none ∧ ({ up with pwr.warmReq := some 6 } : State).pwr.warmReq = some 6 ∧ gridRuns up = true) ∧
    (let s := { up with pwr.inWarm := true, pwr.warmAt := some 0 }
     s.pwr.inWarm = true ∧ s.pwr.warmAt = some 0 ∧ 0 + 2000 ≤ s.clk.mono ∧ vget s.pwr.clkFault 2 = false ∧ vget s.pwr.clkFault 3 = false) ∧
    (let s := { up with pwr.appResetAt := some 0 }
     gridRuns s = true ∧ s.pwr.inWarm = false ∧ s.pwr.appResetAt.isSome = true ∧ s.pwr.blkBegan = none) ∧
    (let s := { up with pwr.blkUnit := some 5 }
     up.pwr.blkUnit = none ∧ s.pwr.blkUnit = some 5 ∧ s.pwr.blkBegan = none ∧ onTrial s = false ∧ s.pwr.blkReqAt + 50000 ≤ s.clk.mono ∧
      ({ s with pwr.blkBegan := some 0 } : State).pwr.blkBegan.isSome = true) ∧
    (({ up with pwr.resetReq := some (2, 0, 0) } : State).pwr.resetReq = some (2, 0, 0) ∧ 0 + 10000 ≤ up.clk.mono) ∧
    (let s := { up with pwr.phase := .shelf }
     s.pwr.phase = .shelf ∧ onTrial s = false ∧ s.pwr.vsysValid = true ∧ s.pwr.vioValid = true ∧ s.pwr.resetN = true) := by decide +kernel

/-- PowerEventsComplete. -/
theorem wit_powerEvents :
    (up.fe.valid = true ∧ up.pwr.vsysValid = true ∧ 16999 < 17000 ∧ up.pwr.phase = .run ∧ gridRuns up = true ∧ up.clk.timeValid = true ∧
      vget up.pwr.clkFault 5 = false ∧ ({ up with fe.valid := false } : State).fe.valid = false ∧ ({ up with pwr.phase := .boot } : State).pwr.phase = .boot) ∧
    (let s := { withB [cp 0x0C10 16 [(4, 1)]] up with pwr.pfwnArmed := true, pwr.pfwnLow := 2 }
     s.pwr.pfwnArmed = true ∧ pfwnEn (pwrB s) = true ∧ 2 ≤ s.pwr.pfwnLow) ∧
    (({ up with pwr.phase := .pfwSeq } : State).pwr.pfwAt + 8000 ≤ up.clk.mono ∧
      ({ up with pwr.phase := .pfwWait } : State).pwr.pfwEndAt + 1000 ≤ up.clk.mono) ∧
    (let s := withB [cp 0x0C10 16 [(10, 1)]] { up with pwr.aTask := false, pwr.allowedSince := some 0 }
     appUp s = true ∧ s.pwr.pstate = .run ∧ 1 ≤ allowedState { s with pwr.aTask := false } ∧ 2 ≤ allowedState s ∧
      pstCode s.pwr.pstate < allowedState s ∧ heldFor s s.pwr.allowedSince (descendT (pwrB s) * 1000) = true) ∧
    (gridRuns { up with pwr.phase := .off } = false) ∧
    (mramPart (8 * 0) = 0 ∧ mramPart (8 * ((2 ^ 27 - 8) / 8)) = 11 ∧ ((List.range 12).map fun i => mramPart (mramStart i)) = List.range 12 ∧
      mramStart 6 ≤ 8 * (mramStart 6 / 8) ∧ 8 * (mramStart 6 / 8) < mramStart 6 + 2 ^ 19) ∧
    (let s := { up with tail.coverCand := true, tail.coverRun := 4 }
     s.tail.coverCand = true ∧ min 5 (s.tail.coverRun + 1) = 5 ∧ s.tail.coverOpen ≠ true ∧ s.tail.latched = false) := by
  decide +kernel

/-- An option record that is valid and holds a mailbox binding. -/
def option : List Byte := withCrc (le 4 0x4F564E50 ++ le 2 1 ++ zeros 10 ++ [0x32, 1] ++ zeros 202)

/-- PowerAndUpdateCommandsComplete, power. -/
theorem wit_powerCommands :
    (taken 0x0C01 (pk []) up = true ∧ taken 0x0C02 (pk [1, 5, 0, 0]) up = true ∧ (begun 0x0C02 (pk [1, 5, 0, 0]) up).pwr.blkUnit = none ∧
      taken 0x0C02 (pk [2, 0, 0, 0]) up = true ∧ (∀ n, sessOpen (begun 0x0C02 (pk []) up) n = false) ∧ sessOpen charging 0 = true ∧
      taken 0x0C02 (pk [0, 0, 0, 0]) up = true ∧ taken 0x0C02 (pk [3, 0, 0, 0]) up = true) ∧
    (let s := { up with pwr.optLoaded := some option, upd.opt1 := option }
     taken 0x0C03 (pk [0, 0, 0, 0]) s = true ∧ (begun 0x0C03 (pk []) s).pwr.optLoaded = some option ∧ taken 0x0C03 (pk [1, 0, 0, 0]) s = true ∧
      optValid s.upd.opt1 = true ∧ optValid [] = false ∧ taken 0x0C03 (pk [2, 0, 0, 0]) s = true) ∧
    (taken 0x0C04 (pk option) up = true ∧ optValid option = true ∧ optReserved option = true ∧
      (∀ k : Fin 32, bindOk (u16 (16 + 2 * k.1) option) = true) ∧ taken 0x0C04 { pk option with src := .net 1 1, addr := 0xFF } up = true) ∧
    (let s := withB [cp 0x0C10 16 [(6, 1)]] up
     taken 0x0C05 (pk [0, 0, 0, 0]) s = true ∧ storedAll (begun 0x0C05 (pk [0, 0, 0, 0]) s) [0x0C10] = some [cp 0x0C10 16 [(6, 1)]] ∧
      uNom (cp 0x0C10 16 [(6, 1)]).bytes ≠ uNom (pwrB up)) := by decide +kernel

/-- A package header of one part of one byte. -/
def header : List Byte := le 4 0x554E5650 ++ le 2 1 ++ [8, 0, 0, 0, 1, 0] ++ zeros 12 ++ le 4 80 ++ le 4 1 ++ zeros 992

/-- A package whose signature verifies passes the header checks; verification is a function without a body (log entry 5). -/
theorem wit_header (h : Config.ecdsaVerify Config.updatePub (header.take 928) (slice 928 96 header) = true) :
    headerFail { up with upd.secVer := 0 } header = none := by
  have h1 : (slice 0 4 header == le 4 0x554E5650 && u16 4 header == 1 && rsv 176 752 header && decide (u8 8 header ≤ 1) && decide (u8 9 header ≤ 1)) = true := by
    decide +kernel
  have h2 : (u8 6 header == up.member.points && decide (u8 7 header ≤ Config.siliconRev)) = true := by decide +kernel
  have h3 : (u8 8 header == 0) = true := by decide +kernel
  have h6 : (u8 9 header == 0) = true := by decide +kernel
  have h7 : (decide (1024 + manLen header + payLen header ≤ pkgMax) && manLen header == 80 * u16 10 header && within (u16 10 header) 1 32) = true := by
    decide +kernel
  have hk : up.key.kat.contains katBrainpool = false := by decide +kernel
  simp only [headerFail, firstFail, h, hk, Bool.not_false, Bool.true_and, h1, h2, h3, h6, h7, Bool.true_or, if_true, Nat.zero_le, decide_true]

/-- PowerAndUpdateCommandsComplete, the update. -/
theorem wit_update :
    (taken 0x0B01 (pk header) up = true ∧ header.length = 1024 ∧ updBusy up = false ∧ onTrial up = false ∧
      headerFail up (zeros 1024) = some 1 ∧ taken 0x0B01 (pk (zeros 1024)) up = true) ∧
    (let s := { up with upd.st := .receiving, upd.header := header, upd.data := zeros 80 }
     taken 0x0B02 (pk (le 4 80 ++ [9])) s = true ∧ s.upd.src = (pk []).src ∧ manLen s.upd.header ≤ s.upd.data.length ∧
      s.upd.data.length + 1 = pkgTotal s.upd.header) ∧
    (let s := { up with upd.st := .writing, upd.header := zeros 1024, upd.slots := Vector.replicate 2 { parts := [] } }
     appUp s = true ∧ slotFail (s.upd.data.take (manLen s.upd.header))
      (resultParts (activeSet s) (s.upd.data.take (manLen s.upd.header)) (s.upd.data.drop (manLen s.upd.header))) = none) ∧
    (let s := { up with upd.st := .writing, upd.header := header, upd.data := zeros 81, upd.slots := Vector.replicate 2 { parts := [] } }
     slotFail (s.upd.data.take (manLen s.upd.header))
      (resultParts (activeSet s) (s.upd.data.take (manLen s.upd.header)) (s.upd.data.drop (manLen s.upd.header))) = some 10) ∧
    (let s := { up with upd.st := .ready, upd.actAt := some (0, 10), upd.cls := 2 }
     taken 0x0B03 (pk [10, 0, 0, 0]) s = true ∧ s.upd.actAt = some (0, 10) ∧ 0 + 10000 ≤ s.clk.mono ∧ s.pwr.phase = .run ∧ ∀ n, sessOpen s n = false) ∧
    (taken 0x0B04 (pk []) (onTrialB id) = true ∧ onTrial (onTrialB id) = true ∧ gridRuns (onTrialB id) = true ∧
      taken 0x0B05 (pk []) up = true ∧ taken 0x0B06 (pk []) up = true) ∧
    ((selector (onTrialB id)).deadline = 0 ∧ (onTrialB id).upd.trialAt + 60000000 ≤ up.clk.mono ∧
      (selector (onTrialB fun c => { c with deadline := 5 })).deadline ≠ 0 ∧ (selector (onTrialB fun c => { c with deadline := 5 })).deadline ≤ up.clk.mono) := by
  decide +kernel

/-- NoCommandLowersAcc, StepKeepsSafeState, StepKeepsCanonicalMemories: an opcode of the table; the invariants at reset and in
the device safe state. -/
theorem wit_invariants :
    (bodyOf 0x0204).isSome = true ∧ (∀ n, PathsOff State.reset n) ∧
      (∀ n, (saf { up with safeDev.safeState := true } n).coil = false ∧ (saf { up with safeDev.safeState := true } n).cut = false ∧
        (pil { up with safeDev.safeState := true } n).out = .F ∧ hasPoint up n = true) ∧ up.pwr.vsysValid = true ∧
      cellWf fsDflt up.fst.mem = true ∧ cellWf white up.dsp.nextImg = true := by unfold PathsOff; decide +kernel

/-- DeniedCommandsChangeNothing. -/
theorem wit_denied :
    (taken 0x0503 (pk ([8, 0, 0, 0] ++ le 4 (saf up 7).check)) up = true ∧ hasPoint up 7 = true ∧ holds up .spi 3 = false ∧
      taken 0x0504 (pk [8, 0, 0, 0]) up = true ∧ taken 0x0E03 (pk [1, 0, 0, 0]) up = true) ∧
    (taken 0x0A01 (pk [0, 1, 4, 0, 0, 0, 0, 0]) up = true ∧ holds up .spi 4 = false ∧ useOk 1 4 = true) ∧
    (taken 0x0306 (pk (le 8 (7305 * dayUs) ++ [1, 0, 0, 0, 0, 0, 0, 0])) up = true ∧ holds up .spi 0 = false) ∧
    (taken 0x0307 (pk (le 1 8 ++ le 1 4 ++ [0, 0] ++ le 4 9 ++ le 8 0)) up = true ∧ holds up .spi 1 = false ∧ 8 ≤ up.member.points) ∧
    (taken 0x0314 (pk [1, 0, 0, 0]) up = true ∧ holds up .spi 2 = false) := by decide +kernel

/-! ## Rules stated whole -/

/-- UnlistedOpcodesAreRefused: opcode 0x0181 as a whole packet; 0x0104 is known, 0x0180 and 0x0704 are not. -/
theorem wit_unlisted :
    (let b := withCrc ([2, 0xFE] ++ le 2 9 ++ le 2 0x0181 ++ le 2 0 ++ le 4 0 ++ zeros 4)
     0x80 ≤ u16 4 b % 256 ∧ spiDriven up = true ∧ rxRoom up = true ∧ rawLen b ≤ 16384 ∧ rawLen b + 20 ≤ b.length ∧
      crcOk (b.take (rawLen b + 20)) = true ∧ u8 0 b = 2 ∧ u16 6 b < 16 ∧ u16 12 b = 0 ∧ u16 14 b = 0 ∧ addrOk up (rawPkt .spi b) = true) ∧
    (let b := withCrc ([2, 0xFF] ++ le 2 9 ++ le 2 0x0704 ++ le 2 0 ++ le 4 0 ++ zeros 4)
     up.port.ready = true ∧ rawLen b ≤ 16384 ∧ b.length = rawLen b + 20 ∧ crcOk b = true ∧ u8 0 b = 2 ∧ u16 6 b < 16 ∧ u16 12 b = 0 ∧
      u16 14 b = 0 ∧ addrOk up (rawPkt (.net 1 2) b) = true) ∧
    (bodyOf 0x0104).isSome = true ∧ (bodyOf 0x0180).isSome = false ∧ (bodyOf 0x0704).isSome = false ∧ hostTable.length = 85 := by decide +kernel

/-- SwClearRule: channel index 23, bridge 31, an index beyond, and limp-home. -/
theorem wit_swClear :
    (taken 0x0604 (pk [23, 0, 0, 0]) up = true ∧ hasIndex up 23 = true ∧ rsv 1 3 [23, 0, 0, 0] = true) ∧
    (taken 0x0604 (pk [31, 0, 0, 0]) up = true ∧ hasIndex up 31 = true) ∧
    (taken 0x0604 (pk [32, 0, 0, 0]) up = true ∧ hasIndex up 32 = false) ∧
    (let s : State := { up with sw.limp := true }
     taken 0x0604 (pk [0, 0, 0, 0]) s = true ∧ s.sw.limp = true) := by decide +kernel

/-- FsReadRule. -/
theorem wit_fsReadRule :
    taken 0x0E01 (pk [31, 0, 0, 0]) up = true ∧ taken 0x0E01 (pk [32, 0, 0, 0]) up = true ∧ u8 0 [31, 0, 0, 0] < 32 := by decide +kernel

/-- ClearedWeldCountsAsPassedCheck. -/
theorem wit_weldCleared :
    (let s : State := { granted up with
        nvPt := vset up.nvPt 0 { welded := true }
        safe := vset up.safe 0 { clearSince := some 0 } }
     taken 0x0504 (pk [1, 1, 0, 0]) s = true ∧ holds s .spi 3 = true ∧ hasPoint s 0 = true ∧ (nvp s 0).welded = true ∧
      heldFor s (saf s 0).clearSince 1000000 = true) := by decide +kernel

/-- SenseOutput: 2.5 A of HS1 across 820 Ω at a mirror ratio of 2000 reads 1.025 V, and a latch the fault level (R265). -/
theorem wit_sense :
    (gridRuns up = true ∧ up.sw.sense = (0 : Fin 24).1 ∧ latched up 0 = false ∧ (vget up.sw.ch 0).st = .off) ∧
    isense { up with sw.ch := vset up.sw.ch 0 { st := .on, cur := 2500 } } = (1025, 1025) ∧
    isense { up with nvCh := vset up.nvCh 0 { sc := true } } = (4600, 5200) ∧
    isense { up with sw.sense := 31, nvPt := vset up.nvPt 7 { lockFault := true } } = (4600, 5200) ∧ isense State.reset = (0, 0) := by
  decide +kernel

/-! ## Lands -/

/-- 748 lands, 141 of them VSS, 39 PGND_HV and 24 VSYS_HV, each side 175 (R476, R478). -/
theorem test_landCounts :
    landMap.length = 748 ∧ (landMap.filter fun x => x.2 == .vss).length = 141 ∧ (landMap.filter fun x => x.2 == .pgndHv).length = 39 ∧
    (landMap.filter fun x => x.2 == .vsysHv).length = 24 ∧ ([LandSide.T, .E, .B, .W].map fun sd => (sideLands sd).length) = [175, 175, 175, 175] := by
  decide +kernel

/-- The worked example after R478: MT3_U1_P, HS5 and the address straps. -/
theorem test_landExample :
    landAt 4 17 = some (.mt 3 4 false) ∧ landAt 5 36 = some (.hs 4) ∧ landAt 6 40 = some (.hs 4) ∧ landAt 6 39 = some (.hs 4) ∧
    landAt 19 1 = some (.addr 0) ∧ landAt 19 5 = some (.addr 4) ∧ landAt 18 1 = some (.addr 5) ∧ landAt 7 7 = none := by decide +kernel

/-- The delay of the worked example after R53. -/
theorem test_delay : delayParts (128064 + 1422 - 7) = (2023, 7) := by decide +kernel

/-- SidesCoverTheRings: a position of each side, and a corner. -/
theorem wit_sides : sideCoord .T 174 = (5, 35) ∧ sideCoord .E 0 = (1, 40) ∧ sideCoord .B 0 = (40, 40) ∧ sideCoord .W 0 = (40, 1) := by decide +kernel

/-- LandsInReset: a boot, SHELF, VIO invalid, a warm reset, and a point with its path off. -/
theorem wit_lands :
    (let s := { up with pwr.phase := .boot }
     darkLands s = true ∧ s.pwr.vsysValid = true ∧ s.pwr.vioValid = true) ∧ darkLands { up with pwr.phase := .shelf } = true ∧
    (landType .spiSck = .DI ∧ Land.spiSck ≠ .testMode) ∧
    (({ up with pwr.vioValid := false } : State).pwr.vioValid = false ∧ landType .tdrArm = .DO) ∧
    (let s := { up with pwr.inWarm := true }
     gridRuns s = true ∧ s.pwr.inWarm = true) ∧
    ((saf up 0).coil = false ∧ (saf up 0).cut = false ∧ (saf up 0).path = 0) := by decide +kernel

end Sys2Proof.Tests
end

/-! ## The spine of the device -/

namespace Sys2Proof.Laws

open Sys2Proof Sys2Proof.Machine

/-- What the device is beside the meters, the points, the ledger and the display: supplies and resets, the time, whether the port
runs, the port start counter, the front end, the safety pair, the power-fail warning last kept, and the active bits of the
events 0 to 7, which supplies, resets, clocks and memory raise. -/
def spine (s : State) : State :=
  { clk := { time := s.clk.time, mono := s.clk.mono, timeValid := s.clk.timeValid }
    pwr := s.pwr
    port := { ready := s.port.ready, wait := s.port.wait }
    ev := { active := s.ev.active.filter fun a => decide (a.1 < 8) }
    fe := s.fe
    nvBill := { warned := s.nvBill.warned }
    led := { bootCnt := s.led.bootCnt }
    safeDev := s.safeDev }

/-- What the spine shows is the same in two states with one spine. -/
theorem of_spine {α : Type} (f : State → α) (hf : ∀ u, f (spine u) = f u) {s t : State} (h : spine t = spine s) : f t = f s := by
  rw [← hf t, h, hf s]

/-- An active bit of the events 0 to 7 shows in the spine. -/
theorem mem_active_of_spine {s t : State} (h : spine t = spine s) (a : Nat × Nat) (ha : a.1 < 8) :
    a ∈ t.ev.active ↔ a ∈ s.ev.active := by
  have hm : ∀ u : State, a ∈ (spine u).ev.active ↔ a ∈ u.ev.active := fun u => by simp [spine, ha]
  rw [← hm t, h, hm s]

/-! ## Single updates -/

@[simp] theorem spine_upd_p100 (s : State) (x) : spine { s with p100 := x } = spine s := rfl
@[simp] theorem spine_upd_pfw (s : State) (x) : spine { s with pfw := x } = spine s := rfl
@[simp] theorem spine_upd_en (s : State) (x) : spine { s with en := x } = spine s := rfl
@[simp] theorem spine_upd_bill (s : State) (x) : spine { s with bill := x } = spine s := rfl
@[simp] theorem spine_upd_tail (s : State) (x) : spine { s with tail := x } = spine s := rfl
@[simp] theorem spine_upd_blk (s : State) (x) : spine { s with blk := x } = spine s := rfl
@[simp] theorem spine_upd_sw (s : State) (x) : spine { s with sw := x } = spine s := rfl
@[simp] theorem spine_upd_nvSafe (s : State) (x) : spine { s with nvSafe := x } = spine s := rfl
@[simp] theorem spine_upd_fst (s : State) (x) : spine { s with fst := x } = spine s := rfl
@[simp] theorem spine_upd_nvFst (s : State) (x) : spine { s with nvFst := x } = spine s := rfl
@[simp] theorem spine_upd_upd (s : State) (x) : spine { s with upd := x } = spine s := rfl
@[simp] theorem spine_upd_led (s : State) (x : Ledger) (h : x.bootCnt = s.led.bootCnt) : spine { s with led := x } = spine s := by
  simp [spine, h]
@[simp] theorem spine_upd_nvBill (s : State) (x : NvBill) (h : x.warned = s.nvBill.warned) : spine { s with nvBill := x } = spine s := by
  simp [spine, h]
@[simp] theorem spine_upd_used (s : State) (x) : spine { s with ev.used := x } = spine s := rfl

@[simp] theorem spine_modMeter (m : Fin 9) (f : Meter → Meter) (s : State) : spine (modMeter m f s) = spine s := rfl
@[simp] theorem spine_modMeterP (m : Fin 9) (f : MeterP → MeterP) (s : State) : spine (modMeterP m f s) = spine s := rfl
@[simp] theorem spine_modSessP (n : Fin 8) (f : SessP → SessP) (s : State) : spine (modSessP n f s) = spine s := rfl
@[simp] theorem spine_modWin (m : Fin 9) (f : Win → Win) (s : State) : spine (modWin m f s) = spine s := rfl
@[simp] theorem spine_modPilot (n : Fin 8) (f : Pilot → Pilot) (s : State) : spine (modPilot n f s) = spine s := rfl
@[simp] theorem spine_modSess (n : Fin 8) (f : Sess → Sess) (s : State) : spine (modSess n f s) = spine s := rfl
@[simp] theorem spine_modHlc (n : Fin 8) (f : Hlc → Hlc) (s : State) : spine (modHlc n f s) = spine s := rfl
@[simp] theorem spine_modSafe (n : Fin 8) (f : Safe → Safe) (s : State) : spine (modSafe n f s) = spine s := rfl
@[simp] theorem spine_modEarth (n : Fin 8) (f : Earth → Earth) (s : State) : spine (modEarth n f s) = spine s := rfl
@[simp] theorem spine_modNvPt (n : Fin 8) (f : NvPoint → NvPoint) (s : State) : spine (modNvPt n f s) = spine s := rfl
@[simp] theorem spine_modChan (c : Fin 24) (f : Chan → Chan) (s : State) : spine (modChan c f s) = spine s := rfl
@[simp] theorem spine_modLock (n : Fin 8) (f : Lock → Lock) (s : State) : spine (modLock n f s) = spine s := rfl
@[simp] theorem spine_modAnt (k : Fin 8) (f : Ant → Ant) (s : State) : spine (modAnt k f s) = spine s := rfl
@[simp] theorem spine_modDsp (f : Disp → Disp) (s : State) : spine (modDsp f s) = spine s := rfl
@[simp] theorem spine_modNvDsp (f : NvDisp → NvDisp) (s : State) : spine (modNvDsp f s) = spine s := rfl
@[simp] theorem spine_modTdr (f : Tider → Tider) (s : State) : spine (modTdr f s) = spine s := rfl
@[simp] theorem spine_modDet (i : Nat) (f : Det → Det) (s : State) : spine (modDet i f s) = spine s := rfl
@[simp] theorem spine_modSlot (i : Nat) (f : Slot → Slot) (s : State) : spine (modSlot i f s) = spine s := rfl
@[simp] theorem spine_modSlots (i : Nat) (f : FwSet → FwSet) (s : State) : spine (modSlots i f s) = spine s := rfl
@[simp] theorem spine_drawn (n : Nat) (s : State) : spine (drawn n s) = spine s := rfl
@[simp] theorem spine_sawGen (r g : Nat) (s : State) : spine (sawGen r g s) = spine s := rfl
@[simp] theorem spine_untake (f : Flight) (s : State) : spine (untake f s) = spine s := rfl

/-! ## Events and pending records (R142, R401, R402) -/

theorem spine_of_quiet {s t : State} (h : quiet t = quiet s)
    (ha : t.ev.active.filter (fun a => decide (a.1 < 8)) = s.ev.active.filter fun a => decide (a.1 < 8)) : spine t = spine s := by
  have hc : { spine t with ev := {} } = { spine s with ev := {} } := of_quiet (fun u => { spine u with ev := {} }) (fun _ => rfl) h
  calc spine t = { { spine t with ev := {} } with ev.active := t.ev.active.filter fun a => decide (a.1 < 8) } := rfl
    _ = { { spine s with ev := {} } with ev.active := s.ev.active.filter fun a => decide (a.1 < 8) } := by rw [hc, ha]
    _ = spine s := rfl

/-- Entries of the event log leave the active bits. -/
@[simp] theorem logEntry_active (ev flags : Nat) (p : List Byte) (s : State) : (logEntry ev flags p s).ev.active = s.ev.active := by
  unfold logEntry
  split
  · rfl
  · rw [foldl_keeps (fun t => t.ev.active) _ (fun t k => by split <;> rfl)]
    rfl

@[simp] theorem deliver_active (ev : Nat) (lvl : Bool) (p : List Byte) (s : State) : (deliver ev lvl p s).ev.active = s.ev.active := by
  unfold deliver
  dsimp only
  split
  · simp
  · rfl

@[simp] theorem spine_deliver (ev : Nat) (lvl : Bool) (p : List Byte) (s : State) : spine (deliver ev lvl p s) = spine s :=
  spine_of_quiet (quiet_deliver ev lvl p s) (by simp)

@[simp] theorem spine_dropRec (s : State) : spine (dropRec s) = spine s := by simp [dropRec]

/-- Of the active bits, following the limits of R142 and R145 changes E41 alone. -/
@[simp] theorem spine_ledgerLimits (s : State) : spine (ledgerLimits s) = spine s := by
  have low (t : State) (on : Bool) : spine (if on == t.led.low then t else deliver 41 on [] { t with
      led.low := on
      ev.active := if on then (41, 0) :: t.ev.active else t.ev.active.filter (· ≠ (41, 0)) }) = spine t := by
    split
    · rfl
    · rw [spine_deliver]
      refine spine_of_quiet rfl ?_
      cases on
      · simp only [Bool.false_eq_true, if_false, List.filter_filter]
        refine List.filter_congr fun a _ => ?_
        by_cases h : a.1 < 8
        · have : a ≠ (41, 0) := by rintro rfl; omega
          simp [h, this]
        · simp [h]
      · rfl
  have refuse (c : Bool) : spine (if c then deliver 42 true [] { s with led.refusing := true }
      else { s with led.refusing := sessionsRefused s }) = spine s := by
    split
    · exact spine_deliver _ _ _ _
    · rfl
  unfold ledgerLimits
  exact (low _ _).trans (refuse _)

@[simp] theorem spine_queueRec (r : PendRec) (s : State) : spine (queueRec r s) = spine s := by
  unfold queueRec
  dsimp only
  repeat' split
  all_goals simp

@[simp] theorem spine_legalRecord (ev : Nat) (lvl : Bool) (p : List Byte) (s : State) : spine (legalRecord ev lvl p s) = spine s := by
  unfold legalRecord
  dsimp only
  repeat' split
  all_goals simp

@[simp] theorem spine_occur (ev : Nat) (lvl : Bool) (p : List Byte) (s : State) : spine (occur ev lvl p s) = spine s := by simp [occur]

@[simp] theorem spine_pulse (ev : Nat) (p : List Byte) (s : State) : spine (pulse ev p s) = spine s := by simp [pulse]

/-- A level event above E7 leaves the active bits of the events 0 to 7. -/
@[simp] theorem spine_level (ev key : Nat) (on : Bool) (p : List Byte) (s : State) (h : 8 ≤ ev) : spine (level ev key on p s) = spine s := by
  unfold level
  split
  · rfl
  · rw [spine_occur]
    refine spine_of_quiet rfl ?_
    cases on
    · simp only [Bool.false_eq_true, if_false, List.filter_filter]
      refine List.filter_congr fun a _ => ?_
      by_cases ha : a.1 < 8
      · have : a ≠ (ev, key) := by rintro rfl; omega
        simp [ha, this]
      · simp [ha]
    · simp [h]

@[simp] theorem spine_persist (s : State) : spine (persist s) = spine s := by
  unfold persist
  dsimp only
  split
  all_goals simp

@[simp] theorem spine_tamperRec (kind meter sess t : Nat) (s : State) : spine (tamperRec kind meter sess t s) = spine s := by
  simp [tamperRec]

/-! ## Meters: registers and boundaries (R72 to R82, R98 to R111) -/

@[simp] theorem spine_pulses (m q delta : Nat) (s : State) : spine (pulses m q delta s) = spine s := by
  unfold pulses
  refine foldl_keeps spine _ (fun t b => ?_) _ s
  dsimp only
  repeat' split
  all_goals simp

@[simp] theorem spine_pulsePeriods (m len : Nat) (s : State) : spine (pulsePeriods m len s) = spine s := by
  unfold pulsePeriods
  refine foldl_keeps spine _ (fun t b => ?_) _ s
  split
  all_goals rfl

@[simp] theorem spine_chargeCredit (m : Fin 9) (delta : Nat) (sd : Side) (s : State) : spine (chargeCredit m delta sd s) = spine s := by
  unfold chargeCredit
  dsimp only
  repeat' split
  all_goals simp

@[simp] theorem spine_deliverInc (m : Fin 9) (q : Fin 12) (delta : Nat) (sd : Side) (s : State) : spine (deliverInc m q delta sd s) = spine s := by
  unfold deliverInc
  dsimp only
  repeat' split
  all_goals simp

@[simp] theorem spine_transferQ (m : Fin 9) (q : Fin 12) (c : Nat) (sd : Side) (s : State) : spine (transferQ m q c sd s) = spine s := by
  unfold transferQ
  dsimp only
  repeat' split
  all_goals simp

@[simp] theorem spine_markFlags (m : Fin 9) (flags : Nat) (sd : Side) (s : State) : spine (markFlags m flags sd s) = spine s := by
  unfold markFlags
  dsimp only
  repeat' split
  all_goals simp

@[simp] theorem spine_transfer (m : Fin 9) (cs : List (Fin 12 × Nat)) (sd : Side) (s : State) : spine (transfer m cs sd s) = spine s := by
  unfold transfer
  exact foldl_keeps spine _ (fun t c => spine_transferQ m c.1 c.2 sd t) cs s

@[simp] theorem spine_netClose (m : Fin 9) (sd : Side) (s : State) : spine (netClose m sd s) = spine s := by
  unfold netClose
  dsimp only
  split
  all_goals simp

@[simp] theorem spine_demandClose (m : Fin 9) (flags t tariff len sub : Nat) (s : State) : spine (demandClose m flags t tariff len sub s) = spine s := by
  unfold demandClose
  extract_lets
  split
  · rfl
  · exact (spine_pulse _ _ _).trans rfl

@[simp] theorem spine_periodClose (m : Fin 9) (flags tOpen tClose : Nat) (s : State) : spine (periodClose m flags tOpen tClose s) = spine s := rfl

@[simp] theorem spine_dailyTake (m : Fin 9) (s : State) : spine (dailyTake m s) = spine s := by
  unfold dailyTake
  dsimp only
  repeat' split
  all_goals simp

@[simp] theorem spine_fenceTake (m : Fin 9) (s : State) : spine (fenceTake m s) = spine s := by
  unfold fenceTake
  dsimp only
  repeat' split
  all_goals rfl

@[simp] theorem spine_queueSession (n : Fin 8) (reason : EndReason) (flags tClose : Nat) (rest : Bool) (s : State) :
    spine (queueSession n reason flags tClose rest s) = spine s := by
  unfold queueSession
  dsimp only
  split
  all_goals simp

@[simp] theorem spine_sessionValues (n : Fin 8) (s : State) : spine (sessionValues n s) = spine s := by
  unfold sessionValues
  repeat' split
  all_goals simp

@[simp] theorem spine_runAct (m : Fin 9) (a : BAct) (s : State) : spine (runAct m a s) = spine s := by
  unfold runAct
  repeat' split
  all_goals simp [demandStart, sessionStart]

@[simp] theorem spine_boundary (m : Fin 9) (acts : List BAct) (s : State) : spine (boundary m acts s) = spine s := by
  have run : ∀ u, spine (acts.foldl (fun t a => runAct m a t) u) = spine u := foldl_keeps spine _ (fun t a => spine_runAct m a t) acts
  unfold boundary boundaryAt
  dsimp only
  split
  all_goals simp [run]

@[simp] theorem spine_boundaryAll (acts : List BAct) (s : State) : spine (boundaryAll acts s) = spine s := by
  refine foldl_keeps spine _ (fun t m => ?_) _ s
  split
  all_goals simp

@[simp] theorem spine_startWin (m : Fin 9) (s : State) : spine (startWin m s) = spine s := rfl

@[simp] theorem spine_startMeters (old s : State) : spine (startMeters old s) = spine s := by
  refine foldl_keeps spine _ (fun t m => ?_) _ s
  split
  all_goals simp

/-! ## Points (R16 to R19, R150, R160, R233 to R239) -/

@[simp] theorem spine_pilotNote_modPilot (n : Fin 8) (f : Pilot → Pilot) (s : State) : spine (pilotNote n (modPilot n f) s) = spine s := by
  unfold pilotNote
  dsimp only
  split
  all_goals simp

@[simp] theorem spine_e55 (n : Fin 8) (kind : Nat) (l : List (Nat × Nat)) (s : State) : spine (e55 n kind l s) = spine s := by simp [e55]

@[simp] theorem spine_setPhase (n : Fin 8) (p : HlcPhase) (s : State) : spine (setPhase n p s) = spine s := by
  unfold setPhase
  split
  all_goals simp

@[simp] theorem spine_chanOn (c : Fin 24) (duty : Nat) (s : State) : spine (chanOn c duty s) = spine s := by simp [chanOn]

@[simp] theorem spine_chanOff (c : Fin 24) (s : State) : spine (chanOff c s) = spine s := by simp [chanOff]

@[simp] theorem spine_followSig (n : Fin 8) (s : State) : spine (followSig n s) = spine s := by
  have one : ∀ t k, spine (followOne k t) = spine t := by
    intro t k
    unfold followOne
    dsimp only
    repeat' split
    all_goals simp
  unfold followSig
  split
  · exact foldl_keeps spine _ one _ s
  · exact one s n

@[simp] theorem spine_openCoil (n : Fin 8) (s : State) : spine (openCoil n s) = spine s := by
  unfold openCoil
  dsimp only
  repeat' split
  all_goals simp

@[simp] theorem spine_closeValues (n : Fin 8) (reason : EndReason) (flags : Nat) (s : State) : spine (closeValues n reason flags s) = spine s := by
  unfold closeValues
  split
  all_goals simp

@[simp] theorem spine_tryClose (n : Fin 8) (flags : Nat) (s : State) : spine (tryClose n flags s) = spine s := by
  unfold tryClose
  repeat' split
  all_goals simp

@[simp] theorem spine_closeWarm (n : Fin 8) (s : State) : spine (closeWarm n s) = spine s := by
  unfold closeWarm
  split
  all_goals simp

@[simp] theorem spine_markEnd (n : Fin 8) (reason : EndReason) (s : State) : spine (markEnd n reason s) = spine s := by
  unfold markEnd
  split
  all_goals simp

@[simp] theorem spine_weldPhase (n : Fin 8) (s : State) : spine (weldPhase n s) = spine s := by
  unfold weldPhase
  split
  all_goals simp

@[simp] theorem spine_leaveDc (n : Fin 8) (s : State) : spine (leaveDc n s) = spine s := by
  unfold leaveDc
  split
  all_goals simp

@[simp] theorem spine_endNow (n : Fin 8) (reason : EndReason) (s : State) : spine (endNow n reason s) = spine s := by
  unfold endNow
  split
  all_goals simp

@[simp] theorem spine_endSoft (n : Fin 8) (reason : EndReason) (s : State) : spine (endSoft n reason s) = spine s := by
  unfold endSoft
  split
  all_goals simp

@[simp] theorem spine_rampCheck (n : Fin 8) (s : State) : spine (rampCheck n s) = spine s := by
  unfold rampCheck
  dsimp only
  split
  all_goals simp

@[simp] theorem spine_setOos (n : Fin 8) (i : Nat) (s : State) : spine (setOos n i s) = spine s := by
  unfold setOos
  dsimp only
  split
  all_goals simp

@[simp] theorem spine_openSession (n : Fin 8) (s : State) : spine (openSession n s) = spine s := by
  unfold openSession
  dsimp only
  repeat' split
  all_goals simp

@[simp] theorem spine_ppGo (m : Fin 9) (st : PpState) (s : State) : spine (ppGo m st s) = spine s := by
  unfold ppGo
  dsimp only
  repeat' split
  all_goals simp

@[simp] theorem spine_sessionClosed (n : Fin 8) (s : State) : spine (sessionClosed n s) = spine s := by
  unfold sessionClosed
  dsimp only
  split
  all_goals simp

@[simp] theorem spine_retryOpen (s : State) : spine (retryOpen s) = spine s := by
  refine foldl_keeps spine _ (fun t n => ?_) _ s
  split
  all_goals simp

end Sys2Proof.Laws

namespace Sys2Proof.Laws

open Sys2Proof Sys2Proof.Machine

/-! ## Switch channels (R255, R268) -/

@[simp] theorem spine_followLimp (s : State) : spine (followLimp s) = spine s := by
  have drive : ∀ u, spine (lhDrive u) = spine u := by
    refine fun u => foldl_keeps spine _ (fun t c => ?_) _ u
    dsimp only
    repeat' split
    all_goals simp
  have noted (on : Bool) (p : List Byte) : spine (level 87 0 on p { s with sw.limp := on }) = spine s := by
    rw [spine_level _ _ _ _ _ (by decide)]; rfl
  unfold followLimp
  extract_lets on lv cz
  split
  · rfl
  · split
    · rw [drive]
      exact (spine_upd_sw _ _).trans (noted _ _)
    · exact noted _ _

/-! ## The window close (R71, R82 to R106, R119, R138) -/

@[simp] theorem spine_commitCopies (cs : List BlkCopy) (s : State) : spine (commitCopies cs s) = spine s := by
  rw [commitCopies_only]; rfl

@[simp] theorem spine_complete (f : Flight) (st : Nat) (pl : List Byte) (s : State) : spine (complete f st pl s) = spine s := by
  have kept : ∀ r, spine (keepReply f r (dropFlight f s)) = spine s := by
    intro r
    unfold keepReply
    dsimp only
    split
    all_goals rfl
  have sent : ∀ r u, spine (sendReply r u) = spine u := by
    intro r u
    unfold sendReply
    split
    all_goals rfl
  unfold complete
  dsimp only
  repeat' split
  all_goals simp [kept, sent]

@[simp] theorem spine_profileRun (t : Nat) (s : State) : spine (profileRun t s) = spine s := by
  have write : ∀ t b u, spine (profWrite t b u) = spine u := by
    intro t b u
    unfold profWrite
    dsimp only
    split
    all_goals rfl
  unfold profileRun
  dsimp only
  repeat' split
  · rfl
  · rfl
  · rfl
  · rw [spine_persist]
    exact foldl_keeps spine _ (fun u i => write _ _ u) _ s

@[simp] theorem spine_supplyExhausted (s : State) : spine (supplyExhausted s) = spine s := by
  have command : ∀ on u, spine (commandSupply on u) = spine u := by
    intro on u
    unfold commandSupply e39
    repeat' split
    all_goals simp
  have ended : spine ((points s).foldl (fun t n => endSoft n .supplyCredit t) s) = spine s :=
    foldl_keeps spine _ (fun t n => spine_endSoft n _ t) _ s
  unfold supplyExhausted
  dsimp only
  split
  all_goals simp [command, ended]

@[simp] theorem spine_prepay (m : Fin 9) (s : State) : spine (prepay m s) = spine s := by
  unfold prepay
  dsimp only
  repeat' split
  all_goals simp

@[simp] theorem spine_deliverSides (m : Fin 9) (qs : List ElemQ) (n flags a : Nat) (l : List (Side × SideSum)) (s : State) :
    spine (deliverSides m qs n flags a l s) = spine s := by
  have side : ∀ a sd u t, spine (deliverSide m qs n a flags sd u t) = spine t := by
    intro a sd u t
    have each (cs : Nat → List (Fin 12 × Nat)) (c : Nat → Bool) (v : State) (l : List Nat) :
        spine (l.foldl (fun t i => if c i then transfer m (cs i) sd t else t) v) = spine v := by
      refine foldl_keeps spine _ (fun t i => ?_) l v
      split
      all_goals simp
    unfold deliverSide
    dsimp only
    split
    · simp
    · split
      · simp
      · exact (each _ (fun i => (qs.getD i ⟨false, 0, 0, 0, 0⟩).counted) _ _).trans (spine_markFlags _ _ _ _)
  have acts (l : List BAct) (u : State) : spine (l.foldl (fun t a => runAct m a t) u) = spine u :=
    foldl_keeps spine _ (fun t a => spine_runAct m a t) l u
  induction l generalizing a s with
  | nil => rfl
  | cons x rest ih =>
    rw [deliverSides, ih, acts]
    split
    all_goals split
    all_goals simp [side]

@[simp] theorem spine_tamperSess (n : Fin 8) (s : State) : spine (tamperSess n s) = spine s := by
  unfold tamperSess
  split
  all_goals simp

@[simp] theorem spine_direction (m : Fin 9) (v : MtrVals) (w : WinSum) (s : State) : spine (direction m v w s) = spine s := by
  have classify : ∀ t u, spine (classify84 m t u) = spine u := by
    intro t u
    unfold classify84 e23
    repeat' split
    all_goals simp
  unfold direction
  dsimp only
  repeat' split
  all_goals simp [classify]

@[simp] theorem spine_findings (m : Fin 9) (v : MtrVals) (w : WinSum) (s : State) : spine (findings m v w s) = spine s := by
  have code : ∀ k, 8 ≤ (findEvent k).1 := by
    intro k
    unfold findEvent
    repeat' split
    all_goals decide
  have note : ∀ k on t u, spine (noteFind m k on v t u) = spine u := by
    intro k on t u
    unfold noteFind
    dsimp only
    repeat' split
    all_goals simp [code]
  unfold findings
  refine foldl_keeps spine _ (fun t k => ?_) _ s
  extract_lets
  split
  · rfl
  · exact (note _ _ _ _).trans rfl

@[simp] theorem spine_winDeliver (m : Fin 9) (t : Nat) (w : WinSum) (s : State) : spine (winDeliver m t w s) = spine s := by
  unfold winDeliver
  dsimp only
  repeat' split
  all_goals simp [followOver]

@[simp] theorem spine_applyMeterBlock (m : Fin 9) (t : Nat) (sd : Side) (s : State) : spine (applyMeterBlock m t sd s) = spine s := by
  have done : ∀ u, spine (energyDone t u) = spine u := by
    intro u
    unfold energyDone finish
    repeat' split
    all_goals simp
  unfold applyMeterBlock
  repeat' split
  all_goals simp [done]

@[simp] theorem spine_windowClose (m : Fin 9) (s : State) : spine (windowClose m s) = spine s := by
  have freq : ∀ u, spine (followFreq m u) = spine u := by
    intro u
    unfold followFreq
    dsimp only
    split
    all_goals simp
  simp [windowClose, windowCloseAt, profileFollow, nextWindow, freq]

/-! ## Grid boundaries and saving (R107, R112, R128, R129) -/

/-- The state in which boundary types fire: the first billing period opens at the first grid boundary (R112, R116). -/
def periodOpened (s : State) : State := if s.p100.perOpen = 0 then { s with p100.perOpen := now s } else s

/-- The boundary types fire in turn on the state with its billing period open. -/
theorem gridFire_eq (dur : Bool) (s : State) : gridFire dur s =
    if !s.clk.timeValid || (committed s 0x0343).isNone then (s, 0) else [0, 1, 2].foldl (fireType dur) (periodOpened s, 0) := rfl

@[simp] theorem spine_gridFire (dur : Bool) (s : State) : spine (gridFire dur s).1 = spine s := by
  have fired : ∀ b lab u, spine (setFired b lab u) = spine u := by
    intro b lab u
    unfold setFired
    rw [spine_persist]
    exact (spine_upd_p100 { u with tail.lastFired := vset u.p100.lastFired b lab } _).trans (spine_upd_tail u _)
  have demand : ∀ lab u, spine (fireDemand dur lab u) = spine u := by
    intro lab u
    unfold fireDemand
    dsimp only
    split
    all_goals simp
  have period : ∀ flags lab u, spine (firePeriod flags lab u) = spine u := by
    intro flags lab u
    unfold firePeriod
    exact (spine_upd_p100 _ _).trans ((spine_boundaryAll _ _).trans (spine_pulse _ _ _))
  have daily : ∀ lab u, spine (fireDaily dur lab u) = spine u := by
    intro lab u
    unfold fireDaily
    exact (spine_boundaryAll _ _).trans ((spine_upd_p100 _ _).trans (spine_pulse _ _ _))
  have fire : ∀ x b, spine (fireType dur x b).1 = spine x.1 := by
    intro x b
    unfold fireType
    dsimp only
    repeat' split
    all_goals simp [fired, demand, period, daily]
  have fires : ∀ u, spine ([0, 1, 2].foldl (fireType dur) (u, 0)).1 = spine u := by
    intro u
    rw [List.foldl_cons, List.foldl_cons, List.foldl_cons, List.foldl_nil, fire, fire, fire]
  have opened : spine (periodOpened s) = spine s := by
    unfold periodOpened
    split
    · exact spine_upd_p100 _ _
    · rfl
  rw [gridFire_eq]
  split
  · rfl
  · rw [fires, opened]

@[simp] theorem spine_tariffEval (s : State) : spine (tariffEval s) = spine s := by
  unfold tariffEval
  dsimp only
  split
  all_goals simp

@[simp] theorem spine_closeAll (s : State) : spine (closeAll s) = spine s := by
  unfold closeAll
  rw [foldl_keeps spine _ (fun t m => ?_)]
  · simp
  · split
    all_goals simp

@[simp] theorem spine_saveBoth (s : State) : spine (saveBoth s) = spine s :=
  (spine_upd_nvBill _ _ rfl).trans ((spine_persist _).trans rfl)

@[simp] theorem spine_saveSteps (s : State) : spine (saveSteps s) = spine s := by
  unfold saveSteps
  split
  all_goals simp

/-! ## The ledger (R140 to R145) -/

@[simp] theorem spine_slotAdvance (s : State) : spine (slotAdvance s) = spine s := by
  unfold slotAdvance dailyAdvance chainAdvance
  dsimp only
  repeat' split
  all_goals simp

@[simp] theorem spine_slotWrite (r : PendRec) (s : State) : spine (slotWrite r s) = spine s := rfl

@[simp] theorem spine_wrote (x : Option PendRec) (r : PendRec) (s : State) : spine (wrote x r s) = spine s := by
  have after : ∀ u, spine (afterWrite r u) = spine u := by
    intro u
    unfold afterWrite
    dsimp only
    repeat' split
    all_goals simp
  unfold wrote recWrite
  dsimp only
  split
  all_goals simp [after]

@[simp] theorem spine_ledgerWrite (done : Bool) (s : State) : spine (ledgerWrite done s) = spine s := by
  unfold ledgerWrite recWrite
  repeat' split
  all_goals simp

@[simp] theorem spine_writeAll (k : Nat) (s : State) : spine (writeAll k s) = spine s := by
  induction k generalizing s with
  | zero => rfl
  | succ k ih =>
    rw [writeAll]
    split
    all_goals simp [ih]

/-! ## The display and the device safe state (R231, R347) -/

@[simp] theorem spine_dspWarn (s : State) : spine (dspWarn s) = spine s := by
  have discharged : ∀ u, spine (discharge u) = spine u := by
    intro u
    unfold discharge
    split
    all_goals simp
  have rise : ∀ l u, spine (riseDrive l u) = spine u := by
    intro l u
    unfold riseDrive
    exact foldl_keeps spine _ (fun t k => spine_modNvDsp _ t) l u
  unfold dspWarn
  dsimp only
  split
  all_goals simp [discharged, rise]

@[simp] theorem spine_dspPersist (s : State) : spine (dspPersist s) = spine s := by
  have imbal : ∀ l u, spine (setImbal l u) = spine u := by
    refine fun l u => foldl_keeps spine _ (fun t x => ?_) l u
    dsimp only
    split
    all_goals simp
  unfold dspPersist
  split
  all_goals simp [imbal]

/-- Entering the device safe state sets it in the safety pair and leaves the rest of the spine (R231). -/
theorem spine_enterSafe (kind item : Nat) (s : State) (h : s.safeDev.safeState = false) :
    spine (enterSafe kind item s) = spine { s with safeDev := { s.safeDev with safeState := true, safeAt := s.clk.mono } } := by
  have point : ∀ t n, spine (pointSafe n t) = spine t := by
    intro t n
    unfold pointSafe cutLow
    dsimp only
    split
    all_goals simp
  have coils : ∀ u, spine (coilsOff u) = spine u := by
    intro u
    unfold coilsOff
    rw [foldl_keeps spine _ (fun t c => ?_)]
    · rfl
    · split
      all_goals simp
  unfold enterSafe
  rw [if_neg (by simp [h]), coils, foldl_keeps spine _ point, spine_pulse]
  rfl

end Sys2Proof.Laws

namespace Sys2Proof.Laws

open Sys2Proof Sys2Proof.Machine

/-! ## Events as they come and go (R401) -/

/-- Limits of the ledger change E41 alone among the active bits (R142, R145). -/
theorem ledgerLimits_active (s : State) (a : Nat × Nat) (h : a ≠ (41, 0)) : a ∈ (ledgerLimits s).ev.active ↔ a ∈ s.ev.active := by
  have low (t : State) (on : Bool) : a ∈ (if on == t.led.low then t else deliver 41 on [] { t with
      led.low := on
      ev.active := if on then (41, 0) :: t.ev.active else t.ev.active.filter (· ≠ (41, 0)) }).ev.active ↔ a ∈ t.ev.active := by
    split
    · rfl
    · cases on <;> simp [h]
  have refuse (c : Bool) : (if c then deliver 42 true [] { s with led.refusing := true }
      else { s with led.refusing := sessionsRefused s }).ev.active = s.ev.active := by
    split
    · exact deliver_active _ _ _ _
    · rfl
  unfold ledgerLimits
  dsimp only
  exact (low _ _).trans (by rw [refuse])

theorem queueRec_active (r : PendRec) (s : State) (a : Nat × Nat) (h : a ≠ (41, 0)) : a ∈ (queueRec r s).ev.active ↔ a ∈ s.ev.active := by
  unfold queueRec
  dsimp only
  repeat' split
  all_goals simp [ledgerLimits_active _ a h, dropRec]

/-- An occurrence leaves the active bits but for E41. -/
theorem occur_active (ev : Nat) (lvl : Bool) (p : List Byte) (s : State) (a : Nat × Nat) (h : a ≠ (41, 0)) :
    a ∈ (occur ev lvl p s).ev.active ↔ a ∈ s.ev.active := by
  unfold occur legalRecord
  dsimp only
  repeat' split
  all_goals simp [queueRec_active _ _ a h]

/-- After a level event its condition is active exactly when it holds. -/
theorem level_active (ev key : Nat) (on : Bool) (p : List Byte) (s : State) (h : (ev, key) ≠ (41, 0)) :
    (ev, key) ∈ (level ev key on p s).ev.active ↔ on = true := by
  unfold level
  split
  · rename_i hc
    simpa using congrArg (· = true) (eq_of_beq hc)
  · rw [occur_active _ _ _ _ _ h]
    cases on <;> simp

/-- A level event leaves every other active bit but E41. -/
theorem level_active_other (ev key : Nat) (on : Bool) (p : List Byte) (s : State) (a : Nat × Nat) (h : a ≠ (41, 0)) (ha : a ≠ (ev, key)) :
    a ∈ (level ev key on p s).ev.active ↔ a ∈ s.ev.active := by
  unfold level
  split
  · rfl
  · rw [occur_active _ _ _ _ _ h]
    cases on <;> simp [ha]

/-! ## Power-fail warning (R129, R438 to R440) -/

theorem powerFailWarning_eq (mv us : Nat) (s : State) :
    exec (.powerFailWarning mv us) s = .next (if s.pwr.vsysValid = true ∧ mv < 17000 ∧ 20 ≤ us
      then powerFail 2 { s with pwr.vsysMv := mv } else { s with pwr.vsysMv := mv }) := by
  show execPowerFailWarning mv us s = _
  simp [execPowerFailWarning, and_assoc]

/-- A sample of PFW_N warns exactly at the third low one of an armed and enabled source (R438). -/
theorem pfwNSample_low_eq (s : State) :
    let lo := { s with pwr.pfwnLevel := false, pwr.pfwnHigh := 0, pwr.pfwnLow := min 3 (s.pwr.pfwnLow + 1) }
    exec (.pfwNSample false) s =
      .next (if 2 ≤ s.pwr.pfwnLow ∧ s.pwr.pfwnArmed = true ∧ pfwnEn (pwrB s) = true then powerFail 0 lo else lo) := by
  show execPfwNSample false s = _
  have third : (min 3 (s.pwr.pfwnLow + 1) == 3) = decide (2 ≤ s.pwr.pfwnLow) := by
    rw [Bool.eq_iff_iff]; simp
  simp only [execPfwNSample, Bool.false_eq_true, if_false, third, Bool.and_eq_true, decide_eq_true_eq]
  simp [and_assoc]
  rfl

theorem powerFail_idle (src : Nat) (s : State) (hb : s.pwr.phase ≠ .boot) (hr : s.pwr.phase ≠ .run) : powerFail src s = s := by
  unfold powerFail
  split
  · contradiction
  · contradiction
  · rfl

/-- Before metering is valid a warning saves nothing and puts the outputs off (R440). -/
theorem powerFail_early (src : Nat) (s : State) (h : s.pwr.phase = .boot ∨ (s.pwr.phase = .run ∧ s.fe.valid = false)) :
    powerFail src s = e0 src true
      { outputsOff { s with pwr.pfwSrc := some src, pwr.pfwAt := s.clk.mono } with pwr.phase := .pfwWait, pwr.pfwEndAt := s.clk.mono } := by
  rcases h with h | ⟨h, hv⟩
  · simp only [powerFail, h]
  · simp [powerFail, h, hv]

/-- The state in which the sequence of R129 begins: the source and time of the warning, and E0. -/
def seqBegun (src : Nat) (s : State) : State :=
  e0 src true { s with pwr := { s.pwr with pfwSrc := some src, pfwAt := s.clk.mono, phase := .pfwSeq } }

/-- A warning of a running device: steps 1 to 4 of R129. -/
theorem powerFail_run (src : Nat) (s : State) (h : s.pwr.phase = .run) (hv : s.fe.valid = true) :
    powerFail src s = dspWarn (persist (writeAll 66 (stopLocks (queueRec (failRecord src (saveSteps (seqBegun src s)))
      { saveSteps (seqBegun src s) with nvBill.warned := some (now (saveSteps (seqBegun src s)), src) })))) := by
  simp [powerFail, h, hv, seqBegun]

/-- A warning cuts the display sequence (R347). -/
theorem dspWarn_run (s : State) : (dspWarn s).dsp.run = none := by
  have dis : ∀ u, (discharge u).dsp.run = u.dsp.run := by
    intro u
    unfold discharge
    split
    all_goals rfl
  have rise : ∀ l u, (riseDrive l u).dsp = u.dsp := by
    intro l u
    unfold riseDrive
    exact foldl_keeps State.dsp _ (fun t k => modNvDsp_dsp _ t) l u
  unfold dspWarn
  dsimp only
  split
  · simp [dis, rise]
  · simpa [dis]

/-- The spine after the warning of a running device. -/
theorem spine_powerFail (src : Nat) (s : State) (h : s.pwr.phase = .run) (hv : s.fe.valid = true) :
    spine (powerFail src s) = spine { seqBegun src s with nvBill.warned := some (s.clk.time, src) } := by
  have clock : now (saveSteps (seqBegun src s)) = s.clk.time :=
    (of_spine (fun t => t.clk.time) (fun _ => rfl) (spine_saveSteps _)).trans (by simp [seqBegun, e0])
  have kept : ∀ x, spine { saveSteps (seqBegun src s) with nvBill.warned := x } = spine { seqBegun src s with nvBill.warned := x } :=
    fun x => congrArg (fun u : State => { u with nvBill := { warned := x } }) (spine_saveSteps (seqBegun src s))
  have locks : ∀ u, spine (stopLocks u) = spine u := fun _ => rfl
  rw [powerFail_run src s h hv, spine_dspWarn, spine_persist, spine_writeAll, locks, spine_queueRec, clock, kept]

/-! ## The sequence's steps and its end (R129, R439) -/

theorem pfwStop_idle (s : State) (h : ¬ (s.pwr.phase = .pfwSeq ∧ s.pwr.pfwAt + 8000 ≤ s.clk.mono)) : exec .pfwStop s = .next s := by
  show execPfwStop s = _
  simp [execPfwStop, elapsed, h]

@[simp] theorem vget_map {α β : Type} {n : Nat} (f : α → β) (v : Vector α n) (i : Fin n) : vget (v.map f) i = f (vget v i) := by
  simp [vget]

/-- 8 ms after the warning every path, channel and lock bridge is off and every pilot is to be at F (R129 step 5, R439). -/
theorem pfwStop_stops (s : State) (h : s.pwr.phase = .pfwSeq ∧ s.pwr.pfwAt + 8000 ≤ s.clk.mono) :
    ∃ t, exec .pfwStop s = .next t ∧ t.pwr.phase = .pfwWait ∧ t.fe.valid = false ∧ t.pwr.pfwEndAt = s.clk.mono ∧
      (∀ n, PathsOff t n) ∧ (∀ n, wantOut t n = .F) ∧ (∀ c, (vget t.sw.ch c).st = .off) ∧ (∀ n, (vget t.sw.lk n).drive = 0) := by
  let u := dspPersist (saveBoth (closeAll s))
  have clock : u.clk.mono = s.clk.mono :=
    of_spine (fun t => t.clk.mono) (fun _ => rfl) (by rw [spine_dspPersist, spine_saveBoth, spine_closeAll])
  refine ⟨outputsOff { u with fe.valid := false, pwr.phase := .pfwWait, pwr.pfwEndAt := u.clk.mono }, ?_, rfl, rfl, clock, ?_⟩
  · show execPfwStop s = _
    simp [execPfwStop, elapsed, h, u]
  · refine ⟨fun n => ?_, fun n => ?_, fun c => ?_, fun n => ?_⟩
    · simp [PathsOff, outputsOff, saf]
    · have forced : forcedF (outputsOff { u with fe.valid := false, pwr.phase := .pfwWait, pwr.pfwEndAt := u.clk.mono }) n = true := by
        simp [forcedF, outputsOff]
      simp [wantOut, forced]
    · simp [outputsOff]
    · simp [outputsOff]

theorem pfwRecovered_resets (s : State) (hp : s.pwr.phase = .pfwWait) (hv : s.pwr.vsysValid = true)
    (ht : s.pwr.pfwEndAt + 1000 ≤ s.clk.mono) : exec .pfwRecovered s = .next (coldReset 0 2 s) := by
  show execPfwRecovered s = _
  simp [execPfwRecovered, elapsed, hp, hv, ht]

theorem pfwRecovered_waits (s : State)
    (h : s.pwr.phase ≠ .pfwWait ∨ s.pwr.vsysValid = false ∨ s.clk.mono < s.pwr.pfwEndAt + 1000) : exec .pfwRecovered s = .next s := by
  show execPfwRecovered s = _
  have : ¬ (s.pwr.phase = .pfwWait ∧ s.pwr.vsysValid = true ∧ s.pwr.pfwEndAt + 1000 ≤ s.clk.mono) := by
    rintro ⟨hp, hv, ht⟩
    rcases h with h | h | h
    · exact h hp
    · simp [h] at hv
    · omega
  simp [execPfwRecovered, elapsed, and_assoc, this]

theorem pfwWithdrawn_idle (s : State) (hs : s.pwr.phase ≠ .pfwSeq) (hw : s.pwr.phase ≠ .pfwWait) : exec .pfwWithdrawn s = .next s := by
  show execPfwWithdrawn s = _
  simp [execPfwWithdrawn, hs, hw]

/-- A warning withdrawn clears E0 (R439). -/
theorem pfwWithdrawn_clears (s : State) (h : s.pwr.phase = .pfwSeq ∨ s.pwr.phase = .pfwWait) :
    ∃ t, exec .pfwWithdrawn s = .next t ∧ t = e0 (s.pwr.pfwSrc.getD 0) false s ∧ OnlyEvents s t ∧ (0, 0) ∉ t.ev.active := by
  refine ⟨_, ?_, rfl, level_only _ _ _ _ _, ?_⟩
  · show execPfwWithdrawn s = _
    simp [execPfwWithdrawn, h]
  · simp [e0, level_active]

/-! ## Power states (R441 to R445) -/

theorem enterIdle_down (s : State) (h : appUp s = false) : exec .enterIdle s = .next s := by
  show execEnterIdle s = _
  simp [execEnterIdle, h]

theorem enterIdle_up (s : State) (h : appUp s = true) :
    let u := { s with pwr.aTask := false }
    exec .enterIdle s = .next (if s.pwr.pstate = .run ∧ 1 ≤ allowedState u then
      pulse 3 (prm [(1, 1), (1, 0), (1, 0xFF)]) { u with pwr.pstate := .idle, pwr.allowedSince := none } else u) := by
  intro u
  show execEnterIdle s = _
  have go (hr : s.pwr.pstate = .run) : goPstate .idle 0xFF u =
      pulse 3 (prm [(1, 1), (1, 0), (1, 0xFF)]) { u with pwr.pstate := .idle, pwr.allowedSince := none } := by
    have hu : u.pwr.pstate = .run := hr
    simp [goPstate, hu, pstCode]
  simp only [execEnterIdle, h, Bool.not_true, Bool.false_eq_true, if_false]
  by_cases hr : s.pwr.pstate = .run ∧ 1 ≤ allowedState u
  · rw [if_pos (by simpa using hr), if_pos hr]
    exact congrArg _ (go hr.1)
  · rw [if_neg (by simpa using hr), if_neg hr]

/-- The power state with the code of `pstOf`. -/
theorem pstCode_pstOf (k : Nat) (h : k ≤ 3) : pstCode (pstOf k) = k := by
  interval_cases k <;> rfl

theorem allowedState_le (s : State) : allowedState s ≤ 3 := by
  have : latFloor s ≤ 3 := by
    unfold latFloor
    dsimp only
    repeat' split
    all_goals omega
  exact (min_le_left _ _).trans this

/-- A change of the power state is to the state asked for. -/
theorem goPstate_pstate (st : PState) (src : Nat) (s : State) : (goPstate st src s).pwr.pstate = st := by
  unfold goPstate
  split
  · assumption
  · simp

theorem wake_pstate (src : Nat) (s : State) : (wake src s).pwr.pstate = .run := by
  unfold wake
  split
  · assumption
  · exact goPstate_pstate _ _ _

theorem powerStateDescend_idle (s : State) (h : ¬ (appUp s = true ∧ 2 ≤ allowedState s ∧ pstCode s.pwr.pstate < allowedState s ∧
    heldFor s s.pwr.allowedSince (descendT (pwrB s) * 1000) = true)) : exec .powerStateDescend s = .next s := by
  show execPowerStateDescend s = _
  simp only [execPowerStateDescend, Bool.and_eq_true, decide_eq_true_eq, and_assoc, if_neg h]

theorem powerStateDescend_goes (s : State) (h : appUp s = true ∧ 2 ≤ allowedState s ∧ pstCode s.pwr.pstate < allowedState s ∧
    heldFor s s.pwr.allowedSince (descendT (pwrB s) * 1000) = true) :
    ∃ t, exec .powerStateDescend s = .next t ∧ t = goPstate (pstOf (allowedState s)) 0xFF s ∧ pstCode t.pwr.pstate = allowedState s := by
  refine ⟨_, ?_, rfl, ?_⟩
  · show execPowerStateDescend s = _
    simp only [execPowerStateDescend, Bool.and_eq_true, decide_eq_true_eq, and_assoc, if_pos h]
  · rw [goPstate_pstate, pstCode_pstOf _ (allowedState_le s)]

theorem powerStateWake_off (src : Nat) (s : State) (h : gridRuns s = false) : exec (.powerStateWake src) s = .next s := by
  show execPowerStateWake src s = _
  simp [execPowerStateWake, h]

theorem powerStateWake_wakes (src : Nat) (s : State) (h : gridRuns s = true) (hs : src ≠ 4) :
    ∃ t, exec (.powerStateWake src) s = .next t ∧ t = wake src s ∧ t.pwr.pstate = .run := by
  refine ⟨_, ?_, rfl, wake_pstate src s⟩
  show execPowerStateWake src s = _
  simp [execPowerStateWake, h, hs]

/-- A timer of P0, P1 or K brings a device in WATCH to DOZE (R443, R444). -/
theorem powerStateWake_timer (s : State) (h : gridRuns s = true) :
    ∃ t, exec (.powerStateWake 4) s = .next t ∧ t.pwr.timerDue = true ∧
      t.pwr.pstate = (if s.pwr.pstate = .watch then .doze else s.pwr.pstate) := by
  refine ⟨wakeFor 11 4 { s with pwr.timerDue := true }, ?_, ?_⟩
  · show execPowerStateWake 4 s = _
    simp [execPowerStateWake, h]
  · by_cases hw : s.pwr.pstate = .watch
    · simp [wakeFor, within, hw, goPstate]
    · simp [wakeFor, within, hw]

/-! ## Supplies, clocks and temperature (R436, R455 to R459, R465) -/

theorem vbatLow_off (mv : Nat) (s : State) (h : s.pwr.vsysValid = false) :
    exec (.vbatLow mv) s = .next { s with pwr.vbatMv := mv, pwr.vbatLow := decide (mv < 2600) } := by
  show execVbatLow mv s = _
  simp [execVbatLow, h]

theorem vbatLow_reports (mv : Nat) (s : State) (h : s.pwr.vsysValid = true) :
    let u := { s with pwr.vbatMv := mv, pwr.vbatLow := decide (mv < 2600) }
    ∃ t, exec (.vbatLow mv) s = .next t ∧ OnlyEvents u t ∧ ((4, 0) ∈ t.ev.active ↔ mv < 2600) := by
  refine ⟨_, ?_, level_only 4 0 (decide (mv < 2600)) (prm [(1, 0), (2, mv)]) _, ?_⟩
  · show execVbatLow mv s = _
    simp [execVbatLow, h]
  · rw [level_active _ _ _ _ _ (by decide), decide_eq_true_eq]

/-- A fault bit is set in the clock faults as in any other list of units. -/
theorem vatMod_eq_vset {α : Type} {n : Nat} (v : Vector α n) (i : Fin n) (x : α) : (vatMod v i.1 fun _ => x) = vset v i x := by
  simp [vatMod, vset]

theorem quiet_e6 (k : Nat) (on : Bool) (s : State) :
    quiet (e6 k on s) = quiet { s with pwr.clkFault := vatMod s.pwr.clkFault k fun _ => on } := quiet_level _ _ _ _ _

theorem quiet_e4Rtc (on : Bool) (s : State) : quiet (e4Rtc on s) = quiet { s with tail.rtcLoss := on } := quiet_level _ _ _ _ _

theorem rtcCorrection_idle (s : State) (h : gridRuns s = false ∨ s.clk.timeValid = false) : exec .rtcCorrection s = .next s := by
  show execRtcCorrection s = _
  have : (!gridRuns s || !s.clk.timeValid) = true := by rcases h with h | h <;> simp [h]
  simp [execRtcCorrection, this]

/-- The RTC takes the device time, and RTC_LOSS clears with its E4 while the RTC's clock is sound (R455, R457). -/
theorem rtcCorrection_corrects (s : State) (hg : gridRuns s = true) (hv : s.clk.timeValid = true) :
    ∃ t, exec .rtcCorrection s = .next t ∧
      t = { s with tail := { s.tail with rtc := s.clk.time, rtcLoss := s.tail.rtcLoss && vget s.pwr.clkFault 5 }
                   ev := t.ev, led := t.led, p100 := t.p100 } ∧ (vget s.pwr.clkFault 5 = false → (4, 1) ∉ t.ev.active) := by
  cases hf : vget s.pwr.clkFault 5 with
  | true =>
    refine ⟨{ s with tail.rtc := now s }, ?_, by simp [now], by simp⟩
    show execRtcCorrection s = _
    simp [execRtcCorrection, hg, hv, hf]
  | false =>
    refine ⟨e4Rtc false { s with tail.rtc := now s }, ?_, ?_, fun _ => ?_⟩
    · show execRtcCorrection s = _
      simp [execRtcCorrection, hg, hv, hf]
    · rw [Bool.and_false]
      exact onlyEvents_of_quiet { s with tail := { s.tail with rtc := s.clk.time, rtcLoss := false } } _ (quiet_e4Rtc _ _)
    · simp [e4Rtc, level_active]

theorem clockMonitor_off (nfc rtc : Bool) (s : State) (h : gridRuns s = false) : exec (.clockMonitor nfc rtc) s = .next s := by
  show execClockMonitor nfc rtc s = _
  simp [execClockMonitor, h]

/-- The two watched clocks' faults are followed with E6, and a fault of the RTC's clock loses the RTC (R459). -/
theorem clockMonitor_follows (nfc rtc : Bool) (s : State) (h : gridRuns s = true) :
    ∃ t, exec (.clockMonitor nfc rtc) s = .next t ∧
      t = { s with pwr := { s.pwr with clkFault := vset (vset s.pwr.clkFault 4 nfc) 5 rtc }
                   tail := { s.tail with rtcLoss := s.tail.rtcLoss || rtc }, ev := t.ev, led := t.led, p100 := t.p100 } ∧
      ((6, 4) ∈ t.ev.active ↔ nfc = true) ∧ ((6, 5) ∈ t.ev.active ↔ rtc = true) ∧ (rtc = true → (4, 1) ∈ t.ev.active) := by
  let u := e6 5 rtc (e6 4 nfc s)
  have hu : quiet u = quiet { s with pwr.clkFault := vset (vset s.pwr.clkFault 4 nfc) 5 rtc } := by
    have first := congrArg (fun v : State => { v with pwr.clkFault := vatMod v.pwr.clkFault 5 fun _ => rtc }) (quiet_e6 4 nfc s)
    refine (quiet_e6 5 rtc _).trans (first.trans ?_)
    rw [← vatMod_eq_vset, ← vatMod_eq_vset]
    rfl
  have h4 : (6, 4) ∈ u.ev.active ↔ nfc = true :=
    (level_active_other 6 5 rtc _ _ (6, 4) (by decide) (by decide)).trans (level_active 6 4 nfc _ _ (by decide))
  have h5 : (6, 5) ∈ u.ev.active ↔ rtc = true := level_active 6 5 rtc _ _ (by decide)
  cases rtc with
  | false =>
    refine ⟨u, ?_, ?_, h4, h5, by simp⟩
    · show execClockMonitor nfc false s = _
      simp [execClockMonitor, h, u]
    · rw [Bool.or_false]
      exact onlyEvents_of_quiet { s with pwr.clkFault := vset (vset s.pwr.clkFault 4 nfc) 5 false } u hu
  | true =>
    refine ⟨e4Rtc true u, ?_, ?_, ?_, ?_, fun _ => ?_⟩
    · show execClockMonitor nfc true s = _
      simp [execClockMonitor, h, u]
    · have lost := congrArg (fun v : State => { v with tail.rtcLoss := true }) hu
      rw [Bool.or_true]
      exact onlyEvents_of_quiet { s with pwr.clkFault := vset (vset s.pwr.clkFault 4 nfc) 5 true, tail.rtcLoss := true } _
        ((quiet_e4Rtc true u).trans lost)
    · exact (level_active_other 4 1 true _ _ (6, 4) (by decide) (by decide)).trans h4
    · exact (level_active_other 4 1 true _ _ (6, 5) (by decide) (by decide)).trans h5
    · simp [e4Rtc, level_active]

theorem mainClockFail_off (pll : Bool) (s : State) (h : gridRuns s = false) : exec (.mainClockFail pll) s = .next s := by
  show execMainClockFail pll s = _
  simp [execMainClockFail, h]

/-- Entering the safe state leaves the front end and the active bits of the events 0 to 7 (R231). -/
theorem enterSafe_keeps (kind item : Nat) (s : State) :
    (enterSafe kind item s).fe = s.fe ∧ (enterSafe kind item s).safeDev.safeState = true ∧
      ∀ a : Nat × Nat, a.1 < 8 → (a ∈ (enterSafe kind item s).ev.active ↔ a ∈ s.ev.active) := by
  cases h : s.safeDev.safeState with
  | true =>
    have same : enterSafe kind item s = s := by simp [enterSafe, h]
    simp [same, h]
  | false =>
    have hs := spine_enterSafe kind item s h
    have fe := of_spine State.fe (fun _ => rfl) hs
    have safeState := of_spine (fun t => t.safeDev.safeState) (fun _ => rfl) hs
    exact ⟨fe, safeState, fun a ha => mem_active_of_spine hs a ha⟩

/-- A failure of the main clock makes metering invalid and brings the device safe state, with E6 (R459). -/
theorem mainClockFail_stops (pll : Bool) (s : State) (h : gridRuns s = true) :
    ∃ t, exec (.mainClockFail pll) s = .next t ∧ t = enterSafe 5 0 (e6 (b2n pll) true { s with fe.valid := false }) ∧
      t.fe.valid = false ∧ t.safeDev.safeState = true ∧ (6, b2n pll) ∈ t.ev.active := by
  obtain ⟨fe, safeState, active⟩ := enterSafe_keeps 5 0 (e6 (b2n pll) true { s with fe.valid := false })
  refine ⟨_, ?_, rfl, ?_, safeState, ?_⟩
  · show execMainClockFail pll s = _
    simp [execMainClockFail, h]
  · rw [fe]; simp [e6]
  · rw [active _ (by simp)]
    simp [e6, level_active]

theorem pllLockLoss_off (app lost : Bool) (s : State) (h : gridRuns s = false) : exec (.pllLockLoss app lost) s = .next s := by
  show execPllLockLoss app lost s = _
  simp [execPllLockLoss, h]

/-- A PLL that loses lock asks for a warm reset, and one that locks again clears its E6 (R459). -/
theorem pllLockLoss_follows (app : Bool) (s : State) (h : gridRuns s = true) :
    exec (.pllLockLoss app true) s = .next (reqWarm 9 (e6 (2 + b2n app) true s)) ∧
      ∃ t, exec (.pllLockLoss app false) s = .next t ∧ t = e6 (2 + b2n app) false s ∧ (6, 2 + b2n app) ∉ t.ev.active := by
  refine ⟨?_, _, ?_, rfl, ?_⟩
  · show execPllLockLoss app true s = _
    simp [execPllLockLoss, h]
  · show execPllLockLoss app false s = _
    simp [execPllLockLoss, h]
  · simp [e6, level_active]

theorem dieTempWarning_keeps (temp : Int) (s : State) (h : gridRuns s = false ∨ (10500 ≤ temp ∧ temp < 11500)) :
    exec (.dieTempWarning temp) s = .next { s with pwr.dieTemp := temp } := by
  show execDieTempWarning temp s = _
  have grid : gridRuns { s with pwr.dieTemp := temp } = gridRuns s := rfl
  rcases h with h | ⟨hl, hh⟩
  · simp [execDieTempWarning, grid, h]
  · simp [execDieTempWarning, show ¬ 11500 ≤ temp by omega, show ¬ temp < 10500 by omega]

/-- E5 is set from 115 °C on and cleared below 105 °C (R465). -/
theorem dieTempWarning_follows (temp : Int) (s : State) (h : gridRuns s = true) :
    let u := { s with pwr.dieTemp := temp }
    (11500 ≤ temp → ∃ t, exec (.dieTempWarning temp) s = .next t ∧ OnlyEvents u t ∧ (5, 0) ∈ t.ev.active) ∧
      (temp < 10500 → ∃ t, exec (.dieTempWarning temp) s = .next t ∧ OnlyEvents u t ∧ (5, 0) ∉ t.ev.active) := by
  have grid : gridRuns { s with pwr.dieTemp := temp } = true := h
  refine ⟨fun ht => ⟨_, ?_, level_only 5 0 true (prm [(2, i2n 2 temp)]) _, ?_⟩,
    fun ht => ⟨_, ?_, level_only 5 0 false (prm [(2, i2n 2 temp)]) _, ?_⟩⟩
  · show execDieTempWarning temp s = _
    simp [execDieTempWarning, grid, ht]
  · simp [level_active]
  · show execDieTempWarning temp s = _
    simp [execDieTempWarning, grid, show ¬ 11500 ≤ temp by omega, ht]
  · simp [level_active]

/-! ## The MRAM and the cover (R12, R136, R148, R482) -/

/-- The last number below `n` that passes a test closes the list of those that pass it. -/
theorem getLastD_filter_range (p : Nat → Bool) (k n : Nat) (hk : k < n) (hp : p k = true) (hn : ∀ j, k < j → j < n → p j = false) :
    ((List.range n).filter p).getLastD 0 = k := by
  induction n with
  | zero => omega
  | succ n ih =>
    rw [List.range_succ, List.filter_append]
    rcases Nat.lt_succ_iff_lt_or_eq.1 hk with h | rfl
    · simpa [hn n h (by omega)] using ih h fun j hj hl => hn j hj (by omega)
    · simp [hp]

/-- The partition of an address is the greatest that begins at or before it (R12). -/
theorem mramPart_eq (a : Nat) : mramPart a = Nat.findGreatest (fun p => mramStart p ≤ a) 11 := by
  have le := Nat.findGreatest_le (P := fun p => mramStart p ≤ a) 11
  have begun : mramStart (Nat.findGreatest (fun p => mramStart p ≤ a) 11) ≤ a :=
    Nat.findGreatest_spec (P := fun p => mramStart p ≤ a) (Nat.zero_le 11) (by simp [mramStart])
  unfold mramPart
  apply getLastD_filter_range
  · exact Nat.lt_succ_of_le le
  · exact decide_eq_true begun
  · intro j hj hl
    have last : j < 12 := hl
    exact decide_eq_false (Nat.findGreatest_is_greatest (P := fun p => mramStart p ≤ a) hj (Nat.le_of_lt_succ last))

/-- Every address of the 128 MiB lies in the partition found for it (R12). -/
theorem mramPart_spec (a : Nat) (h : a < 2 ^ 27) : mramPart a < 12 ∧ mramStart (mramPart a) ≤ a ∧ a < mramStart (mramPart a + 1) := by
  have hz : mramStart 0 ≤ a := by simp [mramStart]
  have le : mramPart a ≤ 11 := by rw [mramPart_eq]; exact Nat.findGreatest_le 11
  refine ⟨by omega, ?_, ?_⟩
  · rw [mramPart_eq]
    exact Nat.findGreatest_spec (P := fun p => mramStart p ≤ a) (Nat.zero_le 11) hz
  · by_contra hc
    rcases Nat.lt_or_ge (mramPart a) 11 with hl | hl
    · rw [mramPart_eq] at hc hl
      exact Nat.findGreatest_is_greatest (P := fun p => mramStart p ≤ a) (Nat.lt_succ_self _) hl (not_lt.1 hc)
    · have size : mramStart 12 = 2 ^ 27 := by decide
      rw [show mramPart a + 1 = 12 by omega, size] at hc
      exact hc h

theorem mramScrub_idle (w : Nat) (s : State) : exec (.mramScrub w false) s = .next s := by
  show execMramScrub w false s = _
  simp [execMramScrub]

theorem mramScrub_outside (w : Nat) (s : State) (h : 2 ^ 24 ≤ w ∨ (gridRuns s = false ∧ s.pwr.phase ≠ .pfwWait)) :
    exec (.mramScrub w true) s = .next s := by
  show execMramScrub w true s = _
  have : (!true || decide (2 ^ 24 ≤ w) || !(gridRuns s || s.pwr.phase == .pfwWait)) = true := by
    rcases h with h | ⟨hg, hp⟩
    · rw [decide_eq_true h, Bool.or_true, Bool.true_or]
    · simp [hg, hp]
  simp only [execMramScrub, this, if_true]

/-- What an uncorrectable word brings, by its partition (R12, R148, R410). -/
theorem mramScrub_bad (w : Nat) (s : State) (hw : w < 2 ^ 24) (h : gridRuns s = true ∨ s.pwr.phase = .pfwWait) :
    let part := mramPart (8 * w)
    let u := pulse 7 (prm [(1, part), (4, w)]) { s with pwr.e7Raised := true }
    (part = 4 → exec (.mramScrub w true) s = .next (pulse 45 [] s)) ∧
      (part = 9 → exec (.mramScrub w true) s = .next { u with nvDsp.lastBad := true }) ∧
      (part = 6 → 8 * w < mramStart 6 + 2 ^ 19 →
        exec (.mramScrub w true) s = .next (blobCopyBad ((8 * w - mramStart 6) / 128) u)) ∧
      (part ≠ 4 → part ≠ 9 → part ≠ 6 ∨ mramStart 6 + 2 ^ 19 ≤ 8 * w → exec (.mramScrub w true) s = .next u) := by
  intro part u
  have reads : (!true || decide (2 ^ 24 ≤ w) || !(gridRuns s || s.pwr.phase == .pfwWait)) = false := by
    rw [decide_eq_false (not_le.2 hw)]
    rcases h with h | h
    · simp [h]
    · simp [h]
  have run : exec (.mramScrub w true) s = .next (if part = 4 then pulse 45 [] s
      else if part = 9 then { u with nvDsp.lastBad := true }
      else if part = 6 ∧ 8 * w < mramStart 6 + 2 ^ 19 then blobCopyBad ((8 * w - mramStart 6) / 128) u else u) := by
    show execMramScrub w true s = _
    simp only [execMramScrub, reads, Bool.false_eq_true, if_false]
    rfl
  rw [run]
  refine ⟨fun h4 => ?_, fun h9 => ?_, fun h6 hlow => ?_, fun h4 h9 h6 => ?_⟩
  · rw [if_pos h4]
  · rw [if_neg (by omega), if_pos h9]
  · rw [if_neg (by omega), if_neg (by omega), if_pos ⟨h6, hlow⟩]
  · rw [if_neg h4, if_neg h9, if_neg (by omega)]

/-- The run of equal samples of TAMPER_IN with this one (R482). -/
def coverRunAt (isOpen : Bool) (s : State) : Nat := if s.tail.coverCand = isOpen then min 5 (s.tail.coverRun + 1) else 1

/-- The state with a sample of TAMPER_IN taken. -/
def coverSampled (isOpen : Bool) (s : State) : State := { s with tail.coverCand := isOpen, tail.coverRun := coverRunAt isOpen s }

/-- The state with a debounced level of the cover taken; openings are counted (R136). -/
def coverTaken (isOpen : Bool) (s : State) : State := { coverSampled isOpen s with
  tail.coverOpen := isOpen, tail.openCount := if isOpen then satAdd 32 s.tail.openCount 1 else s.tail.openCount }

theorem coverTamper_eq (isOpen : Bool) (s : State) : exec (.coverTamper isOpen) s =
    .next (if decide (coverRunAt isOpen s < 5) || isOpen == s.tail.coverOpen then coverSampled isOpen s
      else if gridRuns s then
        tamperRec (if isOpen then 1 else 2) 0xFF 0 s.clk.time (level 44 0 isOpen [] (coverTaken isOpen s))
      else if isOpen && !s.tail.latched then { coverTaken isOpen s with tail.latched := true, tail.openTime := s.tail.rtc }
      else coverTaken isOpen s) := by
  have run : (if s.tail.coverCand == isOpen then min 5 (s.tail.coverRun + 1) else 1) = coverRunAt isOpen s := by
    simp [coverRunAt]
  show execCoverTamper isOpen s = _
  unfold execCoverTamper
  rw [run]
  rfl

theorem coverTamper_samples (isOpen : Bool) (s : State) (h : coverRunAt isOpen s < 5 ∨ s.tail.coverOpen = isOpen) :
    exec (.coverTamper isOpen) s = .next (coverSampled isOpen s) := by
  rw [coverTamper_eq, if_pos]
  rcases h with h | h
  · simp [h]
  · simp [h]

/-- A new level of the cover in a running device is recorded, and E44 follows it (R136, R482). -/
theorem coverTamper_records (isOpen : Bool) (s : State) (h5 : coverRunAt isOpen s = 5) (hc : s.tail.coverOpen ≠ isOpen)
    (hg : gridRuns s = true) : ∃ t, exec (.coverTamper isOpen) s = .next t ∧
      t = tamperRec (if isOpen then 1 else 2) 0xFF 0 s.clk.time (level 44 0 isOpen [] (coverTaken isOpen s)) ∧
      ((44, 0) ∈ t.ev.active ↔ isOpen = true) := by
  refine ⟨_, ?_, rfl, ?_⟩
  · rw [coverTamper_eq, if_neg (by simp [h5, hc.symm]), if_pos hg]
  · unfold tamperRec
    rw [queueRec_active _ _ _ (by decide), level_active _ _ _ _ _ (by decide)]

/-- An opening of the cover while the device does not run is latched with its time (R482). -/
theorem coverTamper_latches (isOpen : Bool) (s : State) (h5 : coverRunAt isOpen s = 5) (hc : s.tail.coverOpen ≠ isOpen)
    (hg : gridRuns s = false) : exec (.coverTamper isOpen) s = .next (if isOpen = true ∧ s.tail.latched = false
      then { coverTaken isOpen s with tail.latched := true, tail.openTime := s.tail.rtc } else coverTaken isOpen s) := by
  rw [coverTamper_eq, if_neg (by simp [h5, hc.symm]), hg, if_neg Bool.false_ne_true]
  simp

/-! ## The warning of a running device -/

/-- The sequence of R129 has begun: its time and source are kept, and E0 is active. -/
theorem powerFail_begins (src : Nat) (s : State) (h : s.pwr.phase = .run) (hv : s.fe.valid = true) :
    ∃ t, powerFail src s = t ∧ t.pwr.phase = .pfwSeq ∧ t.pwr.pfwSrc = some src ∧ t.pwr.pfwAt = s.clk.mono ∧
      t.nvBill.warned = some (s.clk.time, src) ∧ (0, 0) ∈ t.ev.active ∧ t.dsp.run = none := by
  have hs := spine_powerFail src s h hv
  have pwr : (powerFail src s).pwr = { s.pwr with pfwSrc := some src, pfwAt := s.clk.mono, phase := .pfwSeq } :=
    (of_spine State.pwr (fun _ => rfl) hs).trans (by simp [seqBegun, e0])
  have kept : (powerFail src s).nvBill.warned = some (s.clk.time, src) := of_spine (fun t => t.nvBill.warned) (fun _ => rfl) hs
  refine ⟨_, rfl, ?_, ?_, ?_, kept, ?_, ?_⟩
  · rw [pwr]
  · rw [pwr]
  · rw [pwr]
  · exact (mem_active_of_spine hs (0, 0) (by decide)).2 (by simp [seqBegun, e0, level_active])
  · rw [powerFail_run src s h hv]
    exact dspWarn_run _

end Sys2Proof.Laws

namespace Sys2Proof.Proofs

open Sys2Proof Sys2Proof.Machine Sys2Proof.Laws

/-- Settles O44: each clause is the rule of its row, with E0 and the source kept through the saving by the device's spine. -/
theorem powerEventsComplete : Obligations.PowerEventsComplete := by
  unfold Obligations.PowerEventsComplete
  refine ⟨powerFailWarning_eq, ?_, ?_, ?_, ?_, ?_, ?_, ?_, ?_, ?_, ?_, ?_, ?_, mramPart_spec, ?_, ?_⟩
  · exact fun s => ⟨rfl, pfwNSample_low_eq s⟩
  · exact fun src s => ⟨powerFail_idle src s, powerFail_early src s, powerFail_begins src s⟩
  · exact fun s => ⟨pfwStop_idle s, pfwStop_stops s⟩
  · exact fun s => ⟨pfwRecovered_resets s, pfwRecovered_waits s, pfwWithdrawn_idle s, pfwWithdrawn_clears s⟩
  · exact fun s => ⟨enterIdle_down s, enterIdle_up s, powerStateDescend_idle s, powerStateDescend_goes s⟩
  · exact fun src s => ⟨powerStateWake_off src s, powerStateWake_wakes src s, powerStateWake_timer s⟩
  · exact fun mv s => ⟨vbatLow_off mv s, vbatLow_reports mv s⟩
  · exact fun s => ⟨rtcCorrection_idle s, rtcCorrection_corrects s⟩
  · exact fun nfc rtc s => ⟨clockMonitor_off nfc rtc s, clockMonitor_follows nfc rtc s⟩
  · exact fun pll s => ⟨mainClockFail_off pll s, mainClockFail_stops pll s⟩
  · exact fun app lost s => ⟨pllLockLoss_off app lost s, pllLockLoss_follows app s⟩
  · exact fun temp s => ⟨dieTempWarning_keeps temp s, dieTempWarning_follows temp s⟩
  · exact fun w s => ⟨mramScrub_idle w s, mramScrub_outside w s, mramScrub_bad w s⟩
  · exact fun isOpen s => ⟨coverTamper_samples isOpen s, fun h5 hc => ⟨coverTamper_records isOpen s h5 hc, coverTamper_latches isOpen s h5 hc⟩⟩

end Sys2Proof.Proofs

namespace Sys2Proof.Laws

open Sys2Proof Sys2Proof.Machine

@[simp] theorem vget_replicate {α : Type} {n : Nat} (x : α) (i : Fin n) : vget (Vector.replicate n x) i = x := by
  simp [vget]

theorem reset_pathsOff (n : Fin 8) : PathsOff State.reset n := by
  simp [PathsOff, saf, State.reset]

theorem reset_safeStateHolds : SafeStateHolds State.reset := fun n _ => reset_pathsOff n

end Sys2Proof.Laws

namespace Sys2Proof.Proofs

open Sys2Proof Sys2Proof.Machine Sys2Proof.Laws

/-- Settles O49: every unit of the reset state has its reset value. -/
theorem resetState : Obligations.ResetState := by
  unfold Obligations.ResetState
  refine ⟨rfl, rfl, rfl, rfl, rfl, reset_safeStateHolds, fun n => ⟨reset_pathsOff n, ?_, ?_⟩, fun k => ?_⟩
  · simp [pil, State.reset]
  · simp [sessOpen, sep, State.reset]
  · simp [State.reset]

end Sys2Proof.Proofs

namespace Sys2Proof.Laws

open Sys2Proof Sys2Proof.Machine

/-! ## Commands that start at once (R366, R377) -/

/-- A command that the port takes runs its own rules on the state that counts it. -/
theorem command_of_taken (op : Nat) (body : Flight → State → CmdOut) (p : Pkt) (s : State) (h : taken op p s = true) :
    command op body p s = startCmd (flightOf op p s) body (takeCmd p op (wake 0 s)) := by
  have flight : newFlight (wake 0 s) p op = newFlight s p op := by simp [newFlight]
  have start : startable (takeCmd p op (wake 0 s)) (newFlight s p op) = startable s (newFlight s p op) := by
    simp [startable, fenced, behind, outstanding, takeCmd, keep]
  have kept : keptOf (wake 0 s) p = keptOf s p := by simp [keptOf]
  have accepted : opAccepted (wake 0 s) op = opAccepted s op := by simp [opAccepted]
  have queue : outstanding (wake 0 s) = outstanding s := by simp [outstanding]
  simp only [taken, Bool.and_eq_true, Bool.not_eq_true', decide_eq_true_eq] at h
  obtain ⟨⟨⟨⟨⟨⟨⟨room, flags⟩, addr⟩, len⟩, op'⟩, new⟩, few⟩, free⟩ := h
  have reply : p.flags.testBit 15 = false := Nat.testBit_lt_two_pow (by omega)
  unfold command
  rw [if_neg (by simp [room]), if_neg (by simp [reply]), if_neg (by simp [addr]), if_neg (by omega)]
  dsimp only
  rw [if_neg (by omega), if_neg (by simp [accepted, op']), kept, Option.isNone_iff_eq_none.1 new]
  dsimp only
  rw [if_neg (by rw [queue]; omega), if_pos (by rw [flight, start]; exact free)]
  rfl

/-- A command taken whose rules are done answers with their payload. -/
theorem command_done (op : Nat) (body : Flight → State → CmdOut) (p : Pkt) (s t : State) (pl : List Byte) (h : taken op p s = true)
    (hb : body (flightOf op p s) (begun op p s) = .done t pl) : command op body p s = finish (flightOf op p s) pl t :=
  (command_of_taken op body p s h).trans (startCmd_done _ _ _ _ _ hb)

/-- A command taken whose rules refuse it answers their status and changes nothing more. -/
theorem command_fail (op : Nat) (body : Flight → State → CmdOut) (p : Pkt) (s : State) (st : Nat) (h : taken op p s = true)
    (hd : st ≠ 0x0301) (hb : body (flightOf op p s) (begun op p s) = .fail st) :
    command op body p s = complete (flightOf op p s) st [] (begun op p s) :=
  (command_of_taken op body p s h).trans (startCmd_fail _ _ _ _ hb hd)

@[simp] theorem flightOf_pkt (op : Nat) (p : Pkt) (s : State) : (flightOf op p s).pkt = p := rfl

/-- What the wake and the port's counting leave is in a command's state as it was. -/
theorem of_begun {α : Type} (f : State → α) (hd : ∀ u, f (drowsy u) = f u) (hp : ∀ u, f (offPort u) = f u) (op : Nat) (p : Pkt) (s : State) :
    f (begun op p s) = f s :=
  (of_offPort f hp (s := wake 0 s) (t := begun op p s) rfl).trans (of_drowsy f hd (drowsy_wake 0 s))

@[simp] theorem begun_clk (op : Nat) (p : Pkt) (s : State) : (begun op p s).clk = s.clk := of_begun State.clk (fun _ => rfl) (fun _ => rfl) op p s
@[simp] theorem begun_member (op : Nat) (p : Pkt) (s : State) : (begun op p s).member = s.member :=
  of_begun State.member (fun _ => rfl) (fun _ => rfl) op p s

@[simp] theorem begun_hasPoint (op : Nat) (p : Pkt) (s : State) (n : Fin 8) : hasPoint (begun op p s) n = hasPoint s n := by simp [hasPoint]

/-- The number of a point present names it. -/
theorem pointOf_pno (s : State) (n : Fin 8) (v : Nat) (h : hasPoint s n = true) (hv : v = n.1 + 1) : pointOf s v = some n := by
  have := of_decide_eq_true h
  subst hv
  rw [pointOf, if_pos (by omega)]
  simp [ix]

theorem pointOf_begun (op : Nat) (p : Pkt) (s : State) (n : Fin 8) (v : Nat) (h : hasPoint s n = true) (hv : v = n.1 + 1) :
    pointOf (begun op p s) v = some n := pointOf_pno _ n v (by simpa using h) hv

/-- A check that passes goes on to what follows. -/
theorem need_pos {c : Bool} (h : c = true) (st : Nat) (k : CmdOut) : need c st k = k := by rw [h]; rfl

theorem need_not {c : Bool} (h : c = false) (st : Nat) (k : CmdOut) : need (!c) st k = k := by rw [h]; rfl

theorem need_neg {c : Bool} (h : c = false) (st : Nat) (k : CmdOut) : need c st k = .fail st := by rw [h]; rfl

/-! ## Fields of a command's parameters (R365) -/

/-- The point byte of a command's parameters. -/
theorem u8_pno (n : Fin 8) (b : List Byte) : u8 0 (BitVec.ofNat 8 (n.1 + 1) :: b) = n.1 + 1 := by
  simp [u8, fld, unle]
  omega

/-! ## Sessions (R18, R189, R291 to R294) -/

theorem sesStart_binds (p : Pkt) (s : State) (n : Fin 8) (ht : taken 0x0403 p s = true) (hl : p.payload.length = 32)
    (hn : u8 0 p.payload = n.1 + 1) (ok : startOk p.payload = true) (present : hasPoint s n = true) :
    let u := begun 0x0403 p s
    let type := u8 1 p.payload
    let id := slice 4 (u8 2 p.payload) p.payload
    (vget u.p100.m (meterOf n)).ppState ≠ .exhausted → blockMissing u n = false → (ses u n).bound = false → outOfService u n = false →
    startSafe u n = true → sessionsRefused u = false →
    (∀ r, bit (u8 3 p.payload) 1 = true → (ses u n).req = some r → r.type = type ∧ r.id = id) →
    (bit (u8 3 p.payload) 1 = true → (ses u n).req ≠ none) →
    let a := if bit (u8 3 p.payload) 1 then decision n 1 type u else refuseReq n 7 u
    let v := bindAuth n type id (bit (u8 3 p.payload) 0) (u32 20 p.payload) (u32 24 p.payload) (u32 28 p.payload) a
    let w := flowDrain n (ses v n).waiting v
    exec (.sesStart p) s = .next (finish (flightOf 0x0403 p s) (le 4 (sessNo w n) ++ zeros 4) w) := by
  intro u type id credit blocks unbound inService safe room own pending a v w
  have answers : (!(bit (u8 3 p.payload) 1 && (ses u n).req.any fun r => !(r.type == type && r.id == id))) = true := by
    cases hr : (ses u n).req with
    | none => simp
    | some r =>
      cases hb : bit (u8 3 p.payload) 1 with
      | false => simp
      | true => simp [own r hb hr]
  have state : (!(ses u n).bound && !outOfService u n && !(bit (u8 3 p.payload) 1 && (ses u n).req.isNone)) = true := by
    cases hb : bit (u8 3 p.payload) 1 with
    | false => simp [unbound, inService]
    | true => simp [unbound, inService, Option.isSome_iff_ne_none, pending hb]
  refine congrArg Host.Outcome.next (command_done _ _ p s _ _ ht ?_)
  rw [sized_eq _ _ _ _ hl]
  unfold sesStartBody
  simp only [flightOf_pkt, pointOf_begun 0x0403 p s n _ present hn]
  rw [ok, Bool.true_and, need_pos answers, need_pos (bne_iff_ne.2 credit), need_not blocks, need_pos state,
    need_pos safe, need_not room]
  rfl

/-- A unit changed in place is the unit set to its changed value. -/
theorem vmod_eq_vset {α : Type} {n : Nat} (v : Vector α n) (i : Fin n) (f : α → α) : vmod v i f = vset v i (f (vget v i)) := rfl

/-- A binding belongs to the session that runs, or opens one (R17, R192, R291). -/
theorem bindAuth_eq (n : Fin 8) (type : Nat) (id : List Byte) (bpt : Bool) (li lp ld : Nat) (s : State) :
    let b := modSess n (fun x => { x with
      bound := true, type, id, bpt, boundAt := s.clk.mono, limI := li, limP := lp, limD := ld, req := none }) s
    bindAuth n type id bpt li lp ld s = followSig n (if sessRuns s n then
      { b with p100.sess := vset s.p100.sess n { sep s n with authType := type, authId := id } } else openSession n b) := by
  intro b
  have runs : sessRuns b n = sessRuns s n := rfl
  show followSig n (if sessRuns b n then modSessP n (fun x => { x with authType := type, authId := id }) b else openSession n b) = _
  rw [runs]
  rfl

/-! ### SES_STOP (R189) -/

/-- The state in which SES_STOP acts: an exchange held for the host has failed (R181). -/
def stopReady (n : Fin 8) (u : State) : State := if (hl u n).cert.isSome then certFail n u else u

theorem stopReady_eq (n : Fin 8) (u : State) :
    ∃ h, stopReady n u = { u with hlc := h } ∧ (vget h n).active = (hl u n).active ∧ (vget h n).failed = (hl u n).failed ∧
      (vget h n).slac = (hl u n).slac := by
  unfold stopReady
  split
  · exact ⟨_, rfl, by simp [vmod_eq_vset, hl]⟩
  · exact ⟨u.hlc, rfl, rfl, rfl, rfl⟩

theorem stopSession_eq (n : Fin 8) (u : State) : stopSession n u =
    if hlcRuns u n && (hl u n).slac == 5 && (ses u n).ending.isNone then
      modSess n (fun x => { x with hostStop := some (x.hostStop.getD u.clk.mono) }) (stopReady n u)
    else endNow n .hostStop (stopReady n u) := by
  obtain ⟨h, eq, active, failed, slac⟩ := stopReady_eq n u
  show (if hlcRuns (stopReady n u) n && (hl (stopReady n u) n).slac == 5 && (ses (stopReady n u) n).ending.isNone then
    modSess n (fun x => { x with hostStop := some (x.hostStop.getD (stopReady n u).clk.mono) }) (stopReady n u)
    else endNow n .hostStop (stopReady n u)) = _
  have runs : hlcRuns (stopReady n u) n = hlcRuns u n := by
    rw [eq]
    simp only [hlcRuns, hl] at active failed ⊢
    rw [active, failed]
    rfl
  have found : (hl (stopReady n u) n).slac = (hl u n).slac := by rw [eq]; exact slac
  have ending : (ses (stopReady n u) n).ending = (ses u n).ending := by rw [eq]; rfl
  have clock : (stopReady n u).clk = u.clk := by rw [eq]
  rw [runs, found, ending, clock]

/-! ### A session ends (R19) -/

/-- Which sessions are open, and which of them close. -/
def opened (s : State) : Vector (Bool × Bool) 8 := s.p100.sess.map fun x => (x.on, x.closing.isSome)

theorem sessRuns_eq (s : State) (n : Fin 8) : sessRuns s n = ((vget (opened s) n).1 && !(vget (opened s) n).2) := by
  simp [sessRuns, opened, sep]

theorem opened_of_sess {s t : State} (h : t.p100.sess = s.p100.sess) : opened t = opened s := by rw [opened, h, opened]

/-- A unit changed in what a view of it does not show is viewed as before. -/
theorem map_vmod {α β : Type} {n : Nat} (g : α → β) (f : α → α) (h : ∀ x, g (f x) = g x) (v : Vector α n) (i : Fin n) :
    (vmod v i f).map g = v.map g := by
  ext j hj
  simp only [vmod, Vector.getElem_map, Vector.getElem_set]
  split
  · subst_vars
    exact h _
  · rfl

@[simp] theorem opened_modSessP (n : Fin 8) (f : SessP → SessP) (h : ∀ x, ((f x).on, (f x).closing.isSome) = (x.on, x.closing.isSome))
    (s : State) : opened (modSessP n f s) = opened s := map_vmod _ f h _ n

@[simp] theorem opened_upd_pfw (s : State) (x) : opened { s with pfw := x } = opened s := rfl
@[simp] theorem opened_upd_en (s : State) (x) : opened { s with en := x } = opened s := rfl
@[simp] theorem opened_upd_nvBill (s : State) (x) : opened { s with nvBill := x } = opened s := rfl
@[simp] theorem opened_queueRec (r : PendRec) (s : State) : opened (queueRec r s) = opened s := opened_of_sess (by simp)
@[simp] theorem opened_persist (s : State) : opened (persist s) = opened s := opened_of_sess (by simp)
@[simp] theorem opened_pulse (ev : Nat) (p : List Byte) (s : State) : opened (pulse ev p s) = opened s := opened_of_sess (by simp)
@[simp] theorem opened_modMeterP (m : Fin 9) (f : MeterP → MeterP) (s : State) : opened (modMeterP m f s) = opened s := rfl
@[simp] theorem opened_modMeter (m : Fin 9) (f : Meter → Meter) (s : State) : opened (modMeter m f s) = opened s := rfl
@[simp] theorem opened_modWin (m : Fin 9) (f : Win → Win) (s : State) : opened (modWin m f s) = opened s := rfl

@[simp] theorem opened_pulses (m q delta : Nat) (s : State) : opened (pulses m q delta s) = opened s := by
  unfold pulses
  refine foldl_keeps opened _ (fun t b => ?_) _ s
  dsimp only
  repeat' split
  all_goals simp

@[simp] theorem opened_chargeCredit (m : Fin 9) (delta : Nat) (sd : Side) (s : State) : opened (chargeCredit m delta sd s) = opened s := by
  unfold chargeCredit
  dsimp only
  repeat' split
  all_goals simp

@[simp] theorem opened_deliverInc (m : Fin 9) (q : Fin 12) (delta : Nat) (sd : Side) (s : State) :
    opened (deliverInc m q delta sd s) = opened s := by
  unfold deliverInc
  dsimp only
  repeat' split
  all_goals simp

@[simp] theorem opened_transfer (m : Fin 9) (cs : List (Fin 12 × Nat)) (sd : Side) (s : State) : opened (transfer m cs sd s) = opened s := by
  unfold transfer
  refine foldl_keeps opened _ (fun t c => ?_) cs s
  unfold transferQ
  dsimp only
  repeat' split
  all_goals simp

@[simp] theorem opened_netClose (m : Fin 9) (sd : Side) (s : State) : opened (netClose m sd s) = opened s := by
  have marked : ∀ flags, opened (markFlags m flags sd s) = opened s := by
    intro flags
    unfold markFlags
    dsimp only
    repeat' split
    all_goals simp
  unfold netClose
  dsimp only
  split
  all_goals simp [marked]

@[simp] theorem opened_runAct (m : Fin 9) (a : BAct) (s : State) : opened (runAct m a s) = opened s := by
  have demand : ∀ flags t tariff len sub, opened (demandClose m flags t tariff len sub s) = opened s := by
    intro flags t tariff len sub
    unfold demandClose
    extract_lets
    split
    · rfl
    · exact (opened_pulse _ _ _).trans rfl
  have daily : opened (dailyTake m s) = opened s := by
    unfold dailyTake
    dsimp only
    repeat' split
    · rfl
    · exact (opened_queueRec _ _).trans rfl
    · rfl
  have fence : opened (fenceTake m s) = opened s := by
    unfold fenceTake
    dsimp only
    repeat' split
    all_goals rfl
  have queue : ∀ n reason flags t, opened (queueSession n reason flags t false s) = opened s := by
    intro n reason flags t
    unfold queueSession
    dsimp only
    split
    all_goals simp
  have values : ∀ n, opened (sessionValues n s) = opened s := by
    intro n
    unfold sessionValues
    repeat' split
    all_goals simp [queue]
  unfold runAct
  repeat' split
  all_goals simp [demand, daily, fence, values, periodClose, demandStart, sessionStart]

/-- A boundary closes no session and opens none. -/
@[simp] theorem opened_boundary (m : Fin 9) (acts : List BAct) (s : State) : opened (boundary m acts s) = opened s := by
  have run : ∀ u, opened (acts.foldl (fun t a => runAct m a t) u) = opened u := foldl_keeps opened _ (fun t a => opened_runAct m a t) acts
  unfold boundary boundaryAt
  dsimp only
  split
  all_goals simp [run]

/-! What the steps of R19 leave of a session and of its contactor. -/

@[simp] theorem setPhase_safe (n : Fin 8) (p : HlcPhase) (s : State) : (setPhase n p s).safe = s.safe := by
  unfold setPhase e55
  split <;> simp
@[simp] theorem setPhase_sess (n : Fin 8) (p : HlcPhase) (s : State) : (setPhase n p s).sess = s.sess := by
  unfold setPhase e55
  split <;> simp
@[simp] theorem setPhase_nvPt (n : Fin 8) (p : HlcPhase) (s : State) : (setPhase n p s).nvPt = s.nvPt := by
  unfold setPhase e55
  split <;> simp
@[simp] theorem opened_setPhase (n : Fin 8) (p : HlcPhase) (s : State) : opened (setPhase n p s) = opened s := by
  unfold setPhase e55
  split
  · rfl
  · exact (opened_pulse _ _ _).trans rfl

/-- A session that runs is marked to end with the reason given, or as a warm reset has affected it (R21). -/
theorem markEnd_ending (n : Fin 8) (reason : EndReason) (s : State) (hr : sessRuns s n = true) (he : (ses s n).ending = none) :
    (ses (markEnd n reason s) n).ending = some (if (ses s n).x1Arm then .warmReset else reason) := by
  rw [markEnd, if_pos (by simp [hr, he])]
  simp [ses]

@[simp] theorem opened_markEnd (n : Fin 8) (reason : EndReason) (s : State) : opened (markEnd n reason s) = opened s := by
  unfold markEnd
  split
  · exact (opened_setPhase _ _ _).trans rfl
  · rfl

/-- A contactor commanded open has its coil off (R233). -/
theorem openCoil_coil (n : Fin 8) (s : State) : (saf (openCoil n s) n).coil = false := by
  unfold openCoil
  dsimp only
  split
  · rename_i h
    simp only [Bool.and_eq_true, Bool.not_eq_true'] at h
    exact h.1
  · simp [saf]

@[simp] theorem openCoil_sess (n : Fin 8) (s : State) : (openCoil n s).sess = s.sess := by
  unfold openCoil chanOff
  dsimp only
  repeat' split
  all_goals simp

@[simp] theorem opened_openCoil (n : Fin 8) (s : State) : opened (openCoil n s) = opened s := by
  unfold openCoil chanOff
  dsimp only
  repeat' split
  all_goals rfl

theorem leaveDc_eq (n : Fin 8) (s : State) : ∃ h, leaveDc n s = { s with hlc := h } := by
  unfold leaveDc
  split
  · exact ⟨s.hlc, rfl⟩
  · exact ⟨_, rfl⟩

/-- The welding check changes the phase alone. -/
theorem weldPhase_keeps (n : Fin 8) (s : State) :
    (weldPhase n s).safe = s.safe ∧ (weldPhase n s).sess = s.sess ∧ opened (weldPhase n s) = opened s := by
  unfold weldPhase
  split
  · simp
  · exact ⟨rfl, rfl, rfl⟩

/-- Closing values leaves the contactor, and the session's values run no more. -/
theorem closeValues_closes (n : Fin 8) (reason : EndReason) (flags : Nat) (s : State) :
    (closeValues n reason flags s).safe = s.safe ∧ sessRuns (closeValues n reason flags s) n = false := by
  unfold closeValues
  split
  · rename_i h
    exact ⟨rfl, by simpa using h⟩
  · constructor
    · rw [setPhase_safe, of_offMeter State.safe (fun _ => rfl) (offMeter_boundary _ _ _)]
      rfl
    · rw [sessRuns_eq, opened_setPhase, opened_boundary]
      simp [opened]

/-- A session that ends now has its contactor commanded open, and either waits with its reason or closes its values at once (R19). -/
theorem endNow_ends (n : Fin 8) (reason : EndReason) (s : State) (hr : sessRuns s n = true) (he : (ses s n).ending = none) :
    (saf (endNow n reason s) n).coil = false ∧
      ((ses (endNow n reason s) n).ending = some (if (ses s n).x1Arm then .warmReset else reason) ∨ sessRuns (endNow n reason s) n = false) := by
  obtain ⟨h, left⟩ := leaveDc_eq n (openCoil n (markEnd n reason s))
  obtain ⟨safe, sess, -⟩ := weldPhase_keeps n (leaveDc n (openCoil n (markEnd n reason s)))
  let v := weldPhase n (leaveDc n (openCoil n (markEnd n reason s)))
  have coil : (saf v n).coil = false := by
    show (vget v.safe n).coil = false
    rw [safe, left]
    exact openCoil_coil n _
  have ending : (ses v n).ending = some (if (ses s n).x1Arm then .warmReset else reason) := by
    rw [← markEnd_ending n reason s hr he]
    show (vget v.sess n).ending = (vget (markEnd n reason s).sess n).ending
    rw [sess, left]
    simp
  have ends : endNow n reason s = tryClose n 0 v := by rw [endNow, if_pos hr]
  rw [ends, tryClose, ending]
  dsimp only
  split
  · obtain ⟨kept, closed⟩ := closeValues_closes n (if (ses s n).x1Arm then .warmReset else reason) (0 ||| b2n (nvp v n).welded) v
    exact ⟨by rw [saf, kept]; exact coil, .inr closed⟩
  · exact ⟨coil, .inl ending⟩

/-- Ending a session leaves the persistent state of the points. -/
theorem endSoft_nvPt (n : Fin 8) (reason : EndReason) (s : State) : (endSoft n reason s).nvPt = s.nvPt := by
  have mark : ∀ u, (markEnd n reason u).nvPt = u.nvPt := by
    intro u
    unfold markEnd
    split
    all_goals simp
  have coil : ∀ u, (openCoil n u).nvPt = u.nvPt := by
    intro u
    unfold openCoil chanOff
    dsimp only
    repeat' split
    all_goals rfl
  have dc : ∀ u, (leaveDc n u).nvPt = u.nvPt := by
    intro u
    obtain ⟨h, e⟩ := leaveDc_eq n u
    rw [e]
  have weld : ∀ u, (weldPhase n u).nvPt = u.nvPt := by
    intro u
    unfold weldPhase
    split
    all_goals simp
  have close : ∀ u, (tryClose n 0 u).nvPt = u.nvPt := by
    intro u
    have values : ∀ r f, (closeValues n r f u).nvPt = u.nvPt := by
      intro r f
      unfold closeValues
      split
      · rfl
      · rw [setPhase_nvPt, of_offMeter State.nvPt (fun _ => rfl) (offMeter_boundary _ _ _)]
        rfl
    unfold tryClose
    repeat' split
    all_goals simp [values]
  unfold endSoft endNow
  repeat' split
  all_goals simp [mark, coil, dc, weld, close]

/-- A point put out of service by the host shows the bit HOST (R468). -/
theorem setOos_host (n : Fin 8) (s : State) : (nvp (setOos n 0 s) n).oos.getLsbD 0 = true := by
  unfold setOos nvp
  dsimp only
  split
  · rw [endSoft_nvPt]
    simp
  · simp

/-- What SES_STOP does in each of its modes (R189, R291, R468). -/
def stopAct (mode : Nat) (n : Fin 8) (u : State) : State :=
  if mode = 0 then stopSession n u
  else if mode = 1 then flowNext n (refuseReq n 5 u)
  else
    let w := setOos n 0 (stopReady n u)
    if sessRuns w n && (ses w n).ending.isNone then endSoft n .outOfService w else w

/-- The four bytes of SES_STOP are a point, a mode and reserved bytes; in a state that fits the mode it acts. -/
theorem sesStop_acts (p : Pkt) (s : State) (n : Fin 8) (m : Byte) (ht : taken 0x0404 p s = true) (present : hasPoint s n = true)
    (hp : p.payload = [BitVec.ofNat 8 (n.1 + 1), m, 0, 0]) (hm : m.toNat ≤ 2)
    (state : ((m.toNat != 0 || sessRuns (begun 0x0404 p s) n) && (m.toNat != 1 || (ses (begun 0x0404 p s) n).req.isSome)) = true) :
    exec (.sesStop p) s = .next (finish (flightOf 0x0404 p s) (le 4 (sessNo (begun 0x0404 p s) n)) (stopAct m.toNat n (begun 0x0404 p s))) := by
  have point : u8 0 p.payload = n.1 + 1 := by rw [hp]; exact u8_pno n _
  have mode : u8 1 p.payload = m.toNat := by rw [hp]; simp [u8, fld, unle]
  have reserved : rsv 2 2 p.payload = true := by rw [hp]; rfl
  refine congrArg Host.Outcome.next (command_done _ _ p s _ _ ht ?_)
  rw [sized_eq _ _ _ _ (by simp [hp])]
  unfold sesStopBody
  simp only [flightOf_pkt, pointOf_begun 0x0404 p s n _ present point, mode, reserved, decide_eq_true hm, Bool.and_true]
  rw [need_true, need_pos state]
  rfl

/-- MODE 0 for a vehicle in high-level communication: the stop is signalled to it (R189). -/
theorem sesStop_signals (p : Pkt) (s : State) (n : Fin 8) (ht : taken 0x0404 p s = true) (present : hasPoint s n = true)
    (hp : p.payload = [BitVec.ofNat 8 (n.1 + 1), 0, 0, 0]) :
    let u := begun 0x0404 p s
    sessRuns u n = true → hlcRuns u n = true → (hl u n).slac = 5 → (ses u n).ending = none →
      exec (.sesStop p) s = .next (finish (flightOf 0x0404 p s) (le 4 (sessNo u n)) { stopReady n u with
        sess := vset u.sess n { ses u n with hostStop := some ((ses u n).hostStop.getD u.clk.mono) } }) := by
  intro u runs hlc slac ending
  obtain ⟨h, eq, -⟩ := stopReady_eq n u
  have signalled : stopAct 0 n u = { stopReady n u with
      sess := vset u.sess n { ses u n with hostStop := some ((ses u n).hostStop.getD u.clk.mono) } } := by
    show stopSession n u = _
    rw [stopSession_eq, if_pos (by simp [hlc, slac, ending]), eq]
    rfl
  rw [sesStop_acts p s n 0 ht present hp (by decide) (by simpa using runs)]
  exact congrArg (fun t => Host.Outcome.next (finish _ _ t)) signalled

/-- MODE 0 otherwise: the contactor opens and the session ends as HOST_STOP (R19, R189). -/
theorem sesStop_ends (p : Pkt) (s : State) (n : Fin 8) (ht : taken 0x0404 p s = true) (present : hasPoint s n = true)
    (hp : p.payload = [BitVec.ofNat 8 (n.1 + 1), 0, 0, 0]) :
    let u := begun 0x0404 p s
    sessRuns u n = true → hlcRuns u n = false ∨ (hl u n).slac ≠ 5 → (ses u n).ending = none → ∃ t, exec (.sesStop p) s = .next t ∧
      t = finish (flightOf 0x0404 p s) (le 4 (sessNo u n)) (endNow n .hostStop (stopReady n u)) ∧ (saf t n).coil = false ∧
      ((ses t n).ending = some (if (ses u n).x1Arm then .warmReset else .hostStop) ∨ sessRuns t n = false) := by
  intro u runs quiet ending
  obtain ⟨h, eq, -⟩ := stopReady_eq n u
  have sess : ses (stopReady n u) n = ses u n := by rw [eq]; rfl
  have runs' : sessRuns (stopReady n u) n = true := by rw [eq]; exact runs
  have ended : stopAct 0 n u = endNow n .hostStop (stopReady n u) := by
    show stopSession n u = _
    rw [stopSession_eq, if_neg]
    rcases quiet with h | h <;> simp [h]
  obtain ⟨coil, reason⟩ := endNow_ends n .hostStop (stopReady n u) runs' (by rw [sess]; exact ending)
  rw [sess] at reason
  refine ⟨_, ?_, rfl, ?_, ?_⟩
  · rw [sesStop_acts p s n 0 ht present hp (by decide) (by simpa using runs)]
    exact congrArg (fun t => Host.Outcome.next (finish _ _ t)) ended
  · simpa [saf, finish] using coil
  · simpa [ses, sessRuns, sep, finish] using reason

/-- MODE 1: the pending request ends, and the flow goes on to what waits (R291). -/
theorem sesStop_refuses (p : Pkt) (s : State) (n : Fin 8) (ht : taken 0x0404 p s = true) (present : hasPoint s n = true) (r : Req)
    (hp : p.payload = [BitVec.ofNat 8 (n.1 + 1), 1, 0, 0]) :
    let u := begun 0x0404 p s
    (ses u n).req = some r →
      let d := decision n 5 r.type (modSess n (fun x => { x with req := none }) u)
      exec (.sesStop p) s = .next (finish (flightOf 0x0404 p s) (le 4 (sessNo u n)) (flowDrain n (ses d n).waiting d)) := by
  intro u req d
  have refused : refuseReq n 5 u = d := by rw [refuseReq, req]
  have pending : (ses (begun 0x0404 p s) n).req.isSome = true := by
    rw [show (ses (begun 0x0404 p s) n).req = some r from req]
    rfl
  rw [sesStop_acts p s n 1 ht present hp (by decide) (by simp [pending])]
  show Host.Outcome.next (finish _ _ (flowNext n (refuseReq n 5 u))) = _
  rw [refused]
  rfl

/-- MODE 2: the point is out of service with the bit HOST (R468). -/
theorem sesStop_outOfService (p : Pkt) (s : State) (n : Fin 8) (ht : taken 0x0404 p s = true) (present : hasPoint s n = true)
    (hp : p.payload = [BitVec.ofNat 8 (n.1 + 1), 2, 0, 0]) :
    let u := begun 0x0404 p s
    ∃ t w, exec (.sesStop p) s = .next t ∧ w = setOos n 0 (stopReady n u) ∧
      t = finish (flightOf 0x0404 p s) (le 4 (sessNo u n))
        (if sessRuns w n = true ∧ (ses w n).ending = none then endSoft n .outOfService w else w) ∧
      (nvp t n).oos.getLsbD 0 = true := by
  intro u
  let w := setOos n 0 (stopReady n u)
  have acts : stopAct 2 n u = if sessRuns w n = true ∧ (ses w n).ending = none then endSoft n .outOfService w else w := by
    show (if sessRuns w n && (ses w n).ending.isNone then endSoft n .outOfService w else w) = _
    simp
  have bit : ∀ e, (e = endSoft n .outOfService w ∨ e = w) → (nvp e n).oos.getLsbD 0 = true := by
    rintro e (rfl | rfl)
    · rw [nvp, endSoft_nvPt]
      exact setOos_host n _
    · exact setOos_host n _
  refine ⟨_, w, ?_, rfl, rfl, ?_⟩
  · rw [sesStop_acts p s n 2 ht present hp (by decide) (by simp)]
    exact congrArg (fun t => Host.Outcome.next (finish _ _ t)) acts
  · simp only [nvp, finish, complete_nvPt]
    split
    · exact bit _ (.inl rfl)
    · exact bit _ (.inr rfl)

/-! ### SES_LIMIT and SES_STATUS (R192, R193) -/

/-- Following the signalled current changes the pilots alone (R160). -/
theorem followSig_sess (n : Fin 8) (s : State) : (followSig n s).sess = s.sess := by
  have one : ∀ t k, (followOne k t).sess = t.sess := by
    intro t k
    unfold followOne
    dsimp only
    repeat' split
    all_goals rfl
  unfold followSig
  split
  · exact foldl_keeps State.sess _ one _ s
  · exact one s n

/-- A field that fits its width is read as it was written, behind what precedes it and before what follows. -/
theorem fld_le_at (n off v : Nat) (a b : List Byte) (ha : a.length = off) (hv : v < 256 ^ n) : fld n off (a ++ le n v ++ b) = v := by
  rw [List.append_assoc, fld_append _ _ _ _ ha.le, ha, Nat.sub_self, fld_le_append, Nat.mod_eq_of_lt hv]

/-- The parameters of SES_LIMIT are a point, reserved bytes and three limits. -/
theorem sesLimit_sets (p : Pkt) (s : State) (n : Fin 8) (i pw d : Nat) (ht : taken 0x0405 p s = true) (present : hasPoint s n = true)
    (hi : i < 2 ^ 32) (hw : pw < 2 ^ 32) (hd : d < 2 ^ 32)
    (hp : p.payload = [BitVec.ofNat 8 (n.1 + 1), 0, 0, 0] ++ le 4 i ++ le 4 pw ++ le 4 d) :
    let u := begun 0x0405 p s
    (sessRuns u n = true → ∃ t, exec (.sesLimit p) s = .next t ∧
      t = finish (flightOf 0x0405 p s) [] (followSig n { u with sess := vset u.sess n { ses u n with limI := i, limP := pw, limD := d } }) ∧
      (ses t n).limI = i ∧ (ses t n).limP = pw ∧ (ses t n).limD = d) ∧
    (sessRuns u n = false → exec (.sesLimit p) s = .next (complete (flightOf 0x0405 p s) 0x0201 [] u)) := by
  intro u
  have point : u8 0 p.payload = n.1 + 1 := by rw [hp]; exact u8_pno n _
  have reserved : rsv 1 3 p.payload = true := by rw [hp]; rfl
  have limI : u32 4 p.payload = i := by
    rw [hp, List.append_assoc _ (le 4 pw)]
    exact fld_le_at 4 4 i _ _ rfl hi
  have limP : u32 8 p.payload = pw := by
    rw [hp]
    exact fld_le_at 4 8 pw _ _ (by simp) hw
  have limD : u32 12 p.payload = d := by
    rw [hp, ← List.append_nil (_ ++ le 4 d)]
    exact fld_le_at 4 12 d _ _ (by simp) hd
  have body : sized 16 sesLimitBody (flightOf 0x0405 p s) u = need (sessRuns u n) stState
      (.done (followSig n { u with sess := vset u.sess n { ses u n with limI := i, limP := pw, limD := d } }) []) := by
    rw [sized_eq _ _ _ _ (by simp [hp])]
    unfold sesLimitBody
    simp only [flightOf_pkt, pointOf_begun 0x0405 p s n _ present point, u, reserved, limI, limP, limD]
    rfl
  refine ⟨fun runs => ⟨_, ?_, rfl, ?_⟩, fun runs => ?_⟩
  · exact congrArg Host.Outcome.next (command_done _ _ p s _ _ ht (by rw [body, need_pos runs]))
  · simp [ses, finish, followSig_sess]
  · exact congrArg Host.Outcome.next (command_fail _ _ p s _ ht (by decide) (by rw [body, need_neg runs]; rfl))

theorem sesStatus_answers (p : Pkt) (s : State) (n : Fin 8) (ht : taken 0x0406 p s = true)
    (hp : p.payload = [BitVec.ofNat 8 (n.1 + 1), 0, 0, 0]) (present : hasPoint s n = true) :
    let u := begun 0x0406 p s
    let h := hl u n
    let x := ses u n
    exec (.sesStatus p) s = .next (finish (flightOf 0x0406 p s) (le 8 s.clk.time ++ le 4 (sessNo u n) ++ le 1 (n.1 + 1) ++
      le 1 (phaseCode h.phase) ++ le 1 (if h.phase = .basic then 0 else (sep u n).service) ++
      le 1 (x.type % 8 + 8 * b2n x.bound + 16 * b2n (exports u n) + 32 * b2n h.tls + 64 * b2n h.pnc) ++ le 6 h.evccid ++ le 1 h.soc ++
      le 1 h.ctrl ++ le 4 h.evU ++ leInt 4 h.evI ++ le 4 (if h.phase = .basic then (pil u n).iSig else h.offI) ++ le 4 h.offP ++
      le 4 (b2n (nvp u n).modemFault + 2 * b2n h.slacFail + 4 * b2n h.fallback + 8 * b2n h.psFault + 16 * b2n h.canTo +
        32 * b2n h.cert.isSome + 64 * b2n h.reneg) ++ le 1 h.atten ++ [0, 0, 0]) u) := by
  intro u h x
  have point : u8 0 p.payload = n.1 + 1 := by rw [hp]; exact u8_pno n _
  have reserved : rsv 1 3 p.payload = true := by rw [hp]; rfl
  have clock : s.clk.time = now u := by simp [now, u]
  rw [clock]
  refine congrArg Host.Outcome.next (command_done _ _ p s _ _ ht ?_)
  rw [sized_eq _ _ _ _ (by simp [hp])]
  unfold sesStatusBody
  simp only [flightOf_pkt, pointOf_begun 0x0406 p s n _ present point, reserved, need_true]
  rfl

/-! ### HLC_COMMIT and HLC_EXCHANGE (R181, R194, R199, R200) -/

/-- A commit that finds what it names goes on with the copies taken (R518). -/
theorem takeStored_of_takes (s : State) (ids : List Nat) (cs : List BlkCopy) (k : List BlkCopy → CmdOut) (h : Takes s ids cs) :
    takeStored s ids k = k cs := by
  obtain ⟨found, rules⟩ := h
  rw [takeStored, found]
  exact if_pos (by simpa using rules)

@[simp] theorem offPoint_setIso (n : Fin 8) (st : Nat) (s : State) : offPoint (setIso n st s) = offPoint s := by
  unfold setIso
  dsimp only
  split
  all_goals simp

/-- The points of a mask that are no DC points take no insulation state of a start (R222). -/
def isoDropped (m : Nat) (s : State) : State := (maskPoints m).foldl (fun t n => if dcPoint t n then t else setIso n 0 t) s

theorem offPoint_isoDropped (m : Nat) (s : State) : offPoint (isoDropped m s) = offPoint s := by
  unfold isoDropped
  refine foldl_keeps offPoint _ (fun t n => ?_) _ s
  split
  all_goals simp

theorem offPoint_basicPaths (l : List (Fin 8)) (s : State) : offPoint (l.foldl (fun t n => basicPath n t) s) = offPoint s :=
  foldl_keeps offPoint _ (fun t n => offPoint_basicPath n t) l s

/-- A copy committed alone is the committed copy of its block. -/
theorem committedCopy_commitCopies (c : BlkCopy) (s : State) :
    committedCopy (commitCopies [c] s) c.id = some { c with tCommit := now s, bstate := 1 } := by
  simp [committedCopy, commitCopies, putCopy]

theorem hlcCommit_applies (p : Pkt) (s : State) (m : Nat) (cs : List BlkCopy) (ht : taken 0x0407 p s = true) (hl : p.payload.length = 4)
    (hm : u16 0 p.payload = m) (reserved : rsv 2 2 p.payload = true) (pos : 0 < m) (small : m < 2 ^ 9) :
    let u := begun 0x0407 p s
    let v := (maskPoints m).foldl (fun t n => if dcPoint t n then t else setIso n 0 t) (recheck (commitCopies cs u))
    let w := if bit m 8 then { v with can := Vector.replicate 24 { lastAt := v.clk.mono } } else v
    (∀ n ∈ maskPoints m, hasPoint u n = true ∧ sessOpen u n = false) →
    Takes u (((maskPoints m).map fun n => 0x0411 + n.1) ++ if bit m 8 then [0x0420] else []) cs → canCross u cs = true →
    (bit m 8 = true → ∀ n, hasPoint u n = true → sessOpen u n = true → dcService u n = false) → ∃ t, exec (.hlcCommit p) s = .next t ∧
      t = finish (flightOf 0x0407 p s) (le 8 s.clk.time) ((maskPoints m).foldl (fun t n => basicPath n t) w) ∧
      (∀ c, cs = [c] → committedCopy t c.id = some { c with tCommit := s.clk.time, bstate := 1 }) := by
  intro u v w present takes cross idle
  have base : offPoint v = offPoint (commitCopies cs u) := (offPoint_isoDropped m _).trans (offPoint_recheck _)
  have blk : w.blk = (commitCopies cs u).blk := by
    have hv := of_offPoint State.blk (fun _ => rfl) base
    show (if bit m 8 then _ else v : State).blk = _
    split
    · exact hv
    · exact hv
  have clock : w.clk = s.clk := by
    have hv := of_offPoint State.clk (fun _ => rfl) base
    rw [commitCopies_only] at hv
    have hs : v.clk = s.clk := hv.trans (begun_clk 0x0407 p s)
    show (if bit m 8 then _ else v : State).clk = _
    split
    · exact hs
    · exact hs
  have all : (maskPoints m).all (hasPoint u) = true := List.all_eq_true.2 fun n hn => (present n hn).1
  have named : (m != 0 && decide (m < 2 ^ 9) && true && (maskPoints m).all (hasPoint u)) = true := by
    rw [all, decide_eq_true small]
    simpa using pos.ne'
  have closed : (!(maskPoints m).any (sessOpen u) && !(bit m 8 && (points u).any fun n => sessOpen u n && dcService u n)) = true := by
    have idlePoints : (maskPoints m).any (sessOpen u) = false := by
      simpa using fun n hn => (present n hn).2
    cases can : bit m 8 with
    | false => simp [idlePoints]
    | true =>
      have noDc : ((points u).any fun n => sessOpen u n && dcService u n) = false := by
        simp only [List.any_eq_false, points, List.mem_filter, Bool.and_eq_true, not_and, Bool.not_eq_true]
        exact fun n hn runs => idle can n hn.2 runs
      simp [idlePoints, noDc]
  refine ⟨_, congrArg Host.Outcome.next (command_done _ _ p s ((maskPoints m).foldl (fun t n => basicPath n t) w) _ ht ?_), rfl, ?_⟩
  · rw [sized_eq _ _ _ _ hl, ← clock]
    unfold hlcCommitBody
    simp only [flightOf_pkt, hm, reserved]
    rw [need_pos named, takeStored_of_takes _ _ _ _ takes, need_pos cross, need_pos closed]
    rfl
  · rintro c rfl
    have kept := of_offPoint State.blk (fun _ => rfl) (offPoint_basicPaths (maskPoints m) w)
    rw [committedCopy, finish, complete_blk, kept, blk]
    refine (committedCopy_commitCopies c u).trans ?_
    simp [now, u]

/-- An exchange is held for the host for less than 4 s (R181). -/
theorem exchange_open {u : State} {t0 : Nat} (h : u.clk.mono < t0 + 4000000) : (!elapsed u t0 4000000) = true := by
  simpa [elapsed] using h

/-- HLC_EXCHANGE OP 0 reads a chunk of the request held. -/
theorem hlcExchange_reads (p : Pkt) (s : State) (n : Fin 8) (body : List Byte) (t0 i : Nat) (ht : taken 0x0408 p s = true)
    (present : hasPoint s n = true) (hi : i < 65536) (inside : i * 4096 < body.length)
    (hp : p.payload = [BitVec.ofNat 8 (n.1 + 1), 0] ++ le 2 i ++ zeros 4) :
    let u := begun 0x0408 p s
    (hl u n).cert = some (body, t0) → u.clk.mono < t0 + 4000000 →
    exec (.hlcExchange p) s = .next (finish (flightOf 0x0408 p s) (le 4 body.length ++ le 2 i ++
      le 2 (slice (i * 4096) 4096 body).length ++ slice (i * 4096) 4096 body) u) := by
  intro u held open4
  have point : u8 0 p.payload = n.1 + 1 := by rw [hp]; exact u8_pno n _
  have op : u8 1 p.payload = 0 := by rw [hp]; rfl
  have index : u16 2 p.payload = i := by rw [hp]; exact fld_le_at 2 2 i _ _ rfl hi
  have total : u32 4 p.payload = 0 := by
    rw [hp, u32, fld_append _ _ _ _ (by simp)]
    simp
    decide
  have rest : p.payload.drop 8 = [] := by simp [hp, zeros]
  have len : p.payload.length = 8 := by simp [hp, zeros]
  refine congrArg Host.Outcome.next (command_done _ _ p s _ _ ht ?_)
  unfold hlcExchangeBody
  simp only [flightOf_pkt, pointOf_begun 0x0408 p s n _ present point, op, index, total, rest, len, u, held]
  rw [need_pos (by rfl), need_pos (exchange_open open4), if_pos trivial, need_pos (decide_eq_true inside)]

/-- A chunk that fits its limits is a legal one (R181). -/
theorem within_of_le {v lo hi : Nat} (hlo : lo ≤ v) (hhi : v ≤ hi) : within v lo hi = true := by simp [within, hlo, hhi]

/-- HLC_EXCHANGE OP 1 writes a chunk of the response, in place of one of its number. -/
theorem hlcExchange_writes (p : Pkt) (s : State) (n : Fin 8) (body : List Byte) (t0 i tot : Nat) (d : List Byte)
    (ht : taken 0x0408 p s = true) (present : hasPoint s n = true) (hi : i < 65536) (one : 1 ≤ tot) (room : tot ≤ 16384)
    (some1 : 1 ≤ d.length) (fits : d.length ≤ 4096) (hp : p.payload = [BitVec.ofNat 8 (n.1 + 1), 1] ++ le 2 i ++ le 4 tot ++ d) :
    let u := begun 0x0408 p s
    let rest := (hl u n).certResp.filter fun c => !(c.1 == i)
    let all := joinChunks ((i, d) :: rest) (rest.length + 1) 0
    (hl u n).cert = some (body, t0) → u.clk.mono < t0 + 4000000 → (hl u n).certTot = 0 ∨ (hl u n).certTot = tot →
    (rest.map fun c => c.2.length).sum + d.length ≤ tot →
    let h := if all.length = tot then { hl u n with cert := none, certResp := [], certTot := 0, certAns := all }
      else { hl u n with certResp := (i, d) :: rest, certTot := tot }
    exec (.hlcExchange p) s = .next (finish (flightOf 0x0408 p s) (le 4 body.length ++ le 2 i ++ [0, 0])
      { u with hlc := vset u.hlc n h }) := by
  intro u rest all held open4 same sum h
  have point : u8 0 p.payload = n.1 + 1 := by rw [hp]; exact u8_pno n _
  have op : u8 1 p.payload = 1 := by rw [hp]; rfl
  have index : u16 2 p.payload = i := by
    rw [hp, List.append_assoc _ (le 4 tot)]
    exact fld_le_at 2 2 i _ _ rfl hi
  have total : u32 4 p.payload = tot := by
    rw [hp]
    exact fld_le_at 4 4 tot _ _ (by simp) (by omega)
  have data : p.payload.drop 8 = d := by
    rw [hp]
    exact List.drop_left' (by simp)
  have long : 8 ≤ p.payload.length := by simp [hp]; omega
  have legal : (decide (8 ≤ p.payload.length) && decide (1 ≤ 2) &&
      (if True then within tot 1 16384 && within d.length 1 4096 else tot == 0 && d.isEmpty)) = true := by
    rw [if_pos trivial, within_of_le one room, within_of_le some1 fits, decide_eq_true long]
    rfl
  have fresh : (((hl u n).certTot == 0 || (hl u n).certTot == tot) &&
      decide ((rest.map fun x : Nat × List Byte => x.2.length).sum + d.length ≤ tot)) = true := by
    simpa using ⟨same, sum⟩
  have written : writeChunk n i tot d u = { u with hlc := vset u.hlc n h } := by
    show (if all.length = tot then _ else _ : State) = { u with hlc := vset u.hlc n (if all.length = tot then _ else _) }
    split
    · rfl
    · rfl
  rw [← written]
  refine congrArg Host.Outcome.next (command_done _ _ p s _ _ ht ?_)
  unfold hlcExchangeBody
  simp only [flightOf_pkt, pointOf_begun 0x0408 p s n _ present point, op, index, total, data]
  refine (need_pos legal _ _).trans ?_
  rw [held]
  dsimp only
  rw [need_pos (exchange_open open4), if_neg (by decide), if_pos trivial, need_pos fresh]
  rfl

/-- HLC_EXCHANGE OP 2 lets the exchange fail. -/
theorem hlcExchange_fails (p : Pkt) (s : State) (n : Fin 8) (body : List Byte) (t0 : Nat) (ht : taken 0x0408 p s = true)
    (present : hasPoint s n = true) (hp : p.payload = [BitVec.ofNat 8 (n.1 + 1), 2, 0, 0, 0, 0, 0, 0]) :
    let u := begun 0x0408 p s
    (hl u n).cert = some (body, t0) → u.clk.mono < t0 + 4000000 →
    exec (.hlcExchange p) s = .next (finish (flightOf 0x0408 p s) (le 4 body.length ++ zeros 4)
      { u with hlc := vset u.hlc n { hl u n with cert := none, certResp := [], certTot := 0, certAns := [] } }) := by
  intro u held open4
  have point : u8 0 p.payload = n.1 + 1 := by rw [hp]; exact u8_pno n _
  have op : u8 1 p.payload = 2 := by rw [hp]; rfl
  have index : u16 2 p.payload = 0 := by rw [hp]; rfl
  have total : u32 4 p.payload = 0 := by rw [hp]; rfl
  have data : p.payload.drop 8 = [] := by rw [hp]; rfl
  have len : p.payload.length = 8 := by rw [hp]; rfl
  refine congrArg Host.Outcome.next (command_done _ _ p s _ _ ht ?_)
  unfold hlcExchangeBody
  simp only [flightOf_pkt, pointOf_begun 0x0408 p s n _ present point, op, index, total, data, len]
  rw [need_pos (by rfl), held]
  dsimp only
  rw [need_pos (exchange_open open4), if_neg (by decide), if_neg (by decide)]
  rfl

end Sys2Proof.Laws

namespace Sys2Proof.Proofs

open Sys2Proof Sys2Proof.Machine Sys2Proof.Laws

/-- Settles O34: each clause is the rule of its command, run on the state that counts the command. -/
theorem sessionCommandsComplete : Obligations.SessionCommandsComplete := by
  unfold Obligations.SessionCommandsComplete
  refine ⟨?_, bindAuth_eq, ?_, ?_, sesStatus_answers, hlcCommit_applies, ?_⟩
  · intro p s n ht hl hn ok present
    exact sesStart_binds p s n ht hl hn ok present
  · intro p s n ht present
    refine ⟨fun hp runs => ⟨?_, ?_⟩, fun r hp => ?_, fun hp => ?_⟩
    · exact sesStop_signals p s n ht present hp runs
    · exact sesStop_ends p s n ht present hp runs
    · exact sesStop_refuses p s n ht present r hp
    · exact sesStop_outOfService p s n ht present hp
  · exact fun p s n i pw d ht present hi hw hd hp => sesLimit_sets p s n i pw d ht present hi hw hd hp
  · intro p s n body t0 ht present u f held open4
    refine ⟨fun i hi inside hp => ?_, ?_, fun hp => ?_⟩
    · exact hlcExchange_reads p s n body t0 i ht present hi inside hp held open4
    · intro i tot d hi one room some1 fits same hp rest all sum
      exact hlcExchange_writes p s n body t0 i tot d ht present hi one room some1 fits hp held open4 same sum
    · exact hlcExchange_fails p s n body t0 ht present hp held open4

end Sys2Proof.Proofs

namespace Sys2Proof.Laws

open Sys2Proof Sys2Proof.Machine

/-! ## Cold and pin resets (R430, R436, R446 to R448) -/

/-- An update under way that a reset ends changes the update unit alone. -/
theorem updLost_only (s : State) : updLost s = { s with upd := (updLost s).upd } := by
  unfold updLost
  split
  · rfl
  · rfl

/-- What a reset takes from the event log changes the ledger alone. -/
theorem loseTail_only (s : State) : loseTail s = { s with led := (loseTail s).led } := by
  unfold loseTail
  dsimp only
  split
  · rfl
  · rfl

@[simp] theorem coldBase_phase (p : PhaseKind) (s : State) : (coldBase p s).pwr.phase = p := rfl

/-- A reset state that keeps what a cold reset does not reach (R447). -/
structure Persists (s t : State) : Prop where
  nvKey : t.nvKey = s.nvKey
  nvPt : t.nvPt = s.nvPt
  nvFe : t.nvFe = s.nvFe
  nvBill : t.nvBill = s.nvBill
  fst : t.fst = s.fst
  committed : t.blk.committed = s.blk.committed

/-- A state whose paths are off and whose pilots stand at F. -/
def AllOff (s : State) : Prop := ∀ n, PathsOff s n ∧ (pil s n).out = .F

/-- What a cold reset keeps of the state it finds (R447). -/
theorem coldBase_keeps (p : PhaseKind) (s : State) : Persists s (coldBase p s) ∧ (coldBase p s).tail = s.tail ∧
    (coldBase p s).pwr.vsysValid = s.pwr.vsysValid ∧ (coldBase p s).pwr.vsysMv = s.pwr.vsysMv := by
  have only := loseTail_only s
  unfold coldBase
  generalize (loseTail s).led = led at only
  rw [only]
  exact ⟨⟨rfl, rfl, rfl, rfl, rfl, rfl⟩, rfl, rfl, rfl⟩

theorem coldBase_allOff (p : PhaseKind) (s : State) : AllOff (coldBase p s) := by
  intro n
  simp [PathsOff, saf, pil, coldBase, vget_map]

/-- Counting a reset changes the Tailstock domain alone. -/
theorem countReset_only (k : Nat) (s : State) : countReset k s = { s with tail := (countReset k s).tail } := by
  unfold countReset
  split <;> rfl

/-- The state in which a cold or pin reset takes effect: counted, with its kind and cause kept. -/
def coldCounted (kind cause : Nat) (s : State) : State :=
  let s := countReset kind (updLost s)
  { s with tail.lastKind := kind, tail.lastCause := cause, pwr.heldKind := kind, pwr.heldCause := cause }

theorem coldEnter_eq (k c : Nat) (s : State) :
    coldEnter k c s = coldBase (if released (coldCounted k c s) then .boot else .held) (coldCounted k c s) := rfl

theorem coldCounted_only (k c : Nat) (s : State) : ∃ x, ∃ t : Tail, coldCounted k c s =
    { s with upd := x, tail := { t with lastKind := k, lastCause := c }, pwr := { s.pwr with heldKind := k, heldCause := c } } := by
  have counted := countReset_only k (updLost s)
  have lost := updLost_only s
  generalize (countReset k (updLost s)).tail = t at counted
  generalize (updLost s).upd = x at lost
  refine ⟨x, t, ?_⟩
  unfold coldCounted
  rw [counted, lost]

theorem countReset_updLost_tail (k : Nat) (s : State) : (countReset k (updLost s)).tail = (countReset k s).tail := by
  rw [updLost_only]
  unfold countReset
  split
  all_goals rfl

theorem coldCounted_tail (k c : Nat) (s : State) :
    (coldCounted k c s).tail = { (countReset k s).tail with lastKind := k, lastCause := c } := by
  rw [← countReset_updLost_tail]
  rfl

@[simp] theorem coldCounted_released (k c : Nat) (s : State) : released (coldCounted k c s) = released s := by
  obtain ⟨x, t, only⟩ := coldCounted_only k c s
  rw [only]
  rfl

/-- What a cold or pin reset leaves (R430, R446, R447, R456). -/
structure ColdStarted (k c : Nat) (s t : State) : Prop where
  phase : t.pwr.phase = if released s then .boot else .held
  vsysValid : t.pwr.vsysValid = s.pwr.vsysValid
  vsysMv : t.pwr.vsysMv = s.pwr.vsysMv
  tail : t.tail = { (countReset k s).tail with lastKind := k, lastCause := c }
  ready : t.port.ready = false
  flights : t.port.flights = []
  active : t.ev.active = []
  persists : Persists s t
  off : AllOff t

theorem coldEnter_starts (k c : Nat) (s : State) : ColdStarted k c s (coldEnter k c s) := by
  obtain ⟨x, t, only⟩ := coldCounted_only k c s
  obtain ⟨⟨key, pt, fe, bill, fst, com⟩, tail, valid, mv⟩ :=
    coldBase_keeps (if released (coldCounted k c s) then .boot else .held) (coldCounted k c s)
  rw [coldEnter_eq]
  constructor
  case phase => simp
  case vsysValid => rw [valid, only]
  case vsysMv => rw [mv, only]
  case tail => rw [tail, coldCounted_tail]
  case ready => rfl
  case flights => rfl
  case active => rfl
  case off => exact coldBase_allOff _ _
  case persists =>
    constructor
    · rw [key, only]
    · rw [pt, only]
    · rw [fe, only]
    · rw [bill, only]
    · rw [fst, only]
    · rw [com, only]

theorem coldReset_enters (k c : Nat) (s : State) (off : s.pwr.phase ≠ .off) (held : s.pwr.phase ≠ .held) (boot : s.pwr.phase ≠ .boot)
    (trial : onTrial s = false) : coldReset k c s = coldEnter k c s := by
  unfold coldReset
  split
  · contradiction
  · contradiction
  · contradiction
  · simp [trial]

/-! ### Rows of the supplies (R436) -/

/-- The Tailstock domain as POWER_ON finds it: empty where VBAT failed too (R455). -/
def vbatSeen (lost : Bool) (s : State) : State := if lost then { s with tail := { lastFired := Vector.replicate 3 0 } } else s

theorem vbatSeen_only (lost : Bool) (s : State) : vbatSeen lost s = { s with tail := (vbatSeen lost s).tail } := by
  cases lost
  · rfl
  · rfl

theorem powerOn_keeps (mv : Nat) (lost : Bool) (s : State) (h : s.pwr.vsysValid = true ∨ mv < 17500) :
    exec (.powerOn mv lost) s = .next s :=
  congrArg Host.Outcome.next (if_pos (by simpa using h))

theorem powerOn_starts (mv : Nat) (lost : Bool) (s : State) (h : s.pwr.vsysValid = false) (hm : 17500 ≤ mv) :
    exec (.powerOn mv lost) s = .next (coldEnter 0 0 { vbatSeen lost s with pwr.vsysValid := true, pwr.vsysMv := mv }) :=
  congrArg Host.Outcome.next (if_neg (by simpa [h] using hm))

theorem powerOn_resets (mv : Nat) (lost : Bool) (s : State) (h : s.pwr.vsysValid = false) (hm : 17500 ≤ mv) :
    ∃ t, exec (.powerOn mv lost) s = .next t ∧ t.pwr.vsysValid = true ∧ t.pwr.vsysMv = mv ∧
      t.pwr.phase = (if s.pwr.vioValid && s.pwr.resetN then .boot else .held) ∧ t.tail.lastKind = 0 ∧ t.tail.lastCause = 0 ∧
      (lost = false → t.tail.cold = satAdd 32 s.tail.cold 1) ∧ (lost = true → t.tail.intact = false ∧ t.tail.cold = 1) ∧
      t.nvKey = s.nvKey ∧ t.nvPt = s.nvPt ∧ t.nvFe = s.nvFe ∧ t.fst = s.fst ∧ t.blk.committed = s.blk.committed ∧ AllOff t := by
  obtain ⟨phase, valid, volts, tail, -, -, -, ⟨key, pt, fe, -, fst, com⟩, off⟩ :=
    coldEnter_starts 0 0 { vbatSeen lost s with pwr.vsysValid := true, pwr.vsysMv := mv }
  have only := vbatSeen_only lost s
  refine ⟨_, powerOn_starts mv lost s h hm, valid, volts, ?_, by rw [tail], by rw [tail], ?_, ?_, ?_, ?_, ?_, ?_, ?_, off⟩
  · rw [phase, only]
    rfl
  · rintro rfl
    rw [tail]
    rfl
  · rintro rfl
    rw [tail]
    exact ⟨rfl, rfl⟩
  · rw [key, only]
  · rw [pt, only]
  · rw [fe, only]
  · rw [fst, only]
  · rw [com, only]

theorem vsysInvalid_keeps (mv : Nat) (s : State) (h : s.pwr.vsysValid = false ∨ 12000 ≤ mv) : exec (.vsysInvalid mv) s = .next s :=
  congrArg Host.Outcome.next (if_pos (by simpa using h))

theorem vsysInvalid_stops (mv : Nat) (s : State) (h : s.pwr.vsysValid = true) (hm : mv < 12000) :
    ∃ t, exec (.vsysInvalid mv) s = .next t ∧ t.pwr.phase = .off ∧
      t.pwr.vsysValid = false ∧ t.tail = s.tail ∧ t.nvBill = s.nvBill ∧ t.nvKey = s.nvKey ∧ t.nvPt = s.nvPt ∧ t.port.ready = false ∧
      t.port.flights = [] ∧ t.ev.active = [] ∧ AllOff t := by
  have only := updLost_only { s with pwr.vsysValid := false, pwr.vsysMv := mv }
  obtain ⟨⟨key, pt, -, bill, -, -⟩, tail, valid, -⟩ := coldBase_keeps .off (updLost { s with pwr.vsysValid := false, pwr.vsysMv := mv })
  refine ⟨_, congrArg Host.Outcome.next (if_neg (by simpa [h] using hm)), rfl, ?_, ?_, ?_, ?_, ?_, rfl, rfl, rfl, coldBase_allOff _ _⟩
  · rw [valid, only]
  · rw [tail, only]
  · rw [bill, only]
  · rw [key, only]
  · rw [pt, only]

theorem vioInvalid_keeps (s : State) (h : s.pwr.vioValid = false) : exec .vioInvalid s = .next s :=
  congrArg Host.Outcome.next (if_pos (by simpa using h))

theorem vioInvalid_resets (s : State) (h : s.pwr.vioValid = true) : exec .vioInvalid s =
    .next (if s.pwr.phase = .shelf then { s with pwr.vioValid := false } else coldReset 0 1 { s with pwr.vioValid := false }) :=
  congrArg Host.Outcome.next (if_neg (by simpa using h))

theorem vioValid_keeps (s : State) (h : s.pwr.vioValid = true) : exec .vioValid s = .next s := congrArg Host.Outcome.next (if_pos h)

/-- The end of a holding condition goes to the boot where none is left, and changes the phase alone. -/
theorem tryRelease_eq (s : State) : tryRelease s =
    { s with pwr.phase := if s.pwr.phase = .held ∧ released s = true then .boot else s.pwr.phase } := by
  unfold tryRelease
  cases released s
  · simp
  · by_cases held : s.pwr.phase = .held
    · simp [held]
    · simp [held]

/-- A field domain that powers up without a field draws its identifier, and changes nothing else. -/
theorem fieldSupplied (s : State) : ∃ f r, (if s.fst.powered then s else newUid s) = { s with fst := f, clk.free := r } := by
  cases s.fst.powered
  · exact ⟨_, _, rfl⟩
  · exact ⟨s.fst, s.clk.free, rfl⟩

theorem vioValid_releases (s : State) (h : s.pwr.vioValid = false) :
    ∃ t, exec .vioValid s = .next t ∧ t = { s with pwr := t.pwr, fst := t.fst, clk := { s.clk with free := t.clk.free } } ∧
      t.pwr = { s.pwr with
        vioValid := true, phase := if s.pwr.phase = .held ∧ s.pwr.vsysValid = true ∧ s.pwr.resetN = true then .boot else s.pwr.phase } := by
  obtain ⟨f, r, supplied⟩ := fieldSupplied s
  refine ⟨_, congrArg Host.Outcome.next (if_neg (by simpa using h)), ?_⟩
  rw [supplied, tryRelease_eq]
  exact ⟨rfl, by simp [released]⟩

theorem resetN_falls (s : State) (h : s.pwr.resetN = true) : exec (.resetNPin true) s = .next (coldReset 1 5 { s with pwr.resetN := false }) := by
  show Host.Outcome.next (if (true == !s.pwr.resetN) = true then s else if true = true then _ else _) = _
  rw [if_neg (by simpa using h), if_pos rfl]

theorem resetN_rises (s : State) (h : s.pwr.resetN = false) : exec (.resetNPin false) s = .next { s with
    pwr.resetN := true, pwr.phase := if s.pwr.phase = .held ∧ s.pwr.vsysValid = true ∧ s.pwr.vioValid = true then .boot else s.pwr.phase } := by
  show Host.Outcome.next (if (false == !s.pwr.resetN) = true then s else if false = true then _ else _) = _
  rw [if_neg (by simpa using h), if_neg (by decide), tryRelease_eq]
  simp [released]

/-- A level of RESET_N that does not change leaves the device as it is. -/
theorem resetN_keeps (low : Bool) (s : State) (h : s.pwr.resetN = !low) : exec (.resetNPin low) s = .next s :=
  congrArg Host.Outcome.next (if_pos (by simp [h]))

theorem coldReset_off (k c : Nat) (s : State) (h : s.pwr.phase = .off) : coldReset k c s = s := by rw [coldReset, h]
theorem coldReset_held (k c : Nat) (s : State) (h : s.pwr.phase = .held) : coldReset k c s = countReset k s := by rw [coldReset, h]
theorem coldReset_boot (k c : Nat) (s : State) (h : s.pwr.phase = .boot) :
    coldReset k c s = if released s then countReset k s else { countReset k s with pwr.phase := .held } := by rw [coldReset, h]

theorem coldReset_starts (k c : Nat) (s : State) (off : s.pwr.phase ≠ .off) (held : s.pwr.phase ≠ .held) (boot : s.pwr.phase ≠ .boot)
    (trial : onTrial s = false) : ∃ t, coldReset k c s = t ∧
      t.pwr.phase = (if released s then .boot else .held) ∧ t.tail.lastKind = k ∧ t.tail.lastCause = c ∧
      (k = 0 → t.tail.cold = satAdd 32 s.tail.cold 1) ∧ (k = 1 → t.tail.pin = satAdd 32 s.tail.pin 1) ∧
      t.port.ready = false ∧ t.port.flights = [] ∧ t.ev.active = [] ∧ t.nvKey = s.nvKey ∧ t.nvPt = s.nvPt ∧ t.fst = s.fst ∧ AllOff t := by
  obtain ⟨phase, -, -, tail, ready, flights, active, ⟨key, pt, -, -, fst, -⟩, off'⟩ := coldEnter_starts k c s
  refine ⟨_, coldReset_enters k c s off held boot trial, phase, by rw [tail], by rw [tail], ?_, ?_, ready, flights, active, key, pt, fst, off'⟩
  · rintro rfl
    rw [tail]
    rfl
  · rintro rfl
    rw [tail]
    rfl

end Sys2Proof.Laws

namespace Sys2Proof.Laws

open Sys2Proof Sys2Proof.Machine

/-! ## The units a start brings up, and the device's spine -/

@[simp] theorem spine_upd_key (s : State) (x) : spine { s with key := x } = spine s := rfl
@[simp] theorem spine_upd_nvKey (s : State) (x) : spine { s with nvKey := x } = spine s := rfl
@[simp] theorem spine_upd_nvFe (s : State) (x) : spine { s with nvFe := x } = spine s := rfl

@[simp] theorem spine_e120 (key slot code : Nat) (s : State) : spine (e120 key slot code s) = spine s := by simp [e120]
@[simp] theorem spine_slotLoad (i : Fin 64) (key : Nat) (s : State) : spine (slotLoad i key s) = spine s := by simp [slotLoad]

/-- Of the spine, a start of K sets that K runs. -/
theorem spine_kStart (s : State) : spine (kStart s) = spine { s with pwr.kRunning := true } := by
  unfold kStart
  rw [spine_slotLoad, spine_slotLoad]
  rfl

@[simp] theorem spine_setSync (on : Bool) (ofs : Nat) (s : State) : spine (setSync on ofs s) = spine s := by simp [setSync]
@[simp] theorem spine_dropPred (k : Nat) (s : State) : spine (dropPred k s) = spine s := by simp [dropPred]
@[simp] theorem spine_setFailsafe (s : State) : spine (setFailsafe s) = spine s := by simp [setFailsafe]

@[simp] theorem spine_joinAgain (b : Option (List Byte)) (s : State) : spine (joinAgain b s) = spine s := by
  have levels (ev : Nat) (hev : 8 ≤ ev) (l : List Nat) (t : State) :
      spine (l.foldl (fun t k => level ev k false (prm [(1, k + 1)]) t) t) = spine t :=
    foldl_keeps spine _ (fun t k => spine_level ev k false _ t hev) l t
  unfold joinAgain
  dsimp only
  split
  all_goals simp [levels]

@[simp] theorem spine_tdrStart (s : State) : spine (tdrStart s) = spine s := by simp [tdrStart]
@[simp] theorem spine_dspStart (s : State) : spine (dspStart s) = spine s := by simp [dspStart]

/-- Of the spine, a start of T sets that T runs. -/
theorem spine_startT (s : State) : spine (startT s) = spine { s with pwr.tRunning := true } := by
  unfold startT
  rw [spine_dspStart, spine_tdrStart]

/-- The state in which the application side starts, before its sessions follow (R379, R403, R456). -/
def appBegun (s : State) : State :=
  { s with
    port.ready := true, port.netPend := none, port.netApplied := committed s 0x0110
    led.bootCnt := (s.led.bootCnt + 1) % 2 ^ 32
    pwr.appRunning := true, pwr.appResetAt := none, pwr.pstate := .run, pwr.aTask := true, pwr.allowedSince := none
    clk.tStart := if s.clk.timeValid then now s else 0
    upd.mirror := [s.tail.cold, s.tail.pin, s.tail.warm, s.tail.block], sw.stale := false }

theorem appStart_eq (s : State) : appStart s = retryOpen (followLimp ((points s).foldl (fun t n => closeWarm n t) (appBegun s))) := rfl

theorem spine_appStart (s : State) : spine (appStart s) = spine (appBegun s) := by
  rw [appStart_eq, spine_retryOpen, spine_followLimp]
  exact foldl_keeps spine _ (fun t n => spine_closeWarm n t) _ _

@[simp] theorem spine_e1 (k c : Nat) (s : State) : spine (e1 k c s) = spine s := by simp [e1]

/-! ## Boot (R451) -/

/-- What COLD_RESET leaves for certain of the supplies, the port and the port start counter. -/
def bootView (s : State) : PhaseKind × Option (List Byte) × Bool × Nat := (s.pwr.phase, s.pwr.optLoaded, s.port.wait, s.led.bootCnt)

theorem bootView_of_spine {s t : State} (h : spine t = spine s) : bootView t = bootView s := of_spine bootView (fun _ => rfl) h

theorem bootView_level (ev key : Nat) (on : Bool) (p : List Byte) (s : State) : bootView (level ev key on p s) = bootView s :=
  of_quiet bootView (fun _ => rfl) (quiet_level ev key on p s)

/-- Boot step 3 loads the option record; without a valid copy the port waits (R387, R452). -/
theorem bootView_bootRecords (straps : Nat) (s : State) :
    bootView (bootRecords straps s) = (s.pwr.phase, optPick s, (optPick s).isNone, s.led.bootCnt) := by
  unfold bootRecords
  extract_lets o own _ _ _ _ u v
  have noted : spine v = spine u := by
    show spine (if o.isNone then pulse 11 (prm [(1, 3)]) u else u) = _
    split
    · exact spine_pulse _ _ _
    · rfl
  exact bootView_of_spine ((spine_followLimp v).trans noted)

theorem bootView_bootMeasure (s : State) : bootView (bootMeasure s) = bootView s := by
  unfold bootMeasure
  extract_lets a dbg was _ _ u v
  have noted : spine v = spine u := by
    show spine (if dbg then level 123 0 true [] u else if was then occur 123 false [] u else u) = _
    split
    · exact spine_level _ _ _ _ _ (by decide)
    · split
      · exact spine_occur _ _ _ _
      · rfl
  exact ((bootView_of_spine (spine_kStart v)).trans (rfl : _ = bootView v)).trans (bootView_of_spine noted)

theorem bootView_bootTime (s : State) : bootView (bootTime s) = bootView s := by
  unfold bootTime
  extract_lets t m u was _ v w x
  have restored : bootView u = bootView s := by
    show bootView (if t.intact then s else _) = _
    split
    · rfl
    · rfl
  have levels : bootView x = bootView s := by
    rw [bootView_level, bootView_level]
    exact restored
  split
  · exact (bootView_of_spine (spine_pulse _ _ _)).trans levels
  · exact levels

@[simp] theorem spine_setDegraded (g : Nat) (on : Bool) (s : State) : spine (setDegraded g on s) = spine s := by simp [setDegraded]
@[simp] theorem spine_e81 (c : Fin 24) (s : State) : spine (e81 c s) = spine s := by simp [e81]
@[simp] theorem spine_e76 (n : Fin 8) (step : Nat) (on : Bool) (s : State) : spine (e76 n step on s) = spine s := by simp [e76]
@[simp] theorem spine_setLockFault (n : Fin 8) (on : Bool) (s : State) : spine (setLockFault n on s) = spine s := by simp [setLockFault]
@[simp] theorem spine_e77 (n : Fin 8) (a b : Nat) (s : State) : spine (e77 n a b s) = spine s := by simp [e77]

@[simp] theorem spine_reportFault (s : State) : spine (reportFault s) = spine s := by
  unfold reportFault
  split
  · split
    · rfl
    · simp
  · rfl

@[simp] theorem spine_reraise (s : State) : spine (reraise s) = spine s := by
  have degraded (l : List (Fin 9)) (t : State) :
      spine (l.foldl (fun t g => if vget t.nvFe.degraded g then setDegraded g.1 true t else t) t) = spine t := by
    refine foldl_keeps spine _ (fun t g => ?_) l t
    split
    all_goals simp
  have credit (l : List (Fin 9)) (t : State) : spine (l.foldl (fun t m =>
      let p := prm [(1, m.1), (8, now t)]
      let st := (vget t.p100.m m).ppState
      level 39 m.1 (st == .ppFault) p (level 37 m.1 (st == .low) p t)) t) = spine t :=
    foldl_keeps spine _ (fun t m => by simp) l t
  have channels (l : List (Fin 24)) (t : State) : spine (l.foldl (fun t c => e81 c t) t) = spine t :=
    foldl_keeps spine _ (fun t c => spine_e81 c t) l t
  have points (l : List (Fin 8)) (t : State) : spine (l.foldl (fun t n =>
      let x := nvp t n
      let t := if x.welded then level 75 n.1 true (prm75 t n) t else t
      let t := if x.pathFail then e76 n 1 true t else t
      let t := if x.cutFault then e76 n 4 true t else t
      if x.lockFault then setLockFault n true t else t) t) = spine t := by
    refine foldl_keeps spine _ (fun t n => ?_) l t
    dsimp only
    repeat' split
    all_goals simp
  unfold reraise
  dsimp only
  simp only [spine_level, spine_reportFault, Nat.reduceLeDiff]
  rw [points, channels, credit, degraded]

@[simp] theorem spine_checkAtStart (s : State) : spine (checkAtStart s) = spine s := by
  unfold checkAtStart
  refine foldl_keeps spine _ (fun t n => ?_) _ s
  dsimp only
  split
  all_goals simp

/-- Boot step 5 sets the device running. -/
theorem bootView_bootMetering (s : State) :
    bootView (bootMetering s) = (.run, s.pwr.optLoaded, s.port.wait, s.led.bootCnt) := by
  unfold bootMetering
  extract_lets u
  exact bootView_of_spine ((spine_checkAtStart _).trans (spine_startMeters _ _))

/-! ### The ledger and the billing at a start (R117, R143) -/

@[simp] theorem spine_adoptSlot (s : State) : spine (adoptSlot s) = spine s := by
  unfold adoptSlot
  split
  · simp
  · simp

@[simp] theorem spine_queueStart (s : State) : spine (queueStart s) = spine s := by
  unfold queueStart
  split
  · simp
  · rfl

@[simp] theorem spine_netPending (m : Fin 9) (s : State) : spine (netPending m s) = spine s := by simp [netPending]

@[simp] theorem spine_restoreSession (n : Fin 8) (s : State) : spine (restoreSession n s) = spine s := by
  unfold restoreSession
  dsimp only
  split
  all_goals simp

@[simp] theorem spine_netRestore (m : Fin 9) (s : State) : spine (netRestore m s) = spine s := by
  unfold netRestore
  dsimp only
  repeat' split
  all_goals simp

/-- A restoration is over with the warning that the device had kept (R143). -/
theorem bootView_restore (s : State) : bootView (restore s) = bootView s := by
  unfold restore
  extract_lets u r tariffs _ v w x
  have nets : spine u = spine s := by
    refine foldl_keeps spine _ (fun t m => ?_) _ s
    split
    all_goals simp
  have fired : spine v = spine s := by
    refine (spine_profileRun _ _).trans ((spine_upd_p100 tariffs _).trans ?_)
    exact (spine_tariffEval r.1).trans ((spine_gridFire true u).trans nets)
  have recorded : spine w = spine s := (spine_queueRec _ _).trans fired
  have sessions : spine x = spine w := foldl_keeps spine _ (fun t n => spine_restoreSession n t) (units 8) w
  have restored : bootView x = bootView s := bootView_of_spine (sessions.trans recorded)
  clear_value x
  exact (bootView_of_spine (spine_persist _)).trans restored

@[simp] theorem spine_markOutage (s : State) : spine (markOutage s) = spine s := by simp [markOutage]

theorem bootView_bootBilling (s : State) : bootView (bootBilling s) = bootView s := by
  unfold bootBilling
  extract_lets _ u _ v _ w _ x _ y
  have windows : spine u = spine s := foldl_keeps spine _ (fun t m => (spine_netPending m _).trans (spine_startWin m t)) (units 9) _
  have demand : bootView v = bootView s := bootView_of_spine windows
  have outage : bootView w = bootView v := bootView_of_spine (spine_markOutage _)
  have restored : bootView x = bootView s := by
    show bootView (if restoreDue v then (if w.clk.timeValid then restore w else w) else if v.nvBill.planned then _ else v) = _
    split
    · split
      · exact (bootView_restore w).trans (outage.trans demand)
      · exact outage.trans demand
    · split
      · exact demand
      · exact demand
  have kept : bootView y = bootView s := restored
  split
  · refine (bootView_of_spine ((spine_tamperRec _ _ _ _ _).trans (spine_pulse _ _ _))).trans kept
  · exact kept

@[simp] theorem spine_bootLegal (s : State) : spine (bootLegal s) = spine s := by
  unfold bootLegal
  dsimp only
  split
  · rfl
  · simp

/-! ### The application side at a start (R310, R331, R347, R372, R388, R451) -/

@[simp] theorem spine_queueReq (q : UpdReq) (s : State) : spine (queueReq q s) = spine s := by
  unfold queueReq
  split
  · rfl
  · simp

@[simp] theorem spine_dspCold (s : State) : spine (dspCold s) = spine s := by
  unfold dspCold
  dsimp only
  split
  all_goals simp

@[simp] theorem spine_e12 (r gen cause : Nat) (s : State) : spine (e12 r gen cause s) = spine s := by simp [e12]

@[simp] theorem spine_repairRec (r : Nat) (s : State) : spine (repairRec r s) = spine s := by
  unfold repairRec
  dsimp only
  split
  · split
    all_goals simp
  · simp

@[simp] theorem spine_wiredWrite (r : Nat) (d : List Byte) (s : State) : spine (wiredWrite r d s) = spine s := by
  unfold wiredWrite
  dsimp only
  split
  all_goals simp

@[simp] theorem spine_statusSync (s : State) : spine (statusSync s) = spine s := by
  unfold statusSync
  dsimp only
  repeat' split
  all_goals simp

@[simp] theorem spine_foundWrites (s : State) : spine (foundWrites s) = spine s := by
  unfold foundWrites
  have noted (l : List (Fin 32)) (t : State) :
      spine (l.foldl (fun t r => if s.fst.confW.getLsbD r.1 then e12 r.1 (recGen t.fst.mem r.1) 0 t else t) t) = spine t := by
    refine foldl_keeps spine _ (fun t r => ?_) l t
    split
    · exact spine_e12 _ _ _ _
    · rfl
  rw [noted, spine_upd_fst]

@[simp] theorem spine_confirmCheck (n : Fin 8) (v : Nat) (s : State) : spine (confirmCheck n v s) = spine s := by simp [confirmCheck]

@[simp] theorem spine_confirmRec (n : Fin 8) (s : State) : spine (confirmRec n s) = spine s := by
  unfold confirmRec
  dsimp only
  repeat' split
  all_goals simp

@[simp] theorem spine_storeStart (s : State) : spine (storeStart s) = spine s := by
  have repaired (l : List (Fin 32)) (t : State) : spine (l.foldl (fun t r => repairRec r.1 t) t) = spine t :=
    foldl_keeps spine (fun t (r : Fin 32) => repairRec r.1 t) (fun t r => spine_repairRec r.1 t) l t
  have confirmed (l : List (Fin 8)) (t : State) : spine (l.foldl (fun t n => confirmRec n t) t) = spine t :=
    foldl_keeps spine _ (fun t n => spine_confirmRec n t) l t
  simp [storeStart, repaired, confirmed]

@[simp] theorem spine_setPtp (st : PtpSt) (s : State) : spine (setPtp st s) = spine s := by
  unfold setPtp
  split
  · rfl
  · exact spine_pulse _ _ _

@[simp] theorem spine_ptpStart (s : State) : spine (ptpStart s) = spine s := spine_setPtp _ _

@[simp] theorem spine_ringStart (s : State) : spine (ringStart s) = spine s := rfl

@[simp] theorem spine_bootAntennas (s : State) : spine (bootAntennas s) = spine s := by
  unfold bootAntennas
  refine foldl_keeps spine _ (fun t k => ?_) _ s
  repeat' split
  all_goals simp [e101]

theorem bootView_bootApplication (s : State) : bootView (bootApplication s) = bootView s := by
  unfold bootApplication
  extract_lets _ _ u
  refine (bootView_of_spine (?_ : _ = spine u)).trans rfl
  simp

/-! ### The sequence -/

/-- The state in which the application side starts. -/
def bootReady (straps : Nat) (s : State) : State :=
  let s := reraise (bootMetering (bootTime (bootMeasure (bootRecords straps s))))
  bootApplication (bootLegal (bootBilling (queueStart (adoptSlot s))))

theorem bootView_bootReady (straps : Nat) (s : State) :
    bootView (bootReady straps s) = (.run, optPick s, (optPick s).isNone, s.led.bootCnt) := by
  have early : bootView (bootTime (bootMeasure (bootRecords straps s))) = (s.pwr.phase, optPick s, (optPick s).isNone, s.led.bootCnt) := by
    rw [bootView_bootTime, bootView_bootMeasure, bootView_bootRecords]
  obtain ⟨-, loaded, wait, count⟩ : _ ∧ _ ∧ _ ∧ _ := by simpa [bootView] using early
  unfold bootReady
  rw [bootView_bootApplication, bootView_of_spine (spine_bootLegal _), bootView_bootBilling, bootView_of_spine (spine_queueStart _),
    bootView_of_spine (spine_adoptSlot _), bootView_of_spine (spine_reraise _), bootView_bootMetering, loaded, wait, count]

theorem boot_test (straps : Nat) (s : State) :
    boot straps true s = { s with pwr.testMode := true, pwr.straps := straps % 64, pwr.phase := .testHold } := rfl

theorem boot_eq (straps : Nat) (s : State) :
    let u := appStart (bootReady straps { s with pwr.testMode := false, pwr.straps := straps % 64 })
    boot straps false s = persist (e1 u.pwr.heldKind u.pwr.heldCause u) := by
  unfold boot bootReady
  simp only [Bool.false_eq_true, if_false]

theorem coldReset_waits (straps : Nat) (s : State) (h : s.pwr.phase ≠ .boot) (test : Bool) : exec (.coldReset straps test) s = .next s :=
  congrArg Host.Outcome.next (if_neg h)

theorem coldReset_holds (straps : Nat) (s : State) (h : s.pwr.phase = .boot) :
    exec (.coldReset straps true) s = .next { s with pwr.testMode := true, pwr.straps := straps % 64, pwr.phase := .testHold } :=
  congrArg Host.Outcome.next ((if_pos h).trans (boot_test straps s))

theorem coldReset_boots (straps : Nat) (s : State) (h : s.pwr.phase = .boot) :
    ∃ t, exec (.coldReset straps false) s = .next t ∧ t.pwr.phase = .run ∧ t.port.ready = true ∧ t.pwr.appRunning = true ∧
      t.led.bootCnt = (s.led.bootCnt + 1) % 2 ^ 32 ∧ t.port.wait = (optPick s).isNone ∧ t.pwr.optLoaded = optPick s := by
  have sequence := boot_eq straps s
  have view : _ = (PhaseKind.run, optPick s, (optPick s).isNone, s.led.bootCnt) :=
    bootView_bootReady straps { s with pwr.testMode := false, pwr.straps := straps % 64 }
  generalize bootReady straps { s with pwr.testMode := false, pwr.straps := straps % 64 } = u at sequence view
  have begun : spine (boot straps false s) = spine (appBegun u) := by
    rw [sequence, spine_persist, spine_e1, spine_appStart]
  obtain ⟨phase, loaded, wait, count⟩ : u.pwr.phase = .run ∧ u.pwr.optLoaded = optPick s ∧ u.port.wait = (optPick s).isNone ∧
      u.led.bootCnt = s.led.bootCnt := by simpa [bootView] using view
  refine ⟨_, congrArg Host.Outcome.next (if_pos h), ?_, ?_, ?_, ?_, ?_, ?_⟩
  · exact (of_spine (fun t => t.pwr.phase) (fun _ => rfl) begun).trans phase
  · exact of_spine (fun t => t.port.ready) (fun _ => rfl) begun
  · exact of_spine (fun t => t.pwr.appRunning) (fun _ => rfl) begun
  · exact (of_spine (fun t => t.led.bootCnt) (fun _ => rfl) begun).trans (congrArg (fun b => (b + 1) % 2 ^ 32) count)
  · exact (of_spine (fun t => t.port.wait) (fun _ => rfl) begun).trans wait
  · exact (of_spine (fun t => t.pwr.optLoaded) (fun _ => rfl) begun).trans loaded

end Sys2Proof.Laws

namespace Sys2Proof.Laws

open Sys2Proof Sys2Proof.Machine

/-! ## What a warm or block reset leaves (R14, R447, R449) -/

/-- What a warm or block reset is held to: what runs on, and what of the supplies, the port and the grants it ends. -/
def resetView (s : State) : State :=
  { tail := s.tail
    pwr := { inWarm := s.pwr.inWarm, warmReq := s.pwr.warmReq, appRunning := s.pwr.appRunning, blkBegan := s.pwr.blkBegan }
    port := { ready := s.port.ready, flights := s.port.flights, held := s.port.held }
    key := { grants := s.key.grants }
    blk := { stored := s.blk.stored, committed := s.blk.committed }
    fe := s.fe, filt := s.filt, safeDev := s.safeDev, mbx := s.mbx }

theorem of_resetView {α : Type} (f : State → α) (hf : ∀ u, f (resetView u) = f u) {s t : State} (h : resetView t = resetView s) :
    f t = f s := by
  rw [← hf t, h, hf s]

theorem resetView_of_offPoint {s t : State} (h : offPoint t = offPoint s) : resetView t = resetView s := of_offPoint resetView (fun _ => rfl) h

@[simp] theorem offPoint_closeWarm (n : Fin 8) (s : State) : offPoint (closeWarm n s) = offPoint s := by
  unfold closeWarm
  split
  · exact offPoint_closeValues _ _ _ _
  · rfl

@[simp] theorem offPoint_armX1 (n : Fin 8) (s : State) : offPoint (armX1 n s) = offPoint s := by
  unfold armX1
  split
  · exact offPoint_closeWarm _ _
  · rfl

@[simp] theorem offPoint_hlcLost (n : Fin 8) (s : State) : offPoint (hlcLost n s) = offPoint s := rfl

@[simp] theorem offPoint_lhDrive (s : State) : offPoint (lhDrive s) = offPoint s := by
  refine foldl_keeps offPoint _ (fun t c => ?_) _ s
  dsimp only
  repeat' split
  all_goals simp

@[simp] theorem offPoint_followLimp (s : State) : offPoint (followLimp s) = offPoint s := by
  unfold followLimp
  extract_lets on lv cz _ u
  have noted : offPoint u = offPoint s := (offPoint_level _ _ _ _ _).trans (offPoint_upd_sw s _)
  split
  · rfl
  · split
    · rw [offPoint_lhDrive]
      exact (offPoint_upd_sw u _).trans noted
    · exact noted

@[simp] theorem offPoint_resetChannels (s : State) : offPoint (resetChannels s) = offPoint s := by
  unfold resetChannels
  extract_lets u v
  have channels : offPoint v = offPoint u := by
    refine foldl_keeps offPoint _ (fun t c => ?_) (units 24) u
    dsimp only
    split
    · exact offPoint_chanOff _ _
    · rfl
  exact (offPoint_upd_sw v _).trans (channels.trans (offPoint_followLimp s))

/-! ### The units -/

@[simp] theorem resetView_resetChannels (s : State) : resetView (resetChannels s) = resetView s := resetView_of_offPoint (offPoint_resetChannels s)

@[simp] theorem resetView_resetK (s : State) : resetView (resetK s) = resetView s := rfl

@[simp] theorem resetView_dspStop (s : State) : resetView (dspStop s) = resetView s := by
  unfold dspStop discharge
  split
  · rfl
  · rfl

@[simp] theorem resetView_resetT (s : State) : resetView (resetT s) = resetView s := by
  unfold resetT
  exact (resetView_dspStop _)

@[simp] theorem resetView_resetP (u : Nat) (s : State) : resetView (resetP u s) = resetView s := by
  unfold resetP
  extract_lets _ t
  refine (resetView_of_offPoint (foldl_keeps offPoint _ (fun t n => ?_) _ t)).trans rfl
  split
  · exact (offPoint_hlcLost _ _).trans (offPoint_armX1 _ _)
  · rfl

/-- The application side ends: the port stops and forgets what it holds, and the grants go (R379, R417). -/
def appEnded (s : State) : State :=
  { s with port.ready := false, port.flights := [], port.held := [], key.grants := [], pwr.appRunning := false }

theorem resetView_resetA (s : State) : resetView (resetA s) = resetView (appEnded s) := by
  have lost := updLost_only s
  unfold resetA
  generalize (updLost s).upd = x at lost
  rw [lost]
  refine (resetView_of_offPoint (foldl_keeps offPoint _ (fun t n => ?_) _ _)).trans rfl
  exact (offPoint_hlcLost _ _).trans (offPoint_armX1 _ _)

/-- Of the supplies, the end of the block reset in hand changes what the block reset keeps. -/
theorem quiet_blockOver (s : State) : quiet (blockOver s) = quiet { s with pwr.blkUnit := none, pwr.blkBegan := none } := by
  unfold blockOver
  extract_lets u
  have noted : quiet u = quiet s := by
    show quiet (match s.pwr.blkUnit with
      | some k => if s.pwr.blkBegan.isSome then e2 k false false s else s
      | none => s) = _
    split
    · split
      · exact quiet_level _ _ _ _ _
      · rfl
    · rfl
  exact of_quiet (fun t => quiet { t with pwr.blkUnit := none, pwr.blkBegan := none }) (fun _ => rfl) noted

/-! ### Sessions that do not run (R450) -/

/-- A fold of steps that each keep a projection at one value keeps it there. -/
theorem foldl_stays {α β : Type} (q : State → α) (x : α) (g : State → β → State) (h : ∀ t b, q t = x → q (g t b) = x) (l : List β)
    (s : State) (hs : q s = x) : q (l.foldl g s) = x := by
  induction l generalizing s with
  | nil => exact hs
  | cons b l ih => exact ih _ (h s b hs)

/-- The front end, the registers, the paths and the sessions of the meters. -/
def works (s : State) : Fe × Energy × Vector Safe 8 × Vector SessP 8 := (s.fe, s.en, s.safe, s.p100.sess)

theorem fe_of_works {s t : State} (h : works t = works s) : t.fe = s.fe := congrArg (fun x => x.1) h
theorem en_of_works {s t : State} (h : works t = works s) : t.en = s.en := congrArg (fun x => x.2.1) h
theorem safe_of_works {s t : State} (h : works t = works s) : t.safe = s.safe := congrArg (fun x => x.2.2.1) h

theorem works_level (ev key : Nat) (on : Bool) (p : List Byte) (s : State) : works (level ev key on p s) = works s :=
  of_quiet works (fun _ => rfl) (quiet_level ev key on p s)

theorem works_pulse (ev : Nat) (p : List Byte) (s : State) : works (pulse ev p s) = works s :=
  of_quiet works (fun _ => rfl) (quiet_pulse ev p s)

theorem works_lhDrive (s : State) : works (lhDrive s) = works s := by
  refine foldl_keeps works _ (fun t c => ?_) _ s
  dsimp only
  repeat' split
  all_goals rfl

theorem works_followLimp (s : State) : works (followLimp s) = works s := by
  unfold followLimp
  extract_lets on lv cz _ u
  have noted : works u = works s := (works_level _ _ _ _ _).trans rfl
  split
  · rfl
  · split
    · rw [works_lhDrive]
      exact noted
    · exact noted

theorem works_resetChannels (s : State) : works (resetChannels s) = works s := by
  unfold resetChannels
  extract_lets u v
  have channels : works v = works u := by
    refine foldl_keeps works _ (fun t c => ?_) (units 24) u
    dsimp only
    split
    · rfl
    · rfl
  exact channels.trans (works_followLimp s)

theorem works_resetT (s : State) : works (resetT s) = works s := by
  unfold resetT dspStop discharge
  split
  · rfl
  · rfl

theorem works_resetK (s : State) : works (resetK s) = works s := rfl

/-- No session runs on the meters. -/
def NoSessions (x : Fe × Energy × Vector Safe 8 × Vector SessP 8) : Prop := ∀ n, ((vget x.2.2.2 n).on && (vget x.2.2.2 n).closing.isNone) = false

/-- A point without a session is not affected by a reset. -/
theorem works_armX1 (n : Fin 8) (s : State) (h : NoSessions (works s)) : works (armX1 n s) = works s := by
  have idle : sessRuns s n = false := h n
  unfold armX1
  rw [idle]
  rfl

theorem works_resetP (u : Nat) (s : State) (h : NoSessions (works s)) : works (resetP u s) = works s := by
  unfold resetP
  extract_lets _ v
  refine foldl_stays works (works s) _ (fun t n ht => ?_) _ v rfl
  split
  · exact (works_armX1 n t (ht ▸ h)).trans ht
  · exact ht

theorem works_resetA (s : State) (h : NoSessions (works s)) : works (resetA s) = works s := by
  have lost := updLost_only s
  unfold resetA
  generalize (updLost s).upd = x at lost
  rw [lost]
  exact foldl_stays works (works s) (fun t n => hlcLost n (armX1 n t)) (fun t n ht => (works_armX1 n t (ht ▸ h)).trans ht) _ _ rfl

/-! ### Warm resets (R14, R447, R450, R456) -/

theorem reqWarm_off (c : Nat) (s : State) (h : gridRuns s = false) : reqWarm c s = s := by simp [reqWarm, h]

theorem reqWarm_absorbed (c : Nat) (s : State) (h : gridRuns s = true) (due : s.pwr.inWarm = true ∨ s.pwr.warmReq.isSome = true) :
    reqWarm c s = countReset 2 s := by
  unfold reqWarm
  rw [if_neg (by simp [h]), if_pos (by simpa using due)]

theorem reqWarm_due (c : Nat) (s : State) (h : gridRuns s = true) (idle : s.pwr.inWarm = false) (none : s.pwr.warmReq = none) :
    reqWarm c s = { s with pwr.warmReq := some c } := by
  unfold reqWarm
  rw [if_neg (by simp [h]), if_neg (by simp [idle, none])]

/-- A warm reset takes its marks: it is counted, and its kind and cause are kept (R456). -/
def warmMarked (c : Nat) (s : State) : State :=
  let u := countReset 2 s
  { u with
    tail.lastKind := 2, tail.lastCause := c
    pwr.inWarm := true, pwr.warmAt := some u.clk.mono, pwr.warmCause := c, pwr.warmReq := none }

/-- The state in which a warm reset ends its units. -/
def warmBegun (c : Nat) (s : State) : State := dropCommits [7, 9] (warmMarked c (blockOver s))

theorem warmEnter_eq (c : Nat) (s : State) :
    warmEnter c s = resetChannels (resetK (resetT (resetP 5 (resetP 1 (resetA (warmBegun c s)))))) := rfl

/-- What a warm reset leaves (R14, R447, R456). -/
structure WarmStarted (c : Nat) (s t : State) : Prop where
  inWarm : t.pwr.inWarm = true
  warmReq : t.pwr.warmReq = none
  tail : t.tail = { s.tail with warm := satAdd 32 s.tail.warm 1, lastKind := 2, lastCause := c }
  ready : t.port.ready = false
  flights : t.port.flights = []
  held : t.port.held = []
  grants : t.key.grants = []
  fe : t.fe = s.fe
  filt : t.filt = s.filt
  safeDev : t.safeDev = s.safeDev
  mbx : t.mbx = s.mbx
  stored : t.blk.stored = s.blk.stored
  committed : t.blk.committed = s.blk.committed

theorem resetView_warmEnter (c : Nat) (s : State) :
    resetView (warmEnter c s) = resetView (appEnded (dropCommits [7, 9] (warmMarked c { s with pwr.blkUnit := none, pwr.blkBegan := none }))) := by
  rw [warmEnter_eq, resetView_resetChannels, resetView_resetK, resetView_resetT, resetView_resetP, resetView_resetP, resetView_resetA]
  exact of_quiet (fun u => resetView (appEnded (dropCommits [7, 9] (warmMarked c u)))) (fun _ => rfl) (quiet_blockOver s)

theorem warmEnter_starts (c : Nat) (s : State) : WarmStarted c s (warmEnter c s) := by
  have units := resetView_warmEnter c s
  generalize warmEnter c s = t at units
  constructor
  case inWarm => exact (of_resetView (fun t => t.pwr.inWarm) (fun _ => rfl) units).trans rfl
  case warmReq => exact (of_resetView (fun t => t.pwr.warmReq) (fun _ => rfl) units).trans rfl
  case tail => exact (of_resetView State.tail (fun _ => rfl) units).trans rfl
  case ready => exact (of_resetView (fun t => t.port.ready) (fun _ => rfl) units).trans rfl
  case flights => exact (of_resetView (fun t => t.port.flights) (fun _ => rfl) units).trans rfl
  case held => exact (of_resetView (fun t => t.port.held) (fun _ => rfl) units).trans rfl
  case grants => exact (of_resetView (fun t => t.key.grants) (fun _ => rfl) units).trans rfl
  case fe => exact (of_resetView State.fe (fun _ => rfl) units).trans rfl
  case filt => exact (of_resetView State.filt (fun _ => rfl) units).trans rfl
  case safeDev => exact (of_resetView State.safeDev (fun _ => rfl) units).trans rfl
  case mbx => exact (of_resetView State.mbx (fun _ => rfl) units).trans rfl
  case stored => exact (of_resetView (fun t => t.blk.stored) (fun _ => rfl) units).trans rfl
  case committed => exact (of_resetView (fun t => t.blk.committed) (fun _ => rfl) units).trans rfl

/-- With no session running, a warm reset leaves the meters' registers as they are. -/
theorem warmEnter_en (c : Nat) (s : State) (h : ∀ n, sessRuns s n = false) : (warmEnter c s).en = s.en := by
  have ended : works (blockOver s) = works s := (of_quiet works (fun _ => rfl) (quiet_blockOver s)).trans rfl
  have begun : works (warmBegun c s) = works s := ended
  have idle : NoSessions (works s) := h
  have a : works (resetA (warmBegun c s)) = works s := (works_resetA _ (begun ▸ idle)).trans begun
  have p1 : works (resetP 1 (resetA (warmBegun c s))) = works s := (works_resetP 1 _ (a ▸ idle)).trans a
  have p5 : works (resetP 5 (resetP 1 (resetA (warmBegun c s)))) = works s := (works_resetP 5 _ (p1 ▸ idle)).trans p1
  have all : works (warmEnter c s) = works s := by
    rw [warmEnter_eq, works_resetChannels, works_resetK, works_resetT]
    exact p5
  exact en_of_works all

theorem warmReset_idle (s : State) (h : s.pwr.warmReq = none ∨ gridRuns s = false) : exec .warmReset s = .next s := by
  refine congrArg Host.Outcome.next ?_
  rcases h with h | h
  · rw [h]
  · cases s.pwr.warmReq
    · rfl
    · simp [h]

theorem warmReset_due (c : Nat) (s : State) (h : s.pwr.warmReq = some c) (runs : gridRuns s = true) :
    exec .warmReset s = .next (if onTrial s then trialReset c s else warmEnter c s) := by
  show Host.Outcome.next (match s.pwr.warmReq with
    | some c => if gridRuns s then warmReset c s else s
    | none => s) = _
  rw [h]
  exact congrArg Host.Outcome.next (if_pos runs)

theorem warmReset_resets (c : Nat) (s : State) (h : s.pwr.warmReq = some c) (runs : gridRuns s = true) (trial : onTrial s = false) :
    ∃ t, exec .warmReset s = .next t ∧
      t.pwr.inWarm = true ∧ t.pwr.warmReq = none ∧ t.tail.warm = satAdd 32 s.tail.warm 1 ∧ t.tail.lastKind = 2 ∧ t.tail.lastCause = c ∧
      t.port.ready = false ∧ t.port.flights = [] ∧ t.port.held = [] ∧ t.key.grants = [] ∧ t.fe = s.fe ∧ t.filt = s.filt ∧
      t.safeDev = s.safeDev ∧ t.mbx = s.mbx ∧ t.blk.stored = s.blk.stored ∧ t.blk.committed = s.blk.committed ∧
      ((∀ n, sessRuns s n = false) → t.en = s.en) := by
  obtain ⟨inWarm, req, tail, ready, flights, held, grants, fe, filt, safeDev, mbx, stored, committed⟩ := warmEnter_starts c s
  refine ⟨_, (warmReset_due c s h runs).trans (by rw [trial]; rfl), inWarm, req, by rw [tail], by rw [tail], by rw [tail], ready, flights,
    held, grants, fe, filt, safeDev, mbx, stored, committed, warmEnter_en c s⟩

/-! ### The end of a warm reset (R447, R459) -/

theorem works_slotLoad (i : Fin 64) (key : Nat) (s : State) : works (slotLoad i key s) = works s := works_pulse _ _ _

theorem works_kStart (s : State) : works (kStart s) = works s := (works_slotLoad _ _ _).trans (works_slotLoad _ _ _)

theorem works_followSig (n : Fin 8) (s : State) : works (followSig n s) = works s := by
  have one (t : State) (k : Fin 8) : works (followOne k t) = works t := by
    unfold followOne
    dsimp only
    repeat' split
    all_goals rfl
  unfold followSig
  split
  · exact foldl_keeps works _ one _ s
  · exact one s n

theorem works_modTdr (f : Tider → Tider) (s : State) : works (modTdr f s) = works s := rfl

theorem works_setFailsafe (s : State) : works (setFailsafe s) = works s := by
  unfold setFailsafe
  extract_lets u
  exact (works_followSig _ _).trans ((works_level _ _ _ _ _).trans (works_modTdr _ _))

theorem works_joinAgain (b : Option (List Byte)) (s : State) : works (joinAgain b s) = works s := by
  have levels (ev : Nat) (l : List Nat) (t : State) : works (l.foldl (fun t k => level ev k false (prm [(1, k + 1)]) t) t) = works t :=
    foldl_keeps works _ (fun t k => works_level ev k false _ t) l t
  unfold joinAgain
  extract_lets old u v w x
  have joined : works x = works s := by
    rw [works_modTdr, levels, levels]
    exact works_level _ _ _ _ _
  split
  · exact (works_setFailsafe _).trans joined
  · exact ((works_followSig _ _).trans (works_level _ _ _ _ _)).trans joined

theorem works_startT (s : State) : works (startT s) = works s := by
  unfold startT dspStart tdrStart
  exact (works_joinAgain _ _).trans (works_modTdr _ _)

/-- The state in which K, P0, P1 and T restart. -/
def warmOver (s : State) : State := { s with pwr.inWarm := false, pwr.warmAt := none, pwr.pRunning := Vector.replicate 2 true }

theorem warmResetEnd_eq (s : State) : exec .warmResetEnd s = .next
    (if s.pwr.inWarm && heldFor s s.pwr.warmAt 2000 && !vget s.pwr.clkFault 2 && !vget s.pwr.clkFault 3 then startT (kStart (warmOver s))
      else s) := rfl

theorem warmResetEnd_restarts (s : State) :
    let ok := s.pwr.inWarm = true ∧ heldFor s s.pwr.warmAt 2000 = true ∧ vget s.pwr.clkFault 2 = false ∧ vget s.pwr.clkFault 3 = false
    (¬ ok → exec .warmResetEnd s = .next s) ∧
    (ok → ∃ t, exec .warmResetEnd s = .next t ∧ t.pwr.inWarm = false ∧ t.pwr.kRunning = true ∧ t.pwr.tRunning = true ∧
      t.pwr.pRunning = Vector.replicate 2 true ∧ t.fe = s.fe ∧ t.en = s.en ∧ t.safe = s.safe) := by
  intro ok
  have test : (s.pwr.inWarm && heldFor s s.pwr.warmAt 2000 && !vget s.pwr.clkFault 2 && !vget s.pwr.clkFault 3) = true ↔ ok := by
    simp [ok, and_assoc]
  rw [warmResetEnd_eq]
  refine ⟨fun h => by rw [if_neg (mt test.1 h)], fun h => ⟨_, by rw [if_pos (test.2 h)], ?_⟩⟩
  have units : (startT (kStart (warmOver s))).pwr = { (warmOver s).pwr with kRunning := true, tRunning := true } := by
    have k : (kStart (warmOver s)).pwr = { (warmOver s).pwr with kRunning := true } := of_spine State.pwr (fun _ => rfl) (spine_kStart _)
    refine (of_spine State.pwr (fun _ => rfl) (spine_startT _)).trans ?_
    rw [k]
  have kept : works (startT (kStart (warmOver s))) = works s := (works_startT _).trans ((works_kStart _).trans rfl)
  rw [units]
  exact ⟨rfl, rfl, rfl, rfl, fe_of_works kept, en_of_works kept, safe_of_works kept⟩

theorem appRunning_eq (s : State) : exec .appRunning s = .next
    (if gridRuns s && !s.pwr.inWarm && s.pwr.appResetAt.isSome && s.pwr.blkBegan.isNone then e1 2 s.pwr.warmCause (appStart s) else s) := rfl

theorem appRunning_restarts (s : State) :
    let ok := gridRuns s = true ∧ s.pwr.inWarm = false ∧ s.pwr.appResetAt.isSome = true ∧ s.pwr.blkBegan = none
    (¬ ok → exec .appRunning s = .next s) ∧
    (ok → ∃ t, exec .appRunning s = .next t ∧ t = e1 2 s.pwr.warmCause (appStart s) ∧ t.port.ready = true ∧
      t.pwr.appRunning = true ∧ t.pwr.appResetAt = none ∧ t.led.bootCnt = (s.led.bootCnt + 1) % 2 ^ 32) := by
  intro ok
  have test : (gridRuns s && !s.pwr.inWarm && s.pwr.appResetAt.isSome && s.pwr.blkBegan.isNone) = true ↔ ok := by
    simp [ok, and_assoc]
  have begun : spine (e1 2 s.pwr.warmCause (appStart s)) = spine (appBegun s) := (spine_e1 _ _ _).trans (spine_appStart s)
  rw [appRunning_eq]
  refine ⟨fun h => by rw [if_neg (mt test.1 h)], fun h => ⟨_, by rw [if_pos (test.2 h)], rfl, ?_, ?_, ?_, ?_⟩⟩
  · exact of_spine (fun t => t.port.ready) (fun _ => rfl) begun
  · exact of_spine (fun t => t.pwr.appRunning) (fun _ => rfl) begun
  · exact of_spine (fun t => t.pwr.appResetAt) (fun _ => rfl) begun
  · exact of_spine (fun t => t.led.bootCnt) (fun _ => rfl) begun

end Sys2Proof.Laws

namespace Sys2Proof.Laws

open Sys2Proof Sys2Proof.Machine

/-! ## Block resets (R449) -/

theorem reqBlock_keeps (u : Nat) (s : State) (h : gridRuns s = false ∨ u = 0 ∨ 5 < u) : reqBlock u s = s := by
  unfold reqBlock
  refine if_pos ?_
  rcases h with h | rfl | h
  · simp [h]
  · simp [within]
  · simp [within]; omega

theorem reqBlock_unit (u : Nat) (s : State) (runs : gridRuns s = true) (one : 1 ≤ u) (five : u ≤ 5) : reqBlock u s =
    if s.pwr.inWarm || s.pwr.warmReq.isSome || s.pwr.blkUnit.isSome then countReset 3 s
    else { s with pwr.blkUnit := some u, pwr.blkReqAt := s.clk.mono } := by
  unfold reqBlock
  exact if_neg (by simp [runs, within_of_le one five])

theorem reqBlock_absorbed (u : Nat) (s : State) (runs : gridRuns s = true) (one : 1 ≤ u) (five : u ≤ 5)
    (h : s.pwr.inWarm = true ∨ s.pwr.warmReq.isSome = true ∨ s.pwr.blkUnit.isSome = true) : reqBlock u s = countReset 3 s := by
  rw [reqBlock_unit u s runs one five]
  exact if_pos (by simpa [or_assoc] using h)

theorem reqBlock_requests (u : Nat) (s : State) (runs : gridRuns s = true) (one : 1 ≤ u) (five : u ≤ 5) (idle : s.pwr.inWarm = false)
    (due : s.pwr.warmReq = none) (free : s.pwr.blkUnit = none) :
    reqBlock u s = { s with pwr.blkUnit := some u, pwr.blkReqAt := s.clk.mono } := by
  rw [reqBlock_unit u s runs one five]
  exact if_neg (by simp [idle, due, free])

/-! ### The rows with no block reset in hand -/

theorem blockRows_idle (s : State) (h : s.pwr.blkUnit = none) :
    exec .blockResetBegin s = .next s ∧ exec .blockResetEscalate s = .next s ∧ exec .blockResetEnd s = .next s := by
  refine ⟨congrArg Host.Outcome.next ?_, congrArg Host.Outcome.next ?_, congrArg Host.Outcome.next ?_⟩
  · rw [h]
  · rw [h]
  · rw [h]

/-! ### What a unit's reset reaches -/

/-- A block reset of the application side ends its view as a warm reset does; that of another unit leaves the view. -/
theorem resetView_blockReach (u : Nat) (s : State) :
    resetView (blockReach u s) = resetView (if u = 4 then appEnded s else s) := by
  unfold blockReach
  split
  · exact resetView_resetP 1 s
  · exact resetView_resetT s
  · rfl
  · exact (resetView_resetChannels _).trans (resetView_resetA s)
  · next h4 => rw [if_neg h4, resetView_resetP]

/-- The block reset of a unit takes its marks: it is counted, and its kind and cause are kept (R456). -/
def blockMarked (s : State) : State :=
  { s with pwr.blkBegan := some s.clk.mono, tail := { s.tail with block := satAdd 32 s.tail.block 1, lastKind := 3, lastCause := 10 } }

theorem blockResetBegin_eq (u : Nat) (s : State) (h : s.pwr.blkUnit = some u) : exec .blockResetBegin s = .next
    (if s.pwr.blkBegan.isSome || !gridRuns s then s
      else if onTrial s then trialReset 7 { countReset 3 s with pwr.blkUnit := none } else e2 u true false (blockReach u (blockMarked s))) := by
  refine congrArg Host.Outcome.next ?_
  rw [h]
  rfl

theorem blockResetBegin_keeps (u : Nat) (s : State) (h : s.pwr.blkUnit = some u) (idle : s.pwr.blkBegan.isSome = true ∨ gridRuns s = false) :
    exec .blockResetBegin s = .next s := by
  rw [blockResetBegin_eq u s h, if_pos (by simpa using idle)]

theorem blockResetBegin_trial (u : Nat) (s : State) (h : s.pwr.blkUnit = some u) (began : s.pwr.blkBegan = none) (runs : gridRuns s = true)
    (trial : onTrial s = true) : exec .blockResetBegin s = .next (trialReset 7 { countReset 3 s with pwr.blkUnit := none }) := by
  rw [blockResetBegin_eq u s h, if_neg (by simp [began, runs]), if_pos trial]

theorem blockResetBegin_begins (u : Nat) (s : State) (h : s.pwr.blkUnit = some u) (began : s.pwr.blkBegan = none) (runs : gridRuns s = true)
    (trial : onTrial s = false) : ∃ t, exec .blockResetBegin s = .next t ∧ t = e2 u true false (blockReach u (blockMarked s)) ∧
      t.pwr.blkBegan = some s.clk.mono ∧ (2, u) ∈ t.ev.active ∧ t.fe = s.fe ∧ t.safeDev = s.safeDev ∧ t.mbx = s.mbx ∧
      (u = 2 → t.pwr.tRunning = false) ∧ (u = 3 → t.pwr.kRunning = false ∧ t.en = s.en) ∧
      (u = 4 → t.port.ready = false ∧ t.pwr.appRunning = false) := by
  have noted := quiet_level 2 u true (prm [(1, u), (1, b2n false)]) (blockReach u (blockMarked s))
  have raised := (level_active 2 u true (prm [(1, u), (1, b2n false)]) (blockReach u (blockMarked s)) (by simp)).2 rfl
  have reach : resetView (e2 u true false (blockReach u (blockMarked s))) = resetView (if u = 4 then appEnded (blockMarked s) else blockMarked s) :=
    (of_quiet resetView (fun _ => rfl) noted).trans (resetView_blockReach u (blockMarked s))
  have view : resetView { (if u = 4 then appEnded (blockMarked s) else blockMarked s) with port := {}, key := {}, pwr.appRunning := false } =
      resetView { blockMarked s with port := {}, key := {}, pwr.appRunning := false } := by
    split
    · rfl
    · rfl
  have kept := (of_resetView (fun t => resetView { t with port := {}, key := {}, pwr.appRunning := false }) (fun _ => rfl) reach).trans view
  refine ⟨_, ?_, rfl, ?_, raised, ?_, ?_, ?_, ?_, ?_, ?_⟩
  · rw [blockResetBegin_eq u s h, if_neg (by simp [began, runs]), if_neg (by simp [trial])]
  · exact (of_resetView (fun t => t.pwr.blkBegan) (fun _ => rfl) kept).trans rfl
  · exact (of_resetView State.fe (fun _ => rfl) kept).trans rfl
  · exact (of_resetView State.safeDev (fun _ => rfl) kept).trans rfl
  · exact (of_resetView State.mbx (fun _ => rfl) kept).trans rfl
  · rintro rfl
    refine (of_quiet (fun t => t.pwr.tRunning) (fun _ => rfl) noted).trans ?_
    show (resetT (blockMarked s)).pwr.tRunning = false
    unfold resetT dspStop discharge
    split
    · rfl
    · rfl
  · rintro rfl
    exact ⟨of_quiet (fun t => t.pwr.kRunning) (fun _ => rfl) noted, (of_quiet State.en (fun _ => rfl) noted).trans rfl⟩
  · rintro rfl
    exact ⟨of_resetView (fun t => t.port.ready) (fun _ => rfl) reach, of_resetView (fun t => t.pwr.appRunning) (fun _ => rfl) reach⟩

/-! ### Escalation and end -/

theorem blockResetEscalate_eq (u : Nat) (s : State) (h : s.pwr.blkUnit = some u) : exec .blockResetEscalate s = .next
    (if s.pwr.blkBegan.isNone && elapsed s s.pwr.blkReqAt 50000 then
      reqWarm 11 (pulse 2 (prm [(1, u), (1, 1)]) { s with pwr.blkUnit := none }) else s) := by
  refine congrArg Host.Outcome.next ?_
  rw [h]

theorem blockResetEscalate_keeps (u : Nat) (s : State) (h : s.pwr.blkUnit = some u)
    (idle : s.pwr.blkBegan.isSome = true ∨ s.clk.mono < s.pwr.blkReqAt + 50000) : exec .blockResetEscalate s = .next s := by
  rw [blockResetEscalate_eq u s h, if_neg]
  rcases idle with idle | idle
  · simp [Option.isSome_iff_ne_none.1 idle]
  · simp [elapsed]
    omega

theorem blockResetEscalate_escalates (u : Nat) (s : State) (h : s.pwr.blkUnit = some u) (began : s.pwr.blkBegan = none)
    (late : s.pwr.blkReqAt + 50000 ≤ s.clk.mono) :
    exec .blockResetEscalate s = .next (reqWarm 11 (pulse 2 (prm [(1, u), (1, 1)]) { s with pwr.blkUnit := none })) := by
  rw [blockResetEscalate_eq u s h, if_pos (by simpa [began, elapsed] using late)]

theorem blockResetEnd_eq (u : Nat) (s : State) (h : s.pwr.blkUnit = some u) : exec .blockResetEnd s = .next
    (if s.pwr.blkBegan.isSome && gridRuns s then blockStart u (blockOver s) else s) := by
  refine congrArg Host.Outcome.next ?_
  rw [h]

theorem blockResetEnd_keeps (u : Nat) (s : State) (h : s.pwr.blkUnit = some u) (idle : s.pwr.blkBegan = none ∨ gridRuns s = false) :
    exec .blockResetEnd s = .next s := by
  rw [blockResetEnd_eq u s h, if_neg]
  rcases idle with idle | idle
  · simp [idle]
  · simp [idle]

/-- The end of the block reset in hand clears its event. -/
theorem blockOver_clears (u : Nat) (s : State) (h : s.pwr.blkUnit = some u) (began : s.pwr.blkBegan.isSome = true) :
    (2, u) ∉ (blockOver s).ev.active := by
  have cleared : blockOver s = { e2 u false false s with pwr.blkUnit := none, pwr.blkBegan := none } := by
    unfold blockOver
    rw [h]
    simp only [began, if_true]
  rw [cleared]
  exact fun hm => Bool.false_ne_true ((level_active 2 u false _ s (by simp)).1 hm)

/-- The state in which a unit runs again, as the spine shows it. -/
def unitRuns (u : Nat) (s : State) : State :=
  match u with
  | 1 => { s with pwr.pRunning := vatMod s.pwr.pRunning 0 fun _ => true }
  | 2 => { s with pwr.tRunning := true }
  | 3 => { s with pwr.kRunning := true }
  | 4 => appBegun s
  | _ => { s with pwr.pRunning := vatMod s.pwr.pRunning 1 fun _ => true }

theorem spine_blockStart (u : Nat) (s : State) : spine (blockStart u s) = spine (unitRuns u s) :=
  match u with
  | 0 => rfl
  | 1 => rfl
  | 2 => spine_startT s
  | 3 => spine_kStart s
  | 4 => spine_appStart s
  | _ + 5 => rfl

theorem unitRuns_keeps (u : Nat) (s : State) : (unitRuns u s).pwr.blkUnit = s.pwr.blkUnit ∧ (unitRuns u s).pwr.blkBegan = s.pwr.blkBegan ∧
    (unitRuns u s).ev = s.ev := by
  unfold unitRuns
  split
  · exact ⟨rfl, rfl, rfl⟩
  · exact ⟨rfl, rfl, rfl⟩
  · exact ⟨rfl, rfl, rfl⟩
  · exact ⟨rfl, rfl, rfl⟩
  · exact ⟨rfl, rfl, rfl⟩

theorem blockResetEnd_ends (u : Nat) (s : State) (h : s.pwr.blkUnit = some u) (began : s.pwr.blkBegan.isSome = true) (runs : gridRuns s = true) :
    ∃ t, exec .blockResetEnd s = .next t ∧ t = blockStart u (blockOver s) ∧
      t.pwr.blkUnit = none ∧ t.pwr.blkBegan = none ∧ (2, u) ∉ t.ev.active ∧ (u = 2 → t.pwr.tRunning = true) ∧
      (u = 3 → t.pwr.kRunning = true) ∧ (u = 4 → t.port.ready = true ∧ t.pwr.appRunning = true) := by
  have start := spine_blockStart u (blockOver s)
  obtain ⟨unit, beganAt, ev⟩ := unitRuns_keeps u (blockOver s)
  refine ⟨_, by rw [blockResetEnd_eq u s h, if_pos (by simp [began, runs])], rfl, ?_, ?_, ?_, ?_, ?_, ?_⟩
  · exact (of_spine (fun t => t.pwr.blkUnit) (fun _ => rfl) start).trans unit
  · exact (of_spine (fun t => t.pwr.blkBegan) (fun _ => rfl) start).trans beganAt
  · rw [mem_active_of_spine start (2, u) (by simp), ev]
    exact blockOver_clears u s h began
  · rintro rfl
    exact of_spine (fun t => t.pwr.tRunning) (fun _ => rfl) start
  · rintro rfl
    exact of_spine (fun t => t.pwr.kRunning) (fun _ => rfl) start
  · rintro rfl
    exact ⟨of_spine (fun t => t.port.ready) (fun _ => rfl) start, of_spine (fun t => t.pwr.appRunning) (fun _ => rfl) start⟩

/-! ## Resets the host asks for, and SHELF (R445, R448, R463) -/

theorem pwrResetExecute_idle (s : State) (h : s.pwr.resetReq = none ∨ s.pwr.phase ≠ .run) : exec .pwrResetExecute s = .next s := by
  refine congrArg Host.Outcome.next ?_
  rcases h with h | h
  · rw [h]
  · cases s.pwr.resetReq
    · rfl
    · exact if_pos (by simp [h])

/-- What PWR_RESET asked for (R463). -/
def plannedReset (k u : Nat) (s : State) : State :=
  match k with
  | 0 => reqWarm 7 s
  | 1 => reqBlock u s
  | 2 => coldReset 0 4 (savePlanned s)
  | _ => enterShelf s

theorem pwrResetExecute_eq (k u t0 : Nat) (s : State) (h : s.pwr.resetReq = some (k, u, t0)) : exec .pwrResetExecute s = .next
    (if !elapsed s t0 10000 || s.pwr.phase != .run then s else plannedReset k u { s with pwr.resetReq := none }) := by
  refine congrArg Host.Outcome.next ?_
  rw [h]
  rfl

theorem pwrResetExecute_waits (k u t0 : Nat) (s : State) (h : s.pwr.resetReq = some (k, u, t0)) (early : s.clk.mono < t0 + 10000) :
    exec .pwrResetExecute s = .next s := by
  rw [pwrResetExecute_eq k u t0 s h, if_pos]
  simp [elapsed, early]

theorem pwrResetExecute_resets (k u t0 : Nat) (s : State) (h : s.pwr.resetReq = some (k, u, t0)) (late : t0 + 10000 ≤ s.clk.mono)
    (runs : s.pwr.phase = .run) : exec .pwrResetExecute s = .next (plannedReset k u { s with pwr.resetReq := none }) := by
  rw [pwrResetExecute_eq k u t0 s h, if_neg]
  simp [elapsed, late, runs]

/-- In SHELF the port does not run and every path and pilot is off. -/
theorem plannedReset_shelf (k u : Nat) (s : State) (h : 3 ≤ k) :
    (plannedReset k u s).pwr.phase = .shelf ∧ (plannedReset k u s).port.ready = false ∧ AllOff (plannedReset k u s) := by
  obtain ⟨j, rfl⟩ : ∃ j, k = j + 3 := ⟨k - 3, by omega⟩
  exact ⟨rfl, rfl, coldBase_allOff _ _⟩

end Sys2Proof.Laws

namespace Sys2Proof.Proofs

open Sys2Proof Sys2Proof.Machine Sys2Proof.Laws

/-- Settles O43: each clause is the rule of its row; what a start and a reset reach is followed by the device's spine and by what
the reset's view keeps. -/
theorem resetsComplete : Obligations.ResetsComplete := by
  unfold Obligations.ResetsComplete
  refine ⟨?_, ?_, ?_, ?_, ?_, ?_, fun s => ⟨rfl, rfl⟩, ?_, warmResetEnd_restarts, appRunning_restarts, ?_, blockRows_idle, ?_,
    pwrResetExecute_idle, ?_, ?_⟩
  · exact fun mv lost s => ⟨powerOn_keeps mv lost s, powerOn_resets mv lost s⟩
  · exact fun mv s => ⟨vsysInvalid_keeps mv s, vsysInvalid_stops mv s⟩
  · exact fun s => ⟨vioInvalid_keeps s, vioInvalid_resets s, vioValid_keeps s, vioValid_releases s,
      fun h => ⟨resetN_falls s h, resetN_keeps false s h⟩, fun h => ⟨resetN_keeps true s h, resetN_rises s h⟩⟩
  · exact fun k c s => ⟨coldReset_off k c s, coldReset_held k c s, coldReset_boot k c s, coldReset_starts k c s⟩
  · exact fun straps s => ⟨coldReset_waits straps s, fun h => ⟨coldReset_holds straps s h, coldReset_boots straps s h⟩⟩
  · exact fun c s => ⟨reqWarm_off c s, reqWarm_absorbed c s, reqWarm_due c s⟩
  · refine fun s => ⟨warmReset_idle s, fun c due runs => ⟨fun trial => ?_, warmReset_resets c s due runs⟩⟩
    rw [warmReset_due c s due runs, if_pos trial]
  · exact fun u s => ⟨reqBlock_keeps u s,
      fun runs one five => ⟨reqBlock_absorbed u s runs one five, reqBlock_requests u s runs one five⟩, rfl⟩
  · exact fun u s h => ⟨blockResetBegin_keeps u s h,
      fun began runs => ⟨blockResetBegin_trial u s h began runs, blockResetBegin_begins u s h began runs⟩,
      blockResetEscalate_keeps u s h, blockResetEscalate_escalates u s h, blockResetEnd_keeps u s h, blockResetEnd_ends u s h⟩
  · refine fun k u t0 s h => ⟨pwrResetExecute_waits k u t0 s h, fun late runs => ?_⟩
    have acts := pwrResetExecute_resets k u t0 s h late runs
    refine ⟨?_, ?_, ?_, fun shelf => ⟨_, acts, plannedReset_shelf k u _ shelf⟩⟩
    · rintro rfl
      exact acts
    · rintro rfl
      exact acts
    · rintro rfl
      exact acts
  · exact fun s => ⟨fun h => congrArg Host.Outcome.next (if_neg h), fun h => congrArg Host.Outcome.next (if_pos h)⟩

end Sys2Proof.Proofs

namespace Sys2Proof.Laws

open Sys2Proof Sys2Proof.Machine

/-! ## Rotation, faults and supervision of the front end (R22 to R47) -/

/-- The state without what slots, calibrations, verdicts and supervision change: of the front end only the number of the next slot
and the end of the first rotation stay. -/
def offMods (s : State) : State :=
  quiet { s with fe := { slot := s.fe.slot, firstDone := s.fe.firstDone }, nvFe := {} }

/-- What `offMods` does not erase is the same in two states that agree without it. -/
theorem of_offMods {α : Type} (f : State → α) (hf : ∀ u, f (offMods u) = f u) {s t : State} (h : offMods t = offMods s) : f t = f s := by
  rw [← hf t, h, hf s]

/-- `t` is `s` but for the front end and what its events bring with them. -/
def OnlyFront (s t : State) : Prop := t = { s with fe := t.fe, nvFe := t.nvFe, ev := t.ev, led := t.led, p100 := t.p100 }

theorem onlyFront_of_offMods {s t : State} (h : offMods t = offMods s) : OnlyFront s t := by
  have kept := of_offMods (fun u => ({ u with fe := t.fe, nvFe := t.nvFe, ev := t.ev, led := t.led, p100 := t.p100 } : State))
    (fun _ => rfl) h
  exact kept

theorem OnlyFront.trans {s t u : State} (h : OnlyFront s t) (k : OnlyFront t u) : OnlyFront s u := by
  unfold OnlyFront at h k ⊢
  rw [k, h]

@[simp] theorem offMods_pulse (ev : Nat) (p : List Byte) (s : State) : offMods (pulse ev p s) = offMods s :=
  of_quiet offMods (fun _ => rfl) (quiet_pulse ev p s)
@[simp] theorem offMods_level (ev key : Nat) (on : Bool) (p : List Byte) (s : State) : offMods (level ev key on p s) = offMods s :=
  of_quiet offMods (fun _ => rfl) (quiet_level ev key on p s)
@[simp] theorem offMods_upd_fe (s : State) (x : Fe) (slot : x.slot = s.fe.slot) (first : x.firstDone = s.fe.firstDone) :
    offMods { s with fe := x } = offMods s := by simp [offMods, slot, first]
@[simp] theorem offMods_modMod (i : Nat) (f : Modu → Modu) (s : State) : offMods (modMod i f s) = offMods s := rfl
@[simp] theorem offMods_modNvMod (i : Nat) (f : NvMod → NvMod) (s : State) : offMods (modNvMod i f s) = offMods s := rfl
@[simp] theorem offMods_modXch (i : Nat) (f : XCh → XCh) (s : State) : offMods (modXch i f s) = offMods s := rfl
@[simp] theorem offMods_e17 (i cause : Nat) (s : State) : offMods (e17 i cause s) = offMods s := offMods_pulse _ _ _
@[simp] theorem offMods_setDegraded (g : Nat) (on : Bool) (s : State) : offMods (setDegraded g on s) = offMods s :=
  (offMods_level _ _ _ _ _).trans rfl
@[simp] theorem offMods_substitute (g c : Nat) (s : State) : offMods (substitute g c s) = offMods s := rfl
@[simp] theorem offMods_setSubst (g : Nat) (c : Option Nat) (s : State) : offMods (setSubst g c s) = offMods s := rfl
@[simp] theorem offMods_setBusy (g : Nat) (c : Option Nat) (s : State) : offMods (setBusy g c s) = offMods s := rfl
@[simp] theorem offMods_abandonSlot (g : Nat) (s : State) : offMods (abandonSlot g s) = offMods s := rfl
@[simp] theorem offMods_standAt (i : Nat) (x : SlotMeas) (s : State) : offMods (standAt i x s) = offMods s := rfl
@[simp] theorem offMods_endSlot (i : Nat) (s : State) : offMods (endSlot i s) = offMods s :=
  (offMods_modMod _ _ _).trans (offMods_abandonSlot _ _)
@[simp] theorem offMods_xStart (i : Nat) (s : State) : offMods (xStart i s) = offMods s := rfl

@[simp] theorem offMods_giveBack (g k : Nat) (s : State) : offMods (giveBack g k s) = offMods s := by
  unfold giveBack
  dsimp only
  split
  all_goals simp

@[simp] theorem offMods_replaceMod (g c : Nat) (s : State) : offMods (replaceMod g c s) = offMods s := by
  unfold replaceMod
  dsimp only
  split
  all_goals simp

/-! ### Vectors -/

theorem vat_vatMod_same {α : Type} {n : Nat} (v : Vector α n) (i : Nat) (f : α → α) (d : α) (h : i < n) :
    vat (vatMod v i f) i d = f (vat v i d) := by
  simp [vat, vatMod, h]

theorem vat_vatMod_other {α : Type} {n : Nat} (v : Vector α n) (i j : Nat) (f : α → α) (d : α) (h : j ≠ i) :
    vat (vatMod v i f) j d = vat v j d := by
  unfold vat vatMod
  split
  · split
    · exact Vector.getElem_set_ne _ _ h.symm
    · rfl
  · rfl

/-- A change of one unit's entry writes what the change makes of the entry that stands. -/
theorem vatMod_fin {α : Type} {n : Nat} (v : Vector α n) (i : Fin n) (f : α → α) : vatMod v i.1 f = vset v i (f (vget v i)) := by
  simp [vatMod, vset, vget]

/-! ### Verdicts and substitution (R39, R40) -/

/-- A modulator marked faulty, reported, before the response of its group (R40, R41). -/
def verdict (i : Nat) (s : State) : State := e17 i 0 (modNvMod i (fun x => { x with faulty := true, passes := 0 }) s)

@[simp] theorem e17_fe (i cause : Nat) (s : State) : (e17 i cause s).fe = s.fe := pulse_fe _ _ _
@[simp] theorem e17_nvFe (i cause : Nat) (s : State) : (e17 i cause s).nvFe = s.nvFe := pulse_nvFe _ _ _
@[simp] theorem setDegraded_nvFe (g : Nat) (on : Bool) (s : State) :
    (setDegraded g on s).nvFe = { s.nvFe with degraded := vatMod s.nvFe.degraded g fun _ => on } := level_nvFe _ _ _ _ _
@[simp] theorem setSubst_nvFe (g : Nat) (c : Option Nat) (s : State) :
    (setSubst g c s).nvFe = { s.nvFe with subst := vatMod s.nvFe.subst g fun _ => c } := rfl
@[simp] theorem substitute_nvFe (g c : Nat) (s : State) : (substitute g c s).nvFe = s.nvFe := rfl
@[simp] theorem abandonSlot_nvFe (g : Nat) (s : State) : (abandonSlot g s).nvFe = s.nvFe := rfl
@[simp] theorem verdict_nvFe (i : Nat) (s : State) : (verdict i s).nvFe =
    { s.nvFe with mods := vatMod s.nvFe.mods i fun x => { x with faulty := true, passes := 0 } } := e17_nvFe _ _ _
@[simp] theorem offMods_verdict (i : Nat) (s : State) : offMods (verdict i s) = offMods s := by simp [verdict]

@[simp] theorem giveBack_nvFe (g k : Nat) (s : State) : (giveBack g k s).nvFe = s.nvFe := by
  unfold giveBack
  dsimp only
  split
  all_goals rfl

@[simp] theorem replaceMod_nvFe (g c : Nat) (s : State) : (replaceMod g c s).nvFe = { s.nvFe with
    subst := vatMod s.nvFe.subst g fun _ => some c
    degraded := vatMod s.nvFe.degraded g fun _ => true } := by
  unfold replaceMod
  dsimp only
  split
  all_goals simp

theorem internalEn_verdict (i g c : Nat) (s : State) : internalEn (verdict i s) g c = internalEn s g c :=
  of_offMods (fun u => internalEn u g c) (fun _ => rfl) (offMods_verdict i s)

/-- A modulator already marked faulty keeps its verdict. -/
theorem markFaulty_again (i : Nat) (s : State) (h : isFaulty s i = true) : markFaulty i s = s := if_pos h

/-- A spare found faulty leaves its slot, and its group is degraded with the substitution as it stood. -/
theorem markFaulty_spare (i : Nat) (s : State) (h : isFaulty s i = false) (spare : cIx i = 7) :
    ∃ u, markFaulty i s = setDegraded (gIx i) true u ∧ u.nvFe = (verdict i s).nvFe ∧ offMods u = offMods s := by
  unfold markFaulty
  dsimp only
  rw [if_neg (by simp [h]), if_pos spare]
  refine ⟨_, rfl, ?_, ?_⟩
  · rw [abandonSlot_nvFe]
    split <;> split <;> simp
  · rw [offMods_abandonSlot]
    split <;> split <;> simp only [offMods_e17, offMods_substitute, offMods_upd_fe, offMods_modNvMod]

/-- The spare keeps the channel of the modulator in rotation. -/
theorem markFaulty_rotating (i : Nat) (s : State) (h : isFaulty s i = false) (own : cIx i ≠ 7)
    (busy : vat s.fe.spareBusy (gIx i) none = some (cIx i)) :
    markFaulty i s = setDegraded (gIx i) true (setSubst (gIx i) (some (cIx i)) (abandonSlot (gIx i) (verdict i s))) := by
  unfold markFaulty
  dsimp only
  rw [if_neg (by simp [h]), if_neg own, if_pos busy]
  rfl

/-- Any other modulator: one that serves its channel is replaced or, in a degraded group, leaves the channel INVALID; one that
serves none has its verdict alone. -/
theorem markFaulty_own (i : Nat) (s : State) (h : isFaulty s i = false) (own : cIx i ≠ 7)
    (free : vat s.fe.spareBusy (gIx i) none ≠ some (cIx i)) :
    markFaulty i s = if internalEn s (gIx i) (cIx i) && !(vat s.nvFe.subst (gIx i) none == some (cIx i)) then
      (if isDegraded s (gIx i) then e17 i 2 (verdict i s) else replaceMod (gIx i) (cIx i) (verdict i s)) else verdict i s := by
  rw [← internalEn_verdict i (gIx i) (cIx i) s]
  unfold markFaulty
  dsimp only
  rw [if_neg (by simp [h]), if_neg own, if_neg free]
  rfl

/-- A modulator found faulty is marked so, and no other verdict changes (R40). -/
theorem markFaulty_nvMods (i : Nat) (s : State) : (markFaulty i s).nvFe.mods =
    if isFaulty s i then s.nvFe.mods else vatMod s.nvFe.mods i fun x => { x with faulty := true, passes := 0 } := by
  by_cases h : isFaulty s i = true
  · rw [markFaulty_again i s h, if_pos h]
  rw [if_neg h]
  rw [Bool.not_eq_true] at h
  by_cases spare : cIx i = 7
  · obtain ⟨u, eq, nv, -⟩ := markFaulty_spare i s h spare
    simp [eq, nv]
  by_cases busy : vat s.fe.spareBusy (gIx i) none = some (cIx i)
  · simp [markFaulty_rotating i s h spare busy]
  rw [markFaulty_own i s h spare busy]
  split
  · split
    · simp
    · simp
  · simp

@[simp] theorem offMods_markFaulty (i : Nat) (s : State) : offMods (markFaulty i s) = offMods s := by
  by_cases h : isFaulty s i = true
  · rw [markFaulty_again i s h]
  rw [Bool.not_eq_true] at h
  by_cases spare : cIx i = 7
  · obtain ⟨u, eq, -, off⟩ := markFaulty_spare i s h spare
    rw [eq, offMods_setDegraded, off]
  by_cases busy : vat s.fe.spareBusy (gIx i) none = some (cIx i)
  · simp [markFaulty_rotating i s h spare busy]
  rw [markFaulty_own i s h spare busy]
  split
  · split
    · simp
    · simp
  · simp

/-- The modulator found faulty is faulty afterwards (R39). -/
theorem markFaulty_marks (i : Nat) (s : State) (hi : i < 72) : isFaulty (markFaulty i s) i = true := by
  unfold isFaulty
  rw [markFaulty_nvMods]
  split
  · assumption
  · rw [vat_vatMod_same _ _ _ _ hi]

/-- Its run of passing calibrations is over, where none stood against an earlier verdict. -/
theorem markFaulty_passes (i : Nat) (s : State) (hi : i < 72) (h : (vat s.nvFe.mods i {}).passes = 0) :
    (vat (markFaulty i s).nvFe.mods i {}).passes = 0 := by
  rw [markFaulty_nvMods]
  split
  · exact h
  · rw [vat_vatMod_same _ _ _ _ hi]

theorem isDegraded_setDegraded (g : Nat) (on : Bool) (s : State) (h : g < 9) : isDegraded (setDegraded g on s) g = on := by
  rw [isDegraded, setDegraded_nvFe, vat_vatMod_same _ _ _ _ h]

/-! ### Calibration (R30, R31, R36, R37) -/

/-- Following the references changes the freeze alone. -/
theorem followRefs_only (i : Nat) (agree : Bool) (s : State) : (followRefs i agree s).fe.mods = s.fe.mods ∧
    (followRefs i agree s).nvFe = s.nvFe ∧ (followRefs i agree s).clk = s.clk ∧ offMods (followRefs i agree s) = offMods s := by
  unfold followRefs
  dsimp only
  split
  · exact ⟨by simp, by simp, by simp, (offMods_level _ _ _ _ _).trans rfl⟩
  split
  · split
    · exact ⟨by simp, by simp, by simp, (offMods_level _ _ _ _ _).trans rfl⟩
    · exact ⟨rfl, rfl, rfl, rfl⟩
  · exact ⟨rfl, rfl, rfl, rfl⟩

/-- The calibration of a slot runs frozen (R31). -/
def calFrozen (x : SlotMeas) (s : State) : Bool := s.fe.frozen || !(calibrate x).2.2.2

/-- A modulator after a calibration that passes at the elapsed time `mono` with the set `c` (R36, R41, R42). -/
def passedMod (c : Coef) (mono : Nat) (y : Modu) : Modu :=
  { y with prev := y.cur, cur := c, cold := false, lastPass := some mono, overdue := false }

/-- The report that an overdue modulator passed again (R41, R47). -/
def overdueEnds (i : Nat) (s : State) : State := if (vat s.fe.mods i {}).overdue then e17 i 1 s else s

theorem overdueEnds_only (i : Nat) (s : State) : (overdueEnds i s).fe = s.fe ∧ (overdueEnds i s).nvFe = s.nvFe ∧
    (overdueEnds i s).clk = s.clk ∧ offMods (overdueEnds i s) = offMods s := by
  unfold overdueEnds
  split
  · exact ⟨e17_fe _ _ _, e17_nvFe _ _ _, pulse_clk _ _ _, offMods_e17 _ _ _⟩
  · exact ⟨rfl, rfl, rfl, rfl⟩

/-- A calibration that passes counts, and leaves the modulator and its stored copy with the passing set. -/
theorem calSteps_ok (i : Nat) (x : SlotMeas) (s : State) (ok : calOkay i x (calFrozen x s) = true) :
    let u := followRefs i (calibrate x).2.2.2 s
    let v := overdueEnds i u
    let c := passedCoef (calFrozen x s) (vat u.fe.mods i {}).cur x u.clk.time
    calSteps i x s =
      (modNvMod i (fun y => storeCoef c { y with passes := satAdd 8 y.passes 1 }) (modMod i (passedMod c v.clk.mono) v), true) := by
  unfold calSteps
  dsimp only
  rw [if_neg (by simpa [calFrozen] using ok)]
  rfl

/-- One that fails ends the run of passing ones and marks the current set. -/
theorem calSteps_bad (i : Nat) (x : SlotMeas) (s : State) (bad : calOkay i x (calFrozen x s) = false) :
    calSteps i x s = (modNvMod i (fun y => { y with passes := 0 })
      (modMod i (fun y => { y with cur := { y.cur with flags := y.cur.flags % 4 + 4 } }) (followRefs i (calibrate x).2.2.2 s)), false) := by
  unfold calSteps
  dsimp only
  rw [if_pos (by simpa [calFrozen] using bad)]

theorem calSteps_passes (i : Nat) (x : SlotMeas) (s : State) (ok : calOkay i x (calFrozen x s) = true) :
    let c := passedCoef (calFrozen x s) (vat s.fe.mods i {}).cur x s.clk.time
    (calSteps i x s).2 = true ∧ (calSteps i x s).1.fe.mods = vatMod s.fe.mods i (passedMod c s.clk.mono) ∧
    (calSteps i x s).1.nvFe.mods = vatMod s.nvFe.mods i fun y => storeCoef c { y with passes := satAdd 8 y.passes 1 } := by
  obtain ⟨mods, nv, clk, -⟩ := followRefs_only i (calibrate x).2.2.2 s
  obtain ⟨fe', nv', clk', -⟩ := overdueEnds_only i (followRefs i (calibrate x).2.2.2 s)
  rw [calSteps_ok i x s ok]
  simp [fe', nv', clk', mods, nv, clk]

theorem calSteps_fails (i : Nat) (x : SlotMeas) (s : State) (bad : calOkay i x (calFrozen x s) = false) :
    (calSteps i x s).2 = false ∧ (calSteps i x s).1.nvFe.mods = vatMod s.nvFe.mods i fun y => { y with passes := 0 } := by
  obtain ⟨-, nv, -, -⟩ := followRefs_only i (calibrate x).2.2.2 s
  simp [calSteps_bad i x s bad, nv]

@[simp] theorem offMods_calSteps (i : Nat) (x : SlotMeas) (s : State) : offMods (calSteps i x s).1 = offMods s := by
  obtain ⟨-, -, -, refs⟩ := followRefs_only i (calibrate x).2.2.2 s
  obtain ⟨-, -, -, report⟩ := overdueEnds_only i (followRefs i (calibrate x).2.2.2 s)
  cases outcome : calOkay i x (calFrozen x s)
  · simp [calSteps_bad i x s outcome, refs]
  · simp [calSteps_ok i x s outcome, report, refs]

/-! ### Slots (R32 to R35, R40) -/

@[simp] theorem offMods_cmpFail (i : Nat) (s : State) : offMods (cmpFail i s) = offMods s := by
  unfold cmpFail
  split
  · exact (offMods_upd_fe _ _ rfl rfl).trans ((offMods_modMod _ _ _).trans (offMods_abandonSlot _ _))
  · simp

@[simp] theorem offMods_reattach (i : Nat) (x : SlotMeas) (s : State) : offMods (reattach i x s) = offMods s := by
  unfold reattach
  repeat' split
  all_goals simp

@[simp] theorem offMods_detached (i : Nat) (x : SlotMeas) (s : State) : offMods (detached i x s) = offMods s := by
  unfold detached
  dsimp only
  repeat' split
  all_goals simp

@[simp] theorem offMods_takeOver (i : Nat) (x : SlotMeas) (s : State) : offMods (takeOver i x s) = offMods s := by
  unfold takeOver
  dsimp only
  split
  all_goals simp

@[simp] theorem offMods_fullSlot (i : Nat) (x : SlotMeas) (s : State) : offMods (fullSlot i x s) = offMods s := by
  unfold fullSlot
  repeat' split
  all_goals simp

@[simp] theorem offMods_idleSlot (i : Nat) (x : SlotMeas) (s : State) : offMods (idleSlot i x s) = offMods s := by
  unfold idleSlot
  dsimp only
  repeat' split
  all_goals simp

@[simp] theorem offMods_slotOf (i : Nat) (x : SlotMeas) (s : State) : offMods (slotOf i x s) = offMods s := by
  unfold slotOf
  dsimp only
  repeat' split
  all_goals simp

@[simp] theorem offMods_resumeSlot (s : State) : offMods (resumeSlot s) = offMods s := by
  unfold resumeSlot
  dsimp only
  repeat' split
  all_goals simp

/-- No slot stands: nothing to run on. -/
theorem resumeSlot_idle (s : State) (h : s.fe.slotAt = none) : resumeSlot s = s := by
  unfold resumeSlot
  rw [h]

/-- The slot of a spare that serves no channel is its calibration (R35). -/
theorem slotOf_spare (i : Nat) (x : SlotMeas) (s : State) (spare : cIx i = 7) (group : hasGroup s (gIx i) = true)
    (free : vat s.nvFe.subst (gIx i) none = none) (cut : x.cut = 0) :
    slotOf i x s = if (calSteps i x (abandonSlot (gIx i) s)).2 then (calSteps i x (abandonSlot (gIx i) s)).1
      else markFaulty i (calSteps i x (abandonSlot (gIx i) s)).1 := by
  unfold slotOf
  dsimp only
  rw [if_neg (by simp [group]), if_pos spare, if_neg (by simp [free]), idleSlot, if_neg (by omega)]

theorem slotOf_spare_passes (i : Nat) (x : SlotMeas) (s : State) (hi : i < 72) (spare : cIx i = 7) (group : hasGroup s (gIx i) = true)
    (free : vat s.nvFe.subst (gIx i) none = none) (cut : x.cut = 0) (ok : calOkay i x (calFrozen x s) = true) :
    (vat (slotOf i x s).nvFe.mods i {}).passes = satAdd 8 (vat s.nvFe.mods i {}).passes 1 ∧
    vat (slotOf i x s).fe.mods i {} =
      passedMod (passedCoef (calFrozen x s) (vat s.fe.mods i {}).cur x s.clk.time) s.clk.mono (vat s.fe.mods i {}) := by
  obtain ⟨pass, mods, nv⟩ := calSteps_passes i x (abandonSlot (gIx i) s) ok
  rw [slotOf_spare i x s spare group free cut, if_pos pass, mods, nv, vat_vatMod_same _ _ _ _ hi, vat_vatMod_same _ _ _ _ hi]
  refine ⟨?_, rfl⟩
  unfold storeCoef
  dsimp only
  split
  · rfl
  · rfl

theorem slotOf_spare_fails (i : Nat) (x : SlotMeas) (s : State) (hi : i < 72) (spare : cIx i = 7) (group : hasGroup s (gIx i) = true)
    (free : vat s.nvFe.subst (gIx i) none = none) (cut : x.cut = 0) (bad : calOkay i x (calFrozen x s) = false) :
    (vat (slotOf i x s).nvFe.mods i {}).passes = 0 ∧ isFaulty (slotOf i x s) i = true := by
  obtain ⟨fail, nv⟩ := calSteps_fails i x (abandonSlot (gIx i) s) bad
  rw [slotOf_spare i x s spare group free cut, if_neg (by simp [fail])]
  refine ⟨markFaulty_passes i _ hi ?_, markFaulty_marks i _ hi⟩
  rw [nv, vat_vatMod_same _ _ _ _ hi]

/-! ### ROTATION_SLOT_START (R32) -/

/-- The rotation after its slot `n`: after slot 71 the first full rotation is over (R42). -/
def rotated (n : Nat) (s : State) : State :=
  if n = 71 ∧ !s.fe.firstDone then
    pulse 21 (prm [(1, 0xFF), (1, 0xFF), (4, ((List.range 72).filter fun i => hasGroup s (gIx i) && (vat s.fe.mods i {}).cold).length)])
      { s with fe.firstDone := true }
  else s

theorem rotated_only (n : Nat) (s : State) : OnlyFront s (rotated n s) ∧ (rotated n s).fe.slot = s.fe.slot ∧
    (rotated n s).fe.mods = s.fe.mods ∧ (rotated n s).nvFe = s.nvFe := by
  unfold rotated
  split
  · refine ⟨?_, by simp, by simp, by simp⟩
    exact OnlyFront.trans (t := { s with fe.firstDone := true }) rfl (onlyFront_of_offMods (offMods_pulse _ _ _))
  · exact ⟨rfl, rfl, rfl, rfl⟩

/-- After slot 71 the first rotation is over, now or before. -/
theorem rotated_last (s : State) : (rotated 71 s).fe.firstDone = true := by
  unfold rotated
  split
  · simp
  · simp_all

section
variable (x : SlotMeas) (s : State) (valid : s.fe.valid = true) (due : s.fe.validAt + 10000000 ≤ s.clk.mono)
include valid due

theorem rotationSlot_back (i : Nat) (rest : List Nat) (back : (resumeSlot s).fe.back = i :: rest) :
    rotationSlot x s = returnMod i x { resumeSlot s with fe.back := rest } := by
  unfold rotationSlot
  rw [if_neg (by simp [valid, due])]
  dsimp only
  rw [back]

theorem rotationSlot_extra (i : Nat) (rest : List Nat) (back : (resumeSlot s).fe.back = []) (extra : (resumeSlot s).fe.extra = i :: rest) :
    rotationSlot x s = slotOf i x { resumeSlot s with fe.extra := rest } := by
  unfold rotationSlot
  rw [if_neg (by simp [valid, due])]
  dsimp only
  rw [back, extra]

theorem rotationSlot_next (back : (resumeSlot s).fe.back = []) (extra : (resumeSlot s).fe.extra = []) :
    rotationSlot x s = rotated (resumeSlot s).fe.slot (slotOf (slotMod (resumeSlot s).fe.slot) x
      { resumeSlot s with fe.slot := ((resumeSlot s).fe.slot + 1) % 72 }) := by
  unfold rotationSlot
  rw [if_neg (by simp [valid, due])]
  dsimp only
  rw [back, extra]
  rfl

/-- The rotation's next slot: the slot number goes on, and the first rotation ends after slot 71 (R32, R42). -/
theorem rotationSlot_advances (back : (resumeSlot s).fe.back = []) (extra : (resumeSlot s).fe.extra = []) :
    OnlyFront s (rotationSlot x s) ∧ (rotationSlot x s).fe.slot = ((resumeSlot s).fe.slot + 1) % 72 ∧
    ((resumeSlot s).fe.slot = 71 → (rotationSlot x s).fe.firstDone = true) := by
  rw [rotationSlot_next x s valid due back extra]
  obtain ⟨only, slot, -, -⟩ := rotated_only (resumeSlot s).fe.slot
    (slotOf (slotMod (resumeSlot s).fe.slot) x { resumeSlot s with fe.slot := ((resumeSlot s).fe.slot + 1) % 72 })
  have run := offMods_slotOf (slotMod (resumeSlot s).fe.slot) x { resumeSlot s with fe.slot := ((resumeSlot s).fe.slot + 1) % 72 }
  refine ⟨?_, slot.trans (of_offMods (fun u => u.fe.slot) (fun _ => rfl) run), fun last => ?_⟩
  · refine (onlyFront_of_offMods (offMods_resumeSlot s)).trans (OnlyFront.trans ?_ only)
    exact OnlyFront.trans (t := { resumeSlot s with fe.slot := ((resumeSlot s).fe.slot + 1) % 72 }) rfl (onlyFront_of_offMods run)
  · rw [last]
    exact rotated_last _

/-- Slot 63 + g is that of the spare of group g, which passes or fails its calibration (R32, R35, R36). -/
theorem rotationSlot_spare (back : (resumeSlot s).fe.back = []) (extra : (resumeSlot s).fe.extra = []) (g : Nat)
    (slot : (resumeSlot s).fe.slot = 63 + g) (hg : g < 9) (group : hasGroup s g = true)
    (free : vat (resumeSlot s).nvFe.subst g none = none) (cut : x.cut = 0) :
    let u := resumeSlot s
    let t := rotationSlot x s
    let old := vat u.fe.mods (8 * g + 7) {}
    (calOkay (8 * g + 7) x (calFrozen x u) = true →
      (vat t.nvFe.mods (8 * g + 7) {}).passes = satAdd 8 (vat u.nvFe.mods (8 * g + 7) {}).passes 1 ∧
      vat t.fe.mods (8 * g + 7) {} = passedMod (passedCoef (calFrozen x u) old.cur x s.clk.time) s.clk.mono old) ∧
    (calOkay (8 * g + 7) x (calFrozen x u) = false → (vat t.nvFe.mods (8 * g + 7) {}).passes = 0 ∧ isFaulty t (8 * g + 7) = true) := by
  intro u t old
  have resumed := offMods_resumeSlot s
  have clk : u.clk = s.clk := of_offMods State.clk (fun _ => rfl) resumed
  have number : slotMod u.fe.slot = 8 * g + 7 := by
    rw [slotMod, slot]
    omega
  have gi : gIx (8 * g + 7) = g := by
    rw [gIx]
    omega
  have ci : cIx (8 * g + 7) = 7 := by
    rw [cIx]
    omega
  have group' : hasGroup u (gIx (8 * g + 7)) = true := by
    rw [gi]
    exact (of_offMods (fun v => hasGroup v g) (fun _ => rfl) resumed).trans group
  have free' : vat u.nvFe.subst (gIx (8 * g + 7)) none = none := by rwa [gi]
  obtain ⟨-, -, mods, nv⟩ := rotated_only u.fe.slot (slotOf (8 * g + 7) x { u with fe.slot := (u.fe.slot + 1) % 72 })
  have next : t = rotated u.fe.slot (slotOf (8 * g + 7) x { u with fe.slot := (u.fe.slot + 1) % 72 }) := by
    rw [← number]
    exact rotationSlot_next x s valid due back extra
  rw [isFaulty, next, mods, nv, ← clk]
  exact ⟨slotOf_spare_passes (8 * g + 7) x { u with fe.slot := (u.fe.slot + 1) % 72 } (by omega) ci group' free' cut,
    slotOf_spare_fails (8 * g + 7) x { u with fe.slot := (u.fe.slot + 1) % 72 } (by omega) ci group' free' cut⟩

end

/-! ### MODULATOR_FAULT and MODULATOR_OVERDUE (R38 to R41) -/

theorem modulatorFault_marks (m : Fin 72) (e : ModEvidence) (s : State) (valid : s.fe.valid = true) (group : hasGroup s (gIx m.1) = true)
    (shown : evidenceHolds s m.1 e = true) : exec (.modulatorFault m e) s = .next (markFaulty m.1 s) :=
  congrArg Host.Outcome.next (if_pos (by simp [valid, group, shown]))

theorem gIx_lt (i : Nat) (hi : i < 72) : gIx i < 9 := by
  rw [gIx]
  omega

section
variable (i : Nat) (s : State) (hi : i < 72) (sound : isFaulty s i = false)
include hi sound

/-- A faulty spare degrades its group and leaves its substitution (R40). -/
theorem markFaulty_degrades (spare : cIx i = 7) : isDegraded (markFaulty i s) (gIx i) = true ∧
    vat (markFaulty i s).nvFe.subst (gIx i) none = vat s.nvFe.subst (gIx i) none := by
  obtain ⟨u, eq, nv, -⟩ := markFaulty_spare i s sound spare
  rw [eq, setDegraded_nvFe, nv, verdict_nvFe]
  exact ⟨isDegraded_setDegraded _ _ _ (gIx_lt i hi), rfl⟩

/-- The spare keeps the channel it serves in rotation (R39, R40). -/
theorem markFaulty_keeps (own : cIx i ≠ 7) (busy : vat s.fe.spareBusy (gIx i) none = some (cIx i)) :
    isDegraded (markFaulty i s) (gIx i) = true ∧ vat (markFaulty i s).nvFe.subst (gIx i) none = some (cIx i) := by
  have hg := gIx_lt i hi
  rw [markFaulty_rotating i s sound own busy, setDegraded_nvFe, setSubst_nvFe]
  exact ⟨isDegraded_setDegraded _ _ _ hg, vat_vatMod_same _ _ _ _ hg⟩

/-- A serving modulator is replaced in a group not yet degraded, and leaves its channel INVALID in a degraded one (R39, R40). -/
theorem markFaulty_serving (free : vat s.fe.spareBusy (gIx i) none ≠ some (cIx i)) (unserved : vat s.nvFe.subst (gIx i) none ≠ some (cIx i))
    (serves : internalEn s (gIx i) (cIx i) = true) :
    (isDegraded s (gIx i) = false → isDegraded (markFaulty i s) (gIx i) = true ∧
      vat (markFaulty i s).nvFe.subst (gIx i) none = some (cIx i)) ∧
    (isDegraded s (gIx i) = true → markFaulty i s = e17 i 2 (verdict i s)) := by
  have hg := gIx_lt i hi
  have own : cIx i ≠ 7 := by
    intro spare
    simp [internalEn, spare] at serves
  have responds : markFaulty i s = if isDegraded s (gIx i) then e17 i 2 (verdict i s) else replaceMod (gIx i) (cIx i) (verdict i s) := by
    rw [markFaulty_own i s sound own free, if_pos (by simp [serves, unserved])]
  refine ⟨fun whole => ?_, fun degraded => ?_⟩
  · rw [responds, if_neg (by simp [whole]), isDegraded, replaceMod_nvFe]
    exact ⟨vat_vatMod_same _ _ _ _ hg, vat_vatMod_same _ _ _ _ hg⟩
  · rw [responds, if_pos degraded]

end

theorem heldFor_of_since (s : State) (t0 : Nat) (since : Option Nat) (dur : Nat) (begun : since = some t0) (late : t0 + dur ≤ s.clk.mono) :
    heldFor s since dur = true := by
  simp [heldFor, begun, elapsed, late]

theorem modulatorOverdue_marks (m : Fin 72) (s : State) (first : s.fe.firstDone = true) (live : s.fe.frozen = false)
    (whole : isDegraded s (gIx m.1) = false) (new : (vget s.fe.mods m).overdue = false)
    (late : ∃ t0, (vget s.fe.mods m).lastPass = some t0 ∧ t0 + 600000000 ≤ s.clk.mono)
    (used : cIx m.1 = 7 ∨ internalEn s (gIx m.1) (cIx m.1) = true) :
    exec (.modulatorOverdue m) s =
      .next (e17 m.1 1 { s with fe.mods := vset s.fe.mods m { vget s.fe.mods m with overdue := true } }) := by
  obtain ⟨t0, pass, passed⟩ := late
  have held : heldFor s (vget s.fe.mods m).lastPass 600000000 = true :=
    heldFor_of_since s t0 _ 600000000 pass passed
  have serves : (internalEn s (gIx m.1) (cIx m.1) || cIx m.1 == 7) = true := by simpa [or_comm] using used
  rw [← vatMod_fin s.fe.mods m fun y => { y with overdue := true }]
  exact congrArg Host.Outcome.next (if_pos (by simp only [first, live, whole, new, held, serves]; rfl))

/-! ### External bitstreams (R27, R28) -/

theorem bitstreamStuck_marks (c : Fin 72) (periods : Nat) (s : State) (ext : extEn s c.1 = true) (long : 64 ≤ periods) :
    exec (.bitstreamStuck c periods) s = .next (level 19 (2 * c.1) true (xParam c.1)
      (modXch c.1 (fun x => { x with stuck := true }) (if (vget s.fe.xch c).stuck then s else e17 c.1 2 s))) :=
  congrArg Host.Outcome.next (if_pos (by simp [ext, long]))

theorem bitstreamRecover_clears (c : Fin 72) (us : Nat) (s : State) (long : 1000 ≤ us) (stuck : (vget s.fe.xch c).stuck = true) :
    exec (.bitstreamRecover c us) s = .next (level 19 (2 * c.1) false (xParam c.1)
      { s with fe.xch := vset s.fe.xch c { vget s.fe.xch c with stuck := false, inv := some s.clk.mono } }) := by
  rw [← vatMod_fin s.fe.xch c fun x => { x with stuck := false, inv := some s.clk.mono }]
  exact congrArg Host.Outcome.next (if_pos (by simp [stuck, long]))

theorem bitstreamOverrange_follows (c : Fin 72) (ones : Nat) (s : State) (ext : extEn s c.1 = true) :
    let x := vget s.fe.xch c
    let on := decide (243 < ones ∨ ones < 13)
    exec (.bitstreamOverrange c ones) s = .next (level 19 (2 * c.1 + 1) on (xParam c.1)
      { s with fe.xch := vset s.fe.xch c { x with ovr := on, ovrEnd := if x.ovr = true ∧ on = false then some s.clk.mono else x.ovrEnd } }) := by
  intro x on
  have beyond : (decide (243 < ones) || decide (ones < 13)) = on := (Bool.decide_or _ _).symm
  have effect : modXch c.1 (fun x => { x with ovr := on, ovrEnd := if x.ovr && !on then some s.clk.mono else x.ovrEnd }) s =
      { s with fe.xch := vset s.fe.xch c { x with ovr := on, ovrEnd := if x.ovr = true ∧ on = false then some s.clk.mono else x.ovrEnd } } := by
    rw [modXch, vatMod_fin]
    simp [x]
  rw [← effect, ← beyond]
  exact congrArg Host.Outcome.next (if_pos ext)

/-- Two changes of a channel that make the same of the entry that stands are one change. -/
theorem modXch_congr (c : Fin 72) (f g : XCh → XCh) (s : State) (h : f (vget s.fe.xch c) = g (vget s.fe.xch c)) :
    modXch c.1 f s = modXch c.1 g s := by
  simp only [modXch, vatMod_fin, h]

/-- A new window begins with the run of mismatching windows as it stands. -/
theorem xStart_misRun (c : Fin 72) (s : State) : (vget (xStart c.1 s).fe.xch c).misRun = (vget s.fe.xch c).misRun := by
  simp [xStart, vatMod_fin]

section
variable (c : Fin 72) (s : State) (valid : s.fe.valid = true) (ext : extEn s c.1 = true)
  (partner : chPartner (grp s (gIx c.1)) (cIx c.1) ≠ 0x7F) (due : (vget s.fe.xch c).xAt + 1000000 ≤ s.clk.mono)
include valid ext partner due

/-- A window that is due ends by what it finds (R28). -/
theorem crossCheckWindow_eq : exec (.crossCheckWindow c) s = .next (match xCheck s c with
    | none => xStart c s
    | some true =>
      let t := modXch c (fun y => { y with misRun := min 3 (y.misRun + 1), xchk := y.xchk || decide (2 ≤ y.misRun) }) (xStart c s)
      if 2 ≤ (vget s.fe.xch c).misRun then level 20 c.1 true (xParam c) t else t
    | some false => level 20 c.1 false (xParam c) (modXch c (fun y => { y with misRun := 0, xchk := false }) (xStart c s))) :=
  congrArg Host.Outcome.next (if_neg (by simp [valid, ext, partner, elapsed, due]))

theorem crossCheckWindow_small (h : xCheck s c.1 = none) : exec (.crossCheckWindow c) s = .next (xStart c.1 s) := by
  rw [crossCheckWindow_eq c s valid ext partner due, h]

theorem crossCheckWindow_differs (h : xCheck s c.1 = some true) (few : (vget s.fe.xch c).misRun < 2) :
    exec (.crossCheckWindow c) s = .next (modXch c.1 (fun y => { y with misRun := y.misRun + 1 }) (xStart c.1 s)) := by
  rw [crossCheckWindow_eq c s valid ext partner due, h]
  dsimp only
  rw [if_neg (by omega)]
  refine congrArg Host.Outcome.next (modXch_congr c _ _ _ ?_)
  have run := xStart_misRun c s
  have low : min 3 ((vget (xStart c.1 s).fe.xch c).misRun + 1) = (vget (xStart c.1 s).fe.xch c).misRun + 1 := by omega
  have calm : decide (2 ≤ (vget (xStart c.1 s).fe.xch c).misRun) = false := by simp [run, few]
  rw [low, calm, Bool.or_false]

theorem crossCheckWindow_raises (h : xCheck s c.1 = some true) (third : 2 ≤ (vget s.fe.xch c).misRun) :
    exec (.crossCheckWindow c) s =
      .next (level 20 c.1 true (xParam c.1) (modXch c.1 (fun y => { y with misRun := 3, xchk := true }) (xStart c.1 s))) := by
  rw [crossCheckWindow_eq c s valid ext partner due, h]
  dsimp only
  rw [if_pos third]
  refine congrArg (fun t => Host.Outcome.next (level 20 c.1 true (xParam c.1) t)) (modXch_congr c _ _ _ ?_)
  have run := xStart_misRun c s
  have high : min 3 ((vget (xStart c.1 s).fe.xch c).misRun + 1) = 3 := by omega
  have mark : decide (2 ≤ (vget (xStart c.1 s).fe.xch c).misRun) = true := by simp [run, third]
  rw [high, mark, Bool.or_true]

theorem crossCheckWindow_agrees (h : xCheck s c.1 = some false) : exec (.crossCheckWindow c) s =
    .next (level 20 c.1 false (xParam c.1) (modXch c.1 (fun y => { y with misRun := 0, xchk := false }) (xStart c.1 s))) := by
  rw [crossCheckWindow_eq c s valid ext partner due, h]

end

/-! ### Group commits (R45) -/

/-- A command taken whose rules wait answers later. -/
theorem command_wait (op : Nat) (body : Flight → State → CmdOut) (p : Pkt) (s t : State) (h : taken op p s = true)
    (hb : body (flightOf op p s) (begun op p s) = .wait t) : command op body p s = t :=
  (command_of_taken op body p s h).trans (startCmd_wait _ _ _ _ hb)

@[simp] theorem begun_hasGroup (op : Nat) (p : Pkt) (s : State) (g : Nat) : hasGroup (begun op p s) g = hasGroup s g := by simp [hasGroup]

theorem mtrCommit_waits (p : Pkt) (s : State) (m : Nat) (cs : List BlkCopy) (ht : taken 0x0201 p s = true) (hl : p.payload.length = 2)
    (hm : u16 0 p.payload = m) (pos : 0 < m) (small : m < 2 ^ (s.member.points + 1)) :
    let u := begun 0x0201 p s
    let f := flightOf 0x0201 p s
    Takes u ((maskGroups m).map (0x0210 + ·)) cs → closedInGroups u m = false → u.fe.commit = none →
    exec (.mtrCommit p) s = .next (take f cs { u with fe.commit := some { f with tag := m } }) := by
  intro u f takes opened idle
  have named : (decide (0 < m) && decide (m < 2 ^ (u.member.points + 1))) = true := by simp [u, pos, small]
  refine congrArg Host.Outcome.next (command_wait _ _ p s _ ht ?_)
  rw [sized_eq _ _ _ _ hl]
  unfold mtrCommitBody
  simp only [flightOf_pkt, hm]
  rw [need_pos named, takeStored_of_takes _ _ _ _ takes, need_not opened, need_pos (by simp [u, idle])]
  rfl

@[simp] theorem offMods_adopt (g c : Nat) (s : State) : offMods (adopt g c s) = offMods s := by
  unfold adopt
  repeat' split
  all_goals simp

@[simp] theorem offMods_dropSupervision (old : List Byte) (g c : Nat) (s : State) : offMods (dropSupervision old g c s) = offMods s := by
  unfold dropSupervision
  extract_lets b i t
  have withdrawn : offMods t = offMods s := by
    simp only [t]
    split
    · rfl
    · simp
  repeat' split
  all_goals simp [withdrawn]

/-- Applying a group's block restarts chains, ends supervision and adopts channels: of the front end and its events alone. -/
@[simp] theorem offMods_applyGroup (old : List Byte) (g : Nat) (s : State) : offMods (applyGroup old g s) = offMods s := by
  unfold applyGroup
  refine foldl_keeps offMods _ (fun t c => ?_) _ s
  extract_lets v w r d
  have restarted : offMods r = offMods t := by
    simp only [r]
    split
    · rfl
    · rfl
  have dropped : offMods d = offMods t := (offMods_dropSupervision old g c r).trans restarted
  split
  · rw [offMods_adopt, dropped]
  · exact dropped

theorem mtrCommitApply_applies (f : Flight) (s : State) (waits : s.fe.commit = some f) (free : commitFree s f.tag = true) :
    let u := (maskGroups f.tag).foldl (fun t g => applyGroup (grp s g) g t) (commitCopies (takenBy s f) { s with fe.commit := none })
    exec .mtrCommitApply s = .next (startMeters s (recheck (finish f (le 8 s.clk.time) (untake f u)))) := by
  intro u
  have kept : offMods u = offMods (commitCopies (takenBy s f) { s with fe.commit := none }) :=
    foldl_keeps offMods _ (fun t g => offMods_applyGroup (grp s g) g t) _ _
  have clk : u.clk = s.clk := by
    rw [of_offMods State.clk (fun _ => rfl) kept, commitCopies_only]
  have applied : mtrApply s = finish f (le 8 u.clk.time) (untake f u) := by
    unfold mtrApply
    rw [waits]
    dsimp only
    rw [if_neg (by simp [free])]
    rfl
  rw [← clk, ← applied]
  rfl

/-! ### MTR_CAL_STATUS and MTR_REQUALIFY (R45, R46) -/

theorem mtrCalStatus_answers (p : Pkt) (s : State) (i : Nat) (ht : taken 0x0202 p s = true) (hl : p.payload.length = 4)
    (hi : u8 0 p.payload = i) (reserved : rsv 1 3 p.payload = true) (small : i < 72) (group : hasGroup s (gIx i) = true) :
    let u := begun 0x0202 p s
    exec (.mtrCalStatus p) s = .next (finish (flightOf 0x0202 p s) (coefBytes (vat u.fe.mods i {}).cur ++ coefBytes (factoryCoef i) ++
      le 1 (roleOf u i) ++ le 1 (servingOf u i) ++
      le 2 (b2n (vat u.fe.mods i {}).cold + 2 * b2n u.fe.frozen + 4 * b2n (isDegraded u (gIx i))) ++
      le 1 (vat u.nvFe.mods i {}).passes ++ zeros 3) u) := by
  intro u
  have named : (rsv 1 3 p.payload && decide (i < 72) && hasGroup u (gIx i)) = true := by simp [u, reserved, small, group]
  refine congrArg Host.Outcome.next (command_done _ _ p s _ _ ht ?_)
  rw [sized_eq _ _ _ _ hl]
  unfold mtrCalStatusBody
  simp only [flightOf_pkt, hi]
  exact need_pos named _ _

/-- A modulator cleared of its verdict, before it returns to its channel (R46). -/
def cleared (i : Nat) (s : State) : State :=
  modMod i (fun x => { x with cmpFails := 0 }) (modNvMod i (fun x => { x with faulty := false }) s)

@[simp] theorem cleared_subst (i : Nat) (s : State) : (cleared i s).nvFe.subst = s.nvFe.subst := rfl

/-- A cleared modulator takes its place: the spare is idle, a modulator whose channel the spare serves returns in the next slot, and
one whose channel had none returns at once, settling (R46). -/
def placed (i : Nat) (v : State) : State :=
  if cIx i = 7 then leaveDegraded (gIx i) (setSubst (gIx i) none v)
  else if vat v.nvFe.subst (gIx i) none = some (cIx i) then
    if isFaulty v (8 * gIx i + 7) then
      leaveDegraded (gIx i) (modXch i (fun x => { x with inv := some v.clk.mono }) (setSubst (gIx i) none v))
    else { v with fe.back := v.fe.back ++ [i] }
  else leaveDegraded (gIx i) (modXch i (fun x => { x with inv := some v.clk.mono }) v)

/-- Clearing a modulator leaves the verdict on its spare. -/
theorem isFaulty_cleared_spare (i : Nat) (s : State) (own : cIx i ≠ 7) :
    isFaulty (cleared i s) (8 * gIx i + 7) = isFaulty s (8 * gIx i + 7) := by
  have other : 8 * gIx i + 7 ≠ i := by
    rw [cIx] at own
    rw [gIx]
    omega
  show (vat (vatMod s.nvFe.mods i _) (8 * gIx i + 7) {}).faulty = _
  rw [vat_vatMod_other _ _ _ _ _ other]
  rfl

section
variable (p : Pkt) (s : State) (m : Fin 72) (ht : taken 0x0203 p s = true) (hl : p.payload.length = 4) (hm : u8 0 p.payload = m.1)
  (reserved : rsv 1 3 p.payload = true) (group : hasGroup s (gIx m.1) = true) (faulty : isFaulty (begun 0x0203 p s) m.1 = true)
  (passes : 3 ≤ (vget (begun 0x0203 p s).nvFe.mods m).passes)
include ht hl hm reserved group faulty passes

/-- A requalification answers with the state in which the modulator takes its place (R46). -/
theorem mtrRequalify_places : exec (.mtrRequalify p) s =
    .next (finish (flightOf 0x0203 p s) [] (placed m.1 (cleared m.1 (begun 0x0203 p s)))) := by
  have named : (rsv 1 3 p.payload && decide (m.1 < 72) && hasGroup (begun 0x0203 p s) (gIx m.1)) = true := by
    simp [reserved, group]
  have qualified : (isFaulty (begun 0x0203 p s) m.1 && decide (3 ≤ (vat (begun 0x0203 p s).nvFe.mods m.1 {}).passes)) = true := by
    rw [vat_lt]
    simp [faulty, passes]
  refine congrArg Host.Outcome.next (command_done _ _ p s _ _ ht ?_)
  rw [sized_eq _ _ _ _ hl]
  unfold mtrRequalifyBody
  simp only [flightOf_pkt, hm]
  rw [need_pos named, need_pos qualified]
  unfold placed cleared
  split
  · rfl
  split
  · split
    · rfl
    · rfl
  · rfl

theorem mtrRequalify_spare (spare : cIx m.1 = 7) : exec (.mtrRequalify p) s = .next (finish (flightOf 0x0203 p s) []
    (leaveDegraded (gIx m.1) (setSubst (gIx m.1) none (cleared m.1 (begun 0x0203 p s))))) := by
  rw [mtrRequalify_places p s m ht hl hm reserved group faulty passes, placed, if_pos spare]

theorem mtrRequalify_returns (own : cIx m.1 ≠ 7) (served : vat (begun 0x0203 p s).nvFe.subst (gIx m.1) none = some (cIx m.1))
    (sound : isFaulty (begun 0x0203 p s) (8 * gIx m.1 + 7) = false) :
    let v := cleared m.1 (begun 0x0203 p s)
    exec (.mtrRequalify p) s = .next (finish (flightOf 0x0203 p s) [] { v with fe.back := v.fe.back ++ [m.1] }) := by
  rw [mtrRequalify_places p s m ht hl hm reserved group faulty passes, placed, if_neg own, cleared_subst, if_pos served,
    isFaulty_cleared_spare m.1 _ own, if_neg (by simp [sound])]

/-- A channel that had no modulator, whether the spare that served it failed or none ever did, has its own again at once. -/
theorem mtrRequalify_settles (own : cIx m.1 ≠ 7)
    (unserved : (vat (begun 0x0203 p s).nvFe.subst (gIx m.1) none = some (cIx m.1) ∧ isFaulty (begun 0x0203 p s) (8 * gIx m.1 + 7) = true) ∨
      vat (begun 0x0203 p s).nvFe.subst (gIx m.1) none ≠ some (cIx m.1)) :
    let v := cleared m.1 (begun 0x0203 p s)
    exec (.mtrRequalify p) s = .next (finish (flightOf 0x0203 p s) [] (leaveDegraded (gIx m.1)
      (modXch m.1 (fun x => { x with inv := some v.clk.mono })
        (if vat (begun 0x0203 p s).nvFe.subst (gIx m.1) none = some (cIx m.1) then setSubst (gIx m.1) none v else v)))) := by
  intro v
  rw [mtrRequalify_places p s m ht hl hm reserved group faulty passes, placed, if_neg own, cleared_subst]
  rcases unserved with ⟨served, lost⟩ | unserved
  · rw [if_pos served, isFaulty_cleared_spare m.1 _ own, if_pos lost, if_pos served]
  · rw [if_neg unserved, if_neg unserved]

end

end Sys2Proof.Laws

namespace Sys2Proof.Proofs

open Sys2Proof Sys2Proof.Machine Sys2Proof.Laws

/-- Settles O19: each clause is the rule of its row or command; what a slot or a verdict leaves alone is what `offMods` keeps. -/
theorem frontEndCompletes : Obligations.FrontEndCompletes := by
  unfold Obligations.FrontEndCompletes
  refine ⟨?_, ?_, ?_, ?_, mtrCommit_waits, mtrCommitApply_applies, mtrCalStatus_answers, ?_⟩
  · intro x s valid due
    refine ⟨resumeSlot_idle s, ?_, ?_, fun back extra => ⟨rotationSlot x s, rfl, ?_⟩⟩
    · exact fun i rest back => congrArg Host.Outcome.next (rotationSlot_back x s valid due i rest back)
    · exact fun i rest back extra => congrArg Host.Outcome.next (rotationSlot_extra x s valid due i rest back extra)
    · obtain ⟨only, slot, first⟩ := rotationSlot_advances x s valid due back extra
      exact ⟨only, slot, first, rotationSlot_spare x s valid due back extra⟩
  · intro m e s valid group shown
    refine ⟨_, modulatorFault_marks m e s valid group shown, onlyFront_of_offMods (offMods_markFaulty m.1 s), ?_,
      markFaulty_again m.1 s, markFaulty_degrades m.1 s m.2, markFaulty_keeps m.1 s m.2, markFaulty_serving m.1 s m.2⟩
    rw [← vat_lt _ m {}]
    exact markFaulty_marks m.1 s m.2
  · exact modulatorOverdue_marks
  · refine fun c s => ⟨fun periods => bitstreamStuck_marks c periods s, fun us => bitstreamRecover_clears c us s,
      fun ones => bitstreamOverrange_follows c ones s, fun valid ext partner due => ?_⟩
    exact ⟨crossCheckWindow_small c s valid ext partner due, crossCheckWindow_differs c s valid ext partner due,
      crossCheckWindow_raises c s valid ext partner due, crossCheckWindow_agrees c s valid ext partner due⟩
  · intro p s m ht hl hm reserved group u f g v faulty passes
    exact ⟨mtrRequalify_spare p s m ht hl hm reserved group faulty passes, mtrRequalify_returns p s m ht hl hm reserved group faulty passes,
      mtrRequalify_settles p s m ht hl hm reserved group faulty passes⟩

end Sys2Proof.Proofs

namespace Sys2Proof.Laws

open Sys2Proof Sys2Proof.Machine

/-! ## The samples and the quantities at hand (R57, R68, R96) -/

/-- The detectors, and of every meter its reported quantities and the samples of its window: what delivering energy, boundaries and
the ends of sessions leave alone. -/
def readings (s : State) : Filt × Vector (MtrVals × List (Int × List Int × List Nat)) 9 :=
  (s.filt, s.en.m.map fun x => (x.vals, x.win.smp))

theorem filt_of_readings {s t : State} (h : readings t = readings s) : t.filt = s.filt := congrArg Prod.fst h

theorem meter_of_readings {s t : State} (h : readings t = readings s) (m : Fin 9) :
    ((vget t.en.m m).vals, (vget t.en.m m).win.smp) = ((vget s.en.m m).vals, (vget s.en.m m).win.smp) := by
  have all := congrArg (fun x => vget x.2 m) h
  simpa only [readings, vget_map] using all

theorem readings_of_quiet {s t : State} (h : quiet t = quiet s) : readings t = readings s := of_quiet readings (fun _ => rfl) h

@[simp] theorem readings_upd_p100 (s : State) (x) : readings { s with p100 := x } = readings s := rfl
@[simp] theorem readings_upd_pfw (s : State) (x) : readings { s with pfw := x } = readings s := rfl
@[simp] theorem readings_upd_bill (s : State) (x) : readings { s with bill := x } = readings s := rfl
@[simp] theorem readings_upd_nvBill (s : State) (x) : readings { s with nvBill := x } = readings s := rfl

/-- A change of the energy engine beside the meters. -/
@[simp] theorem readings_upd_en (s : State) (x : Energy) (h : x.m = s.en.m) : readings { s with en := x } = readings s := by
  simp only [readings, h]

@[simp] theorem readings_pulse (ev : Nat) (p : List Byte) (s : State) : readings (pulse ev p s) = readings s := readings_of_quiet (quiet_pulse ev p s)
@[simp] theorem readings_level (ev key : Nat) (on : Bool) (p : List Byte) (s : State) : readings (level ev key on p s) = readings s :=
  readings_of_quiet (quiet_level ev key on p s)
@[simp] theorem readings_queueRec (r : PendRec) (s : State) : readings (queueRec r s) = readings s := readings_of_quiet (quiet_queueRec r s)
@[simp] theorem readings_persist (s : State) : readings (persist s) = readings s := by
  rw [persist_only]
  rfl

/-- A change of a meter beside its quantities and the samples of its window. -/
@[simp] theorem readings_modMeter (m : Fin 9) (f : Meter → Meter) (s : State) (h : ∀ x, (f x).vals = x.vals ∧ (f x).win.smp = x.win.smp) :
    readings (modMeter m f s) = readings s := by
  have same : (vmod s.en.m m f).map (fun x => (x.vals, x.win.smp)) = s.en.m.map fun x => (x.vals, x.win.smp) := by
    ext i hi
    all_goals
      simp only [vmod, Vector.getElem_map, Vector.getElem_set]
      split
      · simp_all
      · rfl
  exact congrArg (fun v => (s.filt, v)) same

@[simp] theorem readings_modWin (m : Fin 9) (f : Win → Win) (s : State) (h : ∀ w, (f w).smp = w.smp) : readings (modWin m f s) = readings s :=
  readings_modMeter m _ s fun x => ⟨rfl, h x.win⟩

@[simp] theorem readings_modMeterP (m : Fin 9) (f : MeterP → MeterP) (s : State) : readings (modMeterP m f s) = readings s := rfl
@[simp] theorem readings_modSessP (n : Fin 8) (f : SessP → SessP) (s : State) : readings (modSessP n f s) = readings s := rfl
@[simp] theorem readings_modSess (n : Fin 8) (f : Sess → Sess) (s : State) : readings (modSess n f s) = readings s := rfl
@[simp] theorem readings_modHlc (n : Fin 8) (f : Hlc → Hlc) (s : State) : readings (modHlc n f s) = readings s := rfl
@[simp] theorem readings_modSafe (n : Fin 8) (f : Safe → Safe) (s : State) : readings (modSafe n f s) = readings s := rfl
@[simp] theorem readings_modNvPt (n : Fin 8) (f : NvPoint → NvPoint) (s : State) : readings (modNvPt n f s) = readings s := rfl
@[simp] theorem readings_chanOn (c : Fin 24) (duty : Nat) (s : State) : readings (chanOn c duty s) = readings s := rfl
@[simp] theorem readings_chanOff (c : Fin 24) (s : State) : readings (chanOff c s) = readings s := rfl
@[simp] theorem readings_untake (f : Flight) (s : State) : readings (untake f s) = readings s := rfl

@[simp] theorem readings_complete (f : Flight) (st : Nat) (pl : List Byte) (s : State) : readings (complete f st pl s) = readings s :=
  of_offPort readings (fun _ => rfl) (offPort_complete f st pl s)

@[simp] theorem readings_commitCopies (cs : List BlkCopy) (s : State) : readings (commitCopies cs s) = readings s := by
  rw [commitCopies_only]
  rfl

/-! ### Delivering energy (R76 to R82, R98 to R118) -/

@[simp] theorem readings_pulses (m q delta : Nat) (s : State) : readings (pulses m q delta s) = readings s := by
  unfold pulses
  refine foldl_keeps readings _ (fun t i => ?_) _ s
  dsimp only
  split
  · split
    all_goals simp
  · rfl

@[simp] theorem readings_pulsePeriods (m len : Nat) (s : State) : readings (pulsePeriods m len s) = readings s := by
  unfold pulsePeriods
  refine foldl_keeps readings _ (fun t i => ?_) _ s
  split
  all_goals rfl

@[simp] theorem readings_chargeCredit (m : Fin 9) (delta : Nat) (sd : Side) (s : State) : readings (chargeCredit m delta sd s) = readings s := by
  unfold chargeCredit
  dsimp only
  repeat' split
  all_goals rfl

@[simp] theorem readings_deliverInc (m : Fin 9) (q : Fin 12) (delta : Nat) (sd : Side) (s : State) :
    readings (deliverInc m q delta sd s) = readings s := by
  unfold deliverInc
  dsimp only
  repeat' split
  all_goals simp

@[simp] theorem readings_transferQ (m : Fin 9) (q : Fin 12) (c : Nat) (sd : Side) (s : State) : readings (transferQ m q c sd s) = readings s := by
  unfold transferQ
  dsimp only
  repeat' split
  all_goals simp

@[simp] theorem readings_markFlags (m : Fin 9) (flags : Nat) (sd : Side) (s : State) : readings (markFlags m flags sd s) = readings s := by
  unfold markFlags
  dsimp only
  repeat' split
  all_goals simp

@[simp] theorem readings_transfer (m : Fin 9) (cs : List (Fin 12 × Nat)) (sd : Side) (s : State) : readings (transfer m cs sd s) = readings s := by
  unfold transfer
  exact foldl_keeps readings _ (fun t c => readings_transferQ m c.1 c.2 sd t) cs s

@[simp] theorem readings_netClose (m : Fin 9) (sd : Side) (s : State) : readings (netClose m sd s) = readings s := by
  unfold netClose
  dsimp only
  split
  all_goals simp

@[simp] theorem readings_deliverSide (m : Fin 9) (qs : List ElemQ) (n a flags : Nat) (sd : Side) (u : SideSum) (s : State) :
    readings (deliverSide m qs n a flags sd u s) = readings s := by
  have each (c : Nat → Bool) (cs : Nat → List (Fin 12 × Nat)) (l : List Nat) (v : State) :
      readings (l.foldl (fun t i => if c i then transfer m (cs i) sd t else t) v) = readings v := by
    refine foldl_keeps readings _ (fun t i => ?_) l v
    split
    all_goals simp
  unfold deliverSide
  dsimp only
  split
  · simp
  · split
    · simp
    · exact (each (fun i => (qs.getD i ⟨false, 0, 0, 0, 0⟩).counted) _ _ _).trans (readings_markFlags m flags sd s)

/-! ### Boundaries (R72, R109 to R111, R134, R139, R384) -/

@[simp] theorem readings_demandClose (m : Fin 9) (flags t tariff len sub : Nat) (s : State) :
    readings (demandClose m flags t tariff len sub s) = readings s := by
  unfold demandClose
  extract_lets
  split
  · rfl
  · exact (readings_pulse _ _ _).trans rfl

@[simp] theorem readings_dailyTake (m : Fin 9) (s : State) : readings (dailyTake m s) = readings s := by
  unfold dailyTake
  dsimp only
  repeat' split
  all_goals simp

@[simp] theorem readings_fenceTake (m : Fin 9) (s : State) : readings (fenceTake m s) = readings s := by
  unfold fenceTake
  dsimp only
  repeat' split
  all_goals rfl

@[simp] theorem readings_sessionValues (n : Fin 8) (s : State) : readings (sessionValues n s) = readings s := by
  have queued (reason : EndReason) (flags tClose : Nat) : readings (queueSession n reason flags tClose false s) = readings s := by
    unfold queueSession
    dsimp only
    split
    all_goals simp
  unfold sessionValues
  split
  · split
    · rfl
    · exact queued _ _ _
  · rfl

@[simp] theorem readings_runAct (m : Fin 9) (a : BAct) (s : State) : readings (runAct m a s) = readings s := by
  unfold runAct
  repeat' split
  all_goals simp [periodClose, demandStart, sessionStart]

theorem readings_runActs (m : Fin 9) (acts : List BAct) (s : State) : readings (acts.foldl (fun t a => runAct m a t) s) = readings s :=
  foldl_keeps readings _ (fun t a => readings_runAct m a t) acts s

@[simp] theorem readings_boundaryAt (t : Nat) (m : Fin 9) (acts : List BAct) (s : State) : readings (boundaryAt t m acts s) = readings s := by
  unfold boundaryAt
  dsimp only
  split
  all_goals simp [readings_runActs]

@[simp] theorem readings_boundary (m : Fin 9) (acts : List BAct) (s : State) : readings (boundary m acts s) = readings s :=
  readings_boundaryAt _ m acts s

@[simp] theorem readings_deliverSides (m : Fin 9) (qs : List ElemQ) (n flags a : Nat) (l : List (Side × SideSum)) (s : State) :
    readings (deliverSides m qs n flags a l s) = readings s := by
  induction l generalizing a s with
  | nil => rfl
  | cons x rest ih =>
    rw [deliverSides, ih, readings_runActs]
    split
    all_goals split
    all_goals simp

/-! ### Points (R16 to R19, R187, R233, R242, R468) -/

@[simp] theorem readings_setPhase (n : Fin 8) (p : HlcPhase) (s : State) : readings (setPhase n p s) = readings s := by
  unfold setPhase e55
  split
  all_goals simp

@[simp] theorem readings_openCoil (n : Fin 8) (s : State) : readings (openCoil n s) = readings s := by
  unfold openCoil
  dsimp only
  repeat' split
  all_goals rfl

@[simp] theorem readings_tryClose (n : Fin 8) (flags : Nat) (s : State) : readings (tryClose n flags s) = readings s := by
  have values (reason : EndReason) (fl : Nat) : readings (closeValues n reason fl s) = readings s := by
    unfold closeValues
    split
    all_goals simp
  unfold tryClose
  split
  · split
    · exact values _ _
    · rfl
  · rfl

@[simp] theorem readings_markEnd (n : Fin 8) (reason : EndReason) (s : State) : readings (markEnd n reason s) = readings s := by
  unfold markEnd
  split
  all_goals simp

@[simp] theorem readings_weldPhase (n : Fin 8) (s : State) : readings (weldPhase n s) = readings s := by
  unfold weldPhase
  split
  all_goals simp

@[simp] theorem readings_leaveDc (n : Fin 8) (s : State) : readings (leaveDc n s) = readings s := by
  unfold leaveDc
  split
  all_goals rfl

@[simp] theorem readings_endNow (n : Fin 8) (reason : EndReason) (s : State) : readings (endNow n reason s) = readings s := by
  unfold endNow
  split
  all_goals simp

@[simp] theorem readings_endSoft (n : Fin 8) (reason : EndReason) (s : State) : readings (endSoft n reason s) = readings s := by
  unfold endSoft
  split
  all_goals simp

@[simp] theorem readings_rampCheck (n : Fin 8) (s : State) : readings (rampCheck n s) = readings s := by
  unfold rampCheck
  dsimp only
  split
  all_goals simp

@[simp] theorem readings_setOos (n : Fin 8) (i : Nat) (s : State) : readings (setOos n i s) = readings s := by
  unfold setOos
  dsimp only
  split
  all_goals simp

/-! ### Prepayment (R119) -/

@[simp] theorem readings_ppGo (m : Fin 9) (st : PpState) (s : State) : readings (ppGo m st s) = readings s := by
  unfold ppGo
  dsimp only
  repeat' split
  all_goals simp

@[simp] theorem readings_supplyExhausted (s : State) : readings (supplyExhausted s) = readings s := by
  have command (u : State) : readings (commandSupply false u) = readings u := by
    unfold commandSupply e39
    repeat' split
    all_goals simp
  have ended : readings ((points s).foldl (fun t n => endSoft n .supplyCredit t) s) = readings s :=
    foldl_keeps readings _ (fun t n => readings_endSoft n _ t) _ s
  unfold supplyExhausted
  dsimp only
  split
  · rw [command, ended]
  · exact ended

@[simp] theorem readings_prepay (m : Fin 9) (s : State) : readings (prepay m s) = readings s := by
  unfold prepay
  dsimp only
  repeat' split
  all_goals simp

end Sys2Proof.Laws
namespace Sys2Proof.Laws

open Sys2Proof Sys2Proof.Machine

/-! ## METERING_WINDOW_CLOSE (R71 to R89, R95, R119, R138) -/

/-- The reported quantities of a meter after they are set, with all that `readings` shows of the state. -/
theorem readings_setVals (m : Fin 9) (v : MtrVals) (s : State) :
    readings (modMeter m (fun x => { x with vals := v }) s) = ((readings s).1, vset (readings s).2 m (v, (vget (readings s).2 m).2)) := by
  simp [readings, modMeter, vmod, vset, vget, Vector.map_set]

/-- A session marked by a tamper finding (R134). -/
@[simp] theorem readings_tamperSess (n : Fin 8) (s : State) : readings (tamperSess n s) = readings s := by
  unfold tamperSess
  split
  all_goals rfl

@[simp] theorem readings_direction (m : Fin 9) (v : MtrVals) (w : WinSum) (s : State) : readings (direction m v w s) = readings s := by
  have classified (t : Nat) (u : State) : readings (classify84 m t u) = readings u := by
    unfold classify84 e23
    repeat' split
    all_goals simp [tamperRec]
  unfold direction
  dsimp only
  repeat' split
  all_goals simp [classified]

@[simp] theorem readings_findings (m : Fin 9) (v : MtrVals) (w : WinSum) (s : State) : readings (findings m v w s) = readings s := by
  have note (k : Nat) (on : Bool) (t : Nat) (u : State) : readings (noteFind m k on v t u) = readings u := by
    unfold noteFind
    dsimp only
    repeat' split
    all_goals simp [tamperRec]
  unfold findings
  refine foldl_keeps readings _ (fun t k => ?_) _ s
  extract_lets f f' u
  have stepped : readings u = readings t := readings_modMeter m _ t fun _ => ⟨rfl, rfl⟩
  split
  · exact stepped
  · rw [note, stepped]

/-- What the quantities of a window bring leaves the samples, and sets the quantities where the window holds samples (R71, R75). -/
theorem readings_winDeliver (m : Fin 9) (t : Nat) (w : WinSum) (s : State) :
    readings (winDeliver m t w s) = readings (if w.n = 0 then s else modMeter m (fun x => { x with vals := winVals s m t w }) s) := by
  unfold winDeliver
  extract_lets b mb f v qs sub flags u
  have delivered : readings u = readings s := readings_deliverSides _ _ _ _ _ _ _
  split
  · exact delivered
  · have followed : readings (findings m v w (direction m v w (modMeter m (fun x => { x with vals := v }) (pulsePeriods m.1 w.len u)))) =
        readings (modMeter m (fun x => { x with vals := v }) s) := by
      rw [readings_findings, readings_direction, readings_setVals, readings_setVals, readings_pulsePeriods, delivered]
    split
    · rw [readings_rampCheck]
      exact followed
    · exact followed

@[simp] theorem readings_applyMeterBlock (m : Fin 9) (t : Nat) (sd : Side) (s : State) : readings (applyMeterBlock m t sd s) = readings s := by
  have done (u : State) : readings (energyDone t u) = readings u := by
    unfold energyDone finish
    repeat' split
    all_goals simp
  unfold applyMeterBlock
  repeat' split
  all_goals simp [done]

/-- Following the frequency raises an event alone. -/
theorem quiet_followFreq (m : Fin 9) (s : State) : quiet (followFreq m s) = quiet s := by
  unfold followFreq
  dsimp only
  split
  · rfl
  · exact quiet_level _ _ _ _ _

/-- The profile entries a close completes are all of it that is written (R138). -/
theorem profileFollow_only (s : State) : (profileFollow s).filt = s.filt ∧ (profileFollow s).en = s.en := by
  have write (t : Nat) (first : Bool) (u : State) : ((profWrite t first u).filt, (profWrite t first u).en) = (u.filt, u.en) := by
    unfold profWrite
    dsimp only
    split
    all_goals rfl
  have run (t : Nat) : ((profileRun t s).filt, (profileRun t s).en) = (s.filt, s.en) := by
    unfold profileRun
    dsimp only
    repeat' split
    · rfl
    · rfl
    · rfl
    · rw [persist_filt, persist_en]
      exact foldl_keeps (fun u => (u.filt, u.en)) _ (fun u i => write _ _ u) _ s
  exact Prod.mk.inj (run _)

/-- The state a window that ends at the elapsed time `e` leaves, before the next one starts: its quantities and increments, the block
of a waiting commit, and prepayment (R71, R77, R95, R119). -/
def windowDone (m : Fin 9) (e : Nat) (s : State) : State :=
  let t := onDevice s e / 64
  let cut := cutSides e t (vget s.en.m m).win.sides
  prepay m (applyMeterBlock m t { (cut.1.getLastD {}) with tEnd := some t } (winDeliver m t (winSum s m e cut.1) s))

theorem windowCloseAt_eq (m : Fin 9) (e : Nat) (period : Option Nat) (s : State) :
    windowCloseAt m e period s = profileFollow (followFreq m (nextWindow m e (onDevice s e / 64) period
      (cutSides e (onDevice s e / 64) (vget s.en.m m).win.sides).2 (windowDone m e s))) := rfl

/-- Of the detectors and the energy engine, a close leaves the state of the next window's start. -/
theorem windowCloseAt_only (m : Fin 9) (e : Nat) (period : Option Nat) (s : State) :
    let t := onDevice s e / 64
    let u := nextWindow m e t period (cutSides e t (vget s.en.m m).win.sides).2 (windowDone m e s)
    (windowCloseAt m e period s).filt = u.filt ∧ (windowCloseAt m e period s).en = u.en := by
  intro t u
  rw [windowCloseAt_eq]
  obtain ⟨filt, en⟩ := profileFollow_only (followFreq m u)
  have freq := quiet_followFreq m u
  exact ⟨filt.trans (of_quiet State.filt (fun _ => rfl) freq), en.trans (of_quiet State.en (fun _ => rfl) freq)⟩

theorem readings_windowDone (m : Fin 9) (e : Nat) (s : State) :
    let t := onDevice s e / 64
    let w := winSum s m e (cutSides e t (vget s.en.m m).win.sides).1
    readings (windowDone m e s) = readings (if w.n = 0 then s else modMeter m (fun x => { x with vals := winVals s m t w }) s) := by
  intro t w
  unfold windowDone
  rw [readings_prepay, readings_applyMeterBlock]
  exact readings_winDeliver m t w s

/-- A window's close leaves the detectors. -/
@[simp] theorem windowCloseAt_filt (m : Fin 9) (e : Nat) (period : Option Nat) (s : State) : (windowCloseAt m e period s).filt = s.filt := by
  obtain ⟨filt, -⟩ := windowCloseAt_only m e period s
  have done := filt_of_readings (readings_windowDone m e s)
  rw [filt]
  refine done.trans ?_
  split
  all_goals rfl

/-- The quantities and the samples a meter has once its window is done: the samples as they were, and, of a window that holds samples,
its quantities. -/
theorem windowDone_meter (m : Fin 9) (e : Nat) (s : State) :
    let t := onDevice s e / 64
    let w := winSum s m e (cutSides e t (vget s.en.m m).win.sides).1
    (w.n ≠ 0 → (vget (windowDone m e s).en.m m).vals = winVals s m t w) ∧
      (vget (windowDone m e s).en.m m).win.smp = (vget s.en.m m).win.smp := by
  intro t w
  obtain ⟨vals, smp⟩ := Prod.mk.inj (meter_of_readings (readings_windowDone m e s) m)
  constructor
  · intro some
    rw [vals, if_neg some]
    simp [modMeter, t, w]
  · rw [smp]
    split
    all_goals simp [modMeter]

/-- The close of a window that is complete: its quantities, and the start of the next one with the samples from its end on (R71, R72,
R75). -/
theorem meteringWindowClose_closes (m : Fin 9) (s : State) (runs : meterRuns s m.1 = true) :
    let e := (winEnd s m).1
    let tm := onDevice s e / 64
    let w := winSum s m e (cutSides e tm (vget s.en.m m).win.sides).1
    winComplete s m e = true → ∃ t, exec (.meteringWindowClose m) s = .next t ∧
      (w.n ≠ 0 → (vget t.en.m m).vals = winVals s m tm w) ∧
      (vget t.en.m m).win.start = tm ∧ (vget t.en.m m).win.startE = e ∧ (vget t.en.m m).win.period = (winEnd s m).2 ∧
      (vget t.en.m m).win.smp = (vget s.en.m m).win.smp.filter fun x => !decide (x.1 < (e : Int)) := by
  intro e tm w complete
  refine ⟨windowCloseAt m e (winEnd s m).2 s, congrArg Host.Outcome.next (if_pos (by simp [runs, complete, e])), ?_⟩
  obtain ⟨-, en⟩ := windowCloseAt_only m e (winEnd s m).2 s
  obtain ⟨vals, smp⟩ := windowDone_meter m e s
  rw [en]
  refine ⟨fun some => ?_, ?_, ?_, ?_, ?_⟩
  · rw [← vals some]
    simp [nextWindow, modWin, modMeter]
  · simp [nextWindow, modWin, modMeter, tm]
  · simp [nextWindow, modWin, modMeter]
  · simp [nextWindow, modWin, modMeter]
  · rw [← smp]
    simp [nextWindow, modWin, modMeter]

end Sys2Proof.Laws
namespace Sys2Proof.Laws

open Sys2Proof Sys2Proof.Machine

/-! ## Crossings (R60 to R63, R73, R219, R220, R438) -/

/-! ### A power-fail warning leaves the detectors -/

theorem filt_of_offPoint {s t : State} (h : offPoint t = offPoint s) : t.filt = s.filt := of_offPoint State.filt (fun _ => rfl) h

@[simp] theorem boundaryAll_filt (acts : List BAct) (s : State) : (boundaryAll acts s).filt = s.filt :=
  filt_of_offPoint (offPoint_boundaryAll acts s)

@[simp] theorem ledgerLimits_filt (s : State) : (ledgerLimits s).filt = s.filt := of_quiet State.filt (fun _ => rfl) (quiet_ledgerLimits s)

@[simp] theorem dropRec_filt (s : State) : (dropRec s).filt = s.filt := of_quiet State.filt (fun _ => rfl) (quiet_dropRec s)

@[simp] theorem closeAll_filt (s : State) : (closeAll s).filt = s.filt := by
  unfold closeAll
  rw [foldl_keeps State.filt _ (fun t m => ?_)]
  · simp
  · split
    all_goals simp [windowClose]

@[simp] theorem gridFire_filt (dur : Bool) (s : State) : (gridFire dur s).1.filt = s.filt := by
  have fire (x : State × Nat) (b : Fin 3) : (fireType dur x b).1.filt = x.1.filt := by
    unfold fireType fireDemand firePeriod fireDaily setFired
    dsimp only
    repeat' split
    all_goals simp
  have fires (u : State) : ([0, 1, 2].foldl (fireType dur) (u, 0)).1.filt = u.filt := by
    rw [List.foldl_cons, List.foldl_cons, List.foldl_cons, List.foldl_nil, fire, fire, fire]
  rw [gridFire_eq]
  split
  · rfl
  · rw [fires, periodOpened]
    split
    all_goals rfl

@[simp] theorem tariffEval_filt (s : State) : (tariffEval s).filt = s.filt := by
  unfold tariffEval
  dsimp only
  split
  all_goals simp

@[simp] theorem saveSteps_filt (s : State) : (saveSteps s).filt = s.filt := by
  unfold saveSteps saveBoth
  split
  all_goals simp

@[simp] theorem recWrite_filt (r : PendRec) (s : State) : (recWrite r s).filt = s.filt := by
  have advanced (u : State) : (slotAdvance u).filt = u.filt := by
    unfold slotAdvance dailyAdvance chainAdvance
    dsimp only
    repeat' split
    all_goals simp
  exact (advanced (slotWrite r s)).trans rfl

@[simp] theorem wrote_filt (x : Option PendRec) (r : PendRec) (s : State) : (wrote x r s).filt = s.filt := by
  have retried (u : State) : (retryOpen u).filt = u.filt := by
    refine foldl_keeps State.filt _ (fun t n => ?_) _ u
    split
    · exact filt_of_offPoint (offPoint_openSession n t)
    · rfl
  have closed (n : Fin 8) (u : State) : (sessionClosed n u).filt = u.filt := filt_of_offPoint (offPoint_sessionClosed n u)
  have after (u : State) : (afterWrite r u).filt = u.filt := by
    unfold afterWrite
    dsimp only
    repeat' split
    all_goals simp [closed]
  unfold wrote
  dsimp only
  rw [retried, persist_filt, ledgerLimits_filt, after]
  split
  all_goals simp

@[simp] theorem ledgerWrite_filt (s : State) : (ledgerWrite true s).filt = s.filt := by
  unfold ledgerWrite
  split
  · rfl
  · split
    · split
      all_goals simp
    · rw [if_pos rfl, wrote_filt, recWrite_filt]

@[simp] theorem writeAll_filt (k : Nat) (s : State) : (writeAll k s).filt = s.filt := by
  induction k generalizing s with
  | zero => rfl
  | succ k ih =>
    rw [writeAll]
    split
    · rfl
    · rw [ih, ledgerWrite_filt]

@[simp] theorem dspWarn_filt (s : State) : (dspWarn s).filt = s.filt := by
  have discharged (u : State) : (discharge u).filt = u.filt := by
    unfold discharge
    split
    all_goals rfl
  have rise (l : List Nat) (u : State) : (riseDrive l u).filt = u.filt := foldl_keeps State.filt _ (fun t k => modNvDsp_filt _ t) l u
  unfold dspWarn
  dsimp only
  rw [discharged]
  split
  · rw [rise, modDsp_filt]
  · rfl

@[simp] theorem powerFail_filt (src : Nat) (s : State) : (powerFail src s).filt = s.filt := by
  unfold powerFail
  dsimp only
  split
  · exact level_filt _ _ _ _ _
  · split
    · exact level_filt _ _ _ _ _
    · rw [dspWarn_filt, persist_filt, writeAll_filt]
      exact (queueRec_filt _ _).trans ((saveSteps_filt _).trans (level_filt _ _ _ _ _))
  · rfl

/-! ### The end of a half-cycle -/

@[simp] theorem peSpan_filt (s : State) : (peSpan s).filt = s.filt := by
  unfold peSpan e73
  dsimp only
  repeat' split
  all_goals simp

@[simp] theorem npePeriod_filt (s : State) : (npePeriod s).filt = s.filt := by
  unfold npePeriod e73
  dsimp only
  repeat' split
  all_goals simp

@[simp] theorem mainsHalf_filt (missing : Bool) (s : State) : (mainsHalf missing s).filt = s.filt := by
  unfold mainsHalf
  dsimp only
  repeat' split
  all_goals simp

/-- Of the detectors, the end of a half-cycle changes what its crossing changes. -/
theorem halfEnd_filt (i : Fin 72) (t : Nat) (up missing : Bool) (s : State) :
    (halfEnd i t up missing s).filt = (takeCrossing i t up missing s).filt := by
  unfold halfEnd
  extract_lets isRef tracked u v w x
  have pe : v.filt = u.filt := by
    simp only [v]
    split
    all_goals simp
  have npe : w.filt = v.filt := by
    simp only [w]
    split
    all_goals simp
  have mains : x.filt = w.filt := by
    simp only [x]
    split
    all_goals simp
  exact mains.trans (npe.trans pe)

@[simp] theorem followFreq_filt (m : Fin 9) (s : State) : (followFreq m s).filt = s.filt := of_quiet State.filt (fun _ => rfl) (quiet_followFreq m s)

/-- The channel's newest crossing is the one its next half-cycle starts at (R60 to R62). -/
theorem takeCrossing_newest (i : Fin 72) (t : Nat) (up missing : Bool) (s : State) :
    let x := vget (takeCrossing i t up missing s).filt.det i
    x.zc.head? = some t ∧ x.zcUp = up ∧ (missing = false → x.accAt = t) := by
  have started (d : Det) : (startHalf t up missing d).zc.head? = some t ∧ (startHalf t up missing d).zcUp = up ∧
      (missing = false → (startHalf t up missing d).accAt = t) := by
    unfold startHalf
    cases missing
    all_goals simp
  intro y
  suffices ∃ d, y.zc = (startHalf t up missing d).zc ∧ y.zcUp = (startHalf t up missing d).zcUp ∧
      y.accAt = (startHalf t up missing d).accAt by
    obtain ⟨d, zc, zcUp, accAt⟩ := this
    rw [zc, zcUp, accAt]
    exact started d
  simp only [y]
  unfold takeCrossing
  extract_lets g c isRef acc u v w x
  have followed : (if isRef = true then followFreq (gFin i) x else x).filt = x.filt := by
    split
    all_goals simp
  rw [followed]
  refine ⟨vget v.filt.det i, ?_⟩
  simp only [x]
  split
  all_goals simp [w, vatMod_fin]

theorem zeroCrossing_takes (c : Fin 72) (up : Bool) (s : State) (valid : s.fe.valid = true) (volt : isVoltage s c.1 = true)
    (crossed : crossingOf (vget s.filt.det c) = some up) :
    ∃ t, exec (.zeroCrossing c) s = .next t ∧ (vget t.filt.det c).zc.head? = some (crossingTime (vget s.filt.det c)) ∧
      (vget t.filt.det c).zcUp = up ∧ (vget t.filt.det c).accAt = crossingTime (vget s.filt.det c) := by
  refine ⟨halfEnd c (crossingTime (vget s.filt.det c)) up false s, ?_, ?_⟩
  · show execZeroCrossing c s = _
    simp [execZeroCrossing, valid, volt, crossed]
  · obtain ⟨zc, zcUp, accAt⟩ := takeCrossing_newest c (crossingTime (vget s.filt.det c)) up false s
    rw [halfEnd_filt]
    exact ⟨zc, zcUp, accAt rfl⟩

theorem zcMissing_takes (c : Fin 72) (s : State) (valid : s.fe.valid = true) (volt : isVoltage s c.1 = true)
    (known : (vget s.filt.det c).zc ≠ []) (late : (vget s.filt.det c).zc.headD 0 + missLimit (vget s.filt.det c) ≤ 64 * s.clk.mono) :
    ∃ t, exec (.zcMissing c) s = .next t ∧ (vget t.filt.det c).zc.head? = some (missStart (vget s.filt.det c)) ∧
      (vget t.filt.det c).zcUp = !(vget s.filt.det c).zcUp := by
  refine ⟨halfEnd c (missStart (vget s.filt.det c)) (!(vget s.filt.det c).zcUp) true s, ?_, ?_⟩
  · show execZcMissing c s = _
    exact congrArg Host.Outcome.next (if_neg (by simp [valid, volt, known]; simpa using late))
  · obtain ⟨zc, zcUp, -⟩ := takeCrossing_newest c (missStart (vget s.filt.det c)) (!(vget s.filt.det c).zcUp) true s
    rw [halfEnd_filt]
    exact ⟨zc, zcUp⟩

end Sys2Proof.Laws
namespace Sys2Proof.Laws

open Sys2Proof Sys2Proof.Machine

/-! ## FAST_PATH_SAMPLE (R48, R55, R57, R445) -/

/-- The state without the detectors and, but for the place on the sample grid, the front end. -/
def offSamples (s : State) : State := { s with filt := {}, fe := { grid := s.fe.grid } }

theorem of_offSamples {α : Type} (f : State → α) (hf : ∀ u, f (offSamples u) = f u) {s t : State} (h : offSamples t = offSamples s) :
    f t = f s := by
  rw [← hf t, h, hf s]

/-- The spare, a group the member lacks and a channel not enabled issue no fast-path sample (R1, R57). -/
theorem fastPath_none (s : State) (i : Fin 72) (h : cIx i.1 = 7 ∨ hasGroup s (gIx i.1) = false ∨ chEn (grp s (gIx i.1)) (cIx i.1) = false) :
    fastPath s i = s := by
  unfold fastPath
  exact if_pos (by simpa [or_assoc] using h)

/-- The sample of a channel at the grid's place (R57). -/
def issued (s : State) (i : Nat) : Int × Nat :=
  fpSample s (gIx i) (cIx i) (gridAt s s.fe.grid) (fpWord (vat s.fe.chain (serving s (gIx i) (cIx i)) {}))

/-- A sample issued is fed to its detector and joins the safety queue; a good one is kept as the channel's last (R39, R57, R59). -/
theorem fastPath_some (s : State) (i : Fin 72) (c : cIx i.1 < 7) (group : hasGroup s (gIx i.1) = true)
    (en : chEn (grp s (gIx i.1)) (cIx i.1) = true) :
    ∃ xch, fastPath s i = { s with
      filt := { s.filt with
        det := vset s.filt.det i (feedFp (trackedPeriod s (gIx i.1)) (!crossWindows s (gIx i.1)) (gridAt s s.fe.grid)
          (issued s i.1).1 (issued s i.1).2 (vget s.filt.det i))
        safeq := (s.filt.safeq ++ [(i.1, (issued s i.1).1, (issued s i.1).2)]).take 504 }
      fe := { s.fe with xch := xch } } := by
  unfold fastPath
  dsimp only
  rw [if_neg (by simp [group, en]; omega), ← vatMod_fin]
  split
  · exact ⟨_, rfl⟩
  · exact ⟨s.fe.xch, rfl⟩

@[simp] theorem offSamples_fastPath (s : State) (i : Fin 72) : offSamples (fastPath s i) = offSamples s := by
  by_cases h : cIx i.1 = 7 ∨ hasGroup s (gIx i.1) = false ∨ chEn (grp s (gIx i.1)) (cIx i.1) = false
  · rw [fastPath_none s i h]
  · simp only [not_or, Bool.not_eq_false] at h
    obtain ⟨c, group, en⟩ := h
    have small : cIx i.1 < 7 := by
      unfold cIx at c ⊢
      omega
    obtain ⟨xch, eq⟩ := fastPath_some s i small group en
    rw [eq]
    rfl

/-- The newest sample of a detector is the one it was fed, and the one before it the newest until then. -/
theorem feedFp_newest (p : Option Nat) (fixed : Bool) (t : Nat) (x : Int) (flags : Nat) (d : Det) :
    (feedFp p fixed t x flags d).lastX = some x ∧ (feedFp p fixed t x flags d).prevX = d.lastX := by
  have close (e : Det) : (closeHc e).lastX = e.lastX ∧ (closeHc e).prevX = e.prevX := by
    unfold closeHc
    split
    all_goals exact ⟨rfl, rfl⟩
  unfold feedFp
  extract_lets
  split
  · exact close _
  · exact ⟨rfl, rfl⟩

/-- An enabled channel's sample goes to the safety queue and becomes the newest of its detector (R57, R59). -/
theorem fastPath_issues (i : Fin 72) (s : State) (c : cIx i.1 < 7) (group : hasGroup s (gIx i.1) = true)
    (en : chEn (grp s (gIx i.1)) (cIx i.1) = true) :
    ∃ t, fastPath s i = t ∧ t = { s with filt := t.filt, fe.xch := t.fe.xch } ∧
      t.filt.safeq = (s.filt.safeq ++ [(i.1, (issued s i.1).1, (issued s i.1).2)]).take 504 ∧
      (vget t.filt.det i).lastX = some (issued s i.1).1 ∧ (vget t.filt.det i).prevX = (vget s.filt.det i).lastX ∧
      ∀ j, j ≠ i → vget t.filt.det j = vget s.filt.det j := by
  obtain ⟨xch, eq⟩ := fastPath_some s i c group en
  refine ⟨_, eq, rfl, rfl, ?_, ?_, fun j other => vget_vset_other _ _ _ _ other⟩
  · rw [vget_vset_same]
    exact (feedFp_newest _ _ _ _ _ _).1
  · rw [vget_vset_same]
    exact (feedFp_newest _ _ _ _ _ _).2

/-- A group's sixteen microseconds reach its chains and the outputs that wait (R48, R55). -/
theorem runGroup_only (xs : List (Fin 72 × BitVec 64 × BitVec 64)) (g : Fin 9) (s : State) :
    ∃ chain outs, runGroup xs g s = { s with fe.chain := chain, fe.outs := outs } := by
  unfold runGroup
  exact ⟨_, _, rfl⟩

@[simp] theorem offSamples_gridSwitch (s : State) : offSamples (gridSwitch s) = offSamples s := by
  have ended (i : Nat) : offSamples (endSlot i s) = offSamples s := by
    unfold offSamples endSlot modMod abandonSlot setBusy
    rfl
  unfold gridSwitch
  split
  · split
    · rfl
    · split
      · exact ended _
      · rfl
  · rfl

/-- Sixteen microseconds of the grid change the front end alone, and move its place on by 64 periods (R48, R55). -/
theorem offSamples_runGrid (xs : List (Fin 72 × BitVec 64 × BitVec 64)) (s : State) :
    offSamples (runGrid xs s) = offSamples { s with fe.grid := s.fe.grid + 64 } := by
  have ran : offSamples ((units 9).foldl (fun t g => if hasGroup t g.1 then runGroup xs g t else t) s) = offSamples s := by
    refine foldl_keeps offSamples _ (fun t g => ?_) _ s
    split
    · obtain ⟨chain, outs, eq⟩ := runGroup_only xs g t
      rw [eq]
      rfl
    · rfl
  unfold runGrid
  generalize (units 9).foldl (fun t g => if hasGroup t g.1 then runGroup xs g t else t) s = u at ran
  have moved : offSamples { u with fe.grid := u.fe.grid + 64 } = offSamples { s with fe.grid := s.fe.grid + 64 } :=
    congrArg (fun v : State => { v with fe.grid := v.fe.grid + 64 }) ran
  dsimp only
  split
  · rw [offSamples_gridSwitch, moved]
  · exact moved

theorem fastPathSample_issues (xs : List (Fin 72 × BitVec 64 × BitVec 64)) (s : State) (due : gridDue s = true) :
    ∃ t, exec (.fastPathSample xs) s = .next t ∧ t = { s with filt := t.filt, fe := t.fe, pwr.c4LowSince := t.pwr.c4LowSince } ∧
      t.fe.grid = s.fe.grid + 64 ∧ t = followC4 ((List.finRange 72).foldl fastPath (runGrid xs s)) := by
  have kept : offSamples ((List.finRange 72).foldl fastPath (runGrid xs s)) = offSamples { s with fe.grid := s.fe.grid + 64 } :=
    (foldl_keeps offSamples _ offSamples_fastPath _ _).trans (offSamples_runGrid xs s)
  generalize hu : (List.finRange 72).foldl fastPath (runGrid xs s) = u at kept
  refine ⟨followC4 u, ?_, ?_, of_offSamples (fun v => v.fe.grid) (fun _ => rfl) kept, rfl⟩
  · rw [← hu]
    exact congrArg Host.Outcome.next (if_pos due)
  · exact of_offSamples (fun v => { v with filt := u.filt, fe := u.fe, pwr.c4LowSince := (followC4 u).pwr.c4LowSince }) (fun _ => rfl) kept

/-! ## PRESET_OUTPUT_SAMPLE (R48, R53, R68) -/

/-- The state without what a preset output leaves in the front end and the detectors. -/
def offOutputs (s : State) : State :=
  { s with filt := {}, fe := { s.fe with past := Vector.replicate 9 (Vector.replicate 4 []), xch := Vector.replicate 72 {} } }

theorem of_offOutputs {α : Type} (f : State → α) (hf : ∀ u, f (offOutputs u) = f u) {s t : State} (h : offOutputs t = offOutputs s) :
    f t = f s := by
  rw [← hf t, h, hf s]

theorem offOutputs_keepOutput (g : Fin 9) (preset : Nat) (out : List (Int × Nat)) (s : State) :
    offOutputs (keepOutput g preset out s) = offOutputs s := by
  unfold keepOutput
  dsimp only
  rw [foldl_keeps offOutputs _ (fun t c => ?_)]
  · rfl
  · split
    all_goals rfl

theorem offOutputs_addTotals (g : Fin 9) (out : List (Int × Nat)) (s : State) : offOutputs (addTotals g out s) = offOutputs s := by
  unfold addTotals
  refine foldl_keeps offOutputs _ (fun t c => ?_) _ s
  rfl

/-- An output changes the front end and the detectors, and joins the window of a meter that runs where it is of the group's PRESET. -/
theorem presetOutput_cases (g : Fin 9) (o : PreOut) (s : State) : ∃ u vals flags, offOutputs u = offOutputs s ∧
    presetOutput g o s = if o.preset = grpPreset (grp s g.1) ∧ meterRuns s g.1 = true then
      modWin g (fun w => { w with smp := w.smp ++ [(nominal o.preset (gridAt s o.at_), vals, flags)] }) u else u := by
  unfold presetOutput
  extract_lets b e before out u v w
  have kept : offOutputs u = offOutputs s := offOutputs_keepOutput g o.preset out s
  have fed : offOutputs v = offOutputs u := by
    simp only [v]
    split
    · refine foldl_keeps offOutputs _ (fun t c => ?_) _ u
      split
      all_goals rfl
    · rfl
  have added : offOutputs w = offOutputs s := (offOutputs_addTotals g out v).trans (fed.trans kept)
  have runs : meterRuns w g.1 = meterRuns s g.1 := of_offOutputs (fun t => meterRuns t g.1) (fun _ => rfl) added
  by_cases own : o.preset = grpPreset (grp s g.1)
  · rw [if_neg (by simp [b, own]), runs]
    refine ⟨w, out.map (·.1), out.map (·.2), added, ?_⟩
    simp [own, e]
  · rw [if_pos (by simp [b, own])]
    exact ⟨v, [], [], fed.trans kept, (if_neg fun both => own both.1).symm⟩

theorem presetOutputSample_issues (g : Fin 9) (preset : Nat) (o : PreOut) (rest : List PreOut) (s : State) (valid : s.fe.valid = true)
    (group : hasGroup s g.1 = true) (oldest : takeOut preset (vget s.fe.outs g) = some (o, rest)) :
    ∃ t, exec (.presetOutputSample g preset) s = .next t ∧ t = { s with filt := t.filt, fe := t.fe, en.m := t.en.m } ∧
      t.fe.outs = vset s.fe.outs g rest ∧ (∀ h, h ≠ g → vget t.en.m h = vget s.en.m h) ∧
      (o.preset = grpPreset (grp s g.1) → meterRuns s g.1 = true → ∃ vals flags,
        (vget t.en.m g).win = { (vget s.en.m g).win with
          smp := (vget s.en.m g).win.smp ++ [(nominal o.preset (gridAt s o.at_), vals, flags)] }) ∧
      (o.preset ≠ grpPreset (grp s g.1) ∨ meterRuns s g.1 = false → t.en.m = s.en.m) := by
  obtain ⟨u, vals, flags, kept, eq⟩ := presetOutput_cases g o { s with fe.outs := vset s.fe.outs g rest }
  have step : exec (.presetOutputSample g preset) s = .next (presetOutput g o { s with fe.outs := vset s.fe.outs g rest }) := by
    show execPresetOutputSample g preset s = _
    simp [execPresetOutputSample, oldest, valid, group]
  have output : presetOutput g o { s with fe.outs := vset s.fe.outs g rest } =
      if o.preset = grpPreset (grp s g.1) ∧ meterRuns s g.1 = true then
        modWin g (fun w => { w with smp := w.smp ++ [(nominal o.preset (gridAt s o.at_), vals, flags)] }) u else u := eq
  have only (m : Vector Meter 9) : { u with en := { s.en with m := m } } = { s with filt := u.filt, fe := u.fe, en.m := m } :=
    (of_offOutputs (fun v => ({ v with filt := u.filt, fe := u.fe, en := { s.en with m := m } } : State)) (fun _ => rfl) kept).trans rfl
  have outs : u.fe.outs = vset s.fe.outs g rest := (of_offOutputs (fun v => v.fe.outs) (fun _ => rfl) kept).trans rfl
  have en : u.en = s.en := (of_offOutputs State.en (fun _ => rfl) kept).trans rfl
  refine ⟨_, step, ?_⟩
  rw [output]
  by_cases joins : o.preset = grpPreset (grp s g.1) ∧ meterRuns s g.1 = true
  · rw [if_pos joins, modWin, modMeter, en]
    refine ⟨only _, outs, fun h other => vget_vmod_other _ _ _ _ other, fun _ _ => ⟨vals, flags, ?_⟩, fun neither => ?_⟩
    · rw [vget_vmod_same]
    · rcases neither with other | idle
      · exact absurd joins.1 other
      · exact absurd joins.2 (by simp [idle])
  · rw [if_neg joins]
    refine ⟨?_, outs, fun h _ => by rw [en], fun own runs => absurd ⟨own, runs⟩ joins, fun _ => by rw [en]⟩
    rw [en, ← only s.en.m, ← en]

end Sys2Proof.Laws
namespace Sys2Proof.Laws

open Sys2Proof Sys2Proof.Machine

/-! ## Netting periods and pulses (R72, R81, R82, R91, R93) -/

/-- The end of a netting period after the present is a later multiple of T_NET (R82). -/
theorem netMultiple_later (m : Fin 9) (s : State) (pos : 0 < tNet (mtr s m.1)) :
    netMultiple s m % (tNet (mtr s m.1) * 1000000) = 0 ∧ s.clk.time < netMultiple s m := by
  constructor
  · exact Nat.mul_mod_left _ _
  · rw [netMultiple, Nat.mul_comm]
    exact Nat.lt_mul_div_succ _ (by omega)

theorem nettingPeriodEnd_ends (m : Fin 9) (s : State) (runs : meterRuns s m.1 = true) (mode : netMode (mtr s m.1) = 2)
    (pos : 0 < tNet (mtr s m.1)) :
    let p := tNet (mtr s m.1) * 1000000
    let u := modMeter m (fun x => { x with netT := some (netMultiple s m) }) s
    (netMultiple s m % p = 0 ∧ s.clk.time < netMultiple s m) ∧
    ((vget s.en.m m).netT = none → exec (.nettingPeriodEnd m) s = .next (boundaryAt (s.clk.time / p * p) m [] u)) ∧
    (∀ t0, (vget s.en.m m).netT = some t0 → t0 ≤ s.clk.time → exec (.nettingPeriodEnd m) s = .next (boundaryAt t0 m [] u)) ∧
    (∀ t0, (vget s.en.m m).netT = some t0 → netMultiple s m < t0 → exec (.nettingPeriodEnd m) s = .next u) := by
  intro p u
  have later := netMultiple_later m s pos
  have ends : exec (.nettingPeriodEnd m) s = .next (match (vget s.en.m m).netT with
      | none => boundaryAt (s.clk.time / p * p) m [] u
      | some t => if t ≤ s.clk.time then boundaryAt t m [] u else if netMultiple s m < t then u else s) := by
    show execNettingPeriodEnd m s = _
    unfold execNettingPeriodEnd nettingEnd
    rw [if_pos (by simp [runs, mode])]
    dsimp only
    rw [if_neg (by omega)]
    rfl
  refine ⟨later, fun first => ?_, fun t0 known past => ?_, fun t0 known far => ?_⟩
  · rw [ends, first]
  · rw [ends, known]
    dsimp only
    rw [if_pos past]
  · rw [ends, known]
    dsimp only
    rw [if_neg (by omega), if_pos far]

theorem boundaryAt_splits (t0 : Nat) (m : Fin 9) (acts : List BAct) (s : State) (runs : meterRuns s m.1 = true)
    (inside : (vget s.en.m m).win.startE < onGrid s t0) :
    boundaryAt t0 m acts s = modWin m (fun w => { w with sides := splitSides (onGrid s t0) t0 acts (newSide s m) w.sides }) s :=
  if_neg (by simp [runs, inside])

/-- A pulse ends whose output is disabled or whose width has passed; of an enabled output at rest, one that waits starts when its time
has come (R91, R93). -/
theorem pulseIssue_steps (i : Fin 4) (s : State) (valid : s.fe.valid = true) :
    let x := vget s.en.pls i
    (plsEn (pls s) i.1 = true → x.onUntil = none → 0 < x.pend → x.nextAt ≤ s.clk.mono → exec (.pulseIssue i) s =
      .next { s with en.pls := vset s.en.pls i { x with
        land := !plsPol (pls s) i.1, onUntil := some (s.clk.mono + 2000 * plsWidth (pls s) i.1), pend := x.pend - 1
        nextAt := s.clk.mono + max x.period (4000 * plsWidth (pls s) i.1) } }) ∧
    (plsEn (pls s) i.1 = false ∨ (∃ t0, x.onUntil = some t0 ∧ t0 ≤ s.clk.mono) → exec (.pulseIssue i) s =
      .next { s with en.pls := vset s.en.pls i { x with land := plsPol (pls s) i.1, onUntil := none } }) := by
  intro x
  have step : exec (.pulseIssue i) s = .next (pulseIssue i s) := congrArg Host.Outcome.next (if_pos valid)
  rw [step]
  unfold pulseIssue
  dsimp only
  refine ⟨fun en rest waits due => ?_, fun ended => ?_⟩
  · rw [if_neg (by simp [en]), show (vget s.en.pls i).onUntil = none from rest]
    dsimp only
    rw [if_pos ⟨waits, due⟩]
  · cases en : plsEn (pls s) i.1
    · rfl
    · obtain ⟨t0, on, past⟩ := ended.resolve_left (by simp [en])
      rw [if_neg (by simp), show (vget s.en.pls i).onUntil = some t0 from on]
      dsimp only
      rw [if_pos past]

end Sys2Proof.Laws
namespace Sys2Proof.Laws

open Sys2Proof Sys2Proof.Machine

/-! ## Commands that answer and change nothing (R366, R367, R378) -/

/-- Cutting the kept commands down to 16 for each source loses none of those already taken. -/
theorem mem_trim16 (k : Kept) (ks acc : List Kept) (h : k ∈ acc) : k ∈ trim16 acc ks := by
  induction ks generalizing acc with
  | nil => simpa [trim16] using h
  | cons x ks ih =>
    rw [trim16]
    split
    · exact ih _ (List.mem_cons_of_mem x h)
    · exact ih _ h

/-- The command kept last stands among the kept ones (R378). -/
theorem keep_newest (k : Kept) (s : State) : k ∈ (keep k s).port.kept := by
  have own : (k.src == .spi || (keptNets (k :: s.port.kept)).contains k.src) = true := by
    cases source : k.src == .spi
    · simp [keptNets, source, List.eraseDups_cons]
    · rfl
  unfold keep
  dsimp only
  rw [List.filter_cons, if_pos own, trim16, if_pos (by simp)]
  exact mem_trim16 k _ _ (List.mem_singleton_self k)

/-- A command that runs is kept, once it completes, with its reply (R378). -/
theorem complete_kept (f : Flight) (status : Nat) (pl : List Byte) (s : State) (running : s.port.flights.any (fun g => g.no == f.no) = true) :
    (complete f status pl s).port.kept = (keepReply f (mkReply s f.pkt f.opcode status pl) (dropFlight f s)).port.kept := by
  rw [complete, if_pos running]
  dsimp only
  split
  · rfl
  · unfold sendReply
    split
    all_goals rfl

/-- A command that runs and is done is answered with ST_OK (R367, R378). -/
theorem finish_answers (f : Flight) (pl : List Byte) (s : State) (k : Kept) (running : f ∈ s.port.flights) (kept : k ∈ s.port.kept)
    (src : k.src = f.pkt.src) (seq : k.seq = f.pkt.seq) (op : k.opcode = f.opcode) (waits : k.reply = none) :
    Answered f.opcode f.pkt 0 pl (finish f pl s) := by
  have listed : { k with reply := some (mkReply s f.pkt f.opcode 0 pl) } ∈ (finish f pl s).port.kept := by
    rw [finish, complete_kept f stOk pl s (List.any_eq_true.2 ⟨f, running, by simp⟩)]
    unfold keepReply
    dsimp only
    rw [if_neg (by simp [mkReply, stOk])]
    exact List.mem_map.2 ⟨k, kept, by simp [src, seq, waits, stOk]⟩
  exact ⟨_, listed, src, seq, op, _, rfl, rfl, rfl, rfl, rfl, rfl⟩

/-- A command whose rules are done with a payload, and with nothing else, is answered with it and changes nothing more. -/
theorem command_answers (op : Nat) (body : Flight → State → CmdOut) (p : Pkt) (s : State) (pl : List Byte) (h : taken op p s = true)
    (hb : body (flightOf op p s) (begun op p s) = .done (begun op p s) pl) :
    OnlyReplied s (command op body p s) ∧ Answered op p 0 pl (command op body p s) := by
  rw [command_done op body p s _ pl h hb]
  constructor
  · have counted (u : State) (l : List Flight) : offPort { u with port.flights := l } = offPort u := rfl
    have port : offPort (finish (flightOf op p s) pl (begun op p s)) = offPort (wake 0 s) :=
      (offPort_finish _ _ _).trans ((counted _ _).trans (offPort_takeCmd p op (wake 0 s)))
    generalize finish (flightOf op p s) pl (begun op p s) = t at port
    exact of_offPort (fun u => { u with port := t.port, key.grants := t.key.grants }) (fun _ => rfl) port
  · have running : flightOf op p s ∈ (begun op p s).port.flights := List.mem_append_right _ (List.mem_singleton_self _)
    have kept : { src := p.src, seq := p.seq, opcode := op, t0 := (wake 0 s).clk.mono } ∈ (begun op p s).port.kept := keep_newest _ _
    exact finish_answers (flightOf op p s) pl (begun op p s) _ running kept rfl rfl rfl rfl

/-- The number of a group or meter as the first byte of a command's parameters. -/
theorem u8_unit (g : Nat) (h : g < 256) (b : List Byte) : u8 0 (BitVec.ofNat 8 g :: b) = g := by
  simp [u8, fld, unle]
  omega

/-! ## MTR_DETECT and MTR_VALUES (R67, R96) -/

theorem detBytes_length (s : State) (g c : Nat) : (detBytes s g c).length = 16 := by
  unfold detBytes
  split
  all_goals simp [leInt]

theorem mtrDetect_answers (p : Pkt) (s : State) (g : Nat) (ht : taken 0x0204 p s = true)
    (hp : p.payload = [BitVec.ofNat 8 g, 0, 0, 0]) (small : g < 9) (group : hasGroup s g = true) :
    ∃ t pl, exec (.mtrDetect p) s = .next t ∧ OnlyReplied s t ∧ Answered 0x0204 p 0 pl t ∧ pl.length = 120 ∧
      pl = le 8 s.clk.time ++ (List.range 7).flatMap (detBytes s g) := by
  have channel : detBytes (begun 0x0204 p s) g = detBytes s g := of_begun (fun u => detBytes u g) (fun _ => rfl) (fun _ => rfl) 0x0204 p s
  have done : sized 4 mtrDetectBody (flightOf 0x0204 p s) (begun 0x0204 p s) =
      .done (begun 0x0204 p s) (le 8 s.clk.time ++ (List.range 7).flatMap (detBytes s g)) := by
    rw [sized_eq _ _ _ _ (by rw [flightOf_pkt, hp]; rfl)]
    unfold mtrDetectBody
    simp only [flightOf_pkt, hp]
    rw [u8_unit g (by omega), need_pos (by simp [group]; rfl), channel, now, begun_clk]
  obtain ⟨only, answered⟩ := command_answers 0x0204 _ p s _ ht done
  exact ⟨_, _, rfl, only, answered, by simp [detBytes_length, List.length_flatMap], rfl⟩

/-- The quantities of a meter behind its quality word, up to its registers (R96). -/
def quantityBytes (v : MtrVals) : List Byte :=
  (units 3).flatMap (fun k => le 4 (vget v.urms k) ++ le 4 (vget v.irms k) ++ leInt 4 (vget v.p k) ++ leInt 4 (vget v.q k) ++
    le 4 (vget v.s k) ++ leInt 4 (vget v.p1 k)) ++
  le 4 v.inRms ++ leInt 4 v.pTot ++ leInt 4 v.qTot ++ le 4 v.sTot ++ leInt 2 v.pf ++ le 2 v.angU2 ++ le 2 v.angU3 ++ zeros 2

theorem quantityBytes_length (v : MtrVals) : (quantityBytes v).length = 96 := by
  simp [quantityBytes, leInt, List.length_flatMap, units]

/-- The payload of MTR_VALUES (R96). -/
def valuesBytes (s : State) (m : Fin 9) : List Byte :=
  le 8 (vget s.en.m m).vals.tRead ++ le 4 (vget s.en.m m).vals.freq ++ le 4 (qflags s m) ++ quantityBytes (vget s.en.m m).vals ++
    (vget s.p100.m m).acc.toList.flatMap (le 8)

theorem registers_length (v : Vector Nat 12) : (v.toList.flatMap (le 8)).length = 96 := by
  simp [List.length_flatMap]

theorem mtrValues_answers (p : Pkt) (s : State) (m : Fin 9) (ht : taken 0x0205 p s = true)
    (hp : p.payload = [BitVec.ofNat 8 m.1, 0, 0, 0]) (group : m.1 ≤ s.member.points) :
    ∃ t pl, exec (.mtrValues p) s = .next t ∧ OnlyReplied s t ∧ Answered 0x0205 p 0 pl t ∧ pl.length = 208 ∧
      slice 0 8 pl = le 8 (vget s.en.m m).vals.tRead ∧ slice 8 4 pl = le 4 (vget s.en.m m).vals.freq ∧ slice 12 4 pl = le 4 (qflags s m) ∧
      slice 112 96 pl = (vget s.p100.m m).acc.toList.flatMap (le 8) := by
  have same : valuesBytes (begun 0x0205 p s) m = valuesBytes s m :=
    of_begun (fun u => valuesBytes u m) (fun _ => rfl) (fun _ => rfl) 0x0205 p s
  have named : groupOf (begun 0x0205 p s) m.1 = some m := by simp [groupOf, group, ix]
  have done : sized 4 mtrValuesBody (flightOf 0x0205 p s) (begun 0x0205 p s) = .done (begun 0x0205 p s) (valuesBytes s m) := by
    rw [sized_eq _ _ _ _ (by rw [flightOf_pkt, hp]; rfl)]
    unfold mtrValuesBody
    simp only [flightOf_pkt, hp]
    rw [u8_unit m.1 (by omega), named]
    dsimp only
    rw [need_pos (by rfl), ← same]
    simp [valuesBytes, quantityBytes]
  obtain ⟨only, answered⟩ := command_answers 0x0205 _ p s _ ht done
  have quantities := quantityBytes_length (vget s.en.m m).vals
  have registers := registers_length (vget s.p100.m m).acc
  refine ⟨_, _, rfl, only, answered, ?_, ?_, ?_, ?_, ?_⟩
  · simp [valuesBytes, quantities, registers]
  · simp [valuesBytes, slice]
  · simp [valuesBytes, slice]
  · simp [valuesBytes, slice, List.drop_append, List.drop_eq_nil_of_le]
  · simp [valuesBytes, slice, List.drop_append, List.drop_eq_nil_of_le, List.take_of_length_le, quantities, registers]

/-! ## MTR_ENERGY_COMMIT (R95) -/

theorem mtrEnergyCommit_waits (p : Pkt) (s : State) (m : Nat) (cs : List BlkCopy) (ht : taken 0x0206 p s = true)
    (hl : p.payload.length = 4) (hm : u16 0 p.payload = m) (reserved : rsv 2 2 p.payload = true) (pos : 0 < m) (small : m < 1024) :
    let u := begun 0x0206 p s
    let f := flightOf 0x0206 p s
    (∀ k ∈ ecMeters m, hasGroup u k.1 = true) → Takes u ((ecMeters m).map (fun k => 0x0220 + k.1) ++ if bit m 9 then [0x0230] else []) cs →
    (∀ n ∈ (ecMeters m).filterMap pointOfMeter, contactorShut u n = false) → u.en.commit = none →
    exec (.mtrEnergyCommit p) s = .next (take f cs { (ecMeters m).foldl (fun t k => modMeter k (fun x => { x with commit := true }) t) u with
      en.commit := some f, en.commitPls := bit m 9 }) := by
  intro u f present takes opened idle
  have named : (!(m == 0) && decide (m < 2 ^ 10) && rsv 2 2 p.payload && (ecMeters m).all (fun k => hasGroup u k.1)) = true := by
    simp only [reserved, List.all_eq_true.2 present]
    simp [small]
    omega
  have shut : ((ecMeters m).filterMap pointOfMeter).any (contactorShut u) = false :=
    List.any_eq_false.2 fun n named => by simp [opened n named]
  refine congrArg Host.Outcome.next (command_wait _ _ p s _ ht ?_)
  rw [sized_eq _ _ _ _ hl]
  unfold mtrEnergyCommitBody
  simp only [flightOf_pkt, hm]
  rw [need_pos named, takeStored_of_takes _ _ _ _ takes, need_not shut, need_pos (by simp [u, idle])]

/-- The meters that do not run have no window to wait for: their blocks take effect (R95). -/
def restingApplied (s : State) : State :=
  (units 9).foldl (fun t m => if (vget t.en.m m).commit && !meterRuns t m.1 then
    startMeters t (applyMeterBlock m (now t) { tEnd := some (now t) } t) else t) s

/-- The waiting commit ends, with the pulse block it names, once every named meter has its block; until then it waits on. -/
theorem mtrEnergyCommitApply_eq (f : Flight) (s u : State) (waits : s.en.commit = some f) (resting : restingApplied s = u) :
    exec .mtrEnergyCommitApply s = .next (if !u.en.commitPls || (units 9).any (fun m => (vget u.en.m m).commit) then u
      else finish f (le 8 u.clk.time) (untake f (applyPulses (takenBy u f) { u with en.commit := none, en.commitPls := false }))) := by
  show execMtrEnergyCommitApply s = _
  unfold execMtrEnergyCommitApply
  rw [waits]
  dsimp only
  rw [← restingApplied, resting]
  rfl

theorem mtrEnergyCommitApply_applies (f : Flight) (s : State) (waits : s.en.commit = some f) :
    let u := (List.finRange 9).foldl (fun t m => if (vget t.en.m m).commit && !meterRuns t m.1 then
      startMeters t (applyMeterBlock m t.clk.time { tEnd := some t.clk.time } t) else t) s
    (u.en.commitPls = true → (∀ m, (vget u.en.m m).commit = false) → exec .mtrEnergyCommitApply s = .next (finish f (le 8 u.clk.time)
      (untake f (applyPulses (takenBy u f) { u with en.commit := none, en.commitPls := false })))) ∧
    (u.en.commitPls = false ∨ (∃ m, (vget u.en.m m).commit = true) → exec .mtrEnergyCommitApply s = .next u) := by
  intro u
  have resting : restingApplied s = u := rfl
  clear_value u
  rw [mtrEnergyCommitApply_eq f s u waits resting]
  refine ⟨fun pulses applied => ?_, fun waiting => ?_⟩
  · rw [if_neg (by simp [pulses, applied])]
  · rw [if_pos (by simpa [units] using waiting)]

theorem energyDone_answers (f : Flight) (t0 : Nat) (s : State) (waits : s.en.commit = some f) (pulses : s.en.commitPls = false)
    (applied : ∀ m, (vget s.en.m m).commit = false) :
    energyDone t0 s = finish f (le 8 t0) (untake f { s with en.commit := none }) := by
  unfold energyDone
  rw [waits]
  exact if_neg (by simp [pulses, applied])

end Sys2Proof.Laws
namespace Sys2Proof.Proofs

open Sys2Proof Sys2Proof.Machine Sys2Proof.Laws

/-- Settles O20: each clause is the rule of its row or command; what a window's close and a crossing leave alone is what `readings`
keeps. -/
theorem samplesAndWindowsComplete : Obligations.SamplesAndWindowsComplete := by
  unfold Obligations.SamplesAndWindowsComplete
  refine ⟨fastPathSample_issues, fun i s => ⟨fastPath_issues i s, fastPath_none s i⟩, presetOutputSample_issues, zeroCrossing_takes,
    zcMissing_takes, meteringWindowClose_closes, nettingPeriodEnd_ends, boundaryAt_splits, pulseIssue_steps, ?_, mtrValues_answers,
    mtrEnergyCommit_waits, mtrEnergyCommitApply_applies, energyDone_answers⟩
  exact fun p s g ht hp small group => mtrDetect_answers p s g ht hp small group

end Sys2Proof.Proofs

namespace Sys2Proof.Laws

open Sys2Proof Sys2Proof.Machine

/-! ## The energy registers (R77 to R79, R98) -/

/-- The lifetime and the tariff accumulators of one meter. -/
abbrev Registers := Vector Nat 12 × Vector (Vector Nat 12) 8

/-- The energy registers of every meter, of all that class P100 keeps of a meter. -/
def registers (v : Vector MeterP 9) : Vector Registers 9 := v.map fun x => (x.acc, x.tacc)

@[simp] theorem vget_registers (v : Vector MeterP 9) (m : Fin 9) : vget (registers v) m = ((vget v m).acc, (vget v m).tacc) := by
  simp [vget, registers]

/-- An update of one meter that leaves its registers leaves those of all. -/
@[simp] theorem registers_vmod (v : Vector MeterP 9) (m : Fin 9) (f : MeterP → MeterP) (h : ∀ x, ((f x).acc, (f x).tacc) = (x.acc, x.tacc)) :
    registers (vmod v m f) = registers v := map_vmod _ f h v m

/-- An update of every meter that leaves its registers leaves those of all. -/
@[simp] theorem registers_map (v : Vector MeterP 9) (f : MeterP → MeterP) (h : ∀ x, ((f x).acc, (f x).tacc) = (x.acc, x.tacc)) :
    registers (v.map f) = registers v := by
  simp [registers, Function.comp_def, h]

/-- An increment is booked in the lifetime accumulator of a quantity and in that of a tariff (R77, R79, R98). -/
def book (q : Fin 12) (delta tariff : Nat) (r : Registers) : Registers :=
  (vmod r.1 q (· + delta), vatMod r.2 tariff fun v => vmod v q (· + delta))

/-- An increment of 0 books nothing. -/
@[simp] theorem book_zero (q : Fin 12) (tariff : Nat) : book q 0 tariff = id := by
  have same (v : Vector Nat 12) : vmod v q (· + 0) = v := by simp [vmod]
  funext r
  simp only [book, same, vatMod, Vector.set_getElem_self, dite_eq_ite, ite_self, id]

/-- An update of one meter that books an increment is that booking in the registers. -/
theorem registers_vmod_book (v : Vector MeterP 9) (m : Fin 9) (f : MeterP → MeterP) (q : Fin 12) (delta tariff : Nat)
    (h : ∀ x, ((f x).acc, (f x).tacc) = book q delta tariff (x.acc, x.tacc)) :
    registers (vmod v m f) = vmod (registers v) m (book q delta tariff) := by
  ext j hj : 1
  simp only [registers, vmod, Vector.getElem_map, Vector.getElem_set, Fin.getElem_fin]
  split
  · exact h _
  · rfl

/-! ### Delivery -/

@[simp] theorem pulses_meters (m q delta : Nat) (s : State) : (pulses m q delta s).p100.m = s.p100.m := by
  unfold pulses
  refine foldl_keeps (fun t => t.p100.m) _ (fun t b => ?_) _ s
  dsimp only
  repeat' split
  all_goals simp

theorem registers_chargeCredit (m : Fin 9) (delta : Nat) (sd : Side) (s : State) :
    registers (chargeCredit m delta sd s).p100.m = registers s.p100.m := by
  unfold chargeCredit
  dsimp only
  repeat' split
  all_goals simp

/-- Delivering an increment books it in the registers of its meter (R77, R79, R98). -/
theorem registers_deliverInc (m : Fin 9) (q : Fin 12) (delta : Nat) (sd : Side) (s : State) :
    registers (deliverInc m q delta sd s).p100.m = vmod (registers s.p100.m) m (book q delta sd.tariff) := by
  by_cases none : delta = 0
  · simp [deliverInc, none, vmod]
  · have booked (f : MeterP → Vector Nat 4) : registers (vmod s.p100.m m fun x => { x with
        acc := vmod x.acc q (· + delta), tacc := vatMod x.tacc sd.tariff fun v => vmod v q (· + delta), demCur := f x }) =
        vmod (registers s.p100.m) m (book q delta sd.tariff) := registers_vmod_book _ _ _ _ _ _ fun _ => rfl
    rw [deliverInc, if_neg none]
    dsimp only
    repeat' split
    all_goals simp [registers_chargeCredit, booked]

/-- The registers of other meters, and all else class P100 keeps of them, stay. -/
theorem deliverInc_other (m : Fin 9) (q : Fin 12) (delta : Nat) (sd : Side) (s : State) (k : Fin 9) (h : k ≠ m) :
    vget (deliverInc m q delta sd s).p100.m k = vget s.p100.m k := by
  have charged (u : State) : vget (chargeCredit m delta sd u).p100.m k = vget u.p100.m k := by
    unfold chargeCredit
    dsimp only
    repeat' split
    all_goals simp [vget_vmod_other _ _ _ _ h]
  unfold deliverInc
  dsimp only
  repeat' split
  all_goals simp [charged, vget_vmod_other _ _ _ _ h]

/-- Delivery leaves every residue. -/
theorem deliverInc_res (m : Fin 9) (q : Fin 12) (delta : Nat) (sd : Side) (s : State) : (deliverInc m q delta sd s).pfw.res = s.pfw.res := by
  have pulsed (m q : Nat) (u : State) : (pulses m q delta u).pfw = u.pfw := by
    unfold pulses
    refine foldl_keeps State.pfw _ (fun t b => ?_) _ u
    dsimp only
    repeat' split
    all_goals simp
  have charged (u : State) : (chargeCredit m delta sd u).pfw.res = u.pfw.res := by
    unfold chargeCredit
    dsimp only
    repeat' split
    all_goals simp
  unfold deliverInc
  dsimp only
  repeat' split
  all_goals simp [charged, pulsed]

/-! ### Transfer (R76, R77) -/

/-- What a residue gives up once a contribution has joined it, in whole µWh (R77). -/
def increment (m : Fin 9) (q : Fin 12) (c : Nat) (s : State) : Nat :=
  (vget (vget s.pfw.res m) q + c) / (presetRate (grpPreset (grp s m.1)) * 3600 * 65536)

/-- The total, R+ or R−, that receives the increments of a quadrant too (R76). -/
def totalOf (q : Fin 12) : Option (Fin 12) :=
  if q.1 = 4 ∨ q.1 = 5 then some 2 else if q.1 = 6 ∨ q.1 = 7 then some 3 else none

/-- The booking of an increment, with that of its total (R76, R77). -/
def bookAll (q : Fin 12) (delta tariff : Nat) (r : Registers) : Registers :=
  match totalOf q with
  | some k => book k delta tariff (book q delta tariff r)
  | none => book q delta tariff r

/-- A contribution has joined its residue, which keeps what is no whole increment (R77). -/
def joined (m : Fin 9) (q : Fin 12) (c : Nat) (s : State) : State :=
  { s with
    pfw.res := vmod s.pfw.res m fun v =>
      vset v q ((vget (vget s.pfw.res m) q + c) % (presetRate (grpPreset (grp s m.1)) * 3600 * 65536)) }

theorem transferQ_eq (m : Fin 9) (q : Fin 12) (c : Nat) (sd : Side) (s : State) :
    transferQ m q c sd s = match totalOf q with
      | some k => deliverInc m k (increment m q c s) sd (deliverInc m q (increment m q c s) sd (joined m q c s))
      | none => deliverInc m q (increment m q c s) sd (joined m q c s) := by
  show (if q.1 = 4 ∨ q.1 = 5 then deliverInc m 2 (increment m q c s) sd (deliverInc m q (increment m q c s) sd (joined m q c s))
    else if q.1 = 6 ∨ q.1 = 7 then deliverInc m 3 (increment m q c s) sd (deliverInc m q (increment m q c s) sd (joined m q c s))
    else deliverInc m q (increment m q c s) sd (joined m q c s)) = _
  unfold totalOf
  split
  · rfl
  · split <;> rfl

/-- A transfer books the whole increment of the contribution in the meter's registers (R76, R77). -/
theorem registers_transferQ (m : Fin 9) (q : Fin 12) (c : Nat) (sd : Side) (s : State) :
    registers (transferQ m q c sd s).p100.m = vmod (registers s.p100.m) m (bookAll q (increment m q c s) sd.tariff) := by
  rw [transferQ_eq]
  unfold bookAll
  split
  · rw [registers_deliverInc, registers_deliverInc]
    simp [vmod, joined]
  · rw [registers_deliverInc]
    rfl

/-- A transfer leaves the residues as the contribution has left them. -/
theorem transferQ_res (m : Fin 9) (q : Fin 12) (c : Nat) (sd : Side) (s : State) :
    (transferQ m q c sd s).pfw.res = (joined m q c s).pfw.res := by
  rw [transferQ_eq]
  split
  · rw [deliverInc_res, deliverInc_res]
  · rw [deliverInc_res]

theorem transferQ_other (m : Fin 9) (q : Fin 12) (c : Nat) (sd : Side) (s : State) (k : Fin 9) (h : k ≠ m) :
    vget (transferQ m q c sd s).p100.m k = vget s.p100.m k := by
  have delivered (p : Fin 12) (u : State) := deliverInc_other m p (increment m q c s) sd u k h
  rw [transferQ_eq]
  split
  · rw [delivered, delivered]
    rfl
  · rw [delivered]
    rfl

/-! What a booking does to each register. -/

theorem book_acc (q k : Fin 12) (delta tariff : Nat) (r : Registers) :
    vget (book q delta tariff r).1 k = vget r.1 k + if k = q then delta else 0 := by
  by_cases h : k = q
  · simp [book, h]
  · simp [book, h, vget_vmod_other]

theorem book_tacc (q k : Fin 12) (delta : Nat) (j : Fin 8) (r : Registers) :
    vget (vget (book q delta j.1 r).2 j) k = vget (vget r.2 j) k + if k = q then delta else 0 := by
  have at_j : vget (book q delta j.1 r).2 j = vmod (vget r.2 j) q (· + delta) := by simp [book, vatMod, vget]
  rw [at_j]
  by_cases h : k = q
  · simp [h]
  · simp [h, vget_vmod_other]

/-- A quantity is not its own total. -/
theorem totalOf_ne (q k : Fin 12) (h : totalOf q = some k) : q ≠ k := by
  revert q k
  decide

theorem bookAll_own (q : Fin 12) (delta tariff : Nat) (r : Registers) :
    vget (bookAll q delta tariff r).1 q = vget r.1 q + delta := by
  unfold bookAll
  split
  · rename_i k total
    simp [book_acc, totalOf_ne q k total]
  · simp [book_acc]

theorem bookAll_tariff (q : Fin 12) (delta : Nat) (j : Fin 8) (r : Registers) :
    vget (vget (bookAll q delta j.1 r).2 j) q = vget (vget r.2 j) q + delta := by
  unfold bookAll
  split
  · rename_i k total
    simp [book_tacc, totalOf_ne q k total]
  · simp [book_tacc]

theorem bookAll_total (q k : Fin 12) (delta tariff : Nat) (r : Registers) (total : totalOf q = some k) :
    vget (bookAll q delta tariff r).1 k = vget r.1 k + delta := by
  rw [bookAll, total]
  simp [book_acc, (totalOf_ne q k total).symm]

end Sys2Proof.Laws

namespace Sys2Proof.Proofs

open Sys2Proof Sys2Proof.Machine Sys2Proof.Laws

/-- Settles O46: what a contribution and a residue make together is divided into the increment, which every register of the quantity
receives, and the residue left. -/
theorem energyIsConserved : Obligations.EnergyIsConserved := by
  intro m q c sd s d t res acc pos
  have booked : ((vget t.p100.m m).acc, (vget t.p100.m m).tacc) =
      bookAll q (increment m q c s) sd.tariff ((vget s.p100.m m).acc, (vget s.p100.m m).tacc) := by
    rw [← vget_registers, ← vget_registers, registers_transferQ, vget_vmod_same]
  have residues : t.pfw.res = (joined m q c s).pfw.res := transferQ_res m q c sd s
  have own : acc t q = acc s q + increment m q c s :=
    (congrArg (fun r : Registers => vget r.1 q) booked).trans (bookAll_own _ _ _ _)
  have total (k : Fin 12) (h : totalOf q = some k) : acc t k = acc s k + increment m q c s :=
    (congrArg (fun r : Registers => vget r.1 k) booked).trans (bookAll_total _ _ _ _ _ h)
  have left : res t = (res s + c) % d := by
    show vget (vget t.pfw.res m) q = _
    rw [residues]
    simp [joined, res, d]
  refine ⟨?_, ?_, ?_, ?_, ?_, ?_, ?_, ?_⟩
  · have parts := Nat.mod_add_div (res s + c) d
    rw [left, own, Nat.mul_add]
    show _ + (_ + d * ((res s + c) / d)) = _
    omega
  · rw [left]
    exact Nat.mod_lt _ pos
  · intro k tariff
    rw [tariff] at booked
    have raised : vget (vget (vget t.p100.m m).tacc k) q = vget (vget (vget s.p100.m m).tacc k) q + increment m q c s :=
      (congrArg (fun r : Registers => vget (vget r.2 k) q) booked).trans (bookAll_tariff _ _ _ _)
    omega
  · intro k other
    rw [residues]
    simp [joined, vget_vset_other _ _ _ _ other]
  · intro k other
    rw [residues]
    exact vget_vmod_other _ _ _ _ other
  · intro quadrant
    have := total 2 (by rcases quadrant with rfl | rfl <;> rfl)
    omega
  · intro quadrant
    have := total 3 (by rcases quadrant with rfl | rfl <;> rfl)
    omega
  · exact fun k other => transferQ_other m q c sd s k other

end Sys2Proof.Proofs

namespace Sys2Proof.Laws

open Sys2Proof Sys2Proof.Machine

/-! ## What leaves the meters of class P100 -/

/-! ### Points and channels (R19, R150, R160, R233, R468) -/

theorem pilotNote_meters (n : Fin 8) (f : State → State) (h : ∀ u, (f u).p100.m = u.p100.m) (s : State) :
    (pilotNote n f s).p100.m = s.p100.m := by
  unfold pilotNote
  dsimp only
  split
  · exact h s
  · simp [h]

@[simp] theorem e55_meters (n : Fin 8) (kind : Nat) (l : List (Nat × Nat)) (s : State) : (e55 n kind l s).p100.m = s.p100.m := by
  simp [e55]

@[simp] theorem setPhase_meters (n : Fin 8) (p : HlcPhase) (s : State) : (setPhase n p s).p100.m = s.p100.m := by
  unfold setPhase
  split
  all_goals simp

@[simp] theorem chanOn_meters (c : Fin 24) (duty : Nat) (s : State) : (chanOn c duty s).p100.m = s.p100.m := rfl
@[simp] theorem chanOff_meters (c : Fin 24) (s : State) : (chanOff c s).p100.m = s.p100.m := rfl

@[simp] theorem followOne_meters (n : Fin 8) (s : State) : (followOne n s).p100.m = s.p100.m := by
  unfold followOne
  dsimp only
  repeat' split
  all_goals simp

@[simp] theorem followSig_meters (n : Fin 8) (s : State) : (followSig n s).p100.m = s.p100.m := by
  unfold followSig
  split
  · exact foldl_keeps (fun t => t.p100.m) _ (fun t k => followOne_meters k t) _ s
  · simp

@[simp] theorem openCoil_meters (n : Fin 8) (s : State) : (openCoil n s).p100.m = s.p100.m := by
  unfold openCoil
  dsimp only
  repeat' split
  all_goals simp

@[simp] theorem leaveDc_meters (n : Fin 8) (s : State) : (leaveDc n s).p100.m = s.p100.m := by
  obtain ⟨h, eq⟩ := leaveDc_eq n s
  rw [eq]

@[simp] theorem weldPhase_meters (n : Fin 8) (s : State) : (weldPhase n s).p100.m = s.p100.m := by
  unfold weldPhase
  split
  all_goals simp

@[simp] theorem markEnd_meters (n : Fin 8) (reason : EndReason) (s : State) : (markEnd n reason s).p100.m = s.p100.m := by
  unfold markEnd
  split
  all_goals simp

@[simp] theorem clearOos_meters (n : Fin 8) (m : Nat) (s : State) : (clearOos n m s).p100.m = s.p100.m := rfl

@[simp] theorem commandSupply_meters (on : Bool) (s : State) : (commandSupply on s).p100.m = s.p100.m := by
  unfold commandSupply e39
  repeat' split
  all_goals simp

@[simp] theorem certFail_meters (n : Fin 8) (s : State) : (certFail n s).p100.m = s.p100.m := rfl

@[simp] theorem decision_meters (n : Fin 8) (code type : Nat) (s : State) : (decision n code type s).p100.m = s.p100.m := by
  unfold decision
  dsimp only
  split
  all_goals simp

@[simp] theorem raiseReq_meters (n : Fin 8) (type : Nat) (id : List Byte) (card : Bool) (ant : Nat) (s : State) :
    (raiseReq n type id card ant s).p100.m = s.p100.m := by
  unfold raiseReq
  dsimp only
  split
  all_goals simp

@[simp] theorem refuseReq_meters (n : Fin 8) (code : Nat) (s : State) : (refuseReq n code s).p100.m = s.p100.m := by
  unfold refuseReq
  split
  all_goals simp

@[simp] theorem e77_meters (n : Fin 8) (old new : Nat) (s : State) : (e77 n old new s).p100.m = s.p100.m := by simp [e77]

@[simp] theorem recheck_meters (s : State) : (recheck s).p100.m = s.p100.m := by
  unfold recheck
  refine foldl_keeps (fun t => t.p100.m) _ (fun t n => ?_) _ s
  dsimp only
  split
  all_goals simp

@[simp] theorem setIso_meters (n : Fin 8) (st : Nat) (s : State) : (setIso n st s).p100.m = s.p100.m := by
  unfold setIso
  dsimp only
  split
  all_goals simp

@[simp] theorem commitCopies_meters (cs : List BlkCopy) (s : State) : (commitCopies cs s).p100.m = s.p100.m := by rw [commitCopies_only]

@[simp] theorem ledgerLimits_meters (s : State) : (ledgerLimits s).p100.m = s.p100.m :=
  of_quiet (fun t => t.p100.m) (fun _ => rfl) (quiet_ledgerLimits s)

/-! ### Records and sessions at a boundary (R134, R135, R143, R384) -/

@[simp] theorem fenceTake_meters (m : Fin 9) (s : State) : (fenceTake m s).p100.m = s.p100.m := by
  unfold fenceTake
  split
  · rfl
  · split
    all_goals rfl

@[simp] theorem queueSession_meters (n : Fin 8) (reason : EndReason) (flags tClose : Nat) (rest : Bool) (s : State) :
    (queueSession n reason flags tClose rest s).p100.m = s.p100.m := by
  unfold queueSession
  dsimp only
  split
  all_goals simp

@[simp] theorem sessionValues_meters (n : Fin 8) (s : State) : (sessionValues n s).p100.m = s.p100.m := by
  unfold sessionValues
  repeat' split
  all_goals simp

@[simp] theorem sessionStart_meters (n : Fin 8) (s : State) : (sessionStart n s).p100.m = s.p100.m := by
  simp [sessionStart]

@[simp] theorem restoreSession_meters (n : Fin 8) (s : State) : (restoreSession n s).p100.m = s.p100.m := by
  unfold restoreSession
  dsimp only
  split
  all_goals simp

@[simp] theorem setFired_meters (b : Fin 3) (lab : Nat) (s : State) : (setFired b lab s).p100.m = s.p100.m := by
  simp [setFired]

/-! ## What leaves the energy registers -/

@[simp] theorem registers_markFlags (m : Fin 9) (flags : Nat) (sd : Side) (s : State) :
    registers (markFlags m flags sd s).p100.m = registers s.p100.m := by
  unfold markFlags
  dsimp only
  repeat' split
  all_goals simp

@[simp] theorem registers_demandClose (m : Fin 9) (flags t tariff len sub : Nat) (s : State) :
    registers (demandClose m flags t tariff len sub s).p100.m = registers s.p100.m := by
  unfold demandClose
  extract_lets
  split
  · exact registers_vmod _ _ _ fun _ => rfl
  · rw [pulse_p100_m]
    exact registers_vmod _ _ _ fun _ => rfl

@[simp] theorem registers_periodClose (m : Fin 9) (flags tOpen tClose : Nat) (s : State) :
    registers (periodClose m flags tOpen tClose s).p100.m = registers s.p100.m := by
  simp [periodClose]

@[simp] theorem registers_dailyTake (m : Fin 9) (s : State) : registers (dailyTake m s).p100.m = registers s.p100.m := by
  unfold dailyTake
  dsimp only
  repeat' split
  all_goals simp

/-- What a boundary asks of a meter once its side is delivered leaves the registers. -/
@[simp] theorem registers_runAct (m : Fin 9) (a : BAct) (s : State) : registers (runAct m a s).p100.m = registers s.p100.m := by
  unfold runAct
  repeat' split
  all_goals simp [demandStart]

@[simp] theorem registers_ppGo (m : Fin 9) (st : PpState) (s : State) : registers (ppGo m st s).p100.m = registers s.p100.m := by
  unfold ppGo
  dsimp only
  repeat' split
  all_goals simp

@[simp] theorem registers_markStep (s : State) : registers (markStep s).p100.m = registers s.p100.m := by simp [markStep]

@[simp] theorem registers_profileRun (t : Nat) (s : State) : registers (profileRun t s).p100.m = registers s.p100.m := by
  have write (t : Nat) (first : Bool) (u : State) : registers (profWrite t first u).p100.m = registers u.p100.m := by
    unfold profWrite
    dsimp only
    split
    all_goals simp
  have each (l : List Nat) (g : Nat → Nat × Bool) (u : State) :
      registers (l.foldl (fun t i => profWrite (g i).1 (g i).2 t) u).p100.m = registers u.p100.m :=
    foldl_keeps (fun t => registers t.p100.m) _ (fun t i => write _ _ t) l u
  unfold profileRun
  dsimp only
  repeat' split
  · rfl
  · simp
  · rfl
  · rw [persist_p100]
    exact each _ (fun i => (_, _)) _

/-- The state of a time step once its first windows are split and marked and the new time is set (R115). -/
def onNewTime (new : Nat) (s : State) : State :=
  { markStep (stepClose s) with
    clk := { (markStep (stepClose s)).clk with time := new, timeValid := true, slew := 0 }
    p100 := { (markStep (stepClose s)).p100 with profStepTo := if now s < new then new else (markStep (stepClose s)).p100.profStepTo } }

/-- A time step splits the windows again on the new time, evaluates it, and leaves a record and E36 (R115). -/
theorem timeStep_eq (new source origin : Nat) (s : State) : ∃ r, timeStep new source origin s = pulse 36 (prm [(8, new)]) (queueRec r
    (if (boundaryAll [] (onNewTime new s)).bill.restPend then restore (boundaryAll [] (onNewTime new s))
      else tariffEval (gridFire false (boundaryAll [] (onNewTime new s))).1)) := ⟨_, rfl⟩

/-! ## What lowers no lifetime accumulator (R78) -/

/-- No lifetime accumulator of any meter is lower in `b` than in `a`. -/
def NoLower (a b : Vector Registers 9) : Prop := ∀ m q, vget (vget a m).1 q ≤ vget (vget b m).1 q

theorem noLower_refl (a : Vector Registers 9) : NoLower a a := fun _ _ => le_rfl

/-- A booking at one meter lowers none. -/
theorem noLower_vmod (a b : Vector Registers 9) (m : Fin 9) (q : Fin 12) (delta tariff : Nat) (h : NoLower a b) :
    NoLower a (vmod b m (bookAll q delta tariff)) := by
  have raised (r : Registers) (k : Fin 12) : vget r.1 k ≤ vget (bookAll q delta tariff r).1 k := by
    unfold bookAll
    split
    · rw [book_acc, book_acc]
      omega
    · rw [book_acc]
      omega
  intro k p
  by_cases own : k = m
  · rw [own, vget_vmod_same]
    exact (h m p).trans (raised _ p)
  · rw [vget_vmod_other _ _ _ _ own]
    exact h k p

section
variable {a : Vector Registers 9} {s : State} (h : NoLower a (registers s.p100.m))

/-- Steps that each lower none lower none in a row. -/
theorem foldl_noLower {β : Type} (g : State → β → State)
    (step : ∀ t b, NoLower a (registers t.p100.m) → NoLower a (registers (g t b).p100.m)) (l : List β) (s : State)
    (h : NoLower a (registers s.p100.m)) : NoLower a (registers (l.foldl g s).p100.m) := by
  induction l generalizing s with
  | nil => exact h
  | cons b l ih => exact ih _ (step s b h)

include h

/-! ### Delivery and boundaries (R72, R76, R77, R82) -/

@[simp] theorem transfer_noLower (m : Fin 9) (cs : List (Fin 12 × Nat)) (sd : Side) : NoLower a (registers (transfer m cs sd s).p100.m) := by
  refine foldl_noLower _ (fun t c ht => ?_) cs s h
  rw [registers_transferQ]
  exact noLower_vmod _ _ _ _ _ _ ht

@[simp] theorem netClose_noLower (m : Fin 9) (sd : Side) : NoLower a (registers (netClose m sd s).p100.m) := by
  unfold netClose
  dsimp only
  split
  all_goals simp [h]

@[simp] theorem boundaryAt_noLower (t : Nat) (m : Fin 9) (acts : List BAct) : NoLower a (registers (boundaryAt t m acts s).p100.m) := by
  have run (u : State) : registers (acts.foldl (fun t a => runAct m a t) u).p100.m = registers u.p100.m :=
    foldl_keeps (fun t => registers t.p100.m) _ (fun t a => registers_runAct m a t) acts u
  unfold boundaryAt
  dsimp only
  split
  · simp [modWin, run, h]
  · exact h

@[simp] theorem boundary_noLower (m : Fin 9) (acts : List BAct) : NoLower a (registers (boundary m acts s).p100.m) :=
  boundaryAt_noLower h _ m acts

@[simp] theorem boundaryAll_noLower (acts : List BAct) : NoLower a (registers (boundaryAll acts s).p100.m) := by
  refine foldl_noLower _ (fun t m ht => ?_) _ s h
  split
  all_goals simp [ht]

/-! ### Sessions (R16, R17, R19, R119, R291, R468) -/

@[simp] theorem tryClose_noLower (n : Fin 8) (flags : Nat) : NoLower a (registers (tryClose n flags s).p100.m) := by
  have values (reason : EndReason) (flags : Nat) : NoLower a (registers (closeValues n reason flags s).p100.m) := by
    unfold closeValues
    dsimp only
    split
    · exact h
    · rw [setPhase_meters]
      apply boundary_noLower
      exact h
  unfold tryClose
  repeat' split
  all_goals simp [h, values]

@[simp] theorem endNow_noLower (n : Fin 8) (reason : EndReason) : NoLower a (registers (endNow n reason s).p100.m) := by
  unfold endNow
  split
  all_goals simp [h]

@[simp] theorem endSoft_noLower (n : Fin 8) (reason : EndReason) : NoLower a (registers (endSoft n reason s).p100.m) := by
  unfold endSoft
  split
  all_goals simp [h]

@[simp] theorem setOos_noLower (n : Fin 8) (i : Nat) : NoLower a (registers (setOos n i s).p100.m) := by
  unfold setOos
  dsimp only
  split
  · apply endSoft_noLower
    exact h
  · exact h

@[simp] theorem basicPath_noLower (n : Fin 8) : NoLower a (registers (basicPath n s).p100.m) := by
  unfold basicPath
  repeat' split
  all_goals simp [h]

@[simp] theorem openSession_noLower (n : Fin 8) : NoLower a (registers (openSession n s).p100.m) := by
  unfold openSession
  dsimp only
  split
  · exact h
  · split
    · exact h
    · rw [setPhase_meters, followSig_meters]
      apply boundary_noLower
      rw [pilotNote_meters]
      · exact h
      · exact fun _ => rfl

@[simp] theorem retryOpen_noLower : NoLower a (registers (retryOpen s).p100.m) := by
  refine foldl_noLower _ (fun t n ht => ?_) _ s h
  split
  all_goals simp [ht]

@[simp] theorem bindAuth_noLower (n : Fin 8) (type : Nat) (id : List Byte) (bpt : Bool) (limI limP limD : Nat) :
    NoLower a (registers (bindAuth n type id bpt limI limP limD s).p100.m) := by
  unfold bindAuth
  rw [followSig_meters]
  split
  · exact h
  · apply openSession_noLower
    exact h

@[simp] theorem stopSession_noLower (n : Fin 8) : NoLower a (registers (stopSession n s).p100.m) := by
  rw [stopSession_eq]
  obtain ⟨x, eq, -⟩ := stopReady_eq n s
  split
  all_goals simp [eq, h]

@[simp] theorem decide1_noLower (n : Fin 8) (type : Nat) (id : List Byte) (card : Bool) (ant : Nat) :
    NoLower a (registers (decide1 n type id card ant s).p100.m) := by
  unfold decide1
  dsimp only
  repeat' split
  all_goals simp [h]

theorem flowDrain_noLower (n : Fin 8) (ws : List (Nat × List Byte × Bool × Nat)) : NoLower a (registers (flowDrain n ws s).p100.m) := by
  induction ws generalizing s with
  | nil => exact h
  | cons w ws ih =>
    rw [flowDrain]
    split
    · exact h
    · refine ih (decide1_noLower ?_ n _ _ _ _)
      exact h

@[simp] theorem flowNext_noLower (n : Fin 8) : NoLower a (registers (flowNext n s).p100.m) := flowDrain_noLower h n _

@[simp] theorem prepay_noLower (m : Fin 9) : NoLower a (registers (prepay m s).p100.m) := by
  have exhausted {u : State} (hu : NoLower a (registers u.p100.m)) : NoLower a (registers (supplyExhausted u).p100.m) := by
    have ended := foldl_noLower (fun t n => endSoft n .supplyCredit t) (fun t n ht => endSoft_noLower ht n _) (points u) u hu
    unfold supplyExhausted
    dsimp only
    split
    all_goals simp [ended]
  unfold prepay
  dsimp only
  repeat' split
  all_goals simp [h, exhausted]

@[simp] theorem creditOp_noLower (m : Fin 9) (op amount : Nat) : NoLower a (registers (creditOp m op amount s).p100.m) := by
  have subtracted (c : Int) : (creditSub c amount s).1.p100 = s.p100 := by
    unfold creditSub
    split
    all_goals rfl
  unfold creditOp
  dsimp only
  repeat' split
  all_goals simp [h, subtracted]

/-! ### Time (R107, R112 to R117, R143) -/

@[simp] theorem fireType_noLower (dur : Bool) (x : State × Nat) (hx : x.1 = s) (b : Fin 3) : NoLower a (registers (fireType dur x b).1.p100.m) := by
  subst hx
  have demand (lab : Nat) : NoLower a (registers (fireDemand dur lab x.1).p100.m) := by
    unfold fireDemand
    dsimp only
    split
    all_goals simp [h]
  have period (flags lab : Nat) : NoLower a (registers (firePeriod flags lab x.1).p100.m) := by simp [firePeriod, h]
  have daily (lab : Nat) : NoLower a (registers (fireDaily dur lab x.1).p100.m) := by simp [fireDaily, h]
  unfold fireType
  dsimp only
  repeat' split
  all_goals simp [h, demand, period, daily]

@[simp] theorem gridFire_noLower (dur : Bool) : NoLower a (registers (gridFire dur s).1.p100.m) := by
  have opened : NoLower a (registers (periodOpened s).p100.m) := by
    unfold periodOpened
    split
    all_goals exact h
  rw [gridFire_eq]
  split
  · exact h
  · rw [List.foldl_cons, List.foldl_cons, List.foldl_cons, List.foldl_nil]
    exact fireType_noLower (fireType_noLower (fireType_noLower opened dur _ rfl 0) dur _ rfl 1) dur _ rfl 2

@[simp] theorem tariffEval_noLower : NoLower a (registers (tariffEval s).p100.m) := by
  unfold tariffEval
  dsimp only
  split
  all_goals simp [h]

@[simp] theorem netRestore_noLower (m : Fin 9) : NoLower a (registers (netRestore m s).p100.m) := by
  unfold netRestore
  repeat' split
  all_goals simp [h]

@[simp] theorem restore_noLower : NoLower a (registers (restore s).p100.m) := by
  have netted : NoLower a (registers ((units 9).foldl (fun t m => if hasGroup t m.1 then netRestore m t else t) s).p100.m) := by
    refine foldl_noLower _ (fun t m ht => ?_) _ s h
    split
    all_goals simp [ht]
  have sessions (u : State) : ((units 8).foldl (fun t n => restoreSession n t) u).p100.m = u.p100.m :=
    foldl_keeps (fun t => t.p100.m) _ (fun t n => restoreSession_meters n t) _ u
  unfold restore
  simp [sessions, netted]

@[simp] theorem timeStep_noLower (new source origin : Nat) : NoLower a (registers (timeStep new source origin s).p100.m) := by
  have closed : NoLower a (registers (stepClose s).p100.m) := by
    unfold stepClose
    split
    all_goals simp [h]
  have sides : NoLower a (registers (boundaryAll [] (onNewTime new s)).p100.m) := by
    refine boundaryAll_noLower ?_ []
    simpa [onNewTime] using closed
  obtain ⟨r, eq⟩ := timeStep_eq new source origin s
  rw [eq, pulse_p100_m, queueRec_p100_m]
  split
  · exact restore_noLower sides
  · exact tariffEval_noLower (gridFire_noLower sides false)

@[simp] theorem fenceSplit_noLower (t : Nat) : NoLower a (registers (fenceSplit t s).p100.m) := by
  refine foldl_noLower _ (fun u m hu => ?_) _ s h
  repeat' split
  all_goals simp [hu]

end

end Sys2Proof.Laws

namespace Sys2Proof.Laws

open Sys2Proof Sys2Proof.Machine

/-! ## What the commands answer -/

/-- Whatever a command answers, no lifetime accumulator is lower than in `a`. -/
def OutNoLower (a : Vector Registers 9) : CmdOut → Prop
  | .done s _ | .failed s _ | .wait s => NoLower a (registers s.p100.m)
  | .fail _ | .denied _ => True

/-- A command's own rules lower no lifetime accumulator. -/
def BodyNoLower (body : Flight → State → CmdOut) : Prop :=
  ∀ a f s, NoLower a (registers s.p100.m) → OutNoLower a (body f s)

section
variable {a : Vector Registers 9}

theorem need_noLower {c : Bool} {st : Nat} {k : CmdOut} (h : OutNoLower a k) : OutNoLower a (need c st k) := by
  cases c
  · trivial
  · exact h

theorem needAuth_noLower {s : State} {f : Flight} {b : Nat} {k : CmdOut} (h : OutNoLower a k) : OutNoLower a (needAuth s f b k) := by
  unfold needAuth
  split
  · exact h
  · trivial

theorem takeStored_noLower {s : State} {ids : List Nat} {k : List BlkCopy → CmdOut} (h : ∀ cs, OutNoLower a (k cs)) :
    OutNoLower a (takeStored s ids k) := by
  unfold takeStored
  split
  · trivial
  · split
    · exact h _
    · trivial

theorem sized_noLower {n : Nat} {body : Flight → State → CmdOut} (h : BodyNoLower body) : BodyNoLower (sized n body) := by
  intro a f s hs
  unfold sized
  split
  · exact h a f s hs
  · trivial

end

/-! ### Opcodes 0x01xx and 0x02xx -/

theorem netCommit_noLower : BodyNoLower netCommitBody := fun _ _ _ h =>
  need_noLower <| takeStored_noLower fun _ => need_noLower <| need_noLower h

theorem evtSubscribe_noLower : BodyNoLower evtSubscribeBody := by
  intro a f s h
  unfold evtSubscribeBody
  dsimp only
  split
  · trivial
  · exact need_noLower h

theorem evtRead_noLower : BodyNoLower evtReadBody := by
  intro a f s h
  unfold evtReadBody
  dsimp only
  split
  · trivial
  · refine need_noLower <| need_noLower ?_
    split
    all_goals exact h

theorem partingFence_noLower : BodyNoLower partingFenceBody := by
  intro a f s h
  refine need_noLower <| need_noLower <| need_noLower ?_
  show NoLower a _
  apply fenceSplit_noLower
  exact h

theorem blkRead_noLower : BodyNoLower blkReadBody := by
  intro a f s h
  refine need_noLower ?_
  split
  · trivial
  · exact h

theorem mtrCommit_noLower : BodyNoLower mtrCommitBody := fun _ _ _ h =>
  need_noLower <| takeStored_noLower fun _ => need_noLower <| need_noLower h

theorem mtrRequalify_noLower : BodyNoLower mtrRequalifyBody := by
  have left (g : Nat) (u : State) : (leaveDegraded g u).p100.m = u.p100.m := by
    unfold leaveDegraded setDegraded
    split
    all_goals simp
  intro a f s h
  refine need_noLower <| need_noLower ?_
  dsimp only
  repeat' split
  all_goals simpa [OutNoLower, left, setSubst] using h

theorem mtrValues_noLower : BodyNoLower mtrValuesBody := by
  intro a f s h
  unfold mtrValuesBody
  dsimp only
  split
  · trivial
  · exact need_noLower h

theorem mtrEnergyCommit_noLower : BodyNoLower mtrEnergyCommitBody := by
  intro a f s h
  have named (l : List (Fin 9)) : (l.foldl (fun t k => modMeter k (fun x => { x with commit := true }) t) s).p100.m = s.p100.m :=
    foldl_keeps (fun t => t.p100.m) _ (fun t k => congrArg P100.m (modMeter_p100 k _ t)) l s
  refine need_noLower <| takeStored_noLower fun cs => need_noLower <| need_noLower ?_
  simpa [OutNoLower, take, named] using h

theorem table01_noLower : ∀ e ∈ table01, BodyNoLower e.2 := by
  simp only [table01, List.forall_mem_cons]
  exact ⟨sized_noLower fun _ _ _ h => h, sized_noLower fun _ _ _ h => h, sized_noLower netCommit_noLower,
    sized_noLower evtSubscribe_noLower, sized_noLower evtRead_noLower, sized_noLower partingFence_noLower,
    sized_noLower fun _ _ _ h => h, sized_noLower fun _ _ _ h => h, fun _ _ _ h => need_noLower h, sized_noLower blkRead_noLower, nofun⟩

theorem table02_noLower : ∀ e ∈ table02, BodyNoLower e.2 := by
  simp only [table02, List.forall_mem_cons]
  exact ⟨sized_noLower mtrCommit_noLower, sized_noLower fun _ _ _ h => need_noLower h, sized_noLower mtrRequalify_noLower,
    sized_noLower fun _ _ _ h => need_noLower h, sized_noLower mtrValues_noLower, sized_noLower mtrEnergyCommit_noLower, nofun⟩

/-! ### Opcodes 0x03xx -/

theorem bilRegs_noLower : BodyNoLower bilRegsBody := by
  intro a f s h
  unfold bilRegsBody
  dsimp only
  split
  · trivial
  · exact need_noLower h

theorem bilDemand_noLower : BodyNoLower bilDemandBody := by
  intro a f s h
  unfold bilDemandBody
  dsimp only
  split
  · trivial
  · exact need_noLower h

theorem bilSnapshot_noLower : BodyNoLower bilSnapshotBody := by
  intro a f s h
  unfold bilSnapshotBody
  dsimp only
  split
  · trivial
  · refine need_noLower ?_
    split
    · trivial
    · exact h

theorem bilTimeSet_noLower : BodyNoLower bilTimeSetBody := by
  intro a f s h
  have set (c d e : Bool) (st st' target source origin : Nat) (pl : List Byte) : OutNoLower a (need c st (if d || e then
      .done (timeStep target source origin s) pl else .done (slewTo target s) pl)) := by
    refine need_noLower ?_
    split
    · exact timeStep_noLower h _ _ _
    · exact h
  refine need_noLower ?_
  dsimp only
  split
  · exact needAuth_noLower (set _ _ _ _ 0 _ _ _ _)
  · exact set _ _ _ _ 0 _ _ _ _

theorem bilCredit_noLower : BodyNoLower bilCreditBody := by
  intro a f s h
  unfold bilCreditBody
  dsimp only
  split
  · trivial
  · refine need_noLower <| needAuth_noLower <| need_noLower ?_
    show NoLower a _
    rw [persist_p100]
    apply creditOp_noLower
    simpa using h

theorem ledRead_noLower : BodyNoLower ledReadBody := fun _ _ _ h => need_noLower <| need_noLower h

theorem ledAck_noLower : BodyNoLower ledAckBody := by
  intro a f s h
  refine need_noLower ?_
  show NoLower a _
  apply retryOpen_noLower
  simpa using h

theorem ledPolicy_noLower : BodyNoLower ledPolicyBody := by
  intro a f s h
  refine need_noLower <| needAuth_noLower ?_
  show NoLower a _
  apply retryOpen_noLower
  simpa using h

theorem table03_noLower : ∀ e ∈ table03, BodyNoLower e.2 := by
  simp only [table03, List.forall_mem_cons]
  exact ⟨sized_noLower fun _ _ _ h => need_noLower <| takeStored_noLower fun _ => need_noLower <| need_noLower h,
    sized_noLower bilRegs_noLower, sized_noLower bilDemand_noLower, sized_noLower bilSnapshot_noLower,
    sized_noLower fun _ _ _ h => need_noLower <| need_noLower h, sized_noLower bilTimeSet_noLower, sized_noLower bilCredit_noLower,
    sized_noLower ledRead_noLower, sized_noLower ledAck_noLower, sized_noLower fun _ _ _ h => h,
    sized_noLower fun _ _ _ h => need_noLower <| need_noLower h, sized_noLower ledPolicy_noLower, nofun⟩

/-! ### Opcodes 0x04xx -/

theorem ptStatus_noLower : BodyNoLower ptStatusBody := by
  intro a f s h
  unfold ptStatusBody
  dsimp only
  split
  · trivial
  · exact need_noLower h

theorem sesStart_noLower : BodyNoLower sesStartBody := by
  intro a f s h
  unfold sesStartBody
  dsimp only
  split
  · trivial
  · refine need_noLower <| need_noLower <| need_noLower <| need_noLower <| need_noLower <| need_noLower ?_
    show NoLower a _
    apply flowNext_noLower
    apply bindAuth_noLower
    split
    all_goals simpa using h

theorem stopAct_noLower {a : Vector Registers 9} {s : State} (h : NoLower a (registers s.p100.m)) (mode : Nat) (n : Fin 8) :
    NoLower a (registers (stopAct mode n s).p100.m) := by
  have out : NoLower a (registers (setOos n 0 (stopReady n s)).p100.m) := by
    apply setOos_noLower
    obtain ⟨x, eq, -⟩ := stopReady_eq n s
    rw [eq]
    exact h
  unfold stopAct
  dsimp only
  repeat' split
  · exact stopSession_noLower h n
  · apply flowNext_noLower
    simpa using h
  · exact endSoft_noLower out n _
  · exact out

theorem sesStop_noLower : BodyNoLower sesStopBody := by
  intro a f s h
  unfold sesStopBody
  dsimp only
  split
  · trivial
  · exact need_noLower <| need_noLower <| stopAct_noLower h _ _

theorem sesLimit_noLower : BodyNoLower sesLimitBody := by
  intro a f s h
  unfold sesLimitBody
  dsimp only
  split
  · trivial
  · refine need_noLower <| need_noLower ?_
    simpa [OutNoLower] using h

theorem sesStatus_noLower : BodyNoLower sesStatusBody := by
  intro a f s h
  unfold sesStatusBody
  dsimp only
  split
  · trivial
  · exact need_noLower h

theorem hlcCommit_noLower : BodyNoLower hlcCommitBody := by
  intro a f s h
  refine need_noLower <| takeStored_noLower fun cs => need_noLower <| need_noLower ?_
  have cleared (l : List (Fin 8)) (u : State) : (l.foldl (fun t n => if dcPoint t n then t else setIso n 0 t) u).p100.m = u.p100.m := by
    refine foldl_keeps (fun t => t.p100.m) _ (fun t n => ?_) l u
    split
    all_goals simp
  show NoLower a _
  refine foldl_noLower _ (fun t n ht => basicPath_noLower ht n) _ _ ?_
  split
  all_goals simpa [cleared] using h

theorem hlcExchange_noLower : BodyNoLower hlcExchangeBody := by
  intro a f s h
  unfold hlcExchangeBody
  dsimp only
  split
  · trivial
  · refine need_noLower ?_
    split
    · trivial
    · refine need_noLower ?_
      split
      · exact need_noLower h
      · split
        · refine need_noLower ?_
          unfold writeChunk
          dsimp only
          split
          all_goals exact h
        · exact h

theorem hlcModemTest_noLower : BodyNoLower hlcModemTestBody := by
  intro a f s h
  unfold hlcModemTestBody
  dsimp only
  split
  · trivial
  · exact need_noLower <| need_noLower <| need_noLower h

theorem table04_noLower : ∀ e ∈ table04, BodyNoLower e.2 := by
  simp only [table04, List.forall_mem_cons]
  exact ⟨sized_noLower fun _ _ _ h => need_noLower <| takeStored_noLower fun _ => need_noLower <| need_noLower h,
    sized_noLower ptStatus_noLower, sized_noLower sesStart_noLower, sized_noLower sesStop_noLower, sized_noLower sesLimit_noLower,
    sized_noLower sesStatus_noLower, sized_noLower hlcCommit_noLower, hlcExchange_noLower, sized_noLower hlcModemTest_noLower, nofun⟩

end Sys2Proof.Laws

namespace Sys2Proof.Laws

open Sys2Proof Sys2Proof.Machine

/-! ### Opcodes 0x05xx -/

@[simp] theorem resetTrip_meters (n : Fin 8) (src : Nat) (s : State) : (resetTrip n src s).p100.m = s.p100.m := by
  simp [resetTrip, e74]

theorem safCommit_noLower : BodyNoLower safCommitBody := by
  intro a f s h
  refine need_noLower <| takeStored_noLower fun cs => need_noLower <| need_noLower ?_
  show NoLower a _
  split
  all_goals simpa using h

theorem safStatus_noLower : BodyNoLower safStatusBody := by
  intro a f s h
  unfold safStatusBody
  dsimp only
  split
  · trivial
  · exact need_noLower h

theorem safConfirm_noLower : BodyNoLower safConfirmBody := by
  intro a f s h
  unfold safConfirmBody
  dsimp only
  split
  · trivial
  · refine need_noLower <| needAuth_noLower <| need_noLower ?_
    simpa [OutNoLower, confirmCheck] using h

theorem tripsReset_meters (ns : List (Fin 8)) (s : State) :
    (ns.foldl (fun t n => safResetPoint n t) s).p100.m = s.p100.m := by
  refine foldl_keeps (fun t => t.p100.m) _ (fun t n => ?_) ns s
  unfold safResetPoint
  dsimp only
  split
  all_goals simp

theorem pathTests_meters (ns : List (Fin 8)) (s : State) :
    (ns.foldl (fun t n => modSafe n (fun x => { x with pathOnly := true }) (path1 n t)) s).p100.m = s.p100.m := by
  refine foldl_keeps (fun t => t.p100.m) _ (fun t n => ?_) ns s
  unfold path1 cutHigh coilStep pathStep
  dsimp only
  split
  all_goals simp

theorem weldsCleared_meters (ns : List (Fin 8)) (s : State) : (ns.foldl (fun t n => weldClear n t) s).p100.m = s.p100.m := by
  refine foldl_keeps (fun t => t.p100.m) _ (fun t n => ?_) ns s
  simp [weldClear]

theorem safReset_noLower : BodyNoLower safResetBody := by
  intro a f s h
  unfold safResetBody
  dsimp only
  split
  · trivial
  · refine need_noLower <| needAuth_noLower ?_
    split
    · unfold safReset0
      dsimp only
      repeat' split
      · trivial
      · trivial
      · simpa [OutNoLower, tripsReset_meters] using h
      · simpa [OutNoLower, tripsReset_meters, pathTests_meters] using h
    · unfold safReset1
      dsimp only
      split
      · trivial
      · simpa [OutNoLower, weldsCleared_meters] using h

theorem efCommit_noLower : BodyNoLower efCommitBody := by
  intro a f s h
  have applied (b : Fin 8 → List Byte) (l : List (Fin 8)) (u : State) : (l.foldl (fun t n => rcdApplied (b n) n t) u).p100.m = u.p100.m :=
    foldl_keeps (fun t => t.p100.m) _ (fun t n => congrArg P100.m (modEarth_p100 n _ t)) l u
  have checked (u : State) : (peApplied u).p100.m = u.p100.m := by
    unfold peApplied e73
    dsimp only
    repeat' split
    all_goals simp
  refine need_noLower <| takeStored_noLower fun cs => need_noLower ?_
  show NoLower a _
  rw [recheck_meters]
  split
  all_goals simpa [checked, applied] using h

theorem efStatus_noLower : BodyNoLower efStatusBody := by
  intro a f s h
  unfold efStatusBody
  dsimp only
  split
  · trivial
  · exact need_noLower h

theorem efTest_noLower : BodyNoLower efTestBody := by
  intro a f s h
  unfold efTestBody
  dsimp only
  split
  · trivial
  · exact need_noLower <| need_noLower h

theorem table05_noLower : ∀ e ∈ table05, BodyNoLower e.2 := by
  simp only [table05, List.forall_mem_cons]
  exact ⟨sized_noLower safCommit_noLower, sized_noLower safStatus_noLower, sized_noLower safConfirm_noLower,
    sized_noLower safReset_noLower, sized_noLower efCommit_noLower, sized_noLower efStatus_noLower, sized_noLower efTest_noLower, nofun⟩

/-! ### Opcodes 0x06xx and 0x07xx -/

theorem swCommit_noLower : BodyNoLower swCommitBody := by
  intro a f s h
  refine need_noLower <| takeStored_noLower fun cs => need_noLower <| need_noLower ?_
  simpa [OutNoLower] using h

theorem swSet_noLower : BodyNoLower swSetBody := by
  intro a f s h
  unfold swSetBody
  dsimp only
  split
  · trivial
  · refine need_noLower <| need_noLower <| need_noLower ?_
    split
    · exact h
    · exact need_noLower h

theorem swStatus_noLower : BodyNoLower swStatusBody := by
  intro a f s h
  refine need_noLower ?_
  split
  · exact h
  · exact h
  · trivial

theorem swClear_noLower : BodyNoLower swClearBody := by
  intro a f s h
  refine need_noLower <| need_noLower ?_
  split
  · simpa [OutNoLower, clearChan, e81, e82] using h
  · simpa [OutNoLower, clearLock, setLockFault, e82] using h
  · trivial

theorem swLock_noLower : BodyNoLower swLockBody := by
  intro a f s h
  unfold swLockBody
  dsimp only
  split
  · trivial
  · exact need_noLower <| need_noLower <| need_noLower h

theorem table06_noLower : ∀ e ∈ table06, BodyNoLower e.2 := by
  simp only [table06, List.forall_mem_cons]
  exact ⟨sized_noLower swCommit_noLower, sized_noLower swSet_noLower, sized_noLower swStatus_noLower, sized_noLower swClear_noLower,
    sized_noLower fun _ _ _ h => need_noLower h, sized_noLower swLock_noLower, nofun⟩

theorem authListWrite_noLower : BodyNoLower authListWriteBody := by
  intro a f s h
  refine need_noLower ?_
  dsimp only
  repeat' split
  all_goals exact h

theorem authListCommit_noLower : BodyNoLower authListCommitBody := by
  intro a f s h
  simpa [authListCommitBody, OutNoLower] using h

theorem rdrStatus_noLower : BodyNoLower rdrStatusBody := by
  intro a f s h
  unfold rdrStatusBody
  dsimp only
  split
  · trivial
  · exact need_noLower h

theorem rdrSelftest_noLower : BodyNoLower rdrSelftestBody := by
  intro a f s h
  unfold rdrSelftestBody
  dsimp only
  split
  · trivial
  · exact need_noLower <| need_noLower <| need_noLower h

theorem table07_noLower : ∀ e ∈ table07, BodyNoLower e.2 := by
  simp only [table07, List.forall_mem_cons]
  exact ⟨sized_noLower fun _ _ _ h => need_noLower <| takeStored_noLower fun _ => need_noLower h, authListWrite_noLower,
    sized_noLower authListCommit_noLower, sized_noLower rdrStatus_noLower, sized_noLower rdrSelftest_noLower, nofun⟩

/-! ### Opcodes 0x08xx and 0x09xx -/

@[simp] theorem setFailsafe_meters (s : State) : (setFailsafe s).p100.m = s.p100.m := by simp [setFailsafe]

@[simp] theorem joinAgain_meters (b : Option (List Byte)) (s : State) : (joinAgain b s).p100.m = s.p100.m := by
  have levels (ev : Nat) (l : List Nat) (u : State) :
      (l.foldl (fun t k => level ev k false (prm [(1, k + 1)]) t) u).p100.m = u.p100.m :=
    foldl_keeps (fun t => t.p100.m) _ (fun t k => level_p100_m _ _ _ _ t) l u
  unfold joinAgain
  dsimp only
  split
  all_goals simp [levels, setSync, dropPred]

@[simp] theorem takeNext_meters (s : State) : (takeNext s).p100.m = s.p100.m := by
  unfold takeNext
  dsimp only
  repeat' split
  all_goals simp

theorem tdrCommit_noLower : BodyNoLower tdrCommitBody := by
  intro a f s h
  refine need_noLower <| takeStored_noLower fun cs => need_noLower ?_
  show NoLower a _
  repeat' split
  all_goals simpa using h

theorem table08_noLower : ∀ e ∈ table08, BodyNoLower e.2 := by
  simp only [table08, List.forall_mem_cons]
  exact ⟨sized_noLower tdrCommit_noLower, sized_noLower fun _ _ _ h => h, sized_noLower fun _ _ _ h => need_noLower <| need_noLower h, nofun⟩

theorem dspUpdate_noLower : BodyNoLower dspUpdateBody := by
  intro a f s h
  refine need_noLower <| need_noLower <| need_noLower ?_
  show NoLower a _
  unfold queueReq
  split
  all_goals exact h

theorem dspStress_noLower : BodyNoLower dspStressBody := by
  intro a f s h
  refine need_noLower <| need_noLower ?_
  split
  all_goals exact h

theorem table09_noLower : ∀ e ∈ table09, BodyNoLower e.2 := by
  simp only [table09, List.forall_mem_cons]
  exact ⟨sized_noLower fun _ _ _ h => need_noLower <| takeStored_noLower fun _ => need_noLower h,
    fun _ _ _ h => need_noLower <| need_noLower h, sized_noLower dspUpdate_noLower, sized_noLower fun _ _ _ h => h,
    sized_noLower dspStress_noLower, nofun⟩

end Sys2Proof.Laws

namespace Sys2Proof.Laws

open Sys2Proof Sys2Proof.Machine

/-! ### Opcodes 0x0Axx and 0x0Bxx -/

@[simp] theorem dropKey_meters (key : Nat) (s : State) : (dropKey key s).p100.m = s.p100.m := by
  have emptied (i : Fin 64) (u : State) : (slotEmpty i u).p100.m = u.p100.m := by
    unfold slotEmpty e120
    split
    all_goals simp
  unfold dropKey
  dsimp only
  repeat' split
  all_goals simp [emptied]

theorem secKey_noLower : BodyNoLower secKeyBody := by
  intro a f s h
  unfold secKeyBody
  dsimp only
  split
  · exact need_noLower <| needAuth_noLower <| need_noLower h
  · refine need_noLower <| needAuth_noLower ?_
    simpa [OutNoLower] using h

theorem secStore_noLower : BodyNoLower secStoreBody := by
  intro a f s h
  refine need_noLower ?_
  dsimp only
  split
  · split
    all_goals exact h
  · refine needAuth_noLower ?_
    split
    all_goals exact h

theorem secRead_noLower : BodyNoLower secReadBody := by
  intro a f s h
  refine need_noLower ?_
  split
  · trivial
  · exact h

theorem secProve_noLower : BodyNoLower secProveBody := by
  intro a f s h
  unfold secProveBody
  dsimp only
  repeat' split
  all_goals exact h

theorem table0A_noLower : ∀ e ∈ table0A, BodyNoLower e.2 := by
  simp only [table0A, List.forall_mem_cons]
  exact ⟨sized_noLower secKey_noLower, secStore_noLower, sized_noLower secRead_noLower, sized_noLower fun _ _ _ h => h,
    sized_noLower secProve_noLower, sized_noLower fun _ _ _ h => need_noLower h, nofun⟩

@[simp] theorem pkgReject_meters (reason : Nat) (s : State) : (pkgReject reason s).p100.m = s.p100.m := by
  simp [pkgReject, e124, emptyStage]

theorem updBegin_noLower : BodyNoLower updBeginBody := by
  intro a f s h
  refine need_noLower ?_
  split
  · simpa [OutNoLower] using h
  · exact h

theorem updData_noLower : BodyNoLower updDataBody := by
  intro a f s h
  refine need_noLower <| need_noLower ?_
  dsimp only
  split
  · simpa [OutNoLower] using h
  · show NoLower a _
    split
    all_goals exact h

/-! The field store (R303 to R305). -/

@[simp] theorem repairRec_meters (r : Nat) (s : State) : (repairRec r s).p100.m = s.p100.m := by
  unfold repairRec sawGen e12
  repeat' split
  all_goals simp

@[simp] theorem wiredWrite_meters (r : Nat) (d : List Byte) (s : State) : (wiredWrite r d s).p100.m = s.p100.m := by
  unfold wiredWrite sawGen
  dsimp only
  split
  all_goals simp

@[simp] theorem statusSync_meters (s : State) : (statusSync s).p100.m = s.p100.m := by
  unfold statusSync
  dsimp only
  repeat' split
  all_goals simp

@[simp] theorem e127_meters (k : Nat) (ids : List Nat) (s : State) : (e127 k ids s).p100.m = s.p100.m := by
  induction k generalizing ids s with
  | zero => rfl
  | succ k ih =>
    rw [e127]
    split
    all_goals simp [ih]

@[simp] theorem settingsRule_meters (s : State) : (settingsRule s).p100.m = s.p100.m := by
  have reset (l : List Nat) (u : State) : (l.foldl (fun t i => resetBlock i t) u).p100.m = u.p100.m :=
    foldl_keeps (fun t => t.p100.m) _ (fun t i => (rfl : (resetBlock i t).p100.m = t.p100.m)) l u
  simp [settingsRule, reset]

theorem updConfirm_noLower : BodyNoLower updConfirmBody := by
  intro a f s h
  refine need_noLower ?_
  simpa [OutNoLower, confirmSet, putSelector, emptyStage] using h

theorem updAbort_noLower : BodyNoLower updAbortBody := by
  intro a f s h
  refine need_noLower ?_
  show NoLower a _
  split
  all_goals exact h

theorem table0B_noLower : ∀ e ∈ table0B, BodyNoLower e.2 := by
  simp only [table0B, List.forall_mem_cons]
  exact ⟨sized_noLower updBegin_noLower, updData_noLower, sized_noLower fun _ _ _ h => need_noLower <| need_noLower h,
    sized_noLower updConfirm_noLower, sized_noLower fun _ _ _ h => h, sized_noLower updAbort_noLower, nofun⟩

/-! ### Opcodes 0x0Cxx to 0x0Exx -/

theorem pwrOptionRead_noLower : BodyNoLower pwrOptionReadBody := by
  intro a f s h
  refine need_noLower ?_
  split
  · exact h
  · trivial

theorem pwrCommit_noLower : BodyNoLower pwrCommitBody := by
  intro a f s h
  refine need_noLower <| takeStored_noLower fun cs => ?_
  show NoLower a _
  split
  all_goals simpa using h

theorem table0C_noLower : ∀ e ∈ table0C, BodyNoLower e.2 := by
  simp only [table0C, List.forall_mem_cons]
  exact ⟨sized_noLower fun _ _ _ h => h, sized_noLower fun _ _ _ h => need_noLower <| need_noLower h,
    sized_noLower pwrOptionRead_noLower, sized_noLower fun _ _ _ h => need_noLower <| need_noLower h, sized_noLower pwrCommit_noLower, nofun⟩

theorem tstPoint_noLower : BodyNoLower tstPointBody := by
  intro a f s h
  unfold tstPointBody
  dsimp only
  split
  · trivial
  · refine need_noLower ?_
    split
    · exact setOos_noLower h _ 0
    · unfold tstIn
      dsimp only
      split
      · trivial
      · show NoLower a _
        rw [pilotNote_meters]
        · exact h
        · exact fun _ => rfl

theorem table0D_noLower : ∀ e ∈ table0D, BodyNoLower e.2 := by
  simp only [table0D, List.forall_mem_cons]
  exact ⟨sized_noLower tstPoint_noLower, sized_noLower fun _ _ _ h => h, nofun⟩

theorem fsRead_noLower : BodyNoLower fsReadBody := by
  intro a f s h
  refine need_noLower ?_
  simpa [OutNoLower] using h

theorem fsWrite_noLower : BodyNoLower fsWriteBody := by
  intro a f s h
  refine need_noLower <| need_noLower ?_
  dsimp only
  split
  all_goals simpa [OutNoLower] using h

theorem fsCtl_noLower : BodyNoLower fsCtlBody := by
  intro a f s h
  refine need_noLower <| needAuth_noLower ?_
  simpa [OutNoLower] using h

theorem table0E_noLower : ∀ e ∈ table0E, BodyNoLower e.2 := by
  simp only [table0E, List.forall_mem_cons]
  exact ⟨sized_noLower fsRead_noLower, fsWrite_noLower, sized_noLower fsCtl_noLower, nofun⟩

/-! ### The command step (R366, R377) -/

/-- No command of the table lowers a lifetime accumulator by its own rules. -/
theorem bodyOf_noLower (op : Nat) (body : Flight → State → CmdOut) (h : bodyOf op = some body) : BodyNoLower body := by
  obtain ⟨e, found, rfl⟩ := Option.map_eq_some_iff.1 h
  have listed := List.mem_of_find?_eq_some found
  simp only [hostTable, List.mem_append] at listed
  rcases listed with (((((((((((((l | l) | l) | l) | l) | l) | l) | l) | l) | l) | l) | l) | l) | l)
  · exact table01_noLower e l
  · exact table02_noLower e l
  · exact table03_noLower e l
  · exact table04_noLower e l
  · exact table05_noLower e l
  · exact table06_noLower e l
  · exact table07_noLower e l
  · exact table08_noLower e l
  · exact table09_noLower e l
  · exact table0A_noLower e l
  · exact table0B_noLower e l
  · exact table0C_noLower e l
  · exact table0D_noLower e l
  · exact table0E_noLower e l

@[simp] theorem deniedEvent_meters (f : Flight) (auth : Nat) (s : State) : (deniedEvent f auth s).p100.m = s.p100.m := by
  simp [deniedEvent]

/-- A command that starts lowers no more than its own rules do: its reply and E122 leave the meters. -/
theorem startCmd_noLower (f : Flight) (body : Flight → State → CmdOut) (s : State) (a : Vector Registers 9) (hb : BodyNoLower body)
    (h : NoLower a (registers s.p100.m)) : NoLower a (registers (startCmd f body s).p100.m) := by
  have out := hb a f { s with port.flights := s.port.flights ++ [f] } h
  unfold startCmd
  dsimp only
  generalize body f { s with port.flights := s.port.flights ++ [f] } = o at out
  cases o
  case done t pl => simpa [OutNoLower] using out
  case fail st =>
    rw [complete_p100]
    split
    all_goals simpa using h
  case denied b => simpa using h
  case failed t st =>
    rw [complete_p100]
    split
    all_goals simpa [OutNoLower] using out
  case wait t => exact out

/-- A packet that reaches the port lowers no lifetime accumulator: at most the port changes, with or without a wake, or its command
starts (R78). -/
theorem command_noLower (op : Nat) (body : Flight → State → CmdOut) (p : Pkt) (s : State) (hb : BodyNoLower body) :
    NoLower (registers s.p100.m) (registers (command op body p s).p100.m) := by
  have woken : (wake 0 s).p100.m = s.p100.m := of_drowsy (fun t => t.p100.m) (fun _ => rfl) (drowsy_wake 0 s)
  rcases command_cases op body p s with port | port | ⟨-, -, starts⟩
  · rw [of_offPort State.p100 (fun _ => rfl) port]
    exact noLower_refl _
  · rw [of_offPort State.p100 (fun _ => rfl) port, woken]
    exact noLower_refl _
  · rw [starts]
    refine startCmd_noLower _ _ _ _ hb ?_
    rw [takeCmd_p100, woken]
    exact noLower_refl _

end Sys2Proof.Laws

namespace Sys2Proof.Proofs

open Sys2Proof Sys2Proof.Machine Sys2Proof.Laws

/-- Settles O47: every command of the table, taken opcode by opcode, delivers energy or leaves the registers. -/
theorem noCommandLowersAcc : Obligations.NoCommandLowersAcc := by
  intro op body p s m q named
  simpa using command_noLower op body p s (bodyOf_noLower op body named) m q

end Sys2Proof.Proofs

namespace Sys2Proof.Laws

open Sys2Proof Sys2Proof.Machine

/-! ## The clock and the settings through boundaries and time steps (R107, R112 to R117) -/

/-- The time, the settings blocks and the firmware sets: all that tariffs and boundary labels are read from (R104 to R112). -/
def timed (s : State) : State := { clk := s.clk, blk := s.blk, upd := s.upd }

/-- What the clock and the settings show is the same in two states that agree in them. -/
theorem of_timed {α : Type} (f : State → α) (hf : ∀ u, f (timed u) = f u) {s t : State} (h : timed t = timed s) : f t = f s := by
  rw [← hf t, h, hf s]

theorem clk_of_timed {s t : State} (h : timed t = timed s) : t.clk = s.clk := of_timed State.clk (fun _ => rfl) h

theorem timed_of_offPoint {s t : State} (h : offPoint t = offPoint s) : timed t = timed s := of_offPoint timed (fun _ => rfl) h

@[simp] theorem timed_upd_p100 (s : State) (x) : timed { s with p100 := x } = timed s := rfl
@[simp] theorem timed_upd_bill (s : State) (x) : timed { s with bill := x } = timed s := rfl

@[simp] theorem timed_pulse (ev : Nat) (p : List Byte) (s : State) : timed (pulse ev p s) = timed s :=
  timed_of_offPoint (offPoint_pulse ev p s)
@[simp] theorem timed_queueRec (r : PendRec) (s : State) : timed (queueRec r s) = timed s := timed_of_offPoint (offPoint_queueRec r s)
@[simp] theorem timed_persist (s : State) : timed (persist s) = timed s := timed_of_offPoint (offPoint_persist s)
@[simp] theorem timed_boundaryAll (acts : List BAct) (s : State) : timed (boundaryAll acts s) = timed s :=
  timed_of_offPoint (offPoint_boundaryAll acts s)
@[simp] theorem timed_ppGo (m : Fin 9) (st : PpState) (s : State) : timed (ppGo m st s) = timed s := timed_of_offPoint (offPoint_ppGo m st s)

@[simp] theorem timed_setFired (b : Fin 3) (lab : Nat) (s : State) : timed (setFired b lab s) = timed s := (timed_persist _).trans rfl

@[simp] theorem timed_firePeriod (flags lab : Nat) (s : State) : timed (firePeriod flags lab s) = timed s := by
  unfold firePeriod
  exact (timed_upd_p100 _ _).trans ((timed_boundaryAll _ _).trans (timed_pulse _ _ _))

@[simp] theorem timed_fireType (dur : Bool) (x : State × Nat) (b : Fin 3) : timed (fireType dur x b).1 = timed x.1 := by
  have demand (lab : Nat) (u : State) : timed (fireDemand dur lab u) = timed u := by
    unfold fireDemand
    dsimp only
    split
    all_goals simp
  have daily (lab : Nat) (u : State) : timed (fireDaily dur lab u) = timed u := by
    unfold fireDaily
    exact (timed_boundaryAll _ _).trans ((timed_upd_p100 _ _).trans (timed_pulse _ _ _))
  unfold fireType
  dsimp only
  repeat' split
  all_goals simp [demand, daily]

@[simp] theorem timed_periodOpened (s : State) : timed (periodOpened s) = timed s := by
  unfold periodOpened
  split
  all_goals rfl

/-- Firing the boundaries takes no time and changes no settings. -/
@[simp] theorem timed_gridFire (dur : Bool) (s : State) : timed (gridFire dur s).1 = timed s := by
  rw [gridFire_eq]
  split
  · rfl
  · rw [List.foldl_cons, List.foldl_cons, List.foldl_cons, List.foldl_nil, timed_fireType, timed_fireType, timed_fireType,
      timed_periodOpened]

@[simp] theorem timed_tariffEval (s : State) : timed (tariffEval s) = timed s := by
  unfold tariffEval
  dsimp only
  split
  all_goals simp

@[simp] theorem timed_profileRun (t : Nat) (s : State) : timed (profileRun t s) = timed s := by
  have write (t : Nat) (first : Bool) (u : State) : timed (profWrite t first u) = timed u := by
    unfold profWrite
    dsimp only
    split
    all_goals rfl
  unfold profileRun
  dsimp only
  repeat' split
  · rfl
  · rfl
  · rfl
  · exact (timed_persist _).trans (foldl_keeps timed _ (fun u i => write _ _ u) _ s)

@[simp] theorem timed_netRestore (m : Fin 9) (s : State) : timed (netRestore m s) = timed s := by
  refine of_offMeter timed (fun _ => rfl) ?_
  unfold netRestore
  dsimp only
  repeat' split
  all_goals simp

@[simp] theorem timed_restoreSession (n : Fin 8) (s : State) : timed (restoreSession n s) = timed s := by
  refine of_offMeter timed (fun _ => rfl) ?_
  unfold restoreSession
  dsimp only
  split
  all_goals simp

/-- A restoration takes no time and changes no settings (R117, R143). -/
@[simp] theorem timed_restore (s : State) : timed (restore s) = timed s := by
  unfold restore
  extract_lets u r tariffs _ v w x
  have nets : timed u = timed s := by
    refine foldl_keeps timed _ (fun t m => ?_) _ s
    split
    all_goals simp
  have fired : timed v = timed s := by
    refine (timed_profileRun _ _).trans ((timed_upd_p100 tariffs _).trans ?_)
    exact (timed_tariffEval r.1).trans ((timed_gridFire true u).trans nets)
  have recorded : timed w = timed s := (timed_queueRec _ _).trans fired
  have sessions : timed x = timed w := foldl_keeps timed _ (fun t n => timed_restoreSession n t) (units 8) w
  have restored : timed x = timed s := sessions.trans recorded
  clear_value x
  exact (timed_persist _).trans restored

/-- A step sets the time, makes it valid and ends a slew; nothing it evaluates on the new time changes the clock (R115). -/
theorem timeStep_sets (new source origin : Nat) (s : State) : (timeStep new source origin s).clk.time = new ∧
    (timeStep new source origin s).clk.timeValid = true ∧ (timeStep new source origin s).clk.slew = 0 := by
  have clock : (timeStep new source origin s).clk = (onNewTime new s).clk := by
    refine clk_of_timed ?_
    obtain ⟨r, eq⟩ := timeStep_eq new source origin s
    rw [eq, timed_pulse, timed_queueRec]
    split
    all_goals simp
  rw [clock]
  exact ⟨rfl, rfl, rfl⟩

/-! ## PTP (R113 to R115, R382, R383) -/

theorem ptpMessage_taken (m : PtpMsg) (s : State) (ready : s.port.ready = true) (role : ptpRole (netB s) ≠ 0) :
    exec (.ptpMessage m) s = .next (ptpMessage m s) :=
  congrArg Host.Outcome.next (if_pos (by simp [ready, role]))

/-- Only a master-capable or a boundary clock is led to a master or passive state; any other keeps a slave's state or listens. -/
theorem ptpDecide_slaveOnly (gm d : Nat) (s : State) (capable : ptpRole (netB s) ≠ 2) (boundary : ptpRole (netB s) ≠ 3) :
    ptpDecide s gm d ≠ .master ∧ ptpDecide s gm d ≠ .passive := by
  unfold ptpDecide
  split
  · split
    next stays =>
      obtain ⟨slave | uncalibrated, -⟩ := stays
      · simp [slave]
      · simp [uncalibrated]
    · exact ⟨nofun, nofun⟩
  · simp [capable, boundary]
  · simp [capable, boundary]
  · exact ⟨nofun, nofun⟩

theorem ptpMessage_syncs (ofs : Int) (ptpUs : Nat) (s : State) (ready : s.port.ready = true) (role : ptpRole (netB s) ≠ 0)
    (follows : s.port.ptp ∈ [PtpSt.uncalibrated, .slave, .holdover]) :
    exec (.ptpMessage (.sync ofs ptpUs)) s =
      .next (ptpCorrect ptpUs (setPtp .slave { s with port.lastSync := s.clk.mono, port.ptpOffset := ofs })) := by
  rw [ptpMessage_taken _ s ready role]
  exact congrArg Host.Outcome.next (if_pos (by simpa using follows))

theorem farApart_iff (a b : Nat) : farApart a b = true ↔ 2000000 < ((a : Int) - b).natAbs := decide_eq_true_iff

/-- A correction slews or steps by the distance of the PTP time, and by PTP_STEP where it is far (R114, R115, R383). -/
theorem ptpCorrect_corrects (ptpUs : Nat) (s : State) :
    let target := ((ptpUs : Int) - s.port.utcOfs * 1000000 - 946684800000000).toNat
    (s.clk.timeValid = true → ((target : Int) - s.clk.time).natAbs ≤ 2000000 →
      ptpCorrect ptpUs s = { s with clk.slew := (target : Int) - s.clk.time, clk.slewAcc := 0 }) ∧
    (s.clk.timeValid = true → 2000000 < ((target : Int) - s.clk.time).natAbs →
      ptpCorrect ptpUs s = if ptpStep (bilB s) then timeStep target 0 2 s else s) ∧
    (s.clk.timeValid = false → ptpCorrect ptpUs s = timeStep target 2 2 s) := by
  intro target
  have eq : ptpCorrect ptpUs s = if !s.clk.timeValid then timeStep target 2 2 s
      else if farApart target s.clk.time then (if ptpStep (bilB s) then timeStep target 0 2 s else s) else slewTo target s := rfl
  rw [eq]
  refine ⟨fun valid near => ?_, fun valid far => ?_, fun invalid => ?_⟩
  · rw [if_neg (by simp [valid]), if_neg (by rw [farApart_iff]; exact near.not_gt)]
    rfl
  · rw [if_neg (by simp [valid]), if_pos ((farApart_iff _ _).2 far)]
  · rw [if_pos (by simp [invalid])]

theorem ptpMessage_delays (ofs : Int) (s : State) (ready : s.port.ready = true) (role : ptpRole (netB s) ≠ 0)
    (follows : s.port.ptp = .slave ∨ s.port.ptp = .uncalibrated) :
    exec (.ptpMessage (.delay ofs)) s = .next { s with port.ptpOffset := ofs } := by
  rw [ptpMessage_taken _ s ready role]
  exact congrArg Host.Outcome.next (if_pos follows)

theorem ptpAnnounceTimeout_holdsOver (s : State) (slave : s.port.ptp = .slave)
    (late : s.port.lastAnn + 3000000 ≤ s.clk.mono ∨ s.port.lastSync + 3000000 ≤ s.clk.mono) :
    exec .ptpAnnounceTimeout s = .next (pulse 9 (prm [(1, ptpCode .holdover), (8, s.port.gmId)]) { s with port.ptp := .holdover }) := by
  have changes : setPtp .holdover s = pulse 9 (prm [(1, ptpCode .holdover), (8, s.port.gmId)]) { s with port.ptp := .holdover } :=
    if_neg (by simp [slave])
  rw [← changes]
  exact congrArg Host.Outcome.next (if_pos (by simpa [slave, elapsed] using late))

theorem syncInterval_sends (announce : Bool) (s : State) (ready : s.port.ready = true)
    (sends : ptpRole (netB s) = 3 ∨ (ptpRole (netB s) = 2 ∧ s.port.ptp = .master)) :
    exec (.syncInterval announce) s = .next { s with port.out := { kind := 7, data := [if announce then 1 else 0] } :: s.port.out } := by
  refine congrArg Host.Outcome.next ((if_pos (by simpa [ready] using sends)).trans ?_)
  cases announce
  all_goals rfl

end Sys2Proof.Laws

namespace Sys2Proof.Proofs

open Sys2Proof Sys2Proof.Machine Sys2Proof.Laws

/-- Settles O16: each clause is the rule of its message or timeout; the clock after a step is what `timed` keeps of the step. -/
theorem ptpCompletes : Obligations.PtpCompletes := by
  unfold Obligations.PtpCompletes
  refine ⟨fun _ _ => rfl, fun gm utc d s ready role => ?_, fun gm d s => ptpDecide_slaveOnly gm d s, fun gm s follows same => ?_,
    ptpMessage_syncs, ptpCorrect_corrects, timeStep_sets, ptpMessage_delays, ptpAnnounceTimeout_holdsOver, syncInterval_sends⟩
  · exact ptpMessage_taken _ s ready role
  · exact if_pos ⟨follows, same⟩

end Sys2Proof.Proofs

namespace Sys2Proof.Laws

open Sys2Proof Sys2Proof.Machine

/-! ## Billing's own state at a boundary (R107, R112, R122, R125) -/

/-- Billing's own state but for the last closed demand values, with the labels last fired and the opening of the period. -/
def books (s : State) : Bill × Vector Nat 3 × Nat :=
  ({ s.bill with last := Vector.replicate 9 (Vector.replicate 4 {}), tLast := 0 }, s.p100.lastFired, s.p100.perOpen)

theorem bill_of_books {α : Type} (f : Bill → α) (hf : ∀ b v t, f { b with last := v, tLast := t } = f b) {s t : State}
    (h : books t = books s) : f t.bill = f s.bill := by
  rw [← hf t.bill, ← hf s.bill]
  exact congrArg (fun x => f x.1) h

theorem lastFired_of_books {s t : State} (h : books t = books s) : t.p100.lastFired = s.p100.lastFired := congrArg (fun x => x.2.1) h

theorem perOpen_of_books {s t : State} (h : books t = books s) : t.p100.perOpen = s.p100.perOpen := congrArg (fun x => x.2.2) h

@[simp] theorem books_upd_pfw (s : State) (x) : books { s with pfw := x } = books s := rfl
@[simp] theorem books_upd_en (s : State) (x) : books { s with en := x } = books s := rfl
@[simp] theorem books_modMeter (m : Fin 9) (f : Meter → Meter) (s : State) : books (modMeter m f s) = books s := rfl
@[simp] theorem books_modWin (m : Fin 9) (f : Win → Win) (s : State) : books (modWin m f s) = books s := rfl
@[simp] theorem books_modMeterP (m : Fin 9) (f : MeterP → MeterP) (s : State) : books (modMeterP m f s) = books s := rfl
@[simp] theorem books_modSessP (n : Fin 8) (f : SessP → SessP) (s : State) : books (modSessP n f s) = books s := rfl
@[simp] theorem books_pulse (ev : Nat) (p : List Byte) (s : State) : books (pulse ev p s) = books s := by simp [books]
@[simp] theorem books_level (ev key : Nat) (on : Bool) (p : List Byte) (s : State) : books (level ev key on p s) = books s := by
  simp [books]
@[simp] theorem books_queueRec (r : PendRec) (s : State) : books (queueRec r s) = books s := by simp [books]
@[simp] theorem books_persist (s : State) : books (persist s) = books s := by simp [books]

@[simp] theorem books_pulses (m q delta : Nat) (s : State) : books (pulses m q delta s) = books s := by
  unfold pulses
  refine foldl_keeps books _ (fun t i => ?_) _ s
  dsimp only
  repeat' split
  all_goals simp

@[simp] theorem books_chargeCredit (m : Fin 9) (delta : Nat) (sd : Side) (s : State) : books (chargeCredit m delta sd s) = books s := by
  unfold chargeCredit
  dsimp only
  repeat' split
  all_goals simp

@[simp] theorem books_deliverInc (m : Fin 9) (q : Fin 12) (delta : Nat) (sd : Side) (s : State) :
    books (deliverInc m q delta sd s) = books s := by
  unfold deliverInc
  dsimp only
  repeat' split
  all_goals simp

@[simp] theorem books_transfer (m : Fin 9) (cs : List (Fin 12 × Nat)) (sd : Side) (s : State) : books (transfer m cs sd s) = books s := by
  unfold transfer
  refine foldl_keeps books _ (fun t c => ?_) cs s
  unfold transferQ
  dsimp only
  repeat' split
  all_goals simp

@[simp] theorem books_markFlags (m : Fin 9) (flags : Nat) (sd : Side) (s : State) : books (markFlags m flags sd s) = books s := by
  unfold markFlags
  dsimp only
  repeat' split
  all_goals simp

@[simp] theorem books_netClose (m : Fin 9) (sd : Side) (s : State) : books (netClose m sd s) = books s := by
  unfold netClose
  dsimp only
  split
  all_goals simp

/-- A demand close writes the values closed last, which `books` leaves out. -/
@[simp] theorem books_demandClose (m : Fin 9) (flags t tariff len sub : Nat) (s : State) :
    books (demandClose m flags t tariff len sub s) = books s := by
  unfold demandClose
  extract_lets
  split
  · rfl
  · exact (books_pulse _ _ _).trans rfl

@[simp] theorem books_periodClose (m : Fin 9) (flags tOpen tClose : Nat) (s : State) :
    books (periodClose m flags tOpen tClose s) = books s := rfl

@[simp] theorem books_dailyTake (m : Fin 9) (s : State) : books (dailyTake m s) = books s := by
  unfold dailyTake
  dsimp only
  repeat' split
  · rfl
  · exact (books_queueRec _ _).trans rfl
  · rfl

@[simp] theorem books_fenceTake (m : Fin 9) (s : State) : books (fenceTake m s) = books s := by
  unfold fenceTake
  dsimp only
  repeat' split
  all_goals rfl

@[simp] theorem books_sessionValues (n : Fin 8) (s : State) : books (sessionValues n s) = books s := by
  unfold sessionValues queueSession
  dsimp only
  repeat' split
  all_goals simp

@[simp] theorem books_runAct (m : Fin 9) (a : BAct) (s : State) : books (runAct m a s) = books s := by
  unfold runAct
  repeat' split
  all_goals simp [demandStart, sessionStart]

@[simp] theorem books_boundary (m : Fin 9) (acts : List BAct) (s : State) : books (boundary m acts s) = books s := by
  have run (u : State) : books (acts.foldl (fun t a => runAct m a t) u) = books u := foldl_keeps books _ (fun t a => books_runAct m a t) acts u
  unfold boundary boundaryAt
  dsimp only
  split
  all_goals simp [run]

@[simp] theorem books_boundaryAll (acts : List BAct) (s : State) : books (boundaryAll acts s) = books s := by
  refine foldl_keeps books _ (fun t m => ?_) _ s
  split
  all_goals simp

@[simp] theorem books_ppGo (m : Fin 9) (st : PpState) (s : State) : books (ppGo m st s) = books s := by
  unfold ppGo
  dsimp only
  repeat' split
  all_goals simp

/-! ### Firing (R112) -/

@[simp] theorem setFired_lastFired (b : Fin 3) (lab : Nat) (s : State) :
    (setFired b lab s).p100.lastFired = vset s.p100.lastFired b lab := by
  simp [setFired]

@[simp] theorem setFired_bill (b : Fin 3) (lab : Nat) (s : State) : (setFired b lab s).bill = s.bill := by simp [setFired]

@[simp] theorem setFired_perOpen (b : Fin 3) (lab : Nat) (s : State) : (setFired b lab s).p100.perOpen = s.p100.perOpen := by
  simp [setFired]

@[simp] theorem boundaryAll_lastFired (acts : List BAct) (s : State) : (boundaryAll acts s).p100.lastFired = s.p100.lastFired :=
  lastFired_of_books (books_boundaryAll acts s)

@[simp] theorem fireDemand_lastFired (dur : Bool) (lab : Nat) (s : State) :
    (fireDemand dur lab s).p100.lastFired = s.p100.lastFired := by
  unfold fireDemand
  dsimp only
  split
  all_goals simp

@[simp] theorem firePeriod_lastFired (flags lab : Nat) (s : State) : (firePeriod flags lab s).p100.lastFired = s.p100.lastFired := by
  simp [firePeriod]

@[simp] theorem fireDaily_lastFired (dur : Bool) (lab : Nat) (s : State) :
    (fireDaily dur lab s).p100.lastFired = s.p100.lastFired := by
  simp [fireDaily]

/-- A boundary type whose label is later than the one fired last takes that label, and leaves those of the other types. -/
theorem fireType_takes (dur : Bool) (x : State × Nat) (b : Fin 3) (lab : Nat) (label : labelOf x.1 b = some lab)
    (later : vget x.1.p100.lastFired b < lab) : (fireType dur x b).1.p100.lastFired = vset x.1.p100.lastFired b lab := by
  unfold fireType
  dsimp only
  rw [label]
  dsimp only
  rw [if_neg (by omega)]
  repeat' split
  all_goals simp

/-- A boundary type leaves the labels of the other types. -/
theorem fireType_other (dur : Bool) (x : State × Nat) (b c : Fin 3) (other : c ≠ b) :
    vget (fireType dur x b).1.p100.lastFired c = vget x.1.p100.lastFired c := by
  cases label : labelOf x.1 b with
  | none => simp [fireType, label]
  | some lab =>
    by_cases past : lab ≤ vget x.1.p100.lastFired b
    · simp [fireType, label, past]
    · rw [fireType_takes dur x b lab label (by omega), vget_vset_other _ _ _ _ other]

theorem labelOf_of_timed {s t : State} (h : timed t = timed s) (b : Fin 3) : labelOf t b = labelOf s b :=
  of_timed (fun u => labelOf u b) (fun _ => rfl) h

theorem foldl_fireType_other (dur : Bool) (l : List (Fin 3)) (x : State × Nat) (b : Fin 3) (absent : b ∉ l) :
    vget (l.foldl (fireType dur) x).1.p100.lastFired b = vget x.1.p100.lastFired b := by
  induction l generalizing x with
  | nil => rfl
  | cons c l ih =>
    obtain ⟨other, absent⟩ := List.ne_and_not_mem_of_not_mem_cons absent
    rw [List.foldl_cons, ih _ absent, fireType_other dur x c b other]

/-- Each boundary type of a list without repeats fires once, on the label of the time that stands. -/
theorem foldl_fireType_takes (dur : Bool) (l : List (Fin 3)) (x : State × Nat) (b : Fin 3) (lab : Nat) (once : l.Nodup) (named : b ∈ l)
    (label : labelOf x.1 b = some lab) (later : vget x.1.p100.lastFired b < lab) :
    vget (l.foldl (fireType dur) x).1.p100.lastFired b = lab := by
  induction l generalizing x with
  | nil => simp at named
  | cons c l ih =>
    obtain ⟨absent, once⟩ := List.nodup_cons.1 once
    rw [List.foldl_cons]
    by_cases own : b = c
    · subst own
      rw [foldl_fireType_other dur l _ b absent, fireType_takes dur x b lab label later, vget_vset_same]
    · refine ih _ once ((List.mem_cons.1 named).resolve_left own) ?_ ?_
      · rw [labelOf_of_timed (timed_fireType dur x c) b, label]
      · rw [fireType_other dur x c b own]
        exact later

/-- While time is valid and block 0x0343 committed, a boundary type whose label is later than LAST_FIRED takes that label (R112). -/
theorem gridFire_takes (dur : Bool) (s : State) (b : Fin 3) (lab : Nat) (valid : s.clk.timeValid = true)
    (settings : (committed s 0x0343).isSome = true) (label : labelOf s b = some lab) (later : vget s.p100.lastFired b < lab) :
    vget (gridFire dur s).1.p100.lastFired b = lab := by
  have fired : (periodOpened s).p100.lastFired = s.p100.lastFired := by
    unfold periodOpened
    split
    all_goals rfl
  rw [gridFire_eq, if_neg (by simp [valid, Option.isSome_iff_ne_none.1 settings])]
  refine foldl_fireType_takes dur _ _ b lab (by decide) ((by decide : ∀ k : Fin 3, k ∈ [0, 1, 2]) b) ?_ ?_
  · exact (labelOf_of_timed (timed_periodOpened s) b).trans label
  · rw [fired]
    exact later

/-- The tariff of the device time is in force (R107). -/
theorem tariffEval_tariff (s : State) : (tariffEval s).bill.tariff = (tariffAt s s.clk.time).1 := by
  unfold tariffEval
  dsimp only
  split
  next same => exact same.symm
  · rw [persist_bill]
    exact (bill_of_books Bill.tariff (fun _ _ _ => rfl) (books_boundaryAll _ _)).trans (by simp [now])

@[simp] theorem tariffEval_lastFired (s : State) : (tariffEval s).p100.lastFired = s.p100.lastFired := by
  unfold tariffEval
  dsimp only
  split
  · rfl
  · simp

theorem gridBoundary_evaluates (s : State) (runs : gridRuns s = true) : ∃ t, exec .gridBoundary s = .next t ∧
    t = tariffEval (gridFire false s).1 ∧ t.bill.tariff = (tariffAt s s.clk.time).1 ∧ t.clk.time = s.clk.time ∧
    (∀ (b : Fin 3) (lab : Nat), s.clk.timeValid = true → (committed s 0x0343).isSome = true → labelOf s b = some lab →
      vget s.p100.lastFired b < lab → vget t.p100.lastFired b = lab) := by
  refine ⟨_, congrArg Host.Outcome.next (if_pos runs), rfl, ?_, ?_, fun b lab valid settings label later => ?_⟩
  · rw [tariffEval_tariff]
    exact congrArg Prod.fst (of_timed (fun u => tariffAt u u.clk.time) (fun _ => rfl) (timed_gridFire false s))
  · rw [clk_of_timed ((timed_tariffEval _).trans (timed_gridFire false s))]
  · rw [tariffEval_lastFired]
    exact gridFire_takes false s b lab valid settings label later

end Sys2Proof.Laws

namespace Sys2Proof.Laws

open Sys2Proof Sys2Proof.Machine

/-! ## Class P100 and the supply contactor (R119, R128) -/

theorem p100Persist_writes (s : State) (runs : gridRuns s = true) : ∃ t, exec (.p100Persist true) s = .next t ∧
    t = { s with nvBill.copyA := t.nvBill.copyA, nvBill.copyB := t.nvBill.copyB } ∧
    ((∃ c, t.nvBill.copyA = some (c, { s.p100 with time := s.clk.time }) ∧ t.nvBill.copyB = s.nvBill.copyB) ∨
     (∃ c, t.nvBill.copyB = some (c, { s.p100 with time := s.clk.time }) ∧ t.nvBill.copyA = s.nvBill.copyA)) := by
  refine ⟨persist s, congrArg Host.Outcome.next (if_neg (by simp [runs])), ?_⟩
  unfold persist
  dsimp only
  split
  · exact ⟨rfl, .inl ⟨_, rfl, rfl⟩⟩
  · exact ⟨rfl, .inr ⟨_, rfl, rfl⟩⟩

theorem p100Persist_fails (s : State) (runs : gridRuns s = true) :
    exec (.p100Persist false) s = .next (pulse 45 [] { s with nvBill.copyA := none }) ∨
    exec (.p100Persist false) s = .next (pulse 45 [] { s with nvBill.copyB := none }) := by
  show execP100Persist false s = _ ∨ execP100Persist false s = _
  unfold execP100Persist
  rw [if_neg (by simp [runs]), if_neg Bool.false_ne_true]
  dsimp only
  split
  · exact .inl rfl
  · exact .inr rfl

theorem ppAuxCheck_compares (c : Fin 24) (t0 : Nat) (s : State) (commanded : s.bill.supAt = some t0) (chan : supplyChan s = some c)
    (late : t0 + auxT (ppB s 0) * 1000 ≤ s.clk.mono) :
    (auxOf s c.1 = s.bill.supOn → exec .ppAuxCheck s = .next { s with bill.supAt := none }) ∧
    (auxOf s c.1 ≠ s.bill.supOn → exec .ppAuxCheck s = .next (ppGo 0 .ppFault { s with bill.supAt := none })) := by
  have eq : exec .ppAuxCheck s = .next (if auxOf s c.1 == s.bill.supOn then { s with bill.supAt := none }
      else ppGo 0 .ppFault { s with bill.supAt := none }) := by
    show execPpAuxCheck s = _
    unfold execPpAuxCheck
    rw [commanded, chan]
    exact congrArg Host.Outcome.next (if_pos (decide_eq_true late))
  rw [eq]
  exact ⟨fun same => by rw [if_pos (by simpa using same)], fun differs => by rw [if_neg (by simpa using differs)]⟩

theorem ppGo_ppState (m : Fin 9) (st : PpState) (s : State) : (vget (ppGo m st s).p100.m m).ppState = st := by
  unfold ppGo
  dsimp only
  split
  next same => exact same
  · split
    all_goals simp [modMeterP]

/-! ## BIL_COMMIT (R122) -/

theorem bilCommit_waits (p : Pkt) (s : State) (m : Nat) (cs : List BlkCopy) (ht : taken 0x0301 p s = true) (hl : p.payload.length = 4)
    (hm : u16 0 p.payload = m) (reserved : rsv 2 2 p.payload = true) (pos : 0 < m) (small : m < 2048) :
    let u := begun 0x0301 p s
    let f := flightOf 0x0301 p s
    (∀ k ∈ bilMeters m, hasGroup u k.1 = true) → Takes u (bilIds m) cs → bilCross u cs m = true → u.bill.commit = none →
    exec (.bilCommit p) s = .next (take f cs { u with bill.commit := some f }) := by
  intro u f present takes cross idle
  have named : (!(m == 0) && decide (m < 2 ^ 11) && rsv 2 2 p.payload && (bilMeters m).all (fun k => hasGroup u k.1)) = true := by
    simp only [reserved, List.all_eq_true.2 present]
    simp [small]
    omega
  refine congrArg Host.Outcome.next (command_wait _ _ p s _ ht ?_)
  rw [sized_eq _ _ _ _ hl]
  unfold bilCommitBody
  simp only [flightOf_pkt, hm]
  rw [need_pos named, takeStored_of_takes _ _ _ _ takes, need_pos cross, need_pos (by simp [u, idle])]

@[simp] theorem books_commitCopies (cs : List BlkCopy) (s : State) : books (commitCopies cs s) = books s := by
  rw [commitCopies_only]; rfl

theorem tariffEval_commit (s : State) : (tariffEval s).bill.commit = s.bill.commit := by
  unfold tariffEval
  dsimp only
  split
  · rfl
  · rw [persist_bill]
    exact (bill_of_books Bill.commit (fun _ _ _ => rfl) (books_boundaryAll _ _)).trans (by simp)

/-- Prepayment that a commit switched off goes to its state for that, meter by meter (R122). -/
def prepayOff (s : State) : State := (units 9).foldl (fun t m => if ppEn (ppB t m.1) then t else ppGo m .off t) s

@[simp] theorem books_prepayOff (s : State) : books (prepayOff s) = books s := by
  refine foldl_keeps books _ (fun t m => ?_) _ s
  split
  all_goals simp

@[simp] theorem timed_prepayOff (s : State) : timed (prepayOff s) = timed s := by
  refine foldl_keeps timed _ (fun t m => ?_) _ s
  split
  all_goals simp

/-- The copies take effect between two boundaries: the demand interval may close on the first, and the second renews the sides. -/
theorem bilApply_eq (cs : List BlkCopy) (s : State) : ∃ acts,
    bilApply cs s = prepayOff (boundaryAll [] (tariffEval (commitCopies cs (boundaryAll acts s)))) := ⟨_, rfl⟩

theorem bilApply_commit (cs : List BlkCopy) (s : State) : (bilApply cs s).bill.commit = s.bill.commit := by
  have kept {u v : State} (h : books v = books u) : v.bill.commit = u.bill.commit := bill_of_books Bill.commit (fun _ _ _ => rfl) h
  obtain ⟨acts, eq⟩ := bilApply_eq cs s
  rw [eq, kept ((books_prepayOff _).trans (books_boundaryAll [] _)), tariffEval_commit,
    kept ((books_commitCopies cs _).trans (books_boundaryAll acts s))]

/-- A commit of one copy leaves it the committed copy, in effect from the present time. -/
theorem bilApply_committed (c : BlkCopy) (s : State) :
    committedCopy (bilApply [c] s) c.id = some { c with tCommit := s.clk.time, bstate := 1 } := by
  obtain ⟨acts, eq⟩ := bilApply_eq [c] s
  have blocks : timed (bilApply [c] s) = timed (commitCopies [c] (boundaryAll acts s)) := by
    rw [eq, timed_prepayOff, timed_boundaryAll, timed_tariffEval]
  rw [of_timed (fun u => committedCopy u c.id) (fun _ => rfl) blocks]
  simp [committedCopy, commitCopies, putCopy, now, clk_of_timed (timed_boundaryAll acts s)]

theorem bilCommitApply_applies (f : Flight) (s : State) (waits : s.bill.commit = some f) : ∃ t, exec .bilCommitApply s = .next t ∧
    t = finish f (le 8 s.clk.time) (untake f (bilApply (takenBy s f) { s with bill.commit := none })) ∧ t.bill.commit = none ∧
    (∀ c, takenBy s f = [c] → committedCopy t c.id = some { c with tCommit := s.clk.time, bstate := 1 }) := by
  refine ⟨finish f (le 8 s.clk.time) (untake f (bilApply (takenBy s f) { s with bill.commit := none })), ?_, rfl, ?_, fun c one => ?_⟩
  · show execBilCommitApply s = _
    unfold execBilCommitApply
    rw [waits]
    rfl
  · rw [finish, complete_bill]
    exact bilApply_commit _ _
  · rw [one]
    exact (of_offPort (fun u => committedCopy u c.id) (fun _ => rfl) (offPort_finish _ _ _)).trans
      (bilApply_committed c { s with bill.commit := none })

/-! ## Reading (R102, R123, R124) -/

theorem groupOf_begun (op : Nat) (p : Pkt) (s : State) (m : Fin 9) (present : m.1 ≤ s.member.points) :
    groupOf (begun op p s) m.1 = some m := by simp [groupOf, present, ix]

/-- The second byte of a command's parameters. -/
theorem u8_second (a : Byte) (v : Nat) (h : v < 256) (b : List Byte) : u8 1 (a :: BitVec.ofNat 8 v :: b) = v := u8_unit v h b

theorem regBytes_length (v : Nat) : (regBytes v).length = 24 := by simp [regBytes, forms]

/-- The payload of BIL_REGS for the registers it reads. -/
def regsBytes (s : State) (m : Fin 9) (reg : Fin 12 → Nat) : List Byte :=
  le 8 (vget s.en.m m).vals.tRead ++ (units 12).flatMap fun q => regBytes (reg q)

theorem regsBytes_length (s : State) (m : Fin 9) (reg : Fin 12 → Nat) : (regsBytes s m reg).length = 296 := by
  simp [regsBytes, List.length_flatMap, regBytes_length, units]

/-- The register BIL_REGS reads of a meter: with tariff 0 the total, with 1 to 8 that of T1 to T8 (R123). -/
def regOf (x : MeterP) (t : Nat) (q : Fin 12) : Nat :=
  match ix 8 (t - 1) with
  | some k => if t = 0 then totalReg x q else tariffReg x k q
  | none => totalReg x q

theorem regOf_zero (x : MeterP) : regOf x 0 = totalReg x := rfl

theorem regOf_tariff (x : MeterP) (k : Fin 8) : regOf x (k.1 + 1) = tariffReg x k := by
  funext q
  simp [regOf, ix]

theorem bilRegs_answers (p : Pkt) (s : State) (m : Fin 9) (present : m.1 ≤ s.member.points) (t : Nat) (tariff : t ≤ 8)
    (ht : taken 0x0302 p s = true) (hp : p.payload = [BitVec.ofNat 8 m.1, BitVec.ofNat 8 t, 0, 0]) :
    OnlyReplied s (command 0x0302 (sized 4 bilRegsBody) p s) ∧
      Answered 0x0302 p 0 (regsBytes s m (regOf (vget s.p100.m m) t)) (command 0x0302 (sized 4 bilRegsBody) p s) := by
  have same : regsBytes (begun 0x0302 p s) m (regOf (vget (begun 0x0302 p s).p100.m m) t) = regsBytes s m (regOf (vget s.p100.m m) t) :=
    of_begun (fun u => regsBytes u m (regOf (vget u.p100.m m) t)) (fun _ => rfl) (fun _ => rfl) 0x0302 p s
  refine command_answers 0x0302 _ p s _ ht ?_
  rw [sized_eq _ _ _ _ (by rw [flightOf_pkt, hp]; rfl), ← same]
  unfold bilRegsBody
  simp only [flightOf_pkt, hp]
  rw [u8_unit m.1 (by omega), u8_second _ t (by omega), groupOf_begun _ p s m present]
  dsimp only
  rw [need_pos (by simp [tariff]; rfl)]
  rfl

/-- The payload of BIL_DEMAND (R124). -/
def demandBytes (s : State) (m : Fin 9) : List Byte :=
  le 8 s.bill.tLast ++ (vget s.bill.last m).toList.flatMap (fun d => le 4 d.mw ++ le 2 d.flags ++ zeros 2) ++
    (vget s.p100.m m).maxd.toList.flatMap fun l => l.toList.flatMap maxBytes

theorem demandBytes_length (s : State) (m : Fin 9) : (demandBytes s m).length = 424 := by
  simp [demandBytes, maxBytes, List.length_flatMap]

theorem bilDemand_answers (p : Pkt) (s : State) (m : Fin 9) (present : m.1 ≤ s.member.points) (ht : taken 0x0303 p s = true)
    (hp : p.payload = [BitVec.ofNat 8 m.1, 0, 0, 0]) :
    OnlyReplied s (command 0x0303 (sized 4 bilDemandBody) p s) ∧
      Answered 0x0303 p 0 (demandBytes s m) (command 0x0303 (sized 4 bilDemandBody) p s) := by
  have same : demandBytes (begun 0x0303 p s) m = demandBytes s m :=
    of_begun (fun u => demandBytes u m) (fun _ => rfl) (fun _ => rfl) 0x0303 p s
  refine command_answers 0x0303 _ p s _ ht ?_
  rw [sized_eq _ _ _ _ (by rw [flightOf_pkt, hp]; rfl), ← same]
  unfold bilDemandBody
  simp only [flightOf_pkt, hp]
  rw [u8_unit m.1 (by omega), groupOf_begun _ p s m present]
  exact need_pos (by rfl) _ _

/-- The payload of BIL_SNAPSHOT (R124). -/
def snapBytes (x : Snap) : List Byte :=
  le 8 x.tOpen ++ le 8 x.tClose ++ le 4 x.flags ++ zeros 4 ++ x.regs.flatMap (le 8) ++ x.maxd.flatMap maxBytes

theorem snapBytes_length (x : Snap) (regs : x.regs.length = 108) (maxd : x.maxd.length = 32) : (snapBytes x).length = 1272 := by
  simp [snapBytes, maxBytes, List.length_flatMap, regs, maxd]

theorem bilSnapshot_answers (p : Pkt) (s : State) (m : Fin 9) (present : m.1 ≤ s.member.points) (i : Nat) (x : Snap)
    (ht : taken 0x0304 p s = true) (hp : p.payload = [BitVec.ofNat 8 m.1, BitVec.ofNat 8 i, 0, 0]) (small : i < 24)
    (found : (vget s.nvBill.snaps m)[i]? = some x) :
    OnlyReplied s (command 0x0304 (sized 4 bilSnapshotBody) p s) ∧
      Answered 0x0304 p 0 (snapBytes x) (command 0x0304 (sized 4 bilSnapshotBody) p s) := by
  have same : (begun 0x0304 p s).nvBill = s.nvBill := of_begun State.nvBill (fun _ => rfl) (fun _ => rfl) 0x0304 p s
  refine command_answers 0x0304 _ p s _ ht ?_
  rw [sized_eq _ _ _ _ (by rw [flightOf_pkt, hp]; rfl)]
  unfold bilSnapshotBody
  simp only [flightOf_pkt, hp]
  rw [u8_unit m.1 (by omega), u8_second _ i (by omega), groupOf_begun _ p s m present]
  dsimp only
  rw [need_pos (by simp [Nat.le_of_lt_succ small]; rfl), same, found]
  rfl

/-- BIL_REGS, BIL_DEMAND and BIL_SNAPSHOT of a meter present (R123, R124). -/
theorem billingReads_answer (p : Pkt) (s : State) (m : Fin 9) (present : m.1 ≤ s.member.points) :
    (∀ tr : Nat, tr ≤ 8 → taken 0x0302 p s = true → p.payload = [BitVec.ofNat 8 m.1, BitVec.ofNat 8 tr, 0, 0] →
      ∃ t pl, exec (.bilRegs p) s = .next t ∧ OnlyReplied s t ∧ Answered 0x0302 p 0 pl t ∧ pl.length = 296 ∧
        (tr = 0 → pl = le 8 (vget s.en.m m).vals.tRead ++ (List.finRange 12).flatMap fun q => regBytes (totalReg (vget s.p100.m m) q)) ∧
        (∀ k : Fin 8, tr = k.1 + 1 → pl = le 8 (vget s.en.m m).vals.tRead ++
          (List.finRange 12).flatMap fun q => regBytes (tariffReg (vget s.p100.m m) k q))) ∧
    (taken 0x0303 p s = true → p.payload = [BitVec.ofNat 8 m.1, 0, 0, 0] →
      ∃ t pl, exec (.bilDemand p) s = .next t ∧ OnlyReplied s t ∧ Answered 0x0303 p 0 pl t ∧ pl.length = 424 ∧
        pl = le 8 s.bill.tLast ++ (vget s.bill.last m).toList.flatMap (fun d => le 4 d.mw ++ le 2 d.flags ++ zeros 2) ++
          (vget s.p100.m m).maxd.toList.flatMap fun l => l.toList.flatMap maxBytes) ∧
    (∀ (i : Nat) (x : Snap), taken 0x0304 p s = true → p.payload = [BitVec.ofNat 8 m.1, BitVec.ofNat 8 i, 0, 0] → i < 24 →
      (vget s.nvBill.snaps m)[i]? = some x →
      ∃ t pl, exec (.bilSnapshot p) s = .next t ∧ OnlyReplied s t ∧ Answered 0x0304 p 0 pl t ∧
        pl = le 8 x.tOpen ++ le 8 x.tClose ++ le 4 x.flags ++ zeros 4 ++ x.regs.flatMap (le 8) ++ x.maxd.flatMap maxBytes ∧
        (x.regs.length = 108 → x.maxd.length = 32 → pl.length = 1272)) := by
  refine ⟨fun tr tariff ht hp => ?_, fun ht hp => ?_, fun i x ht hp small found => ?_⟩
  · obtain ⟨only, answered⟩ := bilRegs_answers p s m present tr tariff ht hp
    refine ⟨_, _, rfl, only, answered, regsBytes_length _ _ _, ?_, ?_⟩
    · rintro rfl
      rw [regOf_zero]
      rfl
    · rintro k rfl
      rw [regOf_tariff]
      rfl
  · obtain ⟨only, answered⟩ := bilDemand_answers p s m present ht hp
    exact ⟨_, _, rfl, only, answered, demandBytes_length s m, rfl⟩
  · obtain ⟨only, answered⟩ := bilSnapshot_answers p s m present i x ht hp small found
    exact ⟨_, _, rfl, only, answered, rfl, snapBytes_length x⟩

/-! ## BIL_PERIOD_END (R125) -/

theorem bilPeriodEnd_waits (p : Pkt) (s : State) (ht : taken 0x0305 p s = true) (hp : p.payload = []) (valid : s.clk.timeValid = true)
    (idle : s.bill.perEnd = none) :
    exec (.bilPeriodEnd p) s = .next { begun 0x0305 p s with bill.perEnd := some (flightOf 0x0305 p s) } := by
  have free : (begun 0x0305 p s).bill.perEnd = none := (of_begun (fun u => u.bill.perEnd) (fun _ => rfl) (fun _ => rfl) 0x0305 p s).trans idle
  refine congrArg Host.Outcome.next (command_wait _ _ p s _ ht ?_)
  rw [sized_eq _ _ _ _ (by rw [flightOf_pkt, hp]; rfl), bilPeriodEndBody, need_pos (by rw [begun_clk, valid]),
    need_pos (by rw [free]; rfl)]

@[simp] theorem firePeriod_perEnd (flags lab : Nat) (s : State) : (firePeriod flags lab s).bill.perEnd = s.bill.perEnd := by
  have kept (acts : List BAct) (u : State) : (boundaryAll acts u).bill.perEnd = u.bill.perEnd :=
    bill_of_books Bill.perEnd (fun _ _ _ => rfl) (books_boundaryAll acts u)
  simp [firePeriod, kept]

/-- The next period opens at the device time. -/
@[simp] theorem firePeriod_perOpen (flags lab : Nat) (s : State) : (firePeriod flags lab s).p100.perOpen = s.clk.time := by
  have clock (acts : List BAct) (u : State) : (boundaryAll acts u).clk = u.clk := clk_of_timed (timed_boundaryAll acts u)
  simp [firePeriod, now, clock]

theorem bilPeriodEndClose_closes (f : Flight) (s : State) (waits : s.bill.perEnd = some f) :
    ∃ v, exec .bilPeriodEndClose s = .next (finish f (le 8 s.clk.time) v) ∧
      v.bill.perEnd = none ∧ vget v.p100.lastFired 1 = (wall (calB s) s.clk.time).toNat ∧ v.p100.perOpen = s.clk.time ∧
      v.clk.time = s.clk.time := by
  have clock (w : Nat) : (setFired 1 w (firePeriod 2 w { s with bill.perEnd := none })).clk = s.clk :=
    clk_of_timed ((timed_setFired 1 w _).trans ((timed_firePeriod 2 w _).trans (timed_upd_bill s _)))
  refine ⟨setFired 1 (wall (calB s) s.clk.time).toNat (firePeriod 2 (wall (calB s) s.clk.time).toNat { s with bill.perEnd := none }),
    ?_, by simp, by simp, by simp, by rw [clock]⟩
  show execBilPeriodEndClose s = _
  unfold execBilPeriodEndClose
  rw [waits]
  dsimp only [now]
  rw [clock]

/-! ## BIL_TIME_SET (R113 to R115, R125) -/

/-- The fields of BIL_TIME_SET: the time, MODE, and reserved bytes of zero. -/
theorem timeSet_fields (tm mode : Nat) (time : tm < 2 ^ 64) (small : mode < 256) :
    u64 0 (le 8 tm ++ le 1 mode ++ zeros 7) = tm ∧ u8 8 (le 8 tm ++ le 1 mode ++ zeros 7) = mode ∧
      rsv 9 7 (le 8 tm ++ le 1 mode ++ zeros 7) = true := by
  refine ⟨?_, ?_, ?_⟩
  · rw [u64, List.append_assoc, fld_le_append]
    omega
  · rw [u8, List.append_assoc, fld_append _ _ _ _ (by simp), le_length, Nat.sub_self, fld_le_append]
    omega
  · rw [rsv, slice, List.drop_left' (by simp)]
    decide

theorem ite_done (c : Prop) [Decidable c] (t u : State) (pl : List Byte) :
    (if c then CmdOut.done t pl else .done u pl) = .done (if c then t else u) pl := (apply_ite (CmdOut.done · pl) c t u).symm

/-- BIL_TIME_SET while PTP is not the source, once it is known that its mode and its authority allow it. -/
theorem bilTimeSet_does (p : Pkt) (s : State) (tm mode : Nat) (ht : taken 0x0306 p s = true)
    (hp : p.payload = le 8 tm ++ le 1 mode ++ zeros 7) (early : 7305 * 86400000000 ≤ tm) (time : tm < 2 ^ 64)
    (allowed : mode = 0 ∨ (mode = 1 ∧ holds (begun 0x0306 p s) p.src 0 = true)) (source : ptpSource s = false)
    (near : mode = 0 → s.clk.timeValid = true ∧ farApart tm s.clk.time = false) :
    exec (.bilTimeSet p) s = .next (finish (flightOf 0x0306 p s) (le 8 s.clk.time ++ le 8 tm)
      (if !s.clk.timeValid || farApart tm s.clk.time then timeStep tm 1 (Source.ident p.src) (begun 0x0306 p s)
        else slewTo tm (begun 0x0306 p s))) := by
  obtain ⟨hTime, hMode, reserved⟩ := timeSet_fields tm mode time (by omega)
  have received : s.clk.mono - (flightOf 0x0306 p s).t0 = 0 := by simp [flightOf, newFlight]
  have role : ptpSource (begun 0x0306 p s) = false :=
    (show ptpSource (begun 0x0306 p s) = ptpSource (wake 0 s) from rfl).trans
      ((of_drowsy ptpSource (fun _ => rfl) (drowsy_wake 0 s)).trans source)
  have checked : (decide (7305 * dayUs ≤ tm) && decide (mode ≤ 1) && true) = true := by
    simp [dayUs, early]
    omega
  have state : (!(mode == 0 && (!s.clk.timeValid || farApart tm s.clk.time)) && !ptpSource (begun 0x0306 p s)) = true := by
    by_cases absolute : mode = 0
    · simp [role, near absolute]
    · simp [role, absolute]
  refine congrArg Host.Outcome.next (command_done _ _ p s _ _ ht ?_)
  rw [sized_eq _ _ _ _ (by rw [flightOf_pkt, hp]; simp)]
  unfold bilTimeSetBody
  simp only [flightOf_pkt, hp, hTime, hMode, reserved, now, begun_clk, received, Nat.add_zero]
  rw [need_pos checked]
  rcases allowed with rfl | ⟨rfl, held⟩
  · rw [if_neg (by decide), need_pos state, ite_done]
  · rw [if_pos rfl, needAuth, flightOf_pkt, if_pos held, need_pos state, ite_done]

theorem bilTimeSet_changes (p : Pkt) (s : State) (tm mode : Nat) (ht : taken 0x0306 p s = true)
    (hp : p.payload = le 8 tm ++ le 1 mode ++ zeros 7) (early : 7305 * 86400000000 ≤ tm) (time : tm < 2 ^ 64)
    (allowed : mode = 0 ∨ (mode = 1 ∧ holds (begun 0x0306 p s) p.src 0 = true)) (source : ptpSource s = false) :
    let u := begun 0x0306 p s
    let f := flightOf 0x0306 p s
    (s.clk.timeValid = true → farApart tm s.clk.time = false → exec (.bilTimeSet p) s = .next (finish f (le 8 s.clk.time ++ le 8 tm)
      { u with clk.slew := (tm : Int) - s.clk.time, clk.slewAcc := 0 })) ∧
    (mode = 1 → s.clk.timeValid = false ∨ farApart tm s.clk.time = true → ∃ t, exec (.bilTimeSet p) s = .next t ∧
      t = finish f (le 8 s.clk.time ++ le 8 tm) (timeStep tm 1 (Source.ident p.src) u) ∧
      t.clk.time = tm ∧ t.clk.timeValid = true ∧ t.clk.slew = 0) := by
  have does := bilTimeSet_does p s tm mode ht hp early time allowed source
  refine ⟨fun valid close => ?_, fun absolute far => ?_⟩
  · rw [does fun _ => ⟨valid, close⟩, if_neg (by simp [valid, close]), slewTo, now, begun_clk]
  · rw [does fun relative => by omega, if_pos (by simpa using far)]
    refine ⟨_, rfl, rfl, ?_⟩
    rw [finish, complete_clk]
    exact timeStep_sets tm 1 (Source.ident p.src) (begun 0x0306 p s)

/-! ## BIL_CREDIT (R118 to R120, R125, R126) -/

/-- The fields of BIL_CREDIT: METER, the operation, reserved bytes of zero, the token and AMOUNT. -/
theorem credit_fields (m : Fin 9) (op tok a : Nat) (small : op ≤ 4) (token : tok < 2 ^ 32) (amount : a < 2 ^ 64) :
    let b := [BitVec.ofNat 8 m.1, BitVec.ofNat 8 op, 0, 0] ++ le 4 tok ++ le 8 a
    u8 0 b = m.1 ∧ u8 1 b = op ∧ rsv 2 2 b = true ∧ u32 4 b = tok ∧ u64 8 b = a := by
  refine ⟨u8_unit m.1 (by omega) _, u8_second _ op (by omega) _, rfl, ?_, ?_⟩
  · rw [u32, List.append_assoc, fld_append _ _ _ _ (by simp)]
    refine (fld_le_append 4 tok (le 8 a)).trans ?_
    omega
  · rw [u64, fld_append _ _ _ _ (by simp)]
    have last := fld_le_append 8 a []
    rw [List.append_nil] at last
    simp [last]
    omega

theorem bilCredit_does (p : Pkt) (s : State) (m : Fin 9) (op tok a : Nat) (ht : taken 0x0307 p s = true)
    (hp : p.payload = [BitVec.ofNat 8 m.1, BitVec.ofNat 8 op, 0, 0] ++ le 4 tok ++ le 8 a) (present : m.1 ≤ s.member.points)
    (small : op ≤ 4) (token : tok < 2 ^ 32) (amount : a < 2 ^ 64) (plain : 2 ≤ op → a = 0) (device : op = 3 → m = 0)
    (limit : op = 0 → (vget s.p100.m m).credit + a ≤ 2 ^ 62) :
    let u := begun 0x0307 p s
    holds u p.src 1 = true → tok ∉ (vget s.p100.m m).tokens → ppEn (ppB s m.1) = true →
    creditAllowed (ppB s m.1) (vget s.p100.m m) op = true →
    let v := persist (creditOp m op a (modMeterP m (fun x => { x with tokens := (tok :: x.tokens).take 16 }) u))
    exec (.bilCredit p) s = .next (finish (flightOf 0x0307 p s)
      (leInt 8 (vget v.p100.m m).credit ++ le 1 (ppCode (vget v.p100.m m).ppState) ++ zeros 7) v) := by
  intro u held new enabled allowed v
  obtain ⟨hMeter, hOp, reserved, hTok, hAmount⟩ := credit_fields m op tok a small token amount
  have meters : u.p100.m = s.p100.m := of_begun (fun t => t.p100.m) (fun _ => rfl) (fun _ => rfl) 0x0307 p s
  have settings : ppB u m.1 = ppB s m.1 := of_begun (fun t => ppB t m.1) (fun _ => rfl) (fun _ => rfl) 0x0307 p s
  have checked : (decide (op ≤ 4) && true && (decide (op ≤ 1) || a == 0) && !(op == 3 && !(m.1 == 0)) &&
      !(op == 0 && decide ((2 ^ 62 : Int) < (vget s.p100.m m).credit + a))) = true := by
    have noAmount : op ≤ 1 ∨ a = 0 := by omega
    simpa [small, noAmount] using ⟨Decidable.not_or_of_imp device, Decidable.not_or_of_imp limit⟩
  have state : (!(vget s.p100.m m).tokens.contains tok && ppEn (ppB s m.1) && creditAllowed (ppB s m.1) (vget s.p100.m m) op) = true := by
    simp [new, enabled, allowed]
  refine congrArg Host.Outcome.next (command_done _ _ p s _ _ ht ?_)
  rw [sized_eq _ _ _ _ (by rw [flightOf_pkt, hp]; simp)]
  unfold bilCreditBody
  simp only [flightOf_pkt, hp, hMeter, hOp, reserved, hTok, hAmount, groupOf_begun 0x0307 p s m present]
  rw [meters, settings, need_pos checked, needAuth, flightOf_pkt, if_pos held, need_pos state]

theorem creditOp_does (m : Fin 9) (a : Nat) (s : State) :
    creditOp m 0 a s = prepay m (modMeterP m (fun x => { x with credit := x.credit + a }) s) ∧
    (-(2 ^ 63 : Int) ≤ (vget s.p100.m m).credit - a →
      creditOp m 1 a s = prepay m (modMeterP m (fun x => { x with credit := x.credit - a }) s)) ∧
    creditOp m 2 a s = prepay m (modMeterP m (fun x => { x with emergOn := true }) s) ∧ creditOp m 3 a s = commandSupply true s := by
  refine ⟨rfl, fun inRange => ?_, rfl, rfl⟩
  have subtracted : creditSub (vget s.p100.m m).credit a s = (s, (vget s.p100.m m).credit - a) := if_neg (by omega)
  show prepay m (modMeterP m (fun x => { x with credit := (creditSub (vget s.p100.m m).credit a s).2 })
    (creditSub (vget s.p100.m m).credit a s).1) = _
  rw [subtracted]
  rfl

end Sys2Proof.Laws

namespace Sys2Proof.Proofs

open Sys2Proof Sys2Proof.Machine Sys2Proof.Laws

/-- Settles O21: each clause is the rule of its row or command; what boundaries leave of the labels, the tariff and the waiting
commands is what `books` and `timed` keep. -/
theorem billingCompletes : Obligations.BillingCompletes := by
  unfold Obligations.BillingCompletes
  exact ⟨gridBoundary_evaluates, p100Persist_writes, p100Persist_fails, ppAuxCheck_compares, ppGo_ppState, bilCommit_waits,
    bilCommitApply_applies, billingReads_answer, fun _ => rfl, bilPeriodEnd_waits, bilPeriodEndClose_closes, bilTimeSet_changes,
    bilCredit_does, creditOp_does⟩

end Sys2Proof.Proofs

namespace Sys2Proof.Laws

open Sys2Proof Sys2Proof.Machine

/-! ## Bytes of a record (R133) -/

/-- Bytes behind a part that ends before them. -/
theorem slice_append (off n : Nat) (a b : List Byte) (h : a.length ≤ off) : slice off n (a ++ b) = slice (off - a.length) n b := by
  simp [slice, List.drop_append, List.drop_eq_nil_of_le h]

/-- The bytes at the front. -/
theorem slice_front (n : Nat) (a b : List Byte) (h : a.length = n) : slice 0 n (a ++ b) = a := by
  simp [slice, ← h]

/-- Reserved bytes written as zeros, behind what precedes them and before what follows. -/
theorem rsv_at (off n : Nat) (a b : List Byte) (h : a.length = off) : rsv off n (a ++ zeros n ++ b) = true := by
  rw [rsv, List.append_assoc, slice_append _ _ _ _ h.le, h, Nat.sub_self, slice_front _ _ _ (zeros_length n)]
  simp [allZero, zeros]

/-- The fields of a session-chain record, whatever follows its head. -/
theorem recHead_fields (type seq time : Nat) (prev body rest : List Byte) :
    let b := recHead type seq time prev body ++ rest
    slice 0 1 b = le 1 type ∧ slice 4 4 b = le 4 seq ∧ slice 8 8 b = le 8 time ∧ slice 16 48 b = fit 48 prev ∧
      slice 64 224 b = fit 224 body := by
  simp [recHead, slice_append, slice_front]

/-- The fields of a daily record, whatever follows its head (R139). -/
theorem dailyHead_fields (d : PendRec) (s : State) (rest : List Byte) :
    let b := dailyHead d s ++ rest
    slice 0 1 b = le 1 2 ∧ slice 4 4 b = le 4 s.led.dailyNext ∧ slice 8 8 b = le 8 d.time := by
  simp [dailyHead, slice_append, slice_front]

/-! ## What deliveries leave of class P100 -/

@[simp] theorem logEntry_p100 (ev flags : Nat) (p : List Byte) (s : State) : (logEntry ev flags p s).p100 = s.p100 := by
  unfold logEntry
  split
  · rfl
  · refine foldl_keeps State.p100 _ (fun t k => ?_) _ _
    split
    all_goals rfl

@[simp] theorem deliver_p100 (ev : Nat) (lvl : Bool) (p : List Byte) (s : State) : (deliver ev lvl p s).p100 = s.p100 := by
  unfold deliver
  dsimp only
  split
  · simp
  · rfl

@[simp] theorem ledgerLimits_p100 (s : State) : (ledgerLimits s).p100 = s.p100 := by
  unfold ledgerLimits
  dsimp only
  repeat' split
  all_goals simp

/-! ## The chain-start record (R132, R140) -/

theorem queueStart_begun (s : State) (started : s.led.nxt ≠ 0) : queueStart s = s := by simp [queueStart, started]

theorem queueStart_empty (s : State) (empty : s.led.nxt = 0) (idle : s.p100.queue = []) :
    (queueStart s).p100.queue = [{ type := 8, time := now s, body := startBody s }] := by
  simp [queueStart, queueRec, empty, idle, isEventRec, queueCap]

/-! ## The slot and its pointer (R133, R139, R140) -/

/-- A record up to its signature, as it is written now. -/
def unsignedRec (r : PendRec) (s : State) : List Byte :=
  if r.type = 2 then dailyHead r s
  else recHead r.type s.led.nxt r.time (prevHash s.led.nxt s.led.chain) (if r.type = 8 then startBody s else r.body)

/-- A record with its signature. -/
def signedRec (r : PendRec) (s : State) : List Byte := unsignedRec r s ++ (signWith 0 (unsignedRec r s) s).2

theorem slotWrite_led (r : PendRec) (s : State) :
    (slotWrite r s).led = { s.led with slot := some (r.type == 2, signedRec r s) } := rfl

@[simp] theorem slotWrite_p100 (r : PendRec) (s : State) : (slotWrite r s).p100 = s.p100 := rfl

/-- The record in the slot becomes the newest of its chain, whether or not an unacknowledged one is overwritten. -/
theorem chainAdvance_advances (b : List Byte) (s : State) :
    (chainAdvance b s).led.nxt = s.led.nxt + 1 ∧ (chainAdvance b s).led.chain = ((s.led.nxt, b) :: s.led.chain).take chainCap ∧
      (chainAdvance b s).p100 = s.p100 := by
  unfold chainAdvance
  dsimp only
  split
  all_goals simp

theorem slotAdvance_session (r : PendRec) (s : State) (session : r.type ≠ 2) :
    slotAdvance (slotWrite r s) = chainAdvance (signedRec r s) (slotWrite r s) := by
  rw [slotAdvance, slotWrite_led, beq_false_of_ne session]

theorem slotAdvance_daily (r : PendRec) (s : State) (daily : r.type = 2) :
    slotAdvance (slotWrite r s) = dailyAdvance (signedRec r s) (slotWrite r s) := by
  rw [slotAdvance, slotWrite_led, daily]
  rfl

theorem recWrite_led (r : PendRec) (s : State) : (recWrite r s).led = (slotAdvance (slotWrite r s)).led := rfl

theorem recWrite_queue (r : PendRec) (s : State) :
    (recWrite r s).p100.queue = (slotAdvance (slotWrite r s)).p100.queue.erase r := rfl

theorem recWrite_session (r : PendRec) (s : State) (session : r.type ≠ 2) : ∃ b,
    (slotWrite r s).led.slot = some (false, b) ∧ (slotWrite r s).p100 = s.p100 ∧
    (recWrite r s).led.nxt = s.led.nxt + 1 ∧ (recWrite r s).led.chain = ((s.led.nxt, b) :: s.led.chain).take chainCap ∧
    (recWrite r s).p100.queue = s.p100.queue.erase r ∧
    slice 0 1 b = le 1 r.type ∧ slice 4 4 b = le 4 s.led.nxt ∧ slice 8 8 b = le 8 r.time ∧
    slice 16 48 b = fit 48 (prevHash s.led.nxt s.led.chain) ∧ slice 64 224 b = fit 224 (if r.type = 8 then startBody s else r.body) := by
  obtain ⟨nxt, chain, p100⟩ := chainAdvance_advances (signedRec r s) (slotWrite r s)
  refine ⟨signedRec r s, ?_, rfl, ?_, ?_, ?_, ?_⟩
  · simp [slotWrite_led, session]
  · rw [recWrite_led, slotAdvance_session r s session, nxt, slotWrite_led]
  · rw [recWrite_led, slotAdvance_session r s session, chain, slotWrite_led]
  · rw [recWrite_queue, slotAdvance_session r s session, p100, slotWrite_p100]
  · rw [signedRec, unsignedRec, if_neg session]
    exact recHead_fields _ _ _ _ _ _

theorem recWrite_daily (r : PendRec) (s : State) (daily : r.type = 2) : ∃ b,
    (slotWrite r s).led.slot = some (true, b) ∧ (slotWrite r s).p100 = s.p100 ∧
    (recWrite r s).led.dailyNext = s.led.dailyNext + 1 ∧ (recWrite r s).led.daily = ((s.led.dailyNext, b) :: s.led.daily).take 9362 ∧
    (recWrite r s).p100.queue = s.p100.queue.erase r ∧
    slice 0 1 b = le 1 2 ∧ slice 4 4 b = le 4 s.led.dailyNext ∧ slice 8 8 b = le 8 r.time := by
  refine ⟨signedRec r s, ?_, rfl, ?_, ?_, ?_, ?_⟩
  · simp [slotWrite_led, daily]
  · rw [recWrite_led, slotAdvance_daily r s daily]
    rfl
  · rw [recWrite_led, slotAdvance_daily r s daily]
    rfl
  · rw [recWrite_queue, slotAdvance_daily r s daily]
    rfl
  · rw [signedRec, unsignedRec, if_pos daily]
    exact dailyHead_fields r s _

/-! ## LEDGER_RECORD_WRITE (R140 to R145, R148) -/

theorem ledgerRecordWrite_writes (done : Bool) (s : State) (can : canWrite s = true) :
    exec (.ledgerRecordWrite done) s = .next (ledgerWrite done (queueStart s)) := congrArg Host.Outcome.next (if_pos can)

theorem ledgerWrite_idle (done : Bool) (s : State) (idle : nextRec s.p100.queue = none) : ledgerWrite done s = s := by
  simp [ledgerWrite, idle]

theorem ledgerWrite_room (done : Bool) (r : PendRec) (s : State) (next : nextRec s.p100.queue = some r)
    (room : s.p100.overwrite = true ∨ slotsOf s.p100.queue r ≤ freeSlots s) :
    ledgerWrite done s = if done then wrote (exportFor s.p100.queue r) r (recWrite r s) else slotWrite r s := by
  have writes : ¬ (!s.p100.overwrite && decide (freeSlots s < slotsOf s.p100.queue r)) = true := by
    obtain overwrites | free := room
    · simp [overwrites]
    · simp [free]
  unfold ledgerWrite
  rw [next]
  exact if_neg writes

theorem ledgerWrite_full (done : Bool) (r : PendRec) (s : State) (next : nextRec s.p100.queue = some r)
    (keeps : s.p100.overwrite = false) (full : freeSlots s < slotsOf s.p100.queue r) :
    ledgerWrite done s = if isEventRec r.type then persist (ledgerLimits (dropRec { s with p100.queue := s.p100.queue.erase r })) else s := by
  unfold ledgerWrite
  rw [next]
  exact if_pos (by simp [keeps, full])

theorem ledgerRecordWrite_does (done : Bool) (s : State) (can : canWrite s = true) :
    let u := queueStart s
    (s.led.nxt ≠ 0 → u = s) ∧ (s.led.nxt = 0 → s.p100.queue = [] → ∃ r, u.p100.queue = [r] ∧ r.type = 8 ∧ r.body = startBody s) ∧
    (nextRec u.p100.queue = none → exec (.ledgerRecordWrite done) s = .next u) ∧
    ∀ r, nextRec u.p100.queue = some r →
      (u.p100.overwrite = true ∨ slotsOf u.p100.queue r ≤ freeSlots u →
        exec (.ledgerRecordWrite true) s = .next (wrote (exportFor u.p100.queue r) r (recWrite r u)) ∧
        exec (.ledgerRecordWrite false) s = .next (slotWrite r u)) ∧
      (u.p100.overwrite = false → freeSlots u < slotsOf u.p100.queue r →
        (isEventRec r.type = true → exec (.ledgerRecordWrite done) s =
          .next (persist (ledgerLimits (dropRec { u with p100.queue := u.p100.queue.erase r })))) ∧
        (isEventRec r.type = false → exec (.ledgerRecordWrite done) s = .next u)) := by
  intro u
  have writes (d : Bool) : exec (.ledgerRecordWrite d) s = .next (ledgerWrite d u) := ledgerRecordWrite_writes d s can
  refine ⟨queueStart_begun s, fun empty idle => ⟨_, queueStart_empty s empty idle, rfl, rfl⟩, fun idle => ?_, fun r next => ⟨?_, ?_⟩⟩
  · rw [writes, ledgerWrite_idle done u idle]
  · intro room
    rw [writes, writes, ledgerWrite_room true r u next room, ledgerWrite_room false r u next room]
    exact ⟨rfl, rfl⟩
  · intro keeps full
    rw [writes, ledgerWrite_full done r u next keeps full]
    exact ⟨fun event => by rw [if_pos event], fun other => by rw [if_neg (by simp [other])]⟩

/-- A session record closes the session whose record it is (R16, R19). -/
theorem afterWrite_session (n : Fin 8) (r : PendRec) (s : State) (session : r.type = 1) (point : r.point = n.1) :
    let u := pulse 43 (prm [(4, u32 0 r.body)]) s
    ((sep u n).queued = true → (sep u n).no = u32 0 r.body → afterWrite r s = sessionClosed n u) ∧
    ((sep u n).queued = false ∨ (sep u n).no ≠ u32 0 r.body → afterWrite r s = u) := by
  intro u
  have unit : ix 8 r.point = some n := by simp [ix, point]
  have after : afterWrite r s = if (sep u n).queued && (sep u n).no == u32 0 r.body then sessionClosed n u else u := by
    rw [afterWrite, if_pos session, unit]
  rw [after]
  refine ⟨fun queued same => if_pos (by simp [queued, same]), fun other => if_neg ?_⟩
  rw [Bool.and_eq_true, beq_iff_eq, not_and_or, Bool.not_eq_true]
  exact other

/-! ## LED_READ, LED_STATUS and LED_LOG_READ (R145, R147) -/

/-- The fields of LED_READ: the chain, a reserved byte, COUNT, four reserved bytes and FROM. -/
theorem ledRead_fields (c n frm : Nat) (chain : c ≤ 2) (count : n < 2 ^ 16) (first : frm < 2 ^ 64) :
    let b := le 1 c ++ [0] ++ le 2 n ++ zeros 4 ++ le 8 frm
    u8 0 b = c ∧ rsv 1 1 b = true ∧ u16 2 b = n ∧ rsv 4 4 b = true ∧ u64 8 b = frm := by
  intro b
  refine ⟨?_, ?_, ?_, ?_, ?_⟩
  · simp only [b, u8, List.append_assoc, fld_le_append]
    omega
  · simp only [b, List.append_assoc _ (le 2 n), List.append_assoc _ (zeros 4)]
    exact rsv_at 1 1 (le 1 c) _ (le_length 1 c)
  · simp only [b, List.append_assoc _ (zeros 4)]
    exact fld_le_at 2 2 n _ _ rfl count
  · exact rsv_at 4 4 _ _ (by simp)
  · have last := fld_le_at 8 8 frm (le 1 c ++ [0] ++ le 2 n ++ zeros 4) [] (by simp) first
    rwa [List.append_nil] at last

theorem ledRead_answers (p : Pkt) (s : State) (c n frm : Nat) (ht : taken 0x0310 p s = true)
    (hp : p.payload = le 1 c ++ [0] ++ le 2 n ++ zeros 4 ++ le 8 frm) (chain : c ≤ 2) (least : 1 ≤ n)
    (most : n ≤ (if c = 0 then 42 else if c = 1 then 24 else 85)) (first : frm < 2 ^ 64) :
    let u := begun 0x0310 p s
    let l := if c = 0 then u.led.chain else if c = 1 then u.led.daily else u.led.profile
    let rs := ((l.takeWhile fun r => decide (frm ≤ r.1)).reverse).take n
    (∃ r ∈ l, r.1 = frm) → exec (.ledRead p) s = .next (finish (flightOf 0x0310 p s)
      (le 2 rs.length ++ zeros 2 ++ le 4 (if c = 2 then 0 else frm) ++ rs.flatMap (·.2)) u) := by
  intro u l rs held
  have count : n < 2 ^ 16 := most.trans_lt (by split_ifs <;> decide)
  obtain ⟨hChain, reserved, hCount, reserved', hFrom⟩ := ledRead_fields c n frm chain count first
  have found : (l.any fun r => r.1 == frm) = true := by
    obtain ⟨r, mem, starts⟩ := held
    exact List.any_eq_true.2 ⟨r, mem, by simp [starts]⟩
  refine congrArg Host.Outcome.next (command_done _ _ p s _ _ ht ?_)
  rw [sized_eq _ _ _ _ (by rw [flightOf_pkt, hp]; simp)]
  unfold ledReadBody
  simp only [flightOf_pkt, hp, hChain, reserved, hCount, reserved', hFrom]
  have checked (limit : Nat) (most : n ≤ limit) : (decide (c ≤ 2) && within n 1 limit && true && true) = true := by
    simp [chain, within_of_le least most]
  obtain rfl | rfl | rfl : c = 0 ∨ c = 1 ∨ c = 2 := by omega
  all_goals
    refine (need_pos (checked _ ?_) _ _).trans (need_pos found _ _)
    exact most

theorem ledStatus_answers (p : Pkt) (s : State) (ht : taken 0x0312 p s = true) (hp : p.payload = []) :
    let u := begun 0x0312 p s
    exec (.ledStatus p) s = .next (finish (flightOf 0x0312 p s) (le 4 u.led.nxt ++ le 4 u.led.acked ++ le 4 (freeSlots u) ++
      le 4 u.led.dropped ++ le 4 u.led.overwritten ++ le 4 u.led.dailyNext ++ le 8 ((u.led.profile.head?.map (·.1)).getD 0) ++
      le 4 u.led.logNext ++ le 1 (b2n u.p100.overwrite) ++ zeros 3) u) :=
  congrArg Host.Outcome.next (command_done _ _ p s _ _ ht (sized_eq _ _ _ _ (by rw [flightOf_pkt, hp]; rfl)))

/-- The fields of LED_LOG_READ: FROM, COUNT and reserved bytes. -/
theorem ledLogRead_fields (frm n : Nat) (first : frm < 2 ^ 32) (count : n < 2 ^ 16) :
    let b := le 4 frm ++ le 2 n ++ [0, 0]
    u32 0 b = frm ∧ u16 4 b = n ∧ rsv 6 2 b = true := by
  intro b
  refine ⟨?_, fld_le_at 2 4 n _ _ (by simp) count, ?_⟩
  · simp only [b, u32, List.append_assoc, fld_le_append]
    omega
  · rw [← List.append_nil b]
    exact rsv_at 6 2 _ _ (by simp)

theorem ledLogRead_answers (p : Pkt) (s : State) (frm n : Nat) (x : LogEnt) (ht : taken 0x0313 p s = true)
    (hp : p.payload = le 4 frm ++ le 2 n ++ [0, 0]) (least : 1 ≤ n) (most : n ≤ 511) (first : frm < 2 ^ 32) :
    let u := begun 0x0313 p s
    let es := (u.led.log.reverse.dropWhile fun e => !(e.no == frm)).take n
    x ∈ u.led.log → x.no = frm → exec (.ledLogRead p) s = .next (finish (flightOf 0x0313 p s)
      (le 2 es.length ++ zeros 6 ++ es.flatMap LogEnt.bytes) u) := by
  intro u es held no
  obtain ⟨hFrom, hCount, reserved⟩ := ledLogRead_fields frm n first (by omega)
  have found : (!es.isEmpty) = true := by
    have stands : ∃ e ∈ u.led.log, e.no = frm := ⟨x, held, no⟩
    simpa [es, List.take_eq_nil_iff, List.dropWhile_eq_nil_iff, Nat.ne_of_gt least] using stands
  refine congrArg Host.Outcome.next (command_done _ _ p s _ _ ht ?_)
  rw [sized_eq _ _ _ _ (by rw [flightOf_pkt, hp]; simp)]
  unfold ledLogReadBody
  simp only [flightOf_pkt, hp, hFrom, hCount, reserved]
  exact (need_pos (by simp [within_of_le least most]) _ _).trans (need_pos found _ _)

/-! ## LED_ACK (R144, R145) -/

@[simp] theorem offPoint_ledgerLimits (s : State) : offPoint (ledgerLimits s) = offPoint s :=
  of_quiet offPoint (fun _ => rfl) (quiet_ledgerLimits s)

@[simp] theorem offPoint_retryOpen (s : State) : offPoint (retryOpen s) = offPoint s := by
  refine foldl_keeps offPoint _ (fun t n => ?_) _ s
  split
  all_goals simp

/-- Sessions that open after an acknowledgement leave the chain and its pointers. -/
theorem retryOpen_ledgerLimits_led {α : Type} (f : Ledger → α) (hf : ∀ u, f (offPoint u).led = f u.led) (s : State) :
    f (retryOpen (ledgerLimits s)).led = f s.led :=
  of_offPoint (fun u => f u.led) hf (by simp)

/-- The fields of LED_ACK: UPTO and reserved bytes. -/
theorem ledAck_fields (upto : Nat) (small : upto < 2 ^ 32) :
    u32 0 (le 4 upto ++ zeros 4) = upto ∧ rsv 4 4 (le 4 upto ++ zeros 4) = true := by
  refine ⟨?_, ?_⟩
  · rw [u32, fld_le_append]
    omega
  · rw [← List.append_nil (_ ++ _)]
    exact rsv_at 4 4 _ _ (le_length 4 upto)

theorem ledAck_acknowledges (p : Pkt) (s : State) (upto : Nat) (ht : taken 0x0311 p s = true) (hp : p.payload = le 4 upto ++ zeros 4)
    (written : upto ≤ s.led.nxt) (small : upto < 2 ^ 32) :
    let u := begun 0x0311 p s
    let v := retryOpen (ledgerLimits { u with led.acked := max u.led.acked upto })
    v.led.acked = max s.led.acked upto ∧ v.led.chain = s.led.chain ∧ v.led.nxt = s.led.nxt ∧
    exec (.ledAck p) s = .next (finish (flightOf 0x0311 p s) (le 4 v.led.acked ++ le 4 (freeSlots v)) v) := by
  intro u v
  have acked : u.led.acked = s.led.acked := of_begun (fun t => t.led.acked) (fun _ => rfl) (fun _ => rfl) 0x0311 p s
  have chain : u.led.chain = s.led.chain := of_begun (fun t => t.led.chain) (fun _ => rfl) (fun _ => rfl) 0x0311 p s
  have nxt : u.led.nxt = s.led.nxt := of_begun (fun t => t.led.nxt) (fun _ => rfl) (fun _ => rfl) 0x0311 p s
  obtain ⟨hUpto, reserved⟩ := ledAck_fields upto small
  refine ⟨?_, ?_, ?_, congrArg Host.Outcome.next (command_done _ _ p s _ _ ht ?_)⟩
  · exact (retryOpen_ledgerLimits_led Ledger.acked (fun _ => rfl) _).trans (by rw [acked])
  · exact (retryOpen_ledgerLimits_led Ledger.chain (fun _ => rfl) _).trans chain
  · exact (retryOpen_ledgerLimits_led Ledger.nxt (fun _ => rfl) _).trans nxt
  · rw [sized_eq _ _ _ _ (by rw [flightOf_pkt, hp]; simp)]
    unfold ledAckBody
    simp only [flightOf_pkt, hp, hUpto, reserved]
    have known : upto ≤ (begun 0x0311 p s).led.nxt := written.trans nxt.ge
    exact need_pos (by simp [known]) _ _

/-! ## LED_POLICY (R146, R414, R422) -/

theorem startCmd_denied (f : Flight) (body : Flight → State → CmdOut) (s : State) (b : Nat)
    (h : body f { s with port.flights := s.port.flights ++ [f] } = .denied b) : startCmd f body s =
      complete f 0x0301 [] (deniedEvent f (2 ^ b) { s with port.flights := s.port.flights ++ [f] }) := by
  unfold startCmd
  simp only [h]
  rfl

/-- A command taken whose source lacks the authority answers ST_DENIED, with E122. -/
theorem command_denied (op : Nat) (body : Flight → State → CmdOut) (p : Pkt) (s : State) (b : Nat) (h : taken op p s = true)
    (hb : body (flightOf op p s) (begun op p s) = .denied b) : command op body p s =
      complete (flightOf op p s) 0x0301 [] (deniedEvent (flightOf op p s) (2 ^ b) (begun op p s)) :=
  (command_of_taken op body p s h).trans (startCmd_denied _ _ _ _ hb)

theorem ledPolicy_sets (p : Pkt) (s : State) (v : Bool) (ht : taken 0x0314 p s = true) (hp : p.payload = [if v then 1 else 0, 0, 0, 0]) :
    let u := begun 0x0314 p s
    let f := flightOf 0x0314 p s
    (holds u p.src 2 = true → exec (.ledPolicy p) s = .next (finish f [] (retryOpen (persist (ledgerLimits { u with p100.overwrite := v }))))) ∧
    (holds u p.src 2 = false → exec (.ledPolicy p) s = .next (complete f 0x0301 [] (deniedEvent f 4 u))) := by
  intro u f
  have body : sized 4 ledPolicyBody f u =
      needAuth u f 2 (.done (retryOpen (persist (ledgerLimits { u with p100.overwrite := v }))) []) := by
    rw [sized_eq _ _ _ _ (by rw [flightOf_pkt, hp]; rfl)]
    unfold ledPolicyBody
    simp only [f, flightOf_pkt, hp]
    cases v
    all_goals rfl
  refine ⟨fun held => ?_, fun lacks => ?_⟩
  · exact congrArg Host.Outcome.next (command_done _ _ p s _ _ ht (body.trans (if_pos held)))
  · exact congrArg Host.Outcome.next (command_denied _ _ p s 2 ht (body.trans (if_neg (by simp [f, u, lacks]))))

end Sys2Proof.Laws

namespace Sys2Proof.Proofs

open Sys2Proof Sys2Proof.Machine Sys2Proof.Laws

/-- Settles O22: each clause is the rule of the write of a record, of what it brings, or of a ledger command. -/
theorem ledgerCompletes : Obligations.LedgerCompletes := by
  unfold Obligations.LedgerCompletes
  exact ⟨ledgerRecordWrite_does, recWrite_session, recWrite_daily, afterWrite_session, ledRead_answers, ledStatus_answers,
    ledLogRead_answers, ledAck_acknowledges, ledPolicy_sets⟩

end Sys2Proof.Proofs

namespace Sys2Proof.Laws

open Sys2Proof Sys2Proof.Machine

/-! ## The gates of the charging points (R150, R231, R233, R236) -/

/-- What stands between a point and its vehicle: the points the member has, the device safe state, the pilot outputs, and what makes
up each path. -/
structure Gates where
  member : Member
  safeState : Bool
  out : Vector OutMode 8
  path : Vector (Bool × Bool × Nat) 8

/-- The coil, SAFE_CUTn and the step of the path test of a point. -/
def pathOf (x : Safe) : Bool × Bool × Nat := (x.coil, x.cut, x.path)

def gates (s : State) : Gates :=
  { member := s.member, safeState := s.safeDev.safeState, out := s.pilot.map (·.out), path := s.safe.map pathOf }

/-- Neither path of the point is enabled and no path test runs. -/
def Gates.Off (g : Gates) (n : Fin 8) : Prop := vget g.path n = (false, false, 0)

/-- The device safe state bars the point, or the member lacks it (R2, R231). -/
def Gates.Barred (g : Gates) (n : Fin 8) : Prop := g.safeState = true ∨ g.member.points ≤ n.1

/-- `b` keeps what `a` shows, and no path that `a` bars has come on. -/
structure Within (a b : Gates) : Prop where
  member : b.member = a.member
  safeState : b.safeState = a.safeState
  out : b.out = a.out
  off : ∀ n, a.Barred n → a.Off n → b.Off n

theorem pathsOff_iff (s : State) (n : Fin 8) : PathsOff s n ↔ (gates s).Off n := by
  simp [PathsOff, Gates.Off, gates, pathOf, saf]

theorem gates_out (s : State) (n : Fin 8) : vget (gates s).out n = (pil s n).out := by simp [gates, pil]

theorem barred_iff (s : State) (n : Fin 8) : (gates s).Barred n ↔ s.safeDev.safeState = true ∨ hasPoint s n = false := by
  simp [Gates.Barred, gates, hasPoint]

@[simp] theorem within_refl (a : Gates) : Within a a := ⟨rfl, rfl, rfl, fun _ _ h => h⟩

theorem Within.trans {a b c : Gates} (h : Within a b) (k : Within b c) : Within a c where
  member := k.member.trans h.member
  safeState := k.safeState.trans h.safeState
  out := k.out.trans h.out
  off n barred off := k.off n (by rw [Gates.Barred, h.safeState, h.member]; exact barred) (h.off n barred off)

/-! ### Single updates -/

/-- What is no part of a gate may change. -/
theorem gates_upd (s : State) (pending : List Instr) (clk : Clk) (pwr : Pwr) (tail : Tail) (blk : Blocks) (port : Port) (ev : EvLog)
    (mbx : Vector Mbx 32) (fe : Fe) (nvFe : NvFe) (filt : Filt) (en : Energy) (p100 : P100) (pfw : Pfw) (nvBill : NvBill) (bill : Bill)
    (led : Ledger) (nvPt : Vector NvPoint 8) (nvSafe : NvSafe) (sess : Vector Sess 8) (hlc : Vector Hlc 8) (can : Vector CanFrm 24)
    (earth : Vector Earth 8) (earthDev : EarthDev) (nvCh : Vector NvChan 24) (sw : Switch) (lists : Lists) (rdr : Reader) (fst : FStore)
    (nvFst : NvStore) (tdr : Tider) (nvDsp : NvDisp) (dsp : Disp) (nvKey : NvKey) (key : Key) (upd : NvUpd) :
    gates { s with
      pending, clk, pwr, tail, blk, port, ev, mbx, fe, nvFe, filt, en, p100, pfw, nvBill, bill, led, nvPt, nvSafe, sess, hlc
      can, earth, earthDev, nvCh, sw, lists, rdr, fst, nvFst, tdr, nvDsp, dsp, nvKey, key, upd } = gates s := (rfl)

@[simp] theorem gates_modSafe (n : Fin 8) (f : Safe → Safe) (s : State)
    (h : ∀ x, (f x).coil = x.coil ∧ (f x).cut = x.cut ∧ (f x).path = x.path) : gates (modSafe n f s) = gates s := by
  simp [gates, modSafe, map_vmod pathOf f fun x => by simp [pathOf, h x]]

@[simp] theorem gates_modPilot (n : Fin 8) (f : Pilot → Pilot) (s : State) (h : ∀ x, (f x).out = x.out) :
    gates (modPilot n f s) = gates s := by
  simp [gates, modPilot, map_vmod Pilot.out f h]

theorem gates_safeDev (s : State) (x : SafeDev) (h : x.safeState = s.safeDev.safeState) : gates { s with safeDev := x } = gates s := by
  simp [gates, h]

theorem gates_of_quiet {s t : State} (h : quiet t = quiet s) : gates t = gates s := of_quiet gates (fun _ => rfl) h
theorem gates_of_drowsy {s t : State} (h : drowsy t = drowsy s) : gates t = gates s := of_drowsy gates (fun _ => rfl) h
theorem gates_of_offPort {s t : State} (h : offPort t = offPort s) : gates t = gates s := of_offPort gates (fun _ => rfl) h
theorem gates_of_offMeter {s t : State} (h : offMeter t = offMeter s) : gates t = gates s := of_offMeter gates (fun _ => rfl) h
theorem gates_of_offMods {s t : State} (h : offMods t = offMods s) : gates t = gates s := of_offMods gates (fun _ => rfl) h

@[simp] theorem gates_ite (c : Prop) [Decidable c] (s t : State) :
    gates (if c then s else t) = if c then gates s else gates t := apply_ite ..

/-- A fold of steps that each leave the gates leaves them. -/
@[simp] theorem gates_foldl {β : Type} (g : State → β → State) (h : ∀ t b, gates (g t b) = gates t) (l : List β) (s : State) :
    gates (l.foldl g s) = gates s := foldl_keeps gates g h l s

end Sys2Proof.Laws

namespace Sys2Proof.Laws

open Sys2Proof Sys2Proof.Machine

/-! ## What leaves the gates alone

Grouped by the model's files. A lemma that holds by definition is proved by `(rfl)`: the brackets keep it a rewriting of its own, so
that it can also close the premise of another lemma here. -/

/-! ### Flags -/

@[simp] theorem gates_deliver (ev : Nat) (lvl : Bool) (param : List Byte) (s : State) : gates (deliver ev lvl param s) = gates s :=
  gates_of_quiet (quiet_deliver _ _ _ _)

@[simp] theorem gates_dropRec (s : State) : gates (dropRec s) = gates s := gates_of_quiet (quiet_dropRec _)
@[simp] theorem gates_ledgerLimits (s : State) : gates (ledgerLimits s) = gates s := gates_of_quiet (quiet_ledgerLimits _)
@[simp] theorem gates_queueRec (r : PendRec) (s : State) : gates (queueRec r s) = gates s := gates_of_quiet (quiet_queueRec _ _)
@[simp] theorem gates_legalRecord (ev : Nat) (lvl : Bool) (param : List Byte) (s : State) :
    gates (legalRecord ev lvl param s) = gates s :=
  gates_of_quiet (quiet_legalRecord _ _ _ _)

@[simp] theorem gates_occur (ev : Nat) (lvl : Bool) (param : List Byte) (s : State) : gates (occur ev lvl param s) = gates s :=
  gates_of_quiet (quiet_occur _ _ _ _)

@[simp] theorem gates_pulse (ev : Nat) (param : List Byte) (s : State) : gates (pulse ev param s) = gates s :=
  gates_of_quiet (quiet_pulse _ _ _)

@[simp] theorem gates_level (ev key : Nat) (on : Bool) (param : List Byte) (s : State) : gates (level ev key on param s) = gates s :=
  gates_of_quiet (quiet_level _ _ _ _ _)

@[simp] theorem gates_coalEntry (c : Coal) (s : State) : gates (coalEntry c s) = gates s := gates_of_quiet (quiet_coalEntry _ _)

@[simp] theorem gates_pilotNote (n : Fin 8) (f : State → State) (h : ∀ u, gates (f u) = gates u) (s : State) :
    gates (pilotNote n f s) = gates s := by
  unfold pilotNote
  dsimp only
  split
  · exact h s
  · rw [gates_pulse, h]

/-! ### Ops -/

@[simp] theorem gates_drawn (n : Nat) (s : State) : gates (drawn n s) = gates s := (rfl)
@[simp] theorem gates_commitCopies (cs : List BlkCopy) (s : State) : gates (commitCopies cs s) = gates s := by rw [commitCopies_only]; rfl
@[simp] theorem gates_goPstate (st : PState) (src : Nat) (s : State) : gates (goPstate st src s) = gates s :=
  gates_of_drowsy (drowsy_goPstate _ _ _)

@[simp] theorem gates_wake (src : Nat) (s : State) : gates (wake src s) = gates s := gates_of_drowsy (drowsy_wake _ _)

/-! ### HostPort -/

@[simp] theorem gates_emit (f : Frame) (s : State) : gates (emit f s) = gates s := gates_of_offPort (offPort_emit _ _)
@[simp] theorem gates_checkFail (p : Pkt) (op status : Nat) (s : State) : gates (checkFail p op status s) = gates s :=
  gates_of_offPort (offPort_checkFail _ _ _ _)

@[simp] theorem gates_rxDrop (s : State) : gates (rxDrop s) = gates s := gates_of_offPort (offPort_rxDrop _)
@[simp] theorem gates_complete (f : Flight) (status : Nat) (payload : List Byte) (s : State) :
    gates (complete f status payload s) = gates s :=
  gates_of_offPort (offPort_complete _ _ _ _)

@[simp] theorem gates_finish (f : Flight) (payload : List Byte) (s : State) : gates (finish f payload s) = gates s :=
  gates_of_offPort (offPort_finish _ _ _)

@[simp] theorem gates_deniedEvent (f : Flight) (auth : Nat) (s : State) : gates (deniedEvent f auth s) = gates s := by simp [deniedEvent]
@[simp] theorem gates_takeCmd (p : Pkt) (op : Nat) (s : State) : gates (takeCmd p op s) = gates s :=
  gates_of_offPort (offPort_takeCmd _ _ _)

@[simp] theorem gates_refusePkt (p : Pkt) (s : State) : gates (refusePkt p s) = gates s := gates_of_offPort (offPort_refusePkt _ _)
@[simp] theorem gates_answerRepeat (k : Kept) (p : Pkt) (op : Nat) (s : State) : gates (answerRepeat k p op s) = gates s :=
  gates_of_offPort (offPort_answerRepeat _ _ _ _)

/-! ### Commit -/

@[simp] theorem gates_take (f : Flight) (cs : List BlkCopy) (s : State) : gates (take f cs s) = gates s := (rfl)
@[simp] theorem gates_dropCommits (subs : List Nat) (s : State) : gates (dropCommits subs s) = gates s := (rfl)
@[simp] theorem gates_untake (f : Flight) (s : State) : gates (untake f s) = gates s := (rfl)

/-! ### Meter -/

@[simp] theorem gates_modMeter (m : Fin 9) (f : Meter → Meter) (s : State) : gates (modMeter m f s) = gates s :=
  gates_of_offMeter (offMeter_modMeter _ _ _)

@[simp] theorem gates_modMeterP (m : Fin 9) (f : MeterP → MeterP) (s : State) : gates (modMeterP m f s) = gates s :=
  gates_of_offMeter (offMeter_modMeterP _ _ _)

@[simp] theorem gates_modSessP (n : Fin 8) (f : SessP → SessP) (s : State) : gates (modSessP n f s) = gates s :=
  gates_of_offMeter (offMeter_modSessP _ _ _)

@[simp] theorem gates_modWin (m : Fin 9) (f : Win → Win) (s : State) : gates (modWin m f s) = gates s :=
  gates_of_offMeter (offMeter_modWin _ _ _)

@[simp] theorem gates_persist (s : State) : gates (persist s) = gates s := gates_of_offMeter (offMeter_persist _)
@[simp] theorem gates_pulsePeriods (m len : Nat) (s : State) : gates (pulsePeriods m len s) = gates s :=
  gates_of_offMeter (offMeter_pulsePeriods _ _ _)

@[simp] theorem gates_markFlags (m : Fin 9) (flags : Nat) (sd : Side) (s : State) : gates (markFlags m flags sd s) = gates s :=
  gates_of_offMeter (offMeter_markFlags _ _ _ _)

@[simp] theorem gates_transfer (m : Fin 9) (cs : List (Fin 12 × Nat)) (sd : Side) (s : State) : gates (transfer m cs sd s) = gates s :=
  gates_of_offMeter (offMeter_transfer _ _ _ _)

@[simp] theorem gates_netClose (m : Fin 9) (sd : Side) (s : State) : gates (netClose m sd s) = gates s :=
  gates_of_offMeter (offMeter_netClose _ _ _)

@[simp] theorem gates_queueSession (n : Fin 8) (reason : EndReason) (flags tClose : Nat) (rest : Bool) (s : State) :
    gates (queueSession n reason flags tClose rest s) = gates s :=
  gates_of_offMeter (offMeter_queueSession _ _ _ _ _ _)

@[simp] theorem gates_runAct (m : Fin 9) (a : BAct) (s : State) : gates (runAct m a s) = gates s :=
  gates_of_offMeter (offMeter_runAct _ _ _)

@[simp] theorem gates_boundaryAt (t : Nat) (m : Fin 9) (acts : List BAct) (s : State) : gates (boundaryAt t m acts s) = gates s :=
  gates_of_offMeter (offMeter_boundaryAt _ _ _ _)

@[simp] theorem gates_boundary (m : Fin 9) (acts : List BAct) (s : State) : gates (boundary m acts s) = gates s :=
  gates_of_offMeter (offMeter_boundary _ _ _)

@[simp] theorem gates_boundaryAll (acts : List BAct) (s : State) : gates (boundaryAll acts s) = gates s :=
  gates_of_offMeter (offMeter_boundaryAll _ _)

@[simp] theorem gates_startWin (m : Fin 9) (s : State) : gates (startWin m s) = gates s := gates_of_offMeter (offMeter_startWin _ _)
@[simp] theorem gates_startMeters (old s : State) : gates (startMeters old s) = gates s := gates_of_offMeter (offMeter_startMeters _ _)

/-! ### Points -/

@[simp] theorem gates_modSess (n : Fin 8) (f : Sess → Sess) (s : State) : gates (modSess n f s) = gates s := (rfl)
@[simp] theorem gates_modHlc (n : Fin 8) (f : Hlc → Hlc) (s : State) : gates (modHlc n f s) = gates s := (rfl)
@[simp] theorem gates_modEarth (n : Fin 8) (f : Earth → Earth) (s : State) : gates (modEarth n f s) = gates s := (rfl)
@[simp] theorem gates_modNvPt (n : Fin 8) (f : NvPoint → NvPoint) (s : State) : gates (modNvPt n f s) = gates s := (rfl)
@[simp] theorem gates_modChan (c : Fin 24) (f : Chan → Chan) (s : State) : gates (modChan c f s) = gates s := (rfl)
@[simp] theorem gates_modNvCh (c : Fin 24) (f : NvChan → NvChan) (s : State) : gates (modNvCh c f s) = gates s := (rfl)
@[simp] theorem gates_modLock (n : Fin 8) (f : Lock → Lock) (s : State) : gates (modLock n f s) = gates s := (rfl)
@[simp] theorem gates_e55 (n : Fin 8) (kind : Nat) (l : List (Nat × Nat)) (s : State) : gates (e55 n kind l s) = gates s := by simp [e55]
@[simp] theorem gates_setPhase (n : Fin 8) (p : HlcPhase) (s : State) : gates (setPhase n p s) = gates s := by simp [setPhase]
@[simp] theorem gates_e63 (n : Fin 8) (kind : Nat) (on : Bool) (val : Int) (step : Nat) (s : State) :
    gates (e63 n kind on val step s) = gates s := by
  simp [e63]

@[simp] theorem gates_chanOn (c : Fin 24) (duty : Nat) (s : State) : gates (chanOn c duty s) = gates s := (rfl)
@[simp] theorem gates_chanOff (c : Fin 24) (s : State) : gates (chanOff c s) = gates s := (rfl)
@[simp] theorem gates_e77 (n : Fin 8) (old new : Nat) (s : State) : gates (e77 n old new s) = gates s := by simp [e77]
@[simp] theorem gates_recheck (s : State) : gates (recheck s) = gates s := by simp [recheck]
@[simp] theorem gates_checkAtStart (s : State) : gates (checkAtStart s) = gates s := by simp [checkAtStart]
@[simp] theorem gates_followOne (n : Fin 8) (s : State) : gates (followOne n s) = gates s := by simp [followOne]
@[simp] theorem gates_followSig (n : Fin 8) (s : State) : gates (followSig n s) = gates s := by simp [followSig]
@[simp] theorem gates_dropCut (n : Fin 8) (s : State) : gates (dropCut n s) = gates s := by simp [dropCut]
@[simp] theorem gates_closeValues (n : Fin 8) (reason : EndReason) (flags : Nat) (s : State) :
    gates (closeValues n reason flags s) = gates s := by
  simp [closeValues]

@[simp] theorem gates_tryClose (n : Fin 8) (flags : Nat) (s : State) : gates (tryClose n flags s) = gates s := by
  unfold tryClose
  repeat' split
  all_goals simp

@[simp] theorem gates_closeWarm (n : Fin 8) (s : State) : gates (closeWarm n s) = gates s := by simp [closeWarm]
@[simp] theorem gates_weldPhase (n : Fin 8) (s : State) : gates (weldPhase n s) = gates s := by simp [weldPhase]
@[simp] theorem gates_leaveDc (n : Fin 8) (s : State) : gates (leaveDc n s) = gates s := by simp [leaveDc]
@[simp] theorem gates_markEnd (n : Fin 8) (reason : EndReason) (s : State) : gates (markEnd n reason s) = gates s := by simp [markEnd]
@[simp] theorem gates_endX1 (n : Fin 8) (reason : EndReason) (s : State) : gates (endX1 n reason s) = gates s := by simp [endX1]
@[simp] theorem gates_clearOos (n : Fin 8) (m : Nat) (s : State) : gates (clearOos n m s) = gates s := (rfl)
@[simp] theorem gates_openSession (n : Fin 8) (s : State) : gates (openSession n s) = gates s := by
  unfold openSession
  dsimp only
  repeat' split
  all_goals simp [↓gates_upd]

@[simp] theorem gates_bindAuth (n : Fin 8) (type : Nat) (id : List Byte) (bpt : Bool) (limI limP limD : Nat) (s : State) :
    gates (bindAuth n type id bpt limI limP limD s) = gates s := by
  simp [bindAuth]

@[simp] theorem gates_freeBind (n : Fin 8) (s : State) : gates (freeBind n s) = gates s := by simp [freeBind]
@[simp] theorem gates_ppGo (m : Fin 9) (st : PpState) (s : State) : gates (ppGo m st s) = gates s := by simp [ppGo]
@[simp] theorem gates_e74 (n : Fin 8) (trip : BitVec 32) (src : Nat) (s : State) : gates (e74 n trip src s) = gates s := by simp [e74]
@[simp] theorem gates_noteTrip (n : Fin 8) (causes : BitVec 32) (s : State) : gates (noteTrip n causes s) = gates s := by simp [noteTrip]
@[simp] theorem gates_sessionClosed (n : Fin 8) (s : State) : gates (sessionClosed n s) = gates s := by simp [sessionClosed]

/-! ### Pilot -/

@[simp] theorem gates_slacStart (n : Fin 8) (s : State) : gates (slacStart n s) = gates s := by simp [slacStart]
@[simp] theorem gates_holdOver (n : Fin 8) (s : State) : gates (holdOver n s) = gates s := by
  simp [holdOver]

@[simp] theorem gates_inStateC (n : Fin 8) (s : State) : gates (inStateC n s) = gates s := by simp [inStateC]
@[simp] theorem gates_followOver (n : Fin 8) (s : State) : gates (followOver n s) = gates s := by simp [followOver]
@[simp] theorem gates_tethered (n : Fin 8) (s : State) : gates (tethered n s) = gates s := by
  simp [tethered]

/-! ### Switch -/

@[simp] theorem gates_e81 (c : Fin 24) (s : State) : gates (e81 c s) = gates s := by simp [e81]
@[simp] theorem gates_bridgeTrip (n : Fin 8) (det ma : Nat) (s : State) : gates (bridgeTrip n det ma s) = gates s := by simp [bridgeTrip]
@[simp] theorem gates_e82 (i which : Nat) (on : Bool) (s : State) : gates (e82 i which on s) = gates s := by simp [e82]
@[simp] theorem gates_setLockFault (n : Fin 8) (on : Bool) (s : State) : gates (setLockFault n on s) = gates s := by simp [setLockFault]
@[simp] theorem gates_startDrive (n : Fin 8) (dir : Nat) (s : State) : gates (startDrive n dir s) = gates s := (rfl)
@[simp] theorem gates_startLock (n : Fin 8) (op : Nat) (s : State) : gates (startLock n op s) = gates s := (rfl)
@[simp] theorem gates_holdUnlock (n : Fin 8) (s : State) : gates (holdUnlock n s) = gates s := by simp [holdUnlock]
@[simp] theorem gates_lockDrive (n : Fin 8) (back : Bool) (s : State) : gates (lockDrive n back s) = gates s := by simp [lockDrive]
@[simp] theorem gates_lockDone (n : Fin 8) (s : State) : gates (lockDone n s) = gates s := by
  unfold lockDone
  dsimp only
  repeat' split
  all_goals simp

@[simp] theorem gates_lockSense (n : Fin 8) (high : Bool) (us : Nat) (s : State) : gates (lockSense n high us s) = gates s := by
  simp [lockSense]

@[simp] theorem gates_lhDrive (s : State) : gates (lhDrive s) = gates s := by
  refine gates_foldl _ (fun t c => ?_) _ _
  dsimp only
  repeat' split
  all_goals simp [↓gates_upd]

@[simp] theorem gates_followLimp (s : State) : gates (followLimp s) = gates s := by simp [followLimp, ↓gates_upd]
@[simp] theorem gates_clearChan (c : Fin 24) (s : State) : gates (clearChan c s) = gates s := by simp [clearChan]
@[simp] theorem gates_clearLock (n : Fin 8) (s : State) : gates (clearLock n s) = gates s := by simp [clearLock]

/-! ### Credit -/

@[simp] theorem gates_e39 (s : State) : gates (e39 s) = gates s := by simp [e39]
@[simp] theorem gates_commandSupply (on : Bool) (s : State) : gates (commandSupply on s) = gates s := by
  unfold commandSupply
  dsimp only
  repeat' split
  all_goals simp [↓gates_upd]

@[simp] theorem gates_tamperRec (kind meter sess t : Nat) (s : State) : gates (tamperRec kind meter sess t s) = gates s := by
  simp [tamperRec]

@[simp] theorem gates_profWrite (t : Nat) (isFirst : Bool) (s : State) : gates (profWrite t isFirst s) = gates s := by
  simp [profWrite, ↓gates_upd]

@[simp] theorem gates_profileRun (t : Nat) (s : State) : gates (profileRun t s) = gates s := by simp [profileRun, ↓gates_upd]

/-! ### FrontEnd -/

@[simp] theorem gates_modMod (i : Nat) (f : Modu → Modu) (s : State) : gates (modMod i f s) = gates s :=
  gates_of_offMods (offMods_modMod _ _ _)

@[simp] theorem gates_modNvMod (i : Nat) (f : NvMod → NvMod) (s : State) : gates (modNvMod i f s) = gates s :=
  gates_of_offMods (offMods_modNvMod _ _ _)

@[simp] theorem gates_modXch (i : Nat) (f : XCh → XCh) (s : State) : gates (modXch i f s) = gates s :=
  gates_of_offMods (offMods_modXch _ _ _)

@[simp] theorem gates_e17 (i cause : Nat) (s : State) : gates (e17 i cause s) = gates s := gates_of_offMods (offMods_e17 _ _ _)
@[simp] theorem gates_setDegraded (g : Nat) (on : Bool) (s : State) : gates (setDegraded g on s) = gates s :=
  gates_of_offMods (offMods_setDegraded _ _ _)

@[simp] theorem gates_setSubst (g : Nat) (c : Option Nat) (s : State) : gates (setSubst g c s) = gates s :=
  gates_of_offMods (offMods_setSubst _ _ _)

@[simp] theorem gates_markFaulty (i : Nat) (s : State) : gates (markFaulty i s) = gates s := gates_of_offMods (offMods_markFaulty _ _)
@[simp] theorem gates_cmpFail (i : Nat) (s : State) : gates (cmpFail i s) = gates s := gates_of_offMods (offMods_cmpFail _ _)
@[simp] theorem gates_standAt (i : Nat) (x : SlotMeas) (s : State) : gates (standAt i x s) = gates s :=
  gates_of_offMods (offMods_standAt _ _ _)

@[simp] theorem gates_endSlot (i : Nat) (s : State) : gates (endSlot i s) = gates s := gates_of_offMods (offMods_endSlot _ _)
@[simp] theorem gates_slotOf (i : Nat) (x : SlotMeas) (s : State) : gates (slotOf i x s) = gates s :=
  gates_of_offMods (offMods_slotOf _ _ _)

@[simp] theorem gates_resumeSlot (s : State) : gates (resumeSlot s) = gates s := gates_of_offMods (offMods_resumeSlot _)
@[simp] theorem gates_leaveDegraded (g : Nat) (s : State) : gates (leaveDegraded g s) = gates s := by simp [leaveDegraded]
@[simp] theorem gates_returnMod (i : Nat) (x : SlotMeas) (s : State) : gates (returnMod i x s) = gates s := by simp [returnMod]
@[simp] theorem gates_rotationSlot (x : SlotMeas) (s : State) : gates (rotationSlot x s) = gates s := by
  unfold rotationSlot
  dsimp only
  repeat' split
  all_goals simp [↓gates_upd]

@[simp] theorem gates_gridSwitch (s : State) : gates (gridSwitch s) = gates s := by
  unfold gridSwitch
  repeat' split
  all_goals simp

@[simp] theorem gates_xStart (i : Nat) (s : State) : gates (xStart i s) = gates s := gates_of_offMods (offMods_xStart _ _)
@[simp] theorem gates_applyGroup (old : List Byte) (g : Nat) (s : State) : gates (applyGroup old g s) = gates s :=
  gates_of_offMods (offMods_applyGroup _ _ _)

@[simp] theorem gates_mtrApply (s : State) : gates (mtrApply s) = gates s := by
  unfold mtrApply
  dsimp only
  repeat' split
  all_goals simp [↓gates_upd]

/-! ### Chain -/

@[simp] theorem gates_runGroup (xs : List (Fin 72 × BitVec 64 × BitVec 64)) (g : Fin 9) (s : State) :
    gates (runGroup xs g s) = gates s := by
  obtain ⟨chain, outs, h⟩ := runGroup_only xs g s
  rw [h]
  rfl

@[simp] theorem gates_runGrid (xs : List (Fin 72 × BitVec 64 × BitVec 64)) (s : State) : gates (runGrid xs s) = gates s := by
  simp [runGrid, ↓gates_upd]

/-! ### Filter -/

@[simp] theorem gates_modDet (i : Nat) (f : Det → Det) (s : State) : gates (modDet i f s) = gates s := (rfl)
@[simp] theorem gates_fastPath (s : State) (i : Fin 72) : gates (fastPath s i) = gates s := by
  unfold fastPath
  dsimp only
  split
  · rfl
  · simp [↓gates_upd]

@[simp] theorem gates_followC4 (s : State) : gates (followC4 s) = gates s := (rfl)
@[simp] theorem gates_keepOutput (g : Fin 9) (preset : Nat) (out : List (Int × Nat)) (s : State) :
    gates (keepOutput g preset out s) = gates s := by
  simp [keepOutput, ↓gates_upd]

@[simp] theorem gates_addTotals (g : Fin 9) (out : List (Int × Nat)) (s : State) : gates (addTotals g out s) = gates s :=
  gates_foldl _ (fun _ _ => gates_modXch _ _ _) _ _

@[simp] theorem gates_presetOutput (g : Fin 9) (o : PreOut) (s : State) : gates (presetOutput g o s) = gates s := by simp [presetOutput]
@[simp] theorem gates_closeGroup (g : Nat) (up : Bool) (s : State) : gates (closeGroup g up s) = gates s :=
  gates_foldl _ (fun _ _ => gates_modDet _ _ _) _ _

@[simp] theorem gates_emitRecord (c : Nat) (tEnd : Nat) (missing : Bool) (s : State) : gates (emitRecord c tEnd missing s) = gates s := by
  unfold emitRecord
  dsimp only
  repeat' split
  all_goals simp [↓gates_upd]

@[simp] theorem gates_followFreq (g : Fin 9) (s : State) : gates (followFreq g s) = gates s := gates_of_quiet (quiet_followFreq _ _)
@[simp] theorem gates_takeCrossing (i : Fin 72) (t : Nat) (up missing : Bool) (s : State) :
    gates (takeCrossing i t up missing s) = gates s := by
  simp [takeCrossing]

/-! ### Energy -/

@[simp] theorem gates_deliverSide (m : Fin 9) (qs : List ElemQ) (n a flags : Nat) (sd : Side) (u : SideSum) (s : State) :
    gates (deliverSide m qs n a flags sd u s) = gates s := by
  unfold deliverSide
  dsimp only
  repeat' split
  all_goals simp

@[simp] theorem gates_deliverSides (m : Fin 9) (qs : List ElemQ) (n flags a : Nat) (l : List (Side × SideSum)) (s : State) :
    gates (deliverSides m qs n flags a l s) = gates s := by
  induction l generalizing a s with
  | nil => rfl
  | cons x l ih =>
    rw [deliverSides]
    simp [ih]

@[simp] theorem gates_e23 (m : Fin 9) (t : Nat) (s : State) : gates (e23 m t s) = gates s := by simp [e23]
@[simp] theorem gates_tamperSess (n : Fin 8) (s : State) : gates (tamperSess n s) = gates s := by simp [tamperSess]
@[simp] theorem gates_noteFind (m : Fin 9) (k : Nat) (on : Bool) (v : MtrVals) (start : Nat) (s : State) :
    gates (noteFind m k on v start s) = gates s := by
  unfold noteFind
  dsimp only
  repeat' split
  all_goals simp

@[simp] theorem gates_findings (m : Fin 9) (v : MtrVals) (w : WinSum) (s : State) :
    gates (findings m v w s) = gates s := by simp [findings]
@[simp] theorem gates_energyDone (t : Nat) (s : State) : gates (energyDone t s) = gates s := by
  unfold energyDone
  dsimp only
  repeat' split
  all_goals simp [↓gates_upd]

@[simp] theorem gates_applyMeterBlock (m : Fin 9) (t : Nat) (sd : Side) (s : State) : gates (applyMeterBlock m t sd s) = gates s := by
  unfold applyMeterBlock
  dsimp only
  repeat' split
  all_goals simp

@[simp] theorem gates_nextWindow (m : Fin 9) (e t : Nat) (period : Option Nat) (rest : List Side) (s : State) :
    gates (nextWindow m e t period rest s) = gates s :=
  (rfl)

@[simp] theorem gates_profileFollow (s : State) : gates (profileFollow s) = gates s := by simp [profileFollow]
@[simp] theorem gates_netPending (m : Fin 9) (s : State) : gates (netPending m s) = gates s := (rfl)
@[simp] theorem gates_nettingEnd (m : Fin 9) (s : State) : gates (nettingEnd m s) = gates s := by
  unfold nettingEnd
  dsimp only
  repeat' split
  all_goals simp

@[simp] theorem gates_pulseIssue (i : Fin 4) (s : State) : gates (pulseIssue i s) = gates s := by
  unfold pulseIssue
  dsimp only
  repeat' split
  all_goals simp [↓gates_upd]

@[simp] theorem gates_applyPulses (cs : List BlkCopy) (s : State) :
    gates (applyPulses cs s) = gates s := by simp [applyPulses, ↓gates_upd]

/-! ### Billing -/

@[simp] theorem gates_setFired (b : Fin 3) (lab : Nat) (s : State) : gates (setFired b lab s) = gates s := by simp [setFired, ↓gates_upd]
@[simp] theorem gates_fireDemand (dur : Bool) (lab : Nat) (s : State) : gates (fireDemand dur lab s) = gates s := by simp [fireDemand]
@[simp] theorem gates_firePeriod (flags lab : Nat) (s : State) : gates (firePeriod flags lab s) = gates s := by
  simp [firePeriod, ↓gates_upd]

@[simp] theorem gates_fireDaily (dur : Bool) (lab : Nat) (s : State) : gates (fireDaily dur lab s) = gates s := by
  simp [fireDaily, ↓gates_upd]

@[simp] theorem gates_fireType (dur : Bool) (x : State × Nat) (b : Fin 3) : gates (fireType dur x b).1 = gates x.1 := by
  unfold fireType
  dsimp only
  repeat' split
  all_goals simp

@[simp] theorem gates_gridFire (dur : Bool) (s : State) : gates (gridFire dur s).1 = gates s := by
  rw [gridFire_eq]
  split
  · rfl
  · rw [List.foldl_cons, List.foldl_cons, List.foldl_cons, List.foldl_nil, gates_fireType, gates_fireType, gates_fireType]
    simp [periodOpened, ↓gates_upd]

@[simp] theorem gates_tariffEval (s : State) : gates (tariffEval s) = gates s := by simp [tariffEval, ↓gates_upd]
@[simp] theorem gates_restoreSession (n : Fin 8) (s : State) : gates (restoreSession n s) = gates s := by simp [restoreSession]
@[simp] theorem gates_netRestore (m : Fin 9) (s : State) : gates (netRestore m s) = gates s := by
  unfold netRestore
  dsimp only
  repeat' split
  all_goals simp

@[simp] theorem gates_restore (s : State) : gates (restore s) = gates s := by
  unfold restore
  dsimp only
  rw [gates_persist, gates_upd, gates_foldl _ (fun t n => gates_restoreSession n t)]
  simp [↓gates_upd]

@[simp] theorem gates_markStep (s : State) : gates (markStep s) = gates s := (rfl)
@[simp] theorem gates_stepClose (s : State) : gates (stepClose s) = gates s := by simp [stepClose, ↓gates_upd]
@[simp] theorem gates_timeStep (new source origin : Nat) (s : State) : gates (timeStep new source origin s) = gates s := by
  obtain ⟨r, h⟩ := timeStep_eq new source origin s
  have told : gates (onNewTime new s) = gates s := by simp [onNewTime, ↓gates_upd]
  rw [h]
  split
  all_goals simp [told]

@[simp] theorem gates_slewTo (target : Nat) (s : State) : gates (slewTo target s) = gates s := (rfl)
@[simp] theorem gates_bilApply (cs : List BlkCopy) (s : State) : gates (bilApply cs s) = gates s := by simp [bilApply]
@[simp] theorem gates_creditSub (c : Int) (a : Nat) (s : State) : gates (creditSub c a s).1 = gates s := by
  unfold creditSub
  repeat' split
  all_goals simp

/-! ### Earth -/

@[simp] theorem gates_modEd (f : EarthDev → EarthDev) (s : State) : gates (modEd f s) = gates s := (rfl)
@[simp] theorem gates_noteDet (n : Fin 8) (kind : Nat) (was on : Bool) (val : Int) (s : State) :
    gates (noteDet n kind was on val s) = gates s := by
  simp [noteDet]

@[simp] theorem gates_noteDets (n : Fin 8) (old : Earth) (s : State) : gates (noteDets n old s) = gates s := by simp [noteDets]
@[simp] theorem gates_compCycle (n : Fin 8) (s : State) : gates (compCycle n s) = gates s := by
  unfold compCycle
  dsimp only
  repeat' split
  all_goals simp

@[simp] theorem gates_offsetPass (n : Fin 8) (o : Int) (s : State) : gates (offsetPass n o s) = gates s := by simp [offsetPass]
@[simp] theorem gates_testStep (n : Fin 8) (k : Nat) (s : State) : gates (testStep n k s) = gates s := (rfl)
@[simp] theorem gates_testStart (n : Fin 8) (cmd : Option Flight) (s : State) : gates (testStart n cmd s) = gates s := (rfl)
@[simp] theorem gates_clearEarth (n : Fin 8) (s : State) : gates (clearEarth n s) = gates s := by simp [clearEarth]
@[simp] theorem gates_setIso (n : Fin 8) (st : Nat) (s : State) : gates (setIso n st s) = gates s := by simp [setIso]
@[simp] theorem gates_e73 (which : Nat) (on : Bool) (s : State) : gates (e73 which on s) = gates s := by simp [e73]
@[simp] theorem gates_peSpan (s : State) : gates (peSpan s) = gates s := by simp [peSpan]
@[simp] theorem gates_npeFeed (sns : Int) (s : State) : gates (npeFeed sns s) = gates s := (rfl)
@[simp] theorem gates_npePeriod (s : State) : gates (npePeriod s) = gates s := by simp [npePeriod]
@[simp] theorem gates_rcdApplied (old : List Byte) (n : Fin 8) (s : State) : gates (rcdApplied old n s) = gates s := (rfl)
@[simp] theorem gates_peApplied (s : State) : gates (peApplied s) = gates s := by simp [peApplied]

/-! ### Keys -/

@[simp] theorem gates_e120 (key slot code : Nat) (s : State) : gates (e120 key slot code s) = gates s := by simp [e120]
@[simp] theorem gates_modSlot (i : Nat) (f : Slot → Slot) (s : State) : gates (modSlot i f s) = gates s := (rfl)
@[simp] theorem gates_slotLoad (i : Fin 64) (key : Nat) (s : State) : gates (slotLoad i key s) = gates s := by simp [slotLoad]
@[simp] theorem gates_slotEmpty (i : Fin 64) (s : State) : gates (slotEmpty i s) = gates s := by
  unfold slotEmpty
  repeat' split
  all_goals simp

@[simp] theorem gates_kStart (s : State) : gates (kStart s) = gates s := by simp [kStart, ↓gates_upd]
@[simp] theorem gates_e121 (a : Nat) (failed : Bool) (s : State) : gates (e121 a failed s) = gates s := by simp [e121]
@[simp] theorem gates_dropKey (key : Nat) (s : State) : gates (dropKey key s) = gates s := by
  unfold dropKey
  dsimp only
  repeat' split
  all_goals simp [↓gates_upd]

@[simp] theorem gates_blobCopyBad (slot : Nat) (s : State) : gates (blobCopyBad slot s) = gates s := by simp [blobCopyBad, ↓gates_upd]
@[simp] theorem gates_dropCert (role i : Nat) (s : State) : gates (dropCert role i s) = gates s := (rfl)
@[simp] theorem gates_signWith (key : Nat) (msg : List Byte) (s : State) : gates (signWith key msg s).1 = gates s := (rfl)

/-! ### Session -/

@[simp] theorem gates_certFail (n : Fin 8) (s : State) : gates (certFail n s) = gates s := (rfl)
@[simp] theorem gates_decision (n : Fin 8) (code type : Nat) (s : State) : gates (decision n code type s) = gates s := by simp [decision]
@[simp] theorem gates_raiseReq (n : Fin 8) (type : Nat) (id : List Byte) (card : Bool) (ant : Nat) (s : State) :
    gates (raiseReq n type id card ant s) = gates s := by
  simp [raiseReq]

@[simp] theorem gates_refuseReq (n : Fin 8) (code : Nat) (s : State) : gates (refuseReq n code s) = gates s := by
  unfold refuseReq
  repeat' split
  all_goals simp

/-! ### Reader -/

@[simp] theorem gates_modAnt (k : Fin 8) (f : Ant → Ant) (s : State) : gates (modAnt k f s) = gates s := (rfl)
@[simp] theorem gates_modNvAnt (k : Fin 8) (f : NvAnt → NvAnt) (s : State) : gates (modNvAnt k f s) = gates s := (rfl)
@[simp] theorem gates_selectAnt (k : Fin 8) (s : State) : gates (selectAnt k s) = gates s := (rfl)
@[simp] theorem gates_e101 (k : Fin 8) (cause : Nat) (s : State) : gates (e101 k cause s) = gates s := by simp [e101]
@[simp] theorem gates_quietPing (k : Fin 8) (a : Nat) (s : State) : gates (quietPing k a s) = gates s := by
  unfold quietPing
  dsimp only
  repeat' split
  all_goals simp

@[simp] theorem gates_detection (k : Fin 8) (s : State) : gates (detection k s) = gates s := by simp [detection]
@[simp] theorem gates_identRead (k : Fin 8) (r : Nat × List Byte × Bool) (s : State) : gates (identRead k r s) = gates s := by
  simp [identRead]

@[simp] theorem gates_pollOver (k : Fin 8) (s : State) : gates (pollOver k s) = gates s := (rfl)
@[simp] theorem gates_countTargets (k : Fin 8) (s : State) : gates (countTargets k s) = gates s := by simp [countTargets]
@[simp] theorem gates_setAntFault (k : Fin 8) (bad : Bool) (ma : Nat) (phase : Int) (s : State) :
    gates (setAntFault k bad ma phase s) = gates s := by
  simp [setAntFault]

/-! ### Hlc -/

@[simp] theorem gates_touch (n : Fin 8) (s : State) : gates (touch n s) = gates s := (rfl)
@[simp] theorem gates_hlcFail (n : Fin 8) (cause : Nat) (reason : EndReason) (s : State) :
    gates (hlcFail n cause reason s) = gates s := by
  simp [hlcFail]

@[simp] theorem gates_modemGood (n : Fin 8) (s : State) : gates (modemGood n s) = gates s := by simp [modemGood]
@[simp] theorem gates_slacFail (n : Fin 8) (s : State) : gates (slacFail n s) = gates s := by simp [slacFail]
@[simp] theorem gates_attenInd (n : Fin 8) (at0 : Nat) (s : State) : gates (attenInd n at0 s) = gates s := (rfl)
@[simp] theorem gates_tlsEnd (n : Fin 8) (x : TlsIn) (s : State) : gates (tlsEnd n x s) = gates s := by simp [tlsEnd]
@[simp] theorem gates_authAnswer (n : Fin 8) (a : Nat) (s : State) : gates (authAnswer n a s) = gates s := by simp [authAnswer]
@[simp] theorem gates_offer (n : Fin 8) (s : State) : gates (offer n s) = gates s := by simp [offer]
@[simp] theorem gates_heard (n : Fin 8) (x : EvIn) (s : State) : gates (heard n x s) = gates s := (rfl)
@[simp] theorem gates_powerStage (n : Fin 8) (s : State) : gates (powerStage n s) = gates s := by
  unfold powerStage
  dsimp only
  repeat' split
  all_goals simp

@[simp] theorem gates_isoAnswer (n : Fin 8) (s : State) : gates (isoAnswer n s) = gates s := by simp [isoAnswer]
@[simp] theorem gates_prechargeDone (n : Fin 8) (s : State) : gates (prechargeDone n s) = gates s := by simp [prechargeDone]
@[simp] theorem gates_writeChunk (n : Fin 8) (i tot : Nat) (d : List Byte) (s : State) : gates (writeChunk n i tot d s) = gates s := by
  simp [writeChunk]

/-! ### Can -/

@[simp] theorem gates_modCan (f : Fin 24) (g : CanFrm → CanFrm) (s : State) : gates (modCan f g s) = gates s := (rfl)
@[simp] theorem gates_e558 (n : Fin 8) (f v : Nat) (s : State) : gates (e558 n f v s) = gates s := by simp [e558]
@[simp] theorem gates_noteClamps (f : Nat) (old new : List Nat) (sigs : List (List Byte)) (s : State) :
    gates (noteClamps f old new sigs s) = gates s := by
  refine gates_foldl _ (fun t e => ?_) _ _
  repeat' split
  all_goals simp

@[simp] theorem gates_rxSignal (d : List Byte) (e : List Byte) (s : State) : gates (rxSignal d e s) = gates s := by
  unfold rxSignal
  dsimp only
  repeat' split
  all_goals simp

@[simp] theorem gates_followStable (n : Fin 8) (s : State) : gates (followStable n s) = gates s := (rfl)

/-! ### Display -/

@[simp] theorem gates_modDsp (f : Disp → Disp) (s : State) : gates (modDsp f s) = gates s := (rfl)
@[simp] theorem gates_modNvDsp (f : NvDisp → NvDisp) (s : State) : gates (modNvDsp f s) = gates s := (rfl)
@[simp] theorem gates_queueReq (q : UpdReq) (s : State) : gates (queueReq q s) = gates s := by simp [queueReq]
@[simp] theorem gates_discharge (s : State) : gates (discharge s) = gates s := by simp [discharge]
@[simp] theorem gates_e113 (want found : Nat) (s : State) : gates (e113 want found s) = gates s := by simp [e113]
@[simp] theorem gates_writeLegal (blank : Bool) (s : State) : gates (writeLegal blank s) = gates s := (rfl)
@[simp] theorem gates_checkPassed (kind : Nat) (s : State) : gates (checkPassed kind s) = gates s := by simp [checkPassed]
@[simp] theorem gates_faceplate (found : List Nat) (kind : Nat) (s : State) : gates (faceplate found kind s).2 = gates s := by
  unfold faceplate
  dsimp only
  repeat' split
  all_goals simp

@[simp] theorem gates_beginUpdate (q : UpdReq) (s : State) : gates (beginUpdate q s) = gates s := (rfl)
@[simp] theorem gates_startUpdate (found : List Nat) (s : State) : gates (startUpdate found s) = gates s := by
  unfold startUpdate
  dsimp only
  repeat' split
  all_goals simp

@[simp] theorem gates_riseDrive (ks : List Nat) (s : State) : gates (riseDrive ks s) = gates s :=
  gates_foldl _ (fun t _ => gates_modNvDsp _ t) _ _

@[simp] theorem gates_setImbal (l : List (Nat × Int)) (s : State) : gates (setImbal l s) = gates s := by
  refine gates_foldl _ (fun t x => ?_) _ _
  dsimp only
  split
  all_goals simp

@[simp] theorem gates_dspWarn (s : State) : gates (dspWarn s) = gates s := by
  unfold dspWarn
  repeat' split
  all_goals simp

@[simp] theorem gates_dspPersist (s : State) : gates (dspPersist s) = gates s := by
  unfold dspPersist
  repeat' split
  all_goals simp

@[simp] theorem gates_dspStop (s : State) : gates (dspStop s) = gates s := by simp [dspStop]
@[simp] theorem gates_dspStart (s : State) : gates (dspStart s) = gates s := (rfl)
@[simp] theorem gates_dspCold (s : State) : gates (dspCold s) = gates s := by simp [dspCold]
@[simp] theorem gates_dspApply (cs : List BlkCopy) (s : State) : gates (dspApply cs s) = gates s := by simp [dspApply]

/-! ### SafetyPair -/

@[simp] theorem gates_e76 (n : Fin 8) (step : Nat) (on : Bool) (s : State) : gates (e76 n step on s) = gates s := by simp [e76]
@[simp] theorem gates_resetTrip (n : Fin 8) (src : Nat) (s : State) : gates (resetTrip n src s) = gates s := by simp [resetTrip]
@[simp] theorem gates_autoReset (n : Fin 8) (s : State) : gates (autoReset n s) = gates s := by simp [autoReset]
@[simp] theorem gates_noteDemands (n : Fin 8) (s : State) : gates (noteDemands n s) = gates s := by simp [noteDemands]
@[simp] theorem gates_evaluate (n : Fin 8) (x : PtIn) (s : State) : gates (evaluate n x s) = gates s := by simp [evaluate]
@[simp] theorem gates_exchange (n : Fin 8) (s : State) : gates (exchange n s) = gates s := by simp [exchange]
@[simp] theorem gates_refresh (n : Fin 8) (s : State) : gates (refresh n s) = gates s := by simp [refresh]
@[simp] theorem gates_peSpans (s : State) : gates (peSpans s) = gates s := by simp [peSpans]
@[simp] theorem gates_resetReply (s : State) : gates (resetReply s) = gates s := by
  unfold resetReply
  repeat' split
  all_goals simp [gates_safeDev]

@[simp] theorem gates_safResetPoint (n : Fin 8) (s : State) : gates (safResetPoint n s) = gates s := by
  simp [safResetPoint, gates_safeDev]

@[simp] theorem gates_confirmOpen (n : Fin 8) (s : State) : gates (confirmOpen n s) = gates s := by simp [confirmOpen]
@[simp] theorem gates_weldClear (n : Fin 8) (s : State) : gates (weldClear n s) = gates s := by simp [weldClear]
@[simp] theorem gates_coilsOff (s : State) : gates (coilsOff s) = gates s := by simp [coilsOff, ↓gates_upd]
@[simp] theorem gates_reportFault (s : State) : gates (reportFault s) = gates s := by
  unfold reportFault
  dsimp only
  repeat' split
  all_goals simp [↓gates_upd]

@[simp] theorem gates_e78 (low : Nat) (s : State) : gates (e78 low s) = gates s := by simp [e78]
@[simp] theorem gates_confirmCheck (n : Fin 8) (v : Nat) (s : State) : gates (confirmCheck n v s) = gates s := by simp [confirmCheck]

/-! ### FieldStore -/

@[simp] theorem gates_newUid (s : State) : gates (newUid s) = gates s := (rfl)
@[simp] theorem gates_fsAnswer (sw : Nat) (d : List Byte) (s : State) : gates (fsAnswer sw d s) = gates s := (rfl)
@[simp] theorem gates_fieldPut (p1 k : Nat) (d : List Byte) (s : State) : gates (fieldPut p1 k d s) = gates s := (rfl)
@[simp] theorem gates_e12 (r gen cause : Nat) (s : State) : gates (e12 r gen cause s) = gates s := by simp [e12]
@[simp] theorem gates_sawGen (r g : Nat) (s : State) : gates (sawGen r g s) = gates s := (rfl)
@[simp] theorem gates_repairRec (r : Nat) (s : State) : gates (repairRec r s) = gates s := by
  unfold repairRec
  dsimp only
  repeat' split
  all_goals simp [↓gates_upd]

@[simp] theorem gates_wiredWrite (r : Nat) (d : List Byte) (s : State) : gates (wiredWrite r d s) = gates s := by
  simp [wiredWrite, ↓gates_upd]

@[simp] theorem gates_statusSync (s : State) : gates (statusSync s) = gates s := by simp [statusSync]
@[simp] theorem gates_foundWrites (s : State) : gates (foundWrites s) = gates s := by simp [foundWrites, ↓gates_upd]
@[simp] theorem gates_confirmRec (n : Fin 8) (s : State) : gates (confirmRec n s) = gates s := by
  unfold confirmRec
  dsimp only
  repeat' split
  all_goals simp [↓gates_upd]

@[simp] theorem gates_storeStart (s : State) : gates (storeStart s) = gates s := by
  have repaired (t : State) : gates ((units 32).foldl (fun t r => repairRec r.1 t) t) = gates t :=
    gates_foldl _ (fun t r => gates_repairRec _ t) _ t
  simp [storeStart, repaired]

/-! ### Ledger -/

@[simp] theorem gates_chainAdvance (b : List Byte) (s : State) : gates (chainAdvance b s) = gates s := by simp [chainAdvance, ↓gates_upd]
@[simp] theorem gates_dailyAdvance (b : List Byte) (s : State) : gates (dailyAdvance b s) = gates s := (rfl)
@[simp] theorem gates_slotWrite (r : PendRec) (s : State) : gates (slotWrite r s) = gates s := (rfl)
@[simp] theorem gates_slotAdvance (s : State) : gates (slotAdvance s) = gates s := by
  unfold slotAdvance
  repeat' split
  all_goals simp

@[simp] theorem gates_retryOpen (s : State) : gates (retryOpen s) = gates s := by simp [retryOpen]
@[simp] theorem gates_afterWrite (r : PendRec) (s : State) : gates (afterWrite r s) = gates s := by
  unfold afterWrite
  dsimp only
  repeat' split
  all_goals simp

@[simp] theorem gates_recWrite (r : PendRec) (s : State) : gates (recWrite r s) = gates s := by simp [recWrite, ↓gates_upd]
@[simp] theorem gates_queueStart (s : State) : gates (queueStart s) = gates s := by simp [queueStart]
@[simp] theorem gates_wrote (x : Option PendRec) (r : PendRec) (s : State) : gates (wrote x r s) = gates s := by
  unfold wrote
  dsimp only
  repeat' split
  all_goals simp

@[simp] theorem gates_ledgerWrite (done : Bool) (s : State) : gates (ledgerWrite done s) = gates s := by
  unfold ledgerWrite
  dsimp only
  repeat' split
  all_goals simp [↓gates_upd]

@[simp] theorem gates_adoptSlot (s : State) : gates (adoptSlot s) = gates s := by
  unfold adoptSlot
  dsimp only
  repeat' split
  all_goals simp [↓gates_upd]

/-! ### System -/

@[simp] theorem gates_modMbx (k : Fin 32) (f : Mbx → Mbx) (s : State) : gates (modMbx k f s) = gates s := (rfl)
@[simp] theorem gates_mbxRefuse (k : Fin 32) (s : State) : gates (mbxRefuse k s) = gates s := by simp [mbxRefuse]
@[simp] theorem gates_wakeFor (id src : Nat) (s : State) : gates (wakeFor id src s) = gates s := by simp [wakeFor]
@[simp] theorem gates_modSink (k : Fin 5) (f : Sink → Sink) (s : State) : gates (modSink k f s) = gates s := (rfl)
@[simp] theorem gates_modNotify (k : Fin 5) (f : Notify → Notify) (s : State) : gates (modNotify k f s) = gates s := (rfl)
@[simp] theorem gates_notifySend (k : Fin 5) (s : State) : gates (notifySend k s) = gates s := (rfl)
@[simp] theorem gates_fenceSplit (t : Nat) (s : State) : gates (fenceSplit t s) = gates s := by
  refine gates_foldl _ (fun u m => ?_) _ _
  repeat' split
  all_goals simp [↓gates_upd]

@[simp] theorem gates_fenceIdle (s : State) : gates (fenceIdle s) = gates s := by
  refine gates_foldl _ (fun u m => ?_) _ _
  repeat' split
  all_goals simp [↓gates_upd]

@[simp] theorem gates_fenceReply (f : Fence) (lag : Nat) (s : State) : gates (fenceReply f lag s) = gates s := by
  simp [fenceReply, ↓gates_upd]

/-! ### Network -/

@[simp] theorem gates_setPtp (st : PtpSt) (s : State) : gates (setPtp st s) = gates s := by simp [setPtp, ↓gates_upd]
@[simp] theorem gates_ptpStart (s : State) : gates (ptpStart s) = gates s := by simp [ptpStart, ↓gates_upd]
@[simp] theorem gates_ringStart (s : State) : gates (ringStart s) = gates s := (rfl)
@[simp] theorem gates_setRing (st : RingSt) (port : Nat) (s : State) :
    gates (setRing st port s) = gates s := by simp [setRing, ↓gates_upd]
@[simp] theorem gates_sendFlush (s : State) : gates (sendFlush s) = gates s := (rfl)
@[simp] theorem gates_ringOpen (port : Nat) (s : State) : gates (ringOpen port s) = gates s := by simp [ringOpen, ↓gates_upd]
@[simp] theorem gates_ptpCorrect (ptpUs : Nat) (s : State) : gates (ptpCorrect ptpUs s) = gates s := by simp [ptpCorrect]
@[simp] theorem gates_ptpMessage (m : PtpMsg) (s : State) : gates (ptpMessage m s) = gates s := by
  unfold ptpMessage
  dsimp only
  repeat' split
  all_goals simp [↓gates_upd]

/-! ### Tider -/

@[simp] theorem gates_modTdr (f : Tider → Tider) (s : State) : gates (modTdr f s) = gates s := (rfl)
@[simp] theorem gates_setFailsafe (s : State) : gates (setFailsafe s) = gates s := by simp [setFailsafe]
@[simp] theorem gates_applyAlloc (a : List Nat) (s : State) : gates (applyAlloc a s) = gates s := by simp [applyAlloc]
@[simp] theorem gates_e110 (cause : Nat) (s : State) : gates (e110 cause s) = gates s := by simp [e110]
@[simp] theorem gates_setSync (on : Bool) (ofs : Nat) (s : State) : gates (setSync on ofs s) = gates s := by simp [setSync]
@[simp] theorem gates_dropPred (k : Nat) (s : State) : gates (dropPred k s) = gates s := (rfl)
@[simp] theorem gates_joinAgain (b : Option (List Byte)) (s : State) : gates (joinAgain b s) = gates s := by simp [joinAgain]
@[simp] theorem gates_tdrStart (s : State) : gates (tdrStart s) = gates s := by simp [tdrStart]
@[simp] theorem gates_l1Locked (s : State) : gates (l1Locked s) = gates s := (rfl)
@[simp] theorem gates_l1Lost (s : State) : gates (l1Lost s) = gates s := by simp [l1Lost]
@[simp] theorem gates_setLoop (k : Nat) (old st : LoopSt) (s : State) : gates (setLoop k old st s) = gates s := by simp [setLoop]
@[simp] theorem gates_crossing (k : Nat) (t : Option Int) (s : State) : gates (crossing k t s) = gates s := by simp [crossing]
@[simp] theorem gates_markRec (r : HcRec) (s : State) : gates (markRec r s) = gates s := by simp [markRec]
@[simp] theorem gates_firstSpan (r : HcRec) (was : LoopSt) (s : State) : gates (firstSpan r was s) = gates s := by simp [firstSpan]
@[simp] theorem gates_feedLoop (r : HcRec) (s : State) : gates (feedLoop r s) = gates s := by simp [feedLoop]
@[simp] theorem gates_e108 (node lq : Nat) (s : State) : gates (e108 node lq s) = gates s := by simp [e108]
@[simp] theorem gates_hearNeighbour (f : List Byte) (q : Nat) (s : State) : gates (hearNeighbour f q s) = gates s := by
  unfold hearNeighbour
  dsimp only
  repeat' split
  all_goals simp

@[simp] theorem gates_chooseParent (s : State) : gates (chooseParent s) = gates s := by simp [chooseParent]
@[simp] theorem gates_ownNode (s : State) : gates (ownNode s) = gates s := (rfl)
@[simp] theorem gates_recompute (s : State) : gates (recompute s) = gates s := by simp [recompute]
@[simp] theorem gates_applyOwn (s : State) : gates (applyOwn s) = gates s := by
  unfold applyOwn
  dsimp only
  repeat' split
  all_goals simp

@[simp] theorem gates_allocSent (ns : List TNode) (s : State) : gates (allocSent ns s) = gates s := (rfl)
@[simp] theorem gates_claimHolder (h : Nat) (s : State) : gates (claimHolder h s) = gates s := by simp [claimHolder]
@[simp] theorem gates_takeAlloc (f : List Byte) (s : State) : gates (takeAlloc f s) = gates s := by
  unfold takeAlloc
  dsimp only
  repeat' split
  all_goals simp

@[simp] theorem gates_takeDemand (f : List Byte) (s : State) : gates (takeDemand f s) = gates s := by simp [takeDemand]
@[simp] theorem gates_acceptFrame (f : List Byte) (s : State) : gates (acceptFrame f s) = gates s := by
  unfold acceptFrame
  repeat' split
  all_goals simp

@[simp] theorem gates_queueRepeat (f : List Byte) (s : State) : gates (queueRepeat f s) = gates s := (rfl)
@[simp] theorem gates_takeFrame (f : List Byte) (q : Nat) (s : State) : gates (takeFrame f q s) = gates s := by simp [takeFrame]
@[simp] theorem gates_takeChannel (x : State × Nat) (c : Nat) : gates (takeChannel x c).1 = gates x.1 := by
  unfold takeChannel
  dsimp only
  repeat' split
  all_goals simp

@[simp] theorem gates_checkTx (s : State) : gates (checkTx s) = gates s := by simp [checkTx]
@[simp] theorem gates_shiftSpan (ofs : Nat) (s : State) : gates (shiftSpan ofs s) = gates s := (rfl)
@[simp] theorem gates_otherIsland (l : List (Nat × Nat)) (s : State) : gates (otherIsland l s) = gates s := by
  unfold otherIsland
  dsimp only
  repeat' split
  all_goals simp

@[simp] theorem gates_putFrame (c : Nat) (f : List Byte) (s : State) : gates (putFrame c f s) = gates s := (rfl)
@[simp] theorem gates_putBeacon (c : Nat) (s : State) : gates (putBeacon c s) = gates s := by
  unfold putBeacon
  rw [gates_modTdr, gates_putFrame]

@[simp] theorem gates_putRepeat (c : Nat) (s : State) : gates (putRepeat c s) = gates s := by
  unfold putRepeat
  repeat' split
  all_goals simp

@[simp] theorem gates_putAlloc (c : Nat) (s : State) : gates (putAlloc c s) = gates s := by simp [putAlloc]
@[simp] theorem gates_putOwn (c : Nat) (s : State) : gates (putOwn c s) = gates s := by simp [putOwn]
@[simp] theorem gates_chooseFrames (s : State) : gates (chooseFrames s) = gates s := by
  unfold chooseFrames
  dsimp only
  repeat' split
  all_goals simp

@[simp] theorem gates_align (ofs : Nat) (s : State) : gates (align ofs s) = gates s := by simp [align]
@[simp] theorem gates_listenSpan (l : List (Nat × Nat × Nat)) (s : State) : gates (listenSpan l s) = gates s := by
  unfold listenSpan
  dsimp only
  repeat' split
  all_goals simp

@[simp] theorem gates_takeNext (s : State) : gates (takeNext s) = gates s := by
  unfold takeNext
  dsimp only
  repeat' split
  all_goals simp

@[simp] theorem gates_alignedSpan (x : SpanIn) (s : State) : gates (alignedSpan x s) = gates s := by
  have taken (cs : List Nat) (y : State × Nat) : gates (cs.foldl takeChannel y).1 = gates y.1 := by
    induction cs generalizing y with
    | nil => rfl
    | cons c cs ih => rw [List.foldl_cons, ih, gates_takeChannel]
  unfold alignedSpan
  simp [taken]

@[simp] theorem gates_ownSpan (s : State) : gates (ownSpan s) = gates s := (rfl)

/-! ### Update -/

@[simp] theorem gates_modSlots (i : Nat) (f : FwSet → FwSet) (s : State) : gates (modSlots i f s) = gates s := (rfl)
@[simp] theorem gates_e124 (s : State) : gates (e124 s) = gates s := by simp [e124]
@[simp] theorem gates_emptyStage (s : State) : gates (emptyStage s) = gates s := (rfl)
@[simp] theorem gates_pkgReject (reason : Nat) (s : State) : gates (pkgReject reason s) = gates s := by simp [pkgReject, ↓gates_upd]
@[simp] theorem gates_updDrop (s : State) : gates (updDrop s) = gates s := (rfl)
@[simp] theorem gates_updLost (s : State) : gates (updLost s) = gates s := by simp [updLost]
@[simp] theorem gates_putSelector (c : SelCopy) (s : State) : gates (putSelector c s) = gates s := (rfl)
@[simp] theorem gates_trialBegin (t : Nat) (s : State) : gates (trialBegin t s) = gates s := (rfl)
@[simp] theorem gates_resetBlock (id : Nat) (s : State) : gates (resetBlock id s) = gates s := (rfl)
@[simp] theorem gates_e127 (k : Nat) (l : List Nat) (s : State) : gates (e127 k l s) = gates s := by
  induction k generalizing l s with
  | zero => rfl
  | succ k ih => simp [e127, ih]

@[simp] theorem gates_settingsRule (s : State) : gates (settingsRule s) = gates s := by
  have reset (l : List Nat) :
      gates (l.foldl (fun t i => resetBlock i t) s) = gates s := gates_foldl _ (fun t i => gates_resetBlock i t) l s
  simp [settingsRule, reset]

@[simp] theorem gates_confirmSet (s : State) : gates (confirmSet s) = gates s := by
  simp [confirmSet, ↓gates_upd]

@[simp] theorem gates_revertSet (s : State) : gates (revertSet s) = gates s := by simp [revertSet, ↓gates_upd]

/-! ### Reset -/

@[simp] theorem gates_saveBoth (s : State) : gates (saveBoth s) = gates s := by simp [saveBoth, ↓gates_upd]
@[simp] theorem gates_loseTail (s : State) : gates (loseTail s) = gates s := by
  unfold loseTail
  dsimp only
  split
  · rfl
  · exact gates_upd ..

@[simp] theorem gates_countReset (kind : Nat) (s : State) : gates (countReset kind s) = gates s := by
  unfold countReset
  repeat' split
  all_goals simp [↓gates_upd]

@[simp] theorem gates_tryRelease (s : State) : gates (tryRelease s) = gates s := by simp [tryRelease, ↓gates_upd]
@[simp] theorem gates_e1 (kind cause : Nat) (s : State) : gates (e1 kind cause s) = gates s := by simp [e1]
@[simp] theorem gates_appStart (s : State) : gates (appStart s) = gates s := by simp [appStart, ↓gates_upd]
@[simp] theorem gates_bootRecords (straps : Nat) (s : State) : gates (bootRecords straps s) = gates s := by simp [bootRecords, ↓gates_upd]
@[simp] theorem gates_bootMeasure (s : State) : gates (bootMeasure s) = gates s := by simp [bootMeasure, ↓gates_upd]
@[simp] theorem gates_bootTime (s : State) : gates (bootTime s) = gates s := by simp [bootTime, ↓gates_upd]
@[simp] theorem gates_reraise (s : State) : gates (reraise s) = gates s := by
  have degraded (u : State) :
      gates ((units 9).foldl (fun t g => if vget t.nvFe.degraded g then setDegraded g.1 true t else t) u) = gates u :=
    gates_foldl _ (fun t g => by simp) _ u
  unfold reraise
  simp

@[simp] theorem gates_bootMetering (s : State) : gates (bootMetering s) = gates s := by
  unfold bootMetering
  rw [gates_checkAtStart, gates_startMeters]
  simp [gates, Function.comp_def, pathOf]

@[simp] theorem gates_markOutage (s : State) : gates (markOutage s) = gates s := (rfl)
@[simp] theorem gates_bootBilling (s : State) : gates (bootBilling s) = gates s := by simp [bootBilling, ↓gates_upd]
@[simp] theorem gates_bootLegal (s : State) : gates (bootLegal s) = gates s := by simp [bootLegal, ↓gates_upd]
@[simp] theorem gates_bootAntennas (s : State) : gates (bootAntennas s) = gates s := by
  refine gates_foldl _ (fun t k => ?_) _ _
  repeat' split
  all_goals simp

@[simp] theorem gates_bootApplication (s : State) : gates (bootApplication s) = gates s := by
  unfold bootApplication
  simp [↓gates_upd]

@[simp] theorem gates_boot (straps : Nat) (test : Bool) (s : State) : gates (boot straps test s) = gates s := by simp [boot, ↓gates_upd]
@[simp] theorem gates_hlcLost (n : Fin 8) (s : State) : gates (hlcLost n s) = gates s := (rfl)
@[simp] theorem gates_armX1 (n : Fin 8) (s : State) : gates (armX1 n s) = gates s := by simp [armX1]
@[simp] theorem gates_dropReqs (s : State) : gates (dropReqs s) = gates s := (rfl)
@[simp] theorem gates_resetA (s : State) : gates (resetA s) = gates s := by simp [resetA, ↓gates_upd]
@[simp] theorem gates_resetP (u : Nat) (s : State) : gates (resetP u s) = gates s := by simp [resetP, ↓gates_upd]
@[simp] theorem gates_resetT (s : State) : gates (resetT s) = gates s := by simp [resetT, ↓gates_upd]
@[simp] theorem gates_resetK (s : State) : gates (resetK s) = gates s := (rfl)
@[simp] theorem gates_startT (s : State) : gates (startT s) = gates s := by simp [startT, ↓gates_upd]
@[simp] theorem gates_resetChannels (s : State) : gates (resetChannels s) = gates s := by simp [resetChannels, ↓gates_upd]
@[simp] theorem gates_e2 (unit : Nat) (on esc : Bool) (s : State) : gates (e2 unit on esc s) = gates s := by simp [e2]
@[simp] theorem gates_blockOver (s : State) : gates (blockOver s) = gates s := (gates_of_quiet (quiet_blockOver s)).trans rfl
@[simp] theorem gates_warmEnter (cause : Nat) (s : State) : gates (warmEnter cause s) = gates s := by simp [warmEnter, ↓gates_upd]
@[simp] theorem gates_reqWarm (cause : Nat) (s : State) : gates (reqWarm cause s) = gates s := by simp [reqWarm, ↓gates_upd]
@[simp] theorem gates_reqBlock (unit : Nat) (s : State) : gates (reqBlock unit s) = gates s := by simp [reqBlock, ↓gates_upd]
@[simp] theorem gates_blockReach (unit : Nat) (s : State) : gates (blockReach unit s) = gates s := by
  unfold blockReach
  repeat' split
  all_goals simp

@[simp] theorem gates_blockStart (unit : Nat) (s : State) : gates (blockStart unit s) = gates s := by
  unfold blockStart
  dsimp only
  repeat' split
  all_goals simp [↓gates_upd]

/-! ### Power -/

@[simp] theorem gates_e0 (src : Nat) (on : Bool) (s : State) : gates (e0 src on s) = gates s := by simp [e0]
@[simp] theorem gates_writeAll (k : Nat) (s : State) : gates (writeAll k s) = gates s := by
  induction k generalizing s with
  | zero => rfl
  | succ k ih => simp [writeAll, ih]

@[simp] theorem gates_stopLocks (s : State) : gates (stopLocks s) = gates s := (rfl)
@[simp] theorem gates_followAllowed (s : State) : gates (followAllowed s) = gates s := (rfl)
@[simp] theorem gates_e4Rtc (on : Bool) (s : State) : gates (e4Rtc on s) = gates s := gates_level _ _ _ _ _
@[simp] theorem gates_e6 (k : Nat) (on : Bool) (s : State) : gates (e6 k on s) = gates s := gates_level _ _ _ _ _

/-! ### Packet -/

@[simp] theorem gates_spiXfer (more : List Byte) (s : State) : gates (spiXfer more s) = gates s := (rfl)
@[simp] theorem gates_spiFloat (n : Nat) (s : State) : gates (spiFloat n s) = gates s := (rfl)

/-! ### Idle -/

@[simp] theorem gates_tickTime (s : State) : gates (tickTime s) = gates s := (rfl)
@[simp] theorem gates_tick (s : State) : gates (tick s) = gates s := by simp [tick, ↓gates_upd]

end Sys2Proof.Laws

namespace Sys2Proof.Laws

open Sys2Proof Sys2Proof.Machine

/-! ## What brings no barred path on (R231, R233, R236) -/

section
variable {a : Gates} {s : State}

theorem within_of_gates {t : State} (h : Within a (gates s)) (eq : gates t = gates s) : Within a (gates t) := eq ▸ h

@[simp] theorem within_ite (c : Prop) [Decidable c] (x y : Gates) :
    Within a (if c then x else y) ↔ if c then Within a x else Within a y := by
  split
  all_goals rfl

theorem within_foldl {β : Type} (g : State → β → State) (step : ∀ t b, Within a (gates t) → Within a (gates (g t b))) (l : List β)
    (s : State) (h : Within a (gates s)) : Within a (gates (l.foldl g s)) := by
  induction l generalizing s with
  | nil => exact h
  | cons b l ih => exact ih _ (step s b h)

/-- A change of what the safety pair holds of a point keeps the point off, or concerns a point that is not held off. -/
theorem within_modSafe (h : Within a (gates s)) (n : Fin 8) (f : Safe → Safe)
    (stays : a.Barred n → a.Off n → PathsOff s n →
      (f (saf s n)).coil = false ∧ (f (saf s n)).cut = false ∧ (f (saf s n)).path = 0) :
    Within a (gates (modSafe n f s)) where
  member := h.member
  safeState := h.safeState
  out := h.out
  off m barred off := by
    have off' := (pathsOff_iff s m).2 (h.off m barred off)
    rw [← pathsOff_iff]
    by_cases own : m = n
    · subst own
      simpa [PathsOff, saf, modSafe] using stays barred off off'
    · simpa [PathsOff, saf, modSafe, vget_vmod_other _ _ _ _ own] using off'

section
variable (h : Within a (gates s))
include h

/-! ### Paths go off -/

@[simp] theorem within_openCoil (n : Fin 8) : Within a (gates (openCoil n s)) := by
  have coil : Within a (gates (match coilOf s n with | some c => chanOff c s | none => s)) := by
    split
    all_goals simpa using h
  unfold openCoil
  dsimp only
  split
  · exact h
  · exact within_modSafe coil n _ fun _ _ off => ⟨rfl, off.2.1, rfl⟩

@[simp] theorem within_cutLow (n : Fin 8) : Within a (gates (cutLow n s)) :=
  within_modSafe h n _ fun _ _ off => ⟨off.1, rfl, off.2.2⟩

@[simp] theorem within_coilStep (n : Fin 8) : Within a (gates (coilStep n s)) := by
  have coil : Within a (gates (match coilOf s n with | some c => chanOff c s | none => s)) := by
    split
    all_goals simpa using h
  exact within_modSafe coil n _ fun _ _ off => ⟨rfl, off.2.1, off.2.2⟩

@[simp] theorem within_confirmClosing (n : Fin 8) : Within a (gates (confirmClosing n s)) := by
  have seen : Within a (gates (modSafe n (fun x => { x with lsvSeen := x.lsvSeen || (x.path == 3 && lsvWithin s n 7) }) s)) := by
    simpa using h
  unfold confirmClosing
  dsimp only
  split
  · rw [gates_modSess]
    exact within_modSafe seen n _ fun _ _ off => ⟨off.1, off.2.1, rfl⟩
  · exact seen

theorem within_outputsOff : Within a (gates (outputsOff s)) where
  member := h.member
  safeState := h.safeState
  out := h.out
  off m _ _ := by simp [← pathsOff_iff, PathsOff, saf, outputsOff]

@[simp] theorem within_endNow (n : Fin 8) (r : EndReason) : Within a (gates (endNow n r s)) := by
  simp [endNow, h]

@[simp] theorem within_endSoft (n : Fin 8) (r : EndReason) : Within a (gates (endSoft n r s)) := by
  unfold endSoft
  split
  all_goals simp [h]

@[simp] theorem within_rampCheck (n : Fin 8) : Within a (gates (rampCheck n s)) := by
  unfold rampCheck
  dsimp only
  split
  all_goals simp [h]

@[simp] theorem within_setOos (n : Fin 8) (i : Nat) : Within a (gates (setOos n i s)) := by
  unfold setOos
  dsimp only
  split
  · exact within_endSoft (by simp [h]) n .outOfService
  · simp [h]

@[simp] theorem within_basicPath (n : Fin 8) : Within a (gates (basicPath n s)) := by
  simp [basicPath, h]

@[simp] theorem within_tripPoint (n : Fin 8) (c l : BitVec 32) : Within a (gates (tripPoint n c l s)) := by
  unfold tripPoint
  dsimp only
  apply within_endNow
  rw [gates_dropCut]
  apply within_openCoil
  simp [h]

@[simp] theorem within_leaveC (n : Fin 8) : Within a (gates (leaveC n s)) := by
  simp [leaveC, h]

@[simp] theorem within_genFaultNow (n : Fin 8) : Within a (gates (genFaultNow n s)) := by
  refine within_setOos ?_ n 1
  simp [h]

@[simp] theorem within_genCheck (n : Fin 8) : Within a (gates (genCheck n s)) := by
  simp [genCheck, h]

@[simp] theorem within_pilotError (n : Fin 8) : Within a (gates (pilotError n s)) := by
  exact within_tripPoint (by simp [h]) n (cause 6) 0

@[simp] theorem within_inStateA (n : Fin 8) : Within a (gates (inStateA n s)) := by
  simp [inStateA, h]

@[simp] theorem within_inStateB (n : Fin 8) (x : Bool) : Within a (gates (inStateB n x s)) := by
  unfold inStateB
  dsimp only
  split
  all_goals
    simp [h]

@[simp] theorem within_acceptState (n : Fin 8) (c : PilotSt) : Within a (gates (acceptState n c s)) := by
  unfold acceptState
  extract_lets prev s1 s2 s3 s4 s5
  have k1 : Within a (gates s1) := by simp [s1, h]
  have k3 : Within a (gates s3) := by simp [s3, s2, k1]
  have k5 : Within a (gates s5) := by simp [s5, s4, k3]
  clear_value s5
  split
  · exact k5
  · rename_i s6 s7 _
    have k6 : Within a (gates s6) := by simp [s6, k5]
    have k7 : Within a (gates s7) := by simp [s7, k6]
    cases c
    all_goals simp [k7]

@[simp] theorem within_accept0 (n : Fin 8) : Within a (gates (accept0 n s)) := by
  unfold accept0
  dsimp only
  repeat' split
  all_goals simp [h]

@[simp] theorem within_takeState1 (n : Fin 8) (c : PilotSt) : Within a (gates (takeState1 n c s)) := by
  simp [takeState1, h]

@[simp] theorem within_accept1 (n : Fin 8) : Within a (gates (accept1 n s)) := by
  unfold accept1
  dsimp only
  repeat' split
  all_goals simp [h]

@[simp] theorem within_pilotAccept (n : Fin 8) : Within a (gates (pilotAccept n s)) := by
  simp [pilotAccept, h]

@[simp] theorem within_takeCode (n : Fin 8) (c : Nat) : Within a (gates (takeCode n c s)) := by
  simp [takeCode, h]

theorem within_ptApply : Within a (gates (ptApply s)) := by
  unfold ptApply
  split
  · exact h
  · rename_i f _
    have each := within_foldl (a := a) (fun t n => followSig n (basicPath n (tethered n t))) (fun t n ht => by simp [ht])
      (maskPoints (u16 0 f.pkt.payload)) (commitCopies (takenBy s f) s) (by simp [h])
    simp [each]

@[simp] theorem within_coilFail (c : Fin 24) : Within a (gates (coilFail c s)) := by
  unfold coilFail
  repeat' split
  all_goals simp [↓gates_upd, h]

@[simp] theorem within_coilFinding (c : Fin 24) : Within a (gates (coilFinding c s)) := by
  simp [coilFinding, h]

@[simp] theorem within_channelTrip (c : Fin 24) (d m : Nat) : Within a (gates (channelTrip c d m s)) := by
  unfold channelTrip
  dsimp only
  repeat' split
  all_goals simp [h]

@[simp] theorem within_uvChannel (c : Fin 24) : Within a (gates (uvChannel c s)) := by
  unfold uvChannel
  dsimp only
  split
  · exact h
  · split
    all_goals simp [h]

@[simp] theorem within_lockFailed (n : Fin 8) : Within a (gates (lockFailed n s)) := by
  unfold lockFailed
  dsimp only
  split
  all_goals simp [h]

@[simp] theorem within_supplyExhausted : Within a (gates (supplyExhausted s)) := by
  have soft := within_foldl (fun t n => endSoft n .supplyCredit t) (fun t n ht => by simp [ht]) (points s) s h
  simp [supplyExhausted, soft]

@[simp] theorem within_prepay (m : Fin 9) : Within a (gates (prepay m s)) := by
  unfold prepay
  dsimp only
  repeat' split
  all_goals simp [h]

@[simp] theorem within_classify84 (m : Fin 9) (t : Nat) : Within a (gates (classify84 m t s)) := by
  unfold classify84
  dsimp only
  repeat' split
  all_goals simp [h]

@[simp] theorem within_direction (m : Fin 9) (v : MtrVals) (w : WinSum) : Within a (gates (direction m v w s)) := by
  unfold direction
  dsimp only
  repeat' split
  all_goals simp [h]

@[simp] theorem within_winDeliver (m : Fin 9) (t : Nat) (w : WinSum) : Within a (gates (winDeliver m t w s)) := by
  unfold winDeliver
  dsimp only
  repeat' split
  all_goals simp [h]

@[simp] theorem within_windowCloseAt (m : Fin 9) (e : Nat) (p : Option Nat) : Within a (gates (windowCloseAt m e p s)) := by
  simp [windowCloseAt, h]

@[simp] theorem within_windowClose (m : Fin 9) : Within a (gates (windowClose m s)) := by
  simp [windowClose, h]

@[simp] theorem within_creditOp (m : Fin 9) (o k : Nat) : Within a (gates (creditOp m o k s)) := by
  unfold creditOp
  split
  all_goals simp [h]

@[simp] theorem within_setSensorFault (n : Fin 8) (v : Int) : Within a (gates (setSensorFault n v s)) := by
  simp [setSensorFault, h]

@[simp] theorem within_residual (n : Fin 8) (x : PtIn) : Within a (gates (Machine.residual n x s)) := by
  unfold Machine.residual
  dsimp only
  repeat' split
  all_goals simp [h]

@[simp] theorem within_testEnd (n : Fin 8) (f : Nat) : Within a (gates (testEnd n f s)) := by
  unfold testEnd
  dsimp only
  split
  all_goals simp [h]

@[simp] theorem within_isoValid (n : Fin 8) (st r p q u : Nat) : Within a (gates (isoValid n st r p q u s)) := by
  simp [isoValid, h]

@[simp] theorem within_isoCycle (n : Fin 8) (v0 : Nat × Nat) (vp vn : Nat) : Within a (gates (isoCycle n v0 vp vn s)) := by
  unfold isoCycle
  extract_lets u0 u1 diff s1 b ref
  have k1 : Within a (gates s1) := by simp [s1, h]
  clear_value s1
  split
  · exact k1
  · split
    all_goals simp [k1]

@[simp] theorem within_stopSession (n : Fin 8) : Within a (gates (stopSession n s)) := by
  simp [stopSession, h]

@[simp] theorem within_decide1 (n : Fin 8) (ty : Nat) (id : List Byte) (card : Bool) (k : Nat) :
    Within a (gates (decide1 n ty id card k s)) := by
  unfold decide1
  dsimp only
  repeat' split
  all_goals simp [h]
end
end

end Sys2Proof.Laws

namespace Sys2Proof.Laws

open Sys2Proof Sys2Proof.Machine

section
variable {a : Gates} {s : State}

theorem within_choice (c : Prop) [Decidable c] {x y : State} (hx : Within a (gates x)) (hy : Within a (gates y)) :
    Within a (gates (if c then x else y)) := by
  split
  all_goals assumption

theorem within_foldl_mem {β : Type} (g : State → β → State) (l : List β)
    (step : ∀ t, ∀ b ∈ l, Within a (gates t) → Within a (gates (g t b))) (s : State) (h : Within a (gates s)) :
    Within a (gates (l.foldl g s)) := by
  induction l generalizing s with
  | nil => exact h
  | cons b l ih => exact ih (fun t c mem => step t c (List.mem_cons_of_mem b mem)) _ (step s b List.mem_cons_self h)

/-- A point present is not barred while the safe state does not stand. -/
theorem free_of_present {n : Fin 8} (h : Within a (gates s)) (there : n.1 < a.member.points) (calm : s.safeDev.safeState = false) :
    ¬ a.Barred n := by
  have same : s.safeDev.safeState = a.safeState := h.safeState
  rw [Gates.Barred, ← same, calm]
  simpa using there

/-- A point whose path test runs was not held off. -/
theorem free_of_test {n : Fin 8} (h : Within a (gates s)) (test : (saf s n).path ≠ 0) (barred : a.Barred n) : ¬ a.Off n := fun off =>
  test ((pathsOff_iff s n).2 (h.off n barred off)).2.2

theorem there_of_mem {n : Fin 8} (h : Within a (gates s)) (mem : n ∈ points s) : n.1 < a.member.points := by
  have same : s.member = a.member := h.member
  simpa [hasPoint, same] using (List.mem_filter.1 mem).2

theorem safeState_of_closable {t : State} {n : Fin 8} (ready : closable t n = true) : t.safeDev.safeState = false := by
  simp only [closable, forcedF, Bool.and_eq_true, Bool.not_eq_true', Bool.or_eq_false_iff] at ready
  tauto

section
variable (h : Within a (gates s))
include h

@[simp] theorem within_flowDrain (n : Fin 8) (l : List (Nat × List Byte × Bool × Nat)) : Within a (gates (flowDrain n l s)) := by
  induction l generalizing s with
  | nil => exact h
  | cons w ws ih =>
    unfold flowDrain
    split
    · simp [h]
    · exact ih (by simp [h])

@[simp] theorem within_flowNext (n : Fin 8) : Within a (gates (flowNext n s)) := within_flowDrain h n _
@[simp] theorem within_enterFlow (n : Fin 8) (ty : Nat) (id : List Byte) (card : Bool) (k : Nat) :
    Within a (gates (enterFlow n ty id card k s)) := by
  simp [enterFlow, h]

@[simp] theorem within_ambiguous (k j : Fin 8) (ty : Nat) (id : List Byte) : Within a (gates (ambiguous k j ty id s)) := by
  simp [ambiguous, h]

@[simp] theorem within_pollFlow (k : Fin 8) (ids : List (Nat × List Byte × Bool)) (old : List (Nat × List Byte)) :
    Within a (gates (pollFlow k ids old s)) := by
  unfold pollFlow
  dsimp only
  repeat' split
  all_goals simp [h]

@[simp] theorem within_modemBad (n : Fin 8) : Within a (gates (modemBad n s)) := by
  unfold modemBad
  dsimp only
  repeat' split
  all_goals simp [h]

@[simp] theorem within_contractAuth (n : Fin 8) (id : List Byte) : Within a (gates (contractAuth n id s)) := by
  simp [contractAuth, h]

@[simp] theorem within_stepLate (n : Fin 8) : Within a (gates (stepLate n s)) := by
  simp [stepLate, h]

@[simp] theorem within_psFaultSet (n : Fin 8) (f v : Nat) : Within a (gates (psFaultSet n f v s)) := by
  simp [psFaultSet, psFaultSet.endIf, h]

@[simp] theorem within_rxPoint (f : Fin 24) (d : List Byte) (n : Fin 8) : Within a (gates (rxPoint f d n s)) := by
  unfold rxPoint
  extract_lets sigs fault tout s1 s2 s3
  have k1 : Within a (gates s1) := by simp [s1, h]
  have k2 : Within a (gates s2) := by simp [s2, k1]
  have k3 : Within a (gates s3) := by simp [s3, k2]
  simp [k3]

/-! ### Paths come on -/

section
variable {n : Fin 8} (free : a.Barred n → ¬ a.Off n)
include free

theorem within_modSafe_free (f : Safe → Safe) : Within a (gates (modSafe n f s)) :=
  within_modSafe h n f fun barred off _ => absurd off (free barred)

theorem within_coilOn : Within a (gates (coilOn n s)) := by
  refine within_modSafe_free ?_ free _
  split
  all_goals simpa using h

theorem within_path1 : Within a (gates (path1 n s)) :=
  within_modSafe_free (within_coilStep (within_modSafe_free h free _) n) free _

theorem within_path2 : Within a (gates (path2 n s)) :=
  within_coilOn (within_cutLow (within_modSafe_free h free _) n) free

theorem within_path3 : Within a (gates (path3 n s)) :=
  within_modSafe_free (within_coilOn (within_modSafe_free (within_coilStep (within_modSafe_free h free _) n) free _) free) free _
end

theorem within_tryClosing {n : Fin 8} (there : n.1 < a.member.points) : Within a (gates (tryClosing n s)) := by
  unfold tryClosing
  extract_lets x t
  have k : Within a (gates t) := by simp [t, h]
  split
  · exact h
  · split
    · next ready =>
      have calm := safeState_of_closable (Bool.and_eq_true_iff.1 ready).1
      exact within_path1 k fun barred => absurd barred (free_of_present k there calm)
    · exact k

theorem within_cyclePoint {n : Fin 8} (there : n.1 < a.member.points) (x : PtIn) : Within a (gates (cyclePoint n x s)) := by
  have closing := within_tryClosing (s := exchange n (autoReset n (evaluate n x (compCycle n (Machine.residual n x s)))))
    (by simp [h]) there
  simp [cyclePoint, closing]

theorem within_safetyCycle (pts : List PtIn) (npe : Int) : Within a (gates (safetyCycle pts npe s)) := by
  unfold safetyCycle
  extract_lets run s1 s2 s3
  have k1 : Within a (gates s1) := by
    rw [show gates s1 = gates s from gates_safeDev _ _ rfl]
    exact h
  have k2 : Within a (gates s2) := by simp [s2, k1]
  have k3 : Within a (gates s3) :=
    within_foldl_mem _ _ (fun t n mem ht => within_cyclePoint ht (there_of_mem k2 mem) _) _ k2
  simp [↓gates_upd, k3]

@[simp] theorem within_pathCleared (n : Fin 8) : Within a (gates (pathCleared n s)) := by
  have test : Within a (gates (modSafe n (fun x => { x with path := 0, pathOnly := false, cutBad := 0 }) s)) :=
    within_modSafe h n _ fun _ _ off => ⟨off.1, off.2.1, rfl⟩
  simp [pathCleared, test]

@[simp] theorem within_pathFailed (n : Fin 8) (k : Nat) : Within a (gates (pathFailed n k s)) := by
  have low := within_cutLow (within_openCoil h n) n
  simp [pathFailed, low]

@[simp] theorem within_weldNow (n : Fin 8) : Within a (gates (weldNow n s)) := by
  unfold weldNow
  extract_lets s1 s2 s3
  have k3 : Within a (gates s3) := by simp [s3, s2, s1, h]
  simp [k3]

theorem within_closeAll : Within a (gates (closeAll s)) :=
  within_foldl _ (fun t m ht => by simp [ht]) _ _ (by simp [h])

theorem within_saveSteps : Within a (gates (saveSteps s)) := by
  simp [saveSteps, within_closeAll, h]

theorem within_savePlanned : Within a (gates (savePlanned s)) := by
  unfold savePlanned
  split
  · simpa [↓gates_upd] using within_saveSteps h
  · exact h

theorem within_powerFail (k : Nat) : Within a (gates (powerFail k s)) := by
  have off := within_outputsOff (show Within a (gates { s with pwr.pfwSrc := some k, pwr.pfwAt := s.clk.mono }) from h)
  have saved := within_saveSteps (a := a) (s := e0 k true { s with pwr.pfwSrc := some k, pwr.pfwAt := s.clk.mono, pwr.phase := .pfwSeq })
    (by simpa [↓gates_upd] using h)
  unfold powerFail
  dsimp only
  repeat' split
  · simpa [↓gates_upd] using off
  · simpa [↓gates_upd] using off
  · simpa [↓gates_upd] using saved
  · exact h

theorem within_mainsHalf (x : Bool) : Within a (gates (mainsHalf x s)) := by
  unfold mainsHalf
  dsimp only
  split
  · exact h
  · exact within_choice _ (within_powerFail (by exact h) 1) (by exact h)

theorem within_halfEnd (i : Fin 72) (t : Nat) (up x : Bool) : Within a (gates (halfEnd i t up x s)) := by
  unfold halfEnd
  extract_lets r tr s1 s2 s3 s4
  have k3 : Within a (gates s3) := by simp [s3, s2, s1, h]
  have k4 : Within a (gates s4) := by
    simp only [s4]
    split
    · exact within_mainsHalf k3 x
    · exact k3
  simp [k4]
end
end

end Sys2Proof.Laws

namespace Sys2Proof.Laws

open Sys2Proof Sys2Proof.Machine

/-! ## What a reset does to the gates (R150, R231) -/

/-- The point outputs are those of `s`, no barred path has come on, or a cold reset has put everything off. -/
def Safely (s t : State) : Prop := Within (gates s) (gates t) ∨ AllOff t

/-- The instruction runs to such a state. -/
def Keeps (s : State) (o : Host.Outcome State Fault Refusal) : Prop := ∃ t, o = .next t ∧ Safely s t

section
variable {s t u : State}

theorem safely_coldBase (p : PhaseKind) : Safely s (coldBase p t) := .inr (coldBase_allOff p t)
theorem safely_coldEnter (k c : Nat) : Safely s (coldEnter k c t) := by
  unfold coldEnter
  exact safely_coldBase _

theorem safely_coldReset (k c : Nat) (h : Within (gates s) (gates t)) : Safely s (coldReset k c t) := by
  unfold coldReset
  split
  · exact .inl h
  · exact .inl (by simp [h])
  · split
    all_goals exact .inl (by simp [↓gates_upd, h])
  · exact safely_coldEnter k c

theorem safely_trialReset (c : Nat) (h : gates t = gates s) : Safely s (trialReset c t) := by
  unfold trialReset
  dsimp only
  split
  · exact safely_coldEnter 0 4
  · exact .inl (by simp [h])

theorem safely_warmReset (c : Nat) (h : gates t = gates s) : Safely s (warmReset c t) := by
  unfold warmReset
  split
  · exact safely_trialReset c h
  · exact .inl (by simp [h])

theorem safely_of_gates (h : gates t = gates s) : Safely s t := .inl (by simp [h])
theorem safely_choice (c : Prop) [Decidable c] (ht : c → Safely s t) (hu : ¬ c → Safely s u) : Safely s (if c then t else u) := by
  split
  · exact ht ‹_›
  · exact hu ‹_›

theorem keeps_next (h : Safely s t) : Keeps s (.next t) := ⟨t, rfl, h⟩
theorem keeps_of_gates (h : gates t = gates s) : Keeps s (.next t) := keeps_next (safely_of_gates h)
theorem keeps_of_within (h : Within (gates s) (gates t)) : Keeps s (.next t) := keeps_next (.inl h)
end

/-! ## Instructions that touch gates -/
section
variable (s : State)
theorem keeps_powerOn (mv : Nat) (lost : Bool) : Keeps s (execPowerOn mv lost s) :=
  keeps_next (safely_choice _ (fun _ => .inl (within_refl _)) fun _ => safely_coldEnter 0 0)

theorem keeps_vsysInvalid (mv : Nat) : Keeps s (execVsysInvalid mv s) :=
  keeps_next (safely_choice _ (fun _ => .inl (within_refl _)) fun _ => safely_coldBase .off)

theorem keeps_vioInvalid : Keeps s (execVioInvalid s) :=
  keeps_next (safely_choice _ (fun _ => .inl (within_refl _)) fun _ =>
    safely_choice _ (fun _ => .inl (within_refl _)) fun _ => safely_coldReset 0 1 (within_refl _))

theorem keeps_resetNPin (low : Bool) : Keeps s (execResetNPin low s) :=
  keeps_next (safely_choice _ (fun _ => .inl (within_refl _)) fun _ =>
    safely_choice _ (fun _ => safely_coldReset 1 5 (within_refl _)) fun _ => safely_of_gates (by simp [↓gates_upd]))

theorem keeps_pfwRecovered : Keeps s (execPfwRecovered s) :=
  keeps_next (safely_choice _ (fun _ => safely_coldReset 0 2 (within_refl _)) fun _ => .inl (within_refl _))

theorem keeps_shelfWake : Keeps s (execShelfWake s) :=
  keeps_next (safely_choice _ (fun _ => safely_coldReset 0 3 (within_refl _)) fun _ => .inl (within_refl _))

theorem keeps_warmReset : Keeps s (execWarmReset s) := by
  refine keeps_next ?_
  split
  · exact safely_choice _ (fun _ => safely_warmReset _ rfl) fun _ => .inl (within_refl _)
  · exact .inl (within_refl _)

theorem keeps_blockResetBegin : Keeps s (execBlockResetBegin s) := by
  refine keeps_next ?_
  split
  · refine safely_choice _ (fun _ => .inl (within_refl _)) fun _ => safely_choice _ (fun _ => ?_) fun _ => ?_
    · exact safely_trialReset 7 (by simp [↓gates_upd])
    · exact safely_of_gates (by simp [↓gates_upd])
  · exact .inl (within_refl _)

theorem keeps_pwrResetExecute : Keeps s (execPwrResetExecute s) := by
  refine keeps_next ?_
  split
  · exact .inl (within_refl _)
  · refine safely_choice _ (fun _ => .inl (within_refl _)) fun _ => ?_
    dsimp only
    split
    · exact safely_of_gates (by simp [↓gates_upd])
    · exact safely_of_gates (by simp [↓gates_upd])
    · exact safely_coldReset 0 4 (within_savePlanned (by simp [↓gates_upd]))
    · exact safely_coldBase .shelf

theorem keeps_updActivation : Keeps s (execUpdActivation s) := by
  refine keeps_next ?_
  split
  · exact .inl (within_refl _)
  · exact safely_choice _ (fun _ => .inl (within_refl _)) fun _ =>
      safely_choice _ (fun _ => safely_coldEnter 0 4) fun _ => safely_of_gates (by simp)

theorem keeps_trialFailure : Keeps s (execTrialFailure s) :=
  keeps_next (safely_choice _ (fun _ => .inl (within_refl _)) fun _ =>
    safely_choice _ (fun _ => safely_coldEnter 0 4) fun _ => safely_of_gates (by simp))

theorem keeps_trialConfirmTimeout : Keeps s (execTrialConfirmTimeout s) :=
  keeps_next (safely_choice _ (fun _ => .inl (within_refl _)) fun _ =>
    safely_choice _ (fun _ => safely_of_gates (by simp)) fun _ => safely_choice _ (fun _ =>
      safely_choice _ (fun _ => safely_coldEnter 0 4) fun _ => safely_of_gates (by simp)) fun _ => .inl (within_refl _))
end

end Sys2Proof.Laws

namespace Sys2Proof.Laws

open Sys2Proof Sys2Proof.Machine

/-! ## Instructions of the device -/

theorem gates_chuckGet {s : State} {key : Nat} {r : Fin 64 × State} (got : chuckGet key s = some r) : gates r.2 = gates s := by
  unfold chuckGet at got
  split at got
  · obtain rfl := Option.some.inj got
    simp
  · split at got
    · obtain rfl := Option.some.inj got
      simp
    · obtain ⟨i, -, rfl⟩ := Option.map_eq_some_iff.1 got
      simp

section
variable (s : State)

/-! ### Pilot -/

theorem keeps_pilotStateAccept (n : Fin 8) : Keeps s (execPilotStateAccept n s) := keeps_of_within (by simp)
theorem keeps_pilotStateInvalid (n : Fin 8) : Keeps s (execPilotStateInvalid n s) := keeps_of_within (by simp)
theorem keeps_diodeFault (n : Fin 8) : Keeps s (execDiodeFault n s) := by
  have noted : gates (pilotNote n (modPilot n fun p => { p with diodeFault := true }) s) = gates s := by simp
  exact keeps_of_within (within_choice _ (within_pilotError (by simp [noted]) n) (within_refl _))

theorem keeps_pilotErrorHoldEnd (n : Fin 8) : Keeps s (execPilotErrorHoldEnd n s) := keeps_of_gates (by simp)
theorem keeps_proximityAccept (n : Fin 8) (mv : List Nat) : Keeps s (execProximityAccept n mv s) := keeps_of_within (by simp)
theorem keeps_dutyIncreaseDue (n : Fin 8) : Keeps s (execDutyIncreaseDue n s) := by
  refine keeps_of_gates ?_
  repeat' split
  all_goals simp

theorem keeps_overcurrent (n : Fin 8) : Keeps s (execOvercurrent n s) := by
  have noted : gates (pilotNote n (modPilot n fun p => { p with overcur := true, ocSince := none }) s) = gates s := by simp
  exact keeps_of_within (within_choice _ (within_endNow (by simp [noted]) n .safetyTrip) (within_refl _))

theorem keeps_hlcFallback (n : Fin 8) : Keeps s (execHlcFallback n s) := keeps_of_gates (by simp)
theorem keeps_ptCommitApply : Keeps s (execPtCommitApply s) :=
  keeps_of_within (within_ptApply (within_refl _))

/-! ### Switch -/

theorem keeps_shortCircuit (c : Fin 32) (ma : Nat) : Keeps s (execShortCircuit c ma s) := by
  refine keeps_of_within ?_
  repeat' split
  all_goals simp

theorem keeps_channelOvercurrent (c : Fin 24) (ma us : Nat) : Keeps s (execChannelOvercurrent c ma us s) := keeps_of_within (by simp)
theorem keeps_channelThermal (c : Fin 32) (temp : Int) : Keeps s (execChannelThermal c temp s) := by
  refine keeps_of_within ?_
  repeat' split
  all_goals simp

theorem keeps_supplyUnderVoltage (mv us : Nat) : Keeps s (execSupplyUnderVoltage mv us s) :=
  keeps_of_within (within_choice _ (within_foldl _ (fun t c ht => by simp [ht]) _ _ (by simp [↓gates_upd])) (within_refl _))

theorem keeps_underVoltageRelease (mv us : Nat) : Keeps s (execUnderVoltageRelease mv us s) := keeps_of_gates (by simp [↓gates_upd])
theorem keeps_inrushWindowEnd (c : Fin 24) : Keeps s (execInrushWindowEnd c s) := keeps_of_gates (by simp)
theorem keeps_restartEvaluation (c : Fin 24) (temp : Int) : Keeps s (execRestartEvaluation c temp s) := keeps_of_gates (by simp)
theorem keeps_retryCounterDecay (c : Fin 24) : Keeps s (execRetryCounterDecay c s) := keeps_of_gates (by simp)
theorem keeps_offStateTest (c : Fin 32) (mv mvB : Nat) : Keeps s (execOffStateTest c mv mvB s) := by
  refine keeps_of_gates ?_
  repeat' split
  all_goals simp

theorem keeps_onStateOpenLoad (c : Fin 24) (ma us : Nat) : Keeps s (execOnStateOpenLoad c ma us s) := keeps_of_within (by simp)
theorem keeps_economiserUpdate (c : Fin 24) (mv : Nat) : Keeps s (execEconomiserUpdate c mv s) := keeps_of_gates (by simp)
theorem keeps_feedbackChange (k : Fin 16) (high : Bool) (us0 us1 : Nat) :
    Keeps s (execFeedbackChange k high us0 us1 s) :=
  keeps_of_gates (by simp [↓gates_upd])
theorem keeps_lockOperation (n : Fin 8) : Keeps s (execLockOperation n s) := keeps_of_gates (by simp)
theorem keeps_lockDriveEnd (n : Fin 8) (ma us : Nat) : Keeps s (execLockDriveEnd n ma us s) := keeps_of_gates (by simp)
theorem keeps_lockConfirm (n : Fin 8) (high : Bool) (us : Nat) : Keeps s (execLockConfirm n high us s) := keeps_of_within (by simp)
theorem keeps_lockLost (n : Fin 8) (high : Bool) (us : Nat) : Keeps s (execLockLost n high us s) := keeps_of_within (by simp)
theorem keeps_limpHomeChange (lhEn refreshed : Bool) :
    Keeps s (execLimpHomeChange lhEn refreshed s) :=
  keeps_of_gates (by simp [↓gates_upd])
theorem keeps_appRefreshTimeout : Keeps s (execAppRefreshTimeout s) := keeps_of_gates (by simp [↓gates_upd])
theorem keeps_lhInputChange (k : Fin 4) (high : Bool) : Keeps s (execLhInputChange k high s) := keeps_of_gates (by simp [↓gates_upd])

/-! ### Credit -/

theorem keeps_ppAuxCheck : Keeps s (execPpAuxCheck s) := by
  refine keeps_of_gates ?_
  dsimp only
  repeat' split
  all_goals simp [↓gates_upd]

/-! ### FrontEnd -/

theorem keeps_rotationSlotStart (x : SlotMeas) : Keeps s (execRotationSlotStart x s) := keeps_of_gates (by simp)
theorem keeps_modulatorFault (m : Fin 72) (e : ModEvidence) : Keeps s (execModulatorFault m e s) := keeps_of_gates (by simp)
theorem keeps_modulatorOverdue (m : Fin 72) : Keeps s (execModulatorOverdue m s) := keeps_of_gates (by simp)
theorem keeps_bitstreamStuck (c : Fin 72) (periods : Nat) : Keeps s (execBitstreamStuck c periods s) := keeps_of_gates (by simp)
theorem keeps_bitstreamRecover (c : Fin 72) (us : Nat) : Keeps s (execBitstreamRecover c us s) := keeps_of_gates (by simp)
theorem keeps_bitstreamOverrange (c : Fin 72) (ones : Nat) : Keeps s (execBitstreamOverrange c ones s) := keeps_of_gates (by simp)
theorem keeps_crossCheckWindow (c : Fin 72) : Keeps s (execCrossCheckWindow c s) := by
  refine keeps_of_gates ?_
  repeat' split
  all_goals simp

/-! ### Filter -/

theorem keeps_fastPathSample (xs : List (Fin 72 × BitVec 64 × BitVec 64)) : Keeps s (execFastPathSample xs s) := keeps_of_gates (by simp)
theorem keeps_presetOutputSample (g : Fin 9) (preset : Nat) : Keeps s (execPresetOutputSample g preset s) := by
  refine keeps_of_gates ?_
  dsimp only
  repeat' split
  all_goals simp [↓gates_upd]

/-! ### Energy -/

theorem keeps_meteringWindowClose (m : Fin 9) : Keeps s (execMeteringWindowClose m s) := keeps_of_within (by simp)
theorem keeps_nettingPeriodEnd (m : Fin 9) : Keeps s (execNettingPeriodEnd m s) := keeps_of_gates (by simp)
theorem keeps_pulseIssue (i : Fin 4) : Keeps s (execPulseIssue i s) := keeps_of_gates (by simp)
theorem keeps_mtrEnergyCommitApply : Keeps s (execMtrEnergyCommitApply s) := by
  refine keeps_of_gates ?_
  dsimp only
  repeat' split
  all_goals simp [↓gates_upd]

theorem keeps_mtrCommitApply : Keeps s (execMtrCommitApply s) := keeps_of_gates (by simp)

/-! ### Billing -/

theorem keeps_gridBoundary : Keeps s (execGridBoundary s) := keeps_of_gates (by simp)
theorem keeps_p100Persist (ok : Bool) : Keeps s (execP100Persist ok s) := keeps_of_gates (by simp [↓gates_upd])
theorem keeps_bilCommitApply : Keeps s (execBilCommitApply s) := by
  refine keeps_of_gates ?_
  dsimp only
  repeat' split
  all_goals simp [↓gates_upd]

theorem keeps_bilPeriodEndClose : Keeps s (execBilPeriodEndClose s) := by
  refine keeps_of_gates ?_
  dsimp only
  repeat' split
  all_goals simp [↓gates_upd]

/-! ### Earth -/

theorem keeps_residualMismatch (n : Fin 8) : Keeps s (execResidualMismatch n s) := keeps_of_within (by simp)
theorem keeps_offsetMeasurement (n : Fin 8) : Keeps s (execOffsetMeasurement n s) := by
  refine keeps_of_within ?_
  repeat' split
  all_goals simp

theorem keeps_earthTriggerClear (n : Fin 8) : Keeps s (execEarthTriggerClear n s) := keeps_of_gates (by simp)
theorem keeps_testWindingDue (n : Fin 8) : Keeps s (execTestWindingDue n s) := keeps_of_gates (by simp)
theorem keeps_testWindingStepEnd (n : Fin 8) : Keeps s (execTestWindingStepEnd n s) := by
  refine keeps_of_within ?_
  repeat' split
  all_goals simp

theorem keeps_insulationStepEnd (n : Fin 8) (step tapP tapN us : Nat) (settled : Bool) :
    Keeps s (execInsulationStepEnd n step tapP tapN us settled s) := by
  refine keeps_of_within ?_
  repeat' split
  all_goals simp

theorem keeps_peChkPulse (us : Nat) : Keeps s (execPeChkPulse us s) := keeps_of_gates (by simp)

/-! ### Keys -/

theorem keeps_katRun (fails : List Nat) : Keeps s (execKatRun fails s) := keeps_of_gates (by simp [↓gates_upd])
theorem keeps_nonceExpiry : Keeps s (execNonceExpiry s) := keeps_of_gates (by simp [↓gates_upd])
theorem keeps_grantExpiry : Keeps s (execGrantExpiry s) := keeps_of_gates (by simp [↓gates_upd])

/-! ### Session -/

theorem keeps_hostDecisionTimeout (n : Fin 8) : Keeps s (execHostDecisionTimeout n s) := by
  refine keeps_of_within ?_
  repeat' split
  all_goals simp

theorem keeps_bindLapse (n : Fin 8) : Keeps s (execBindLapse n s) := keeps_of_within (by simp)

/-! ### Reader -/

theorem keeps_antennaPing (k : Fin 8) (amp : Nat) : Keeps s (execAntennaPing k amp s) := keeps_of_gates (by simp)
theorem keeps_presentationEnd (k : Fin 8) : Keeps s (execPresentationEnd k s) := keeps_of_gates (by simp)
theorem keeps_baselineStore : Keeps s (execBaselineStore s) := by
  refine keeps_of_gates ?_
  split
  · refine (foldl_keeps gates _ (fun t k => ?_) _ _).trans rfl
    split
    all_goals simp
  · rfl

theorem keeps_poll (k : Fin 8) (x : PollIn) : Keeps s (execPoll k x s) := keeps_of_gates (by simp)
theorem keeps_pollEnd (k : Fin 8) : Keeps s (execPollEnd k s) := keeps_of_within (by simp [↓gates_upd])
theorem keeps_antennaSelftest (k : Fin 8) (ma : Nat) (phase : Int) : Keeps s (execAntennaSelftest k ma phase s) := by
  refine keeps_of_gates ?_
  repeat' split
  all_goals simp

theorem keeps_authCommitApply : Keeps s (execAuthCommitApply s) := by
  refine keeps_of_gates ?_
  repeat' split
  all_goals simp

/-! ### Hlc -/

theorem keeps_modemLoopback (n : Fin 8) (pass : Bool) : Keeps s (execModemLoopback n pass s) := by
  refine keeps_of_within ?_
  dsimp only
  repeat' split
  all_goals simp [↓gates_upd]

theorem keeps_modemNoAnswer (n : Fin 8) (us : Nat) : Keeps s (execModemNoAnswer n us s) := keeps_of_within (by simp)
theorem keeps_cmSlacParmReq (n : Fin 8) : Keeps s (execCmSlacParmReq n s) := keeps_of_gates (by simp)
theorem keeps_cmMnbcSoundInd (n : Fin 8) (atten : Nat) : Keeps s (execCmMnbcSoundInd n atten s) := keeps_of_gates (by simp)
theorem keeps_cmAttenCharRsp (n : Fin 8) : Keeps s (execCmAttenCharRsp n s) := keeps_of_gates (by simp)
theorem keeps_cmSlacMatchReq (n : Fin 8) : Keeps s (execCmSlacMatchReq n s) := keeps_of_gates (by simp)
theorem keeps_slacTimeout (n : Fin 8) : Keeps s (execSlacTimeout n s) := keeps_of_gates (by simp)
theorem keeps_slacRetry (n : Fin 8) : Keeps s (execSlacRetry n s) := keeps_of_gates (by simp)
theorem keeps_sdpRequest (n : Fin 8) : Keeps s (execSdpRequest n s) := keeps_of_gates (by simp)
theorem keeps_tlsHandshake (n : Fin 8) (x : TlsIn) : Keeps s (execTlsHandshake n x s) := by
  refine keeps_of_gates ?_
  split
  · rfl
  · dsimp only
    split
    · simp
    · split
      · next got => simp [↓gates_upd, gates_chuckGet got]
      · simp [↓gates_upd]

theorem keeps_chuckWaitTimeout : Keeps s (execChuckWaitTimeout s) := by
  refine keeps_of_gates ((foldl_keeps gates _ (fun t w => ?_) _ _).trans rfl)
  split
  all_goals simp

theorem keeps_supportedAppProtocol (n : Fin 8) (offers : List (Nat × Nat)) : Keeps s (execSupportedAppProtocol n offers s) := by
  refine keeps_of_gates ?_
  dsimp only
  repeat' split
  all_goals simp

theorem keeps_serviceSelection (n : Fin 8) (code : Nat) (dynamic : Bool) (evccid : Nat) :
    Keeps s (execServiceSelection n code dynamic evccid s) :=
  keeps_of_gates (by simp)
theorem keeps_authorizationRequest (n : Fin 8) (contract : Option ChainIn) : Keeps s (execAuthorizationRequest n contract s) := by
  refine keeps_of_within ?_
  repeat' split
  all_goals simp

theorem keeps_authorizationTimeout (n : Fin 8) : Keeps s (execAuthorizationTimeout n s) := keeps_of_gates (by simp)
theorem keeps_chargeParameterDiscovery (n : Fin 8) (x : EvIn) : Keeps s (execChargeParameterDiscovery n x s) := keeps_of_gates (by simp)
theorem keeps_cableCheckRequest (n : Fin 8) : Keeps s (execCableCheckRequest n s) := keeps_of_gates (by simp)
theorem keeps_prechargeRequest (n : Fin 8) (u i : Nat) : Keeps s (execPrechargeRequest n u i s) := keeps_of_gates (by simp)
theorem keeps_powerDeliveryRequest (n : Fin 8) (op : Fin 3) : Keeps s (execPowerDeliveryRequest n op s) := keeps_of_within (by simp)
theorem keeps_chargeLoopRequest (n : Fin 8) (x : EvIn) : Keeps s (execChargeLoopRequest n x s) := keeps_of_gates (by simp)
theorem keeps_meteringReceipt (n : Fin 8) : Keeps s (execMeteringReceipt n s) := keeps_of_gates (by simp)
theorem keeps_certificateRequest (n : Fin 8) (body : List Byte) : Keeps s (execCertificateRequest n body s) := keeps_of_gates (by simp)
theorem keeps_certExchangeTimeout (n : Fin 8) : Keeps s (execCertExchangeTimeout n s) := by
  refine keeps_of_gates ?_
  repeat' split
  all_goals simp

theorem keeps_hlcMessageTimeout (n : Fin 8) : Keeps s (execHlcMessageTimeout n s) := keeps_of_gates (by simp)
theorem keeps_dcStepTimeout (n : Fin 8) : Keeps s (execDcStepTimeout n s) := keeps_of_within (by simp)
theorem keeps_hostStopTimeout (n : Fin 8) : Keeps s (execHostStopTimeout n s) := keeps_of_gates (by simp)
theorem keeps_tcpLoss (n : Fin 8) (cause : Nat) : Keeps s (execTcpLoss n cause s) := keeps_of_gates (by simp)

/-! ### Can -/

theorem keeps_canFrameTransmit (f : Fin 24) : Keeps s (execCanFrameTransmit f s) := keeps_of_gates (by simp)
theorem keeps_canFrameReceive (f : Fin 24) (data : List Byte) : Keeps s (execCanFrameReceive f data s) := by
  refine keeps_of_within (within_choice _ (within_refl _) (within_foldl _ (fun t n ht => ?_) _ _ ?_))
  · exact within_choice _ (within_rxPoint ht f data n) ht
  · simp

theorem keeps_canReceiveTimeout (f : Fin 24) : Keeps s (execCanReceiveTimeout f s) := by
  refine keeps_of_within (within_choice _ (within_refl _) (within_foldl _ (fun t n ht => ?_) _ _ ?_))
  · exact within_choice _ ht (within_psFaultSet (by simp [ht]) n f.1 0)
  · simp

theorem keeps_psFaultClear (n : Fin 8) : Keeps s (execPsFaultClear n s) := keeps_of_gates (by simp)
theorem keeps_psFaultOpenTimeout (n : Fin 8) : Keeps s (execPsFaultOpenTimeout n s) := keeps_of_within (by simp)

/-! ### Display -/

theorem keeps_displayUpdateStart (found : List Nat) : Keeps s (execDisplayUpdateStart found s) := keeps_of_gates (by simp)
theorem keeps_tempDeferralRetry : Keeps s (execTempDeferralRetry s) := keeps_of_gates (by simp)
theorem keeps_railRetry : Keeps s (execRailRetry s) := keeps_of_gates (by simp)
theorem keeps_railPowerOnStep (mv : Int) : Keeps s (execRailPowerOnStep mv s) := by
  refine keeps_of_gates ?_
  repeat' split
  all_goals simp

theorem keeps_displayFrame : Keeps s (execDisplayFrame s) := by
  refine keeps_of_gates ?_
  repeat' split
  all_goals simp

theorem keeps_displayUpdateComplete : Keeps s (execDisplayUpdateComplete s) := by
  refine keeps_of_gates ?_
  repeat' split
  all_goals simp

theorem keeps_railHoldExpiry : Keeps s (execRailHoldExpiry s) := keeps_of_gates (by simp)
theorem keeps_ntcMeasure (t : Option Int) : Keeps s (execNtcMeasure t s) := by
  refine keeps_of_gates ?_
  dsimp only
  repeat' split
  all_goals simp

theorem keeps_legalRender : Keeps s (execLegalRender s) := keeps_of_gates (by simp)
theorem keeps_recoveryStart : Keeps s (execRecoveryStart s) := keeps_of_gates (by simp)
theorem keeps_dspCommitApply : Keeps s (execDspCommitApply s) := by
  refine keeps_of_gates ?_
  repeat' split
  all_goals simp

/-! ### SafetyPair -/

theorem keeps_tripConfirmed (n : Fin 8) : Keeps s (execTripConfirmed n s) := keeps_of_within (by simp)
theorem keeps_safeCutDrop (n : Fin 8) : Keeps s (execSafeCutDrop n s) := by
  refine keeps_of_within ?_
  repeat' split
  all_goals simp

theorem keeps_pathEnableTimeout (n : Fin 8) (cut : Bool) : Keeps s (execPathEnableTimeout n cut s) := keeps_of_within (by simp)
theorem keeps_cutFault (n : Fin 8) : Keeps s (execCutFault n s) := keeps_of_within (by simp)
theorem keeps_pathTestStepEnd (n : Fin 8) : Keeps s (execPathTestStepEnd n s) := by
  unfold execPathTestStepEnd
  extract_lets x stop
  refine keeps_of_within ?_
  split_ifs with idle bad ended first only
  · simp
  · simp
  · simp
  · exact within_path2 (within_refl _) (free_of_test (within_refl _) fun none => by simp_all [x])
  · simp
  · exact within_path3 (within_refl _) (free_of_test (within_refl _) fun none => by simp_all [x])

theorem keeps_closingTimeout (n : Fin 8) : Keeps s (execClosingTimeout n s) := keeps_of_within (by simp)
theorem keeps_weldCheck (n : Fin 8) : Keeps s (execWeldCheck n s) := by
  refine keeps_of_within ?_
  repeat' split
  all_goals simp

theorem keeps_dcVoltageCheckTimeout (n : Fin 8) : Keeps s (execDcVoltageCheckTimeout n s) := by
  refine keeps_of_within ?_
  repeat' split
  all_goals simp

theorem keeps_weldWhileOpen (n : Fin 8) : Keeps s (execWeldWhileOpen n s) := keeps_of_within (by simp)
theorem keeps_appResetOpenTimeout (n : Fin 8) : Keeps s (execAppResetOpenTimeout n s) := keeps_of_within (by simp)
theorem keeps_safeStateSessionEnd (n : Fin 8) : Keeps s (execSafeStateSessionEnd n s) := keeps_of_gates (by simp)
theorem keeps_safeRstPulse (idle low high : Nat) (both : Bool) : Keeps s (execSafeRstPulse idle low high both s) := by
  refine keeps_of_gates ?_
  repeat' split
  all_goals simp [gates_safeDev]

theorem keeps_safeRstStuck (low : Nat) : Keeps s (execSafeRstStuck low s) := by
  refine keeps_of_gates ?_
  repeat' split
  all_goals simp [gates_safeDev]

/-! ### FieldStore -/

theorem keeps_fieldPowerUp (mAm : Nat) : Keeps s (execFieldPowerUp mAm s) := keeps_of_gates (by simp [↓gates_upd])
theorem keeps_ndefRead (file : Nat) : Keeps s (execNdefRead file s) := keeps_of_gates (by simp)
theorem keeps_fieldRead (p1 : Nat) (data : List Byte) : Keeps s (execFieldRead p1 data s) := keeps_of_gates (by simp)
theorem keeps_fieldWrite (p1 : Nat) (data : List Byte) (bad : Nat × Nat) : Keeps s (execFieldWrite p1 data bad s) := by
  refine keeps_of_gates ?_
  repeat' split
  all_goals simp

theorem keeps_fieldCollapse (cut : Option (Nat × List Byte × Nat)) : Keeps s (execFieldCollapse cut s) := by
  refine keeps_of_gates ?_
  dsimp only
  repeat' split
  all_goals simp [↓gates_upd]

theorem keeps_safetyCycle (pts : List PtIn) (npe : Int) : Keeps s (execSafetyCycle pts npe s) := by
  refine keeps_of_within (within_choice _ ?_ (within_refl _))
  rw [gates_statusSync]
  exact within_safetyCycle (within_refl _) pts npe

theorem keeps_confirmProcess (n : Fin 8) : Keeps s (execConfirmProcess n s) := keeps_of_gates (by simp)

/-! ### Ledger -/

theorem keeps_ledgerRecordWrite (done : Bool) : Keeps s (execLedgerRecordWrite done s) := keeps_of_gates (by simp)

/-! ### System -/

theorem keeps_mailboxRing (k : Fin 32) (who count : Nat) : Keeps s (execMailboxRing k who count s) := keeps_of_gates (by simp)
theorem keeps_mailboxAck (k : Fin 32) (who code : Nat) : Keeps s (execMailboxAck k who code s) := keeps_of_gates (by simp)
theorem keeps_registerWrite (k : Fin 32) (who : Nat) (word : Fin 16) (v : BitVec 32) :
    Keeps s (execRegisterWrite k who word v s) :=
  keeps_of_gates (by simp)
theorem keeps_mailboxPendingTimeout (k : Fin 32) : Keeps s (execMailboxPendingTimeout k s) := keeps_of_gates (by simp)
theorem keeps_eventCoalesceFlush : Keeps s (execEventCoalesceFlush s) := keeps_of_gates (by simp [↓gates_upd])
theorem keeps_evtNotify (k : Fin 4) : Keeps s (execEvtNotify k s) := keeps_of_gates (by simp)
theorem keeps_evtNotifyResend (k : Fin 4) : Keeps s (execEvtNotifyResend k s) := keeps_of_gates (by simp)
theorem keeps_partingFenceComplete (marks : Vector Nat 16) : Keeps s (execPartingFenceComplete marks s) := by
  refine keeps_of_gates ?_
  dsimp only
  repeat' split
  all_goals simp [↓gates_upd]

theorem keeps_partingFenceTimeout (marks : Vector Nat 16) : Keeps s (execPartingFenceTimeout marks s) := by
  refine keeps_of_gates ?_
  dsimp only
  repeat' split
  all_goals simp [↓gates_upd]

/-! ### Network -/

theorem keeps_netCommitApply : Keeps s (execNetCommitApply s) := by
  refine keeps_of_gates ?_
  dsimp only
  repeat' split
  all_goals simp [↓gates_upd]

theorem keeps_ringTestSend : Keeps s (execRingTestSend s) := keeps_of_gates (by simp)
theorem keeps_ringTestReceive (port : Fin 2) (own : Bool) : Keeps s (execRingTestReceive port own s) := by
  refine keeps_of_gates ?_
  dsimp only
  repeat' split
  all_goals simp [↓gates_upd]

theorem keeps_ringTestMissing (port : Fin 2) : Keeps s (execRingTestMissing port s) := by
  refine keeps_of_gates ?_
  dsimp only
  repeat' split
  all_goals simp [↓gates_upd]

theorem keeps_linkDown (port : Fin 2) : Keeps s (execLinkDown port s) := by
  refine keeps_of_gates ?_
  repeat' split
  all_goals simp

theorem keeps_flush (port : Fin 2) : Keeps s (execFlush port s) := by
  refine keeps_of_gates ?_
  dsimp only
  repeat' split
  all_goals simp [↓gates_upd]

theorem keeps_ethLinkChange (port : Fin 2) (up : Bool) : Keeps s (execEthLinkChange port up s) := keeps_of_gates (by simp [↓gates_upd])
theorem keeps_macAgeing : Keeps s (execMacAgeing s) := keeps_of_gates (by simp [↓gates_upd])
theorem keeps_frameForwarding (port : Fin 2) (src dst len : Nat) :
    Keeps s (execFrameForwarding port src dst len s) :=
  keeps_of_gates (by simp [↓gates_upd])
theorem keeps_netServiceRequest (kind dst : Nat) (data : List Byte) : Keeps s (execNetServiceRequest kind dst data s) := by
  refine keeps_of_gates ?_
  repeat' split
  all_goals simp

theorem keeps_dhcpv4Message (ip : Nat) (ack : Bool) : Keeps s (execDhcpv4Message ip ack s) := keeps_of_gates (by simp [↓gates_upd])
theorem keeps_ptpMessage (m : PtpMsg) : Keeps s (execPtpMessage m s) := keeps_of_gates (by simp)
theorem keeps_ptpAnnounceTimeout : Keeps s (execPtpAnnounceTimeout s) := keeps_of_gates (by simp)
theorem keeps_syncInterval (announce : Bool) : Keeps s (execSyncInterval announce s) := keeps_of_gates (by simp)

/-! ### Tider -/

theorem keeps_halfCycleRecord : Keeps s (execHalfCycleRecord s) := by
  refine keeps_of_gates ?_
  dsimp only
  repeat' split
  all_goals simp [↓gates_upd]

theorem keeps_tiderSlot (pos : Nat) (neg : Bool) (samples : List Int) (amp : Nat) :
    Keeps s (execTiderSlot pos neg samples amp s) :=
  keeps_of_gates (by simp)
theorem keeps_neighbourTimeout : Keeps s (execNeighbourTimeout s) := keeps_of_gates (by simp)
theorem keeps_spanEnd (x : SpanIn) : Keeps s (execSpanEnd x s) := by
  refine keeps_of_gates ?_
  dsimp only
  repeat' split
  all_goals simp

theorem keeps_joinListenEnd : Keeps s (execJoinListenEnd s) := keeps_of_gates (by simp)
theorem keeps_beaconDue : Keeps s (execBeaconDue s) := keeps_of_gates (by simp)
theorem keeps_demandDue : Keeps s (execDemandDue s) := keeps_of_gates (by simp)
theorem keeps_allocTimeout : Keeps s (execAllocTimeout s) := keeps_of_gates (by simp)

/-! ### Update -/

theorem keeps_updSlotWritten : Keeps s (execUpdSlotWritten s) := by
  refine keeps_of_gates ?_
  dsimp only
  repeat' split
  all_goals simp [↓gates_upd]

/-! ### Power -/

theorem keeps_vioValid : Keeps s (execVioValid s) := keeps_of_gates (by simp [↓gates_upd])
theorem keeps_coldReset (straps : Nat) (test : Bool) : Keeps s (execColdReset straps test s) := keeps_of_gates (by simp)
theorem keeps_vbatLow (mv : Nat) : Keeps s (execVbatLow mv s) := keeps_of_gates (by simp [↓gates_upd])
theorem keeps_powerFailWarning (mv us : Nat) : Keeps s (execPowerFailWarning mv us s) :=
  keeps_of_within (within_choice _ (within_powerFail (by exact within_refl _) 2) (by exact within_refl _))

theorem keeps_pfwNSample (high : Bool) : Keeps s (execPfwNSample high s) :=
  keeps_of_within (within_choice _ (within_powerFail (by exact within_refl _) 0) (by exact within_refl _))

theorem keeps_pfwStop : Keeps s (execPfwStop s) := by
  have closed : Within (gates s) (gates (dspPersist (saveBoth (closeAll s)))) := by simp [within_closeAll]
  exact keeps_of_within (within_choice _ (within_outputsOff (by simpa [↓gates_upd] using closed)) (within_refl _))

theorem keeps_pfwWithdrawn : Keeps s (execPfwWithdrawn s) := keeps_of_gates (by simp)
theorem keeps_zeroCrossing (c : Fin 72) : Keeps s (execZeroCrossing c s) := by
  refine keeps_of_within (within_choice _ (within_refl _) ?_)
  split
  · exact within_halfEnd (within_refl _) ..
  · exact within_refl _

theorem keeps_zcMissing (c : Fin 72) : Keeps s (execZcMissing c s) :=
  keeps_of_within (within_choice _ (within_refl _) (within_halfEnd (within_refl _) ..))

theorem keeps_enterIdle : Keeps s (execEnterIdle s) := keeps_of_gates (by simp [↓gates_upd])
theorem keeps_powerStateDescend : Keeps s (execPowerStateDescend s) := keeps_of_gates (by simp)
theorem keeps_powerStateWake (src : Nat) : Keeps s (execPowerStateWake src s) := keeps_of_gates (by simp [↓gates_upd])
theorem keeps_watchdogExpiry : Keeps s (execWatchdogExpiry s) := keeps_of_gates (by simp)
theorem keeps_eccError : Keeps s (execEccError s) := keeps_of_gates (by simp)
theorem keeps_warmResetEnd : Keeps s (execWarmResetEnd s) := keeps_of_gates (by simp [↓gates_upd])
theorem keeps_appRunning : Keeps s (execAppRunning s) := keeps_of_gates (by simp)
theorem keeps_blockResetRequest (unit : Nat) : Keeps s (execBlockResetRequest unit s) := keeps_of_gates (by simp)
theorem keeps_blockResetEscalate : Keeps s (execBlockResetEscalate s) := by
  refine keeps_of_gates ?_
  dsimp only
  repeat' split
  all_goals simp [↓gates_upd]

theorem keeps_blockResetEnd : Keeps s (execBlockResetEnd s) := by
  refine keeps_of_gates ?_
  repeat' split
  all_goals simp

theorem keeps_rtcCorrection : Keeps s (execRtcCorrection s) := keeps_of_gates (by simp [↓gates_upd])
theorem keeps_clockMonitor (nfc rtc : Bool) : Keeps s (execClockMonitor nfc rtc s) := keeps_of_gates (by simp)
theorem keeps_pllLockLoss (app lost : Bool) : Keeps s (execPllLockLoss app lost s) := keeps_of_gates (by simp)
theorem keeps_dieTempWarning (t : Int) : Keeps s (execDieTempWarning t s) := keeps_of_gates (by simp [↓gates_upd])
theorem keeps_mramScrub (word : Nat) (bad : Bool) : Keeps s (execMramScrub word bad s) := keeps_of_gates (by simp [↓gates_upd])
theorem keeps_coverTamper (isOpen : Bool) : Keeps s (execCoverTamper isOpen s) := keeps_of_gates (by simp [↓gates_upd])

/-! ### Packet -/

theorem keeps_spiRead (n : Nat) : Keeps s (execSpiRead n s) := by
  refine keeps_of_gates ?_
  dsimp only
  repeat' split
  all_goals simp [↓gates_upd]

theorem keeps_fragmentTimeout : Keeps s (execFragmentTimeout s) := keeps_of_gates (by simp [↓gates_upd])
theorem keeps_keptCommandExpiry : Keeps s (execKeptCommandExpiry s) := keeps_of_gates (by simp [↓gates_upd])

end

end Sys2Proof.Laws

namespace Sys2Proof.Laws

open Sys2Proof Sys2Proof.Machine

/-! ## What the commands answer (R231, R366) -/

/-- Whatever a command answers, it has brought no barred path on. -/
def OutWithin (a : Gates) : CmdOut → Prop
  | .done t _ | .failed t _ | .wait t => Within a (gates t)
  | .fail _ | .denied _ => True

/-- A command's own rules bring no barred path on. -/
def BodyWithin (body : Flight → State → CmdOut) : Prop := ∀ f s, OutWithin (gates s) (body f s)

section
variable {a : Gates}

@[simp] theorem outWithin_done (t : State) (pl : List Byte) : OutWithin a (.done t pl) ↔ Within a (gates t) := .rfl
@[simp] theorem outWithin_failed (t : State) (st : Nat) : OutWithin a (.failed t st) ↔ Within a (gates t) := .rfl
@[simp] theorem outWithin_wait (t : State) : OutWithin a (.wait t) ↔ Within a (gates t) := .rfl
@[simp] theorem outWithin_fail (st : Nat) : OutWithin a (.fail st) := trivial
@[simp] theorem outWithin_denied (b : Nat) : OutWithin a (.denied b) := trivial

@[simp] theorem outWithin_ite (c : Prop) [Decidable c] (x y : CmdOut) :
    OutWithin a (if c then x else y) ↔ if c then OutWithin a x else OutWithin a y := by
  split
  all_goals rfl

@[simp] theorem outWithin_need (c : Bool) (st : Nat) (k : CmdOut) : OutWithin a (need c st k) ↔ (c = true → OutWithin a k) := by
  cases c
  all_goals simp [need]

@[simp] theorem outWithin_needAuth (s : State) (f : Flight) (b : Nat) (k : CmdOut) :
    OutWithin a (needAuth s f b k) ↔ (holds s f.pkt.src b = true → OutWithin a k) := by
  unfold needAuth
  split
  all_goals simp_all

@[simp] theorem outWithin_takeStored {s : State} {ids : List Nat} {k : List BlkCopy → CmdOut} (h : ∀ cs, OutWithin a (k cs)) :
    OutWithin a (takeStored s ids k) := by
  unfold takeStored
  split
  · trivial
  · split
    · exact h _
    · trivial

theorem bodyWithin_sized {n : Nat} {body : Flight → State → CmdOut} (h : BodyWithin body) : BodyWithin (sized n body) := by
  intro f s
  unfold sized
  split
  · exact h f s
  · trivial
end

/-! ### Opcodes 0x01xx -/

theorem sysInfo_within : BodyWithin sysInfoBody := fun _ _ => by simp [sysInfoBody]

theorem sysStatus_within : BodyWithin sysStatusBody := fun _ _ => by simp [sysStatusBody]

theorem netCommit_within : BodyWithin netCommitBody := fun _ _ => by simp [netCommitBody, ↓gates_upd]

theorem evtSubscribe_within : BodyWithin evtSubscribeBody := by
  intro f s
  unfold evtSubscribeBody
  dsimp only
  repeat' split
  all_goals simp

theorem evtRead_within : BodyWithin evtReadBody := by
  intro f s
  unfold evtReadBody
  dsimp only
  repeat' split
  all_goals simp

theorem partingFence_within : BodyWithin partingFenceBody := fun _ _ => by simp [partingFenceBody, ↓gates_upd]

theorem evtState_within : BodyWithin evtStateBody := fun _ _ => by simp [evtStateBody]

theorem mbxStatus_within : BodyWithin mbxStatusBody := fun _ _ => by simp [mbxStatusBody]

theorem blkWrite_within : BodyWithin blkWriteBody := fun _ _ => by simp [blkWriteBody, ↓gates_upd]

theorem blkRead_within : BodyWithin blkReadBody := by
  intro f s
  unfold blkReadBody
  dsimp only
  repeat' split
  all_goals simp

theorem table01_within : ∀ e ∈ table01, BodyWithin e.2 := by
  simp only [table01, List.forall_mem_cons]
  exact ⟨bodyWithin_sized sysInfo_within, bodyWithin_sized sysStatus_within, bodyWithin_sized netCommit_within,
    bodyWithin_sized evtSubscribe_within, bodyWithin_sized evtRead_within, bodyWithin_sized partingFence_within,
    bodyWithin_sized evtState_within, bodyWithin_sized mbxStatus_within, blkWrite_within, bodyWithin_sized blkRead_within, nofun⟩

/-! ### Opcodes 0x02xx -/

theorem mtrCommit_within : BodyWithin mtrCommitBody := fun _ _ => by simp [mtrCommitBody, ↓gates_upd]

theorem mtrCalStatus_within : BodyWithin mtrCalStatusBody := fun _ _ => by simp [mtrCalStatusBody]

theorem mtrRequalify_within : BodyWithin mtrRequalifyBody := by
  intro f s
  unfold mtrRequalifyBody
  dsimp only
  repeat' split
  all_goals simp [↓gates_upd]

theorem mtrDetect_within : BodyWithin mtrDetectBody := fun _ _ => by simp [mtrDetectBody]

theorem mtrValues_within : BodyWithin mtrValuesBody := by
  intro f s
  unfold mtrValuesBody
  dsimp only
  repeat' split
  all_goals simp

theorem mtrEnergyCommit_within : BodyWithin mtrEnergyCommitBody := fun _ _ => by simp [mtrEnergyCommitBody, ↓gates_upd]

theorem table02_within : ∀ e ∈ table02, BodyWithin e.2 := by
  simp only [table02, List.forall_mem_cons]
  exact ⟨bodyWithin_sized mtrCommit_within, bodyWithin_sized mtrCalStatus_within, bodyWithin_sized mtrRequalify_within,
    bodyWithin_sized mtrDetect_within, bodyWithin_sized mtrValues_within, bodyWithin_sized mtrEnergyCommit_within, nofun⟩

/-! ### Opcodes 0x03xx -/

theorem bilCommit_within : BodyWithin bilCommitBody := fun _ _ => by simp [bilCommitBody, ↓gates_upd]

theorem bilRegs_within : BodyWithin bilRegsBody := by
  intro f s
  unfold bilRegsBody
  dsimp only
  repeat' split
  all_goals simp

theorem bilDemand_within : BodyWithin bilDemandBody := by
  intro f s
  unfold bilDemandBody
  dsimp only
  repeat' split
  all_goals simp

theorem bilSnapshot_within : BodyWithin bilSnapshotBody := by
  intro f s
  unfold bilSnapshotBody
  dsimp only
  repeat' split
  all_goals simp

theorem bilPeriodEnd_within : BodyWithin bilPeriodEndBody := fun _ _ => by simp [bilPeriodEndBody, ↓gates_upd]

theorem bilTimeSet_within : BodyWithin bilTimeSetBody := fun _ _ => by simp [bilTimeSetBody]

theorem bilCredit_within : BodyWithin bilCreditBody := by
  intro f s
  unfold bilCreditBody
  dsimp only
  repeat' split
  all_goals simp

theorem ledRead_within : BodyWithin ledReadBody := fun _ _ => by simp [ledReadBody]

theorem ledAck_within : BodyWithin ledAckBody := fun _ _ => by simp [ledAckBody, ↓gates_upd]

theorem ledStatus_within : BodyWithin ledStatusBody := fun _ _ => by simp [ledStatusBody]

theorem ledLogRead_within : BodyWithin ledLogReadBody := fun _ _ => by simp [ledLogReadBody]

theorem ledPolicy_within : BodyWithin ledPolicyBody := fun _ _ => by simp [ledPolicyBody, ↓gates_upd]

theorem table03_within : ∀ e ∈ table03, BodyWithin e.2 := by
  simp only [table03, List.forall_mem_cons]
  exact ⟨bodyWithin_sized bilCommit_within, bodyWithin_sized bilRegs_within, bodyWithin_sized bilDemand_within,
    bodyWithin_sized bilSnapshot_within, bodyWithin_sized bilPeriodEnd_within, bodyWithin_sized bilTimeSet_within,
    bodyWithin_sized bilCredit_within, bodyWithin_sized ledRead_within, bodyWithin_sized ledAck_within,
    bodyWithin_sized ledStatus_within, bodyWithin_sized ledLogRead_within, bodyWithin_sized ledPolicy_within, nofun⟩

/-! ### Opcodes 0x04xx -/

theorem ptCommit_within : BodyWithin ptCommitBody := fun _ _ => by simp [ptCommitBody]

theorem ptStatus_within : BodyWithin ptStatusBody := by
  intro f s
  unfold ptStatusBody
  dsimp only
  repeat' split
  all_goals simp

theorem sesStart_within : BodyWithin sesStartBody := by
  intro f s
  unfold sesStartBody
  dsimp only
  repeat' split
  all_goals simp

theorem sesStop_within : BodyWithin sesStopBody := by
  intro f s
  unfold sesStopBody
  dsimp only
  repeat' split
  all_goals simp

theorem sesLimit_within : BodyWithin sesLimitBody := by
  intro f s
  unfold sesLimitBody
  dsimp only
  repeat' split
  all_goals simp

theorem sesStatus_within : BodyWithin sesStatusBody := by
  intro f s
  unfold sesStatusBody
  dsimp only
  repeat' split
  all_goals simp

theorem within_foldl_basicPath {a : Gates} (ns : List (Fin 8)) (s : State) (h : gates s = a) :
    Within a (gates (ns.foldl (fun t n => basicPath n t) s)) :=
  within_foldl _ (fun t n ht => by simp [ht]) ns s (by simp [h])

theorem hlcCommit_within : BodyWithin hlcCommitBody := by
  intro f s
  have cleared (ns : List (Fin 8)) (t : State) : gates (ns.foldl (fun t n => if dcPoint t n then t else setIso n 0 t) t) = gates t := by
    simp
  simp only [hlcCommitBody, outWithin_need]
  refine fun _ => outWithin_takeStored fun cs => ?_
  simp only [outWithin_need, outWithin_done]
  refine fun _ _ => within_foldl_basicPath _ _ ?_
  split
  · exact (cleared ..).trans (by simp)
  · simp [cleared]

theorem hlcExchange_within : BodyWithin hlcExchangeBody := by
  intro f s
  unfold hlcExchangeBody
  dsimp only
  repeat' split
  all_goals simp

theorem hlcModemTest_within : BodyWithin hlcModemTestBody := by
  intro f s
  unfold hlcModemTestBody
  dsimp only
  repeat' split
  all_goals simp

theorem table04_within : ∀ e ∈ table04, BodyWithin e.2 := by
  simp only [table04, List.forall_mem_cons]
  exact ⟨bodyWithin_sized ptCommit_within, bodyWithin_sized ptStatus_within, bodyWithin_sized sesStart_within,
    bodyWithin_sized sesStop_within, bodyWithin_sized sesLimit_within, bodyWithin_sized sesStatus_within,
    bodyWithin_sized hlcCommit_within, hlcExchange_within, bodyWithin_sized hlcModemTest_within, nofun⟩

/-! ### Opcodes 0x05xx -/

theorem safCommit_within : BodyWithin safCommitBody := by
  intro f s
  simp only [safCommitBody, outWithin_need]
  refine fun _ => outWithin_takeStored fun cs => ?_
  simp [gates_safeDev]

theorem safStatus_within : BodyWithin safStatusBody := by
  intro f s
  unfold safStatusBody
  dsimp only
  repeat' split
  all_goals simp

theorem safConfirm_within : BodyWithin safConfirmBody := by
  intro f s
  unfold safConfirmBody
  dsimp only
  repeat' split
  all_goals simp

theorem present_of_pointOf {s : State} {v : Nat} {n : Fin 8} (named : pointOf s v = some n) : hasPoint s n = true := by
  unfold pointOf ix at named
  split_ifs at named with within below
  obtain rfl := Option.some.inj named
  simp [hasPoint]
  omega

theorem present_of_resetPoints {s : State} {v : Nat} {ns : List (Fin 8)} (named : resetPoints s v = some ns) {n : Fin 8} (mem : n ∈ ns) :
    hasPoint s n = true := by
  unfold resetPoints at named
  split at named
  · obtain rfl := Option.some.inj named
    exact (List.mem_filter.1 mem).2
  · obtain ⟨m, one, rfl⟩ := Option.map_eq_some_iff.1 named
    obtain rfl := List.mem_singleton.1 mem
    exact present_of_pointOf one

/-- The points a path test is due for are present, and the safe state does not stand. -/
theorem free_of_pathDue {s : State} {n : Fin 8} (due : pathDue s n = true) (there : hasPoint s n = true) : ¬ (gates s).Barred n := by
  refine free_of_present (within_refl _) (of_decide_eq_true there) ?_
  simp only [pathDue, pairUp, Bool.and_eq_true, Bool.not_eq_true'] at due
  tauto

theorem safReset0_within (f : Flight) (ns : List (Fin 8)) (s : State) (there : ∀ n ∈ ns, hasPoint s n = true) :
    OutWithin (gates s) (safReset0 f ns s) := by
  have trips (ns : List (Fin 8)) (t : State) : gates (ns.foldl (fun t n => safResetPoint n t) t) = gates t := by simp
  unfold safReset0
  extract_lets faulty tests trip
  split
  · trivial
  · split
    · trivial
    · next t _ _ _ =>
      have start : gates t = gates s := (trips ..).trans (gates_safeDev _ _ rfl)
      split
      · exact within_of_gates (s := t) (by simp [start]) (gates_safeDev t _ rfl)
      · refine within_foldl_mem (a := gates s) _ _ (fun u n mem hu => ?_) _ ?_
        · obtain ⟨given, due⟩ := List.mem_filter.1 mem
          have free := free_of_pathDue due (there n given)
          simp [within_path1 hu fun barred => absurd barred free]
        · exact within_of_gates (s := t) (by simp [start]) (gates_safeDev t _ rfl)

theorem safReset_within : BodyWithin safResetBody := by
  intro f s
  simp only [safResetBody]
  split
  · trivial
  · next ns listed =>
    simp only [outWithin_need, outWithin_needAuth, outWithin_ite]
    intro _ _
    split
    · exact safReset0_within f ns s fun n => present_of_resetPoints listed
    · simp [safReset1]

theorem efCommit_within : BodyWithin efCommitBody := fun _ _ => by simp [efCommitBody]

theorem efStatus_within : BodyWithin efStatusBody := by
  intro f s
  unfold efStatusBody
  dsimp only
  repeat' split
  all_goals simp

theorem efTest_within : BodyWithin efTestBody := by
  intro f s
  unfold efTestBody
  dsimp only
  repeat' split
  all_goals simp

theorem table05_within : ∀ e ∈ table05, BodyWithin e.2 := by
  simp only [table05, List.forall_mem_cons]
  exact ⟨bodyWithin_sized safCommit_within, bodyWithin_sized safStatus_within, bodyWithin_sized safConfirm_within,
    bodyWithin_sized safReset_within, bodyWithin_sized efCommit_within, bodyWithin_sized efStatus_within,
    bodyWithin_sized efTest_within, nofun⟩

/-! ### Opcodes 0x06xx -/

theorem swCommit_within : BodyWithin swCommitBody := fun _ _ => by simp [swCommitBody]

theorem swSet_within : BodyWithin swSetBody := by
  intro f s
  unfold swSetBody
  dsimp only
  repeat' split
  all_goals simp [↓gates_upd]

theorem swStatus_within : BodyWithin swStatusBody := by
  intro f s
  unfold swStatusBody
  dsimp only
  repeat' split
  all_goals simp

theorem swClear_within : BodyWithin swClearBody := by
  intro f s
  unfold swClearBody
  dsimp only
  repeat' split
  all_goals simp

theorem swSense_within : BodyWithin swSenseBody := fun _ _ => by simp [swSenseBody, ↓gates_upd]

theorem swLock_within : BodyWithin swLockBody := by
  intro f s
  unfold swLockBody
  dsimp only
  repeat' split
  all_goals simp

theorem table06_within : ∀ e ∈ table06, BodyWithin e.2 := by
  simp only [table06, List.forall_mem_cons]
  exact ⟨bodyWithin_sized swCommit_within, bodyWithin_sized swSet_within, bodyWithin_sized swStatus_within,
    bodyWithin_sized swClear_within, bodyWithin_sized swSense_within, bodyWithin_sized swLock_within, nofun⟩

/-! ### Opcodes 0x07xx -/

theorem authCommit_within : BodyWithin authCommitBody := fun _ _ => by simp [authCommitBody]

theorem authListWrite_within : BodyWithin authListWriteBody := fun _ _ => by simp [authListWriteBody, ↓gates_upd]

theorem authListCommit_within : BodyWithin authListCommitBody := fun _ _ => by simp [authListCommitBody, ↓gates_upd]

theorem rdrStatus_within : BodyWithin rdrStatusBody := by
  intro f s
  unfold rdrStatusBody
  dsimp only
  repeat' split
  all_goals simp

theorem rdrSelftest_within : BodyWithin rdrSelftestBody := by
  intro f s
  unfold rdrSelftestBody
  dsimp only
  repeat' split
  all_goals simp

theorem table07_within : ∀ e ∈ table07, BodyWithin e.2 := by
  simp only [table07, List.forall_mem_cons]
  exact ⟨bodyWithin_sized authCommit_within, authListWrite_within, bodyWithin_sized authListCommit_within,
    bodyWithin_sized rdrStatus_within, bodyWithin_sized rdrSelftest_within, nofun⟩

/-! ### Opcodes 0x08xx -/

theorem tdrCommit_within : BodyWithin tdrCommitBody := by
  intro f s
  simp only [tdrCommitBody, outWithin_need]
  refine fun _ => outWithin_takeStored fun cs => ?_
  simp only [outWithin_need, outWithin_done]
  intro _
  repeat' split
  all_goals simp

theorem tdrStatus_within : BodyWithin tdrStatusBody := fun _ _ => by simp [tdrStatusBody]

theorem tdrBudget_within : BodyWithin tdrBudgetBody := fun _ _ => by simp [tdrBudgetBody]

theorem table08_within : ∀ e ∈ table08, BodyWithin e.2 := by
  simp only [table08, List.forall_mem_cons]
  exact ⟨bodyWithin_sized tdrCommit_within, bodyWithin_sized tdrStatus_within, bodyWithin_sized tdrBudget_within, nofun⟩

/-! ### Opcodes 0x09xx -/

theorem dspCommit_within : BodyWithin dspCommitBody := fun _ _ => by simp [dspCommitBody]

theorem dspWrite_within : BodyWithin dspWriteBody := fun _ _ => by simp [dspWriteBody]

theorem dspUpdate_within : BodyWithin dspUpdateBody := fun _ _ => by simp [dspUpdateBody]

theorem dspStatus_within : BodyWithin dspStatusBody := fun _ _ => by simp [dspStatusBody]

theorem dspStress_within : BodyWithin dspStressBody := fun _ _ => by simp [dspStressBody]

theorem table09_within : ∀ e ∈ table09, BodyWithin e.2 := by
  simp only [table09, List.forall_mem_cons]
  exact ⟨bodyWithin_sized dspCommit_within, dspWrite_within, bodyWithin_sized dspUpdate_within, bodyWithin_sized dspStatus_within,
    bodyWithin_sized dspStress_within, nofun⟩

/-! ### Opcodes 0x0Axx -/

theorem secKey_within : BodyWithin secKeyBody := fun _ _ => by simp [secKeyBody, ↓gates_upd]

theorem secStore_within : BodyWithin secStoreBody := fun _ _ => by simp [secStoreBody, ↓gates_upd]

theorem secRead_within : BodyWithin secReadBody := by
  intro f s
  unfold secReadBody
  dsimp only
  repeat' split
  all_goals simp

theorem secChallenge_within : BodyWithin secChallengeBody := fun _ _ => by simp [secChallengeBody, ↓gates_upd]

theorem secProve_within : BodyWithin secProveBody := by
  intro f s
  unfold secProveBody
  dsimp only
  repeat' split
  all_goals simp [↓gates_upd]

theorem secAttest_within : BodyWithin secAttestBody := fun _ _ => by simp [secAttestBody]

theorem table0A_within : ∀ e ∈ table0A, BodyWithin e.2 := by
  simp only [table0A, List.forall_mem_cons]
  exact ⟨bodyWithin_sized secKey_within, secStore_within, bodyWithin_sized secRead_within, bodyWithin_sized secChallenge_within,
    bodyWithin_sized secProve_within, bodyWithin_sized secAttest_within, nofun⟩

/-! ### Opcodes 0x0Bxx -/

theorem updBegin_within : BodyWithin updBeginBody := by
  intro f s
  unfold updBeginBody
  dsimp only
  repeat' split
  all_goals simp [↓gates_upd]

theorem updData_within : BodyWithin updDataBody := by
  intro f s
  unfold updDataBody
  dsimp only
  repeat' split
  all_goals simp [↓gates_upd]

theorem updActivate_within : BodyWithin updActivateBody := fun _ _ => by simp [updActivateBody, ↓gates_upd]

theorem updConfirm_within : BodyWithin updConfirmBody := fun _ _ => by simp [updConfirmBody]

theorem updStatus_within : BodyWithin updStatusBody := fun _ _ => by simp [updStatusBody]

theorem updAbort_within : BodyWithin updAbortBody := fun _ _ => by simp [updAbortBody, ↓gates_upd]

theorem table0B_within : ∀ e ∈ table0B, BodyWithin e.2 := by
  simp only [table0B, List.forall_mem_cons]
  exact ⟨bodyWithin_sized updBegin_within, updData_within, bodyWithin_sized updActivate_within, bodyWithin_sized updConfirm_within,
    bodyWithin_sized updStatus_within, bodyWithin_sized updAbort_within, nofun⟩

/-! ### Opcodes 0x0Cxx -/

theorem pwrStatus_within : BodyWithin pwrStatusBody := fun _ _ => by simp [pwrStatusBody]

theorem pwrReset_within : BodyWithin pwrResetBody := fun _ _ => by simp [pwrResetBody, ↓gates_upd]

theorem pwrOptionRead_within : BodyWithin pwrOptionReadBody := by
  intro f s
  unfold pwrOptionReadBody
  dsimp only
  repeat' split
  all_goals simp

theorem pwrOptionWrite_within : BodyWithin pwrOptionWriteBody := fun _ _ => by simp [pwrOptionWriteBody, ↓gates_upd]

theorem pwrCommit_within : BodyWithin pwrCommitBody := fun _ _ => by simp [pwrCommitBody, ↓gates_upd]

theorem table0C_within : ∀ e ∈ table0C, BodyWithin e.2 := by
  simp only [table0C, List.forall_mem_cons]
  exact ⟨bodyWithin_sized pwrStatus_within, bodyWithin_sized pwrReset_within, bodyWithin_sized pwrOptionRead_within,
    bodyWithin_sized pwrOptionWrite_within, bodyWithin_sized pwrCommit_within, nofun⟩

/-! ### Opcodes 0x0Dxx -/

theorem tstPoint_within : BodyWithin tstPointBody := by
  intro f s
  simp only [tstPointBody]
  split
  · trivial
  · simp [tstOut, tstIn]

theorem tstDegraded_within : BodyWithin tstDegradedBody := fun _ _ => by simp [tstDegradedBody]

theorem table0D_within : ∀ e ∈ table0D, BodyWithin e.2 := by
  simp only [table0D, List.forall_mem_cons]
  exact ⟨bodyWithin_sized tstPoint_within, bodyWithin_sized tstDegraded_within, nofun⟩

/-! ### Opcodes 0x0Exx -/

theorem fsRead_within : BodyWithin fsReadBody := fun _ _ => by simp [fsReadBody]

theorem fsWrite_within : BodyWithin fsWriteBody := fun _ _ => by simp [fsWriteBody]

theorem fsCtl_within : BodyWithin fsCtlBody := fun _ _ => by simp [fsCtlBody, ↓gates_upd]

theorem table0E_within : ∀ e ∈ table0E, BodyWithin e.2 := by
  simp only [table0E, List.forall_mem_cons]
  exact ⟨bodyWithin_sized fsRead_within, fsWrite_within, bodyWithin_sized fsCtl_within, nofun⟩

/-! ### The command step (R366, R377) -/

theorem bodyOf_within {op : Nat} {body : Flight → State → CmdOut} (h : bodyOf op = some body) : BodyWithin body := by
  obtain ⟨e, found, rfl⟩ := Option.map_eq_some_iff.1 h
  have listed := List.mem_of_find?_eq_some found
  simp only [hostTable, List.mem_append] at listed
  rcases listed with (((((((((((((l | l) | l) | l) | l) | l) | l) | l) | l) | l) | l) | l) | l) | l)
  · exact table01_within e l
  · exact table02_within e l
  · exact table03_within e l
  · exact table04_within e l
  · exact table05_within e l
  · exact table06_within e l
  · exact table07_within e l
  · exact table08_within e l
  · exact table09_within e l
  · exact table0A_within e l
  · exact table0B_within e l
  · exact table0C_within e l
  · exact table0D_within e l
  · exact table0E_within e l

section
variable {body : Flight → State → CmdOut} (hb : BodyWithin body)
include hb

/-- A command that starts brings on what its own rules bring on: its reply and E122 leave the gates. -/
theorem within_startCmd (f : Flight) (s : State) : Within (gates s) (gates (startCmd f body s)) := by
  have out := hb f { s with port.flights := s.port.flights ++ [f] }
  rw [gates_upd] at out
  unfold startCmd
  dsimp only
  generalize body f { s with port.flights := s.port.flights ++ [f] } = o at out
  cases o
  case done t pl => simpa using out
  case fail st => simp [↓gates_upd]
  case denied b => simp [↓gates_upd]
  case failed t st => simpa using out
  case wait t => exact out

/-- A packet that reaches the port changes the port, with or without a wake, or its command starts. -/
theorem within_command (op : Nat) (p : Pkt) (s : State) : Within (gates s) (gates (command op body p s)) := by
  rcases command_cases op body p s with port | port | ⟨-, -, starts⟩
  · simp [gates_of_offPort port]
  · simp [gates_of_offPort port]
  · have started := within_startCmd hb (newFlight (wake 0 s) p op) (takeCmd p op (wake 0 s))
    simpa [starts] using started
end

theorem keeps_command {op : Nat} {body : Flight → State → CmdOut} (named : bodyOf op = some body) (p : Pkt) (s : State) :
    Keeps s (.next (command op body p s)) :=
  keeps_of_within (within_command (bodyOf_within named) op p s)

section
variable (s : State)

theorem within_startHeld (f : Flight) : Within (gates s) (gates (startHeld f s)) := by
  unfold startHeld
  split
  · next named =>
    have started := within_startCmd (bodyOf_within named) f { s with port.held := s.port.held.filter fun g => !(g.no == f.no) }
    rwa [gates_upd] at started
  · simp

theorem within_rawPacket (src : Source) (exact : Bool) (b : List Byte) : Within (gates s) (gates (rawPacket src exact b s)) := by
  have checked : Within (gates s) (gates (rawChecks (rawPkt src b) exact b s)) := by
    unfold rawChecks
    dsimp only
    refine within_choice _ (by simp) (within_choice _ (by simp) (within_choice _ (by simp) (within_choice _ (by simp) ?_)))
    split
    · simp
    · next named => simpa using within_command (bodyOf_within named) (u16 4 b) (rawPkt src b) (wake 0 s)
  simp [rawPacket, checked]

theorem within_datagram (src : Source) (b : List Byte) : Within (gates s) (gates (datagram src b s)) := by
  simp [datagram, within_rawPacket]

theorem keeps_spiWrite (mosi : List Byte) : Keeps s (execSpiWrite mosi s) := by
  refine keeps_of_within (within_choice _ (by simp) (within_choice _ ?_ (by simp [↓gates_upd])))
  have raw := within_rawPacket (spiXfer [] s) .spi true mosi
  rw [gates_spiXfer] at raw
  simp [spiTake, raw]

theorem keeps_spiStatus (type : Byte) : Keeps s (execSpiStatus type s) := by
  unfold execSpiStatus
  split
  · exact keeps_spiWrite s []
  · split
    · exact keeps_spiRead s 0
    · exact keeps_of_gates (by simp)

theorem keeps_rejectedPacket (x : NetIn) : Keeps s (execRejectedPacket x s) := by
  refine keeps_of_within ?_
  split
  · exact within_datagram s _ _
  · exact within_choice _ (by simpa only [gates_upd] using within_datagram { s with port.reasm := _ } _ _) (within_refl _)
  · exact within_choice _ (by simp [↓gates_upd]) (within_refl _)
end

end Sys2Proof.Laws

namespace Sys2Proof.Laws

open Sys2Proof Sys2Proof.Machine

/-! ## What every step keeps (R150, R231) -/

/-- What a step keeps of the device safe state: no barred path on, and while the safe state stands no pilot output but F is new. -/
def Kept (s t : State) : Prop :=
  (SafeStateHolds s → SafeStateHolds t) ∧
    (s.safeDev.safeState = true → t.safeDev.safeState = true → ∀ n, (pil t n).out = (pil s n).out ∨ (pil t n).out = .F)

theorem safeStateHolds_iff (s : State) : SafeStateHolds s ↔ ∀ n, (gates s).Barred n → (gates s).Off n := by
  simp [SafeStateHolds, pathsOff_iff, barred_iff]

section
variable {s t : State}

theorem out_of_within (h : Within (gates s) (gates t)) (n : Fin 8) : (pil t n).out = (pil s n).out := by
  rw [← gates_out, h.out, gates_out]

theorem kept_of_within (h : Within (gates s) (gates t)) : Kept s t := by
  refine ⟨fun holds => (safeStateHolds_iff t).2 fun n barred => ?_, fun _ _ n => .inl (out_of_within h n)⟩
  have before : (gates s).Barred n := by rwa [Gates.Barred, ← h.safeState, ← h.member]
  exact h.off n before ((safeStateHolds_iff s).1 holds n before)

theorem kept_of_allOff (h : AllOff t) : Kept s t := ⟨fun _ n _ => (h n).1, fun _ _ n => .inr (h n).2⟩

/-- What a step keeps is read off the gates. -/
theorem kept_of_gates {u v : State} (h : Kept s t) (before : gates s = gates u) (after : gates v = gates t) : Kept u v := by
  obtain ⟨holds, outs⟩ := h
  have sameOut (x y : State) (same : gates x = gates y) (n : Fin 8) : (pil x n).out = (pil y n).out := by
    rw [← gates_out, same, gates_out]
  have sameSafe (x y : State) (same : gates x = gates y) : x.safeDev.safeState = y.safeDev.safeState := congrArg Gates.safeState same
  refine ⟨?_, ?_⟩
  · rw [safeStateHolds_iff, safeStateHolds_iff, ← before, after, ← safeStateHolds_iff, ← safeStateHolds_iff]
    exact holds
  · intro hu hv n
    rw [sameOut v t after, ← sameOut s u before]
    exact outs ((sameSafe s u before).trans hu) ((sameSafe v t after).symm.trans hv) n

theorem kept_of_safely (h : Safely s t) : Kept s t := h.elim kept_of_within kept_of_allOff

theorem kept_of_keeps {o : Host.Outcome State Fault Refusal} (h : Keeps s o) : ∃ t, o = .next t ∧ Kept s t := by
  obtain ⟨t, eq, safely⟩ := h
  exact ⟨t, eq, kept_of_safely safely⟩
end

/-! ### A pilot period (R149, R150) -/

theorem quiet_pilotNote (n : Fin 8) (f : State → State) (s : State) : quiet (pilotNote n f s) = quiet (f s) := by
  unfold pilotNote
  dsimp only
  split
  all_goals simp

theorem pilotNote_pil (n k : Fin 8) (f : State → State) (s : State) : pil (pilotNote n f s) k = pil (f s) k :=
  of_quiet (fun t => pil t k) (fun _ => rfl) (quiet_pilotNote n f s)

/-- The output of R150, with the reading and the generator's nodes that a period takes. -/
def outputSet (n : Fin 8) (l0 l1 : List Int) (gen : Int × Int) (s : State) : State :=
  let w := wantOut s n
  let s := pilotNote n (modPilot n fun p => { p with override := overridden s n }) s
  pilotNote n (modPilot n fun p => plateaus l0 l1 { newOutput s w p with gen }) s

theorem newOutput_out (s : State) (w : OutMode) (p : Pilot) : (newOutput s w p).out = w := by
  unfold newOutput
  split
  · assumption
  · split
    all_goals rfl

section
variable (n : Fin 8) (l0 l1 : List Int) (gen : Int × Int) (s : State)

theorem outputSet_out : (pil (outputSet n l0 l1 gen s) n).out = wantOut s n := by
  rw [outputSet, pilotNote_pil]
  simp [pil, modPilot, plateaus, newOutput_out]

theorem outputSet_other {k : Fin 8} (h : k ≠ n) : pil (outputSet n l0 l1 gen s) k = pil s k := by
  rw [outputSet, pilotNote_pil]
  have first := pilotNote_pil n k (modPilot n fun p => { p with override := overridden s n }) s
  simpa [pil, modPilot, vget_vmod_other _ _ _ _ h] using first

theorem outputSet_gates : ∃ out, gates (outputSet n l0 l1 gen s) = { gates s with out } := by
  have noted (u : State) (f : Pilot → Pilot) : ∃ out, gates (pilotNote n (modPilot n f) u) = { gates u with out } :=
    ⟨_, (of_quiet gates (fun _ => rfl) (quiet_pilotNote n (modPilot n f) u)).trans rfl⟩
  obtain ⟨x, first⟩ := noted s fun p => { p with override := overridden s n }
  obtain ⟨y, last⟩ := noted (pilotNote n (modPilot n fun p => { p with override := overridden s n }) s) fun p =>
    plateaus l0 l1 { newOutput (pilotNote n (modPilot n fun p => { p with override := overridden s n }) s) (wantOut s n) p with gen }
  exact ⟨y, last.trans (by rw [first])⟩

theorem pilotPeriod_eq : pilotPeriod n l0 l1 gen s = slacStart n (if outCode (pil s n).out ≠ outCode (wantOut s n) then
    genCheck n (outputSet n l0 l1 gen s) else outputSet n l0 l1 gen s) := by
  rw [← outputSet_out n l0 l1 gen s]
  rfl

theorem within_pilotPeriod : Within (gates (outputSet n l0 l1 gen s)) (gates (pilotPeriod n l0 l1 gen s)) := by
  rw [pilotPeriod_eq, gates_slacStart]
  split
  · exact within_genCheck (within_refl _) n
  · exact within_refl _

theorem pilotPeriod_out : (pil (pilotPeriod n l0 l1 gen s) n).out = wantOut s n :=
  (out_of_within (within_pilotPeriod n l0 l1 gen s) n).trans (outputSet_out n l0 l1 gen s)

/-- In the device safe state the output wanted is F (R150). -/
theorem wantOut_of_safeState (h : s.safeDev.safeState = true) : wantOut s n = .F := by simp [wantOut, forcedF, h]

theorem kept_pilotPeriod : ∃ t, execPilotPeriod n l0 l1 gen s = .next t ∧ Kept s t := by
  refine ⟨_, rfl, ?_⟩
  split
  · obtain ⟨out, set⟩ := outputSet_gates n l0 l1 gen s
    have after := within_pilotPeriod n l0 l1 gen s
    have outs (k : Fin 8) := out_of_within after k
    refine ⟨fun holds => ?_, fun safe _ k => ?_⟩
    · refine (kept_of_within after).1 ((safeStateHolds_iff _).2 fun k barred => ?_)
      rw [set] at barred ⊢
      exact (safeStateHolds_iff s).1 holds k barred
    · by_cases own : k = n
      · subst own
        exact .inr ((pilotPeriod_out k l0 l1 gen s).trans (wantOut_of_safeState k s safe))
      · exact .inl ((outs k).trans (by rw [outputSet_other n l0 l1 gen s own]))
  · exact kept_of_within (within_refl _)
end

/-! ### Entering the device safe state (R231) -/

theorem pointSafe_off (n : Fin 8) (s : State) : PathsOff (pointSafe n s) n := by
  have gone : gates (pointSafe n s) = gates (cutLow n (openCoil n s)) := by simp [pointSafe]
  rw [pathsOff_iff, gone, ← pathsOff_iff]
  have coil := openCoil_coil n s
  have path : (saf (openCoil n s) n).path = 0 := by
    unfold openCoil
    dsimp only
    split
    · simp_all
    · simp [saf, modSafe]
  simpa [PathsOff, cutLow, saf, modSafe] using And.intro coil path

theorem within_pointSafe {a : Gates} {s : State} (h : Within a (gates s)) (n : Fin 8) : Within a (gates (pointSafe n s)) := by
  simp [pointSafe, h]

/-- Once the safe state stands, every point it goes through is off afterwards. -/
theorem pointsSafe_off (l : List (Fin 8)) (s : State) (safe : s.safeDev.safeState = true) (n : Fin 8) (mem : n ∈ l) :
    PathsOff (l.foldl (fun t n => pointSafe n t) s) n := by
  induction l generalizing s with
  | nil => cases mem
  | cons b l ih =>
    have after := within_pointSafe (within_refl (gates s)) b
    have stands : (pointSafe b s).safeDev.safeState = true := after.safeState.trans safe
    rcases List.mem_cons.1 mem with rfl | later
    · have rest := within_foldl (a := gates (pointSafe n s)) (fun t n => pointSafe n t) (fun t k ht => within_pointSafe ht k) l _
        (within_refl _)
      exact (pathsOff_iff _ n).2 (rest.off n (.inl stands) ((pathsOff_iff _ n).1 (pointSafe_off n s)))
    · exact ih _ stands later

theorem kept_enterSafe (kind item : Nat) (s : State) : Kept s (enterSafe kind item s) := by
  unfold enterSafe
  split
  · exact kept_of_within (within_refl _)
  · extract_lets d v u
    have stands : (pulse 79 (prm [(1, kind), (1, item)]) u).safeDev.safeState = true := by simp [u]
    have same : gates (pulse 79 (prm [(1, kind), (1, item)]) u) = { gates s with safeState := true } := by
      rw [gates_pulse]
      rfl
    have all := within_foldl (a := { gates s with safeState := true }) (fun t n => pointSafe n t) (fun t n ht => within_pointSafe ht n)
      (points u) (pulse 79 (prm [(1, kind), (1, item)]) u) (by simp [same])
    have off (n : Fin 8) (mem : n ∈ points u) := pointsSafe_off (points u) _ stands n mem
    generalize (points u).foldl (fun t n => pointSafe n t) (pulse 79 (prm [(1, kind), (1, item)]) u) = t at all off
    have out (n : Fin 8) : (pil (coilsOff t) n).out = (pil s n).out := by
      rw [← gates_out, gates_coilsOff, all.out, gates_out]
    refine ⟨fun holds n _ => ?_, fun _ _ n => .inl (out n)⟩
    rw [pathsOff_iff, gates_coilsOff]
    by_cases there : hasPoint s n = true
    · exact (pathsOff_iff t n).1 (off n (List.mem_filter.2 ⟨List.mem_finRange n, there⟩))
    · exact all.off n (.inl rfl) ((pathsOff_iff s n).1 (holds n (.inr (by simpa using there))))

theorem kept_safetyPairFault (s : State) (x : PairFault) : ∃ t, execSafetyPairFault x s = .next t ∧ Kept s t := by
  refine ⟨_, rfl, ?_⟩
  split
  · exact kept_of_gates (kept_enterSafe _ _ s) rfl (gates_statusSync _)
  · exact kept_of_within (within_refl _)

theorem kept_mainClockFail (s : State) (pll : Bool) : ∃ t, execMainClockFail pll s = .next t ∧ Kept s t := by
  refine ⟨_, rfl, ?_⟩
  split
  · exact kept_of_within (within_refl _)
  · exact kept_of_gates (kept_enterSafe 5 0 _) (by simp [↓gates_upd]) rfl

/-! ### The step -/

theorem exec_kept (c : Instr) (s : State) : ∃ t, exec c s = .next t ∧ Kept s t := by
  cases c
  case netCommitApply => exact kept_of_keeps (keeps_netCommitApply s)
  case partingFenceComplete marks => exact kept_of_keeps (keeps_partingFenceComplete s marks)
  case partingFenceTimeout marks => exact kept_of_keeps (keeps_partingFenceTimeout s marks)
  case mtrCommitApply => exact kept_of_keeps (keeps_mtrCommitApply s)
  case mtrEnergyCommitApply => exact kept_of_keeps (keeps_mtrEnergyCommitApply s)
  case bilCommitApply => exact kept_of_keeps (keeps_bilCommitApply s)
  case bilPeriodEndClose => exact kept_of_keeps (keeps_bilPeriodEndClose s)
  case ptCommitApply => exact kept_of_keeps (keeps_ptCommitApply s)
  case authCommitApply => exact kept_of_keeps (keeps_authCommitApply s)
  case dspCommitApply => exact kept_of_keeps (keeps_dspCommitApply s)
  case updSlotWritten => exact kept_of_keeps (keeps_updSlotWritten s)
  case updActivation => exact kept_of_keeps (keeps_updActivation s)
  case trialFailure => exact kept_of_keeps (keeps_trialFailure s)
  case trialConfirmTimeout => exact kept_of_keeps (keeps_trialConfirmTimeout s)
  case pwrResetExecute => exact kept_of_keeps (keeps_pwrResetExecute s)
  case spiWrite mosi => exact kept_of_keeps (keeps_spiWrite s mosi)
  case spiRead n => exact kept_of_keeps (keeps_spiRead s n)
  case spiStatus type => exact kept_of_keeps (keeps_spiStatus s type)
  case fragmentTimeout => exact kept_of_keeps (keeps_fragmentTimeout s)
  case netServiceRequest kind dst data => exact kept_of_keeps (keeps_netServiceRequest s kind dst data)
  case evtNotify k => exact kept_of_keeps (keeps_evtNotify s k)
  case evtNotifyResend k => exact kept_of_keeps (keeps_evtNotifyResend s k)
  case ringTestSend => exact kept_of_keeps (keeps_ringTestSend s)
  case ringTestReceive port own => exact kept_of_keeps (keeps_ringTestReceive s port own)
  case ringTestMissing port => exact kept_of_keeps (keeps_ringTestMissing s port)
  case linkDown port => exact kept_of_keeps (keeps_linkDown s port)
  case flush port => exact kept_of_keeps (keeps_flush s port)
  case ethLinkChange port up => exact kept_of_keeps (keeps_ethLinkChange s port up)
  case macAgeing => exact kept_of_keeps (keeps_macAgeing s)
  case ptpMessage m => exact kept_of_keeps (keeps_ptpMessage s m)
  case ptpAnnounceTimeout => exact kept_of_keeps (keeps_ptpAnnounceTimeout s)
  case mailboxRing k who count => exact kept_of_keeps (keeps_mailboxRing s k who count)
  case mailboxAck k who code => exact kept_of_keeps (keeps_mailboxAck s k who code)
  case registerWrite k who word v => exact kept_of_keeps (keeps_registerWrite s k who word v)
  case mailboxPendingTimeout k => exact kept_of_keeps (keeps_mailboxPendingTimeout s k)
  case eventCoalesceFlush => exact kept_of_keeps (keeps_eventCoalesceFlush s)
  case powerOn mv lost => exact kept_of_keeps (keeps_powerOn s mv lost)
  case coldReset straps test => exact kept_of_keeps (keeps_coldReset s straps test)
  case resetNPin low => exact kept_of_keeps (keeps_resetNPin s low)
  case vioInvalid => exact kept_of_keeps (keeps_vioInvalid s)
  case vioValid => exact kept_of_keeps (keeps_vioValid s)
  case vsysInvalid mv => exact kept_of_keeps (keeps_vsysInvalid s mv)
  case vbatLow mv => exact kept_of_keeps (keeps_vbatLow s mv)
  case powerFailWarning mv us => exact kept_of_keeps (keeps_powerFailWarning s mv us)
  case pfwNSample high => exact kept_of_keeps (keeps_pfwNSample s high)
  case pfwStop => exact kept_of_keeps (keeps_pfwStop s)
  case pfwRecovered => exact kept_of_keeps (keeps_pfwRecovered s)
  case pfwWithdrawn => exact kept_of_keeps (keeps_pfwWithdrawn s)
  case watchdogExpiry => exact kept_of_keeps (keeps_watchdogExpiry s)
  case eccError => exact kept_of_keeps (keeps_eccError s)
  case warmReset => exact kept_of_keeps (keeps_warmReset s)
  case warmResetEnd => exact kept_of_keeps (keeps_warmResetEnd s)
  case appRunning => exact kept_of_keeps (keeps_appRunning s)
  case blockResetRequest unit => exact kept_of_keeps (keeps_blockResetRequest s unit)
  case blockResetBegin => exact kept_of_keeps (keeps_blockResetBegin s)
  case blockResetEscalate => exact kept_of_keeps (keeps_blockResetEscalate s)
  case blockResetEnd => exact kept_of_keeps (keeps_blockResetEnd s)
  case powerStateDescend => exact kept_of_keeps (keeps_powerStateDescend s)
  case powerStateWake src => exact kept_of_keeps (keeps_powerStateWake s src)
  case enterIdle => exact kept_of_keeps (keeps_enterIdle s)
  case shelfWake => exact kept_of_keeps (keeps_shelfWake s)
  case rtcCorrection => exact kept_of_keeps (keeps_rtcCorrection s)
  case clockMonitor nfc rtc => exact kept_of_keeps (keeps_clockMonitor s nfc rtc)
  case mainClockFail pll => exact kept_mainClockFail s pll
  case pllLockLoss app lost => exact kept_of_keeps (keeps_pllLockLoss s app lost)
  case dieTempWarning t => exact kept_of_keeps (keeps_dieTempWarning s t)
  case mramScrub word bad => exact kept_of_keeps (keeps_mramScrub s word bad)
  case coverTamper isOpen => exact kept_of_keeps (keeps_coverTamper s isOpen)
  case rotationSlotStart x => exact kept_of_keeps (keeps_rotationSlotStart s x)
  case modulatorFault m e => exact kept_of_keeps (keeps_modulatorFault s m e)
  case bitstreamStuck c periods => exact kept_of_keeps (keeps_bitstreamStuck s c periods)
  case bitstreamRecover c us => exact kept_of_keeps (keeps_bitstreamRecover s c us)
  case bitstreamOverrange c ones => exact kept_of_keeps (keeps_bitstreamOverrange s c ones)
  case crossCheckWindow c => exact kept_of_keeps (keeps_crossCheckWindow s c)
  case fastPathSample xs => exact kept_of_keeps (keeps_fastPathSample s xs)
  case presetOutputSample g preset => exact kept_of_keeps (keeps_presetOutputSample s g preset)
  case zeroCrossing c => exact kept_of_keeps (keeps_zeroCrossing s c)
  case zcMissing c => exact kept_of_keeps (keeps_zcMissing s c)
  case meteringWindowClose m => exact kept_of_keeps (keeps_meteringWindowClose s m)
  case nettingPeriodEnd m => exact kept_of_keeps (keeps_nettingPeriodEnd s m)
  case gridBoundary => exact kept_of_keeps (keeps_gridBoundary s)
  case p100Persist ok => exact kept_of_keeps (keeps_p100Persist s ok)
  case pulseIssue k => exact kept_of_keeps (keeps_pulseIssue s k)
  case ppAuxCheck => exact kept_of_keeps (keeps_ppAuxCheck s)
  case ledgerRecordWrite done => exact kept_of_keeps (keeps_ledgerRecordWrite s done)
  case safetyCycle pts npe => exact kept_of_keeps (keeps_safetyCycle s pts npe)
  case tripConfirmed n => exact kept_of_keeps (keeps_tripConfirmed s n)
  case safeCutDrop n => exact kept_of_keeps (keeps_safeCutDrop s n)
  case pathTestStepEnd n => exact kept_of_keeps (keeps_pathTestStepEnd s n)
  case closingTimeout n => exact kept_of_keeps (keeps_closingTimeout s n)
  case weldCheck n => exact kept_of_keeps (keeps_weldCheck s n)
  case dcVoltageCheckTimeout n => exact kept_of_keeps (keeps_dcVoltageCheckTimeout s n)
  case weldWhileOpen n => exact kept_of_keeps (keeps_weldWhileOpen s n)
  case pathEnableTimeout n cut => exact kept_of_keeps (keeps_pathEnableTimeout s n cut)
  case cutFault n => exact kept_of_keeps (keeps_cutFault s n)
  case safetyPairFault x => exact kept_safetyPairFault s x
  case safeStateSessionEnd n => exact kept_of_keeps (keeps_safeStateSessionEnd s n)
  case safeRstPulse idle low high both => exact kept_of_keeps (keeps_safeRstPulse s idle low high both)
  case safeRstStuck low => exact kept_of_keeps (keeps_safeRstStuck s low)
  case appResetOpenTimeout n => exact kept_of_keeps (keeps_appResetOpenTimeout s n)
  case pilotPeriod n l0 l1 gen => exact kept_pilotPeriod n l0 l1 gen s
  case pilotStateAccept n => exact kept_of_keeps (keeps_pilotStateAccept s n)
  case pilotStateInvalid n => exact kept_of_keeps (keeps_pilotStateInvalid s n)
  case diodeFault n => exact kept_of_keeps (keeps_diodeFault s n)
  case pilotErrorHoldEnd n => exact kept_of_keeps (keeps_pilotErrorHoldEnd s n)
  case proximityAccept n mv => exact kept_of_keeps (keeps_proximityAccept s n mv)
  case dutyIncreaseDue n => exact kept_of_keeps (keeps_dutyIncreaseDue s n)
  case overcurrent n => exact kept_of_keeps (keeps_overcurrent s n)
  case bindLapse n => exact kept_of_keeps (keeps_bindLapse s n)
  case modemLoopback n pass => exact kept_of_keeps (keeps_modemLoopback s n pass)
  case modemNoAnswer n us => exact kept_of_keeps (keeps_modemNoAnswer s n us)
  case cmSlacParmReq n => exact kept_of_keeps (keeps_cmSlacParmReq s n)
  case cmMnbcSoundInd n atten => exact kept_of_keeps (keeps_cmMnbcSoundInd s n atten)
  case cmAttenCharRsp n => exact kept_of_keeps (keeps_cmAttenCharRsp s n)
  case cmSlacMatchReq n => exact kept_of_keeps (keeps_cmSlacMatchReq s n)
  case slacTimeout n => exact kept_of_keeps (keeps_slacTimeout s n)
  case slacRetry n => exact kept_of_keeps (keeps_slacRetry s n)
  case sdpRequest n => exact kept_of_keeps (keeps_sdpRequest s n)
  case tlsHandshake n x => exact kept_of_keeps (keeps_tlsHandshake s n x)
  case supportedAppProtocol n offers => exact kept_of_keeps (keeps_supportedAppProtocol s n offers)
  case authorizationRequest n contract => exact kept_of_keeps (keeps_authorizationRequest s n contract)
  case chargeParameterDiscovery n x => exact kept_of_keeps (keeps_chargeParameterDiscovery s n x)
  case cableCheckRequest n => exact kept_of_keeps (keeps_cableCheckRequest s n)
  case prechargeRequest n u a => exact kept_of_keeps (keeps_prechargeRequest s n u a)
  case powerDeliveryRequest n op => exact kept_of_keeps (keeps_powerDeliveryRequest s n op)
  case chargeLoopRequest n x => exact kept_of_keeps (keeps_chargeLoopRequest s n x)
  case certificateRequest n body => exact kept_of_keeps (keeps_certificateRequest s n body)
  case meteringReceipt n => exact kept_of_keeps (keeps_meteringReceipt s n)
  case certExchangeTimeout n => exact kept_of_keeps (keeps_certExchangeTimeout s n)
  case authorizationTimeout n => exact kept_of_keeps (keeps_authorizationTimeout s n)
  case hlcMessageTimeout n => exact kept_of_keeps (keeps_hlcMessageTimeout s n)
  case dcStepTimeout n => exact kept_of_keeps (keeps_dcStepTimeout s n)
  case hostStopTimeout n => exact kept_of_keeps (keeps_hostStopTimeout s n)
  case tcpLoss n cause => exact kept_of_keeps (keeps_tcpLoss s n cause)
  case hlcFallback n => exact kept_of_keeps (keeps_hlcFallback s n)
  case canFrameTransmit f => exact kept_of_keeps (keeps_canFrameTransmit s f)
  case canFrameReceive f data => exact kept_of_keeps (keeps_canFrameReceive s f data)
  case canReceiveTimeout f => exact kept_of_keeps (keeps_canReceiveTimeout s f)
  case psFaultClear n => exact kept_of_keeps (keeps_psFaultClear s n)
  case psFaultOpenTimeout n => exact kept_of_keeps (keeps_psFaultOpenTimeout s n)
  case offsetMeasurement n => exact kept_of_keeps (keeps_offsetMeasurement s n)
  case residualMismatch n => exact kept_of_keeps (keeps_residualMismatch s n)
  case testWindingStepEnd n => exact kept_of_keeps (keeps_testWindingStepEnd s n)
  case testWindingDue n => exact kept_of_keeps (keeps_testWindingDue s n)
  case earthTriggerClear n => exact kept_of_keeps (keeps_earthTriggerClear s n)
  case insulationStepEnd n step tapP tapN us settled => exact kept_of_keeps (keeps_insulationStepEnd s n step tapP tapN us settled)
  case peChkPulse us => exact kept_of_keeps (keeps_peChkPulse s us)
  case shortCircuit c ma => exact kept_of_keeps (keeps_shortCircuit s c ma)
  case channelOvercurrent c ma us => exact kept_of_keeps (keeps_channelOvercurrent s c ma us)
  case channelThermal c temp => exact kept_of_keeps (keeps_channelThermal s c temp)
  case supplyUnderVoltage mv us => exact kept_of_keeps (keeps_supplyUnderVoltage s mv us)
  case underVoltageRelease mv us => exact kept_of_keeps (keeps_underVoltageRelease s mv us)
  case inrushWindowEnd c => exact kept_of_keeps (keeps_inrushWindowEnd s c)
  case restartEvaluation c temp => exact kept_of_keeps (keeps_restartEvaluation s c temp)
  case retryCounterDecay c => exact kept_of_keeps (keeps_retryCounterDecay s c)
  case offStateTest c mv mvB => exact kept_of_keeps (keeps_offStateTest s c mv mvB)
  case onStateOpenLoad c ma us => exact kept_of_keeps (keeps_onStateOpenLoad s c ma us)
  case economiserUpdate c mv => exact kept_of_keeps (keeps_economiserUpdate s c mv)
  case feedbackChange k high us0 us1 => exact kept_of_keeps (keeps_feedbackChange s k high us0 us1)
  case lockOperation n => exact kept_of_keeps (keeps_lockOperation s n)
  case lockDriveEnd n ma us => exact kept_of_keeps (keeps_lockDriveEnd s n ma us)
  case lockConfirm n high us => exact kept_of_keeps (keeps_lockConfirm s n high us)
  case lockLost n high us => exact kept_of_keeps (keeps_lockLost s n high us)
  case limpHomeChange lhEn refreshed => exact kept_of_keeps (keeps_limpHomeChange s lhEn refreshed)
  case appRefreshTimeout => exact kept_of_keeps (keeps_appRefreshTimeout s)
  case lhInputChange k high => exact kept_of_keeps (keeps_lhInputChange s k high)
  case antennaPing k amp => exact kept_of_keeps (keeps_antennaPing s k amp)
  case poll k x => exact kept_of_keeps (keeps_poll s k x)
  case pollEnd k => exact kept_of_keeps (keeps_pollEnd s k)
  case hostDecisionTimeout n => exact kept_of_keeps (keeps_hostDecisionTimeout s n)
  case presentationEnd k => exact kept_of_keeps (keeps_presentationEnd s k)
  case antennaSelftest k ma phase => exact kept_of_keeps (keeps_antennaSelftest s k ma phase)
  case baselineStore => exact kept_of_keeps (keeps_baselineStore s)
  case fieldPowerUp mAm => exact kept_of_keeps (keeps_fieldPowerUp s mAm)
  case ndefRead file => exact kept_of_keeps (keeps_ndefRead s file)
  case fieldRead p1 data => exact kept_of_keeps (keeps_fieldRead s p1 data)
  case fieldWrite p1 data bad => exact kept_of_keeps (keeps_fieldWrite s p1 data bad)
  case confirmProcess n => exact kept_of_keeps (keeps_confirmProcess s n)
  case halfCycleRecord => exact kept_of_keeps (keeps_halfCycleRecord s)
  case tiderSlot pos neg samples amp => exact kept_of_keeps (keeps_tiderSlot s pos neg samples amp)
  case spanEnd x => exact kept_of_keeps (keeps_spanEnd s x)
  case joinListenEnd => exact kept_of_keeps (keeps_joinListenEnd s)
  case neighbourTimeout => exact kept_of_keeps (keeps_neighbourTimeout s)
  case beaconDue => exact kept_of_keeps (keeps_beaconDue s)
  case demandDue => exact kept_of_keeps (keeps_demandDue s)
  case allocTimeout => exact kept_of_keeps (keeps_allocTimeout s)
  case displayUpdateStart found => exact kept_of_keeps (keeps_displayUpdateStart s found)
  case railPowerOnStep mv => exact kept_of_keeps (keeps_railPowerOnStep s mv)
  case displayFrame => exact kept_of_keeps (keeps_displayFrame s)
  case displayUpdateComplete => exact kept_of_keeps (keeps_displayUpdateComplete s)
  case railHoldExpiry => exact kept_of_keeps (keeps_railHoldExpiry s)
  case railRetry => exact kept_of_keeps (keeps_railRetry s)
  case ntcMeasure t => exact kept_of_keeps (keeps_ntcMeasure s t)
  case tempDeferralRetry => exact kept_of_keeps (keeps_tempDeferralRetry s)
  case legalRender => exact kept_of_keeps (keeps_legalRender s)
  case recoveryStart => exact kept_of_keeps (keeps_recoveryStart s)
  case katRun fails => exact kept_of_keeps (keeps_katRun s fails)
  case chuckWaitTimeout => exact kept_of_keeps (keeps_chuckWaitTimeout s)
  case grantExpiry => exact kept_of_keeps (keeps_grantExpiry s)
  case serviceSelection n code dynamic evccid => exact kept_of_keeps (keeps_serviceSelection s n code dynamic evccid)
  case rejectedPacket x => exact kept_of_keeps (keeps_rejectedPacket s x)
  case fieldCollapse cut => exact kept_of_keeps (keeps_fieldCollapse s cut)
  case modulatorOverdue m => exact kept_of_keeps (keeps_modulatorOverdue s m)
  case nonceExpiry => exact kept_of_keeps (keeps_nonceExpiry s)
  case keptCommandExpiry => exact kept_of_keeps (keeps_keptCommandExpiry s)
  case dhcpv4Message ip ack => exact kept_of_keeps (keeps_dhcpv4Message s ip ack)
  case frameForwarding port src dst len => exact kept_of_keeps (keeps_frameForwarding s port src dst len)
  case syncInterval announce => exact kept_of_keeps (keeps_syncInterval s announce)
  all_goals exact kept_of_keeps (keeps_command (by rfl) _ s)

theorem kept_idle (s : State) : Kept s (idle s) := by
  rcases idle_cases s with ⟨-, eq⟩ | ⟨f, -, eq⟩
  · rw [eq]
    exact kept_of_within (by simp)
  · rw [eq]
    exact kept_of_within (within_startHeld s f)

theorem step_kept (s t : State) (h : step s = .next t) : Kept s t := by
  rcases step_cases s t h with ⟨c, rest, -, runs⟩ | ⟨-, rfl⟩
  · obtain ⟨u, eq, kept⟩ := exec_kept c { s with pending := rest }
    obtain rfl : u = t := Host.Outcome.next.inj (eq.symm.trans runs)
    exact kept
  · exact kept_idle s
end Sys2Proof.Laws

namespace Sys2Proof.Proofs

open Sys2Proof Sys2Proof.Machine Sys2Proof.Laws

/-- Settles O48: a step shows at the gates of the points what it did, and nothing but a pilot period, the entry into the safe state
and a cold reset lets a bar or an output change. -/
theorem stepKeepsSafeState : Obligations.StepKeepsSafeState := by
  refine ⟨fun s t holds runs => ?_, fun n l0 l1 gen s safe there valid => ?_⟩
  · obtain ⟨kept, outs⟩ := step_kept s t runs
    exact ⟨kept holds, outs⟩
  · refine ⟨pilotPeriod n l0 l1 gen s, ?_, ?_⟩
    · show execPilotPeriod n l0 l1 gen s = _
      simp [execPilotPeriod, there, valid]
    · exact (pilotPeriod_out n l0 l1 gen s).trans (wantOut_of_safeState n s safe)

end Sys2Proof.Proofs

namespace Sys2Proof.Laws

open Sys2Proof Sys2Proof.Machine

/-! ## The lands while both supplies are valid (R479, R480, R483) -/

section
variable {s : State}

theorem landSt_powered (vsys : s.pwr.vsysValid = true) (vio : s.pwr.vioValid = true) (l : Land) : landSt s l = poweredSt s l := by
  simp [landSt, vsys, vio]

/-- The phases with dark lands are none of those in which the port is driven. -/
theorem spiDriven_of_darkLands (dark : darkLands s = true) : spiDriven s = false := by
  unfold darkLands coldLands at dark
  unfold spiDriven gridRuns
  cases phase : s.pwr.phase
  all_goals simp_all

theorem spiDriven_of_inWarm (warm : s.pwr.inWarm = true) : spiDriven s = false := by simp [spiDriven, warm]

theorem hostIrqN_of_undriven (idle : spiDriven s = false) : poweredSt s .hostIrqN = .highZ := by
  simp [poweredSt, hostIrqLow, idle]

/-- A DI land but TEST_MODE is pulled up whatever the state (R480). -/
theorem poweredSt_input {l : Land} (input : landType l = .DI) (other : l ≠ .testMode) : poweredSt s l = .pullUp := by
  revert input other
  cases l
  all_goals simp [landType, poweredSt]

theorem landSt_input_unpowered (vio : s.pwr.vioValid = false) {l : Land} (type : landType l = .DI ∨ landType l = .DO ∨ landType l = .OD) :
    landSt s l = .unpowered := by
  have referred : vioLand l = true := by
    rcases type with h | h | h
    all_goals simp [vioLand, h]
  simp [landSt, referred, vio]

/-- SAFE_CUTn follows its level while VSYS is valid, and is never high without it (R232, R483). -/
theorem safeCut_low (n : Fin 8) (off : PathsOff s n) : landSt s (.safeCut n) ≠ .high := by
  obtain ⟨-, cut, -⟩ := off
  have level : poweredSt s (.safeCut n) = .low := by simp [poweredSt, levelSt, cut]
  intro high
  unfold landSt at high
  rw [level] at high
  repeat' split at high
  all_goals cases high

/-- A warm reset holds every unit of the device (R449, R451). -/
theorem unitReset_of_inWarm (warm : s.pwr.inWarm = true) (u : Nat) : unitReset s u = true := by simp [unitReset, warm]

theorem not_darkLands_of_gridRuns (runs : gridRuns s = true) : darkLands s = false := by
  unfold gridRuns at runs
  unfold darkLands coldLands
  cases phase : s.pwr.phase
  all_goals simp_all

end

end Sys2Proof.Laws

namespace Sys2Proof.Proofs

open Sys2Proof Sys2Proof.Machine Sys2Proof.Laws

/-- Settles O56: with both supplies valid a land does what the table of R480 gives for its kind, row by row. -/
theorem landsInReset : Obligations.LandsInReset := by
  refine ⟨fun s dark vsys vio => ?_, fun s l vio type => landSt_input_unpowered vio type, fun s runs warm vsys vio => ?_,
    fun s n off => safeCut_low n off⟩
  · have irq := hostIrqN_of_undriven (spiDriven_of_darkLands dark)
    have inputs (l : Land) (input : landType l = .DI) (other : l ≠ .testMode) := poweredSt_input (s := s) input other
    simp only [landSt_powered vsys vio, irq]
    refine ⟨?_, ?_, ?_, ?_, ?_, ?_, ?_, ?_, trivial, inputs, rfl⟩
    all_goals simp [poweredSt, chanSt, lockSt, dark]
  · have irq := hostIrqN_of_undriven (spiDriven_of_inWarm warm)
    have lit := not_darkLands_of_gridRuns runs
    simp only [landSt_powered vsys vio, irq]
    simp [poweredSt, epdSt, lit, unitReset_of_inWarm warm]

end Sys2Proof.Proofs

namespace Sys2Proof.Laws

open Sys2Proof Sys2Proof.Machine

/-! ## What ends a session leaves aside (R19, R177)

Opening the contactor and closing the session leave the pilots, the latches and the earth monitor, and of high-level communication
they move the phase alone. -/

/-- What the end of a session leaves: pilots, latches, earth monitor, and high-level communication without its phase. -/
def aside (s : State) : Vector Pilot 8 × Vector NvPoint 8 × Vector Earth 8 × Vector Hlc 8 :=
  (s.pilot, s.nvPt, s.earth, s.hlc.map fun h => { h with phase := .idle })

theorem aside_of_quiet {s t : State} (h : quiet t = quiet s) : aside t = aside s := of_quiet aside (fun _ => rfl) h
theorem aside_of_offMeter {s t : State} (h : offMeter t = offMeter s) : aside t = aside s := of_offMeter aside (fun _ => rfl) h

section
variable {s t : State} (h : aside t = aside s)
include h
theorem pilot_of_aside : t.pilot = s.pilot := congrArg Prod.fst h
theorem nvPt_of_aside : t.nvPt = s.nvPt := congrArg (·.2.1) h
theorem earth_of_aside : t.earth = s.earth := congrArg (·.2.2.1) h

/-- All but the phase of high-level communication is as before. -/
theorem hl_of_aside {α : Type} (f : Hlc → α) (blind : ∀ x, f { x with phase := .idle } = f x) (n : Fin 8) : f (hl t n) = f (hl s n) := by
  have all := congrArg (fun v => vget v.2.2.2 n) h
  simp only [aside, vget_map] at all
  rw [← blind (hl t n), ← blind (hl s n)]
  exact congrArg f all

end

section
variable (n : Fin 8) (s : State)

@[simp] theorem aside_e55 (kind : Nat) (l : List (Nat × Nat)) : aside (e55 n kind l s) = aside s := aside_of_quiet (quiet_pulse _ _ _)

@[simp] theorem aside_setPhase (p : HlcPhase) : aside (setPhase n p s) = aside s := by
  unfold setPhase
  split
  · rfl
  · rw [aside_e55]
    simp [aside, map_vmod (fun h : Hlc => { h with phase := .idle }) (fun h => { h with phase := p }) fun _ => rfl]

@[simp] theorem aside_openCoil : aside (openCoil n s) = aside s := by
  unfold openCoil
  dsimp only
  repeat' split
  all_goals rfl

@[simp] theorem aside_markEnd (reason : EndReason) : aside (markEnd n reason s) = aside s := by
  unfold markEnd
  split
  · exact (aside_setPhase ..).trans rfl
  · rfl

@[simp] theorem aside_weldPhase : aside (weldPhase n s) = aside s := by
  unfold weldPhase
  split
  · simp
  · rfl

@[simp] theorem aside_closeValues (reason : EndReason) (flags : Nat) : aside (closeValues n reason flags s) = aside s := by
  unfold closeValues
  split
  · rfl
  · exact (aside_setPhase ..).trans ((aside_of_offMeter (offMeter_boundary ..)).trans rfl)

@[simp] theorem aside_tryClose (flags : Nat) : aside (tryClose n flags s) = aside s := by
  unfold tryClose
  split
  · split
    · simp
    · rfl
  · rfl

@[simp] theorem aside_endX1 (reason : EndReason) : aside (endX1 n reason s) = aside s := by
  unfold endX1
  split
  · simp
  · rfl

/-! ### Pilots and latches through the end of a session -/

@[simp] theorem setPhase_pilot (p : HlcPhase) : (setPhase n p s).pilot = s.pilot := pilot_of_aside (aside_setPhase n s p)
@[simp] theorem markEnd_pilot (reason : EndReason) : (markEnd n reason s).pilot = s.pilot := pilot_of_aside (aside_markEnd n s reason)
@[simp] theorem markEnd_nvPt (reason : EndReason) : (markEnd n reason s).nvPt = s.nvPt := nvPt_of_aside (aside_markEnd n s reason)
@[simp] theorem openCoil_pilot : (openCoil n s).pilot = s.pilot := pilot_of_aside (aside_openCoil n s)
@[simp] theorem openCoil_nvPt : (openCoil n s).nvPt = s.nvPt := nvPt_of_aside (aside_openCoil n s)
@[simp] theorem weldPhase_pilot : (weldPhase n s).pilot = s.pilot := pilot_of_aside (aside_weldPhase n s)
@[simp] theorem weldPhase_nvPt : (weldPhase n s).nvPt = s.nvPt := nvPt_of_aside (aside_weldPhase n s)
@[simp] theorem tryClose_pilot (flags : Nat) : (tryClose n flags s).pilot = s.pilot := pilot_of_aside (aside_tryClose n s flags)
@[simp] theorem tryClose_nvPt (flags : Nat) : (tryClose n flags s).nvPt = s.nvPt := nvPt_of_aside (aside_tryClose n s flags)

@[simp] theorem leaveDc_pilot : (leaveDc n s).pilot = s.pilot := by
  obtain ⟨h, eq⟩ := leaveDc_eq n s
  rw [eq]

@[simp] theorem leaveDc_nvPt : (leaveDc n s).nvPt = s.nvPt := by
  obtain ⟨h, eq⟩ := leaveDc_eq n s
  rw [eq]

@[simp] theorem endNow_pilot (reason : EndReason) : (endNow n reason s).pilot = s.pilot := by
  unfold endNow
  split
  all_goals simp

@[simp] theorem endNow_nvPt (reason : EndReason) : (endNow n reason s).nvPt = s.nvPt := by
  unfold endNow
  split
  all_goals simp

@[simp] theorem endSoft_pilot (reason : EndReason) : (endSoft n reason s).pilot = s.pilot := by
  unfold endSoft
  split
  all_goals simp

@[simp] theorem setOos_pilot (i : Nat) : (setOos n i s).pilot = s.pilot := by
  unfold setOos
  dsimp only
  split
  all_goals simp

@[simp] theorem e74_pilot (causes : BitVec 32) (src : Nat) : (e74 n causes src s).pilot = s.pilot := by simp [e74]
@[simp] theorem e74_nvPt (causes : BitVec 32) (src : Nat) : (e74 n causes src s).nvPt = s.nvPt := by simp [e74]

@[simp] theorem tripPoint_pilot (causes latch : BitVec 32) : (tripPoint n causes latch s).pilot = s.pilot := by
  unfold tripPoint
  dsimp only
  split
  all_goals simp [dropCut]

@[simp] theorem leaveC_pilot : (leaveC n s).pilot = s.pilot := by
  unfold leaveC
  split
  · rfl
  · split
    all_goals simp [dropCut, noteTrip]

@[simp] theorem pilotNote_pilot (f : State → State) : (pilotNote n f s).pilot = (f s).pilot :=
  of_quiet State.pilot (fun _ => rfl) (quiet_pilotNote n f s)

@[simp] theorem pilotNote_nvPt (f : State → State) : (pilotNote n f s).nvPt = (f s).nvPt :=
  of_quiet State.nvPt (fun _ => rfl) (quiet_pilotNote n f s)

@[simp] theorem pilotNote_clk (f : State → State) : (pilotNote n f s).clk = (f s).clk :=
  of_quiet State.clk (fun _ => rfl) (quiet_pilotNote n f s)

@[simp] theorem genFaultNow_pilot : (genFaultNow n s).pilot = s.pilot := by simp [genFaultNow, dropCut]
@[simp] theorem genCheck_pilot : (genCheck n s).pilot = s.pilot := by
  unfold genCheck
  split
  all_goals simp

/-! ### The coil stays open -/

theorem coil_of_gates {t : State} (h : gates t = gates s) : (saf t n).coil = (saf s n).coil := by
  have all := congrArg (fun g => (vget g.path n).1) h
  simpa [gates, pathOf, saf] using all

/-- A session that ends now has its contactor commanded open (R19). -/
theorem endNow_opens (reason : EndReason) (runs : sessRuns s n = true) : (saf (endNow n reason s) n).coil = false := by
  rw [endNow, if_pos runs, coil_of_gates n (openCoil n (markEnd n reason s)) (by simp)]
  exact openCoil_coil n _

theorem endNow_coil (reason : EndReason) (off : (saf s n).coil = false) : (saf (endNow n reason s) n).coil = false := by
  cases runs : sessRuns s n with
  | true => exact endNow_opens n s reason runs
  | false => simpa [endNow, runs] using off

theorem endSoft_coil (reason : EndReason) (off : (saf s n).coil = false) : (saf (endSoft n reason s) n).coil = false := by
  unfold endSoft
  split
  · exact (coil_of_gates n s (by simp)).trans off
  · exact endNow_coil n s reason off

theorem setOos_coil (i : Nat) (off : (saf s n).coil = false) : (saf (setOos n i s) n).coil = false := by
  unfold setOos
  dsimp only
  split
  · exact endSoft_coil n _ _ off
  · exact off

theorem tripPoint_coil (causes latch : BitVec 32) : (saf (tripPoint n causes latch s) n).coil = false := by
  refine endNow_coil n _ _ ?_
  rw [coil_of_gates n _ (gates_dropCut n _)]
  exact openCoil_coil n _

theorem genFaultNow_coil : (saf (genFaultNow n s) n).coil = false := by
  refine setOos_coil n _ _ ?_
  rw [coil_of_gates n _ (gates_dropCut n _)]
  exact openCoil_coil n _

end
end Sys2Proof.Laws

namespace Sys2Proof.Laws

open Sys2Proof Sys2Proof.Machine

/-! ## What an accepted state leaves in the pilot (R153 to R155) -/

/-- What an acceptance records of a pilot: the states at both cores, the one before, the time, and X2 in C. -/
def tracked (p : Pilot) : Option PilotSt × Option PilotSt × Option PilotSt × Nat × Bool := (p.st, p.st1, p.prevSt, p.tChange, p.cX2)

def marks (s : State) : Vector (Option PilotSt × Option PilotSt × Option PilotSt × Nat × Bool) 8 := s.pilot.map tracked

theorem marks_of_pilot {s t : State} (h : t.pilot = s.pilot) : marks t = marks s := congrArg (Vector.map tracked) h

theorem tracked_of_marks {s t : State} (h : marks t = marks s) (n : Fin 8) : tracked (pil t n) = tracked (pil s n) := by
  simpa [marks, pil] using congrArg (vget · n) h

section
variable (n : Fin 8) (s : State)

@[simp] theorem marks_modPilot (f : Pilot → Pilot) (h : ∀ x, tracked (f x) = tracked x) : marks (modPilot n f s) = marks s :=
  map_vmod tracked f h _ n

@[simp] theorem marks_pilotNote (f : State → State) : marks (pilotNote n f s) = marks (f s) := marks_of_pilot (by simp)
@[simp] theorem marks_e55 (kind : Nat) (l : List (Nat × Nat)) : marks (e55 n kind l s) = marks s :=
  marks_of_pilot (pilot_of_aside (aside_e55 n s kind l))

@[simp] theorem marks_setPhase (p : HlcPhase) : marks (setPhase n p s) = marks s := marks_of_pilot (pilot_of_aside (aside_setPhase n s p))

/-- Following the current to signal changes what is signalled, what is pending and the last decrease alone (R157). -/
theorem followOne_view {α : Type} (g : Pilot → α) (blind : ∀ p a b c, g { p with iSig := a, iPend := b, lastDec := c } = g p) :
    (followOne n s).pilot.map g = s.pilot.map g := by
  unfold followOne
  dsimp only
  repeat' split
  all_goals exact map_vmod g _ (fun p => blind p ..) _ n

theorem followSig_view {α : Type} (g : Pilot → α) (blind : ∀ p a b c, g { p with iSig := a, iPend := b, lastDec := c } = g p) :
    (followSig n s).pilot.map g = s.pilot.map g := by
  unfold followSig
  split
  · exact foldl_keeps (fun t => t.pilot.map g) _ (fun t k => followOne_view k t g blind) _ _
  · exact followOne_view n s g blind

@[simp] theorem marks_followSig : marks (followSig n s) = marks s := followSig_view n s tracked fun _ _ _ _ => rfl

@[simp] theorem marks_openSession : marks (openSession n s) = marks s := by
  unfold openSession
  dsimp only
  split
  · rfl
  · split
    · rfl
    · rw [marks_setPhase, marks_followSig, marks_of_pilot (of_offMeter State.pilot (fun _ => rfl) (offMeter_boundary ..)), marks_pilotNote]
      exact marks_modPilot n _ _ fun _ => rfl

@[simp] theorem marks_bindAuth (type : Nat) (id : List Byte) (bpt : Bool) (limI limP limD : Nat) :
    marks (bindAuth n type id bpt limI limP limD s) = marks s := by
  unfold bindAuth
  rw [marks_followSig]
  split
  · rfl
  · rw [marks_openSession]
    rfl

@[simp] theorem marks_freeBind : marks (freeBind n s) = marks s := by
  unfold freeBind
  split
  · simp
  · rfl

@[simp] theorem marks_holdOver : marks (holdOver n s) = marks s := by
  rw [holdOver, marks_pilotNote, marks_modPilot, marks_pilotNote, marks_modPilot]
  all_goals exact fun _ => rfl

@[simp] theorem marks_pilotError : marks (pilotError n s) = marks s := by
  rw [pilotError, marks_of_pilot (tripPoint_pilot ..), marks_pilotNote]
  exact marks_modPilot n s _ fun _ => rfl

@[simp] theorem marks_inStateA : marks (inStateA n s) = marks s := by
  rw [inStateA, marks_followSig, marks_modPilot]
  · exact marks_of_pilot (by simp)
  · exact fun _ => rfl

@[simp] theorem marks_inStateB (fromA : Bool) : marks (inStateB n fromA s) = marks s := by
  unfold inStateB
  extract_lets s1 s2 s3
  have left : marks s3 = marks s := marks_of_pilot (by
    show s1.pilot = s.pilot
    simp only [s1]
    split
    all_goals simp)
  split
  · rw [marks_freeBind]
    exact left
  · exact left

@[simp] theorem marks_inStateC : marks (inStateC n s) = marks s := by
  unfold inStateC
  split
  all_goals rfl

/-! ### The stages of an acceptance -/

/-- The accepted state entered in the pilot, before the generator is looked at. -/
def acceptSet (n : Fin 8) (c : PilotSt) (s : State) : State :=
  let prev := (pil s n).st
  let s := if c = .A then s else wake 1 s
  let s := pilotNote n (modPilot n fun p => { p with
    prevSt := prev, st := some c, tChange := now s, cX2 := c == .C && isX2 p.out
    x1cSince := if c = .C then p.x1cSince else none
    abAt := if c = .A ∨ c = .B then some (p.abAt.getD s.clk.mono) else none
    aSince := if c = .A then some s.clk.mono else none }) s
  let s := pilotNote n (modPilot n fun p => { p with stErr := p.stErr || isError c }) s
  if c = .B ∨ c = .C ∨ c = .D then s else modSess n (fun x => { x with wantOpen := false }) s

/-- What the accepted state brings once the generator is in range. -/
def acceptEnd (n : Fin 8) (c : PilotSt) (prev : Option PilotSt) (s : State) : State :=
  let s := if leavesA prev c then openSession n s else s
  let s := if (c = .A ∨ c = .B) ∧ (pil s n).holdOn ∧ (pil s n).holdUntil ≤ s.clk.mono then holdOver n s else s
  match c with
  | .A => inStateA n s
  | .B => inStateB n (leavesA prev c) s
  | .C => inStateC n s
  | .D => modSafe n (fun x => { x with reqClose := false }) (leaveC n s)
  | _ => pilotError n s

theorem acceptState_eq (c : PilotSt) : acceptState n c s = if (nvp (genCheck n (acceptSet n c s)) n).genFault then
    genCheck n (acceptSet n c s) else acceptEnd n c (pil s n).st (genCheck n (acceptSet n c s)) := rfl

/-- Waking leaves what an acceptance reads. -/
theorem woken_eq (c : PilotSt) : (if c = .A then s else wake 1 s).pilot = s.pilot ∧ (if c = .A then s else wake 1 s).nvPt = s.nvPt ∧
    (if c = .A then s else wake 1 s).clk = s.clk := by
  split
  · exact ⟨rfl, rfl, rfl⟩
  · simp

theorem acceptSet_frame (c : PilotSt) : (acceptSet n c s).nvPt = s.nvPt ∧ (acceptSet n c s).clk = s.clk ∧
    (pil (acceptSet n c s) n).gen = (pil s n).gen ∧
    tracked (pil (acceptSet n c s) n) = (some c, (pil s n).st1, (pil s n).st, s.clk.time, c == .C && isX2 (pil s n).out) := by
  obtain ⟨pilot, nvPt, clk⟩ := woken_eq s c
  unfold acceptSet
  dsimp only
  generalize (if c = .A then s else wake 1 s) = w at pilot nvPt clk
  split
  all_goals simp [pil, tracked, now, pilot, nvPt, clk]

theorem acceptEnd_marks (c : PilotSt) (prev : Option PilotSt) : marks (acceptEnd n c prev s) = marks s := by
  unfold acceptEnd
  extract_lets s1 s2
  have opened : marks s1 = marks s := by
    simp only [s1]
    split
    all_goals simp
  have held : marks s2 = marks s := by
    simp only [s2]
    split
    · rw [marks_holdOver, opened]
    · exact opened
  cases c
  case D => exact (marks_of_pilot (leaveC_pilot n s2)).trans held
  all_goals simp [held]

/-- An acceptance enters the state, the one before and the time, whatever it brings (R153). -/
theorem acceptState_tracked (c : PilotSt) :
    tracked (pil (acceptState n c s) n) = (some c, (pil s n).st1, (pil s n).st, s.clk.time, c == .C && isX2 (pil s n).out) := by
  obtain ⟨-, -, -, set⟩ := acceptSet_frame n s c
  rw [← set]
  apply tracked_of_marks
  rw [acceptState_eq]
  split
  · exact marks_of_pilot (by simp)
  · exact (acceptEnd_marks ..).trans (marks_of_pilot (by simp))

/-! ### Errors -/

/-- The pilot is held at X1 for 3 s, the coil is off and the pilot cause stands (R155, R233). -/
structure ErrorHeld (n : Fin 8) (mono : Nat) (t : State) : Prop where
  holdOn : (pil t n).holdOn = true
  holdUntil : (pil t n).holdUntil = mono + 3000000
  coil : (saf t n).coil = false
  trip : (nvp t n).trip.getLsbD 6 = true

theorem tripPoint_trip (causes latch : BitVec 32) : ∃ old, (nvp (tripPoint n causes latch s) n).trip = old ||| causes := by
  by_cases same : (saf s n).tripAt.any fun t => decide (s.clk.mono < t + 100)
  · exact ⟨(nvp s n).trip, by simp [tripPoint, dropCut, nvp, same]⟩
  · exact ⟨0, by simp [tripPoint, dropCut, nvp, same]⟩

theorem pilotError_pil : pil (pilotError n s) n =
    { pil s n with holdOn := true, holdUntil := s.clk.mono + 3000000, override := true } := by
  simp [pilotError, pil]

theorem pilotError_holds : ErrorHeld n s.clk.mono (pilotError n s) where
  holdOn := by simp [pilotError_pil]
  holdUntil := by simp [pilotError_pil]
  coil := tripPoint_coil ..
  trip := by
    obtain ⟨old, trip⟩ := tripPoint_trip n (pilotNote n (modPilot n fun p =>
      { p with holdOn := true, holdUntil := s.clk.mono + 3000000, override := true }) s) (cause 6) 0
    rw [pilotError, trip]
    simp [cause]

end
end Sys2Proof.Laws

namespace Sys2Proof.Laws

open Sys2Proof Sys2Proof.Machine

/-! ## A pilot period (R149, R150) -/

/-- The state without pilots, high-level communication, events and records. -/
def mute (s : State) : State :=
  { s with pilot := Vector.replicate 8 {}, hlc := Vector.replicate 8 {}, ev := {}, led := {}, p100 := {} }

theorem only_of_mute {s t : State} (h : mute t = mute s) :
    t = { s with pilot := t.pilot, hlc := t.hlc, ev := t.ev, led := t.led, p100 := t.p100 } := by
  cases s
  cases t
  simp_all [mute]

theorem mute_of_quiet {s t : State} (h : quiet t = quiet s) : mute t = mute s := of_quiet mute (fun _ => rfl) h

section
variable (n : Fin 8) (s : State)

@[simp] theorem mute_noted (f : Pilot → Pilot) : mute (pilotNote n (modPilot n f) s) = mute s :=
  (mute_of_quiet (quiet_pilotNote n (modPilot n f) s)).trans rfl

@[simp] theorem mute_setPhase (p : HlcPhase) : mute (setPhase n p s) = mute s := by
  unfold setPhase
  split
  · rfl
  · exact (mute_of_quiet (quiet_pulse ..)).trans rfl

@[simp] theorem mute_slacStart : mute (slacStart n s) = mute s := by
  unfold slacStart
  split
  · exact mute_setPhase ..
  · rfl

@[simp] theorem slacStart_pilot : (slacStart n s).pilot = s.pilot := by
  unfold slacStart
  split
  · simp
  · rfl

theorem newOutput_override (w : OutMode) (p : Pilot) : (newOutput s w p).override = p.override := by
  unfold newOutput
  repeat' split
  all_goals rfl

section
variable (l0 l1 : List Int) (gen : Int × Int)

theorem outputSet_gen : (pil (outputSet n l0 l1 gen s) n).gen = gen := by
  simp [outputSet, pil, plateaus]

theorem outputSet_override : (pil (outputSet n l0 l1 gen s) n).override = overridden s n := by
  simp [outputSet, pil, plateaus, newOutput_override]

theorem outputSet_nvPt : (outputSet n l0 l1 gen s).nvPt = s.nvPt := by simp [outputSet]

/-- With the generator in range a period sets the output and takes the nodes, and nothing else (R149, R150). -/
theorem pilotPeriod_sets (present : hasPoint s n = true) (valid : s.pwr.vsysValid = true) (ok : genOk gen = true) :
    ∃ t, exec (.pilotPeriod n l0 l1 gen) s = .next t ∧
      t = { s with pilot := t.pilot, hlc := t.hlc, ev := t.ev, led := t.led, p100 := t.p100 } ∧
      (pil t n).out = wantOut s n ∧ (pil t n).gen = gen ∧ (pil t n).override = overridden s n ∧ (∀ k, k ≠ n → pil t k = pil s k) := by
  have checked : genCheck n (outputSet n l0 l1 gen s) = outputSet n l0 l1 gen s := by
    simp [genCheck, outputSet_gen, ok]
  have period : pilotPeriod n l0 l1 gen s = slacStart n (outputSet n l0 l1 gen s) := by
    rw [pilotPeriod_eq, checked, ite_self]
  have pilots (k : Fin 8) : pil (slacStart n (outputSet n l0 l1 gen s)) k = pil (outputSet n l0 l1 gen s) k := by
    rw [pil, slacStart_pilot, pil]
  refine ⟨slacStart n (outputSet n l0 l1 gen s), ?_, ?_, ?_, ?_, ?_, fun k other => ?_⟩
  · show execPilotPeriod n l0 l1 gen s = _
    simp [execPilotPeriod, present, valid, period]
  · exact only_of_mute (by simp [outputSet])
  · rw [pilots, outputSet_out]
  · rw [pilots, outputSet_gen]
  · rw [pilots, outputSet_override]
  · rw [pilots, outputSet_other n l0 l1 gen s other]

end

theorem setOos_nvp (i : Nat) : nvp (setOos n i s) n = { nvp s n with
    oos := (nvp s n).oos ||| BitVec.ofNat 16 (2 ^ i), tOos := if (nvp s n).oos = 0 then now s / 1000000 else (nvp s n).tOos } := by
  unfold setOos nvp
  dsimp only
  split
  all_goals simp_all [endSoft_nvPt]

/-- A generator fault turns the coil off and puts the point out of service (R168, R169). -/
theorem genFaultNow_faults : (nvp (genFaultNow n s) n).genFault = true ∧ (saf (genFaultNow n s) n).coil = false ∧
    (nvp (genFaultNow n s) n).oos.getLsbD 1 = true := by
  refine ⟨?_, genFaultNow_coil n s, ?_⟩
  · rw [genFaultNow, setOos_nvp]
    simp [nvp, dropCut]
  · rw [genFaultNow, setOos_nvp]
    simp

@[simp] theorem slacStart_nvPt : (slacStart n s).nvPt = s.nvPt := by
  unfold slacStart
  split
  · simp
  · rfl

theorem pilotPeriod_faults (l0 l1 : List Int) (gen : Int × Int) (present : hasPoint s n = true) (valid : s.pwr.vsysValid = true)
    (bad : genOk gen = false) (change : outCode (pil s n).out ≠ outCode (wantOut s n)) (first : (nvp s n).genFault = false) :
    ∃ t, exec (.pilotPeriod n l0 l1 gen) s = .next t ∧ (pil t n).out = wantOut s n ∧ (nvp t n).genFault = true ∧
      (saf t n).coil = false ∧ (nvp t n).oos.getLsbD 1 = true := by
  have before : (nvp (outputSet n l0 l1 gen s) n).genFault = false := by rw [nvp, outputSet_nvPt]; exact first
  have checked : genCheck n (outputSet n l0 l1 gen s) = genFaultNow n (outputSet n l0 l1 gen s) := by
    simp [genCheck, outputSet_gen, bad, before]
  have period : pilotPeriod n l0 l1 gen s = slacStart n (genFaultNow n (outputSet n l0 l1 gen s)) := by
    rw [pilotPeriod_eq, checked, if_pos change]
  obtain ⟨fault, coil, oos⟩ := genFaultNow_faults n (outputSet n l0 l1 gen s)
  refine ⟨pilotPeriod n l0 l1 gen s, ?_, pilotPeriod_out n l0 l1 gen s, ?_, ?_, ?_⟩
  · show execPilotPeriod n l0 l1 gen s = _
    simp [execPilotPeriod, present, valid]
  · rw [period, nvp, slacStart_nvPt]
    exact fault
  · rw [period, coil_of_gates n _ (gates_slacStart n _)]
    exact coil
  · rw [period, nvp, slacStart_nvPt]
    exact oos

/-! ## Acceptance (R153 to R156) -/

/-- S1's accepted state entered in the pilot. -/
def state1Set (n : Fin 8) (c : PilotSt) (s : State) : State :=
  modPilot n (fun p => { p with st1 := some c, cX21 := c == .C && isX2 p.out }) s

theorem takeState1_eq (c : PilotSt) : takeState1 n c s = if isError c && (pil (state1Set n c s) n).st != some c then
    pilotError n (state1Set n c s) else if c = .C then state1Set n c s else leaveC n (state1Set n c s) := rfl

theorem takeState1_marks (c : PilotSt) : marks (takeState1 n c s) = marks (state1Set n c s) := by
  rw [takeState1_eq]
  split
  · exact marks_pilotError ..
  · split
    · rfl
    · exact marks_of_pilot (leaveC_pilot ..)

theorem takeState1_pil (c : PilotSt) : (pil (takeState1 n c s) n).st1 = some c ∧ (pil (takeState1 n c s) n).st = (pil s n).st := by
  have all := tracked_of_marks (takeState1_marks n s c) n
  simp only [tracked, Prod.mk.injEq] at all
  obtain ⟨st, st1, -⟩ := all
  rw [st, st1]
  simp [state1Set, pil]

theorem acceptState_st (c : PilotSt) : (pil (acceptState n c s) n).st = some c := by
  have all := acceptState_tracked n s c
  simp only [tracked, Prod.mk.injEq] at all
  exact all.1

theorem pilotStateAccept_accepts (c : PilotSt) (present : hasPoint s n = true) (takes : acceptable s n 0 = some c)
    (new : (pil s n).st ≠ some c) : exec (.pilotStateAccept n) s = .next (accept1 n (acceptState n c s)) ∧
      (pil (acceptState n c s) n).st = some c ∧ (pil (acceptState n c s) n).prevSt = (pil s n).st ∧
      (pil (acceptState n c s) n).tChange = s.clk.time ∧ (pil (acceptState n c s) n).cX2 = (c == .C && isX2 (pil s n).out) := by
  have all := acceptState_tracked n s c
  simp only [tracked, Prod.mk.injEq] at all
  obtain ⟨st, -, prev, time, cX2⟩ := all
  refine ⟨?_, st, prev, time, cX2⟩
  show execPilotStateAccept n s = _
  simp [execPilotStateAccept, present, pilotAccept, accept0, takes, new]

theorem pilotStateAccept_stays (present : hasPoint s n = true)
    (stays : acceptable s n 0 = none ∨
      (acceptable s n 0 = (pil s n).st ∧ ((pil s n).st ≠ some .C ∨ isX2 (pil s n).out = false ∨ (pil s n).cX2 = true))) :
    exec (.pilotStateAccept n) s = .next (accept1 n s) := by
  have same : accept0 n s = s := by
    unfold accept0
    rcases stays with none | ⟨same, old⟩
    · rw [none]
    · rw [same]
      cases st : (pil s n).st with
      | none => rfl
      | some c =>
        dsimp only
        rw [if_neg (by simp [st]), if_neg]
        rintro ⟨rfl, x2, new⟩
        simp_all
  show execPilotStateAccept n s = _
  simp [execPilotStateAccept, present, pilotAccept, same]

theorem accept1_takes (c : PilotSt) (takes : acceptable s n 1 = some c) (new : (pil s n).st1 ≠ some c) :
    accept1 n s = takeState1 n c s ∧ (pil (takeState1 n c s) n).st1 = some c := by
  refine ⟨?_, (takeState1_pil n s c).1⟩
  simp [accept1, takes, new]

/-! ## Errors (R155, R156) -/

theorem acceptState_holds (c : PilotSt) (error : isError c = true) (ok : genOk (pil s n).gen = true) (sound : (nvp s n).genFault = false) :
    ErrorHeld n s.clk.mono (acceptState n c s) := by
  obtain ⟨nvPt, clk, gen, -⟩ := acceptSet_frame n s c
  have checked : genCheck n (acceptSet n c s) = acceptSet n c s := by simp [genCheck, gen, ok]
  have healthy : (nvp (acceptSet n c s) n).genFault = false := by rw [nvp, nvPt]; exact sound
  have mono : (if leavesA (pil s n).st c then openSession n (acceptSet n c s) else acceptSet n c s).clk.mono = s.clk.mono := by
    split
    · rw [of_spine (fun t => t.clk.mono) (fun _ => rfl) (spine_openSession ..), clk]
    · rw [clk]
  have errs (u : State) : acceptEnd n c (pil s n).st u = pilotError n (if leavesA (pil s n).st c then openSession n u else u) := by
    cases c
    case A | B | C | D => cases error
    all_goals simp [acceptEnd]
  rw [acceptState_eq, checked, if_neg (by simp [healthy]), errs, ← mono]
  exact pilotError_holds n _

theorem takeState1_holds (c : PilotSt) (error : isError c = true) (new : (pil s n).st ≠ some c) :
    ErrorHeld n s.clk.mono (takeState1 n c s) := by
  have differs : (pil (state1Set n c s) n).st ≠ some c := by simpa [state1Set, pil] using new
  have held := pilotError_holds n (state1Set n c s)
  rw [takeState1_eq, if_pos (by simp [error, differs])]
  exact held

theorem diodeFault_holds (present : hasPoint s n = true) (x2 : isX2 (pil s n).out = true)
    (bad : 3 ≤ (vget (pil s n).ev 0).diodeBad ∨ 3 ≤ (vget (pil s n).ev 1).diodeBad) (first : (pil s n).diodeFault = false) :
    ∃ t, exec (.diodeFault n) s = .next t ∧ (pil t n).diodeFault = true ∧ ErrorHeld n s.clk.mono t := by
  have held := pilotError_holds n (pilotNote n (modPilot n fun p => { p with diodeFault := true }) s)
  rw [pilotNote_clk] at held
  refine ⟨_, ?_, ?_, held⟩
  · show execDiodeFault n s = _
    have any : (units 2).any (fun k => decide (3 ≤ (vget (pil s n).ev k).diodeBad)) = true := by
      rcases bad with h | h
      · exact List.any_eq_true.2 ⟨0, List.mem_finRange 0, decide_eq_true h⟩
      · exact List.any_eq_true.2 ⟨1, List.mem_finRange 1, decide_eq_true h⟩
    simp [execDiodeFault, present, x2, any, first]
  · rw [pilotError_pil]
    simp [pil]

/-! ## Gaps (R154) -/

theorem pilotStateInvalid_first (present : hasPoint s n = true) (out : (pil s n).out ≠ .F) (gap : 10000 ≤ (vget (pil s n).ev 0).gapUs)
    (new : (pil s n).st ≠ some .INVALID) : ∃ t, exec (.pilotStateInvalid n) s = .next t ∧ (pil t n).st = some .INVALID ∧
      ((vget (pil s n).ev 1).gapUs < 10000 → t = acceptState n .INVALID s) := by
  have entered : (pil (acceptState n .INVALID s) n).st = some .INVALID := acceptState_st n s .INVALID
  have first : exec (.pilotStateInvalid n) s = .next (if 10000 ≤ (vget (pil s n).ev 1).gapUs ∧ (pil s n).st1 ≠ some .INVALID then
      takeState1 n .INVALID (acceptState n .INVALID s) else acceptState n .INVALID s) := by
    show execPilotStateInvalid n s = _
    simp [execPilotStateInvalid, present, out, gap, new]
  refine ⟨_, first, ?_, fun below => if_neg (by omega)⟩
  split
  · exact (takeState1_pil ..).2.trans entered
  · exact entered

theorem pilotStateInvalid_second (present : hasPoint s n = true) (out : (pil s n).out ≠ .F) (none : (vget (pil s n).ev 0).gapUs < 10000)
    (gap : 10000 ≤ (vget (pil s n).ev 1).gapUs) (new : (pil s n).st1 ≠ some .INVALID) :
    exec (.pilotStateInvalid n) s = .next (takeState1 n .INVALID s) := by
  have first : decide (10000 ≤ (vget (pil s n).ev 0).gapUs) = false := by simpa using none
  show execPilotStateInvalid n s = _
  simp [execPilotStateInvalid, present, out, first, gap, new]

end
end Sys2Proof.Laws

namespace Sys2Proof.Laws

open Sys2Proof Sys2Proof.Machine

section
variable (n : Fin 8) (s : State)

/-! ## The end of the hold at X1 (R155) -/

theorem noted_only (f : Pilot → Pilot) : ∃ ev led p100, pilotNote n (modPilot n f) s = { modPilot n f s with ev, led, p100 } :=
  ⟨_, _, _, onlyEvents_of_quiet _ _ (quiet_pilotNote n (modPilot n f) s)⟩

theorem holdOver_only : ∃ ev led p100, holdOver n s = { s with
    pilot := vset s.pilot n { pil s n with holdOn := false, stErr := false, diodeFault := false }, ev, led, p100 } := by
  obtain ⟨ev, led, p100, first⟩ := noted_only n s fun p => { p with diodeFault := false }
  obtain ⟨ev', led', p100', last⟩ := noted_only n (pilotNote n (modPilot n fun p => { p with diodeFault := false }) s) fun p =>
    { p with holdOn := false, stErr := false }
  refine ⟨ev', led', p100', ?_⟩
  rw [holdOver, last, first]
  simp [modPilot, pil, vmod, vset, vget]

theorem pilotErrorHoldEnd_ends (on : (pil s n).holdOn = true) (due : (pil s n).holdUntil ≤ s.clk.mono)
    (st : (pil s n).st = some .A ∨ (pil s n).st = some .B) : ∃ t, exec (.pilotErrorHoldEnd n) s = .next t ∧ t = { s with
      pilot := vset s.pilot n { pil s n with holdOn := false, stErr := false, diodeFault := false }
      ev := t.ev, led := t.led, p100 := t.p100 } := by
  obtain ⟨ev, led, p100, only⟩ := holdOver_only n s
  refine ⟨holdOver n s, ?_, by rw [only]⟩
  show execPilotErrorHoldEnd n s = _
  rcases st with h | h
  all_goals simp [execPilotErrorHoldEnd, on, due, h]

/-! ## Proximity (R160, R162) -/

theorem takeCode_code (code : Nat) : (pil (takeCode n code s) n).ppCode = code := by
  have follows (u : State) : (pil (followSig n u) n).ppCode = (pil u n).ppCode := by
    simpa [pil] using congrArg (vget · n) (followSig_view n u Pilot.ppCode fun _ _ _ _ => rfl)
  unfold takeCode
  dsimp only
  rw [follows]
  split
  · rw [pilotError_pil]
    simp [pil]
  · simp [pil]

theorem proximityAccept_accepts (mv : List Nat) (present : hasPoint s n = true) (valid : s.pwr.vsysValid = true)
    (socket : ppSocket (pilotB s n) = true) (given : mv ≠ []) :
    let code := ppCodeOf (mv.headD 0)
    let u := modPilot n (fun x => { x with ppOhm := ppOhmOf (mv.getLastD 0) }) s
    ((∀ v ∈ mv, ppCodeOf v = code) → 10 ≤ mv.length ∨ (3 ≤ mv.length ∧ ppError (pil s n).st code = true) →
      (pil s n).ppCode ≠ code ∨ (ppError (pil s n).st code = true ∧ (pil s n).stErr = false) →
      exec (.proximityAccept n mv) s = .next (takeCode n code u) ∧ (pil (takeCode n code u) n).ppCode = code) ∧
    ((∃ v ∈ mv, ppCodeOf v ≠ code) ∨ mv.length < 3 ∨ ((pil s n).ppCode = code ∧ ppError (pil s n).st code = false) →
      exec (.proximityAccept n mv) s = .next u) := by
  intro code u
  have runs : exec (.proximityAccept n mv) s = .next (if decide ((if ppError (pil s n).st code then 3 else 10) ≤ mv.length) &&
      mv.all (fun v => ppCodeOf v == code) && ((pil s n).ppCode != code || (ppError (pil s n).st code && !(pil s n).stErr)) then
      takeCode n code u else u) := by
    show execProximityAccept n mv s = _
    unfold execProximityAccept
    dsimp only
    rw [if_neg (by simp [present, valid, socket, given])]
  rw [runs]
  refine ⟨fun agree enough change => ⟨congrArg Host.Outcome.next (if_pos ?_), takeCode_code ..⟩,
    fun rest => congrArg Host.Outcome.next (if_neg ?_)⟩
  · have all : mv.all (fun v => ppCodeOf v == code) = true := List.all_eq_true.2 fun v mem => by simpa using agree v mem
    have len : (if ppError (pil s n).st code then 3 else 10) ≤ mv.length := by
      split
      · omega
      · rcases enough with h | ⟨-, h⟩
        · exact h
        · contradiction
    have new : ((pil s n).ppCode != code || (ppError (pil s n).st code && !(pil s n).stErr)) = true := by
      rcases change with h | ⟨h, k⟩
      · simp [h]
      · simp [h, k]
    simp [all, len, new]
  · rcases rest with ⟨v, mem, other⟩ | short | ⟨same, fine⟩
    · have all : mv.all (fun v => ppCodeOf v == code) = false := List.all_eq_false.2 ⟨v, mem, by simpa using other⟩
      simp [all]
    · have len : ¬ (if ppError (pil s n).st code then 3 else 10) ≤ mv.length := by
        split
        all_goals omega
      simp [len]
    · simp [same, fine]

/-! ## Duty, overcurrent and the fall-back (R163, R164) -/

theorem dutyIncreaseDue_applies (i : Nat) (pending : (pil s n).iPend = some i) (due : (pil s n).lastDuty + 5000000 ≤ s.clk.mono) :
    exec (.dutyIncreaseDue n) s = .next { s with pilot := vset s.pilot n { pil s n with iSig := i, iPend := none } } := by
  show execDutyIncreaseDue n s = _
  unfold execDutyIncreaseDue
  rw [pending]
  dsimp only
  rw [if_pos (by simpa [elapsed] using due)]
  rfl

/-- A session that ends now waits with a reason, or has closed its values. -/
theorem endNow_over (reason r : EndReason) (runs : sessRuns s n = true) (marked : (ses (markEnd n reason s) n).ending = some r) :
    (ses (endNow n reason s) n).ending = some r ∨ sessRuns (endNow n reason s) n = false := by
  obtain ⟨h, left⟩ := leaveDc_eq n (openCoil n (markEnd n reason s))
  obtain ⟨-, sess, -⟩ := weldPhase_keeps n (leaveDc n (openCoil n (markEnd n reason s)))
  have ending : (ses (weldPhase n (leaveDc n (openCoil n (markEnd n reason s)))) n).ending = some r := by
    rw [← marked, ses, sess, left]
    simp [ses]
  rw [endNow, if_pos runs, tryClose, ending]
  dsimp only
  split
  · exact .inr (closeValues_closes ..).2
  · exact .inl ending

theorem markEnd_marked (reason : EndReason) (runs : sessRuns s n = true) : ∃ r, (ses (markEnd n reason s) n).ending = some r := by
  cases h : (ses s n).ending with
  | none => exact ⟨_, markEnd_ending n reason s runs h⟩
  | some r => exact ⟨r, by simp [markEnd, h]⟩

theorem heldFor_some (t0 d : Nat) (due : t0 + d ≤ s.clk.mono) : heldFor s (some t0) d = true := by
  simpa [heldFor, elapsed] using due

theorem overcurrent_ends (t0 : Nat) (runs : sessRuns s n = true) (since : (pil s n).ocSince = some t0)
    (due : t0 + (if dcService s n then 2000000 else 10000000) ≤ s.clk.mono) : ∃ t, exec (.overcurrent n) s = .next t ∧
      t = endNow n .safetyTrip (pilotNote n (modPilot n fun p => { p with overcur := true, ocSince := none }) s) ∧
      (pil t n).overcur = true ∧ (saf t n).coil = false ∧ ((ses t n).ending ≠ none ∨ sessRuns t n = false) := by
  have noted := quiet_pilotNote n (modPilot n fun p => { p with overcur := true, ocSince := none }) s
  have still : sessRuns (pilotNote n (modPilot n fun p => { p with overcur := true, ocSince := none }) s) n = true :=
    (of_quiet (fun t => sessRuns t n) (fun _ => rfl) noted).trans runs
  obtain ⟨r, marked⟩ := markEnd_marked n _ .safetyTrip still
  refine ⟨_, ?_, rfl, ?_, ?_, ?_⟩
  · show execOvercurrent n s = _
    simp [execOvercurrent, runs, since, heldFor_some s t0 _ due]
  · simp [pil]
  · exact endNow_opens n _ _ still
  · rcases endNow_over n _ _ r still marked with h | h
    · exact .inl (by simp [h])
    · exact .inr h

theorem setPhase_phase (p : HlcPhase) : (hl (setPhase n p s) n).phase = p := by
  unfold setPhase
  split
  · assumption
  · rw [e55, hl, of_quiet State.hlc (fun _ => rfl) (quiet_pulse ..)]
    simp

theorem setPhase_sep (p : HlcPhase) : sep (setPhase n p s) n = sep s n := by
  unfold setPhase
  split
  · rfl
  · exact (of_quiet (fun t => sep t n) (fun _ => rfl) (quiet_pulse ..)).trans rfl

/-- Basic mode after the fall-back (R163). -/
def basicBegun (n : Fin 8) (s : State) : State :=
  setPhase n .basic (e55 n 9 [] (modSessP n (fun x => { x with service := 0 })
    (modHlc n (fun h => { h with fallAt := none, fallback := true }) s)))

theorem basicBegun_begins : (hl (basicBegun n s) n).fallback = true ∧ (hl (basicBegun n s) n).fallAt = none ∧
    (hl (basicBegun n s) n).phase = .basic ∧ (sep (basicBegun n s) n).service = 0 := by
  have same : aside (basicBegun n s) = aside (modHlc n (fun h => { h with fallAt := none, fallback := true }) s) := by
    rw [basicBegun, aside_setPhase, aside_e55]
    rfl
  refine ⟨?_, ?_, setPhase_phase n _ .basic, ?_⟩
  · rw [hl_of_aside same Hlc.fallback (fun _ => rfl)]
    simp [hl]
  · rw [hl_of_aside same Hlc.fallAt (fun _ => rfl)]
    simp [hl]
  · rw [basicBegun, setPhase_sep, e55, of_quiet (fun t => sep t n) (fun _ => rfl) (quiet_pulse ..)]
    simp [sep, modSessP]

theorem hlcFallback_begins (t0 : Nat) (failed : (hl s n).failed = true) (back : fallback (pilotB s n) = true)
    (since : (hl s n).fallAt = some t0) (due : t0 + 3000000 ≤ s.clk.mono) (runs : sessRuns s n = true) :
    ∃ t, exec (.hlcFallback n) s = .next t ∧ (hl t n).fallback = true ∧ (hl t n).fallAt = none ∧ (hl t n).phase = .basic ∧
      (sep t n).service = 0 := by
  have begins := basicBegun_begins n s
  have fires : ((hl s n).failed && fallback (pilotB s n) && heldFor s (hl s n).fallAt 3000000 && sessRuns s n) = true := by
    simp [failed, back, since, heldFor_some s t0 _ due, runs]
  have exec_eq : exec (.hlcFallback n) s =
      .next (if (pil (basicBegun n s) n).st = some .C then inStateC n (basicBegun n s) else basicBegun n s) := by
    show execHlcFallback n s = _
    rw [execHlcFallback, if_pos fires]
    rfl
  refine ⟨_, exec_eq, ?_⟩
  split
  · unfold inStateC
    split
    all_goals exact begins
  · exact begins

end

/-! ## PT_COMMIT and PT_STATUS (R149, R169) -/

theorem ptCommit_waits (p : Pkt) (s : State) (m : Nat) (cs : List BlkCopy) (ht : taken 0x0401 p s = true) (hl : p.payload.length = 4)
    (hm : u16 0 p.payload = m) (reserved : rsv 2 2 p.payload = true) :
    let u := begun 0x0401 p s
    maskOk u m = true → Takes u ((maskPoints m).map fun n => 0x0401 + n.1) cs → (∀ n ∈ maskPoints m, sessOpen u n = false) →
    waitingCommit u 0x0401 = none → exec (.ptCommit p) s = .next (take (flightOf 0x0401 p s) cs u) := by
  intro u named takes closed idle
  have none : (maskPoints m).any (sessOpen u) = false := List.any_eq_false.2 fun n mem => by simp [closed n mem]
  refine congrArg Host.Outcome.next (command_wait _ _ p s _ ht ?_)
  rw [sized_eq _ _ _ _ hl]
  unfold ptCommitBody
  simp only [flightOf_pkt, hm]
  rw [need_pos (by simp [named, reserved, u]), takeStored_of_takes _ _ _ _ takes, need_not none, need_pos (by simp [u, idle])]

@[simp] theorem offPoint_tethered (n : Fin 8) (s : State) : offPoint (tethered n s) = offPoint s := by
  unfold tethered
  split
  · rfl
  · exact offPoint_pilotNote n (modPilot n fun p => { p with ppCode := 0, ppOhm := 0, fA := none }) (fun _ => rfl) s

theorem ptCommitApply_applies (f : Flight) (s : State) (waits : waitingCommit s 0x0401 = some f) : ∃ t, exec .ptCommitApply s = .next t ∧
    t = finish f (le 8 s.clk.time) (untake f ((maskPoints (u16 0 f.pkt.payload)).foldl (fun t n => followSig n (basicPath n (tethered n t)))
      (commitCopies (takenBy s f) s))) ∧
    (∀ c, takenBy s f = [c] → committedCopy t c.id = some { c with tCommit := s.clk.time, bstate := 1 }) := by
  have kept := foldl_keeps offPoint (fun t n => followSig n (basicPath n (tethered n t))) (fun t n => by simp)
    (maskPoints (u16 0 f.pkt.payload)) (commitCopies (takenBy s f) s)
  have clk := (of_offPoint State.clk (fun _ => rfl) kept).trans (congrArg State.clk (commitCopies_only (takenBy s f) s))
  have blk := of_offPoint State.blk (fun _ => rfl) kept
  refine ⟨_, ?_, rfl, fun c one => ?_⟩
  · show execPtCommitApply s = _
    rw [execPtCommitApply, ptApply, waits]
    dsimp only
    rw [tApplied, now, clk]
  · rw [one] at blk ⊢
    rw [of_offPort (fun u => committedCopy u c.id) (fun _ => rfl) (offPort_finish _ _ _)]
    refine Eq.trans ?_ (committedCopy_commitCopies c s)
    rw [committedCopy, committedCopy, ← blk]
    rfl

theorem ptStatus_answers (p : Pkt) (s : State) (n : Fin 8) (ht : taken 0x0402 p s = true)
    (hp : p.payload = [BitVec.ofNat 8 (n.1 + 1), 0, 0, 0]) (present : hasPoint s n = true) :
    let u := begun 0x0402 p s
    let x := pil u n
    exec (.ptStatus p) s = .next (finish (flightOf 0x0402 p s) (le 8 s.clk.time ++ le 1 (stCode x.st) ++ le 1 (outCode x.out) ++
      le 2 (match x.out with | .X2 d => d | _ => 0) ++ le 4 x.iSig ++ leInt 2 x.vHigh ++ leInt 2 x.vLow ++ le 1 x.ppCode ++
      le 1 (pflags u n) ++ le 2 x.ppOhm ++ le 8 x.tChange) u) := by
  intro u x
  have point : u8 0 p.payload = n.1 + 1 := by rw [hp]; exact u8_pno n _
  have reserved : rsv 1 3 p.payload = true := by rw [hp]; rfl
  have clock : s.clk.time = now u := by simp [now, u]
  rw [clock]
  refine congrArg Host.Outcome.next (command_done _ _ p s _ _ ht ?_)
  rw [sized_eq _ _ _ _ (by simp [hp])]
  unfold ptStatusBody
  simp only [flightOf_pkt, pointOf_begun 0x0402 p s n _ present point, reserved, need_true]
  rfl

end Sys2Proof.Laws

namespace Sys2Proof.Proofs

open Sys2Proof Sys2Proof.Machine Sys2Proof.Laws

/-- Settles O23: event by event, with what follows an acceptance read off the pilots it leaves alone. -/
theorem pilotCompletes : Obligations.PilotCompletes := by
  refine ⟨fun n l0 l1 gen s present valid => ⟨pilotPeriod_sets n s l0 l1 gen present valid,
      fun bad change first => pilotPeriod_faults n s l0 l1 gen present valid bad change first⟩,
    fun n s present => ⟨fun c => pilotStateAccept_accepts n s c present, pilotStateAccept_stays n s present, accept1_takes n s⟩,
    fun n c s error => ?_, fun n s present out => ⟨fun gap new => ?_, pilotStateInvalid_second n s present out, fun gap new below => ?_⟩,
    fun n s on due st => pilotErrorHoldEnd_ends n s on due st,
    fun n mv s present valid socket given => proximityAccept_accepts n s mv present valid socket given,
    fun n i s => dutyIncreaseDue_applies n s i, fun n t0 s => overcurrent_ends n s t0, fun n t0 s => hlcFallback_begins n s t0,
    fun p s m cs ht hl hm reserved => ptCommit_waits p s m cs ht hl hm reserved, ptCommitApply_applies, ptStatus_answers⟩
  · have held {t : State} (h : ErrorHeld n s.clk.mono t) : (pil t n).holdOn = true ∧ (pil t n).holdUntil = s.clk.mono + 3000000 ∧
        (saf t n).coil = false ∧ (nvp t n).trip.getLsbD 6 = true := ⟨h.holdOn, h.holdUntil, h.coil, h.trip⟩
    refine ⟨fun ok sound => held (acceptState_holds n s c error ok sound), fun new => held (takeState1_holds n s c error new),
      fun present x2 bad first => ?_⟩
    obtain ⟨t, runs, flag, stands⟩ := diodeFault_holds n s present x2 bad first
    exact ⟨t, runs, flag, held stands⟩
  · obtain ⟨t, runs, st, -⟩ := pilotStateInvalid_first n s present out gap new
    exact ⟨t, runs, st⟩
  · obtain ⟨t, runs, -, alone⟩ := pilotStateInvalid_first n s present out gap new
    rw [runs, alone below]

end Sys2Proof.Proofs

namespace Sys2Proof.Laws

open Sys2Proof Sys2Proof.Machine

/-! ## A failed high-level session (R163, R181) -/

/-- High-level communication that is down. -/
def downHlc (h : Hlc) : Hlc :=
  { h with active := false, failed := true, slac := 0, slacX1 := none, tcp := false, tls := false, authAt := none, reneg := false }

/-- The state in which a failed high-level session is judged: communication down, nothing asked to close. -/
def hlcDown (n : Fin 8) (cause : Nat) (s : State) : State :=
  modSafe n (fun x => { x with reqClose := false }) (e55 n 7 [(1, cause)] (modHlc n downHlc (stopReady n s)))

/-- The fields that tell a failed high-level session. -/
structure Failed (n : Fin 8) (t : State) : Prop where
  failed : (hl t n).failed = true
  active : (hl t n).active = false
  tcp : (hl t n).tcp = false
  tls : (hl t n).tls = false
  slac : (hl t n).slac = 0

theorem failed_of_aside {n : Fin 8} {t u : State} (h : aside t = aside u) (down : Failed n u) : Failed n t where
  failed := (hl_of_aside h Hlc.failed (fun _ => rfl) n).trans down.failed
  active := (hl_of_aside h Hlc.active (fun _ => rfl) n).trans down.active
  tcp := (hl_of_aside h Hlc.tcp (fun _ => rfl) n).trans down.tcp
  tls := (hl_of_aside h Hlc.tls (fun _ => rfl) n).trans down.tls
  slac := (hl_of_aside h Hlc.slac (fun _ => rfl) n).trans down.slac

section
variable (n : Fin 8) (s : State)

theorem hlcFail_eq (cause : Nat) (r : EndReason) : hlcFail n cause r s =
    if 3 ≤ (hl s n).dcStep ∧ (hl s n).dcStep ≤ 5 ∧ (ses (hlcDown n cause s) n).hasClosed then
      modHlc n (fun h => { h with dcStep := 6, dcAt := (hlcDown n cause s).clk.mono, tgtI := 0 }) (markEnd n r (hlcDown n cause s))
    else if fallback (pilotB (hlcDown n cause s) n) then
      modHlc n (fun h => { h with
        fallAt := some (hlcDown n cause s).clk.mono, dcStep := if h.dcStep < 6 then 0 else h.dcStep }) (hlcDown n cause s)
    else endX1 n r (hlcDown n cause s) := rfl

theorem quiet_hlcDown (cause : Nat) : quiet (hlcDown n cause s) =
    quiet (modSafe n (fun x => { x with reqClose := false }) (modHlc n downHlc (stopReady n s))) :=
  congrArg (modSafe n fun x => { x with reqClose := false }) (quiet_pulse _ _ (modHlc n downHlc (stopReady n s)))

theorem hlcDown_hlc (cause : Nat) : (hlcDown n cause s).hlc = vmod (stopReady n s).hlc n downHlc :=
  (of_quiet State.hlc (fun _ => rfl) (quiet_hlcDown n s cause)).trans rfl

theorem stopReady_other (k : Fin 8) (h : k ≠ n) : hl (stopReady n s) k = hl s k := by
  unfold stopReady
  split
  · exact vget_vmod_other _ _ _ _ h
  · rfl

/-- What high-level communication does not hold is as before. -/
theorem hlcDown_apart {α : Type} (f : State → α) (quiets : ∀ u, f (quiet u) = f u) (cause : Nat)
    (blind : ∀ u h x, f { u with hlc := h, safe := x } = f u) : f (hlcDown n cause s) = f s := by
  obtain ⟨h, eq, -⟩ := stopReady_eq n s
  rw [of_quiet f quiets (quiet_hlcDown n s cause), eq]
  exact blind s _ _

theorem hlcDown_failed (cause : Nat) : Failed n (hlcDown n cause s) := by
  have down : hl (hlcDown n cause s) n = downHlc (hl (stopReady n s) n) := by
    rw [hl, hlcDown_hlc, vget_vmod_same]
    rfl
  constructor
  all_goals rw [down]; rfl

theorem hlcDown_other (cause : Nat) (k : Fin 8) (h : k ≠ n) : hl (hlcDown n cause s) k = hl s k := by
  rw [hl, hlcDown_hlc, vget_vmod_other _ _ _ _ h]
  exact stopReady_other n s k h

theorem hlcDown_reqClose (cause : Nat) : (saf (hlcDown n cause s) n).reqClose = false := by
  rw [of_quiet (fun t => saf t n) (fun _ => rfl) (quiet_hlcDown n s cause)]
  simp [saf]

/-- What leaves those fields leaves a session failed. -/
theorem failed_modHlc (g : Hlc → Hlc)
    (same : ∀ h, ((g h).failed, (g h).active, (g h).tcp, (g h).tls, (g h).slac) = (h.failed, h.active, h.tcp, h.tls, h.slac))
    (down : Failed n s) : Failed n (modHlc n g s) := by
  have eq : hl (modHlc n g s) n = g (hl s n) := by simp [hl]
  have all := same (hl s n)
  simp only [Prod.mk.injEq] at all
  obtain ⟨failed, active, tcp, tls, slac⟩ := all
  constructor
  · rw [eq, failed, down.failed]
  · rw [eq, active, down.active]
  · rw [eq, tcp, down.tcp]
  · rw [eq, tls, down.tls]
  · rw [eq, slac, down.slac]

theorem hlcFail_failed (cause : Nat) (r : EndReason) : Failed n (hlcFail n cause r s) := by
  have down := hlcDown_failed n s cause
  rw [hlcFail_eq]
  split
  · refine failed_modHlc n _ _ ?_ (failed_of_aside (aside_markEnd ..) down)
    exact fun _ => rfl
  · split
    · refine failed_modHlc n _ _ ?_ down
      exact fun _ => rfl
    · exact failed_of_aside (aside_endX1 ..) down

/-- A DC session in steps 3 to 5 goes on to step 6 (R163). -/
theorem hlcFail_closed (cause : Nat) (r : EndReason) (from3 : 3 ≤ (hl s n).dcStep) (to5 : (hl s n).dcStep ≤ 5)
    (closed : (ses s n).hasClosed = true) : (hl (hlcFail n cause r s) n).dcStep = 6 ∧ (hl (hlcFail n cause r s) n).tgtI = 0 := by
  have still : ses (hlcDown n cause s) n = ses s n := hlcDown_apart n s (fun t => ses t n) (fun _ => rfl) cause fun _ _ _ => rfl
  rw [hlcFail_eq, if_pos ⟨from3, to5, by rw [still]; exact closed⟩]
  simp [hl]

theorem hlcFail_falls (cause : Nat) (r : EndReason)
    (other : ¬ (3 ≤ (hl s n).dcStep ∧ (hl s n).dcStep ≤ 5 ∧ (ses s n).hasClosed = true)) (back : fallback (pilotB s n) = true) :
    (hl (hlcFail n cause r s) n).fallAt = some s.clk.mono ∧ (saf (hlcFail n cause r s) n).reqClose = false := by
  have still : ses (hlcDown n cause s) n = ses s n := hlcDown_apart n s (fun t => ses t n) (fun _ => rfl) cause fun _ _ _ => rfl
  have block : pilotB (hlcDown n cause s) n = pilotB s n := hlcDown_apart n s (fun t => pilotB t n) (fun _ => rfl) cause fun _ _ _ => rfl
  have clk : (hlcDown n cause s).clk = s.clk := hlcDown_apart n s State.clk (fun _ => rfl) cause fun _ _ _ => rfl
  rw [hlcFail_eq, still, block, clk, if_neg other, if_pos back]
  exact ⟨by simp [hl], hlcDown_reqClose n s cause⟩

/-! ### Other points keep their high-level sessions -/

theorem markEnd_runs (r : EndReason) (k : Fin 8) : sessRuns (markEnd n r s) k = sessRuns s k := by simp only [sessRuns_eq, opened_markEnd]

theorem closeValues_runs_other (r : EndReason) (flags : Nat) (k : Fin 8) (h : k ≠ n) :
    sessRuns (closeValues n r flags s) k = sessRuns s k := by
  unfold closeValues
  split
  · rfl
  · rw [sessRuns_eq, opened_setPhase, opened_boundary, ← sessRuns_eq, sessRuns, sessRuns]
    simp [sep, vget_vmod_other _ _ _ _ h]

theorem tryClose_runs_other (flags : Nat) (k : Fin 8) (h : k ≠ n) : sessRuns (tryClose n flags s) k = sessRuns s k := by
  unfold tryClose
  split
  · split
    · exact closeValues_runs_other n s _ _ k h
    · rfl
  · rfl

theorem endX1_runs_other (r : EndReason) (k : Fin 8) (h : k ≠ n) : sessRuns (endX1 n r s) k = sessRuns s k := by
  unfold endX1
  split
  · rw [tryClose_runs_other n _ 0 k h, markEnd_runs]
  · rfl

theorem hlcRuns_of_aside {t u : State} (h : aside t = aside u) (k : Fin 8) (runs : sessRuns t k = sessRuns u k) :
    hlcRuns t k = hlcRuns u k := by
  rw [hlcRuns, hlcRuns, runs, hl_of_aside h Hlc.active (fun _ => rfl), hl_of_aside h Hlc.failed (fun _ => rfl)]

theorem hlcRuns_modHlc_other (g : Hlc → Hlc) (k : Fin 8) (h : k ≠ n) : hlcRuns (modHlc n g s) k = hlcRuns s k := by
  rw [hlcRuns, hlcRuns, hl, modHlc_hlc, vget_vmod_other _ _ _ _ h]
  rfl

theorem hlcDown_runs_other (cause : Nat) (k : Fin 8) (h : k ≠ n) : hlcRuns (hlcDown n cause s) k = hlcRuns s k := by
  rw [hlcRuns, hlcRuns, hlcDown_other n s cause k h, hlcDown_apart n s (fun t => sessRuns t k) (fun _ => rfl) cause fun _ _ _ => rfl]

theorem hlcFail_runs_other (cause : Nat) (r : EndReason) (k : Fin 8) (h : k ≠ n) : hlcRuns (hlcFail n cause r s) k = hlcRuns s k := by
  rw [← hlcDown_runs_other n s cause k h, hlcFail_eq]
  split
  · rw [hlcRuns_modHlc_other n _ _ k h]
    exact hlcRuns_of_aside (aside_markEnd ..) k (markEnd_runs ..)
  · split
    · rw [hlcRuns_modHlc_other n _ _ k h]
    · exact hlcRuns_of_aside (aside_endX1 ..) k (endX1_runs_other n _ r k h)

/-- A failure at one point leaves the high-level communication of another. -/
theorem hlcFail_other {α : Type} (f : Hlc → α) (blind : ∀ x, f { x with phase := .idle } = f x) (cause : Nat) (r : EndReason) (k : Fin 8)
    (h : k ≠ n) : f (hl (hlcFail n cause r s) k) = f (hl s k) := by
  have apart (g : Hlc → Hlc) (u : State) : hl (modHlc n g u) k = hl u k := vget_vmod_other _ _ _ _ h
  rw [← hlcDown_other n s cause k h, hlcFail_eq]
  split
  · rw [apart]
    exact hl_of_aside (aside_markEnd ..) f blind k
  · split
    · rw [apart]
    · exact hl_of_aside (aside_endX1 ..) f blind k

end
end Sys2Proof.Laws

namespace Sys2Proof.Laws

open Sys2Proof Sys2Proof.Machine

/-! ## Requests that wait for a Chuck slot (R411) -/

/-- A request of a vehicle that has waited too long fails the vehicle's high-level session. -/
def chuckStep (t : State) (w : Nat × Nat × Nat) : State :=
  match ix 8 w.2.1 with
  | some n => if hlcRuns t n then hlcFail n 2 .vehicleStop t else t
  | none => t

/-- The high-level session of a point has failed. -/
def Lost (t : State) (n : Fin 8) : Prop := (hl t n).failed = true ∧ (hl t n).active = false

theorem chuckStep_hit (t : State) (w : Nat × Nat × Nat) (n : Fin 8) (hit : ix 8 w.2.1 = some n) :
    chuckStep t w = if hlcRuns t n then hlcFail n 2 .vehicleStop t else t := by rw [chuckStep, hit]

theorem chuckStep_lost (t : State) (w : Nat × Nat × Nat) (n : Fin 8) (lost : Lost t n) : Lost (chuckStep t w) n := by
  cases hit : ix 8 w.2.1 with
  | none => rwa [chuckStep, hit]
  | some k =>
    rw [chuckStep_hit t w k hit]
    split
    · by_cases same : n = k
      · subst same
        have fail := hlcFail_failed n t 2 .vehicleStop
        exact ⟨fail.failed, fail.active⟩
      · rw [Lost, hlcFail_other k t Hlc.failed (fun _ => rfl) _ _ n same, hlcFail_other k t Hlc.active (fun _ => rfl) _ _ n same]
        exact lost
    · exact lost

/-- A session that runs still runs after another's request is dropped, and has failed after its own is. -/
theorem chuckStep_runs (t : State) (w : Nat × Nat × Nat) (n : Fin 8) (runs : hlcRuns t n = true) :
    if ix 8 w.2.1 = some n then Lost (chuckStep t w) n else hlcRuns (chuckStep t w) n = true := by
  split
  next hit =>
    rw [chuckStep_hit t w n hit, if_pos runs]
    have fail := hlcFail_failed n t 2 .vehicleStop
    exact ⟨fail.failed, fail.active⟩
  next other =>
    cases hit : ix 8 w.2.1 with
    | none => rwa [chuckStep, hit]
    | some k =>
      rw [chuckStep_hit t w k hit]
      split
      · rw [hlcFail_runs_other k t 2 .vehicleStop n (fun same => other (by rw [hit, same]))]
        exact runs
      · exact runs

theorem chuckSteps_lost (l : List (Nat × Nat × Nat)) (t : State) (n : Fin 8) (lost : Lost t n) : Lost (l.foldl chuckStep t) n := by
  induction l generalizing t with
  | nil => exact lost
  | cons w l ih => exact ih _ (chuckStep_lost t w n lost)

theorem chuckSteps_fail (l : List (Nat × Nat × Nat)) (t : State) (n : Fin 8) (runs : hlcRuns t n = true)
    (named : ∃ w ∈ l, ix 8 w.2.1 = some n) : Lost (l.foldl chuckStep t) n := by
  induction l generalizing t with
  | nil => simp at named
  | cons w l ih =>
    have step := chuckStep_runs t w n runs
    by_cases hit : ix 8 w.2.1 = some n
    · rw [if_pos hit] at step
      exact chuckSteps_lost l _ n step
    · rw [if_neg hit] at step
      simp only [List.mem_cons, exists_eq_or_imp, hit, false_or] at named
      exact ih _ step named

@[simp] theorem offPoint_certFail (n : Fin 8) (s : State) : offPoint (certFail n s) = offPoint s := rfl

@[simp] theorem offPoint_hlcFail (n : Fin 8) (cause : Nat) (r : EndReason) (s : State) : offPoint (hlcFail n cause r s) = offPoint s := by
  have down : offPoint (hlcDown n cause s) = offPoint s := by
    unfold hlcDown stopReady
    split
    all_goals simp
  rw [hlcFail_eq, ← down]
  repeat' split
  all_goals simp

@[simp] theorem offPoint_chuckStep (t : State) (w : Nat × Nat × Nat) : offPoint (chuckStep t w) = offPoint t := by
  unfold chuckStep
  split
  · split
    all_goals simp
  · rfl

theorem chuckWaitTimeout_drops (s : State) : ∃ t, exec .chuckWaitTimeout s = .next t ∧
    t.key.waits = (s.key.waits.filter fun w => decide (s.clk.mono < w.2.2 + 100000)) ∧
    (∀ w ∈ s.key.waits, w.2.2 + 100000 ≤ s.clk.mono → ∀ n, ix 8 w.2.1 = some n → hlcRuns s n = true →
      (hl t n).failed = true ∧ (hl t n).active = false) ∧
    ((∀ w ∈ s.key.waits, s.clk.mono < w.2.2 + 100000) → t = s) := by
  have early : (fun w : Nat × Nat × Nat => !elapsed s w.2.2 100000) = fun w => decide (s.clk.mono < w.2.2 + 100000) := by
    funext w
    simp only [elapsed, ← decide_not, not_le]
  let late := s.key.waits.filter fun w => elapsed s w.2.2 100000
  let kept := s.key.waits.filter fun w => decide (s.clk.mono < w.2.2 + 100000)
  have runs : exec .chuckWaitTimeout s = .next (late.foldl chuckStep { s with key.waits := kept }) := by
    show execChuckWaitTimeout s = _
    rw [execChuckWaitTimeout, early]
    rfl
  refine ⟨_, runs, ?_, fun w mem due n hit up => ?_, fun fresh => ?_⟩
  · exact of_offPoint (fun t => t.key.waits) (fun _ => rfl)
      (foldl_keeps offPoint chuckStep offPoint_chuckStep late { s with key.waits := kept })
  · exact chuckSteps_fail late _ n up ⟨w, List.mem_filter.2 ⟨mem, by simpa [elapsed] using due⟩, hit⟩
  · have noLate : late = [] := List.filter_eq_nil_iff.2 fun w mem => by simpa [elapsed] using fresh w mem
    have all : kept = s.key.waits := List.filter_eq_self.2 fun w mem => by simpa using fresh w mem
    rw [noLate, all]
    rfl

section
variable (n : Fin 8) (s : State)

/-! ## Time limits of the messages (R181, R182, R187, R188) -/

theorem certExchangeTimeout_fails (c : List Byte × Nat) (held : (hl s n).cert = some c) :
    (c.2 + 4000000 ≤ s.clk.mono → exec (.certExchangeTimeout n) s = .next (certFail n s) ∧ (hl (certFail n s) n).cert = none ∧
      (hl (certFail n s) n).certAns = []) ∧
    (s.clk.mono < c.2 + 4000000 → exec (.certExchangeTimeout n) s = .next s) := by
  have runs : exec (.certExchangeTimeout n) s = .next (if elapsed s c.2 4000000 then certFail n s else s) := by
    show execCertExchangeTimeout n s = _
    rw [execCertExchangeTimeout, held]
  rw [runs]
  exact ⟨fun due => ⟨congrArg Host.Outcome.next (if_pos (by simpa [elapsed] using due)), by simp [certFail, hl], by simp [certFail, hl]⟩,
    fun early => congrArg Host.Outcome.next (if_neg (by simpa [elapsed] using early))⟩

theorem authorizationTimeout_fails (t0 : Nat) (up : talks s n = true) (ongoing : (hl s n).authAns = 1) (since : (hl s n).authAt = some t0)
    (due : t0 + 55000000 ≤ s.clk.mono) :
    exec (.authorizationTimeout n) s = .next { s with hlc := vset s.hlc n { hl s n with authAns := 3 } } := by
  show execAuthorizationTimeout n s = _
  rw [execAuthorizationTimeout]
  dsimp only
  rw [if_pos (by rw [since, heldFor_some s t0 _ due, up, ongoing]; rfl)]
  rfl

theorem hlcMessageTimeout_fails (up : hlcRuns s n = true) (matched : (hl s n).slac = 5) :
    let late := (hl s n).lastReq + 60000000 ≤ s.clk.mono ∨
      ((hl s n).phase = .setup ∧ (hl s n).dcStep = 0 ∧ (hl s n).setupAt + 20000000 ≤ s.clk.mono)
    (late → exec (.hlcMessageTimeout n) s = .next (hlcFail n 0 .vehicleStop s)) ∧ (¬ late → exec (.hlcMessageTimeout n) s = .next s) := by
  intro late
  have iff : (hlcRuns s n && (hl s n).slac == 5 && (elapsed s (hl s n).lastReq 60000000 ||
      ((hl s n).phase == .setup && (hl s n).dcStep == 0 && elapsed s (hl s n).setupAt 20000000))) = true ↔ late := by
    simp only [up, matched, elapsed, late, Bool.true_and, Bool.and_eq_true, Bool.or_eq_true, beq_self_eq_true, decide_eq_true_eq,
      beq_iff_eq, and_assoc]
  exact ⟨fun h => congrArg Host.Outcome.next (if_pos (iff.2 h)), fun h => congrArg Host.Outcome.next (if_neg fun k => h (iff.1 k))⟩

theorem tcpLoss_fails (cause : Nat) (up : linked s n = true) (tcp : (hl s n).tcp = true) (lo : 1 ≤ cause) (hi : cause ≤ 3) :
    exec (.tcpLoss n cause) s = .next (hlcFail n cause .vehicleStop s) :=
  congrArg Host.Outcome.next (if_pos (by simp [up, tcp, within, lo, hi]))

/-! ## A DC step that lasts too long (R187, R190, R218) -/

/-- Step 7 entered, the power stage off (R190). -/
def stageOff (n : Fin 8) (s : State) : State :=
  modHlc n (fun h => { h with
    dcStep := 7, dcAt := s.clk.mono, enable := false, mode := 0, tgtI := 0, cable := if h.dcStep = 3 then 5 else h.cable }) s

/-- A session that already ends, ends as SAFETY_TRIP. -/
def tripEnding (n : Fin 8) (s : State) : State :=
  if (ses s n).ending.isSome then modSess n (fun x => { x with ending := some .safetyTrip }) s else s

theorem stepLate_eq (later : (hl s n).dcStep ≠ 1) : stepLate n s =
    endNow n .safetyTrip (tripEnding n (stageOff n (if (hl s n).dcStep = 3 then setIso n 5 s else s))) := by
  rw [stepLate, if_neg later]
  rfl

theorem quiet_setIso (st : Nat) : quiet (setIso n st s) = quiet (modEarth n (fun e => { e with iso := st }) s) := by
  unfold setIso
  dsimp only
  split
  · rfl
  · exact quiet_pulse _ _ _

theorem setIso_apart {α : Type} (f : State → α) (quiets : ∀ u, f (quiet u) = f u) (st : Nat)
    (blind : ∀ u e, f { u with earth := e } = f u) : f (setIso n st s) = f s := by
  rw [of_quiet f quiets (quiet_setIso n s st)]
  exact blind s _

@[simp] theorem aside_tripEnding : aside (tripEnding n s) = aside s := by
  unfold tripEnding
  split
  all_goals rfl

theorem tripEnding_runs (k : Fin 8) : sessRuns (tripEnding n s) k = sessRuns s k := by
  unfold tripEnding
  split
  all_goals rfl

theorem tripEnding_marked (runs : sessRuns s n = true) : (ses (markEnd n .safetyTrip (tripEnding n s)) n).ending =
    some (if (ses s n).x1Arm = true ∧ (ses s n).ending = none then .warmReset else .safetyTrip) := by
  cases e : (ses s n).ending with
  | none =>
    rw [tripEnding, e]
    simpa using markEnd_ending n .safetyTrip s runs e
  | some r =>
    have same : tripEnding n s = modSess n (fun x => { x with ending := some .safetyTrip }) s := by rw [tripEnding, e]; rfl
    have ends : (ses (tripEnding n s) n).ending = some .safetyTrip := by rw [same]; simp [ses]
    rw [markEnd, if_neg (by simp [ends]), ends]
    simp

/-- Step 7 is not left by ending the session. -/
theorem endNow_aside (r : EndReason) (seven : (hl s n).dcStep = 7) : aside (endNow n r s) = aside s := by
  have before : aside (openCoil n (markEnd n r s)) = aside s := by simp
  have kept : leaveDc n (openCoil n (markEnd n r s)) = openCoil n (markEnd n r s) := by
    rw [leaveDc, if_pos (.inr ((hl_of_aside before Hlc.dcStep (fun _ => rfl) n).trans seven))]
  unfold endNow
  split
  · rw [kept]
    simp
  · rfl

theorem stepLate_ends (runs : sessRuns s n = true) (later : (hl s n).dcStep ≠ 1) :
    (hl (stepLate n s) n).dcStep = 7 ∧ (hl (stepLate n s) n).enable = false ∧ (hl (stepLate n s) n).tgtI = 0 ∧
    (saf (stepLate n s) n).coil = false ∧
    ((ses (stepLate n s) n).ending = some (if (ses s n).x1Arm = true ∧ (ses s n).ending = none then .warmReset else .safetyTrip) ∨
      sessRuns (stepLate n s) n = false) ∧
    ((hl s n).dcStep = 3 → (ear (stepLate n s) n).iso = 5) := by
  let u := if (hl s n).dcStep = 3 then setIso n 5 s else s
  have step : stepLate n s = endNow n .safetyTrip (tripEnding n (stageOff n u)) := stepLate_eq n s later
  have sess : (stageOff n u).sess = s.sess := by
    show u.sess = s.sess
    unfold u
    split
    · exact setIso_apart n s State.sess (fun _ => rfl) 5 fun _ _ => rfl
    · rfl
  have still : sessRuns (stageOff n u) n = true := by
    refine Eq.trans (?_ : sessRuns u n = sessRuns s n) runs
    unfold u
    split
    · exact setIso_apart n s (fun t => sessRuns t n) (fun _ => rfl) 5 fun _ _ => rfl
    · rfl
  have ready : sessRuns (tripEnding n (stageOff n u)) n = true := (tripEnding_runs ..).trans still
  have off : hl (stageOff n u) n = { hl u n with
      dcStep := 7, dcAt := u.clk.mono, enable := false, mode := 0, tgtI := 0
      cable := if (hl u n).dcStep = 3 then 5 else (hl u n).cable } := by
    exact vget_vmod_same u.hlc n _
  have seven : (hl (tripEnding n (stageOff n u)) n).dcStep = 7 := by
    rw [hl_of_aside (aside_tripEnding ..) Hlc.dcStep (fun _ => rfl), off]
  have same : aside (stepLate n s) = aside (stageOff n u) := by rw [step, endNow_aside n _ _ seven, aside_tripEnding]
  have marked := tripEnding_marked n (stageOff n u) still
  refine ⟨?_, ?_, ?_, ?_, ?_, fun three => ?_⟩
  · rw [hl_of_aside same Hlc.dcStep (fun _ => rfl), off]
  · rw [hl_of_aside same Hlc.enable (fun _ => rfl), off]
  · rw [hl_of_aside same Hlc.tgtI (fun _ => rfl), off]
  · rw [step]
    exact endNow_opens n _ _ ready
  · rw [step, ses, ses, ← sess]
    exact endNow_over n _ _ _ ready marked
  · rw [ear, earth_of_aside same]
    have iso : u = setIso n 5 s := if_pos three
    show (vget u.earth n).iso = 5
    rw [iso, of_quiet State.earth (fun _ => rfl) (quiet_setIso n s 5)]
    simp

theorem dcStepTimeout_ends (d : Nat) (runs : sessRuns s n = true) (limit : stepLimit (hl s n) = some d)
    (due : (hl s n).dcAt + d ≤ s.clk.mono) : exec (.dcStepTimeout n) s = .next (stepLate n s) := by
  refine congrArg Host.Outcome.next (if_pos ?_)
  rw [runs, limit]
  simpa [elapsed] using due

theorem stepLimit_eq (h : Hlc) : stepLimit h = (match h.dcStep with
    | 1 => some 20000000 | 3 => (if h.cable = 2 ∨ h.cable = 3 then none else some 38000000)
    | 4 => (if h.stepDone then none else some 7000000)
    | 6 => some 1000000 | _ => none) := by
  unfold stepLimit
  rfl

/-! ## A host stop the vehicle does not follow (R189) -/

theorem hostStopTimeout_ends (t0 : Nat) (runs : sessRuns s n = true) (since : (ses s n).hostStop = some t0)
    (due : t0 + 5000000 ≤ s.clk.mono) (going : (ses s n).ending = none) :
    (3 ≤ (hl s n).dcStep → (hl s n).dcStep ≤ 5 → ∃ t, exec (.hostStopTimeout n) s = .next t ∧ (hl t n).dcStep = 6 ∧ (hl t n).tgtI = 0 ∧
      (ses t n).ending = some (if (ses s n).x1Arm then .warmReset else .hostStop)) ∧
    ((hl s n).dcStep < 3 ∨ 5 < (hl s n).dcStep → exec (.hostStopTimeout n) s = .next (endX1 n .hostStop s)) := by
  have fires : (heldFor s (ses s n).hostStop 5000000 && sessRuns s n && (ses s n).ending.isNone) = true := by
    rw [since, heldFor_some s t0 _ due, runs, going]
    rfl
  have eq : exec (.hostStopTimeout n) s = .next (if 3 ≤ (hl s n).dcStep ∧ (hl s n).dcStep ≤ 5 then
      modHlc n (fun h => { h with dcStep := 6, dcAt := s.clk.mono, tgtI := 0 }) (markEnd n .hostStop s) else endX1 n .hostStop s) :=
    congrArg Host.Outcome.next (if_pos fires)
  rw [eq]
  refine ⟨fun lo hi => ⟨_, congrArg Host.Outcome.next (if_pos ⟨lo, hi⟩), by simp [hl], by simp [hl],
    markEnd_ending n .hostStop s runs going⟩, fun out => congrArg Host.Outcome.next (if_neg (by omega))⟩

end
end Sys2Proof.Laws

namespace Sys2Proof.Proofs

open Sys2Proof Sys2Proof.Machine Sys2Proof.Laws

/-- Settles O33: the failure of a high-level session and the end of a late step are read off what the end of a session leaves aside. -/
theorem hlcTimeLimitsComplete : Obligations.HlcTimeLimitsComplete := by
  refine ⟨chuckWaitTimeout_drops, fun n c s held => certExchangeTimeout_fails n s c held, fun n t0 s => authorizationTimeout_fails n s t0,
    fun n s => hlcMessageTimeout_fails n s, fun n cause s => tcpLoss_fails n s cause, fun n cause r s => ?_, fun n d s runs limit due => ?_,
    stepLimit_eq, fun n t0 s => hostStopTimeout_ends n s t0⟩
  · have fail := hlcFail_failed n s cause r
    exact ⟨_, rfl, fail.failed, fail.active, fail.tcp, fail.tls, fail.slac, hlcFail_closed n s cause r, hlcFail_falls n s cause r⟩
  · have ends := dcStepTimeout_ends n s d runs limit due
    exact ⟨fun one => ends.trans (congrArg Host.Outcome.next (if_pos one)), fun later => ⟨_, ends, stepLate_ends n s runs later⟩⟩

end Sys2Proof.Proofs

namespace Sys2Proof.Laws

open Sys2Proof Sys2Proof.Machine

/-! ## High-level communication of a point is changed as a whole (R193) -/

section
variable (n : Fin 8) (s : State)

/-- The state with a point's high-level communication replaced. -/
def setHlc (h : Hlc) : State := { s with hlc := vset s.hlc n h }

theorem modHlc_eq (f : Hlc → Hlc) : modHlc n f s = setHlc n s (f (hl s n)) := rfl

@[simp] theorem hl_setHlc (h : Hlc) : hl (setHlc n s h) n = h := vget_vset_same ..

@[simp] theorem setHlc_setHlc (h k : Hlc) : setHlc n (setHlc n s h) k = setHlc n s k :=
  congrArg (fun v => { s with hlc := v }) (Vector.set_set ..)

@[simp] theorem modHlc_setHlc (h : Hlc) (f : Hlc → Hlc) : modHlc n f (setHlc n s h) = setHlc n s (f h) := by
  rw [modHlc_eq, hl_setHlc, setHlc_setHlc]

theorem touch_eq : touch n s = setHlc n s { hl s n with lastReq := s.clk.mono } := rfl

@[simp] theorem touch_setHlc (h : Hlc) : touch n (setHlc n s h) = setHlc n s { h with lastReq := s.clk.mono } := modHlc_setHlc ..

/-! ## What the end of a session leaves of high-level communication (R19, R187) -/

/-- High-level communication without the phase and the DC step with its setpoints. -/
def still (h : Hlc) : Hlc := { h with phase := .idle, dcStep := 0, dcAt := 0, enable := false, mode := 0, tgtI := 0 }

/-- What ending a session leaves of every point's high-level communication. -/
def steady (s : State) : Vector Hlc 8 := s.hlc.map still

theorem hl_of_steady {α : Type} (f : Hlc → α) (blind : ∀ h, f (still h) = f h) {s t : State} (same : steady t = steady s) (k : Fin 8) :
    f (hl t k) = f (hl s k) := by
  have all := congrArg (fun v => f (vget v k)) same
  simp only [steady, vget_map, blind] at all
  exact all

theorem steady_of_aside {s t : State} (same : aside t = aside s) : steady t = steady s := by
  have through (u : State) : steady u = (aside u).2.2.2.map still := by
    simp only [aside, Vector.map_map]
    rfl
  rw [through, same, through]

theorem steady_modHlc (f : Hlc → Hlc) (blind : ∀ h, still (f h) = still h) : steady (modHlc n f s) = steady s :=
  map_vmod still f blind ..

@[simp] theorem steady_leaveDc : steady (leaveDc n s) = steady s := by
  unfold leaveDc
  split
  · rfl
  · exact steady_modHlc n s _ fun _ => rfl

@[simp] theorem steady_endNow (r : EndReason) : steady (endNow n r s) = steady s := by
  unfold endNow
  split
  · rw [steady_of_aside (aside_tryClose ..), steady_of_aside (aside_weldPhase ..), steady_leaveDc, steady_of_aside (aside_openCoil ..),
      steady_of_aside (aside_markEnd ..)]
  · rfl

@[simp] theorem steady_endSoft (r : EndReason) : steady (endSoft n r s) = steady s := by
  unfold endSoft
  split
  · refine (steady_modHlc n _ _ ?_).trans (steady_of_aside (aside_markEnd ..))
    exact fun _ => rfl
  · simp

@[simp] theorem steady_setOos (i : Nat) : steady (setOos n i s) = steady s := by
  unfold setOos
  dsimp only
  split
  · exact (steady_endSoft ..).trans rfl
  · rfl

@[simp] theorem steady_basicPath : steady (basicPath n s) = steady s := by
  unfold basicPath
  repeat' split
  · rfl
  · simp
  · rfl

@[simp] theorem steady_rampCheck : steady (rampCheck n s) = steady s := by
  unfold rampCheck
  dsimp only
  split
  · rw [steady_of_aside (aside_tryClose ..), steady_of_aside (aside_weldPhase ..), steady_of_aside (aside_openCoil ..), steady_leaveDc]
  · rfl

end
end Sys2Proof.Laws

namespace Sys2Proof.Laws

open Sys2Proof Sys2Proof.Machine

section
variable (n : Fin 8) (s : State)

/-! ## What a failed high-level session leaves (R163) -/

@[simp] theorem hlcFail_nvPt (cause : Nat) (r : EndReason) : (hlcFail n cause r s).nvPt = s.nvPt := by
  have down : (hlcDown n cause s).nvPt = s.nvPt := hlcDown_apart n s State.nvPt (fun _ => rfl) cause fun _ _ _ => rfl
  rw [hlcFail_eq, ← down]
  repeat' split
  · exact markEnd_nvPt ..
  · rfl
  · exact nvPt_of_aside (aside_endX1 ..)

/-- A failed session stays so through what its end does. -/
theorem failed_of_steady {t u : State} (same : steady t = steady u) (down : Failed n u) : Failed n t where
  failed := (hl_of_steady Hlc.failed (fun _ => rfl) same n).trans down.failed
  active := (hl_of_steady Hlc.active (fun _ => rfl) same n).trans down.active
  tcp := (hl_of_steady Hlc.tcp (fun _ => rfl) same n).trans down.tcp
  tls := (hl_of_steady Hlc.tls (fun _ => rfl) same n).trans down.tls
  slac := (hl_of_steady Hlc.slac (fun _ => rfl) same n).trans down.slac

/-! ## Modem faults (R173, R468, R470) -/

theorem setOos_fault (i : Nat) : (nvp (setOos n i s) n).modemFault = (nvp s n).modemFault := by rw [setOos_nvp]

theorem clearOos_nvp (m : Nat) : nvp (clearOos n m s) n = { nvp s n with
    oos := (nvp s n).oos &&& ~~~(BitVec.ofNat 16 m)
    tOos := if (nvp s n).oos &&& ~~~(BitVec.ofNat 16 m) = 0 then 0 else (nvp s n).tOos } := vget_vmod_same ..

theorem basicPath_fault : (nvp (basicPath n s) n).modemFault = (nvp s n).modemFault := by
  unfold basicPath
  repeat' split
  · rw [clearOos_nvp]
  · exact setOos_fault ..
  · rfl

/-- Without a basic path a modem fault puts the point out of service with the bit MODEM (R468). -/
theorem basicPath_oos (fault : (nvp s n).modemFault = true) (offered : hlcEn (pilotB s n) = true)
    (closed : (fallback (pilotB s n) && acEn (hlcB s n)) = false) : (nvp (basicPath n s) n).oos.getLsbD 7 = true := by
  rw [basicPath, if_neg (by simp [closed]), if_pos (by simp [fault, offered]), setOos_nvp]
  simp

theorem modemGood_clears : ∃ t, modemGood n s = t ∧ t = { s with nvPt := t.nvPt, ev := t.ev, led := t.led, p100 := t.p100 } ∧
    (nvp t n).modemFault = false ∧ (nvp t n).oos = (nvp s n).oos &&& ~~~0x80 := by
  let cleared := modNvPt n (fun x => { x with modemFault := false }) s
  by_cases fault : (nvp s n).modemFault = true
  · have good : modemGood n s = clearOos n 0x80 (e55 n 5 [(1, 0)] cleared) := by rw [modemGood, if_pos fault]
    have raised : nvp (e55 n 5 [(1, 0)] cleared) n = { nvp s n with modemFault := false } := by simp [nvp, e55, cleared]
    have same : quiet (modemGood n s) = quiet { s with nvPt := (modemGood n s).nvPt } := by
      rw [good]
      exact congrArg (fun u => { u with nvPt := (clearOos n 0x80 (e55 n 5 [(1, 0)] cleared)).nvPt }) (quiet_pulse _ _ cleared)
    refine ⟨_, rfl, onlyEvents_of_quiet _ _ same, ?_, ?_⟩
    all_goals rw [good, clearOos_nvp, raised]
    rfl
  · have good : modemGood n s = clearOos n 0x80 s := by rw [modemGood, if_neg fault]
    refine ⟨_, rfl, by rw [good]; rfl, ?_, ?_⟩
    all_goals rw [good, clearOos_nvp]
    · simpa using fault
    · rfl

theorem modemBad_again (fault : (nvp s n).modemFault = true) : modemBad n s = s := if_pos fault

/-- A modem fault has been noted. -/
def modemLost : State := e55 n 5 [(1, 1)] (modNvPt n (fun x => { x with modemFault := true }) s)

/-- The high-level session that a modem fault meets has failed. -/
def modemLeft : State := if highLevel s n then hlcFail n 4 .outOfService (modemLost n s) else modemLost n s

theorem modemBad_first (first : (nvp s n).modemFault = false) : modemBad n s = basicPath n (modemLeft n s) := by
  have high : highLevel (modemLost n s) n = highLevel s n :=
    (of_quiet (fun t => highLevel t n) (fun _ => rfl) (quiet_pulse ..)).trans rfl
  rw [modemBad, if_neg (by simp [first]), modemLeft, ← high]
  rfl

theorem modemLeft_fault : (nvp (modemLeft n s) n).modemFault = true := by
  have lost : (nvp (modemLost n s) n).modemFault = true := by simp [modemLost, e55, nvp]
  unfold modemLeft
  split
  · rw [nvp, hlcFail_nvPt]
    exact lost
  · exact lost

theorem offPoint_modemLeft : offPoint (modemLeft n s) = offPoint s := by
  have lost : offPoint (modemLost n s) = offPoint s := by simp [modemLost]
  unfold modemLeft
  split
  · rw [offPoint_hlcFail, lost]
  · exact lost

theorem modemBad_faults : (nvp (modemBad n s) n).modemFault = true := by
  by_cases fault : (nvp s n).modemFault = true
  · rw [modemBad_again n s fault, fault]
  · rw [modemBad_first n s (by simpa using fault), basicPath_fault, modemLeft_fault]

theorem modemBad_oos (first : (nvp s n).modemFault = false) (offered : hlcEn (pilotB s n) = true)
    (closed : (fallback (pilotB s n) && acEn (hlcB s n)) = false) : (nvp (modemBad n s) n).oos.getLsbD 7 = true := by
  have pilotBlk : pilotB (modemLeft n s) n = pilotB s n := of_offPoint (fun t => pilotB t n) (fun _ => rfl) (offPoint_modemLeft n s)
  have hlcBlk : hlcB (modemLeft n s) n = hlcB s n := of_offPoint (fun t => hlcB t n) (fun _ => rfl) (offPoint_modemLeft n s)
  rw [modemBad_first n s first]
  exact basicPath_oos n _ (modemLeft_fault n s) (by rw [pilotBlk, offered]) (by rw [pilotBlk, hlcBlk, closed])

theorem modemBad_fails (first : (nvp s n).modemFault = false) (high : highLevel s n = true) : Failed n (modemBad n s) := by
  rw [modemBad_first n s first]
  refine failed_of_steady n (steady_basicPath ..) ?_
  rw [modemLeft, if_pos high]
  exact hlcFail_failed ..

/-! ## The modem's tests (R173, R195) -/

/-- The state in which a loopback is judged: its time is noted. -/
def looped : State := setHlc n { s with pwr.timerDue := false } { hl s n with loopAt := s.clk.mono }

theorem modemLoopback_judges (pass : Bool) (up : vehUp s n = true) (ok : loopOk s n = true) :
    (modemCmd s n = none → exec (.modemLoopback n pass) s = .next (if pass then looped n s else modemBad n (looped n s))) ∧
    (∀ f, modemCmd s n = some f → exec (.modemLoopback n pass) s = .next (finish f [if pass then 0 else 1, 0, 0, 0]
      (if pass then modemGood n (looped n s) else modemBad n (looped n s)))) := by
  have runs : exec (.modemLoopback n pass) s = .next (match modemCmd s n with
      | some f => finish f (le 1 (b2n (!pass)) ++ zeros 3) (if pass then modemGood n (looped n s) else modemBad n (looped n s))
      | none => if pass then looped n s else modemBad n (looped n s)) := by
    refine congrArg Host.Outcome.next ((if_neg (by simp [up, ok])).trans ?_)
    rfl
  have payload : le 1 (b2n (!pass)) ++ zeros 3 = [if pass then 0 else 1, 0, 0, 0] := by cases pass <;> rfl
  refine ⟨fun unasked => ?_, fun f asks => ?_⟩
  · rw [runs, unasked]
  · rw [runs, asks, ← payload]

theorem modemLoopback_barred (pass : Bool) (barred : vehUp s n = false ∨ loopOk s n = false) :
    exec (.modemLoopback n pass) s = .next s :=
  congrArg Host.Outcome.next (if_pos (by rcases barred with h | h <;> simp [h]))

theorem modemNoAnswer_faults (us : Nat) : (vehUp s n = true → 100000 ≤ us → exec (.modemNoAnswer n us) s = .next (modemBad n s)) ∧
    (vehUp s n = false ∨ us < 100000 → exec (.modemNoAnswer n us) s = .next s) := by
  refine ⟨fun up late => congrArg Host.Outcome.next (if_pos (by simp [up, late])),
    fun barred => congrArg Host.Outcome.next (if_neg ?_)⟩
  rcases barred with down | early
  · simp [down]
  · simp [early]

theorem hlcModemTest_waits (p : Pkt) (ht : taken 0x0409 p s = true) (hp : p.payload = [BitVec.ofNat 8 (n.1 + 1), 0, 0, 0])
    (present : hasPoint s n = true) (ok : loopOk (begun 0x0409 p s) n = true)
    (alone : ((begun 0x0409 p s).port.flights.filter fun g => g.opcode == 0x0409 && u8 0 g.pkt.payload == n.1 + 1).length ≤ 1) :
    exec (.hlcModemTest p) s = .next (begun 0x0409 p s) := by
  have point : u8 0 p.payload = n.1 + 1 := by rw [hp]; exact u8_pno n _
  have reserved : rsv 1 3 p.payload = true := by rw [hp]; rfl
  refine congrArg Host.Outcome.next (command_wait _ _ p s _ ht ?_)
  rw [sized_eq _ _ _ _ (by simp [hp])]
  unfold hlcModemTestBody
  simp only [flightOf_pkt, pointOf_begun 0x0409 p s n _ present point]
  rw [need_pos reserved, need_pos ok]
  exact need_pos (decide_eq_true alone) _ _

end
end Sys2Proof.Laws

namespace Sys2Proof.Laws

open Sys2Proof Sys2Proof.Machine

section
variable (n : Fin 8) (s : State)

@[simp] theorem mute_modHlc (f : Hlc → Hlc) : mute (modHlc n f s) = mute s := rfl
@[simp] theorem mute_modSessP (f : SessP → SessP) : mute (modSessP n f s) = mute s := rfl

theorem only_of_mute_pilot {s t : State} (same : mute t = mute s) (pilot : t.pilot = s.pilot) :
    t = { s with hlc := t.hlc, p100 := t.p100, ev := t.ev, led := t.led } :=
  (only_of_mute same).trans (by rw [pilot])

/-! ## The messages of SLAC (R174; log entry 803) -/

section
variable (up : vehUp s n = true) (runs : hlcRuns s n = true)
include up runs

theorem slacParm_begins (opened : (hl s n).slac ≠ 0) (unmatched : (hl s n).slac ≠ 5) : exec (.cmSlacParmReq n) s =
    .next { s with hlc := vset s.hlc n { hl s n with slac := 2, slacAt := s.clk.mono, sounds := 0, attSum := 0 } } :=
  congrArg Host.Outcome.next ((if_neg (by simp [up, runs, opened])).trans (if_neg unmatched))

theorem slacParm_restarts (matched : (hl s n).slac = 5) : exec (.cmSlacParmReq n) s = .next (slacFail n s) :=
  congrArg Host.Outcome.next ((if_neg (by simp [up, runs, matched])).trans (if_pos matched))

/-- A sounding within its window adds its attenuation; the tenth sends the profile. -/
theorem sounding_counts (atten : Nat) (started : (hl s n).slac = 2) (heard : (hl s n).sounds = 0 ∨ s.clk.mono ≤ (hl s n).slacAt + 600000) :
    let t := setHlc n s { hl s n with
      sounds := (hl s n).sounds + 1, attSum := (hl s n).attSum + atten, slacAt := if (hl s n).sounds = 0 then s.clk.mono else (hl s n).slacAt }
    exec (.cmMnbcSoundInd n atten) s = .next (if 10 ≤ (hl s n).sounds + 1 then attenInd n s.clk.mono t else t) := by
  intro t
  refine congrArg Host.Outcome.next ((if_pos (by simpa [up, runs, started] using heard)).trans ?_)
  have count : (hl t n).sounds = (hl s n).sounds + 1 := by rw [hl_setHlc]
  rw [← count]
  rfl

theorem sounding_adds (atten : Nat) (started : (hl s n).slac = 2) (heard : (hl s n).sounds = 0 ∨ s.clk.mono ≤ (hl s n).slacAt + 600000)
    (more : (hl s n).sounds < 9) : exec (.cmMnbcSoundInd n atten) s = .next { s with hlc := vset s.hlc n { hl s n with
      sounds := (hl s n).sounds + 1, attSum := (hl s n).attSum + atten
      slacAt := if (hl s n).sounds = 0 then s.clk.mono else (hl s n).slacAt } } := by
  rw [sounding_counts n s up runs atten started heard, if_neg (by omega)]
  rfl

theorem sounding_ends (atten : Nat) (started : (hl s n).slac = 2) (heard : (hl s n).sounds = 0 ∨ s.clk.mono ≤ (hl s n).slacAt + 600000)
    (last : (hl s n).sounds = 9) : exec (.cmMnbcSoundInd n atten) s = .next { s with hlc := vset s.hlc n { hl s n with
      sounds := 10, attSum := (hl s n).attSum + atten, slac := 3, slacAt := s.clk.mono
      atten := min 255 (convN ((hl s n).attSum + atten) 10) } } := by
  rw [sounding_counts n s up runs atten started heard, if_pos (by omega), attenInd, modHlc_setHlc, last]
  rfl

theorem attenRsp_takes (sent : (hl s n).slac = 3) :
    exec (.cmAttenCharRsp n) s = .next { s with hlc := vset s.hlc n { hl s n with slac := 4 } } := by
  refine congrArg Host.Outcome.next ((if_neg (by simp [up, runs])).trans ?_)
  dsimp only
  rw [if_neg (c := (hl s n).slac = 2 ∧ _ ∧ _) (by simp [sent]), if_pos sent]
  rfl

/-- At the end of the window the mean of the soundings heard goes out, and the vehicle takes it. -/
theorem attenRsp_closes (started : (hl s n).slac = 2) (heard : 0 < (hl s n).sounds) (due : (hl s n).slacAt + 600000 ≤ s.clk.mono) :
    exec (.cmAttenCharRsp n) s = .next { s with hlc := vset s.hlc n { hl s n with
      slac := 4, slacAt := (hl s n).slacAt + 600000, atten := min 255 (convN (hl s n).attSum (hl s n).sounds) } } := by
  refine congrArg Host.Outcome.next ((if_neg (by simp [up, runs])).trans ?_)
  dsimp only
  have late : elapsed s (hl s n).slacAt 600000 = true := decide_eq_true due
  rw [if_pos (c := (hl s n).slac = 2 ∧ _ ∧ _) ⟨started, heard, late⟩, attenInd, modHlc_eq, hl_setHlc, if_pos rfl, modHlc_setHlc]
  rfl

theorem slacMatch_matches (answered : (hl s n).slac = 4) (keys : s.pwr.kRunning = true) : exec (.cmSlacMatchReq n) s =
    .next (setPhase n .setup { s with hlc := vset s.hlc n { hl s n with
      slac := 5, nmk := (hl s n).nmk + 1, setupAt := s.clk.mono, lastReq := s.clk.mono
      dcStep := if dcPoint s n then 1 else 0, dcAt := s.clk.mono } }) :=
  congrArg Host.Outcome.next (if_pos (by simp [up, runs, answered, keys]))

end

theorem sounding_ignored (atten : Nat) (outside : (hl s n).slac ≠ 2 ∨ ((hl s n).sounds ≠ 0 ∧ (hl s n).slacAt + 600000 < s.clk.mono)) :
    exec (.cmMnbcSoundInd n atten) s = .next s := by
  refine congrArg Host.Outcome.next (if_neg fun heard => ?_)
  simp only [Bool.and_eq_true, Bool.or_eq_true, beq_iff_eq, decide_eq_true_eq] at heard
  omega

theorem slacMatch_ignored (barred : (hl s n).slac ≠ 4 ∨ s.pwr.kRunning = false) : exec (.cmSlacMatchReq n) s = .next s :=
  congrArg Host.Outcome.next (if_neg (by rcases barred with h | h <;> simp [h]))

/-! ## SLAC fails (R174, R175; log entry 803) -/

theorem slacTimeout_fails (w : Nat) (runs : hlcRuns s n = true) (wait : slacWait s n = some w) (due : (hl s n).slacAt + w ≤ s.clk.mono) :
    exec (.slacTimeout n) s = .next (slacFail n s) :=
  congrArg Host.Outcome.next (if_pos (by simpa [runs, wait, elapsed] using due))

theorem slacWait_eq : slacWait s n = (match (hl s n).slac with
    | 1 => some (slacInitT (hlcB s n) * 1000000) | 2 => some (if (hl s n).sounds = 0 then 600000 else 10600000)
    | 3 => some 10000000 | 4 => some 10000000 | _ => none) := by
  unfold slacWait
  split
  all_goals simp_all

theorem slacRetry_ends (t0 : Nat) (since : (hl s n).slacX1 = some t0) (due : t0 + 4000000 ≤ s.clk.mono) :
    exec (.slacRetry n) s = .next { s with hlc := vset s.hlc n { hl s n with slacX1 := none } } :=
  congrArg Host.Outcome.next (if_pos (by rw [since, heldFor_some s t0 _ due]))

/-- SLAC has failed: its event, and the link and the connections lost. -/
def slacLost : State :=
  modHlc n (fun h => { h with slac := 0, tcp := false, tls := false }) (if (ses s n).hasClosed then s else e55 n 6 [(1, (hl s n).retries)] s)

/-- What the next try of SLAC starts from. -/
def retryHlc (at0 : Nat) (h : Hlc) : Hlc :=
  { h with
    active := false, retries := h.retries + 1, slacX1 := some at0, dcStep := 0, proto := 0, version := 0, suite := none
    pnc := false, authAt := none, authAns := 0, ctrl := 0, reneg := false }

theorem quiet_slacLost : quiet (slacLost n s) = quiet (modHlc n (fun h => { h with slac := 0, tcp := false, tls := false }) s) := by
  unfold slacLost
  split
  · rfl
  · exact congrArg (modHlc n fun h => { h with slac := 0, tcp := false, tls := false }) (quiet_pulse ..)

theorem slacFail_eq : slacFail n s =
    let u := if (hl s n).cert.isSome then certFail n (slacLost n s) else slacLost n s
    if !(ses s n).hasClosed && decide ((hl s n).retries < slacRetry (hlcB s n)) then
      modSessP n (fun x => { x with service := 0xFF }) (modHlc n (retryHlc u.clk.mono) u)
    else hlcFail n 0 .vehicleStop (modHlc n (fun h => { h with slacFail := true }) (slacLost n s)) := by
  have blk : hlcB (slacLost n s) n = hlcB s n := (of_quiet (fun t => hlcB t n) (fun _ => rfl) (quiet_slacLost n s)).trans rfl
  rw [← blk]
  rfl

theorem hlcFail_slacFail (cause : Nat) (r : EndReason) : (hl (hlcFail n cause r s) n).slacFail = (hl s n).slacFail := by
  have down : (hl (hlcDown n cause s) n).slacFail = (hl s n).slacFail := by
    rw [hl, hlcDown_hlc, vget_vmod_same, stopReady]
    split
    · simp [downHlc, certFail, hl]
    · rfl
  rw [hlcFail_eq, ← down]
  repeat' split
  · simp only [hl, modHlc_hlc, vget_vmod_same]
    exact hl_of_aside (aside_markEnd ..) Hlc.slacFail (fun _ => rfl) n
  · simp [hl]
  · exact hl_of_aside (aside_endX1 ..) Hlc.slacFail (fun _ => rfl) n

/-- A failure before the contactor has closed leaves another try while retries are left, from which everything is chosen anew (R175). -/
theorem slacFail_retries (unclosed : (ses s n).hasClosed = false) (left : (hl s n).retries < slacRetry (hlcB s n)) (cert : (hl s n).cert = none) :
    ∃ t, slacFail n s = t ∧ t = { s with hlc := t.hlc, p100 := t.p100, ev := t.ev, led := t.led } ∧ (hl t n).slac = 0 ∧ (hl t n).active = false ∧
      (hl t n).retries = (hl s n).retries + 1 ∧ (hl t n).slacX1 = some s.clk.mono ∧ (sep t n).service = 0xFF ∧ (hl t n).proto = 0 ∧
      (hl t n).pnc = false ∧ (hl t n).authAns = 0 := by
  have retries : slacFail n s =
      modSessP n (fun x => { x with service := 0xFF }) (modHlc n (retryHlc (slacLost n s).clk.mono) (slacLost n s)) := by
    rw [slacFail_eq]
    simp only [cert, unclosed, left]
    rfl
  have clk : (slacLost n s).clk = s.clk := (of_quiet State.clk (fun _ => rfl) (quiet_slacLost n s)).trans rfl
  have lost : hl (slacLost n s) n = { hl s n with slac := 0, tcp := false, tls := false } := by
    rw [hl, of_quiet State.hlc (fun _ => rfl) (quiet_slacLost n s)]
    exact vget_vmod_same s.hlc n _
  have tries : hl (slacFail n s) n = retryHlc s.clk.mono { hl s n with slac := 0, tcp := false, tls := false } := by
    rw [retries, ← lost, clk]
    exact vget_vmod_same (slacLost n s).hlc n _
  have frame : mute (slacFail n s) = mute s := by
    rw [retries, mute_modSessP, mute_modHlc, mute_of_quiet (quiet_slacLost n s), mute_modHlc]
  have pilot : (slacFail n s).pilot = s.pilot := by
    rw [retries, modSessP_pilot, modHlc_pilot, of_quiet State.pilot (fun _ => rfl) (quiet_slacLost n s), modHlc_pilot]
  have service : (sep (slacFail n s) n).service = 0xFF := by
    rw [retries]
    simp [sep]
  refine ⟨_, rfl, only_of_mute_pilot frame pilot, ?_, ?_, ?_, ?_, service, ?_, ?_, ?_⟩
  all_goals rw [tries]; rfl

theorem slacFail_fails (last : (ses s n).hasClosed = true ∨ slacRetry (hlcB s n) ≤ (hl s n).retries) : ∃ t, slacFail n s = t ∧
    (hl t n).slacFail = true ∧ (hl t n).failed = true ∧ (hl t n).active = false := by
  have fails : slacFail n s = hlcFail n 0 .vehicleStop (modHlc n (fun h => { h with slacFail := true }) (slacLost n s)) := by
    rw [slacFail_eq, if_neg (by rcases last with h | h <;> simp [h])]
  have down := hlcFail_failed n (modHlc n (fun h => { h with slacFail := true }) (slacLost n s)) 0 .vehicleStop
  exact ⟨_, fails, by rw [hlcFail_slacFail]; simp [hl], down.failed, down.active⟩

end
end Sys2Proof.Laws

namespace Sys2Proof.Proofs

open Sys2Proof Sys2Proof.Machine Sys2Proof.Laws

/-- Settles O31: each message of SLAC is read off its guard, and its failure off the try it leaves or the failed session. -/
theorem slacCompletes : Obligations.SlacCompletes := by
  refine ⟨fun n pass s => ⟨modemLoopback_judges n s pass, modemLoopback_barred n s pass⟩,
    fun n s => ⟨modemGood_clears n s, ⟨_, rfl, modemBad_faults n s, modemBad_oos n s, fun first high => ?_⟩, modemBad_again n s⟩,
    fun n us s => modemNoAnswer_faults n s us, fun p s n ht hp present => hlcModemTest_waits n s p ht hp present,
    fun n s up runs => ?_, fun n w s => slacTimeout_fails n s w, fun n s => slacWait_eq n s,
    fun n s => ⟨slacFail_retries n s, slacFail_fails n s⟩, fun n t0 s => slacRetry_ends n s t0⟩
  · have down := modemBad_fails n s first high
    exact ⟨down.failed, down.active⟩
  · exact ⟨slacParm_begins n s up runs, slacParm_restarts n s up runs,
      fun atten started heard => ⟨sounding_adds n s up runs atten started heard, sounding_ends n s up runs atten started heard⟩,
      sounding_ignored n s, attenRsp_takes n s up runs, attenRsp_closes n s up runs, slacMatch_matches n s up runs, slacMatch_ignored n s⟩

end Sys2Proof.Proofs

namespace Sys2Proof.Laws

open Sys2Proof Sys2Proof.Machine

/-! ## Folds over states -/

/-- A fold whose steps do not change its start changes nothing. -/
theorem foldl_fixed_of_mem {β : Type} (g : State → β → State) (l : List β) (s : State) (fixed : ∀ b ∈ l, g s b = s) : l.foldl g s = s :=
  List.foldlRecOn (motive := (· = s)) l g rfl fun t same b mem => by rw [same, fixed b mem]

/-- A fold reaches what one of its steps reaches and the others keep, where that step meets what all keep. -/
theorem foldl_reaches {β : Type} (P Q : State → Prop) (g : State → β → State) (b : β) (keepP : ∀ t c, P t → P (g t c))
    (keepQ : ∀ t c, Q t → Q (g t c)) (hit : ∀ t, Q t → P (g t b)) (l : List β) (s : State) (mem : b ∈ l) (start : Q s) : P (l.foldl g s) := by
  induction l generalizing s with
  | nil => cases mem
  | cons c l ih =>
    rcases List.mem_cons.1 mem with rfl | later
    · exact List.foldlRecOn l g (hit s start) fun t reached c _ => keepP t c reached
    · exact ih (g s c) later (keepQ s c start)

section
variable (n : Fin 8) (s : State)

theorem mem_points (present : hasPoint s n = true) : n ∈ points s := List.mem_filter.2 ⟨List.mem_finRange n, present⟩

/-- A state that differs from another by high-level communication and events. -/
theorem only_hlc_of_quiet {s t : State} (h : Vector Hlc 8) (same : quiet t = quiet { s with hlc := h }) :
    t.hlc = h ∧ t = { s with hlc := t.hlc, ev := t.ev, led := t.led, p100 := t.p100 } := by
  have hlc : t.hlc = h := of_quiet State.hlc (fun _ => rfl) same
  rw [hlc]
  exact ⟨rfl, onlyEvents_of_quiet _ _ same⟩

theorem steady_of_quiet {s t : State} (same : quiet t = quiet s) : steady t = steady s := of_quiet steady (fun _ => rfl) same

/-! ## Frames sent (R198, R199, R201; log entry 807) -/

/-- The power stage's setpoints are of high-level communication alone; one that is not stated draws a value. -/
theorem powerStage_frame : (powerStage n s).can = s.can ∧ (powerStage n s).clk.mono = s.clk.mono := by
  unfold powerStage
  dsimp only
  repeat' split
  all_goals exact ⟨rfl, rfl⟩

@[simp] theorem quiet_noteClamps (f : Nat) (old new : List Nat) (sigs : List (List Byte)) : quiet (noteClamps f old new sigs s) = quiet s := by
  refine foldl_keeps quiet _ (fun t e => ?_) _ s
  repeat' split
  · rfl
  · exact quiet_pulse ..
  · rfl

theorem noteClamps_same (f : Nat) (old new : List Nat) (sigs : List (List Byte)) (same : ∀ k < sigs.length, k ∈ old ↔ k ∈ new) :
    noteClamps f old new sigs s = s := by
  refine foldl_fixed_of_mem _ _ s fun e mem => if_pos ?_
  have place : e.2 < sigs.length := by simpa using (List.mem_zipIdx mem).2.1
  simp [same e.2 place]

/-- The points of a frame have their setpoints brought up to date. -/
def stagesSet (sigs : List (List Byte)) : State :=
  (points s).foldl (fun t n => if sigs.any fun x => sigPt x == some n then powerStage n t else t) s

theorem stagesSet_frame (sigs : List (List Byte)) : (stagesSet s sigs).can = s.can ∧ (stagesSet s sigs).clk.mono = s.clk.mono := by
  have kept := foldl_keeps (fun t => (t.can, t.clk.mono)) (fun t n => if sigs.any fun x => sigPt x == some n then powerStage n t else t)
    (fun t n => by
      split
      · obtain ⟨can, mono⟩ := powerStage_frame n t
        rw [can, mono]
      · rfl) (points s) s
  exact Prod.mk.inj kept

theorem canFrameTransmit_sends (f : Fin 24) (runs : canRuns s (frmE (canB s) f.1) = true) (tx : frmRx (frmE (canB s) f.1) = false) :
    let sigs := sigsOf (canB s) f.1
    let u := stagesSet s sigs
    let x := vget s.can f
    let cl := (sigs.zipIdx.filter fun e => (txRaw u (x.alive + 1) e.1).2).map (·.2)
    let v := noteClamps f.1 x.clamped cl sigs u
    exec (.canFrameTransmit f) s = .next { v with
      can := vset s.can f { x with alive := x.alive + 1, lastAt := s.clk.mono, data := txData v f.1 (x.alive + 1), clamped := cl } } := by
  intro sigs u x cl v
  obtain ⟨can, mono⟩ := stagesSet_frame s sigs
  have canV : v.can = s.can := (of_quiet State.can (fun _ => rfl) (quiet_noteClamps ..)).trans can
  have monoV : v.clk.mono = s.clk.mono := (of_quiet (fun t => t.clk.mono) (fun _ => rfl) (quiet_noteClamps ..)).trans mono
  have sent : exec (.canFrameTransmit f) s = .next (
      let x := vget u.can f
      let cl := (sigs.zipIdx.filter fun e => (txRaw u (x.alive + 1) e.1).2).map (·.2)
      let v := noteClamps f.1 x.clamped cl sigs u
      modCan f (fun y => { y with alive := x.alive + 1, lastAt := v.clk.mono, data := txData v f.1 (x.alive + 1), clamped := cl }) v) :=
    congrArg Host.Outcome.next (if_neg (by simp [runs, tx]))
  rw [sent, can]
  dsimp only
  rw [show (noteClamps f.1 (vget s.can f).clamped _ sigs u).clk.mono = s.clk.mono from monoV, modCan, vmod_eq_vset,
    show (noteClamps f.1 (vget s.can f).clamped _ sigs u).can = s.can from canV]

/-! ## Frames received (R197, R199) -/

theorem offPoint_rxSignal (d e : List Byte) : offPoint (rxSignal d e s) = offPoint s := by
  unfold rxSignal
  dsimp only
  repeat' split
  all_goals rfl

theorem canFrameReceive_takes (f : Fin 24) (data : List Byte) (runs : canRuns s (frmE (canB s) f.1) = true)
    (rx : frmRx (frmE (canB s) f.1) = true) (good : rxGood s f data = true) :
    let u := { s with can := vset s.can f { vget s.can f with seen := true, lastAt := s.clk.mono, data := data, tout := false } }
    let v := (sigsOf (canB s) f.1).foldl (fun t g => rxSignal data g t) u
    exec (.canFrameReceive f data) s = .next ((points s).foldl (fun t n => if (rxFrames t n).contains f then rxPoint f data n t else t) v) := by
  intro u v
  have same : points v = points s :=
    (of_offPoint points (fun _ => rfl) (foldl_keeps offPoint _ (fun t g => offPoint_rxSignal t data g) _ u)).trans rfl
  rw [← same]
  exact congrArg Host.Outcome.next (if_neg (by simp [runs, rx, good]))

theorem canFrameReceive_discards (f : Fin 24) (data : List Byte) (bad : rxGood s f data = false) :
    exec (.canFrameReceive f data) s = .next s := congrArg Host.Outcome.next (if_pos (by simp [bad]))

theorem rxSignal_sets (d e : List Byte) (point : sigPt e = some n) :
    let v := physOf e (getSig e d)
    let toH := fun (h : Hlc) => { s with hlc := vset s.hlc n h }
    (sigVar e = 16 → rxSignal d e s = toH { hl s n with ready := v != 0 }) ∧ (sigVar e = 18 → rxSignal d e s = toH { hl s n with measU := v }) ∧
    (sigVar e = 19 → rxSignal d e s = toH { hl s n with measI := v }) ∧ (sigVar e = 20 → rxSignal d e s = toH { hl s n with avU := v }) ∧
    (sigVar e = 21 → rxSignal d e s = toH { hl s n with avI := v }) ∧ (sigVar e = 22 → rxSignal d e s = toH { hl s n with avP := v }) := by
  unfold rxSignal
  rw [point]
  refine ⟨?_, ?_, ?_, ?_, ?_, ?_⟩
  all_goals intro var; rw [var]; rfl

/-! ## The power-stage fault (R190) -/

@[simp] theorem offPoint_psFaultSet (f v : Nat) : offPoint (psFaultSet n f v s) = offPoint s := by
  unfold psFaultSet psFaultSet.endIf e558
  dsimp only
  repeat' split
  all_goals simp

/-- A power-stage fault stands, and no good frames are counted, whatever else it brings (R190). -/
theorem steady_psFaultSet (f v : Nat) : ∃ at0, steady (psFaultSet n f v s) =
    steady (modHlc n (fun h => { h with psFault := true, psAt := at0, psGood := none }) s) := by
  by_cases fault : (hl s n).psFault = true
  · refine ⟨(hl s n).psAt, ?_⟩
    rw [psFaultSet, if_pos fault, modHlc_eq, modHlc_eq, ← fault]
  · refine ⟨s.clk.mono, ?_⟩
    rw [psFaultSet, if_neg fault]
    dsimp only
    unfold psFaultSet.endIf e558
    split
    · exact (steady_endSoft ..).trans (steady_of_quiet (quiet_pulse ..))
    · exact steady_of_quiet (quiet_pulse ..)

theorem psFaultSet_sets (f v : Nat) : (hl (psFaultSet n f v s) n).psFault = true ∧ (hl (psFaultSet n f v s) n).psGood = none := by
  obtain ⟨at0, same⟩ := steady_psFaultSet n s f v
  rw [hl_of_steady Hlc.psFault (fun _ => rfl) same, hl_of_steady Hlc.psGood (fun _ => rfl) same]
  simp [hl]

/-- The power-stage fault of a point is due to a frame that is missing. -/
def Missing (n : Fin 8) (t : State) : Prop := (hl t n).canTo = true ∧ (hl t n).psFault = true

theorem psFaultSet_missing (f v : Nat) (timeout : (hl s n).canTo = true) : Missing n (psFaultSet n f v s) := by
  obtain ⟨at0, same⟩ := steady_psFaultSet n s f v
  refine ⟨?_, (psFaultSet_sets n s f v).1⟩
  rw [hl_of_steady Hlc.canTo (fun _ => rfl) same]
  simpa [hl] using timeout

theorem psFaultSet_missing_other (f v : Nat) (k : Fin 8) (other : k ≠ n) (missing : Missing k s) : Missing k (psFaultSet n f v s) := by
  obtain ⟨at0, same⟩ := steady_psFaultSet n s f v
  rw [Missing, hl_of_steady Hlc.canTo (fun _ => rfl) same, hl_of_steady Hlc.psFault (fun _ => rfl) same, hl, modHlc_hlc,
    vget_vmod_other _ _ _ _ other]
  exact missing

/-- A point of a frame that is missing. -/
def missFrame (f : Fin 24) (t : State) (k : Fin 8) : State :=
  if !(rxFrames t k).contains f then t
  else
    let u := if (hl t k).psFault && !(hl t k).canTo then e558 k f.1 0 t else t
    psFaultSet k f.1 0 (modHlc k (fun h => { h with canTo := true, measOk := measReadable u k }) u)

@[simp] theorem offPoint_missFrame (f : Fin 24) (t : State) (k : Fin 8) : offPoint (missFrame f t k) = offPoint t := by
  unfold missFrame e558
  dsimp only
  repeat' split
  all_goals simp

theorem missFrame_missing (f : Fin 24) (t : State) (named : f ∈ rxFrames t n) : Missing n (missFrame f t n) := by
  rw [missFrame, if_neg (by simpa using named)]
  exact psFaultSet_missing n _ _ _ (by simp [hl])

theorem missFrame_keeps (f : Fin 24) (t : State) (k : Fin 8) (missing : Missing n t) : Missing n (missFrame f t k) := by
  rw [missFrame]
  split
  · exact missing
  · by_cases same : n = k
    · subst same
      exact psFaultSet_missing n _ _ _ (by simp [hl])
    · refine psFaultSet_missing_other k _ _ _ n same ?_
      rw [Missing, hl, modHlc_hlc, vget_vmod_other _ _ _ _ same]
      split
      · exact (of_quiet (Missing n) (fun _ => rfl) (quiet_pulse ..)).mpr missing
      · exact missing

theorem canReceiveTimeout_misses (f : Fin 24) (runs : canRuns s (frmE (canB s) f.1) = true) (rx : frmRx (frmE (canB s) f.1) = true)
    (first : (vget s.can f).tout = false) (due : (vget s.can f).lastAt + frmTimeout (frmE (canB s) f.1) * 1000 ≤ s.clk.mono) :
    ∃ t, exec (.canReceiveTimeout f) s = .next t ∧ t.can = vset s.can f { vget s.can f with tout := true } ∧
      ∀ n, hasPoint s n = true → f ∈ rxFrames s n → (hl t n).canTo = true ∧ (hl t n).psFault = true := by
  let u := modCan f (fun x => { x with tout := true }) s
  have late : elapsed s (vget s.can f).lastAt (frmTimeout (frmE (canB s) f.1) * 1000) = true := decide_eq_true due
  refine ⟨(points s).foldl (missFrame f) u, congrArg Host.Outcome.next (if_neg (by simp [runs, rx, first, late])), ?_, fun n present named => ?_⟩
  · exact of_offPoint State.can (fun _ => rfl) (foldl_keeps offPoint _ (offPoint_missFrame f) _ u)
  · refine foldl_reaches (Missing n) (fun t => offPoint t = offPoint u) _ n (missFrame_keeps n f)
      (fun t k same => (offPoint_missFrame f t k).trans same) (fun t same => missFrame_missing n f t ?_) _ u (mem_points n s present) rfl
    rw [of_offPoint (fun t => rxFrames t n) (fun _ => rfl) same]
    exact named

/-! ### FAULT as last read (R190) -/

/-- FAULT of a point as a received frame leaves it. -/
def faultRead (f : Fin 24) (d : List Byte) : Bool :=
  let sigs := (sigsOf (canB s) f.1).filter fun x => sigPt x == some n
  if sigs.any (sigVar · == 17) then sigs.any fun x => sigVar x == 17 && physOf x (getSig x d) != 0 else (hl s n).psBit

theorem rxPoint_fault (f : Fin 24) (d : List Byte) (fault : faultRead n s f d = true) :
    ∃ u, rxPoint f d n s = rampCheck n (prechargeDone n (followStable n (psFaultSet n f.1 17 u))) := by
  exact ⟨_, congrArg (fun w => rampCheck n (prechargeDone n (followStable n w))) (if_pos fault)⟩

theorem prechargeDone_fault : (hl (prechargeDone n s) n).psFault = (hl s n).psFault ∧ (hl (prechargeDone n s) n).psGood = (hl s n).psGood := by
  unfold prechargeDone
  dsimp only
  split
  · simp [hl]
  · exact ⟨rfl, rfl⟩

theorem rxPoint_faults (f : Fin 24) (d : List Byte)
    (named : ∃ e ∈ sigsOf (canB s) f.1, sigPt e = some n ∧ sigVar e = 17 ∧ physOf e (getSig e d) ≠ 0) :
    (hl (rxPoint f d n s) n).psFault = true ∧ (hl (rxPoint f d n s) n).psGood = none := by
  obtain ⟨e, mem, point, var, value⟩ := named
  have fault : faultRead n s f d = true := by
    have mem' : e ∈ (sigsOf (canB s) f.1).filter fun x => sigPt x == some n := List.mem_filter.2 ⟨mem, by simp [point]⟩
    rw [faultRead, if_pos (List.any_eq_true.2 ⟨e, mem', by simp [var]⟩)]
    exact List.any_eq_true.2 ⟨e, mem', by simp [var, value]⟩
  obtain ⟨u, runs⟩ := rxPoint_fault n s f d fault
  obtain ⟨set, good⟩ := psFaultSet_sets n u f.1 17
  obtain ⟨setP, goodP⟩ := prechargeDone_fault n (followStable n (psFaultSet n f.1 17 u))
  have ramp := steady_rampCheck n (prechargeDone n (followStable n (psFaultSet n f.1 17 u)))
  rw [runs, hl_of_steady Hlc.psFault (fun _ => rfl) ramp, hl_of_steady Hlc.psGood (fun _ => rfl) ramp, setP, goodP, ← set, ← good]
  simp [followStable, hl]

theorem heldFor_recent (t0 d : Nat) (early : s.clk.mono < t0 + d) : heldFor s (some t0) d = false := decide_eq_false (Nat.not_le_of_lt early)

theorem psFaultClear_clears (t0 : Nat) (fault : (hl s n).psFault = true) (since : (hl s n).psGood = some t0) :
    (t0 + 1000000 ≤ s.clk.mono → ∃ t, exec (.psFaultClear n) s = .next t ∧ t = { s with hlc := t.hlc, ev := t.ev, led := t.led, p100 := t.p100 } ∧
      t.hlc = vset s.hlc n { hl s n with psFault := false, canTo := false }) ∧
    (s.clk.mono < t0 + 1000000 → exec (.psFaultClear n) s = .next s) := by
  refine ⟨fun due => ?_, fun early => congrArg Host.Outcome.next (if_neg ?_)⟩
  · let f := ((rxFrames s n).head?.map (·.1)).getD 0
    obtain ⟨hlc, frame⟩ := only_hlc_of_quiet (vset s.hlc n { hl s n with psFault := false, canTo := false }) (quiet_pulse _ _ _)
    exact ⟨e558 n f 17 _, congrArg Host.Outcome.next (if_pos (by rw [fault, since, heldFor_some s t0 _ due]; rfl)), frame, hlc⟩
  · rw [since, heldFor_recent s t0 _ early, Bool.and_false]
    exact Bool.false_ne_true

/-- Ending a session now leaves the power stage told to stop (R187, R199). -/
theorem endNow_stage (r : EndReason) (runs : sessRuns s n = true) (lo : 1 ≤ (hl s n).dcStep) (hi : (hl s n).dcStep ≤ 6) :
    (hl (endNow n r s) n).enable = false ∧ (hl (endNow n r s) n).tgtI = 0 := by
  let u := openCoil n (markEnd n r s)
  have step : (hl u n).dcStep = (hl s n).dcStep :=
    hl_of_aside ((aside_openCoil ..).trans (aside_markEnd ..)) Hlc.dcStep (fun _ => rfl) n
  have left : hl (leaveDc n u) n = { hl u n with dcStep := 7, dcAt := u.clk.mono, enable := false, mode := 0, tgtI := 0 } := by
    rw [leaveDc, if_neg (by omega)]
    exact vget_vmod_same u.hlc n _
  have same : aside (endNow n r s) = aside (leaveDc n u) := by
    rw [endNow, if_pos runs, aside_tryClose, aside_weldPhase]
  rw [hl_of_aside same Hlc.enable (fun _ => rfl), hl_of_aside same Hlc.tgtI (fun _ => rfl), left]
  exact ⟨rfl, rfl⟩

theorem psFaultOpenTimeout_opens (fault : (hl s n).psFault = true) (unread : (hl s n).measOk = false)
    (due : (hl s n).psAt + 100000 ≤ s.clk.mono) (coil : (saf s n).coil = true) (from3 : 3 ≤ (hl s n).dcStep) (to6 : (hl s n).dcStep ≤ 6)
    (runs : sessRuns s n = true) : ∃ t, exec (.psFaultOpenTimeout n) s = .next t ∧ t = endNow n .safetyTrip s ∧ (saf t n).coil = false ∧
      (hl t n).enable = false ∧ (hl t n).tgtI = 0 :=
  ⟨_, congrArg Host.Outcome.next (if_pos (by simp [fault, unread, elapsed, due, coil, within, from3, to6])), rfl, endNow_opens n s _ runs,
    endNow_stage n s _ runs (by omega) to6⟩

end
end Sys2Proof.Laws

namespace Sys2Proof.Proofs

open Sys2Proof Sys2Proof.Machine Sys2Proof.Laws

/-- Settles O35: a frame sent or received is read off its guard, and a fault at one point off what the end of a session leaves. -/
theorem canCompletes : Obligations.CanCompletes := by
  refine ⟨fun f s => canFrameTransmit_sends s f, fun f old new sigs s => ⟨onlyEvents_of_quiet _ _ (quiet_noteClamps s f old new sigs),
    noteClamps_same s f old new sigs⟩, fun f data s runs rx => ⟨canFrameReceive_takes s f data runs rx, canFrameReceive_discards s f data,
    canReceiveTimeout_misses s f runs rx⟩, fun d e n s => rxSignal_sets n s d e, fun f d n s => rxPoint_faults n s f d,
    fun n t0 s => psFaultClear_clears n s t0, fun n s => psFaultOpenTimeout_opens n s⟩

end Sys2Proof.Proofs

namespace Sys2Proof.Laws

open Sys2Proof Sys2Proof.Machine

section
variable (n : Fin 8) (s : State)

/-! ## Setup (R176 to R179) -/

section
variable (up : linked s n = true)
include up

theorem sdpRequest_opens (shut : (hl s n).tcp = false) : exec (.sdpRequest n) s =
    .next (setHlc n s { hl s n with tcp := true, tls := false, lastReq := s.clk.mono }) := by
  refine congrArg Host.Outcome.next ((if_pos (by simp [up, shut])).trans ?_)
  rw [modHlc_eq, touch_setHlc]

section
variable (x : TlsIn) (tcp : (hl s n).tcp = true) (plain : (hl s n).tls = false) (proto : (hl s n).proto = 0)
include tcp plain proto

theorem tlsHandshake_fails (unfit : leafOk s x = false ∨ s.pwr.kRunning = false) :
    exec (.tlsHandshake n x) s = .next (hlcFail n 2 .vehicleStop (touch n s)) := by
  refine congrArg Host.Outcome.next ((if_neg (by simp [up, tcp, plain, proto])).trans (if_pos ?_))
  show (!(leafOk s x && s.pwr.kRunning)) = true
  rcases unfit with h | h <;> simp [h]

/-- With its leaf at hand a handshake goes by whether the Chuck has a slot for the key (R411). -/
theorem tlsHandshake_loads (fits : leafOk s x = true) (keys : s.pwr.kRunning = true) :
    let key := ((certAt s x.role 0).map (·.keyId)).getD 0
    (∀ k v, chuckGet key (touch n s) = some (k, v) →
      exec (.tlsHandshake n x) s = .next (tlsEnd n x { v with key.waits := v.key.waits.filter fun w => !(w.2.1 == n.1) })) ∧
    (chuckGet key (touch n s) = none → (∀ w ∈ s.key.waits, w.2.1 ≠ n.1) → exec (.tlsHandshake n x) s =
      .next { touch n s with key.waits := s.key.waits ++ [(key, n.1, s.clk.mono)] }) := by
  intro key
  have fit : ¬ (!(leafOk (touch n s) x && (touch n s).pwr.kRunning)) = true := by
    show ¬ (!(leafOk s x && s.pwr.kRunning)) = true
    simp [fits, keys]
  have opened : ¬ (!(linked s n && (hl s n).tcp && !(hl s n).tls && (hl s n).proto == 0)) = true := by simp [up, tcp, plain, proto]
  refine ⟨fun k v slot => congrArg Host.Outcome.next ((if_neg opened).trans ((if_neg fit).trans ?_)),
    fun full alone => congrArg Host.Outcome.next ((if_neg opened).trans ((if_neg fit).trans ?_))⟩
  · show (match chuckGet key (touch n s) with | some r => _ | none => _) = _
    rw [slot]
  · show (match chuckGet key (touch n s) with | some r => _ | none => _) = _
    rw [full]
    refine if_neg fun waits => ?_
    obtain ⟨w, mem, own⟩ := List.any_eq_true.1 waits
    exact alone w mem (beq_iff_eq.1 own)

end

/-! ### The application protocol (R177) -/

omit up in
theorem protoOk_touch (p : Nat) : protoOk (touch n s) n p = protoOk s n p := by
  unfold protoOk
  simp only [touch_eq, hl_setHlc]
  rfl

section
variable (offers : List (Nat × Nat)) (tcp : (hl s n).tcp = true) (proto : (hl s n).proto = 0)
include tcp proto

theorem appProtocol_chooses (p v : Nat)
    (pick : ([3, 2, 1].findSome? fun p => if protoOk s n p then offers.find? fun o => o.1 == p else none) = some (p, v)) :
    exec (.supportedAppProtocol n offers) s = .next (setPhase n .auth (setHlc n s { hl s n with
      proto := p, version := v, dcStep := if (hl s n).dcStep = 1 then 2 else (hl s n).dcStep, dcAt := s.clk.mono, lastReq := s.clk.mono })) := by
  refine congrArg Host.Outcome.next ((if_neg (by simp [up, tcp, proto])).trans ?_)
  simp only [protoOk_touch, pick]
  rw [touch_eq, modHlc_setHlc]
  rfl

theorem appProtocol_fails
    (pick : ([3, 2, 1].findSome? fun p => if protoOk s n p then offers.find? fun o => o.1 == p else none) = none) :
    exec (.supportedAppProtocol n offers) s = .next (hlcFail n 3 .vehicleStop (touch n s)) := by
  refine congrArg Host.Outcome.next ((if_neg (by simp [up, tcp, proto])).trans ?_)
  simp only [protoOk_touch, pick]

end
end

/-! ### The end of a handshake (R178, R179) -/

theorem sdpRequest_again (held : (hl s n).tcp = true) : exec (.sdpRequest n) s = .next s :=
  congrArg Host.Outcome.next (if_neg (by simp [held]))

theorem tlsEnd_establishes (x : TlsIn) (ok : x.ok = true) (suite : suiteOk x.v13 x.suite = true) (oem : oemOk s x = true) :
    tlsEnd n x s = { s with hlc := vset s.hlc n { hl s n with
      ecdhe := (hl s n).ecdhe + 1, tls := true, tls13 := x.v13, suite := some x.suite } } := by
  have same (f : Hlc → Hlc) : oemOk (modHlc n f s) x = oemOk s x := rfl
  refine (if_pos (by rw [same, ok, suite, oem]; rfl)).trans ?_
  rw [modHlc_eq n s, modHlc_setHlc]
  rfl

theorem tlsEnd_fails (x : TlsIn) (bad : x.ok = false ∨ suiteOk x.v13 x.suite = false ∨ oemOk s x = false) :
    ∃ t, tlsEnd n x s = t ∧ (hl t n).failed = true ∧ (hl t n).tls = false := by
  have same (f : Hlc → Hlc) : oemOk (modHlc n f s) x = oemOk s x := rfl
  refine ⟨_, if_neg ?_, ?_⟩
  · rw [same]
    rcases bad with h | h | h <;> simp [h]
  · have down := hlcFail_failed n (modHlc n (fun h => { h with ecdhe := h.ecdhe + 1 }) s) 2 .vehicleStop
    exact ⟨down.failed, down.tls⟩

/-! ## Services and authorisation (R177, R180, R182; log entry 808) -/

/-- A service has been chosen, and the vehicle is known (R177, R193). -/
def selected (code ctrl evccid : Nat) : State :=
  modSessP n (fun x => { x with service := code }) (setHlc n s { hl s n with ctrl, evccid, lastReq := s.clk.mono })

theorem selected_eq (code ctrl evccid : Nat) :
    modHlc n (fun h => { h with ctrl, evccid }) (touch n (modSessP n (fun x => { x with service := code }) s)) = selected n s code ctrl evccid :=
  congrArg (modSessP n fun x => { x with service := code }) (modHlc_setHlc n s { hl s n with lastReq := s.clk.mono } fun h => { h with ctrl, evccid })

theorem ctrlOf_touch (f : SessP → SessP) (dynamic : Bool) : ctrlOf (touch n (modSessP n f s)) n dynamic = ctrlOf s n dynamic := by
  have proto : (hl (touch n (modSessP n f s)) n).proto = (hl s n).proto := by
    rw [touch_eq, hl_setHlc]
    rfl
  rw [ctrlOf, proto]
  rfl

section
variable (up : talks s n = true)
include up

theorem serviceSelection_fixes (code : Nat) (dynamic : Bool) (evccid : Nat) (opened : (sep s n).service = 0xFF) (ok : serviceOk s n code = true) :
    ∃ t, exec (.serviceSelection n code dynamic evccid) s = .next t ∧
      t = { s with hlc := t.hlc, p100 := t.p100, ev := t.ev, led := t.led } ∧ (sep t n).service = code ∧
      t.hlc = vset s.hlc n { hl s n with ctrl := ctrlOf s n dynamic, evccid := evccid % 2 ^ 48, lastReq := s.clk.mono } := by
  let u := selected n s code (ctrlOf s n dynamic) (evccid % 2 ^ 48)
  have runs : exec (.serviceSelection n code dynamic evccid) s =
      .next (e55 n 1 [(1, code), (1, b2n (hl u n).tls), (1, b2n (hl u n).pnc)] u) := by
    refine congrArg Host.Outcome.next ((if_neg (by simp [up, opened])).trans ((if_neg (by simp [ok])).trans ?_))
    dsimp only
    rw [ctrlOf_touch, selected_eq]
  have same (l : List (Nat × Nat)) : quiet (e55 n 1 l u) = quiet u := quiet_pulse ..
  refine ⟨_, runs, only_of_mute_pilot ?_ ?_, ?_, of_quiet State.hlc (fun _ => rfl) (same _)⟩
  · exact (mute_of_quiet (same _)).trans rfl
  · exact (of_quiet State.pilot (fun _ => rfl) (same _)).trans rfl
  · rw [of_quiet (fun t => sep t n) (fun _ => rfl) (same _)]
    simp [u, selected, sep]

theorem serviceSelection_unoffered (code : Nat) (dynamic : Bool) (evccid : Nat) (opened : (sep s n).service = 0xFF)
    (bad : serviceOk s n code = false) : exec (.serviceSelection n code dynamic evccid) s = .next (touch n s) :=
  congrArg Host.Outcome.next ((if_neg (by simp [up, opened])).trans (if_pos (by simp [bad])))

end

theorem serviceSelection_again (code : Nat) (dynamic : Bool) (evccid : Nat) (fixed : (sep s n).service ≠ 0xFF) :
    exec (.serviceSelection n code dynamic evccid) s = .next s :=
  congrArg Host.Outcome.next (if_pos (by simp [fixed]))

/-- The state in which a request for authorisation is answered: the first one's time is kept (R182). -/
def asked : State := setHlc n s { hl s n with authAt := some ((hl s n).authAt.getD s.clk.mono), lastReq := s.clk.mono }

theorem asked_eq : touch n (modHlc n (fun h => { h with authAt := some (h.authAt.getD s.clk.mono) }) s) = asked n s := by
  rw [modHlc_eq, touch_setHlc]
  rfl

theorem hl_asked : hl (asked n s) n = { hl s n with authAt := some ((hl s n).authAt.getD s.clk.mono), lastReq := s.clk.mono } := hl_setHlc ..

theorem pncOffered_asked : pncOffered (asked n s) n = pncOffered s n := by
  rw [pncOffered, hl_asked]
  rfl

theorem eimAnswer_asked : eimAnswer (asked n s) n = if (ses s n).bound then 2 else if (hl s n).authAns = 3 then 3 else 1 := by
  rw [eimAnswer, hl_asked]
  rfl

section
variable (up : talks s n = true)
include up

theorem authorizationRequest_eim (eim : eimEn (hlcB s n) = true) : exec (.authorizationRequest n none) s =
    .next (authAnswer n (if (ses s n).bound then 2 else if (hl s n).authAns = 3 then 3 else 1) (asked n s)) := by
  refine congrArg Host.Outcome.next ((if_neg (by simp [up])).trans ?_)
  dsimp only
  rw [asked_eq, ← eimAnswer_asked]
  exact if_pos eim

theorem authorizationRequest_unoffered (eim : eimEn (hlcB s n) = false) :
    exec (.authorizationRequest n none) s = .next (authAnswer n 3 (asked n s)) := by
  refine congrArg Host.Outcome.next ((if_neg (by simp [up])).trans ?_)
  dsimp only
  rw [asked_eq]
  exact if_neg (by rw [show eimEn (hlcB (asked n s) n) = false from eim]; exact Bool.false_ne_true)

section
variable (c : ChainIn)

theorem contractRequest_unoffered (offered : pncOffered s n = false) :
    exec (.authorizationRequest n (some c)) s = .next (authAnswer n 3 (asked n s)) := by
  refine congrArg Host.Outcome.next ((if_neg (by simp [up])).trans ?_)
  dsimp only
  rw [asked_eq]
  exact if_pos (by simp [pncOffered_asked, offered])

variable (offered : pncOffered s n = true)
include offered

theorem contractRequest_judged : exec (.authorizationRequest n (some c)) s =
    .next (if contractOk s c && within c.emaid.length 1 15 then contractAuth n c.emaid (asked n s) else authAnswer n 4 (asked n s)) := by
  refine congrArg Host.Outcome.next ((if_neg (by simp [up])).trans ?_)
  dsimp only
  rw [asked_eq]
  exact if_neg (by simp [pncOffered_asked, offered])

theorem contractRequest_unverified (bad : contractOk s c = false) :
    exec (.authorizationRequest n (some c)) s = .next (authAnswer n 4 (asked n s)) := by
  rw [contractRequest_judged n s up c offered, if_neg (by simp [bad])]

theorem contractRequest_verified (ok : contractOk s c = true) (lo : 1 ≤ c.emaid.length) (hi : c.emaid.length ≤ 15) :
    exec (.authorizationRequest n (some c)) s = .next (contractAuth n c.emaid (asked n s)) := by
  rw [contractRequest_judged n s up c offered, if_pos (by simp [ok, within, lo, hi])]

end
end

/-- The state in which a contract's identifier has entered the decision flow (R182). -/
def contractEnters (id : List Byte) : State := enterFlow n 3 id false 0 (modHlc n (fun h => { h with pnc := true, authAns := 1 }) s)

theorem contractAuth_first (id : List Byte) (first : (hl s n).pnc = false) : contractAuth n id (asked n s) =
    authAnswer n (hl (contractEnters n (asked n s) id) n).authAns (contractEnters n (asked n s) id) :=
  if_neg (by rw [hl_asked]; simp [first])

theorem contractAuth_again (id : List Byte) (entered : (hl s n).pnc = true) : contractAuth n id (asked n s) =
    authAnswer n (if (hl s n).authAns = 0 then 1 else (hl s n).authAns) (asked n s) := by
  rw [contractAuth, hl_asked]
  exact if_pos entered

theorem authAnswer_eq (a : Nat) : authAnswer n a s = if a = 2 ∧ (hl s n).phase = .auth then
    setPhase n .parameters (setHlc n s { hl s n with authAns := a }) else setHlc n s { hl s n with authAns := a } := by
  have phase : (hl (setHlc n s { hl s n with authAns := a }) n).phase = (hl s n).phase := by rw [hl_setHlc]
  rw [← phase, authAnswer, modHlc_eq]
  simp only [Bool.and_eq_true, decide_eq_true_eq, beq_iff_eq]

end
end Sys2Proof.Laws

namespace Sys2Proof.Laws

open Sys2Proof Sys2Proof.Machine

section
variable (n : Fin 8) (s : State)

/-! ## Limits offered (R183, R184) -/

theorem offer_same (same : offerNow s n = offered s n) : offer n s = s := if_pos same

/-- High-level communication with the limits now offered. -/
def offerHlc : Hlc :=
  { hl s n with
    offI := (offerNow s n).1, offP := (offerNow s n).2.1, offD := (offerNow s n).2.2.1, offU := (offerNow s n).2.2.2, offAt := s.clk.mono
    offDec := if decide ((offerNow s n).1 < (hl s n).offI) || decide (powerBound s n (offerNow s n).2.1 < powerBound s n (hl s n).offP) then
      s.clk.mono else (hl s n).offDec }

theorem offer_changes (change : offerNow s n ≠ offered s n) :
    offer n s = e55 n 4 [(4, (offerNow s n).1), (4, (offerNow s n).2.1)] (setHlc n s (offerHlc n s)) := if_neg change

/-- The limits offered are those that may be offered now, and nothing else changes but the event they raise. -/
theorem offer_offers : ∃ t, offer n s = t ∧ t = { s with hlc := t.hlc, ev := t.ev, led := t.led, p100 := t.p100 } ∧ offered t n = offerNow s n := by
  by_cases same : offerNow s n = offered s n
  · exact ⟨s, offer_same n s same, rfl, same.symm⟩
  · obtain ⟨hlc, frame⟩ := only_hlc_of_quiet (s := s) (vset s.hlc n (offerHlc n s))
      (quiet_pulse (56 + n.1) (prm ([(1, 4), (4, sessNo (setHlc n s (offerHlc n s)) n)] ++ [(4, (offerNow s n).1), (4, (offerNow s n).2.1)]))
        (setHlc n s (offerHlc n s)))
    refine ⟨_, offer_changes n s same, frame, ?_⟩
    rw [offered, hl, e55, hlc, vget_vset_same]
    rfl

theorem offer_dcStep : (hl (offer n s) n).dcStep = (hl s n).dcStep := by
  by_cases same : offerNow s n = offered s n
  · rw [offer_same n s same]
  · rw [offer_changes n s same, e55, hl, pulse_hlc]
    exact (congrArg Hlc.dcStep (hl_setHlc n s (offerHlc n s))).trans rfl

/-- What the vehicle tells of itself (R193). -/
def told (x : EvIn) (h : Hlc) : Hlc :=
  { h with soc := if x.soc ≤ 100 then x.soc else 0xFF, evU := x.u % 2 ^ 32, evI := x.i, evMaxU := if x.maxU = 0 then h.evMaxU else x.maxU }

theorem heard_eq (x : EvIn) : heard n x s = setHlc n s { told x (hl s n) with lastReq := s.clk.mono } := by
  rw [heard, modHlc_eq, touch_setHlc]
  rfl

theorem chargeParameter_answers (x : EvIn) (up : talks s n = true) (authorised : (hl s n).authAns = 2) :
    exec (.chargeParameterDiscovery n x) s = .next (modHlc n (fun h => { h with reneg := false })
      (offer n (setHlc n s { told x (hl s n) with lastReq := s.clk.mono }))) := by
  rw [← heard_eq]
  exact congrArg Host.Outcome.next (if_pos (by simp [up, authorised]))

theorem chargeParameter_ignored (x : EvIn) (other : (hl s n).authAns ≠ 2) : exec (.chargeParameterDiscovery n x) s = .next s :=
  congrArg Host.Outcome.next (if_neg (by simp [other]))

/-! ## The insulation status in DC answers (R217) -/

/-- High-level communication as an answer with the isolation status leaves it. -/
def isoTold (h : Hlc) : Hlc := if dcService s n then { h with isoSent := (ear s n).iso } else h

theorem isoAnswer_eq (h : Hlc) : isoAnswer n (setHlc n s h) = setHlc n s (isoTold n s h) := by
  have same : dcService (setHlc n s h) n = dcService s n := rfl
  rw [isoAnswer, same, isoTold]
  split
  · rw [modHlc_setHlc]
    rfl
  · rfl

theorem isoAnswer_self : isoAnswer n s = setHlc n s (isoTold n s (hl s n)) := by
  have self : setHlc n s (hl s n) = s := congrArg (fun v => { s with hlc := v }) (Vector.set_getElem_self _)
  rw [← isoAnswer_eq, self]

/-! ## The charge loop (R184, R187, R196; log entry 802) -/

/-- The state in which the charge loop is answered. -/
def looping (x : EvIn) : State :=
  setHlc n s { isoTold n s { told x (hl s n) with
    meterInfo := vget (sep s n).acc 0 / 1000000, meterId := le 8 Config.serial.toNat ++ le 1 (n.1 + 1) } with lastReq := s.clk.mono }

theorem looping_eq (x : EvIn) : isoAnswer n (modHlc n (fun h => { h with
    meterInfo := vget (sep s n).acc 0 / 1000000, meterId := meterIdOf n }) (heard n x s)) = looping n s x := by
  rw [heard_eq, modHlc_setHlc, isoAnswer_eq, looping]
  unfold isoTold
  split
  · rfl
  · rfl

theorem hl_looping (x : EvIn) : (hl (looping n s x) n).ctrl = (hl s n).ctrl ∧ (hl (looping n s x) n).dcStep = (hl s n).dcStep := by
  rw [looping, hl_setHlc]
  unfold isoTold
  split
  · exact ⟨rfl, rfl⟩
  · exact ⟨rfl, rfl⟩

theorem chargeLoop_answers (x : EvIn) (up : talks s n = true) :
    let u := looping n s x
    let v := if (hl s n).ctrl ≠ 1 then offer n u else if offerNow u n = offered u n then u else modHlc n (fun h => { h with reneg := true }) u
    exec (.chargeLoopRequest n x) s = .next (if (hl s n).dcStep = 5 then powerStage n v else v) := by
  intro u v
  obtain ⟨ctrl, step⟩ := hl_looping n s x
  have stepV : (hl v n).dcStep = (hl s n).dcStep := by
    rw [← step]
    unfold v
    repeat' split
    · exact offer_dcStep n u
    · rfl
    · simp [hl, u]
  refine congrArg Host.Outcome.next ((if_neg (by simp [up])).trans ?_)
  dsimp only
  rw [looping_eq, ctrl, ← stepV]

/-! ## The DC sequence (R187) -/

theorem talks_isoTold : talks (setHlc n s (isoTold n s (hl s n))) n = talks s n := by
  have same : hlcRuns (setHlc n s (isoTold n s (hl s n))) n = hlcRuns s n ∧ (isoTold n s (hl s n)).slac = (hl s n).slac ∧
      (isoTold n s (hl s n)).proto = (hl s n).proto := by
    rw [hlcRuns, hl_setHlc]
    unfold isoTold
    split
    · exact ⟨rfl, rfl, rfl⟩
    · exact ⟨rfl, rfl, rfl⟩
  obtain ⟨runs, slac, proto⟩ := same
  rw [talks, linked, runs, hl_setHlc, slac, proto]
  rfl

section
variable (up : talks s n = true)
include up

theorem cableCheck_requests (dc : dcService s n = true) (step : (hl s n).dcStep = 2) (authorised : (hl s n).authAns = 2)
    (state : (pil s n).st = some .C) (going : (ses s n).ending = none) : exec (.cableCheckRequest n) s =
    .next (setPhase n .cableCheck { setHlc n s { hl s n with
      isoSent := (ear s n).iso, dcStep := 3, dcAt := s.clk.mono, cable := 0, uStable := none, enable := false, mode := 0, tgtI := 0
      stepDone := false, lastReq := s.clk.mono } with
      safe := vset s.safe n { saf s n with reqClose := !(vget s.sw.lk n).needLock, sent76 := 0 } }) := by
  have due : (dcService s n && (hl s n).dcStep == 2 && (hl s n).authAns == 2 && (pil s n).st == some .C && (ses s n).ending.isNone) = true := by
    simp [dc, step, authorised, state, going]
  show execCableCheckRequest n s = _
  rw [execCableCheckRequest]
  dsimp only
  rw [if_pos up, isoAnswer_self, talks_isoTold, up]
  refine congrArg Host.Outcome.next ((if_neg Bool.false_ne_true).trans ((if_pos due).trans ?_))
  rw [modHlc_setHlc, touch_setHlc, isoTold, if_pos dc]
  rfl

section
variable (u i : Nat)

theorem precharge_begins (step : (hl s n).dcStep = 3) (checked : (hl s n).cable = 2 ∨ (hl s n).cable = 3) (going : (ses s n).ending = none) :
    exec (.prechargeRequest n u i) s = .next (setPhase n .precharge (powerStage n (setHlc n s { isoTold n s { hl s n with
      dcStep := 4, dcAt := s.clk.mono, evU := u % 2 ^ 32, evI := i, stepDone := false } with lastReq := s.clk.mono }))) := by
  have due : (hl s n).dcStep = 3 ∧ ((hl s n).cable = 2 ∨ (hl s n).cable = 3) ∧ (ses s n).ending.isNone = true :=
    ⟨step, checked, by rw [going]; rfl⟩
  show execPrechargeRequest n u i s = _
  rw [execPrechargeRequest]
  dsimp only
  rw [if_pos up, isoAnswer_self, talks_isoTold, up]
  refine congrArg Host.Outcome.next ((if_neg Bool.false_ne_true).trans ((if_pos due).trans ?_))
  rw [modHlc_setHlc, touch_setHlc]
  unfold isoTold
  split
  · rfl
  · rfl

theorem precharge_sets (step : (hl s n).dcStep = 4) : exec (.prechargeRequest n u i) s =
    .next (powerStage n (setHlc n s { isoTold n s { hl s n with evU := u % 2 ^ 32, evI := i } with lastReq := s.clk.mono })) := by
  show execPrechargeRequest n u i s = _
  rw [execPrechargeRequest]
  dsimp only
  rw [if_pos up, isoAnswer_self, talks_isoTold, up]
  refine congrArg Host.Outcome.next ((if_neg Bool.false_ne_true).trans ((if_neg (fun due => ?_)).trans ((if_pos step).trans ?_)))
  · obtain ⟨three, -⟩ := due
    omega
  · rw [modHlc_setHlc, touch_setHlc]
    unfold isoTold
    split
    · rfl
    · rfl

end

/-! ### Power delivery -/

theorem powerDelivery_energy (authorised : (hl s n).authAns = 2) (going : (ses s n).ending = none) (dc : dcService s n = true)
    (step : (hl s n).dcStep = 4) (charged : (hl s n).stepDone = true) : exec (.powerDeliveryRequest n 0) s =
    .next (setPhase n .energy (powerStage n (setHlc n s { hl s n with dcStep := 5, dcAt := s.clk.mono, lastReq := s.clk.mono }))) := by
  refine congrArg Host.Outcome.next ((if_neg (by simp [up])).trans ((if_pos rfl).trans ((if_neg ?_).trans
    ((if_pos dc).trans ((if_pos ⟨step, charged⟩).trans ?_)))))
  · show ¬ ((hl s n).authAns ≠ 2 ∨ (ses s n).ending.isSome = true)
    simp [authorised, going]
  · rw [touch_eq, modHlc_setHlc]
    rfl

theorem powerDelivery_closes (authorised : (hl s n).authAns = 2) (going : (ses s n).ending = none) (ac : dcService s n = false)
    (chosen : (sep s n).service ≠ 0xFF) : exec (.powerDeliveryRequest n 0) s =
    .next (setPhase n .energy { touch n s with safe := vset s.safe n { saf s n with
      reqClose := !(vget s.sw.lk n).needLock, sent76 := if (saf s n).reqClose then (saf s n).sent76 else 0 } }) := by
  refine congrArg Host.Outcome.next ((if_neg (by simp [up])).trans ((if_pos rfl).trans ((if_neg ?_).trans
    ((if_neg ?_).trans ((if_neg chosen).trans rfl)))))
  · show ¬ ((hl s n).authAns ≠ 2 ∨ (ses s n).ending.isSome = true)
    simp [authorised, going]
  · show ¬ dcService s n = true
    simp [ac]

theorem powerDelivery_stops : exec (.powerDeliveryRequest n 1) s = .next (endSoft n (stopReason s n) (touch n s)) :=
  congrArg Host.Outcome.next ((if_neg (by simp [up])).trans ((if_neg (by decide)).trans (if_pos rfl)))

theorem powerDelivery_renegotiates : exec (.powerDeliveryRequest n 2) s =
    .next (setHlc n s { hl s n with reneg := true, lastReq := s.clk.mono }) := by
  refine congrArg Host.Outcome.next ((if_neg (by simp [up])).trans ((if_neg (by decide)).trans ((if_neg (by decide)).trans ?_)))
  rw [modHlc_eq, touch_setHlc]

/-! ## Certificates and receipts (R176, R181) -/

theorem certificateRequest_holds (body : List Byte) (iso : 2 ≤ (hl s n).proto) (lo : 1 ≤ body.length) (hi : body.length ≤ 16384)
    (free : (hl s n).cert = none) : exec (.certificateRequest n body) s = .next (e55 n 3 [(4, body.length)] (setHlc n s { hl s n with
      cert := some (body, s.clk.mono), certResp := [], certTot := 0, lastReq := s.clk.mono })) := by
  refine congrArg Host.Outcome.next ((if_pos (by simp [up, iso, within, lo, hi, free])).trans ?_)
  rw [modHlc_eq, touch_setHlc]

theorem meteringReceipt_counts (iso : 2 ≤ (hl s n).proto) (receipts : mtrReceipt (hlcB s n) = true) : exec (.meteringReceipt n) s =
    .next (setHlc n s { hl s n with receipt := (hl s n).receipt + 1, lastReq := s.clk.mono }) := by
  refine congrArg Host.Outcome.next ((if_pos (by simp [up, iso, receipts])).trans ?_)
  rw [modHlc_eq, touch_setHlc]

end

/-! ## Setpoints of the power stage (R187) -/

theorem powerStage_precharge (step : (hl s n).dcStep = 4) : powerStage n s = { s with hlc := vset s.hlc n { hl s n with
    enable := true, mode := 2, tgtU := (min (hl s n).evU (dcLimU s n) : Nat), tgtI := max 0 (min 2000 (hl s n).evI) } } := by
  conv_lhs => unfold powerStage; dsimp only; rw [step]
  rfl

theorem powerStage_energy (step : (hl s n).dcStep = 5) : powerStage n s = { s with hlc := vset s.hlc n { hl s n with
    enable := true, mode := 3, tgtU := (min (hl s n).evU (dcLimU s n) : Nat), tgtI := energyI s n } } := by
  conv_lhs => unfold powerStage; dsimp only; rw [step]
  rfl

end
end Sys2Proof.Laws

namespace Sys2Proof.Proofs

open Sys2Proof Sys2Proof.Machine Sys2Proof.Laws

/-- Settles O32: each request of the vehicle is read off its guard, and what it leaves is one new value of high-level communication. -/
theorem vehicleRequestsComplete : Obligations.VehicleRequestsComplete := by
  refine ⟨fun n s up => ⟨sdpRequest_opens n s up, sdpRequest_again n s, fun x tcp plain proto =>
      ⟨tlsHandshake_fails n s up x tcp plain proto, tlsHandshake_loads n s up x tcp plain proto⟩,
      fun offers tcp proto => ⟨appProtocol_chooses n s up offers tcp proto, appProtocol_fails n s up offers tcp proto⟩⟩,
    fun n x s => ⟨tlsEnd_establishes n s x, tlsEnd_fails n s x⟩, fun n s up => ?_, fun n s =>
      ⟨powerStage_precharge n s, powerStage_energy n s, authAnswer_eq n s, offer_same n s, offer_offers n s⟩⟩
  refine ⟨fun code dynamic evccid opened => ⟨serviceSelection_fixes n s up code dynamic evccid opened,
      serviceSelection_unoffered n s up code dynamic evccid opened⟩, serviceSelection_again n s,
    ⟨authorizationRequest_eim n s up, authorizationRequest_unoffered n s up, fun c => ⟨contractRequest_unoffered n s up c,
      fun offered ok lo hi => ?_, contractRequest_unverified n s up c⟩⟩,
    fun x => ⟨chargeParameter_answers n s x up, chargeParameter_ignored n s x, chargeLoop_answers n s x up⟩,
    cableCheck_requests n s up, precharge_begins n s up, precharge_sets n s up, powerDelivery_energy n s up, powerDelivery_closes n s up,
    powerDelivery_stops n s up, powerDelivery_renegotiates n s up, certificateRequest_holds n s up, meteringReceipt_counts n s up⟩
  have verified := contractRequest_verified n s up c offered ok lo hi
  exact ⟨fun first => verified.trans (congrArg Host.Outcome.next (contractAuth_first n s c.emaid first)),
    fun entered => verified.trans (congrArg Host.Outcome.next (contractAuth_again n s c.emaid entered))⟩

end Sys2Proof.Proofs

namespace Sys2Proof.Laws

open Sys2Proof Sys2Proof.Machine

section
variable (n : Fin 8) (s : State)

/-! ## Earth supervision of a point is changed as a whole (R203 to R218) -/

theorem modEarth_modEarth (f g : Earth → Earth) : modEarth n f (modEarth n g s) = modEarth n (fun e => f (g e)) s := by
  simp [modEarth, vmod]

/-- A change that leaves the point's earth state as it is leaves the state. -/
theorem modEarth_same (f : Earth → Earth) (same : f (ear s n) = ear s n) : modEarth n f s = s := by
  have kept : vmod s.earth n f = s.earth := by
    rw [vmod_eq_vset, show f (vget s.earth n) = vget s.earth n from same]
    simp [vset, vget]
  rw [modEarth, kept]

@[simp] theorem ear_modEarth (f : Earth → Earth) : ear (modEarth n f s) n = f (ear s n) := vget_vmod_same ..
@[simp] theorem nvp_modNvPt (f : NvPoint → NvPoint) : nvp (modNvPt n f s) n = f (nvp s n) := vget_vmod_same ..
@[simp] theorem ear_modNvPt (f : NvPoint → NvPoint) (k : Fin 8) : ear (modNvPt n f s) k = ear s k := rfl
@[simp] theorem nvp_modEarth (f : Earth → Earth) (k : Fin 8) : nvp (modEarth n f s) k = nvp s k := rfl

/-! ### Events of earth supervision (R227) -/

section
variable (kind : Nat) (on : Bool) (val : Int) (step : Nat)

@[simp] theorem quiet_e63 : quiet (e63 n kind on val step s) = quiet s := quiet_pulse ..
@[simp] theorem e63_earth : (e63 n kind on val step s).earth = s.earth := pulse_earth ..
@[simp] theorem e63_nvPt : (e63 n kind on val step s).nvPt = s.nvPt := pulse_nvPt ..
@[simp] theorem e63_port : (e63 n kind on val step s).port = s.port := pulse_port ..
@[simp] theorem e63_clk : (e63 n kind on val step s).clk = s.clk := pulse_clk ..
@[simp] theorem ear_e63 (k : Fin 8) : ear (e63 n kind on val step s) k = ear s k := by simp [ear]
@[simp] theorem nvp_e63 (k : Fin 8) : nvp (e63 n kind on val step s) k = nvp s k := by simp [nvp]

end

@[simp] theorem quiet_e73 (which : Nat) (on : Bool) : quiet (e73 which on s) = quiet s := quiet_level ..

/-! ### A point out of service keeps its earth state (R19, R468) -/

@[simp] theorem endNow_earth (r : EndReason) : (endNow n r s).earth = s.earth := by
  unfold endNow
  split
  · obtain ⟨h, eq⟩ := leaveDc_eq n (openCoil n (markEnd n r s))
    rw [earth_of_aside (aside_tryClose ..), earth_of_aside (aside_weldPhase ..), eq]
    exact (earth_of_aside ((aside_openCoil ..).trans (aside_markEnd n s r)) :)
  · rfl

@[simp] theorem endSoft_earth (r : EndReason) : (endSoft n r s).earth = s.earth := by
  unfold endSoft
  split
  · exact (earth_of_aside (aside_markEnd n s r) :)
  · simp

@[simp] theorem setOos_earth (i : Nat) : (setOos n i s).earth = s.earth := by
  unfold setOos
  dsimp only
  split
  · exact endSoft_earth ..
  · rfl

/-! ## Sensor faults (R205) -/

@[simp] theorem setSensorFault_earth (v : Int) : (setSensorFault n v s).earth = s.earth := by
  unfold setSensorFault
  split
  · rfl
  · simp

/-- After a sensor fault it stands, whether found now or before. -/
theorem setSensorFault_sensorFault (v : Int) : (nvp (setSensorFault n v s) n).sensorFault = true := by
  unfold setSensorFault
  split
  next known => exact known
  next => simp [setOos_nvp]

theorem setSensorFault_oos (v : Int) (first : (nvp s n).sensorFault = false) :
    (nvp (setSensorFault n v s) n).oos.getLsbD 4 = true := by
  rw [setSensorFault, if_neg (by simp [first]), setOos_nvp]
  simp

/-! ## Offset measurement (R208) -/

/-- The state in which ten means have been taken and the next measurement starts anew. -/
def meansTaken : State := modEarth n (fun e => { e with offMeans := [], offAcc := (0, 0) }) s

theorem modEarth_meansTaken (f : Earth → Earth) :
    modEarth n f (meansTaken n s) = { s with earth := vset s.earth n (f { ear s n with offMeans := [], offAcc := (0, 0) }) } :=
  modEarth_modEarth n s f _

theorem offsetOf_eq_some (e : Earth) (ms : List Int) (o : Int) : offsetOf e ms = some o ↔
    (anyOp e = false ∧ ms.length = 10 ∧ o = meanI ms ∧ ∀ m ∈ ms, (m - o).natAbs ≤ 500) := by
  cases operates : anyOp e with
  | true => simp [offsetOf, operates]
  | false =>
    rw [offsetOf, if_neg (by simp [operates]), offsetMean]
    simp only [List.all_eq_true, decide_eq_true_eq, Option.ite_none_right_eq_some, Option.some.injEq]
    constructor
    · rintro ⟨⟨ten, near⟩, rfl⟩
      exact ⟨trivial, ten, rfl, near⟩
    · rintro ⟨-, ten, rfl, near⟩
      exact ⟨⟨ten, near⟩, rfl⟩

@[simp] theorem ear_offsetPass (o : Int) : ear (offsetPass n o s) n = { ear s n with
    offset := o, offOk := true, offRun := false, offTry := 0, pend := (ear s n).pend && !(ear s n).clrOff, clrOff := false } := by
  rw [offsetPass, ear_e63, ear_modEarth]

/-- A measurement that passes leaves, beside the point's earth state, events alone. -/
theorem offsetPass_meansTaken (o : Int) :
    let t := offsetPass n o (meansTaken n s)
    t = { s with earth := t.earth, ev := t.ev, led := t.led, p100 := t.p100 } ∧ t.earth = vset s.earth n { ear s n with
      offMeans := [], offAcc := (0, 0), offset := o, offOk := true, offRun := false, offTry := 0
      pend := (ear s n).pend && !(ear s n).clrOff, clrOff := false } := by
  intro t
  have earth : t.earth = _ := e63_earth ..
  refine ⟨onlyEvents_of_quiet { s with earth := t.earth } _ ?_, earth.trans (congrArg State.earth (modEarth_meansTaken n s _))⟩
  rw [earth]
  exact quiet_e63 ..

section
variable (due : (ear s n).offRun = true) (idle : (ear s n).tst = 0) (opened : confirmedOpen s n = true)
  (full : 10 ≤ (ear s n).offMeans.length)
include due idle opened full

theorem offset_unbarred :
    ¬ (!(ear s n).offRun || (ear s n).tst != 0 || !confirmedOpen s n || decide ((ear s n).offMeans.length < 10)) = true := by
  simp [due, idle, opened, full]

theorem offsetMeasurement_passes (o : Int) (found : offsetOf (ear s n) (ear s n).offMeans = some o) (small : o.natAbs ≤ 2000) :
    exec (.offsetMeasurement n) s = .next (offsetPass n o (meansTaken n s)) := by
  refine congrArg Host.Outcome.next ((if_neg (offset_unbarred n s due idle opened full)).trans ?_)
  rw [found]
  exact if_neg (by omega)

theorem offsetMeasurement_large (o : Int) (found : offsetOf (ear s n) (ear s n).offMeans = some o) (large : 2000 < o.natAbs) :
    exec (.offsetMeasurement n) s = .next (setSensorFault n o { s with earth := vset s.earth n { ear s n with
      offRun := false, offTry := 0, offMeans := [], offAcc := (0, 0) } }) := by
  refine congrArg Host.Outcome.next ((if_neg (offset_unbarred n s due idle opened full)).trans ?_)
  rw [found]
  refine (if_pos large).trans ?_
  exact congrArg (setSensorFault n o) (modEarth_meansTaken n s _)

section
variable (invalid : offsetOf (ear s n) (ear s n).offMeans = none)
include invalid

theorem offsetMeasurement_third (third : 2 ≤ (ear s n).offTry) : exec (.offsetMeasurement n) s =
    .next (setSensorFault n (meanI (ear s n).offMeans) { s with earth := vset s.earth n { ear s n with
      offRun := false, offTry := 0, offMeans := [], offAcc := (0, 0) } }) := by
  refine congrArg Host.Outcome.next ((if_neg (offset_unbarred n s due idle opened full)).trans ?_)
  rw [invalid]
  refine (if_pos (by omega)).trans ?_
  exact congrArg (setSensorFault n _) (modEarth_meansTaken n s _)

theorem offsetMeasurement_repeats (again : (ear s n).offTry < 2) (free : (anyOp (ear s n) && (ear s n).clrOff) = false) :
    exec (.offsetMeasurement n) s = .next { s with earth := vset s.earth n { ear s n with
      offTry := (ear s n).offTry + 1, offMeans := [], offAcc := (0, 0) } } := by
  refine congrArg Host.Outcome.next ((if_neg (offset_unbarred n s due idle opened full)).trans ?_)
  rw [invalid]
  refine (if_neg (by omega)).trans ((if_neg (by simp [free])).trans ?_)
  exact modEarth_meansTaken n s _

/-- A measurement that would clear the trigger is given up while a detector operates (R221). -/
theorem offsetMeasurement_givesUp (again : (ear s n).offTry < 2) (barred : (anyOp (ear s n) && (ear s n).clrOff) = true) :
    exec (.offsetMeasurement n) s = .next { s with earth := vset s.earth n { ear s n with
      offRun := false, clrOff := false, offTry := (ear s n).offTry + 1, lowSince := none, offMeans := [], offAcc := (0, 0) } } := by
  refine congrArg Host.Outcome.next ((if_neg (offset_unbarred n s due idle opened full)).trans ?_)
  rw [invalid]
  refine (if_neg (by omega)).trans ((if_pos barred).trans ?_)
  exact modEarth_meansTaken n s _

end
end

theorem earthTriggerClear_measures (t0 : Nat) (pend : (ear s n).pend = true) (since : (ear s n).lowSince = some t0)
    (due : t0 + 1000000 ≤ s.clk.mono) (opened : (saf s n).openConf = true) (first : (ear s n).clrOff = false) :
    exec (.earthTriggerClear n) s = .next (modEarth n (fun e => { e with offRun := true, clrOff := true }) s) :=
  congrArg Host.Outcome.next (if_pos (by simp [pend, since, heldFor_some s t0 _ due, opened, first]))

/-! ## The comparison with the computed residual (R211) -/

theorem residualMismatch_unavailable (off : (ear s n).compAvail = false) : exec (.residualMismatch n) s =
    .next { s with earth := vset s.earth n { ear s n with misRun := 0 } } :=
  congrArg Host.Outcome.next (if_pos (by simp [off]))

/-- The RMS of the computed residual over the last period, or over 20 ms (R211). -/
def compRms : Nat := rmsI 0 ((ear s n).comp.take (match trackedPeriod s (n.1 + 1) with | some p => periodSamples p | none => 1250))

theorem residualMismatch_uncompared (avail : (ear s n).compAvail = true) (barred : (saf s n).closed = false ∨ xchkEn (rcdB s n) = false) :
    exec (.residualMismatch n) s = .next { s with earth := vset s.earth n { ear s n with iCalc := compRms n s, misRun := 0 } } :=
  congrArg Host.Outcome.next ((if_neg (by simp [avail])).trans (if_pos (by simpa using barred)))

/-- The run of periods outside the limit, with the period that ends. -/
def mismatchRun : Nat :=
  if decide (max (cmpMin (rcdB s n) * 1000) (largestRms s n * cmpPct (rcdB s n) / 1000) <
    (compRms n s - resRms s n) + (resRms s n - compRms n s)) then (ear s n).misRun + 1 else 0

/-- The state in which a period has been compared. -/
def compared : State := { s with earth := vset s.earth n { ear s n with
  iCalc := compRms n s, misRun := min (cmpN (rcdB s n)) (mismatchRun n s) } }

theorem residualMismatch_compares (avail : (ear s n).compAvail = true) (closed : (saf s n).closed = true) (on : xchkEn (rcdB s n) = true) :
    exec (.residualMismatch n) s = .next (if cmpN (rcdB s n) ≤ mismatchRun n s ∧ (nvp s n).mismatch = false then
      setOos n 4 (e63 n 4 true (compRms n s) 0 (modNvPt n (fun x => { x with mismatch := true }) (compared n s))) else compared n s) := by
  have apart : (if compRms n s < resRms s n then resRms s n - compRms n s else compRms n s - resRms s n) =
      (compRms n s - resRms s n) + (resRms s n - compRms n s) := by
    split
    all_goals omega
  refine congrArg Host.Outcome.next ((if_neg (by simp [avail])).trans ((if_neg (by simp [closed, on])).trans ?_))
  rw [compared, mismatchRun, ← apart]
  simp only [Bool.not_eq_true', decide_eq_true_eq]
  rfl

/-- A mismatch found is kept and takes the point out of service (R211). -/
theorem mismatched_faults (c : Int) :
    (nvp (setOos n 4 (e63 n 4 true c 0 (modNvPt n (fun x => { x with mismatch := true }) s))) n).mismatch = true ∧
    (nvp (setOos n 4 (e63 n 4 true c 0 (modNvPt n (fun x => { x with mismatch := true }) s))) n).oos.getLsbD 4 = true := by
  rw [setOos_nvp]
  simp

/-! ## The test winding (R213, R214, R226) -/

theorem ear_testStart (cmd : Option Flight) : (ear (testStart n cmd s) n).tst = 1 := by simp [testStart, testStep]

theorem testWindingDue_starts (present : hasPoint s n = true) (due : (ear s n).tstDue = true ∨ dailyDue s n = true) (idle : (ear s n).tst = 0)
    (opened : confirmedOpen s n = true) (path : (saf s n).path = 0) (free : (saf s n).reqClose = false ∨ testFresh s n = false)
    (block : (committed s (0x0511 + n.1)).isSome = true) : exec (.testWindingDue n) s = .next (testStart n none
      (modEarth n (fun e => { e with dailyAt := if dailyDue s n then max 1 s.clk.mono else e.dailyAt }) s)) := by
  have asked : ((ear s n).tstDue || dailyDue s n) = true := by simpa using due
  have uncalled : (!(saf s n).reqClose || !testFresh s n) = true := by simpa using free
  exact congrArg Host.Outcome.next (if_pos (by simp [present, asked, idle, opened, path, uncalled, block]))

/-! ### Its steps (R213) -/

theorem all_iff_vget {α : Type} {k : Nat} (v : Vector α k) (p : α → Bool) : v.toList.all p = true ↔ ∀ i : Fin k, p (vget v i) = true := by
  simp only [List.all_eq_true, Vector.mem_toList_iff, Vector.mem_iff_getElem, vget]
  constructor
  · exact fun all i => all _ ⟨i.1, i.2, rfl⟩
  · rintro all x ⟨i, hi, rfl⟩
    exact all ⟨i, hi⟩

section
variable (first : (ear s n).tst = 1) (full : 10 ≤ (ear s n).offMeans.length)
include first full

theorem testWinding_offset (o : Int) (found : offsetMean (ear s n).offMeans = some o) (small : o.natAbs ≤ 2000) :
    exec (.testWindingStepEnd n) s = .next (testStep n 2 (offsetPass n o (meansTaken n s))) := by
  refine congrArg Host.Outcome.next ((if_neg (by omega)).trans ((if_pos first).trans ((if_neg (by omega)).trans ?_)))
  rw [found]
  exact if_neg (by omega)

theorem testWinding_offsetFails (bad : (∃ o, offsetMean (ear s n).offMeans = some o ∧ 2000 < o.natAbs) ∨
    (offsetMean (ear s n).offMeans = none ∧ 2 ≤ (ear s n).offTry)) :
    exec (.testWindingStepEnd n) s = .next (testEnd n 1 (meansTaken n s)) := by
  refine congrArg Host.Outcome.next ((if_neg (by omega)).trans ((if_pos first).trans ((if_neg (by omega)).trans ?_)))
  rcases bad with ⟨o, found, large⟩ | ⟨invalid, third⟩
  · rw [found]
    exact if_pos large
  · rw [invalid]
    exact if_pos (by omega)

theorem testWinding_offsetAgain (invalid : offsetMean (ear s n).offMeans = none) (again : (ear s n).offTry < 2) :
    exec (.testWindingStepEnd n) s = .next (modEarth n (fun x => { x with offTry := x.offTry + 1 }) (meansTaken n s)) := by
  refine congrArg Host.Outcome.next ((if_neg (by omega)).trans ((if_pos first).trans ((if_neg (by omega)).trans ?_)))
  rw [invalid]
  exact if_neg (by omega)

end

/-- The state in which M_DC and M_AC of the steps that measure them are kept (R226). -/
def measured : State := modEarth n (fun x => { x with
  mDc := if (ear s n).tst = 3 then (vget (ear s n).res 0).iDc else x.mDc
  mAc := if (ear s n).tst = 4 then (vget (ear s n).res 0).iAc else x.mAc }) s

theorem testWinding_step (lo : 2 ≤ (ear s n).tst) (due : (ear s n).tstAt + (if (ear s n).tst = 2 then 200000 else 100000) ≤ s.clk.mono) :
    exec (.testWindingStepEnd n) s = .next (
      if ¬ ∀ k : Fin 2, corePasses (ear s n).tst (ear s n).tstAt (vget (ear s n).res k) = true then testEnd n (ear s n).tst (measured n s)
      else if (ear s n).tst = 5 then testEnd n 0 (measured n s)
      else testStep n ((ear s n).tst + 1) (measured n s)) := by
  have waited : elapsed s (ear s n).tstAt (stepTime (ear s n).tst) = true := decide_eq_true due
  refine congrArg Host.Outcome.next ((if_neg (by omega)).trans ((if_neg (by omega)).trans ((if_neg (by simp [waited])).trans ?_)))
  simp only [← all_iff_vget, Bool.not_eq_true', Bool.not_eq_true]
  rfl

/-! ### Its end (R213, R226) -/

/-- The state in which the end of a test is recorded. -/
def testRecorded (fail : Nat) : State :=
  let u := modEarth n (fun e => { e with tst := 0, tstOut := none, tstFailed := fail != 0, tstCmd := none, offRun := false }) s
  e63 n 7 (fail != 0) (ear u n).mDc fail u

@[simp] theorem ear_testRecorded (fail : Nat) : ear (testRecorded n s fail) n = { ear s n with
    tst := 0, tstOut := none, tstFailed := fail != 0, tstCmd := none, offRun := false } := by
  rw [testRecorded, ear_e63, ear_modEarth]

@[simp] theorem testRecorded_port (fail : Nat) : (testRecorded n s fail).port = s.port := e63_port ..
@[simp] theorem testRecorded_clk (fail : Nat) : (testRecorded n s fail).clk = s.clk := e63_clk ..

/-- The state in which a passed test's time is kept. -/
def testPassed : State := modNvPt n (fun x => { x with tTest := now (testRecorded n s 0) }) (testRecorded n s 0)

/-- Clearing a sensor fault and a mismatch raises their events and changes the point's own earth state and latches. -/
theorem clearEarth_eq : ∃ v, quiet v = quiet s ∧ clearEarth n s = clearOos n 0x10
    (modNvPt n (fun x => { x with sensorFault := false, mismatch := false })
      (modEarth n (fun e => { e with misRun := 0, openRun := 0, flatRun := 0, bigSince := none }) v)) := by
  refine ⟨_, ?_, rfl⟩
  repeat' split
  all_goals simp

theorem clearEarth_clears : (nvp (clearEarth n s) n).sensorFault = false ∧ (nvp (clearEarth n s) n).mismatch = false ∧
    (nvp (clearEarth n s) n).tTest = (nvp s n).tTest := by
  obtain ⟨v, same, eq⟩ := clearEarth_eq n s
  rw [eq, clearOos_nvp, nvp_modNvPt, nvp_modEarth, nvp, of_quiet State.nvPt (fun _ => rfl) same]
  exact ⟨rfl, rfl, rfl⟩

theorem clearEarth_ear : (ear (clearEarth n s) n).tst = (ear s n).tst ∧ (ear (clearEarth n s) n).tstFailed = (ear s n).tstFailed := by
  obtain ⟨v, same, eq⟩ := clearEarth_eq n s
  have cleared : ear (clearEarth n s) n = _ := (congrArg (ear · n) eq).trans (ear_modEarth ..)
  rw [cleared, ear, of_quiet State.earth (fun _ => rfl) same]
  exact ⟨rfl, rfl⟩

theorem clearEarth_port : (clearEarth n s).port = s.port := by
  obtain ⟨v, same, eq⟩ := clearEarth_eq n s
  rw [eq]
  exact (of_quiet State.port (fun _ => rfl) same : v.port = s.port)

theorem sendReply_flights (r : Reply) (s : State) : (sendReply r s).port.flights = s.port.flights := by
  unfold sendReply
  split
  all_goals rfl

theorem keepReply_flights (f : Flight) (r : Reply) (s : State) : (keepReply f r s).port.flights = s.port.flights := by
  unfold keepReply
  dsimp only
  split
  all_goals rfl

/-- A command that is answered no longer runs. -/
theorem mem_flights_finish (f g : Flight) (pl : List Byte) (running : g ∈ (finish f pl s).port.flights) :
    g ∈ s.port.flights ∧ g.no ≠ f.no := by
  unfold finish complete at running
  split at running
  next =>
    have dropped : g ∈ (dropFlight f s).port.flights := by
      rw [← keepReply_flights f (mkReply s f.pkt f.opcode stOk pl)]
      dsimp only at running
      split at running
      · exact running
      · rwa [sendReply_flights] at running
    simpa using dropped
  next absent => exact ⟨running, fun same => absent (List.any_eq_true.2 ⟨g, running, by simp [same]⟩)⟩

theorem testEnd_unasked (unasked : (ear s n).tstCmd = none) : testEnd n 0 s = testPassed n s := by
  unfold testEnd
  rw [unasked]
  rfl

theorem testEnd_asked (f : Flight) (asks : (ear s n).tstCmd = some f) : testEnd n 0 s =
    finish f (testReply (ear (clearEarth n (testPassed n s)) n) 0) (clearEarth n (testPassed n s)) := by
  unfold testEnd
  rw [asks]
  rfl

theorem testEnd_passes : (ear (testEnd n 0 s) n).tst = 0 ∧ (ear (testEnd n 0 s) n).tstFailed = false ∧
    (nvp (testEnd n 0 s) n).tTest = s.clk.time ∧ ∀ f, (ear s n).tstCmd = some f →
      (nvp (testEnd n 0 s) n).sensorFault = false ∧ (nvp (testEnd n 0 s) n).mismatch = false ∧
      ∀ g ∈ (testEnd n 0 s).port.flights, g ∈ s.port.flights ∧ g.no ≠ f.no := by
  have time : (nvp (testPassed n s) n).tTest = s.clk.time := by simp [testPassed, now]
  have earth : (ear (testPassed n s) n).tst = 0 ∧ (ear (testPassed n s) n).tstFailed = false := by simp [testPassed]
  cases cmd : (ear s n).tstCmd with
  | none =>
    rw [testEnd_unasked n s cmd]
    exact ⟨earth.1, earth.2, time, fun f asks => nomatch asks⟩
  | some f =>
    obtain ⟨idle, passed⟩ := clearEarth_ear n (testPassed n s)
    obtain ⟨fault, mismatch, kept⟩ := clearEarth_clears n (testPassed n s)
    have port : (clearEarth n (testPassed n s)).port = s.port := (clearEarth_port ..).trans (testRecorded_port n s 0)
    rw [testEnd_asked n s f cmd]
    simp only [ear, nvp, finish, complete_earth, complete_nvPt]
    refine ⟨idle.trans earth.1, passed.trans earth.2, kept.trans time, ?_⟩
    rintro _ ⟨⟩
    refine ⟨fault, mismatch, fun g running => ?_⟩
    rw [← port]
    exact mem_flights_finish _ f g _ running

/-- The state in which a failed test is a sensor fault. -/
def testFaulted (k : Nat) : State := setSensorFault n (vget (ear (testRecorded n s k) n).res 0).iDc (testRecorded n s k)

/-- The state in which an EF_TEST that waits has its answer. -/
def testAnswered (cmd : Option Flight) (fail : Nat) : State :=
  match cmd with
  | some f => finish f (testReply (ear s n) fail) s
  | none => s

theorem testAnswered_keeps (cmd : Option Flight) (fail : Nat) :
    (testAnswered n s cmd fail).earth = s.earth ∧ (testAnswered n s cmd fail).nvPt = s.nvPt := by
  cases cmd with
  | none => exact ⟨rfl, rfl⟩
  | some f => simp [testAnswered, finish]

theorem testEnd_failed (k : Nat) (bad : k ≠ 0) : testEnd n k s = testAnswered n (testFaulted n s k) (ear s n).tstCmd k := by
  unfold testEnd testFaulted testRecorded
  simp only [bad, if_false, false_and]
  rfl

theorem testEnd_fails (k : Nat) (bad : k ≠ 0) : (ear (testEnd n k s) n).tst = 0 ∧ (ear (testEnd n k s) n).tstFailed = true ∧
    (nvp (testEnd n k s) n).sensorFault = true := by
  have faulted : ear (testFaulted n s k) n = _ := (congrArg (vget · n) (setSensorFault_earth ..)).trans (ear_testRecorded n s k)
  obtain ⟨earth, nvPt⟩ := testAnswered_keeps n (testFaulted n s k) (ear s n).tstCmd k
  rw [testEnd_failed n s k bad, nvp, nvPt, ear, earth]
  rw [ear] at faulted
  rw [faulted]
  exact ⟨rfl, by simpa using bad, setSensorFault_sensorFault ..⟩

/-! ## Insulation (R215 to R217) -/

/-- A step that has settled in time counts (R215). -/
theorem insulation_settles (us : Nat) (settled : Bool) (good : settled = true ∧ us ≤ 4 * tStep (isoB s n) * 1000) :
    ¬ (!settled || decide (4 * tStep (isoB s n) * 1000 < us)) = true := by simp [good]

section
variable (step tapP tapN us : Nat) (settled : Bool) (dc : dcPoint s n = true) (block : (committed s (0x0521 + n.1)).isSome = true)
  (waited : tStep (isoB s n) * 1000 ≤ us)
include dc block waited

theorem insulation_unbarred : ¬ (!(dcPoint s n && (committed s (0x0521 + n.1)).isSome && decide (tStep (isoB s n) * 1000 ≤ us))) = true := by
  simp [dc, block, waited]

theorem insulation_noVoltage (low : poleVolt s n tapP + poleVolt s n tapN < 100000) :
    exec (.insulationStepEnd n step tapP tapN us settled) s =
      .next (setIso n 1 { s with earth := vset s.earth n { ear s n with isoV0 := none, isoDrv := false } }) :=
  congrArg Host.Outcome.next ((if_neg (insulation_unbarred n s us dc block waited)).trans (if_pos low))

section
variable (live : 100000 ≤ poleVolt s n tapP + poleVolt s n tapN)
include live

theorem insulation_unsettled (bad : ¬ (settled = true ∧ us ≤ 4 * tStep (isoB s n) * 1000)) :
    exec (.insulationStepEnd n step tapP tapN us settled) s =
      .next { s with earth := vset s.earth n { ear s n with isoV0 := none, isoDrv := false } } := by
  refine congrArg Host.Outcome.next ((if_neg (insulation_unbarred n s us dc block waited)).trans ((if_neg (by omega)).trans (if_pos ?_)))
  cases settled with
  | false => rfl
  | true => simpa using bad

section
variable (good : settled = true ∧ us ≤ 4 * tStep (isoB s n) * 1000)
include good

theorem insulation_unbalances (first : step = 0) : exec (.insulationStepEnd n step tapP tapN us settled) s =
    .next { s with earth := vset s.earth n { ear s n with
      isoV0 := some (poleVolt s n tapP, poleVolt s n tapN), isoAt := s.clk.mono - us, isoDrv := true } } :=
  congrArg Host.Outcome.next ((if_neg (insulation_unbarred n s us dc block waited)).trans
    ((if_neg (by omega)).trans ((if_neg (insulation_settles n s us settled good)).trans (if_pos first))))

theorem insulation_unbegun (second : step = 1) (empty : (ear s n).isoV0 = none) :
    exec (.insulationStepEnd n step tapP tapN us settled) s =
      .next { s with earth := vset s.earth n { ear s n with isoV0 := none, isoDrv := false } } := by
  refine congrArg Host.Outcome.next ((if_neg (insulation_unbarred n s us dc block waited)).trans
    ((if_neg (by omega)).trans ((if_neg (insulation_settles n s us settled good)).trans ((if_neg (by omega)).trans ?_))))
  rw [empty]
  rfl

theorem insulation_cycles (v0 : Nat × Nat) (second : step = 1) (held : (ear s n).isoV0 = some v0) :
    exec (.insulationStepEnd n step tapP tapN us settled) s = .next (isoCycle n v0 (poleVolt s n tapP) (poleVolt s n tapN)
      { s with earth := vset s.earth n { ear s n with isoV0 := none, isoDrv := false } }) := by
  refine congrArg Host.Outcome.next ((if_neg (insulation_unbarred n s us dc block waited)).trans
    ((if_neg (by omega)).trans ((if_neg (insulation_settles n s us settled good)).trans ((if_neg (by omega)).trans ?_))))
  rw [held]
  rfl

end
end
end

/-- The state in which a cycle's values are kept (R216). -/
def isoMeasured (r p q u : Nat) : State :=
  { s with earth := vset s.earth n { ear s n with rIso := r, rIsoP := p, rIsoN := q, uBus := u } }

theorem setIso_hl (st : Nat) (k : Fin 8) : hl (setIso n st s) k = hl s k := setIso_apart n s (hl · k) (fun _ => rfl) st fun _ _ => rfl

/-- Outside the cable check a valid cycle gives its values and its status (R217). -/
theorem isoValid_measures (st r p q u : Nat) (empty : (ear s n).isoV0 = none) (other : (hl s n).dcStep ≠ 3) :
    isoValid n st r p q u s = setIso n st (isoMeasured n s r p q u) := by
  have values : modEarth n (fun e => { e with rIso := r, rIsoP := p, rIsoN := q, uBus := u, isoV0 := none }) s = isoMeasured n s r p q u := by
    rw [isoMeasured, ← empty]
    rfl
  have kept : (hl (setIso n st (isoMeasured n s r p q u)) n).dcStep ≠ 3 := by
    rw [setIso_hl]
    exact other
  rw [isoValid, values]
  exact if_neg fun h => kept h.1

section
variable (v0 : Nat × Nat) (vp vn : Nat) (empty : (ear s n).isoV0 = none)
include empty

/-- A cycle starts from the state that holds no voltages of step 0. -/
theorem isoCycle_emptied : modEarth n (fun e => { e with isoV0 := none }) s = s :=
  modEarth_same n s _ (by rw [← empty])

theorem isoCycle_moved (moved : (v0.1 + v0.2) * 2 < ((v0.1 + v0.2 - (vp + vn)) + (vp + vn - (v0.1 + v0.2))) * 100) :
    isoCycle n v0 vp vn s = s := by
  unfold isoCycle
  rw [isoCycle_emptied n s empty]
  refine if_pos ?_
  split
  all_goals omega

theorem isoCycle_measures (ga gb den : Int)
    (steady : ((v0.1 + v0.2 - (vp + vn)) + (vp + vn - (v0.1 + v0.2))) * 100 ≤ (v0.1 + v0.2) * 2)
    (cond : isoCond (isoB s n) v0.1 v0.2 vp vn = some (ga, gb, den)) (other : (hl s n).dcStep ≠ 3) :
    isoCycle n v0 vp vn s = setIso n (isoStatus (isoB s n) (dcMaxU (hlcB s n)) (ga + gb) den)
      (isoMeasured n s (ohmsOf (ga + gb) den) (ohmsOf ga den) (ohmsOf gb den) (vp + vn)) := by
  unfold isoCycle
  rw [isoCycle_emptied n s empty]
  refine (if_neg ?_).trans ?_
  · split
    all_goals omega
  · dsimp only
    rw [cond]
    exact isoValid_measures n s _ _ _ _ _ empty other

end
end

/-! ## PE continuity (R219) -/

section
variable (us : Nat) (s : State)

theorem peChkPulse_recognised (on : peChkEn (peB s) = true) (long : 1000 ≤ us) (counts : peCounts s = true) :
    ∃ t, exec (.peChkPulse us) s = .next t ∧ t = { s with earthDev := t.earthDev, ev := t.ev, led := t.led, p100 := t.p100 } ∧
      t.earthDev = { s.earthDev with peSeen := true, peMiss := 0, peLoss := false } := by
  let seen := modEd (fun e => { e with peSeen := true, peMiss := 0, peLoss := false }) s
  have earth : (e73 0 false seen).earthDev = seen.earthDev := level_earthDev ..
  refine ⟨e73 0 false seen, congrArg Host.Outcome.next (if_pos (by simp [on, long, counts])), ?_, earth⟩
  refine onlyEvents_of_quiet { s with earthDev := (e73 0 false seen).earthDev } _ ?_
  rw [earth]
  exact quiet_e73 ..

theorem peChkPulse_ignored (bad : us < 1000 ∨ peCounts s = false) : exec (.peChkPulse us) s = .next s := by
  refine congrArg Host.Outcome.next (if_neg ?_)
  rcases bad with short | off
  · simp [short]
  · simp [off]

end

/-! ## EF_COMMIT (R224) -/

/-- What PE supervision and events do not touch, the PE block that takes effect leaves. -/
theorem peApplied_apart {α : Type} (f : State → α) (quiets : ∀ u, f (quiet u) = f u) (blind : ∀ u e, f { u with earthDev := e } = f u)
    (s : State) : f (peApplied s) = f s := by
  have off (which : Nat) (g : EarthDev → EarthDev) (u : State) : f (e73 which false (modEd g u)) = f u :=
    (of_quiet f quiets (quiet_e73 ..)).trans (blind ..)
  unfold peApplied
  dsimp only
  repeat' split
  · rfl
  · exact off ..
  · exact off ..
  · exact (off ..).trans (off ..)

@[simp] theorem recheck_earth (s : State) : (recheck s).earth = s.earth := by
  refine foldl_keeps State.earth _ (fun t n => ?_) _ s
  dsimp only
  split
  · rfl
  · simp [e77]

/-- The offset of a point is invalid and is to be measured (R208). -/
def Remeasures (n : Fin 8) (s : State) : Prop := (ear s n).offOk = false ∧ (ear s n).offRun = true

theorem remeasures_of_earth {n : Fin 8} {s t : State} (same : t.earth = s.earth) (h : Remeasures n s) : Remeasures n t := by
  rw [Remeasures, ear, same]
  exact h

theorem rcdApplied_remeasures (old : List Byte) (n : Fin 8) (s : State)
    (changed : nSec old ≠ nSec (rcdB s n) ∨ rBur old ≠ rBur (rcdB s n)) : Remeasures n (rcdApplied old n s) := by
  have differs : (nSec old == nSec (rcdB s n) && rBur old == rBur (rcdB s n)) = false := by
    rcases changed with h | h
    · simp [h]
    · simp [h]
  simp [Remeasures, rcdApplied, differs]

/-- A measurement demanded stays so when another block takes effect, of the point itself or of another. -/
theorem rcdApplied_keeps_remeasures (old : List Byte) (n k : Fin 8) (s : State) (h : Remeasures n s) : Remeasures n (rcdApplied old k s) := by
  obtain ⟨invalid, due⟩ := h
  by_cases same : n = k
  · subst same
    simp [Remeasures, rcdApplied, invalid, due]
  · have other : ear (rcdApplied old k s) n = ear s n := vget_vmod_other _ _ _ _ same
    rw [Remeasures, other]
    exact ⟨invalid, due⟩

/-- The residual blocks of the points listed take effect, each against the block that was in effect before. -/
def rcdAllApplied (u : State) (l : List (Fin 8)) (s : State) : State := l.foldl (fun t n => rcdApplied (rcdB u n) n t) s

@[simp] theorem offPoint_rcdAllApplied (u : State) (l : List (Fin 8)) (s : State) : offPoint (rcdAllApplied u l s) = offPoint s :=
  foldl_keeps offPoint _ (fun _ _ => offPoint_modEarth ..) l s

theorem rcdAllApplied_remeasures (u : State) (l : List (Fin 8)) (s : State) (n : Fin 8) (mem : n ∈ l)
    (changed : nSec (rcdB u n) ≠ nSec (rcdB s n) ∨ rBur (rcdB u n) ≠ rBur (rcdB s n)) : Remeasures n (rcdAllApplied u l s) := by
  obtain ⟨before, after, rfl⟩ := List.append_of_mem mem
  have later (l : List (Fin 8)) (t : State) (h : Remeasures n t) : Remeasures n (rcdAllApplied u l t) := by
    induction l generalizing t with
    | nil => exact h
    | cons k l ih => exact ih _ (rcdApplied_keeps_remeasures _ n k t h)
  rw [rcdAllApplied, List.foldl_append]
  refine later after _ (rcdApplied_remeasures _ n _ ?_)
  have block : rcdB (before.foldl (fun t n => rcdApplied (rcdB u n) n t) s) n = rcdB s n :=
    of_offPoint (fun t => rcdB t n) (fun _ => rfl) (offPoint_rcdAllApplied u before s)
  rw [block]
  exact changed

/-- The state the blocks taken leave, before the check values are computed again. -/
def efApplied (m : Nat) (cs : List BlkCopy) (u : State) : State :=
  let v := rcdAllApplied u ((List.finRange 8).filter fun n => bit m (n.1 + 1)) (commitCopies cs u)
  if bit m 0 then peApplied v else v

/-- What neither a point's operation nor PE supervision touches, EF_COMMIT leaves as the copies taken set it. -/
theorem efApplied_apart {α : Type} (f : State → α) (points : ∀ u, f (offPoint u) = f u) (quiets : ∀ u, f (quiet u) = f u)
    (blind : ∀ u e, f { u with earthDev := e } = f u) (m : Nat) (cs : List BlkCopy) (u : State) :
    f (recheck (efApplied m cs u)) = f (commitCopies cs u) := by
  have blocks := of_offPoint f points (offPoint_rcdAllApplied u ((List.finRange 8).filter fun n => bit m (n.1 + 1)) (commitCopies cs u))
  rw [of_offPoint f points (offPoint_recheck _), efApplied]
  split
  · rw [peApplied_apart f quiets blind, blocks]
  · exact blocks

theorem efApplied_remeasures (m : Nat) (cs : List BlkCopy) (u : State) (n : Fin 8) (named : bit m (n.1 + 1) = true)
    (changed : nSec (rcdB u n) ≠ nSec (rcdB (commitCopies cs u) n) ∨ rBur (rcdB u n) ≠ rBur (rcdB (commitCopies cs u) n)) :
    Remeasures n (efApplied m cs u) := by
  have blocks := rcdAllApplied_remeasures u ((List.finRange 8).filter fun n => bit m (n.1 + 1)) (commitCopies cs u) n
    (by simp [named]) changed
  rw [efApplied]
  split
  · exact remeasures_of_earth (peApplied_apart State.earth (fun _ => rfl) (fun _ _ => rfl) _) blocks
  · exact blocks

theorem efCommit_applies (p : Pkt) (s : State) (m : Nat) (cs : List BlkCopy) (ht : taken 0x0510 p s = true) (hl : p.payload.length = 4)
    (hm : u16 0 p.payload = m) (reserved : rsv 2 2 p.payload = true) (pos : 0 < m) (small : m < 2 ^ 13) :
    let u := begun 0x0510 p s
    (∀ n ∈ efPoints m, hasPoint u n = true) → Takes u (efIds m) cs → (∀ n ∈ efPoints m, contactorShut u n = false) →
    (bit m 0 = true → ∀ n, hasPoint u n = true → contactorShut u n = false) → ∃ t, exec (.efCommit p) s = .next t ∧
      t = finish (flightOf 0x0510 p s) (le 8 s.clk.time) (recheck (efApplied m cs u)) ∧
      (∀ c, cs = [c] → committedCopy t c.id = some { c with tCommit := s.clk.time, bstate := 1 }) ∧
      (∀ n : Fin 8, bit m (n.1 + 1) = true → nSec (rcdB u n) ≠ nSec (rcdB t n) ∨ rBur (rcdB u n) ≠ rBur (rcdB t n) → Remeasures n t) := by
  intro u present takes opened allOpen
  let w := recheck (efApplied m cs u)
  have clock : w.clk = s.clk := by
    have kept := efApplied_apart State.clk (fun _ => rfl) (fun _ => rfl) (fun _ _ => rfl) m cs u
    rw [commitCopies_only] at kept
    exact kept.trans (begun_clk 0x0510 p s)
  have named : (!(m == 0) && decide (m < 2 ^ 13) && rsv 2 2 p.payload && (efPoints m).all (hasPoint u)) = true := by
    rw [reserved, List.all_eq_true.2 present, decide_eq_true small]
    simpa using pos.ne'
  have free : (!(efPoints m).any (contactorShut u) && !(bit m 0 && (points u).any (contactorShut u))) = true := by
    have points : (efPoints m).any (contactorShut u) = false := by simpa using opened
    cases pe : bit m 0 with
    | false => simp [points]
    | true => simpa [points, Machine.points] using fun n _ has => allOpen pe n has
  have fixed {α : Type} (f : State → α) (hf : ∀ x, f (offPort x) = f x) : f (finish (flightOf 0x0510 p s) (le 8 s.clk.time) w) = f w :=
    of_offPort f hf (offPort_finish _ _ _)
  refine ⟨_, congrArg Host.Outcome.next (command_done _ _ p s w _ ht ?_), rfl, ?_, fun n bitOf changed => ?_⟩
  · rw [sized_eq _ _ _ _ hl, ← clock]
    unfold efCommitBody
    simp only [flightOf_pkt, hm]
    rw [need_pos named, takeStored_of_takes _ _ _ _ takes, need_pos free]
    rfl
  · rintro c rfl
    have kept := efApplied_apart (committedCopy · c.id) (fun _ => rfl) (fun _ => rfl) (fun _ _ => rfl) m [c] u
    rw [fixed (committedCopy · c.id) fun _ => rfl, kept, committedCopy_commitCopies]
    simp [now, u]
  · rw [fixed (rcdB · n) fun _ => rfl, efApplied_apart (rcdB · n) (fun _ => rfl) (fun _ => rfl) (fun _ _ => rfl)] at changed
    exact remeasures_of_earth ((fixed State.earth fun _ => rfl).trans (recheck_earth _)) (efApplied_remeasures m cs u n bitOf changed)

/-! ## EF_STATUS and EF_TEST (R225, R226) -/

section
variable (p : Pkt) (s : State) (n : Fin 8) (hp : p.payload = [BitVec.ofNat 8 (n.1 + 1), 0, 0, 0]) (present : hasPoint s n = true)
include hp present

theorem efStatus_answers (ht : taken 0x0511 p s = true) :
    let u := begun 0x0511 p s
    let e := ear u n
    let d := vget e.res 0
    exec (.efStatus p) s = .next (finish (flightOf 0x0511 p s) (le 8 s.clk.time ++ le 1 (n.1 + 1) ++ le 1 (if dcPoint u n then e.iso else 0) ++
      le 1 (peStatus u) ++ [0] ++ le 4 (rflags u n) ++ leInt 4 e.offset ++ leInt 4 d.iDc ++ le 4 d.iAc ++ le 4 d.iWb ++ le 4 e.iCalc ++
      le 4 e.rIso ++ le 4 e.rIsoP ++ le 4 e.rIsoN ++ le 4 e.uBus ++ le 4 u.earthDev.uNpe ++ le 8 (nvp u n).tTest) u) := by
  intro u e d
  have point : u8 0 p.payload = n.1 + 1 := by rw [hp]; exact u8_pno n _
  have reserved : rsv 1 3 p.payload = true := by rw [hp]; rfl
  have clock : s.clk.time = now u := by simp [now, u]
  rw [clock]
  refine congrArg Host.Outcome.next (command_done _ _ p s _ _ ht ?_)
  rw [sized_eq _ _ _ _ (by simp [hp])]
  unfold efStatusBody
  simp only [flightOf_pkt, pointOf_begun 0x0511 p s n _ present point, reserved, need_true]
  rfl

theorem efTest_starts (ht : taken 0x0512 p s = true) (opened : confirmedOpen (begun 0x0512 p s) n = true)
    (idle : (ear (begun 0x0512 p s) n).tst = 0) :
    exec (.efTest p) s = .next (testStart n (some (flightOf 0x0512 p s)) (begun 0x0512 p s)) := by
  have point : u8 0 p.payload = n.1 + 1 := by rw [hp]; exact u8_pno n _
  have reserved : rsv 1 3 p.payload = true := by rw [hp]; rfl
  refine congrArg Host.Outcome.next (command_wait _ _ p s _ ht ?_)
  rw [sized_eq _ _ _ _ (by simp [hp])]
  unfold efTestBody
  simp only [flightOf_pkt, pointOf_begun 0x0512 p s n _ present point, reserved, need_true]
  exact need_pos (by simp [opened, idle]) _ _

end
end Sys2Proof.Laws

namespace Sys2Proof.Proofs

open Sys2Proof Sys2Proof.Machine Sys2Proof.Laws

/-- Settles O26: each clause is the rule of its command or row; what ends a session, raises an event or answers a command leaves the
earth state and the latches it speaks of. -/
theorem earthCompletes : Obligations.EarthCompletes := by
  refine ⟨efCommit_applies, fun p s n ht hp present => efStatus_answers p s n hp present ht, fun p s n ht hp present => ?_,
    fun n s due idle opened full => ?_, offsetOf_eq_some,
    fun n v s first => ⟨_, rfl, setSensorFault_sensorFault n s v, setSensorFault_oos n s v first⟩, fun n s => ?_, fun n s => ?_,
    fun n s => ⟨_, rfl, testEnd_passes n s⟩, fun n k s bad => ⟨_, rfl, testEnd_fails n s k bad⟩, testWindingDue_starts,
    fun n t0 s => earthTriggerClear_measures n s t0, fun n step tapP tapN us settled s dc block waited _ => ?_,
    fun n v0 vp vn s ga gb den empty => ⟨isoCycle_moved n s v0 vp vn empty, isoCycle_measures n s v0 vp vn empty ga gb den⟩,
    fun us s on => ⟨peChkPulse_recognised us s on, peChkPulse_ignored us s⟩⟩
  case refine_1 => exact fun opened idle => ⟨efTest_starts p s n hp present ht opened idle, ear_testStart n _ _⟩
  case refine_2 =>
    exact ⟨fun o found small => ⟨_, offsetMeasurement_passes n s due idle opened full o found small, offsetPass_meansTaken n s o⟩,
      offsetMeasurement_large n s due idle opened full, offsetMeasurement_third n s due idle opened full,
      offsetMeasurement_repeats n s due idle opened full, offsetMeasurement_givesUp n s due idle opened full⟩
  case refine_3 =>
    refine ⟨residualMismatch_unavailable n s, residualMismatch_uncompared n s, fun avail closed on => ?_⟩
    have compares := residualMismatch_compares n s avail closed on
    refine ⟨fun full first => ⟨_, compares.trans (congrArg Host.Outcome.next (if_pos ⟨full, first⟩)), rfl, mismatched_faults ..⟩,
      fun bad => compares.trans (congrArg Host.Outcome.next (if_neg ?_))⟩
    rintro ⟨full, first⟩
    rcases bad with few | known
    · exact absurd full (Nat.not_le.2 few)
    · simp [known] at first
  case refine_4 =>
    refine ⟨fun first full => ⟨fun o found small => ⟨testWinding_offset n s first full o found small,
        congrArg Earth.offset (ear_offsetPass ..)⟩, testWinding_offsetFails n s first full, testWinding_offsetAgain n s first full⟩,
      fun lo _ due => ?_⟩
    have ends := testWinding_step n s lo due
    exact ⟨fun passes more => ends.trans (congrArg Host.Outcome.next ((if_neg (not_not_intro passes)).trans (if_neg more))),
      fun passes last => ends.trans (congrArg Host.Outcome.next ((if_neg (not_not_intro passes)).trans (if_pos last))),
      fun fails => ends.trans (congrArg Host.Outcome.next (if_pos fails))⟩
  case refine_5 =>
    exact ⟨insulation_noVoltage n s step tapP tapN us settled dc block waited,
      insulation_unsettled n s step tapP tapN us settled dc block waited,
      insulation_unbalances n s step tapP tapN us settled dc block waited,
      insulation_unbegun n s step tapP tapN us settled dc block waited,
      fun v0 live good => insulation_cycles n s step tapP tapN us settled dc block waited live good v0⟩

end Sys2Proof.Proofs

namespace Sys2Proof.Laws

open Sys2Proof Sys2Proof.Machine

/-! ## The safety state of a point (R233 to R242)

What ends a session or opens a contactor changes the safety state of its own point alone, and of that only what an opening sets. -/

theorem saf_of_safe {s t : State} (same : t.safe = s.safe) (n : Fin 8) : saf t n = saf s n := by rw [saf, same, saf]

section
variable (n : Fin 8) (s : State)

@[simp] theorem saf_modSafe (f : Safe → Safe) : saf (modSafe n f s) n = f (saf s n) := vget_vmod_same ..

theorem saf_modSafe_other (f : Safe → Safe) (k : Fin 8) (other : k ≠ n) : saf (modSafe n f s) k = saf s k :=
  vget_vmod_other _ _ _ _ other

/-! ### What leaves every safety state -/

@[simp] theorem weldPhase_safe : (weldPhase n s).safe = s.safe := (weldPhase_keeps n s).1
@[simp] theorem closeValues_safe (r : EndReason) (flags : Nat) : (closeValues n r flags s).safe = s.safe := (closeValues_closes ..).1

@[simp] theorem tryClose_safe (flags : Nat) : (tryClose n flags s).safe = s.safe := by
  unfold tryClose
  split
  · split
    · simp
    · rfl
  · rfl

@[simp] theorem closeWarm_safe : (closeWarm n s).safe = s.safe := by
  unfold closeWarm
  split
  · simp
  · rfl

@[simp] theorem leaveDc_safe : (leaveDc n s).safe = s.safe := by
  obtain ⟨h, eq⟩ := leaveDc_eq n s
  rw [eq]

@[simp] theorem e74_safe (causes : BitVec 32) (src : Nat) : (e74 n causes src s).safe = s.safe := pulse_safe ..
@[simp] theorem e76_safe (step : Nat) (on : Bool) : (e76 n step on s).safe = s.safe := level_safe ..
@[simp] theorem noteTrip_safe (causes : BitVec 32) : (noteTrip n causes s).safe = s.safe := e74_safe ..
@[simp] theorem saf_level (ev key : Nat) (on : Bool) (p : List Byte) : saf (level ev key on p s) n = saf s n := saf_of_safe (level_safe ..) n
@[simp] theorem saf_noteTrip (causes : BitVec 32) : saf (noteTrip n causes s) n = saf s n := saf_of_safe (noteTrip_safe ..) n
@[simp] theorem saf_modNvPt (f : NvPoint → NvPoint) : saf (modNvPt n f s) n = saf s n := rfl
@[simp] theorem clearOos_safe (m : Nat) : (clearOos n m s).safe = s.safe := rfl
@[simp] theorem resetTrip_safe (src : Nat) : (resetTrip n src s).safe = s.safe := e74_safe ..
@[simp] theorem safResetPoint_safe : (safResetPoint n s).safe = s.safe := by
  unfold safResetPoint
  dsimp only
  split
  · exact resetTrip_safe ..
  · rfl

/-- The reply of SAF_RESET leaves all but the port and the command that waited (R249). -/
theorem resetReply_apart {α : Type} (f : State → α) (ports : ∀ u, f (offPort u) = f u)
    (blind : ∀ u c m, f { u with safeDev.resetCmd := c, safeDev.resetMask := m } = f u) : f (resetReply s) = f s := by
  unfold resetReply finish
  split
  · rfl
  · dsimp only
    split
    · rfl
    · split
      all_goals exact (of_offPort f ports (offPort_complete ..)).trans (blind ..)

@[simp] theorem resetReply_safe : (resetReply s).safe = s.safe := resetReply_apart s State.safe (fun _ => rfl) fun _ _ _ => rfl

@[simp] theorem dropCut_saf : saf (dropCut n s) n = { saf s n with
    cutDropAt := if (saf s n).cut then some ((saf s n).cutDropAt.getD (s.clk.mono + 1000)) else none } := saf_modSafe ..

/-! ### What opens a contactor -/

/-- A coil that is off with no path test running is left as it is. -/
theorem openCoil_idle (coil : (saf s n).coil = false) (path : (saf s n).path = 0) : openCoil n s = s :=
  if_pos (by simp [coil, path])

/-- After an opening neither the coil is on nor a path test runs. -/
theorem openCoil_path : (saf (openCoil n s) n).path = 0 := by
  unfold openCoil
  dsimp only
  split
  · simp_all
  · simp

/-- An opening changes switch channels and safety states alone. -/
theorem openCoil_only : openCoil n s = { s with safe := (openCoil n s).safe, sw := (openCoil n s).sw } := by
  unfold openCoil chanOff modChan
  dsimp only
  repeat' split
  all_goals rfl

end

/-- What an opening leaves of a point's safety state. -/
def unopened (x : Safe) : Safe :=
  { x with coil := false, path := 0, pathOnly := false, coilOffAt := none, dcVolt := false, lsvSeen := false, reqClose := false }

/-- The safety states without what an opening sets. -/
def standing (s : State) : Vector Safe 8 := s.safe.map unopened

theorem standing_of_safe {s t : State} (same : t.safe = s.safe) : standing t = standing s := congrArg (Vector.map unopened) same

theorem saf_of_standing {α : Type} (f : Safe → α) (blind : ∀ x, f (unopened x) = f x) {s t : State} (same : standing t = standing s)
    (n : Fin 8) : f (saf t n) = f (saf s n) := by
  have all := congrArg (fun v => f (vget v n)) same
  simp only [standing, vget_map, blind] at all
  exact all

section
variable (n : Fin 8) (s : State)

theorem standing_modSafe (f : Safe → Safe) (blind : ∀ x, unopened (f x) = unopened x) : standing (modSafe n f s) = standing s :=
  map_vmod unopened f blind _ n

@[simp] theorem standing_openCoil : standing (openCoil n s) = standing s := by
  unfold openCoil
  dsimp only
  split
  · rfl
  · rw [standing_modSafe]
    · split
      all_goals rfl
    · exact fun _ => rfl

@[simp] theorem standing_markEnd (r : EndReason) : standing (markEnd n r s) = standing s := by
  unfold markEnd
  split
  · exact (standing_of_safe (setPhase_safe ..)).trans (standing_modSafe n _ _ fun _ => rfl)
  · rfl

@[simp] theorem standing_endNow (r : EndReason) : standing (endNow n r s) = standing s := by
  unfold endNow
  split
  · exact (standing_of_safe (t := tryClose ..) (s := openCoil n (markEnd n r s)) (by simp)).trans (by simp)
  · rfl

@[simp] theorem standing_endSoft (r : EndReason) : standing (endSoft n r s) = standing s := by
  unfold endSoft
  split
  · exact standing_markEnd n s r
  · simp

@[simp] theorem standing_setOos (i : Nat) : standing (setOos n i s) = standing s := by
  unfold setOos
  dsimp only
  split
  · exact standing_endSoft ..
  · rfl

end

/-! ### A contactor that is open stays open -/

section
variable (n : Fin 8) (s : State)

/-- The coil is off and no path test runs. -/
def Idle (n : Fin 8) (s : State) : Prop := (saf s n).coil = false ∧ (saf s n).path = 0

theorem idle_openCoil : Idle n (openCoil n s) := ⟨openCoil_coil n s, openCoil_path n s⟩

theorem idle_of_gates {s t : State} (same : gates t = gates s) (idle : Idle n s) : Idle n t := by
  have all := congrArg (fun g => vget g.path n) same
  simp only [gates, vget_map, pathOf, Prod.mk.injEq] at all
  obtain ⟨coil, -, path⟩ := all
  exact ⟨coil.trans idle.1, path.trans idle.2⟩

theorem idle_endNow (r : EndReason) (idle : Idle n s) : Idle n (endNow n r s) := by
  unfold endNow
  split
  · exact idle_of_gates n (s := openCoil n (markEnd n r s)) (by simp) (idle_openCoil ..)
  · exact idle

theorem idle_setOos (i : Nat) (idle : Idle n s) : Idle n (setOos n i s) := by
  unfold setOos endSoft
  dsimp only
  repeat' split
  · exact idle_of_gates n (by simp) idle
  · exact idle_endNow n _ _ idle
  · exact idle

theorem idle_tripPoint (causes latch : BitVec 32) : Idle n (tripPoint n causes latch s) :=
  idle_endNow n _ _ (idle_of_gates n (gates_dropCut n _) (idle_openCoil n _))

theorem openCoil_reqClose (none : (saf s n).reqClose = false) : (saf (openCoil n s) n).reqClose = false := by
  unfold openCoil
  dsimp only
  split
  · exact none
  · rw [saf_modSafe]
    refine Eq.trans ?_ none
    split
    all_goals rfl

/-- Once no closing is asked for, the end of a session asks for none. -/
theorem endNow_reqClose (r : EndReason) (none : (saf s n).reqClose = false) : (saf (endNow n r s) n).reqClose = false := by
  have marked : (saf (markEnd n r s) n).reqClose = false := by
    unfold markEnd
    split
    · simp [saf, modSafe]
    · exact none
  unfold endNow
  split
  · rw [saf_of_safe (s := openCoil n (markEnd n r s)) (by simp)]
    exact openCoil_reqClose n _ marked
  · exact none

end
end Sys2Proof.Laws

namespace Sys2Proof.Laws

open Sys2Proof Sys2Proof.Machine

/-! ## Trips (R234, R237, R238) -/

section
variable (n : Fin 8) (s : State) (causes latch : BitVec 32)

/-- A trip comes within 100 µs of the point's last one: both are one trip (R238). -/
def sameTrip : Bool := (saf s n).tripAt.any fun t => decide (s.clk.mono < t + 100)

/-- A trip ends the session after the paths have dropped; before that it changes neither SAFE_CUTn nor the clock (R234, R238). -/
theorem tripPoint_eq : ∃ u, tripPoint n causes latch s = endNow n .safetyTrip (dropCut n (openCoil n u)) ∧ u.clk = s.clk ∧
    (saf u n).reqClose = false ∧ (saf u n).cut = (saf s n).cut ∧ (saf u n).cutDropAt = (saf s n).cutDropAt := by
  refine ⟨_, rfl, ?_⟩
  have left (u : State) : (leaveDc n u).clk = u.clk := by
    obtain ⟨h, eq⟩ := leaveDc_eq n u
    rw [eq]
  split
  · simp [left, saf]
  · simp [left, saf, e74]

theorem tripPoint_nvp_trip : (nvp (tripPoint n causes latch s) n).trip =
    if sameTrip n s then (nvp s n).trip ||| causes else causes := by
  cases same : sameTrip n s with
  | true => simp [tripPoint, dropCut, nvp, show (saf s n).tripAt.any (fun t => decide (s.clk.mono < t + 100)) = true from same]
  | false => simp [tripPoint, dropCut, nvp, show (saf s n).tripAt.any (fun t => decide (s.clk.mono < t + 100)) = false from same]

theorem tripPoint_nvp_await : (nvp (tripPoint n causes latch s) n).await = (nvp s n).await ||| latch := by
  unfold tripPoint
  dsimp only
  split
  all_goals simp [dropCut, nvp]

theorem tripPoint_reqClose : (saf (tripPoint n causes latch s) n).reqClose = false := by
  obtain ⟨u, eq, -, none, -⟩ := tripPoint_eq n s causes latch
  have opened : (saf (openCoil n u) n).reqClose = false := openCoil_reqClose n u none
  rw [eq]
  exact endNow_reqClose n _ _ (by simpa using opened)

/-- SAFE_CUTn that is high falls due to go low 1 ms after the trip (R234). -/
theorem tripPoint_cutDropAt (high : (saf s n).cut = true) (first : (saf s n).cutDropAt = none) :
    (saf (tripPoint n causes latch s) n).cutDropAt = some (s.clk.mono + 1000) := by
  obtain ⟨u, eq, clk, -, cut, at0⟩ := tripPoint_eq n s causes latch
  have cut' : (saf (openCoil n u) n).cut = true := (saf_of_standing Safe.cut (fun _ => rfl) (standing_openCoil n u) n).trans (cut.trans high)
  have at0' : (saf (openCoil n u) n).cutDropAt = none :=
    (saf_of_standing Safe.cutDropAt (fun _ => rfl) (standing_openCoil n u) n).trans (at0.trans first)
  have clk' : (openCoil n u).clk = s.clk := by rw [openCoil_only, clk]
  rw [eq, saf_of_standing Safe.cutDropAt (fun _ => rfl) (standing_endNow n _ _), dropCut_saf, cut', at0', clk']
  rfl

end

theorem or_and_right_self (a b : BitVec 32) : (a ||| b) &&& b = b := by
  ext i
  simpa using fun h => Or.inr h

/-- TRIP_CONFIRMED (R237, R238): the causes decided are recorded and, but for insulation, await a reset; both paths drop. -/
theorem tripConfirmed_trips (n : Fin 8) (s : State) (up : pairUp s = true) (present : hasPoint s n = true) (found : decided s n ≠ 0) :
    ∃ t, exec (.tripConfirmed n) s = .next t ∧
    (nvp t n).trip &&& decided s n = decided s n ∧ ((saf s n).tripAt = none → (nvp t n).trip = decided s n) ∧
    (nvp t n).await = (nvp s n).await ||| (decided s n &&& ~~~(cause 8)) ∧ (saf t n).coil = false ∧
    (saf t n).reqClose = false ∧ ((saf s n).cut = true → (saf s n).cutDropAt = none → (saf t n).cutDropAt = some (s.clk.mono + 1000)) := by
  let res := decided s n &&& 0xF != 0
  let u := modEarth n (fun e => { e with pend := e.pend || res, clrOff := if res then false else e.clrOff })
    (modSafe n (fun x => { x with acted := x.acted ||| decided s n }) s)
  have trips : exec (.tripConfirmed n) s = .next (tripPoint n (decided s n) (decided s n &&& ~~~(cause 8)) u) :=
    congrArg Host.Outcome.next (if_neg (by simpa [up, present] using found))
  have safe : saf u n = { saf s n with acted := (saf s n).acted ||| decided s n } := saf_modSafe ..
  have trip := tripPoint_nvp_trip n u (decided s n) (decided s n &&& ~~~(cause 8))
  refine ⟨_, trips, ?_, fun first => ?_, tripPoint_nvp_await .., tripPoint_coil .., tripPoint_reqClose .., fun high first => ?_⟩
  · rw [trip]
    split
    · exact or_and_right_self ..
    · exact BitVec.and_self
  · rw [trip, if_neg]
    simp [sameTrip, safe, first]
  · exact tripPoint_cutDropAt n u _ _ (by simp [safe, high]) (by simp [safe, first])

/-- SAFE_CUT_DROP (R234). -/
theorem safeCutDrop_drops (n : Fin 8) (t0 : Nat) (s : State) (due : (saf s n).cutDropAt = some t0) (reached : t0 ≤ s.clk.mono) :
    exec (.safeCutDrop n) s = .next { s with safe := vset s.safe n { saf s n with cut := false, cutDropAt := none } } := by
  show execSafeCutDrop n s = _
  rw [execSafeCutDrop, due]
  exact congrArg Host.Outcome.next (if_pos reached)

/-- CLOSING_TIMEOUT (R241): a closing not confirmed within WELD_T of step 3 trips the point. -/
theorem closingTimeout_trips (n : Fin 8) (s : State) (up : pairUp s = true) (third : (saf s n).path = 3)
    (due : (saf s n).pathAt + weldT (spB s n) ≤ s.clk.mono) :
    exec (.closingTimeout n) s = .next (tripPoint n (cause 10) (cause 10) (pulse 75 (prm75 s n) s)) ∧
    ∃ t, exec (.closingTimeout n) s = .next t ∧ (nvp t n).trip.getLsbD 10 = true ∧ (saf t n).coil = false ∧ (saf t n).path = 0 := by
  have trips : exec (.closingTimeout n) s = .next (tripPoint n (cause 10) (cause 10) (pulse 75 (prm75 s n) s)) :=
    congrArg Host.Outcome.next (if_pos (by simp [third, elapsed, due, up]))
  obtain ⟨old, trip⟩ := tripPoint_trip n (pulse 75 (prm75 s n) s) (cause 10) (cause 10)
  obtain ⟨coil, path⟩ := idle_tripPoint n (pulse 75 (prm75 s n) s) (cause 10) (cause 10)
  exact ⟨trips, _, trips, by rw [trip]; simp [cause], coil, path⟩

/-! ## The path test (R233, R236, R249) -/

section
variable (n : Fin 8) (s : State)

/-- A step of the path test changes safety states and the coil channel alone. -/
theorem coilStep_only : coilStep n s = { s with safe := (coilStep n s).safe, sw := (coilStep n s).sw } := by
  unfold coilStep
  split
  all_goals rfl

theorem coilOn_only : coilOn n s = { s with safe := (coilOn n s).safe, sw := (coilOn n s).sw } := by
  unfold coilOn
  split
  all_goals rfl

theorem saf_coilStep : saf (coilStep n s) n = { saf s n with coil := false } := by
  rw [coilStep, saf_modSafe]
  split
  all_goals rfl

theorem saf_coilOn : saf (coilOn n s) n = { saf s n with coil := true, coilRef := s.clk.mono } := by
  rw [coilOn, saf_modSafe]
  split
  all_goals rfl

theorem saf_cutHigh : saf (cutHigh n s) n = { saf s n with cut := true, cutRef := s.clk.mono, cutDropAt := none } := saf_modSafe ..
theorem saf_cutLow : saf (cutLow n s) n = { saf s n with cut := false, cutDropAt := none } := saf_modSafe ..
theorem saf_pathStep (k : Nat) : saf (pathStep n k s) n =
    { saf s n with path := k, pathAt := s.clk.mono, pathBad := false, lsvSeen := false } := saf_modSafe ..

/-- Step 2 (R236): SAFE_CUTn low, the coil channel on. -/
theorem path2_sets : (saf (path2 n s) n).path = 2 ∧ (saf (path2 n s) n).cut = false ∧ (saf (path2 n s) n).coil = true := by
  simp [path2, saf_coilOn, saf_cutLow, saf_pathStep]

/-- Step 3 (R236): both on. -/
theorem path3_sets : (saf (path3 n s) n).path = 3 ∧ (saf (path3 n s) n).cut = true ∧ (saf (path3 n s) n).coil = true := by
  simp [path3, saf_coilOn, saf_cutHigh, saf_coilStep, saf_pathStep]

theorem path2_only : path2 n s = { s with safe := (path2 n s).safe, sw := (path2 n s).sw } := by
  rw [path2, coilOn_only]
  rfl

theorem path3_only : path3 n s = { s with safe := (path3 n s).safe, sw := (path3 n s).sw } := by
  have steps := coilOn_only n (cutHigh n (coilStep n (pathStep n 3 s)))
  have low := coilStep_only n (pathStep n 3 s)
  rw [path3, steps, low]
  rfl

/-- A path test goes on while SAF_RESET asked for it, or the closing it belongs to is still asked for and permitted (R236; log entry 1007). -/
def PathGoes : Prop := (saf s n).pathOnly = true ∨ ((saf s n).reqClose = true ∧ holdBits s n = 0)

theorem pathStops_iff : (!(saf s n).pathOnly && (!(saf s n).reqClose || holdBits s n != 0)) = true ↔ ¬ PathGoes n s := by
  simp [PathGoes]
  grind

end

/-! ### What a reset of a trip leaves (R239, R249) -/

section
variable (n : Fin 8) (s : State)

theorem resetTrip_nvp (src : Nat) : ∃ at_, nvp (resetTrip n src s) n =
    { nvp s n with tripped := false, await := 0, latch4 := false, autoAt := at_ } :=
  ⟨_, by rw [resetTrip, e74, nvp, pulse_nvPt]; exact nvp_modNvPt ..⟩

@[simp] theorem resetReply_nvPt : (resetReply s).nvPt = s.nvPt := resetReply_apart s State.nvPt (fun _ => rfl) fun _ _ _ => rfl

/-- A point SAF_RESET resets keeps what a reset of its trip does not concern. -/
theorem safResetPoint_nvp {α : Type} (f : NvPoint → α)
    (blind : ∀ x l, f { x with tripped := false, await := 0, latch4 := false, autoAt := l } = f x) :
    f (nvp (safResetPoint n s) n) = f (nvp s n) := by
  obtain ⟨at_, reset⟩ := resetTrip_nvp n s 1
  unfold safResetPoint
  dsimp only
  split
  · show f (nvp (resetTrip n 1 s) n) = _
    rw [reset, blind]
  · rfl

/-! ### The ends of a path test (R236, R249) -/

/-- The state in which a passed test has both paths off and its latches clear. -/
def pathPassed : State :=
  clearOos n 8 (modNvPt n (fun x => { x with pathFail := false, cutFault := false })
    (cutLow n (coilStep n (modSafe n (fun x => { x with path := 0, pathOnly := false, cutBad := 0 }) s))))

theorem pathCleared_eq : pathCleared n s = resetReply (safResetPoint n (e76 n 4 false (e76 n 1 false (pathPassed n s)))) := rfl

/-- A test of SAF_RESET that passes clears PATH_FAIL and CUT_FAULT, with their bit in the mask of points out of service (R249). -/
theorem pathCleared_clears : (nvp (pathCleared n s) n).pathFail = false ∧ (nvp (pathCleared n s) n).cutFault = false ∧
    (nvp (pathCleared n s) n).oos.getLsbD 3 = false ∧ PathsOff (pathCleared n s) n := by
  have latch {α : Type} (f : NvPoint → α) (blind : ∀ x l, f { x with tripped := false, await := 0, latch4 := false, autoAt := l } = f x) :
      f (nvp (pathCleared n s) n) = f (nvp (pathPassed n s) n) := by
    rw [pathCleared_eq, nvp, resetReply_nvPt, ← nvp, safResetPoint_nvp n _ f blind, nvp, e76, level_nvPt, e76, level_nvPt]
    rfl
  have safe : saf (pathCleared n s) n = saf (pathPassed n s) n := saf_of_safe (by rw [pathCleared_eq]; simp) n
  have off : saf (pathPassed n s) n =
      { saf s n with coil := false, cut := false, cutDropAt := none, path := 0, pathOnly := false, cutBad := 0 } := by
    rw [pathPassed, saf_of_safe (clearOos_safe ..), saf_of_safe (modNvPt_safe ..), saf_cutLow, saf_coilStep, saf_modSafe]
  refine ⟨?_, ?_, ?_, ?_⟩
  · rw [latch NvPoint.pathFail fun _ _ => rfl, pathPassed, clearOos_nvp, nvp_modNvPt]
  · rw [latch NvPoint.cutFault fun _ _ => rfl, pathPassed, clearOos_nvp, nvp_modNvPt]
  · rw [latch NvPoint.oos fun _ _ => rfl, pathPassed, clearOos_nvp]
    simp
  · rw [PathsOff, safe, off]
    exact ⟨rfl, rfl, rfl⟩

/-- A point put out of service with both paths off has them off still. -/
theorem setOos_pathsOff (i : Nat) (off : PathsOff s n) : PathsOff (setOos n i s) n := by
  obtain ⟨coil, cut, path⟩ := off
  obtain ⟨coil', path'⟩ := idle_setOos n s i ⟨coil, path⟩
  exact ⟨coil', (saf_of_standing Safe.cut (fun _ => rfl) (standing_setOos ..) n).trans cut, path'⟩

theorem cutLow_pathsOff (idle : Idle n s) : PathsOff (cutLow n s) n := by
  rw [PathsOff, saf_cutLow]
  exact ⟨idle.1, rfl, idle.2⟩

theorem pathsOff_of_safe {s t : State} (same : t.safe = s.safe) (off : PathsOff s n) : PathsOff t n := by
  rw [PathsOff, saf_of_safe same]
  exact off

/-- A test in which coil current flowed sets PATH_FAIL and takes the point out of service, with both paths off (R236). -/
theorem pathFailed_fails (step : Nat) : (nvp (pathFailed n step s) n).pathFail = true ∧ (nvp (pathFailed n step s) n).oos.getLsbD 3 = true ∧
    PathsOff (pathFailed n step s) n := by
  let u := noteTrip n (cause 11) (e76 n step true (modNvPt n (fun x => { x with pathFail := true }) (cutLow n (openCoil n s))))
  have fails : pathFailed n step s = resetReply (setOos n 3 u) := rfl
  have latch : nvp (pathFailed n step s) n = nvp (setOos n 3 u) n := by rw [fails, nvp, resetReply_nvPt, ← nvp]
  have off : PathsOff u n := pathsOff_of_safe n (s := cutLow n (openCoil n s)) (by simp [u]) (cutLow_pathsOff n _ (idle_openCoil n s))
  refine ⟨?_, ?_, pathsOff_of_safe n (resetReply_safe _) (setOos_pathsOff n u 3 off)⟩
  · rw [latch, setOos_nvp]
    simp [u, noteTrip, e76, nvp]
  · rw [latch, setOos_nvp]
    simp

end

/-! ### PATH_TEST_STEP_END (R236) -/

section
variable (n : Fin 8) (s : State) (up : pairUp s = true) (due : (saf s n).pathAt + 2000 ≤ s.clk.mono)
include up due

theorem pathTest_runs (runs : (saf s n).path = 1 ∨ (saf s n).path = 2) :
    ¬ (!((saf s n).path == 1 || (saf s n).path == 2) || !elapsed s (saf s n).pathAt 2000 || !pairUp s) = true := by
  rcases runs with h | h
  · simp [h, elapsed, due, up]
  · simp [h, elapsed, due, up]

theorem pathTest_fails (runs : (saf s n).path = 1 ∨ (saf s n).path = 2) (bad : (saf s n).pathBad = true) :
    exec (.pathTestStepEnd n) s = .next (pathFailed n (saf s n).path s) :=
  congrArg Host.Outcome.next ((if_neg (pathTest_runs n s up due runs)).trans (if_pos bad))

section
variable (good : (saf s n).pathBad = false)
include good

theorem pathTest_stops (runs : (saf s n).path = 1 ∨ (saf s n).path = 2) (stops : ¬ PathGoes n s) :
    exec (.pathTestStepEnd n) s = .next (openCoil n s) :=
  congrArg Host.Outcome.next ((if_neg (pathTest_runs n s up due runs)).trans
    ((if_neg (by simp [good])).trans (if_pos ((pathStops_iff n s).2 stops))))

theorem pathTest_goes (runs : (saf s n).path = 1 ∨ (saf s n).path = 2) (goes : PathGoes n s) :
    exec (.pathTestStepEnd n) s =
      .next (if (saf s n).path = 1 then path2 n s else if (saf s n).pathOnly then pathCleared n s else path3 n s) :=
  congrArg Host.Outcome.next ((if_neg (pathTest_runs n s up due runs)).trans
    ((if_neg (by simp [good])).trans (if_neg fun stops => (pathStops_iff n s).1 stops goes)))

theorem pathTest_second (first : (saf s n).path = 1) (goes : PathGoes n s) : exec (.pathTestStepEnd n) s = .next (path2 n s) := by
  rw [pathTest_goes n s up due good (.inl first) goes, if_pos first]

theorem pathTest_third (second : (saf s n).path = 2) (goes : PathGoes n s) (closing : (saf s n).pathOnly = false) :
    exec (.pathTestStepEnd n) s = .next (path3 n s) := by
  rw [pathTest_goes n s up due good (.inr second) goes, if_neg (by omega), if_neg (by simp [closing])]

theorem pathTest_clears (second : (saf s n).path = 2) (only : (saf s n).pathOnly = true) :
    exec (.pathTestStepEnd n) s = .next (pathCleared n s) := by
  rw [pathTest_goes n s up due good (.inr second) (.inl only), if_neg (by omega), if_pos only]

end
end
end Sys2Proof.Laws

namespace Sys2Proof.Laws

open Sys2Proof Sys2Proof.Machine

/-! ## Opening confirmed and welding (R241, R242) -/

section
variable (n : Fin 8) (s : State)

@[simp] theorem closeWarm_nvPt : (closeWarm n s).nvPt = s.nvPt := by
  unfold closeWarm
  split
  · exact nvPt_of_aside (aside_closeValues ..)
  · rfl

theorem saf_confirmOpen : saf (confirmOpen n s) n = { saf s n with
    openConf := true, openAt := s.clk.mono, closed := false, coilOffAt := none, dcVolt := false, weldOk := true } := by
  rw [confirmOpen, saf_of_safe ((closeWarm_safe ..).trans (tryClose_safe ..)), saf_modSafe]

/-- The state in which WELDED is latched and SAFE_CUTn is low. -/
def weldLatched : State :=
  let s := modSafe n (fun x => { x with
    openConf := false, closed := false, coilOffAt := none, dcVolt := false, weldOk := false, clearSince := none }) s
  let s := modNvPt n (fun x => { x with welded := true }) s
  cutLow n (noteTrip n (cause 9) (level 75 n.1 true (prm75 s n) s))

theorem weldNow_eq : weldNow n s = closeWarm n (tryClose n 0 (setOos n 2 (weldLatched n s))) := rfl

theorem weldLatched_saf : (saf (weldLatched n s) n).openConf = false ∧ (saf (weldLatched n s) n).cut = false := by
  simp [weldLatched, saf_cutLow]

/-- WELDED stands with SAFE_CUTn low and the point out of service, and its contactor counts as not confirmed open (R242). -/
theorem weldNow_latches : (nvp (weldNow n s) n).welded = true ∧ (saf (weldNow n s) n).openConf = false ∧ (saf (weldNow n s) n).cut = false ∧
    (nvp (weldNow n s) n).oos.getLsbD 2 = true := by
  obtain ⟨conf, cut⟩ := weldLatched_saf n s
  have latch : nvp (weldNow n s) n = nvp (setOos n 2 (weldLatched n s)) n := by simp [weldNow_eq, nvp]
  have safe : saf (weldNow n s) n = saf (setOos n 2 (weldLatched n s)) n := saf_of_safe (by simp [weldNow_eq]) n
  refine ⟨?_, ?_, ?_, ?_⟩
  · rw [latch, setOos_nvp]
    simp [weldLatched, cutLow, noteTrip, nvp]
  · rw [safe, saf_of_standing Safe.openConf (fun _ => rfl) (standing_setOos ..), conf]
  · rw [safe, saf_of_standing Safe.cut (fun _ => rfl) (standing_setOos ..), cut]
  · rw [latch, setOos_nvp]
    simp

section
variable (off : Nat) (up : pairUp s = true) (since : (saf s n).coilOffAt = some off)
include up since

section
variable (due : off + weldT (spB s n) ≤ s.clk.mono)
include due

/-- WELD_CHECK once WELD_T has passed since coil off (R242). -/
theorem weldCheck_due : exec (.weldCheck n) s = .next (
    if (indicators s n).1 then weldNow n s
    else if !dcPoint s n then (if (indicators s n).2 then weldNow n s else confirmOpen n s)
    else if heldFor s (voltFrom s n off) (weldT (spB s n)) then (if (indicators s n).2 then weldNow n s else confirmOpen n s)
    else modSafe n (fun x => { x with dcVolt := true }) s) := by
  show execWeldCheck n s = _
  rw [execWeldCheck, since]
  exact congrArg Host.Outcome.next (if_neg (by simp [elapsed, due, up]))

theorem weldCheck_welded (closed : (indicators s n).1 = true) : exec (.weldCheck n) s = .next (weldNow n s) := by
  rw [weldCheck_due n s off up since due, if_pos closed]

section
variable (aux : (indicators s n).1 = false)
include aux

theorem weldCheck_evaluates
    (judged : dcPoint s n = false ∨ (∃ t0, voltFrom s n off = some t0 ∧ t0 + weldT (spB s n) ≤ s.clk.mono)) :
    exec (.weldCheck n) s = .next (if (indicators s n).2 then weldNow n s else confirmOpen n s) := by
  rw [weldCheck_due n s off up since due, if_neg (by simp [aux])]
  rcases judged with ac | ⟨t0, volt, held⟩
  · rw [if_pos (by simp [ac])]
  · rw [volt, heldFor_some s t0 _ held, if_pos rfl, ite_self]

/-- On a DC point the voltage indicator waits for its own WELD_T (R242). -/
theorem weldCheck_waits (dc : dcPoint s n = true) (early : ∀ t0, voltFrom s n off = some t0 → s.clk.mono < t0 + weldT (spB s n)) :
    exec (.weldCheck n) s = .next { s with safe := vset s.safe n { saf s n with dcVolt := true } } := by
  have waits : heldFor s (voltFrom s n off) (weldT (spB s n)) = false := by
    cases volt : voltFrom s n off with
    | none => rfl
    | some t0 => exact heldFor_recent s t0 _ (early t0 volt)
  rw [weldCheck_due n s off up since due, if_neg (by simp [aux]), if_neg (by simp [dc]), if_neg (by simp [waits])]
  rfl

end
end

/-- DC_VOLTAGE_CHECK_TIMEOUT (R242): without B or A for 10 s the auxiliary contact alone decides. -/
theorem dcVoltageCheckTimeout_decides (dc : dcPoint s n = true) (waits : (saf s n).dcVolt = true) (neither : (pil s n).abAt = none)
    (due : off + 10000000 ≤ s.clk.mono) :
    let u := modSafe n (fun x => { x with voltUnch := true }) s
    exec (.dcVoltageCheckTimeout n) s =
      .next (if auxClosed s n then weldNow n u else confirmOpen n (pulse 75 (prm75 u n) u)) := by
  show execDcVoltageCheckTimeout n s = _
  rw [execDcVoltageCheckTimeout, since]
  exact congrArg Host.Outcome.next (if_pos (by simp [dc, waits, neither, elapsed, due, up]))

end

theorem weldWhileOpen_welds (t0 : Nat) (up : pairUp s = true) (since : (saf s n).indSince = some t0) (due : t0 + 100000 ≤ s.clk.mono)
    (first : (nvp s n).welded = false) : exec (.weldWhileOpen n) s = .next (weldNow n s) :=
  congrArg Host.Outcome.next (if_pos (by simp [since, heldFor_some s t0 _ due, first, up]))

/-! ## Paths not refreshed and cut faults (R233, R235) -/

theorem pathEnableTimeout_cut (high : (saf s n).cut = true) (due : (saf s n).cutRef + 300 ≤ s.clk.mono) :
    exec (.pathEnableTimeout n true) s = .next { s with safe := vset s.safe n { saf s n with cut := false, cutDropAt := none } } :=
  congrArg Host.Outcome.next ((if_pos rfl).trans (if_pos (by simp [high, elapsed, due])))

theorem pathEnableTimeout_coil (on : (saf s n).coil = true) (due : (saf s n).coilRef + 300 ≤ s.clk.mono) :
    ∃ t, exec (.pathEnableTimeout n false) s = .next t ∧ t = { s with safe := t.safe, sw := t.sw } ∧ (saf t n).coil = false :=
  ⟨openCoil n s, congrArg Host.Outcome.next ((if_neg Bool.false_ne_true).trans (if_pos (by simp [on, elapsed, due]))), openCoil_only n s,
    openCoil_coil n s⟩

theorem cutFault_faults (up : pairUp s = true) (run : 3 ≤ (saf s n).cutBad) (first : (nvp s n).cutFault = false) :
    ∃ t, exec (.cutFault n) s = .next t ∧ (nvp t n).cutFault = true ∧ (nvp t n).oos.getLsbD 3 = true ∧ (nvp t n).trip = cause 12 := by
  let u := noteTrip n (cause 12) (e76 n 4 true (modNvPt n (fun x => { x with cutFault := true }) s))
  have latch : (nvp u n).cutFault = true ∧ (nvp u n).trip = cause 12 := by simp [u, noteTrip, e76, nvp]
  refine ⟨setOos n 3 u, congrArg Host.Outcome.next (if_pos (by simp [up, run, first])), ?_, ?_, ?_⟩
  · rw [setOos_nvp]
    exact latch.1
  · rw [setOos_nvp]
    simp
  · rw [setOos_nvp]
    exact latch.2

/-! ## The application reset (R161, R450) -/

theorem leaveC_coil : (saf (leaveC n s) n).coil = false := by
  unfold leaveC
  split
  next off =>
    simp only [Bool.and_eq_true, Bool.not_eq_true'] at off
    exact off.1
  · rw [saf_of_safe (weldPhase_safe ..), dropCut_saf]
    exact openCoil_coil ..

theorem appResetOpenTimeout_opens (up : pairUp s = true) (on : (saf s n).coil = true)
    (due : (∃ t0, (pil s n).x1cSince = some t0 ∧ t0 + 3000000 ≤ s.clk.mono) ∨ ((ses s n).x1Arm = true ∧ (ses s n).x1At + 3000000 ≤ s.clk.mono)) :
    exec (.appResetOpenTimeout n) s = .next (leaveC n s) := by
  refine congrArg Host.Outcome.next ((if_neg (by simp [on, up])).trans (if_pos ?_))
  rcases due with ⟨t0, since, held⟩ | ⟨arm, held⟩
  · simp [since, heldFor_some s t0 _ held]
  · simp [arm, elapsed, held]

end
end Sys2Proof.Laws

namespace Sys2Proof.Laws

open Sys2Proof Sys2Proof.Machine

/-! ## The device safe state (R231, R232) -/

/-- STATUS written anew changes the field store and events alone (R310). -/
theorem statusSync_apart {α : Type} (f : State → α) (quiets : ∀ u, f (quiet u) = f u)
    (blind : ∀ u store gens, f { u with fst.mem := store, nvFst.lastGen := gens } = f u) (s : State) : f (statusSync s) = f s := by
  have e12' (r g c : Nat) (u : State) : f (e12 r g c u) = f u := of_quiet f quiets (quiet_pulse ..)
  have repair (r : Nat) (u : State) : f (repairRec r u) = f u := by
    unfold repairRec
    split
    · dsimp only
      split
      · exact blind u u.fst.mem _
      · exact (e12' ..).trans (blind u _ _)
    · exact (e12' ..).trans (blind u _ _)
  have wired (r : Nat) (d : List Byte) (u : State) : f (wiredWrite r d u) = f u := by
    unfold wiredWrite
    dsimp only
    split
    · exact repair r u
    · exact (blind (repairRec r u) _ _).trans (repair r u)
  unfold statusSync
  dsimp only
  split
  · rfl
  · split
    · split
      · rfl
      · exact wired ..
    · split
      · rfl
      · exact wired ..

section
variable (n : Fin 8) (s : State)

@[simp] theorem leaveDc_sess : (leaveDc n s).sess = s.sess := by
  unfold leaveDc
  split
  all_goals rfl

@[simp] theorem opened_leaveDc : opened (leaveDc n s) = opened s := by
  unfold leaveDc
  split
  all_goals rfl

@[simp] theorem opened_modSess (f : Sess → Sess) : opened (modSess n f s) = opened s := rfl
@[simp] theorem ses_modSess (f : Sess → Sess) : ses (modSess n f s) n = f (ses s n) := vget_vmod_same ..
theorem ses_modSess_other (f : Sess → Sess) (k : Fin 8) (other : k ≠ n) : ses (modSess n f s) k = ses s k := vget_vmod_other _ _ _ _ other
@[simp] theorem opened_modSafe (f : Safe → Safe) : opened (modSafe n f s) = opened s := rfl

/-- The state in which a point has both paths off and its power stage told to stop, before its session is marked. -/
def pathsDropped : State :=
  leaveDc n (modSafe n (fun x => { x with coilOffAt := none, reqClose := false, closed := false, openConf := false })
    (cutLow n (openCoil n s)))

theorem pathsDropped_sess : (pathsDropped n s).sess = s.sess := by simp [pathsDropped, cutLow]
theorem opened_pathsDropped : opened (pathsDropped n s) = opened s := by simp [pathsDropped, cutLow]

theorem pointSafe_eq : pointSafe n s = if sessRuns s n then
    modSess n (fun x => { x with ending := some .safetyTrip }) (markEnd n .safetyTrip (pathsDropped n s)) else pathsDropped n s := by
  have runs : sessRuns (pathsDropped n s) n = sessRuns s n := by rw [sessRuns_eq, opened_pathsDropped, ← sessRuns_eq]
  rw [← runs]
  rfl

theorem opened_pointSafe : opened (pointSafe n s) = opened s := by
  rw [pointSafe_eq]
  split
  all_goals simp [opened_pathsDropped]

theorem ses_markEnd_other (r : EndReason) (k : Fin 8) (other : k ≠ n) : ses (markEnd n r s) k = ses s k := by
  unfold markEnd
  split
  · rw [ses, setPhase_sess]
    exact vget_vmod_other _ _ _ _ other
  · rfl

/-- A session that runs on the point is to end with SAFETY_TRIP; any other keeps its reason (R231). -/
theorem pointSafe_ending (k : Fin 8) : (ses (pointSafe n s) k).ending =
    if k = n ∧ sessRuns s n = true then some .safetyTrip else (ses s k).ending := by
  have kept : ses (pathsDropped n s) k = ses s k := by rw [ses, pathsDropped_sess, ← ses]
  rw [pointSafe_eq]
  by_cases own : k = n
  · subst own
    cases runs : sessRuns s k with
    | true => simp
    | false => simp [kept]
  · rw [if_neg (c := k = n ∧ sessRuns s n = true) fun both => own both.1]
    split
    · rw [ses_modSess_other _ _ _ _ own, ses_markEnd_other _ _ _ _ own, kept]
    · rw [kept]

@[simp] theorem offPoint_pointSafe : offPoint (pointSafe n s) = offPoint s := by
  have dropped : offPoint (pathsDropped n s) = offPoint s := by simp [pathsDropped, cutLow]
  rw [pointSafe_eq]
  split
  · simp [dropped]
  · exact dropped

end

/-- Every coil channel is commanded off. -/
def channelsOff (s : State) : State := (units 24).foldl (fun t c => if chRole (chB t c.1) = 2 then chanOff c t else t) s

theorem coilsOff_eq (s : State) : coilsOff s = channelsOff { s with bill.supOn := false, bill.supAt := none } := rfl

theorem channelsOff_keeps {α : Type} (f : State → α) (blind : ∀ c u, f (chanOff c u) = f u) (s : State) : f (channelsOff s) = f s := by
  refine foldl_keeps f _ (fun t c => ?_) _ s
  split
  · exact blind c t
  · rfl

@[simp] theorem offPoint_coilsOff (s : State) : offPoint (coilsOff s) = offPoint s := by
  rw [coilsOff_eq, channelsOff_keeps offPoint offPoint_chanOff, offPoint_upd_bill]

theorem coilsOff_sess (s : State) : (coilsOff s).sess = s.sess := by
  rw [coilsOff_eq, channelsOff_keeps State.sess fun _ _ => rfl]

theorem calm_of_pairUp (s : State) (up : pairUp s = true) : s.safeDev.safeState = false := by
  simp only [pairUp, Bool.and_eq_true, Bool.not_eq_true'] at up
  exact up.1

section
variable (kind item : Nat) (s : State)

/-- The state in which the safe state and its fault are recorded and reported, before the points enter it. -/
def safeDeclared : State := pulse 79 (prm [(1, kind), (1, item)]) { s with
  safeDev.safeState := true, safeDev.safeAt := s.clk.mono, nvSafe.fault := some (kind, item), nvSafe.told := false }

/-- The state in which every point has entered the safe state. -/
def pointsSafe : State := (points s).foldl (fun t n => pointSafe n t) (safeDeclared kind item s)

theorem enterSafe_eq (calm : s.safeDev.safeState = false) : enterSafe kind item s = coilsOff (pointsSafe kind item s) :=
  if_neg (by simp [calm])

theorem offPoint_pointsSafe : offPoint (pointsSafe kind item s) = offPoint (safeDeclared kind item s) :=
  foldl_keeps offPoint _ (fun t n => offPoint_pointSafe n t) _ _

theorem pointsSafe_ending (n : Fin 8) (present : hasPoint s n = true) (runs : sessRuns s n = true) :
    (ses (pointsSafe kind item s) n).ending = some .safetyTrip := by
  refine foldl_reaches (fun t => (ses t n).ending = some .safetyTrip) (fun t => sessRuns t n = true) _ n ?_ ?_ ?_ _ _ (mem_points n s present) ?_
  · intro t c reached
    rw [pointSafe_ending]
    split
    · rfl
    · exact reached
  · intro t c still
    rw [sessRuns_eq, opened_pointSafe, ← sessRuns_eq]
    exact still
  · intro t still
    rw [pointSafe_ending, if_pos ⟨rfl, still⟩]
  · have same : opened (safeDeclared kind item s) = opened s := opened_of_sess (by simp [safeDeclared])
    rw [sessRuns_eq, same, ← sessRuns_eq]
    exact runs

end

/-- SAFETY_PAIR_FAULT (R231, R232): the safe state with every path off, the pilots to go to F and the sessions to end. -/
theorem safetyPairFault_stops (x : PairFault) (s : State) (fault : isPairFault s x = true) (up : pairUp s = true) :
    ∃ t, exec (.safetyPairFault x) s = .next t ∧ t.safeDev.safeState = true ∧ t.nvSafe.fault = some (faultCode x) ∧
      (∀ n, hasPoint s n = true → PathsOff t n ∧ wantOut t n = .F ∧ (sessRuns s n = true → (ses t n).ending = some .safetyTrip)) := by
  let u := pointsSafe (faultCode x).1 (faultCode x).2 s
  have entered : enterSafe (faultCode x).1 (faultCode x).2 s = coilsOff u := enterSafe_eq _ _ s (calm_of_pairUp s up)
  have device {α : Type} (f : State → α) (points : ∀ v, f (offPoint v) = f v) (quiets : ∀ v, f (quiet v) = f v)
      (blind : ∀ v store gens, f { v with fst.mem := store, nvFst.lastGen := gens } = f v) :
      f (statusSync (coilsOff u)) = f (safeDeclared (faultCode x).1 (faultCode x).2 s) :=
    (statusSync_apart f quiets blind _).trans (of_offPoint f points ((offPoint_coilsOff u).trans (offPoint_pointsSafe ..)))
  have safe : (statusSync (coilsOff u)).safeDev.safeState = true :=
    (device (fun t => t.safeDev.safeState) (fun _ => rfl) (fun _ => rfl) fun _ _ _ => rfl).trans (by simp [safeDeclared])
  refine ⟨statusSync (coilsOff u), ?_, safe, ?_, fun n present => ⟨?_, ?_, fun runs => ?_⟩⟩
  · rw [← entered]
    exact congrArg Host.Outcome.next (if_pos (by simp [fault, up]))
  · exact (device (fun t => t.nvSafe.fault) (fun _ => rfl) (fun _ => rfl) fun _ _ _ => rfl).trans (by simp [safeDeclared])
  · have off := pointsSafe_off (points s) (safeDeclared (faultCode x).1 (faultCode x).2 s) (by simp [safeDeclared]) n (mem_points n s present)
    rw [pathsOff_iff, gates_statusSync, gates_coilsOff, ← pathsOff_iff]
    exact off
  · exact if_pos (by simp [forcedF, safe])
  · rw [ses, statusSync_apart State.sess (fun _ => rfl) (fun _ _ _ => rfl), coilsOff_sess]
    exact pointsSafe_ending _ _ s n present runs

theorem safeStateSessionEnd_ends (n : Fin 8) (s : State) (safe : s.safeDev.safeState = true)
    (due : s.safeDev.safeAt + weldT (spB s n) ≤ s.clk.mono) (runs : sessRuns s n = true) :
    ∃ t, exec (.safeStateSessionEnd n) s = .next t ∧ sessRuns t n = false :=
  ⟨_, congrArg Host.Outcome.next (if_pos (by simp [safe, elapsed, due, runs])), (closeValues_closes ..).2⟩

/-! ## SAFE_RST (R239, R240) -/

/-- The state without what a reset of a trip changes. -/
def offTrips (s : State) : State := quiet { s with nvPt := Vector.replicate 8 {} }

theorem of_offTrips {α : Type} (f : State → α) (hf : ∀ u, f (offTrips u) = f u) {s t : State} (same : offTrips t = offTrips s) : f t = f s := by
  rw [← hf t, same, hf s]

theorem only_of_offTrips {s t : State} (same : offTrips t = offTrips s) : t = { s with nvPt := t.nvPt, ev := t.ev, led := t.led, p100 := t.p100 } := by
  have quiets : quiet t = quiet { s with nvPt := t.nvPt } := congrArg (fun u : State => { u with nvPt := t.nvPt }) same
  exact onlyEvents_of_quiet { s with nvPt := t.nvPt } t quiets

theorem offTrips_of_quiet {s t : State} (same : quiet t = quiet s) : offTrips t = offTrips s := of_quiet offTrips (fun _ => rfl) same

@[simp] theorem offTrips_resetTrip (n : Fin 8) (src : Nat) (s : State) : offTrips (resetTrip n src s) = offTrips s :=
  (offTrips_of_quiet (quiet_pulse ..)).trans rfl

theorem resetTrip_other (n : Fin 8) (src : Nat) (s : State) (k : Fin 8) (other : k ≠ n) : nvp (resetTrip n src s) k = nvp s k := by
  rw [resetTrip, e74, nvp, pulse_nvPt]
  exact vget_vmod_other _ _ _ _ other

/-- The trigger of a trip depends on the point's own latches and on what a reset of a trip leaves. -/
theorem triggerClear_congr {s t : State} (n : Fin 8) (same : offTrips t = offTrips s) (own : nvp t n = nvp s n) :
    triggerClear t n = triggerClear s n := by
  have earth : ear t n = ear s n := of_offTrips (ear · n) (fun _ => rfl) same
  have pe : peHealthy t = peHealthy s := of_offTrips peHealthy (fun _ => rfl) same
  simp only [triggerClear, earth, pe, own]

/-- SAFE_RST resets the trip of a point whose RESET_MODE allows it, once the trigger has cleared (R239, R240). -/
def rstPoint (t : State) (n : Fin 8) : State :=
  if (nvp t n).tripped && (resetMode (spB t n) == 2 || resetMode (spB t n) == 3) && triggerClear t n then resetTrip n 2 t else t

@[simp] theorem offTrips_rstPoint (t : State) (n : Fin 8) : offTrips (rstPoint t n) = offTrips t := by
  unfold rstPoint
  split
  · simp
  · rfl

theorem rstPoint_other (t : State) (n k : Fin 8) (other : k ≠ n) : nvp (rstPoint t n) k = nvp t k := by
  unfold rstPoint
  split
  · exact resetTrip_other _ _ _ _ other
  · rfl

theorem rstPoint_untripped (t : State) (n : Fin 8) (k : Fin 8) (clear : (nvp t n).tripped = false) : nvp (rstPoint t k) n = nvp t n := by
  by_cases own : n = k
  · subst own
    simp [rstPoint, clear]
  · exact rstPoint_other t k n own

section
variable (n : Fin 8) (s : State)

/-- The point's trip is reset. -/
def TripReset (t : State) : Prop := (nvp t n).tripped = false ∧ ((nvp s n).tripped = true → (nvp t n).await = 0)

theorem rstPoint_keeps_reset (t : State) (k : Fin 8) (reset : TripReset n s t) : TripReset n s (rstPoint t k) := by
  rw [TripReset, rstPoint_untripped t n k reset.1]
  exact reset

theorem rstPoint_resets (mode : resetMode (spB s n) = 2 ∨ resetMode (spB s n) = 3) (clear : triggerClear s n = true) (t : State)
    (same : offTrips t = offTrips s) (own : nvp t n = nvp s n) : TripReset n s (rstPoint t n) := by
  have block : spB t n = spB s n := of_offTrips (spB · n) (fun _ => rfl) same
  have trigger := (triggerClear_congr n same own).trans clear
  cases trip : (nvp s n).tripped with
  | false =>
    rw [TripReset, rstPoint_untripped t n n (by rw [own, trip]), own, trip]
    simp
  | true =>
    obtain ⟨at_, reset⟩ := resetTrip_nvp n t 2
    have resets : rstPoint t n = resetTrip n 2 t := if_pos (by simpa [own, trip, block, trigger] using mode)
    rw [TripReset, resets, reset]
    exact ⟨rfl, fun _ => rfl⟩

/-- Every point named that may be reset is; nothing but latches and events changes. -/
theorem rstPoints_reset (mode : resetMode (spB s n) = 2 ∨ resetMode (spB s n) = 3) (clear : triggerClear s n = true) (l : List (Fin 8))
    (mem : n ∈ l) (u : State) (same : offTrips u = offTrips s) (own : nvp u n = nvp s n) : TripReset n s (l.foldl rstPoint u) := by
  refine foldl_reaches (TripReset n s) (fun t => offTrips t = offTrips s ∧ (nvp t n = nvp s n ∨ TripReset n s t)) rstPoint n
    (fun t k => rstPoint_keeps_reset n s t k) ?_ ?_ l u mem ⟨same, .inl own⟩
  · rintro t k ⟨same, before | reset⟩
    · refine ⟨(offTrips_rstPoint t k).trans same, ?_⟩
      by_cases here : n = k
      · subst here
        exact .inr (rstPoint_resets n s mode clear t same before)
      · exact .inl ((rstPoint_other t k n here).trans before)
    · exact ⟨(offTrips_rstPoint t k).trans same, .inr (rstPoint_keeps_reset n s t k reset)⟩
  · rintro t ⟨same, before | reset⟩
    · exact rstPoint_resets n s mode clear t same before
    · exact rstPoint_keeps_reset n s t n reset

theorem rstPoints_barred (mode : resetMode (spB s n) ≠ 2 ∧ resetMode (spB s n) ≠ 3) (l : List (Fin 8)) (u : State)
    (same : offTrips u = offTrips s) : nvp (l.foldl rstPoint u) n = nvp u n := by
  refine (List.foldlRecOn (motive := fun t => offTrips t = offTrips s ∧ nvp t n = nvp u n) l rstPoint ⟨same, rfl⟩ ?_).2
  rintro t ⟨same, own⟩ k -
  refine ⟨(offTrips_rstPoint t k).trans same, ?_⟩
  have block : spB t n = spB s n := of_offTrips (spB · n) (fun _ => rfl) same
  by_cases here : n = k
  · subst here
    rw [rstPoint, if_neg (by simp [block, mode.1, mode.2])]
    exact own
  · rw [rstPoint_other t k n here, own]

end

/-- SAFE_RST counts as stuck once it has been low for more than 10 s, until it has been high for 1 s (R240). -/
def srStays (idle low : Nat) (s : State) : Bool := (s.safeDev.srStuck && decide (idle < 1000000)) || decide (10000000 < low)

section
variable (s : State) (enabled : rstEn (sdB s) = true) (up : pairUp s = true)
include enabled up

theorem safeRst_heard : ¬ (!rstEn (sdB s) || !pairUp s) = true := by simp [enabled, up]

/-- A good pulse raises E78 and resets the points whose RESET_MODE allows it (R239, R240). -/
theorem safeRstPulse_resets (idle low high : Nat) (free : srStays idle low s = false) (min : 100000 ≤ low) (max : low ≤ 3000000)
    (after : 100000 ≤ high) : ∃ t, exec (.safeRstPulse idle low high true) s = .next t ∧
      t = { s with safeDev.srStuck := false, nvPt := t.nvPt, ev := t.ev, led := t.led, p100 := t.p100 } ∧
      (∀ n, hasPoint s n = true → resetMode (spB s n) = 2 ∨ resetMode (spB s n) = 3 → triggerClear s n = true → TripReset n s t) ∧
      (∀ n, resetMode (spB s n) ≠ 2 → resetMode (spB s n) ≠ 3 → nvp t n = nvp s n) := by
  let v : State := { s with safeDev.srStuck := false }
  have noted : offTrips (e78 low v) = offTrips v := offTrips_of_quiet (quiet_pulse ..)
  have own (n : Fin 8) : nvp (e78 low v) n = nvp s n := by rw [nvp, e78, pulse_nvPt, nvp]
  have runs : exec (.safeRstPulse idle low high true) s = .next ((points v).foldl rstPoint (e78 low v)) := by
    have stuck : ((s.safeDev.srStuck && decide (idle < 1000000)) || decide (10000000 < low)) = false := free
    show execSafeRstPulse idle low high true s = _
    simp only [execSafeRstPulse, stuck, if_neg (safeRst_heard s enabled up)]
    rw [if_pos (by simp [min, max, after])]
    rfl
  refine ⟨_, runs, ?_, fun n present mode clear => ?_, fun n two three => ?_⟩
  · exact only_of_offTrips (s := v) ((foldl_keeps offTrips _ offTrips_rstPoint _ _).trans noted)
  · exact rstPoints_reset n v mode clear _ (mem_points n v present) _ noted (own n)
  · exact (rstPoints_barred n v ⟨two, three⟩ _ _ noted).trans (own n)

/-- Any other pulse only raises E78 (R240). -/
theorem safeRstPulse_ignored (idle low high : Nat) (both : Bool)
    (bad : both = false ∨ srStays idle low s = true ∨ low < 100000 ∨ 3000000 < low ∨ high < 100000) :
    exec (.safeRstPulse idle low high both) s =
      .next (e78 low { s with safeDev.srStuck := srStays idle low s && decide (high < 1000000) }) := by
  have fails : ¬ (both && !srStays idle low s && decide (100000 ≤ low) && decide (low ≤ 3000000) && decide (100000 ≤ high)) = true := by
    simp only [Bool.and_eq_true, Bool.not_eq_true', decide_eq_true_eq]
    rintro ⟨⟨⟨⟨rfl, free⟩, min⟩, max⟩, after⟩
    simp [free] at bad
    omega
  exact congrArg Host.Outcome.next ((if_neg (safeRst_heard s enabled up)).trans (if_neg fails))

theorem safeRstStuck_marks (low : Nat) (long : 10000000 < low) (first : s.safeDev.srStuck = false) :
    exec (.safeRstStuck low) s = .next (e78 low { s with safeDev.srStuck := true }) :=
  congrArg Host.Outcome.next (if_pos (by simp [enabled, up, long, first]))

end
end Sys2Proof.Laws

namespace Sys2Proof.Laws

open Sys2Proof Sys2Proof.Machine

/-! ## The safety cycle (R229, R233)

What a point's part of a cycle does stays with the point: all but its own registers, those of the other points too, is as before. -/

/-- The state without what an operation of a point changes, but for the safety states of the other points. -/
def beyond (n : Fin 8) (s : State) : State := { offPoint s with safe := vset s.safe n {} }

theorem of_beyond {α : Type} (n : Fin 8) (f : State → α) (hf : ∀ u, f (beyond n u) = f u) {s t : State} (same : beyond n t = beyond n s) :
    f t = f s := by
  rw [← hf t, same, hf s]

theorem saf_of_beyond (n k : Fin 8) (other : k ≠ n) {s t : State} (same : beyond n t = beyond n s) : saf t k = saf s k :=
  of_beyond n (saf · k) (fun _ => vget_vset_other _ _ _ _ other) same

theorem beyond_of_safe (n : Fin 8) {s t : State} (rest : offPoint t = offPoint s) (safe : t.safe = s.safe) : beyond n t = beyond n s := by
  rw [beyond, rest, safe, beyond]

/-- What leaves the meters' part alone keeps all beyond a point. -/
theorem beyond_of_offMeter (n : Fin 8) {s t : State} (same : offMeter t = offMeter s) : beyond n t = beyond n s :=
  of_offMeter (beyond n) (fun _ => rfl) same

section
variable (n : Fin 8) (s : State)

@[simp] theorem beyond_modSafe (f : Safe → Safe) : beyond n (modSafe n f s) = beyond n s := by
  simp [beyond, modSafe, vmod, vset]

@[simp] theorem beyond_modEarth (f : Earth → Earth) : beyond n (modEarth n f s) = beyond n s := rfl
@[simp] theorem beyond_modNvPt (f : NvPoint → NvPoint) : beyond n (modNvPt n f s) = beyond n s := rfl
@[simp] theorem beyond_modSess (f : Sess → Sess) : beyond n (modSess n f s) = beyond n s := rfl
@[simp] theorem beyond_modLock (f : Lock → Lock) : beyond n (modLock n f s) = beyond n s := rfl
@[simp] theorem beyond_chanOff (c : Fin 24) : beyond n (chanOff c s) = beyond n s := rfl
@[simp] theorem beyond_pulse (ev : Nat) (p : List Byte) : beyond n (pulse ev p s) = beyond n s := beyond_of_offMeter n (offMeter_pulse ..)
@[simp] theorem beyond_e63 (kind : Nat) (on : Bool) (val : Int) (step : Nat) : beyond n (e63 n kind on val step s) = beyond n s :=
  beyond_pulse ..

@[simp] theorem beyond_e74 (causes : BitVec 32) (src : Nat) : beyond n (e74 n causes src s) = beyond n s := beyond_pulse ..
@[simp] theorem beyond_setPhase (p : HlcPhase) : beyond n (setPhase n p s) = beyond n s := beyond_of_safe n (by simp) (by simp)
@[simp] theorem beyond_weldPhase : beyond n (weldPhase n s) = beyond n s := beyond_of_safe n (by simp) (by simp)
@[simp] theorem beyond_tryClose (flags : Nat) : beyond n (tryClose n flags s) = beyond n s := beyond_of_safe n (by simp) (by simp)
@[simp] theorem beyond_leaveDc : beyond n (leaveDc n s) = beyond n s := beyond_of_safe n (by simp) (by simp)

@[simp] theorem beyond_openCoil : beyond n (openCoil n s) = beyond n s := by
  unfold openCoil
  dsimp only
  split
  · rfl
  · rw [beyond_modSafe]
    split
    all_goals simp

@[simp] theorem beyond_markEnd (r : EndReason) : beyond n (markEnd n r s) = beyond n s := by
  unfold markEnd
  split
  all_goals simp

@[simp] theorem beyond_endNow (r : EndReason) : beyond n (endNow n r s) = beyond n s := by
  unfold endNow
  split
  all_goals simp

@[simp] theorem beyond_endSoft (r : EndReason) : beyond n (endSoft n r s) = beyond n s := by
  unfold endSoft
  split
  · exact beyond_markEnd n s r
  · simp

@[simp] theorem beyond_setOos (i : Nat) : beyond n (setOos n i s) = beyond n s := by
  unfold setOos
  dsimp only
  split
  all_goals simp

@[simp] theorem beyond_setSensorFault (v : Int) : beyond n (setSensorFault n v s) = beyond n s := by
  unfold setSensorFault
  split
  all_goals simp

@[simp] theorem beyond_noteDet (kind : Nat) (was on : Bool) (v : Int) : beyond n (noteDet n kind was on v s) = beyond n s := by
  unfold noteDet
  split
  all_goals simp

@[simp] theorem beyond_noteDets (old : Earth) : beyond n (noteDets n old s) = beyond n s := by simp [noteDets]

@[simp] theorem beyond_residual (x : PtIn) : beyond n (Machine.residual n x s) = beyond n s := by
  unfold Machine.residual
  dsimp only
  repeat' split
  all_goals simp

@[simp] theorem beyond_compCycle : beyond n (compCycle n s) = beyond n s := by
  unfold compCycle
  dsimp only
  split
  all_goals simp

@[simp] theorem beyond_evaluate (x : PtIn) : beyond n (evaluate n x s) = beyond n s := by simp [evaluate]
@[simp] theorem beyond_resetTrip (src : Nat) : beyond n (resetTrip n src s) = beyond n s := by simp [resetTrip]

@[simp] theorem beyond_autoReset : beyond n (autoReset n s) = beyond n s := by
  unfold autoReset
  dsimp only
  split
  all_goals simp

@[simp] theorem beyond_exchange : beyond n (exchange n s) = beyond n s := by simp [exchange]

@[simp] theorem beyond_path1 : beyond n (path1 n s) = beyond n s := by
  have coil (u : State) : beyond n (coilStep n u) = beyond n u := by
    rw [coilStep, beyond_modSafe]
    split
    all_goals simp
  simp [path1, cutHigh, pathStep, coil]

@[simp] theorem beyond_noteDemands : beyond n (noteDemands n s) = beyond n s := by
  refine foldl_keeps (beyond n) _ (fun t k => ?_) _ s
  split
  all_goals simp

@[simp] theorem beyond_tryClosing : beyond n (tryClosing n s) = beyond n s := by
  unfold tryClosing
  dsimp only
  repeat' split
  all_goals simp

@[simp] theorem beyond_confirmClosing : beyond n (confirmClosing n s) = beyond n s := by
  unfold confirmClosing
  dsimp only
  split
  all_goals simp

@[simp] theorem beyond_refresh : beyond n (refresh n s) = beyond n s := by simp [refresh]

@[simp] theorem beyond_holdUnlock : beyond n (holdUnlock n s) = beyond n s := by
  unfold holdUnlock
  split
  all_goals simp

@[simp] theorem beyond_cyclePoint (x : PtIn) : beyond n (cyclePoint n x s) = beyond n s := by simp [cyclePoint]

/-! ### The readback of SAFE_CUTn (R229, R235) -/

@[simp] theorem holdUnlock_safe : (holdUnlock n s).safe = s.safe := by
  unfold holdUnlock
  split
  all_goals rfl

theorem autoReset_safe : (autoReset n s).safe = s.safe := by
  unfold autoReset
  dsimp only
  split
  · exact resetTrip_safe ..
  · rfl

theorem evaluate_cutRead (x : PtIn) : (saf (evaluate n x s) n).cutRead = x.cut := by simp [evaluate]
theorem exchange_cutRead : (saf (exchange n s) n).cutRead = (saf s n).cutRead := by simp [exchange]

theorem path1_cutRead : (saf (path1 n s) n).cutRead = (saf s n).cutRead := by
  simp [path1, saf_cutHigh, saf_coilStep, saf_pathStep]

theorem noteDemands_cutRead : (saf (noteDemands n s) n).cutRead = (saf s n).cutRead := by
  refine foldl_keeps (fun t => (saf t n).cutRead) _ (fun t k => ?_) _ s
  split
  · rfl
  · rw [saf_of_safe (pulse_safe ..), saf_modSafe]

theorem tryClosing_cutRead : (saf (tryClosing n s) n).cutRead = (saf s n).cutRead := by
  unfold tryClosing
  dsimp only
  split
  · rfl
  · split
    · rw [path1_cutRead, noteDemands_cutRead]
    · exact noteDemands_cutRead n s

theorem confirmClosing_cutRead : (saf (confirmClosing n s) n).cutRead = (saf s n).cutRead := by
  unfold confirmClosing
  dsimp only
  split
  · rw [saf_of_safe (modSess_safe ..), saf_modSafe, saf_modSafe]
  · rw [saf_modSafe]

theorem saf_refresh : saf (refresh n s) n = { saf s n with coilRef := s.clk.mono, cutRef := s.clk.mono, hold := holdBits s n } := saf_modSafe ..

/-- The state in which a point's conditions have been evaluated, compared and acted on, before its outputs are refreshed (R229). -/
def evaluated (x : PtIn) : State :=
  confirmClosing n (tryClosing n (exchange n (autoReset n (evaluate n x (compCycle n (Machine.residual n x s))))))

theorem cyclePoint_eq (x : PtIn) : cyclePoint n x s = holdUnlock n (refresh n (evaluated n s x)) := rfl

theorem evaluated_clk (x : PtIn) : (evaluated n s x).clk = s.clk := of_beyond n State.clk (fun _ => rfl) (by simp [evaluated])

theorem evaluated_cutRead (x : PtIn) : (saf (evaluated n s x) n).cutRead = x.cut := by
  rw [evaluated, confirmClosing_cutRead, tryClosing_cutRead, exchange_cutRead, saf_of_safe (autoReset_safe ..), evaluate_cutRead]

/-- A point's part of a cycle latches its readback and refreshes both enables (R229, R233). -/
theorem cyclePoint_refreshes (x : PtIn) : (saf (cyclePoint n x s) n).coilRef = s.clk.mono ∧ (saf (cyclePoint n x s) n).cutRef = s.clk.mono ∧
    (saf (cyclePoint n x s) n).cutRead = x.cut := by
  rw [cyclePoint_eq, saf_of_safe (holdUnlock_safe ..), saf_refresh, evaluated_clk, evaluated_cutRead]
  exact ⟨rfl, rfl, rfl⟩

end

/-- PE supervision of a cycle changes its own state and events alone (R219, R220). -/
theorem peCycle_apart {α : Type} (f : State → α) (quiets : ∀ u, f (quiet u) = f u) (blind : ∀ u e, f { u with earthDev := e } = f u)
    (npe : Int) (s : State) : f (peSpans (npeFeed npe s)) = f s := by
  have fed : f (npeFeed npe s) = f s := blind ..
  have spans (u : State) : f (peSpan u) = f u := by
    unfold peSpan
    extract_lets miss v
    split
    · rfl
    · split
      · exact (of_quiet f quiets (quiet_e73 ..)).trans ((blind ..).trans (blind ..))
      · exact blind ..
  unfold peSpans
  split
  · exact (spans _).trans fed
  · exact fed

section
variable (pts : List PtIn) (npe : Int) (s : State)

/-- The state in which a cycle has been counted and PE supervision has run. -/
def cycleBegun : State :=
  peSpans (npeFeed npe { s with safeDev.running := true, safeDev.cycle := (s.safeDev.cycle + 1) % 2 ^ 32 })

/-- The state in which every point has had its part of the cycle. -/
def cyclePoints : State := (points (cycleBegun npe s)).foldl (fun t n => cyclePoint n (pts.getD n.1 {}) t) (cycleBegun npe s)

theorem safetyCycle_eq : safetyCycle pts npe s = resetReply { cyclePoints pts npe s with filt.safeq := [] } := rfl

theorem cyclePoints_apart {α : Type} (f : State → α) (blind : ∀ n u, f (beyond n u) = f u) :
    f (cyclePoints pts npe s) = f (cycleBegun npe s) :=
  foldl_keeps f _ (fun t n => of_beyond n f (blind n) (beyond_cyclePoint n t _)) _ _

theorem cyclePoints_refresh (n : Fin 8) (present : hasPoint s n = true) :
    (saf (cyclePoints pts npe s) n).coilRef = s.clk.mono ∧ (saf (cyclePoints pts npe s) n).cutRef = s.clk.mono ∧
      (saf (cyclePoints pts npe s) n).cutRead = (pts.getD n.1 {}).cut := by
  have clk (t : State) (k : Fin 8) : (cyclePoint k (pts.getD k.1 {}) t).clk = t.clk :=
    of_beyond k State.clk (fun _ => rfl) (beyond_cyclePoint ..)
  have begun : (cycleBegun npe s).clk = s.clk := peCycle_apart State.clk (fun _ => rfl) (fun _ _ => rfl) ..
  have there : hasPoint (cycleBegun npe s) n = true :=
    (peCycle_apart (hasPoint · n) (fun _ => rfl) (fun _ _ => rfl) ..).trans present
  refine (foldl_reaches
    (fun t => t.clk = s.clk ∧ (saf t n).coilRef = s.clk.mono ∧ (saf t n).cutRef = s.clk.mono ∧ (saf t n).cutRead = (pts.getD n.1 {}).cut)
    (fun t => t.clk = s.clk) (fun t n => cyclePoint n (pts.getD n.1 {}) t) n ?_ ?_ ?_ _ _ (mem_points n _ there) begun).2
  · rintro t k ⟨same, reached⟩
    refine ⟨(clk t k).trans same, ?_⟩
    by_cases own : n = k
    · subst own
      rw [← same]
      exact cyclePoint_refreshes n t _
    · rw [saf_of_beyond k n own (beyond_cyclePoint ..)]
      exact reached
  · exact fun t k same => (clk t k).trans same
  · intro t same
    refine ⟨(clk t n).trans same, ?_⟩
    rw [← same]
    exact cyclePoint_refreshes n t _

/-- SAFETY_CYCLE (R229, R233): the cycle is counted, each point's readback latched, both enables refreshed, the samples taken. -/
theorem safetyCycle_runs (up : pairUp s = true) : ∃ t, exec (.safetyCycle pts npe) s = .next t ∧ t.safeDev.running = true ∧
    t.safeDev.cycle = (s.safeDev.cycle + 1) % 2 ^ 32 ∧ t.filt.safeq = [] ∧
    (∀ n, hasPoint s n = true → (saf t n).coilRef = s.clk.mono ∧ (saf t n).cutRef = s.clk.mono ∧ (saf t n).cutRead = (pts.getD n.1 {}).cut) := by
  have last {α : Type} (f : State → α) (quiets : ∀ u, f (quiet u) = f u)
      (store : ∀ u m gens, f { u with fst.mem := m, nvFst.lastGen := gens } = f u) (ports : ∀ u, f (offPort u) = f u)
      (reply : ∀ u c m, f { u with safeDev.resetCmd := c, safeDev.resetMask := m } = f u) :
      f (statusSync (safetyCycle pts npe s)) = f { cyclePoints pts npe s with filt.safeq := [] } := by
    rw [statusSync_apart f quiets store, safetyCycle_eq]
    exact resetReply_apart _ f ports reply
  have counted : (cyclePoints pts npe s).safeDev.running = true ∧ (cyclePoints pts npe s).safeDev.cycle = (s.safeDev.cycle + 1) % 2 ^ 32 := by
    rw [cyclePoints_apart pts npe s State.safeDev fun _ _ => rfl, cycleBegun, peCycle_apart State.safeDev (fun _ => rfl) fun _ _ => rfl]
    exact ⟨rfl, rfl⟩
  refine ⟨statusSync (safetyCycle pts npe s), congrArg Host.Outcome.next (if_pos up), ?_, ?_, ?_, fun n present => ?_⟩
  · exact (last (fun u => u.safeDev.running) (fun _ => rfl) (fun _ _ _ => rfl) (fun _ => rfl) fun _ _ _ => rfl).trans counted.1
  · exact (last (fun u => u.safeDev.cycle) (fun _ => rfl) (fun _ _ _ => rfl) (fun _ => rfl) fun _ _ _ => rfl).trans counted.2
  · exact last (fun u => u.filt.safeq) (fun _ => rfl) (fun _ _ _ => rfl) (fun _ => rfl) fun _ _ _ => rfl
  · rw [last (saf · n) (fun _ => rfl) (fun _ _ _ => rfl) (fun _ => rfl) fun _ _ _ => rfl]
    exact cyclePoints_refresh pts npe s n present

end
end Sys2Proof.Laws

namespace Sys2Proof.Proofs

open Sys2Proof Sys2Proof.Machine Sys2Proof.Laws

/-- Settles O24: each clause is the rule of its row; what a point's row brings stays with the point, and what opens a contactor leaves
of its safety state all but what an opening sets. -/
theorem safetyEventsComplete : Obligations.SafetyEventsComplete := by
  refine ⟨fun pts npe s up => safetyCycle_runs pts npe s up, tripConfirmed_trips, safeCutDrop_drops, fun n s up due => ?_,
    fun n s up third due => closingTimeout_trips n s up third due, fun n s => ?_, fun n off s up since due => ?_,
    fun n off s up dc waits since neither due => dcVoltageCheckTimeout_decides n s off up since dc waits neither due,
    fun n t0 s up since due first => weldWhileOpen_welds n s t0 up since due first,
    fun n s => ⟨pathEnableTimeout_cut n s, pathEnableTimeout_coil n s⟩, fun n s up run first => cutFault_faults n s up run first,
    safetyPairFault_stops, safeStateSessionEnd_ends, fun idle low high both s enabled up => ?_,
    fun low s enabled up => safeRstStuck_marks s enabled up low,
    fun n s up on due => ⟨appResetOpenTimeout_opens n s up on due, leaveC_coil n s⟩⟩
  case refine_1 =>
    refine ⟨fun first good goes => ⟨_, pathTest_second n s up due good first goes, path2_only n s, path2_sets n s⟩,
      fun second good goes closing => ⟨_, pathTest_third n s up due good second goes closing, path3_only n s, path3_sets n s⟩,
      fun second good only => ⟨_, pathTest_clears n s up due good second only, pathCleared_clears n s⟩,
      fun runs bad => ⟨_, pathTest_fails n s up due runs bad, pathFailed_fails n s _⟩,
      fun runs good stops => pathTest_stops n s up due good runs stops⟩
  case refine_2 =>
    rw [saf_confirmOpen]
    exact ⟨rfl, rfl, rfl, weldNow_latches n s⟩
  case refine_3 =>
    exact ⟨weldCheck_welded n s off up since due, weldCheck_evaluates n s off up since due, weldCheck_waits n s off up since due⟩
  case refine_4 =>
    refine ⟨?_, safeRstPulse_ignored s enabled up idle low high both⟩
    rintro rfl free min max after
    exact safeRstPulse_resets s enabled up idle low high free min max after

end Sys2Proof.Proofs

namespace Sys2Proof.Laws

open Sys2Proof Sys2Proof.Machine

/-! ## SAF_COMMIT and the check values (R243, R246, R247) -/

@[simp] theorem e77_safe (n : Fin 8) (old new : Nat) (s : State) : (e77 n old new s).safe = s.safe := pulse_safe ..

/-- One point of `recheck`: its check value computed again. -/
def recheckPoint (t : State) (k : Fin 8) : State := if checkValue t k = (saf t k).check then t
  else e77 k (saf t k).check (checkValue t k) (modSafe k (fun x => { x with check := checkValue t k }) t)

theorem offPoint_recheckPoint (t : State) (k : Fin 8) : offPoint (recheckPoint t k) = offPoint t := by
  unfold recheckPoint
  split
  all_goals simp

theorem recheckPoint_check (t : State) (n : Fin 8) : (saf (recheckPoint t n) n).check = checkValue t n := by
  unfold recheckPoint
  split
  next known => exact known.symm
  next => rw [saf_of_safe (e77_safe ..), saf_modSafe]

theorem saf_recheckPoint_other {n k : Fin 8} (t : State) (other : n ≠ k) : saf (recheckPoint t k) n = saf t n := by
  unfold recheckPoint
  split
  · rfl
  · rw [saf_of_safe (e77_safe ..), saf_modSafe_other _ _ _ _ other]

/-- A check value computed again is that of the committed blocks (R243). -/
theorem recheck_check (n : Fin 8) (s : State) (present : hasPoint s n = true) : (saf (recheck s) n).check = checkValue s n := by
  have own (t : State) (same : offPoint t = offPoint s) : (saf (recheckPoint t n) n).check = checkValue s n := by
    rw [recheckPoint_check, of_offPoint (checkValue · n) (fun _ => rfl) same]
  refine (foldl_reaches (fun t => offPoint t = offPoint s ∧ (saf t n).check = checkValue s n) (fun t => offPoint t = offPoint s)
    recheckPoint n ?_ (fun t k same => (offPoint_recheckPoint t k).trans same)
    (fun t same => ⟨(offPoint_recheckPoint t n).trans same, own t same⟩) _ _ (mem_points n s present) rfl).2
  rintro t k ⟨same, reached⟩
  refine ⟨(offPoint_recheckPoint t k).trans same, ?_⟩
  by_cases here : n = k
  · subst here
    exact own t same
  · rw [saf_recheckPoint_other t here, reached]

/-- SAFE_RST counts as stuck no more once it is not enabled (R240). -/
def rstSettled (s : State) : State := if rstEn (sdB s) then s else { s with safeDev.srStuck := false }

theorem safCommit_applies (p : Pkt) (s : State) (m : Nat) (cs : List BlkCopy) (ht : taken 0x0501 p s = true) (hl : p.payload.length = 4)
    (hm : u16 0 p.payload = m) (reserved : rsv 2 2 p.payload = true) (pos : 0 < m) (small : m < 512) :
    let u := begun 0x0501 p s
    let v := recheck (commitCopies cs u)
    (∀ n ∈ safPoints m, hasPoint u n = true) → Takes u (safIds m) cs → safCross u cs m = true →
    (∀ n ∈ safPoints m, contactorShut u n = false) → (bit m 0 = true → ∀ n, hasPoint u n = true → contactorShut u n = false) →
    exec (.safCommit p) s = .next (finish (flightOf 0x0501 p s) (le 8 s.clk.time) (rstSettled v)) ∧
    ∀ c, cs = [c] → committedCopy v c.id = some { c with tCommit := s.clk.time, bstate := 1 } := by
  intro u v present takes cross opened allOpen
  have base : offPoint v = offPoint (commitCopies cs u) := offPoint_recheck _
  have clock : (rstSettled v).clk = s.clk := by
    have kept : v.clk = (commitCopies cs u).clk := of_offPoint State.clk (fun _ => rfl) base
    rw [commitCopies_only] at kept
    rw [← begun_clk 0x0501 p s, ← (kept : v.clk = u.clk)]
    unfold rstSettled
    split
    all_goals rfl
  have named : (!(m == 0) && decide (m < 2 ^ 9) && rsv 2 2 p.payload && (safPoints m).all (hasPoint u)) = true := by
    rw [reserved, List.all_eq_true.2 present, decide_eq_true (show m < 2 ^ 9 from small)]
    simpa using pos.ne'
  have free : (!(safPoints m).any (contactorShut u) && !(bit m 0 && (points u).any (contactorShut u))) = true := by
    have points : (safPoints m).any (contactorShut u) = false := by simpa using opened
    cases all : bit m 0 with
    | false => simp [points]
    | true => simpa [points, Machine.points] using fun n _ has => allOpen all n has
  refine ⟨congrArg Host.Outcome.next (command_done _ _ p s (rstSettled v) _ ht ?_), ?_⟩
  · rw [sized_eq _ _ _ _ hl, ← clock]
    unfold safCommitBody
    simp only [flightOf_pkt, hm]
    rw [need_pos named, takeStored_of_takes _ _ _ _ takes, need_pos cross, need_pos free]
    rfl
  · rintro c rfl
    rw [of_offPoint (committedCopy · c.id) (fun _ => rfl) base, committedCopy_commitCopies]
    simp [now, u]

/-! ## SAF_STATUS and SAF_CONFIRM (R244, R248) -/

theorem safStatus_answers (p : Pkt) (s : State) (n : Fin 8) (ht : taken 0x0502 p s = true)
    (hp : p.payload = [BitVec.ofNat 8 (n.1 + 1), 0, 0, 0]) (present : hasPoint s n = true) :
    let u := begun 0x0502 p s
    let x := nvp u n
    let y := saf u n
    exec (.safStatus p) s = .next (finish (flightOf 0x0502 p s) (le 8 s.clk.time ++ le 1 (n.1 + 1) ++ le 1 (sstate u n) ++
      le 2 (holdBits u n).toNat ++ le 4 x.trip.toNat ++ le 8 x.tTrip ++ le 4 y.check ++
      le 4 (if x.confirmed = x.confirmed2 then x.confirmed else 0) ++ le 1 (autoResets u n) ++
      le 1 (b2n y.coil + 2 * b2n y.cutRead + 4 * b2n (auxClosed u n) + 8 * b2n y.lsv + 16 * b2n (safeStateHigh u)) ++ zeros 2 ++
      le 4 (testAge u n)) u) := by
  intro u x y
  have point : u8 0 p.payload = n.1 + 1 := by rw [hp]; exact u8_pno n _
  have reserved : rsv 1 3 p.payload = true := by rw [hp]; rfl
  have clock : s.clk.time = now u := by simp [now, u]
  rw [clock]
  refine congrArg Host.Outcome.next (command_done _ _ p s _ _ ht ?_)
  rw [sized_eq _ _ _ _ (by simp [hp])]
  unfold safStatusBody
  simp only [flightOf_pkt, pointOf_begun 0x0502 p s n _ present point, reserved, need_true]
  rfl

@[simp] theorem saf_begun (op : Nat) (p : Pkt) (s : State) (n : Fin 8) : saf (begun op p s) n = saf s n :=
  of_begun (saf · n) (fun _ => rfl) (fun _ => rfl) op p s

@[simp] theorem nvp_begun (op : Nat) (p : Pkt) (s : State) (n : Fin 8) : nvp (begun op p s) n = nvp s n :=
  of_begun (nvp · n) (fun _ => rfl) (fun _ => rfl) op p s

theorem nvp_finish (f : Flight) (pl : List Byte) (s : State) (n : Fin 8) : nvp (finish f pl s) n = nvp s n := by
  rw [nvp, finish, complete_nvPt, nvp]

section
variable (p : Pkt) (s : State) (n : Fin 8) (hl : p.payload.length = 8) (point : u8 0 p.payload = n.1 + 1)
  (reserved : rsv 1 3 p.payload = true) (present : hasPoint s n = true)
include hl point reserved present

/-- The rules of SAF_CONFIRM on well-formed parameters: the authority, then the value (R244, R248). -/
theorem safConfirm_body : sized 8 safConfirmBody (flightOf 0x0503 p s) (begun 0x0503 p s) =
    needAuth (begun 0x0503 p s) (flightOf 0x0503 p s) 3 (need (u32 4 p.payload == (saf (begun 0x0503 p s) n).check) 0x0201
      (.done (confirmCheck n (u32 4 p.payload) (begun 0x0503 p s)) [])) := by
  rw [sized_eq _ _ _ _ hl]
  unfold safConfirmBody
  simp only [flightOf_pkt, pointOf_begun 0x0503 p s n _ present point, reserved, need_true]
  rfl

theorem safConfirm_confirms (ht : taken 0x0503 p s = true) (held : holds (begun 0x0503 p s) p.src 3 = true)
    (value : u32 4 p.payload = (saf (begun 0x0503 p s) n).check) :
    let u := begun 0x0503 p s
    ∃ t, exec (.safConfirm p) s = .next t ∧
      t = finish (flightOf 0x0503 p s) [] (e77 n (confirmedOf u n) (saf u n).check
        { u with nvPt := vset u.nvPt n { nvp u n with confirmed := (saf u n).check, confirmed2 := (saf u n).check } }) ∧
      (nvp t n).confirmed = (saf s n).check ∧ (nvp t n).confirmed2 = (saf s n).check := by
  intro u
  have confirms : sized 8 safConfirmBody (flightOf 0x0503 p s) u = .done (confirmCheck n (saf u n).check u) [] := by
    rw [safConfirm_body p s n hl point reserved present, needAuth, flightOf_pkt, if_pos held, value, need_pos (beq_self_eq_true _)]
  have set : nvp (confirmCheck n (saf u n).check u) n = { nvp u n with confirmed := (saf u n).check, confirmed2 := (saf u n).check } := by
    rw [confirmCheck, e77, nvp, pulse_nvPt, ← nvp, nvp_modNvPt]
  refine ⟨finish (flightOf 0x0503 p s) [] (confirmCheck n (saf u n).check u),
    congrArg Host.Outcome.next (command_done _ _ p s _ _ ht confirms), rfl, ?_, ?_⟩
  · rw [nvp_finish, set]
    simp [u]
  · rw [nvp_finish, set]
    simp [u]

theorem safConfirm_refused (ht : taken 0x0503 p s = true) (lacks : holds (begun 0x0503 p s) p.src 3 = false) : exec (.safConfirm p) s =
    .next (complete (flightOf 0x0503 p s) 0x0301 [] (deniedEvent (flightOf 0x0503 p s) 8 (begun 0x0503 p s))) := by
  refine congrArg Host.Outcome.next (command_denied _ _ p s 3 ht ?_)
  rw [safConfirm_body p s n hl point reserved present]
  exact if_neg (by simp [lacks])

end
end Sys2Proof.Laws

namespace Sys2Proof.Laws

open Sys2Proof Sys2Proof.Machine

/-! ## SAF_RESET (R239, R242, R248, R249) -/

@[simp] theorem resetTrip_safeDev (n : Fin 8) (src : Nat) (s : State) : (resetTrip n src s).safeDev = s.safeDev := pulse_safeDev ..

/-- A point that SAF_RESET may reset trips no more, and the mask names it. -/
theorem safResetPoint_resets (n : Fin 8) (s : State) (may : safResets s n = true) :
    (nvp (safResetPoint n s) n).tripped = false ∧ (nvp (safResetPoint n s) n).await = 0 ∧
    (safResetPoint n s).safeDev.resetMask = s.safeDev.resetMask ||| 2 ^ n.1 := by
  obtain ⟨at_, reset⟩ := resetTrip_nvp n s 1
  have latches : nvp (safResetPoint n s) n = nvp (resetTrip n 1 s) n := by rw [safResetPoint, if_pos may]; rfl
  have mask : (safResetPoint n s).safeDev.resetMask = (resetTrip n 1 s).safeDev.resetMask ||| 2 ^ n.1 := by
    rw [safResetPoint, if_pos may]
  rw [latches, reset, mask, resetTrip_safeDev]
  exact ⟨rfl, rfl, rfl⟩

/-- SAF_RESET is answered once no path test of it runs, with ST_STATE when nothing was reset (R249). -/
theorem resetReply_answers (f : Flight) (s : State) (waits : s.safeDev.resetCmd = some f)
    (ended : ∀ n, hasPoint s n = true → (saf s n).pathOnly = false) :
    let v := { s with safeDev.resetCmd := none, safeDev.resetMask := 0 }
    resetReply s = if s.safeDev.resetMask = 0 then complete f 0x0201 [] v else finish f (le 2 s.safeDev.resetMask ++ [0, 0]) v := by
  have untested : ¬ ((points s).any fun n => (saf s n).pathOnly) = true := by simpa [points] using fun n _ => ended n
  unfold resetReply
  rw [waits]
  dsimp only
  rw [if_neg untested]
  rfl

section
variable (n : Fin 8) (s : State)

theorem weldClear_nvp : (nvp (weldClear n s) n).welded = false := by
  rw [weldClear, clearOos_nvp, nvp, level_nvPt, ← nvp]
  exact congrArg NvPoint.welded (nvp_modNvPt n s fun x => { x with welded := false })

theorem weldClear_saf : (saf (weldClear n s) n).openConf = true := by
  rw [weldClear, saf_of_safe (clearOos_safe ..), saf_level, saf_modSafe]

theorem weldClear_other (k : Fin 8) (other : k ≠ n) : nvp (weldClear n s) k = nvp s k ∧ saf (weldClear n s) k = saf s k := by
  constructor
  · rw [weldClear, clearOos, nvp, modNvPt_nvPt, vget_vmod_other _ _ _ _ other, level_nvPt]
    exact vget_vmod_other _ _ _ _ other
  · rw [weldClear, saf_of_safe (clearOos_safe ..), saf_level, saf_modSafe_other _ _ _ _ other]
    rfl

/-- A point's welding latch is clear, and its contactor stands confirmed open. -/
def WeldCleared : Prop := (nvp s n).welded = false ∧ (saf s n).openConf = true

theorem weldClear_clears : WeldCleared n (weldClear n s) := ⟨weldClear_nvp n s, weldClear_saf n s⟩

theorem weldClear_keeps (k : Fin 8) (clear : WeldCleared k s) : WeldCleared k (weldClear n s) := by
  by_cases own : k = n
  · exact own ▸ weldClear_clears k s
  · obtain ⟨latch, safe⟩ := weldClear_other n s k own
    rwa [WeldCleared, latch, safe]

/-- Every point whose latch is cleared in turn has it clear at the end. -/
theorem weldsCleared (ns : List (Fin 8)) (mem : n ∈ ns) : WeldCleared n (ns.foldl (fun t k => weldClear k t) s) :=
  foldl_reaches (WeldCleared n) (fun _ => True) (fun t k => weldClear k t) n (fun t k clear => weldClear_keeps k t n clear)
    (fun _ _ _ => trivial) (fun t _ => weldClear_clears n t) ns s mem trivial

end

section
variable (p : Pkt) (s : State) (ns : List (Fin 8)) (ht : taken 0x0504 p s = true) (hl : p.payload.length = 4)
  (reserved : rsv 2 2 p.payload = true) (named : resetPoints (begun 0x0504 p s) (u8 0 p.payload) = some ns)

include hl reserved named in
/-- The rules of SAF_RESET on well-formed parameters: the authority, then the operation. -/
theorem safReset_body (op : u8 1 p.payload ≤ 1) : sized 4 safResetBody (flightOf 0x0504 p s) (begun 0x0504 p s) =
    needAuth (begun 0x0504 p s) (flightOf 0x0504 p s) 3 (if u8 1 p.payload = 0 then safReset0 (flightOf 0x0504 p s) ns (begun 0x0504 p s)
      else safReset1 ns (begun 0x0504 p s)) := by
  rw [sized_eq _ _ _ _ hl]
  unfold safResetBody
  simp only [flightOf_pkt, named]
  exact need_pos (by simp [reserved, op]) ..

include hl reserved named in
theorem safReset_body_held (op : u8 1 p.payload ≤ 1) (held : holds (begun 0x0504 p s) p.src 3 = true) :
    sized 4 safResetBody (flightOf 0x0504 p s) (begun 0x0504 p s) = if u8 1 p.payload = 0 then
      safReset0 (flightOf 0x0504 p s) ns (begun 0x0504 p s) else safReset1 ns (begun 0x0504 p s) := by
  rw [safReset_body p s ns hl reserved named op, needAuth, flightOf_pkt, if_pos held]

include ht hl reserved named

theorem safReset_refused (op : u8 1 p.payload ≤ 1) (lacks : holds (begun 0x0504 p s) p.src 3 = false) : exec (.safReset p) s =
    .next (complete (flightOf 0x0504 p s) 0x0301 [] (deniedEvent (flightOf 0x0504 p s) 8 (begun 0x0504 p s))) := by
  refine congrArg Host.Outcome.next (command_denied _ _ p s 3 ht ?_)
  rw [safReset_body p s ns hl reserved named op]
  exact if_neg (by simp [lacks])

theorem safReset_resets (op : u8 1 p.payload = 0) (held : holds (begun 0x0504 p s) p.src 3 = true)
    (free : (begun 0x0504 p s).safeDev.resetCmd = none) :
    let u := begun 0x0504 p s
    let f := flightOf 0x0504 p s
    let tests := ns.filter (pathDue u)
    let trips := ns.filter fun n => safResets u n && !((nvp u n).pathFail || (nvp u n).cutFault)
    let v := trips.foldl (fun t n => safResetPoint n t) { u with safeDev.resetMask := 0 }
    (tests = [] → trips ≠ [] →
      exec (.safReset p) s = .next (finish f (le 2 v.safeDev.resetMask ++ zeros 2) { v with safeDev.resetMask := 0 })) ∧
    (tests ≠ [] → exec (.safReset p) s = .next
      (tests.foldl (fun t n => modSafe n (fun x => { x with pathOnly := true }) (path1 n t)) { v with safeDev.resetCmd := some f })) := by
  intro u f tests trips v
  have body : sized 4 safResetBody f u = if tests.isEmpty && trips.isEmpty then .fail stState else if u.safeDev.resetCmd.isSome then .fail stBusy
      else if tests.isEmpty then .done { v with safeDev.resetMask := 0 } (le 2 v.safeDev.resetMask ++ zeros 2)
      else .wait (tests.foldl (fun t n => modSafe n (fun x => { x with pathOnly := true }) (path1 n t)) { v with safeDev.resetCmd := some f }) := by
    rw [safReset_body_held p s ns hl reserved named (by omega) held, if_pos op]
    rfl
  have idle : ¬ u.safeDev.resetCmd.isSome = true := by simp [u, free]
  constructor
  · intro untested tripped
    refine congrArg Host.Outcome.next (command_done _ _ p s _ _ ht ?_)
    rw [body, if_neg (by simpa [untested] using tripped), if_neg idle, if_pos (by simp [untested])]
  · intro tested
    refine congrArg Host.Outcome.next (command_wait _ _ p s _ ht ?_)
    rw [body, if_neg (by simp [tested]), if_neg idle, if_neg (by simpa using tested)]

theorem safReset_clears (op : u8 1 p.payload = 1) (held : holds (begun 0x0504 p s) p.src 3 = true) :
    let u := begun 0x0504 p s
    let welds := ns.filter fun n => (nvp u n).welded && heldFor u (saf u n).clearSince 1000000
    welds ≠ [] → ∃ t, exec (.safReset p) s = .next t ∧
      t = finish (flightOf 0x0504 p s) (le 2 ((welds.map fun n => 2 ^ n.1).sum) ++ zeros 2) (welds.foldl (fun t n => weldClear n t) u) ∧
      ∀ n ∈ welds, (nvp t n).welded = false ∧ (saf t n).openConf = true := by
  intro u welds welded
  refine ⟨_, congrArg Host.Outcome.next (command_done _ _ p s _ _ ht ?_), rfl, fun n mem => ?_⟩
  · rw [safReset_body_held p s ns hl reserved named (by omega) held, if_neg (by omega)]
    exact if_neg (by rwa [List.isEmpty_iff])
  · rw [nvp_finish, finish, saf_of_safe (complete_safe ..)]
    exact weldsCleared n u welds mem

end

/-! ## TST_POINT and TST_DEGRADED (R468, R474, R475) -/

section
variable (n : Fin 8) (s : State)

theorem opened_complete (f : Flight) (st : Nat) (pl : List Byte) : opened (complete f st pl s) = opened s :=
  of_offPort opened (fun _ => rfl) (offPort_complete f st pl s)

/-- A session that ends softly waits with a reason, or has closed its values (R190). -/
theorem endSoft_over (r : EndReason) (runs : sessRuns s n = true) :
    (ses (endSoft n r s) n).ending ≠ none ∨ sessRuns (endSoft n r s) n = false := by
  obtain ⟨r', marked⟩ := markEnd_marked n s r runs
  unfold endSoft
  split
  · exact .inl (by rw [ses, modHlc_sess, ← ses, marked]; simp)
  · exact (endNow_over n s r r' runs marked).imp_left fun ends => by simp [ends]

/-- The first bit of the OOS mask ends an open session (R468). -/
theorem setOos_ends (i : Nat) (first : (nvp s n).oos = 0) (runs : sessRuns s n = true) :
    (ses (setOos n i s) n).ending ≠ none ∨ sessRuns (setOos n i s) n = false := by
  rw [setOos, if_pos first]
  exact endSoft_over n _ _ runs

/-- The point back in service: HOST, GEN_FAULT and REVERSE clear together (R474). -/
def backInService (n : Fin 8) (s : State) : State :=
  pilotNote n (fun t => clearOos n 0x43 (modNvPt n (fun x => { x with genFault := false }) t)) s

theorem backInService_nvp : (nvp (backInService n s) n).oos = (nvp s n).oos &&& ~~~0x43 ∧ (nvp (backInService n s) n).genFault = false := by
  have latches : nvp (backInService n s) n = nvp (clearOos n 0x43 (modNvPt n (fun x => { x with genFault := false }) s)) n := by
    rw [backInService, nvp, pilotNote_nvPt, ← nvp]
  rw [latches, clearOos_nvp, nvp_modNvPt]
  exact ⟨rfl, rfl⟩

end

section
variable (p : Pkt) (s : State) (n : Fin 8) (ht : taken 0x0D01 p s = true) (present : hasPoint s n = true)
include present

theorem tstPoint_body (op : BitVec 8) (known : op.toNat ≤ 1) (hp : p.payload = [BitVec.ofNat 8 (n.1 + 1), op, 0, 0]) :
    sized 4 tstPointBody (flightOf 0x0D01 p s) (begun 0x0D01 p s) =
      if op.toNat = 0 then tstOut n (begun 0x0D01 p s) else tstIn n (begun 0x0D01 p s) := by
  have point : u8 0 p.payload = n.1 + 1 := by rw [hp]; exact u8_pno n _
  have oper : u8 1 p.payload = op.toNat := by rw [hp]; simp [u8, fld, unle]
  have reserved : rsv 2 2 p.payload = true := by rw [hp]; rfl
  rw [sized_eq _ _ _ _ (by simp [hp])]
  unfold tstPointBody
  simp only [flightOf_pkt, pointOf_begun 0x0D01 p s n _ present point, oper, reserved, known, decide_true, Bool.and_self, need_true]

include ht

theorem tstPoint_out (hp : p.payload = [BitVec.ofNat 8 (n.1 + 1), 0, 0, 0]) :
    let u := begun 0x0D01 p s
    let f := flightOf 0x0D01 p s
    ∃ t v, exec (.tstPoint p) s = .next t ∧ v = setOos n 0 u ∧
      t = finish f (le 4 (if (nvp u n).oos = 0 ∧ sessRuns u n then sessNo u n else 0) ++ le 2 (nvp v n).oos.toNat ++ zeros 2) v ∧
      (nvp t n).oos = (nvp s n).oos ||| 1 ∧ ((nvp u n).oos = 0 → sessRuns u n = true → (ses t n).ending ≠ none ∨ sessRuns t n = false) := by
  intro u f
  refine ⟨_, _, congrArg Host.Outcome.next (command_done _ _ p s _ _ ht ?_), rfl, rfl, ?_, fun first runs => ?_⟩
  · rw [tstPoint_body p s n present 0 (by decide) hp]
    rfl
  · rw [nvp_finish, setOos_nvp, nvp_begun]
    rfl
  · rw [finish, ses, complete_sess, ← ses, sessRuns_eq, opened_complete, ← sessRuns_eq]
    exact setOos_ends n u 0 first runs

theorem tstPoint_in (hp : p.payload = [BitVec.ofNat 8 (n.1 + 1), 1, 0, 0]) :
    let u := begun 0x0D01 p s
    let f := flightOf 0x0D01 p s
    ((nvp u n).genFault = false ∨ genOk (pil u n).gen = true → ∃ t v, exec (.tstPoint p) s = .next t ∧
        v = pilotNote n (fun t => clearOos n 0x43 (modNvPt n (fun x => { x with genFault := false }) t)) u ∧
        t = finish f (zeros 4 ++ le 2 (nvp v n).oos.toNat ++ zeros 2) v ∧
        (nvp t n).oos = (nvp s n).oos &&& ~~~0x43 ∧ (nvp t n).genFault = false) ∧
      ((nvp u n).genFault = true → genOk (pil u n).gen = false → exec (.tstPoint p) s = .next (complete f 0x0201 [] u)) := by
  intro u f
  have body : sized 4 tstPointBody f u = if (nvp u n).genFault && !genOk (pil u n).gen then .fail stState
      else .done (backInService n u) (zeros 4 ++ le 2 (nvp (backInService n u) n).oos.toNat ++ zeros 2) := by
    rw [tstPoint_body p s n present 1 (by decide) hp]
    rfl
  constructor
  · intro good
    refine ⟨_, backInService n u, congrArg Host.Outcome.next (command_done _ _ p s _ _ ht ?_), rfl, rfl, ?_⟩
    · rw [body, if_neg (by rcases good with h | h <;> simp [h])]
    · obtain ⟨mask, fault⟩ := backInService_nvp n u
      rw [nvp_finish, mask, fault, nvp_begun]
      exact ⟨rfl, rfl⟩
  · intro fault bad
    refine congrArg Host.Outcome.next (command_fail _ _ p s _ ht (by decide) ?_)
    rw [body, if_pos (by simp [fault, bad])]
    rfl

end

theorem tstDegraded_answers (p : Pkt) (s : State) (ht : taken 0x0D02 p s = true) (hp : p.payload = []) :
    let u := begun 0x0D02 p s
    exec (.tstDegraded p) s = .next (finish (flightOf 0x0D02 p s) (le 8 s.clk.time ++ le 2 (devFlags u) ++
      le 2 (groupMask u fun g => vget u.nvFe.degraded g) ++ le 2 (groupMask u (noRotation u)) ++ zeros 2 ++ (List.finRange 8).flatMap fun n =>
        le 2 (nvp u n).oos.toNat ++ le 1 (pmode u n) ++ le 1 (if hasPoint u n then pdeg u n else 0) ++ le 4 (nvp u n).tOos) u) := by
  intro u
  have clock : s.clk.time = now u := by simp [now, u]
  rw [clock]
  refine congrArg Host.Outcome.next (command_done _ _ p s _ _ ht ?_)
  rw [sized_eq _ _ _ _ (by simp [hp])]
  rfl

/-! ## Pending requests and bindings (R291, R294) -/

section
variable (n : Fin 8) (code type : Nat) (s : State)

@[simp] theorem decision_sess : (decision n code type s).sess = s.sess := by
  unfold decision
  dsimp only
  split
  all_goals simp

@[simp] theorem opened_decision : opened (decision n code type s) = opened s := by
  unfold decision
  dsimp only
  split
  · exact opened_pulse ..
  · exact opened_pulse ..

end

section
variable (n : Fin 8) (r : Req) (s : State) (asked : (ses s n).req = some r) (due : r.t0 + r.hostT * 1000000 ≤ s.clk.mono)
  (up : appUp s = true)
include asked due up

theorem hostDecisionTimeout_decides : exec (.hostDecisionTimeout n) s = .next
    (if r.offline then flowNext n (decision n 2 r.type (bindAuth n r.type r.id false 0 0 0 s))
      else flowNext n (decision n 6 r.type (modSess n (fun x => { x with req := none }) s))) := by
  have decides : ¬ (!elapsed s r.t0 (r.hostT * 1000000) || !appUp s) = true := by simp [elapsed, due, up]
  show execHostDecisionTimeout n s = _
  rw [execHostDecisionTimeout, refuseReq, asked]
  dsimp only
  rw [if_neg decides]

theorem hostDecisionTimeout_binds (offline : r.offline = true) :
    let b := modSess n (fun x => { x with
      bound := true, type := r.type, id := r.id, bpt := false, boundAt := s.clk.mono, limI := 0, limP := 0, limD := 0, req := none }) s
    let a := decision n 2 r.type (followSig n
      (if sessRuns s n then modSessP n (fun x => { x with authType := r.type, authId := r.id }) b else openSession n b))
    exec (.hostDecisionTimeout n) s = .next (flowDrain n (ses a n).waiting a) := by
  rw [hostDecisionTimeout_decides n r s asked due up, if_pos offline, bindAuth_eq]
  rfl

theorem hostDecisionTimeout_refuses (online : r.offline = false) :
    let d := decision n 6 r.type (modSess n (fun x => { x with req := none }) s)
    exec (.hostDecisionTimeout n) s = .next (flowDrain n (ses d n).waiting d) ∧ (ses d n).req = none ∧
      (ses d n).bound = (ses s n).bound := by
  intro d
  have kept : ses d n = { ses s n with req := none } := by
    rw [ses, decision_sess, ← ses, ses_modSess]
  refine ⟨?_, by rw [kept], by rw [kept]⟩
  rw [hostDecisionTimeout_decides n r s asked due up, if_neg (by simp [online])]
  rfl

end

theorem bindLapse_lapses (n : Fin 8) (s : State) (bound : (ses s n).bound = true) (up : appUp s = true) (unplugged : inA s n = true)
    (idle : (sep s n).closing = none) (due : (ses s n).boundAt + bindT (authB s n) * 1000000 ≤ s.clk.mono) :
    let u := decision n 9 (ses s n).type s
    (sessRuns s n = false → exec (.bindLapse n) s =
      .next (modSess n (fun x => { x with bound := false, type := 0, id := [], bpt := false, wantOpen := false }) u)) ∧
    (sessRuns s n = true → exec (.bindLapse n) s = .next (endNow n .unplugged u)) := by
  intro u
  have runs : sessRuns u n = sessRuns s n := by rw [sessRuns_eq, opened_decision, ← sessRuns_eq]
  have lapses : exec (.bindLapse n) s = .next (if sessRuns s n then endNow n .unplugged u
      else modSess n (fun x => { x with bound := false, type := 0, id := [], bpt := false, wantOpen := false }) u) := by
    rw [← runs]
    show execBindLapse n s = _
    unfold execBindLapse
    dsimp only
    rw [if_pos (by simp [bound, up, unplugged, idle, elapsed, due])]
  exact ⟨fun off => by rw [lapses, if_neg (by simp [off])], fun on => by rw [lapses, if_pos on]⟩

end Sys2Proof.Laws

namespace Sys2Proof.Proofs

open Sys2Proof Sys2Proof.Machine Sys2Proof.Laws

/-- Settles O25: a lemma for each command and event, from what its rules answer in the state the packet is taken in. -/
theorem safetyCommandsComplete : Obligations.SafetyCommandsComplete := by
  refine ⟨fun p s m cs ht hl hm reserved pos small => safCommit_applies p s m cs ht hl hm reserved pos small, recheck_check,
    safStatus_answers, ?_, ?_, ?_, resetReply_answers, ?_, tstDegraded_answers, ?_, bindLapse_lapses⟩
  · intro p s n ht hl point reserved present u f
    exact ⟨safConfirm_confirms p s n hl point reserved present ht, safConfirm_refused p s n hl point reserved present ht⟩
  · intro p s ns ht hl reserved u f named tests trips v welds
    refine ⟨fun op held untested tripped free => ?_, fun op held tested free => ?_, ?_, safReset_refused p s ns ht hl reserved named⟩
    · exact (safReset_resets p s ns ht hl reserved named op held free).1 untested tripped
    · exact (safReset_resets p s ns ht hl reserved named op held free).2 tested
    · exact fun op held welded => safReset_clears p s ns ht hl reserved named op held welded
  · exact fun n s may => ⟨_, rfl, safResetPoint_resets n s may⟩
  · exact fun p s n ht present => ⟨tstPoint_out p s n ht present, tstPoint_in p s n ht present⟩
  · exact fun n r s asked due up => ⟨hostDecisionTimeout_binds n r s asked due up, hostDecisionTimeout_refuses n r s asked due up⟩

end Sys2Proof.Proofs

namespace Sys2Proof.Laws

open Sys2Proof Sys2Proof.Machine

/-! ## Channels and bridges by their index (R1, R251) -/

theorem ix_val {n : Nat} (c : Fin n) : ix n c.1 = some c := dif_pos c.2

theorem ix_none {n v : Nat} (beyond : n ≤ v) : ix n v = none := dif_neg (by omega)

/-- A lock bridge's index is no HS or LP channel's, and names its point. -/
theorem ix_bridge (n : Fin 8) : ix 24 (24 + n.1) = none ∧ ix 8 (24 + n.1 - 24) = some n :=
  ⟨ix_none (by omega), by rw [Nat.add_sub_cancel_left, ix_val]⟩

theorem hasIndex_chan (s : State) (c : Fin 24) : hasIndex s c.1 = hasChan s c.1 := if_pos c.2

theorem hasIndex_bridge (s : State) (n : Fin 8) : hasIndex s (24 + n.1) = hasPoint s n := by
  rw [hasIndex, if_neg (by omega), hasPoint, Nat.add_sub_cancel_left, decide_eq_true (by omega), Bool.true_and]

@[simp] theorem begun_hasChan (op : Nat) (p : Pkt) (s : State) (c : Nat) : hasChan (begun op p s) c = hasChan s c := by simp [hasChan]

@[simp] theorem begun_hasIndex (op : Nat) (p : Pkt) (s : State) (i : Nat) : hasIndex (begun op p s) i = hasIndex s i := by
  simp [hasIndex]

@[simp] theorem begun_sw (op : Nat) (p : Pkt) (s : State) : (begun op p s).sw = s.sw := of_begun State.sw (fun _ => rfl) (fun _ => rfl) op p s

@[simp] theorem begun_nvCh (op : Nat) (p : Pkt) (s : State) : (begun op p s).nvCh = s.nvCh :=
  of_begun State.nvCh (fun _ => rfl) (fun _ => rfl) op p s

theorem chanOf_present (s : State) (c : Fin 24) (present : hasChan s c.1 = true) : chanOf s c.1 = some c := by
  rw [chanOf, if_pos present, ix_val]

/-! ## The sense output (R265) -/

section
variable (s : State) (runs : gridRuns s = true)
include runs

theorem isense_channel (c : Fin 24) (selected : s.sw.sense = c.1) : isense s =
    let x := vget s.sw.ch c
    if x.st == .tripped || x.st == .blocked || latched s c || x.olOff || x.olOn then (4600, 5200)
    else if conducts s c then (let v := convN (x.cur.natAbs * 820) (if c.1 < 16 then 2000 else 1000); (v, v))
    else (0, 20) := by
  unfold isense
  rw [selected, ix_val, runs]
  rfl

theorem isense_bridge (n : Fin 8) (selected : s.sw.sense = 24 + n.1) : isense s =
    let l := vget s.sw.lk n
    if l.tripped != 0 || l.olOff || (nvp s n).lockFault then (4600, 5200)
    else if l.drive != 0 then (let v := convN (l.cur.natAbs * 820) 1000; (v, v))
    else (0, 20) := by
  unfold isense
  rw [selected, (ix_bridge n).1, (ix_bridge n).2, runs]
  rfl

end

/-- Before the die is configured the sense output is at high impedance (R265). -/
theorem isense_unconfigured (s : State) (stopped : gridRuns s = false) (waits : s.pwr.phase ≠ .pfwWait) : isense s = (0, 0) := by
  unfold isense
  rw [stopped]
  exact if_pos (by simp [waits])

end Sys2Proof.Laws

namespace Sys2Proof.Proofs

open Sys2Proof Sys2Proof.Machine Sys2Proof.Laws

/-- Settles O30: the output of the selected channel or bridge, by what it shows, and of a die not yet configured. -/
theorem senseOutput : Obligations.SenseOutput := by
  refine ⟨fun s c runs selected => ⟨fun finding => ?_, fun unlatched closedOff closedOn => ⟨fun conducting => ?_, fun idle => ?_⟩⟩,
    fun s n runs selected finding => ?_, fun s unconfigured => ?_⟩
  · rw [isense_channel s runs c selected]
    exact if_pos (by rcases finding with h | h | h | h | h <;> simp [h])
  · rw [isense_channel s runs c selected]
    rcases conducting with st | st
    all_goals simp [conducts, st, unlatched, closedOff, closedOn]
  · rw [isense_channel s runs c selected]
    rcases idle with st | st
    all_goals simp [conducts, st, unlatched, closedOff, closedOn]
  · rw [isense_bridge s runs n selected]
    exact if_pos (by rcases finding with h | h | h <;> simp [h])
  · refine isense_unconfigured s ?_ ?_
    all_goals rcases unconfigured with h | h | h | h <;> simp [gridRuns, h]

end Sys2Proof.Proofs

namespace Sys2Proof.Laws

open Sys2Proof Sys2Proof.Machine

/-! ## How a command that starts at once is answered (R366, R367, R378) -/

theorem onlyReplied_of_offPort {s t : State} (same : offPort t = offPort (wake 0 s)) : OnlyReplied s t := by
  have apart (u : State) : { offPort u with port := t.port, key.grants := t.key.grants } =
      { u with port := t.port, key.grants := t.key.grants } := rfl
  exact of_offPort (fun u => { u with port := t.port, key.grants := t.key.grants }) apart same

theorem offPort_begun (op : Nat) (p : Pkt) (s : State) : offPort (begun op p s) = offPort (wake 0 s) := rfl

/-- A command that starts runs: it counts as received and not yet replied to. -/
theorem begun_runs (op : Nat) (p : Pkt) (s : State) : ((begun op p s).port.flights.any fun g => g.no == (flightOf op p s).no) = true :=
  List.any_eq_true.2 ⟨flightOf op p s, List.mem_append_right _ (List.mem_singleton_self _), beq_self_eq_true _⟩

/-- A reply that a command brings about carries the address and the start of the state before it. -/
theorem mkReply_begun (op : Nat) (p : Pkt) (s : State) (st : Nat) (pl : List Byte) : mkReply (begun op p s) p op st pl = mkReply s p op st pl := by
  have addr : (begun op p s).pwr.addr = s.pwr.addr := of_begun (·.pwr.addr) (fun _ => rfl) (fun _ => rfl) op p s
  have boot : (begun op p s).led.bootCnt = s.led.bootCnt := of_begun (·.led.bootCnt) (fun _ => rfl) (fun _ => rfl) op p s
  rw [mkReply, addr, boot, mkReply]

/-- A command that completes is kept with its reply, unless its status is of class 0x01 (R378). -/
theorem complete_answered (op : Nat) (p : Pkt) (s t : State) (st : Nat) (pl : List Byte) (port : t.port = (begun op p s).port)
    (stays : st / 256 ≠ 1) : Answered op p st (if st = 0 then pl else []) (complete (flightOf op p s) st pl t) := by
  let k : Machine.Kept := { src := p.src, seq := p.seq, opcode := op, t0 := (wake 0 s).clk.mono }
  have kept : k ∈ t.port.kept := by
    rw [port]
    exact keep_newest _ _
  have listed : { k with reply := some (mkReply t p op st pl) } ∈ (complete (flightOf op p s) st pl t).port.kept := by
    rw [complete_kept _ _ _ _ (by rw [port]; exact begun_runs op p s), keepReply]
    dsimp only
    rw [if_neg (by exact stays)]
    exact List.mem_map.2 ⟨k, kept, if_pos (by simp [k])⟩
  exact ⟨_, listed, rfl, rfl, rfl, _, rfl, rfl, rfl, rfl, rfl, rfl⟩

theorem mem_sendReply_spi (r : Reply) (s : State) (spi : r.src = .spi) : r ∈ (sendReply r s).port.spiOut := by
  simp [sendReply, spi]

theorem mem_sendReply_net (r : Reply) (s : State) (net : r.src ≠ .spi) :
    ∃ fr ∈ (sendReply r s).port.out, fr.dst = Source.dst r.src ∧ fr.data = r.bytes := by
  cases source : r.src with
  | spi => exact absurd source net
  | net ip port => simp [sendReply, source, emit]

/-- A command refused for its parameters is answered with that status, and nothing else changes. -/
theorem command_refused (op : Nat) (body : Flight → State → CmdOut) (p : Pkt) (s : State) (st : Nat) (h : taken op p s = true)
    (allowed : st ≠ 0x0301) (hb : body (flightOf op p s) (begun op p s) = .fail st) : Refused op p st s (command op body p s) := by
  rw [command_fail op body p s st h allowed hb]
  refine ⟨onlyReplied_of_offPort ((offPort_complete ..).trans (offPort_begun ..)), fun loud => ?_⟩
  have sent : ∃ u, complete (flightOf op p s) st [] (begun op p s) = sendReply (mkReply s p op st []) u := by
    rw [complete, if_pos (begun_runs op p s), ← mkReply_begun op p s st []]
    exact ⟨_, if_neg (by simp [loud])⟩
  obtain ⟨u, eq⟩ := sent
  rw [eq]
  exact ⟨fun spi => mem_sendReply_spi _ u spi, fun net => mem_sendReply_net _ u net⟩

/-! ## SW_CLEAR (R257, R275) -/

section
variable (p : Pkt) (s : State) (ht : taken 0x0604 p s = true)

/-- The rules of SW_CLEAR on four bytes: the channel, then limp-home. -/
theorem swClear_body (size : p.payload.length = 4) (reserved : rsv 1 3 p.payload = true) (present : hasIndex s (u8 0 p.payload) = true) :
    sized 4 swClearBody (flightOf 0x0604 p s) (begun 0x0604 p s) = need (!s.sw.limp) 0x0201
      (match ix 24 (u8 0 p.payload), ix 8 (u8 0 p.payload - 24) with
      | some c, _ => .done (clearChan c (begun 0x0604 p s)) []
      | none, some n => .done (clearLock n (begun 0x0604 p s)) []
      | none, none => .fail 0x0103) := by
  rw [sized_eq _ _ _ _ size, ← begun_sw 0x0604 p s]
  exact need_pos (by simp [reserved, present]) ..

include ht

theorem swClear_channel (size : p.payload.length = 4) (reserved : rsv 1 3 p.payload = true) (normal : s.sw.limp = false) (c : Fin 24)
    (named : u8 0 p.payload = c.1) (present : hasChan s c.1 = true) :
    exec (.swClear p) s = .next (finish (flightOf 0x0604 p s) [] (clearChan c (begun 0x0604 p s))) := by
  refine congrArg Host.Outcome.next (command_done _ _ p s _ _ ht ?_)
  rw [swClear_body p s size reserved (by rw [named, hasIndex_chan, present]), need_not normal, named, ix_val]

theorem swClear_bridge (size : p.payload.length = 4) (reserved : rsv 1 3 p.payload = true) (normal : s.sw.limp = false) (n : Fin 8)
    (named : u8 0 p.payload = 24 + n.1) (present : hasPoint s n = true) :
    exec (.swClear p) s = .next (finish (flightOf 0x0604 p s) [] (clearLock n (begun 0x0604 p s))) := by
  refine congrArg Host.Outcome.next (command_done _ _ p s _ _ ht ?_)
  rw [swClear_body p s size reserved (by rw [named, hasIndex_bridge, present]), need_not normal, named, (ix_bridge n).1, (ix_bridge n).2]

theorem swClear_limp (size : p.payload.length = 4) (reserved : rsv 1 3 p.payload = true) (limp : s.sw.limp = true)
    (present : hasIndex s (u8 0 p.payload) = true) :
    exec (.swClear p) s = .next (complete (flightOf 0x0604 p s) 0x0201 [] (begun 0x0604 p s)) := by
  refine congrArg Host.Outcome.next (command_fail _ _ p s 0x0201 ht (by decide) ?_)
  rw [swClear_body p s size reserved present]
  exact need_neg (by simp [limp]) ..

theorem swClear_refused (bad : ¬ (p.payload.length = 4 ∧ rsv 1 3 p.payload = true ∧ hasIndex s (u8 0 p.payload) = true)) :
    ∃ t, exec (.swClear p) s = .next t ∧ Refused 0x0604 p 0x0103 s t := by
  refine ⟨_, rfl, command_refused _ _ p s _ ht (by decide) ?_⟩
  by_cases size : p.payload.length = 4
  · rw [sized_eq _ _ _ _ size]
    refine need_neg ?_ ..
    rw [Bool.eq_false_iff]
    intro fits
    simp only [flightOf_pkt, begun_hasIndex, Bool.and_eq_true] at fits
    exact bad ⟨size, fits⟩
  · exact sized_ne _ _ _ _ size

end

/-- A channel index the member has is an HS or LP channel's or a lock bridge's. -/
theorem hasIndex_cases {s : State} {i : Nat} (present : hasIndex s i = true) :
    (∃ c : Fin 24, i = c.1 ∧ hasChan s c.1 = true) ∨ ∃ n : Fin 8, i = 24 + n.1 ∧ hasPoint s n = true := by
  by_cases low : i < 24
  · exact .inl ⟨⟨i, low⟩, rfl, by rwa [hasIndex, if_pos low] at present⟩
  · rw [hasIndex, if_neg low, Bool.and_eq_true, decide_eq_true_eq, decide_eq_true_eq] at present
    exact .inr ⟨⟨i - 24, by omega⟩, by simp; omega, decide_eq_true present.2⟩

/-! ### What clearing sets, and what it leaves -/

section
variable (c : Fin 24) (s : State)

theorem clearChan_sw : (clearChan c s).sw = { s.sw with ch := vset s.sw.ch c { vget s.sw.ch c with olOff := false, olOn := false } } := by
  simp [clearChan, e81, e82, vmod_eq_vset]

theorem clearChan_nvCh : (clearChan c s).nvCh = vset s.nvCh c {} := by simp [clearChan, e81, e82, vmod_eq_vset]
theorem clearChan_nvp (n : Fin 8) : nvp (clearChan c s) n = nvp s n := by simp [clearChan, e81, e82, nvp]
theorem clearChan_port : (clearChan c s).port = s.port := by simp [clearChan, e81, e82]

end

section
variable (n : Fin 8) (s : State)

@[simp] theorem setLockFault_sw (on : Bool) : (setLockFault n on s).sw = s.sw := by simp [setLockFault]

theorem setLockFault_nvp (on : Bool) : nvp (setLockFault n on s) n = { nvp s n with lockFault := on } := by
  rw [setLockFault, nvp, level_nvPt, ← nvp, nvp_modNvPt]

theorem clearLock_sw : (clearLock n s).sw = { s.sw with lk := vset s.sw.lk n { vget s.sw.lk n with olOff := false, tripped := 0 } } := by
  simp [clearLock, e82, clearOos, vmod_eq_vset]

theorem clearLock_nvCh : (clearLock n s).nvCh = s.nvCh := by simp [clearLock, e82, clearOos, setLockFault]
theorem clearLock_port : (clearLock n s).port = s.port := by simp [clearLock, e82, clearOos, setLockFault]

theorem clearLock_nvp : (nvp (clearLock n s) n).lockFault = false ∧ (nvp (clearLock n s) n).oos = (nvp s n).oos &&& ~~~0x20 := by
  rw [clearLock, e82, nvp, level_nvPt, ← nvp, clearOos_nvp, setLockFault_nvp]
  exact ⟨rfl, rfl⟩

theorem clearLock_nvp_other (k : Fin 8) (other : k ≠ n) : nvp (clearLock n s) k = nvp s k := by
  simp [clearLock, e82, clearOos, setLockFault, nvp, vget_vmod_other _ _ _ _ other]

end

theorem finish_sw (f : Flight) (pl : List Byte) (s : State) : (finish f pl s).sw = s.sw := complete_sw ..
theorem finish_nvCh (f : Flight) (pl : List Byte) (s : State) : (finish f pl s).nvCh = s.nvCh := complete_nvCh ..

end Sys2Proof.Laws

namespace Sys2Proof.Proofs

open Sys2Proof Sys2Proof.Machine Sys2Proof.Laws

/-- Settles O52: the refusals by their check, and a clearing by what the channel's or the bridge's own clearing sets. -/
theorem swClearRule : Obligations.SwClearRule := by
  intro p s ht good
  refine ⟨swClear_refused p s ht, fun ⟨size, reserved, present⟩ limp => ?_, fun ⟨size, reserved, present⟩ normal => ?_⟩
  · exact ⟨_, swClear_limp p s ht size reserved limp present, onlyReplied_of_offPort ((offPort_complete ..).trans (offPort_begun ..)),
      complete_answered 0x0604 p s (begun 0x0604 p s) 0x0201 [] rfl (by decide)⟩
  · rcases hasIndex_cases present with ⟨c, named, has⟩ | ⟨n, named, has⟩
    · refine ⟨_, swClear_channel p s ht size reserved normal c named has,
        complete_answered 0x0604 p s _ 0 [] (clearChan_port ..) (by decide), fun k own => ?_, fun k other => ?_, fun k own => ?_, fun k _ => ?_⟩
      · obtain rfl : k = c := Fin.ext (own.symm.trans named)
        simp [finish_sw, finish_nvCh, clearChan_sw, clearChan_nvCh, latchBits, b2n]
      · have apart : k ≠ c := fun same => other (same ▸ named)
        simp [finish_sw, finish_nvCh, clearChan_sw, clearChan_nvCh, vget_vset_other _ _ _ _ apart]
      · omega
      · simp [nvp_finish, clearChan_nvp, finish_sw, clearChan_sw]
    · refine ⟨_, swClear_bridge p s ht size reserved normal n named has,
        complete_answered 0x0604 p s _ 0 [] (clearLock_port ..) (by decide), fun k own => ?_, fun k other => ?_, fun k own => ?_, fun k other => ?_⟩
      · omega
      · simp [finish_sw, finish_nvCh, clearLock_sw, clearLock_nvCh]
      · obtain rfl : k = n := Fin.ext (by omega)
        simp [nvp_finish, clearLock_nvp, finish_sw, clearLock_sw]
      · have apart : k ≠ n := fun same => other (same ▸ named)
        simp [nvp_finish, clearLock_nvp_other n _ k apart, finish_sw, clearLock_sw, vget_vset_other _ _ _ _ apart]

end Sys2Proof.Proofs

namespace Sys2Proof.Laws

open Sys2Proof Sys2Proof.Machine

/-! ## SW_COMMIT (R271, R272) -/

theorem swCommit_applies (p : Pkt) (s : State) (m : Nat) (cs : List BlkCopy) (ht : taken 0x0601 p s = true) (hp : p.payload = le 4 m)
    (pos : 0 < m) (small : m < 2 ^ 32) :
    let u := begun 0x0601 p s
    (∀ i ∈ maskChans m, hasIndex u i = true) → Takes u ((maskChans m).map (0x0601 + ·)) cs → fbDistinct u cs = true →
    (∀ i ∈ maskChans m, ∀ c, ix 24 i = some c → (vget u.sw.ch c).st = .off) →
    (∀ i ∈ maskChans m, 24 ≤ i → ∀ n, ix 8 (i - 24) = some n → sessOpen u n = false) →
    exec (.swCommit p) s = .next (finish (flightOf 0x0601 p s) (le 8 s.clk.time) (commitCopies cs u)) ∧
    ∀ c, cs = [c] → committedCopy (commitCopies cs u) c.id = some { c with tCommit := s.clk.time, bstate := 1 } := by
  intro u present takes distinct off idle
  have clock : now u = s.clk.time := congrArg Clk.time (begun_clk 0x0601 p s)
  have mask : u32 0 p.payload = m := by
    rw [hp, ← List.append_nil (le 4 m), u32, fld_le_append, Nat.mod_eq_of_lt (by simpa using small)]
  have free : ((maskChans m).all fun i => match ix 24 i with
      | some c => (vget u.sw.ch c).st == .off
      | none => (ix 8 (i - 24)).all fun n => !sessOpen u n) = true := by
    refine List.all_eq_true.2 fun i named => ?_
    cases chan : ix 24 i with
    | some c => simpa using off i named c chan
    | none =>
      have bridge : 24 ≤ i := by
        by_contra low
        exact absurd chan (by simp [ix, not_le.1 low])
      cases point : ix 8 (i - 24) with
      | none => rfl
      | some n => simpa using idle i named bridge n point
  have named : (decide (0 < m) && (maskChans m).all (hasIndex u)) = true := by
    rw [decide_eq_true pos, List.all_eq_true.2 present]
    rfl
  refine ⟨congrArg Host.Outcome.next (command_done _ _ p s _ _ ht ?_), ?_⟩
  · rw [sized_eq _ _ _ _ (by simp [hp]), ← clock]
    unfold swCommitBody
    simp only [flightOf_pkt, mask]
    rw [need_pos named, takeStored_of_takes _ _ _ _ takes, need_pos distinct]
    exact need_pos free ..
  · rintro c rfl
    rw [committedCopy_commitCopies, clock]

/-! ## SW_SET (R252, R253, R255, R273) -/

/-- A command taken that its rules deny answers ST_DENIED, with E122. -/
theorem command_barred (op : Nat) (body : Flight → State → CmdOut) (p : Pkt) (s : State) (h : taken op p s = true)
    (hb : body (flightOf op p s) (begun op p s) = .fail 0x0301) : command op body p s =
      complete (flightOf op p s) 0x0301 [] (deniedEvent (flightOf op p s) 0 (begun op p s)) := by
  rw [command_of_taken op body p s h, startCmd]
  dsimp only
  rw [show { takeCmd p op (wake 0 s) with port.flights := (takeCmd p op (wake 0 s)).port.flights ++ [flightOf op p s] } = begun op p s from rfl, hb]
  rfl

section
variable (p : Pkt) (s : State) (c : Fin 24) (cmd d : Nat) (ht : taken 0x0602 p s = true)
  (hp : p.payload = le 1 c.1 ++ le 1 cmd ++ le 2 d) (present : hasChan s c.1 = true) (duty : d ≤ 1000) (code : cmd ≤ 2)

/-- The state in which limp-home has let go of the channel (R267). -/
def unmapped (s : State) (c : Fin 24) : State := { s with sw.lhMapped := s.sw.lhMapped &&& ~~~(BitVec.ofNat 24 (2 ^ c.1)) }

/-- A channel that is blocked, or off with a latch bit set, takes no command to conduct (R273). -/
def stuck (s : State) (c : Fin 24) : Prop := (vget s.sw.ch c).st = .blocked ∨ ((vget s.sw.ch c).st = .off ∧ latched s c = true)

theorem unstuck_iff : (!((vget s.sw.ch c).st == .blocked) && !((vget s.sw.ch c).st == .off && latched s c)) = true ↔ ¬ stuck s c := by
  simp [stuck, imp_iff_not_or]

include hp present duty code

/-- The rules of SW_SET on well-formed parameters: the duty only of a channel of role 3, then the role, then the state. -/
theorem swSet_body : sized 4 swSetBody (flightOf 0x0602 p s) (begun 0x0602 p s) =
    let w := begun 0x0602 p s
    let role := chRole (chP w c.1)
    need (!(cmd == 2 && role == 1)) 0x0103 <| need (role != 2) 0x0301 <| need (role == 1 || role == 3) 0x0201 <|
    if cmd = 0 then .done (chanOff c (unmapped w c)) []
    else need (!((vget w.sw.ch c).st == .blocked) && !((vget w.sw.ch c).st == .off && latched w c)) 0x0201 <|
      .done (chanOn c (if cmd = 1 then 1000 else d) (unmapped w c)) [] := by
  have index : u8 0 p.payload = c.1 := by
    rw [hp, List.append_assoc, u8, fld_le_append]
    omega
  have command : u8 1 p.payload = cmd := hp ▸ fld_le_at 1 1 cmd (le 1 c.1) (le 2 d) rfl (by omega)
  have value : u16 2 p.payload = d := by
    rw [hp, ← List.append_nil (_ ++ le 2 d)]
    exact fld_le_at 2 2 d _ [] (by simp) (by omega)
  have named : chanOf (begun 0x0602 p s) c.1 = some c := chanOf_present _ c (by simpa using present)
  rw [sized_eq _ _ _ _ (by simp [hp])]
  unfold swSetBody
  simp only [flightOf_pkt, index, command, value, named, decide_eq_true code, decide_eq_true duty, Bool.true_and]
  rfl

include ht

theorem swSet_denied (coil : chRole (chP (begun 0x0602 p s) c.1) = 2) : exec (.swSet p) s =
    .next (complete (flightOf 0x0602 p s) 0x0301 [] (deniedEvent (flightOf 0x0602 p s) 0 (begun 0x0602 p s))) := by
  refine congrArg Host.Outcome.next (command_barred _ _ p s ht ?_)
  rw [swSet_body p s c cmd d hp present duty code]
  simp [need, coil]

theorem swSet_unused (unused : chRole (chP (begun 0x0602 p s) c.1) = 0) : exec (.swSet p) s =
    .next (complete (flightOf 0x0602 p s) 0x0201 [] (begun 0x0602 p s)) := by
  refine congrArg Host.Outcome.next (command_fail _ _ p s 0x0201 ht (by decide) ?_)
  rw [swSet_body p s c cmd d hp present duty code]
  simp [need, unused]

theorem swSet_dutyless (switched : chRole (chP (begun 0x0602 p s) c.1) = 1) (asks : cmd = 2) : exec (.swSet p) s =
    .next (complete (flightOf 0x0602 p s) 0x0103 [] (begun 0x0602 p s)) := by
  refine congrArg Host.Outcome.next (command_fail _ _ p s 0x0103 ht (by decide) ?_)
  rw [swSet_body p s c cmd d hp present duty code]
  simp [need, switched, asks]

section
variable (driven : chRole (chP (begun 0x0602 p s) c.1) = 1 ∧ cmd ≤ 1 ∨ chRole (chP (begun 0x0602 p s) c.1) = 3)
include driven

omit ht in
/-- A channel that the host drives obeys by its state (R273). -/
theorem swSet_driven : sized 4 swSetBody (flightOf 0x0602 p s) (begun 0x0602 p s) =
    let w := begun 0x0602 p s
    if cmd = 0 then .done (chanOff c (unmapped w c)) []
    else need (!((vget w.sw.ch c).st == .blocked) && !((vget w.sw.ch c).st == .off && latched w c)) 0x0201 <|
      .done (chanOn c (if cmd = 1 then 1000 else d) (unmapped w c)) [] := by
  rw [swSet_body p s c cmd d hp present duty code]
  rcases driven with ⟨role, on⟩ | role
  · simp [need, role, show cmd ≠ 2 by omega]
  · simp [need, role]

theorem swSet_off (off : cmd = 0) : exec (.swSet p) s =
    .next (finish (flightOf 0x0602 p s) [] (chanOff c (unmapped (begun 0x0602 p s) c))) := by
  refine congrArg Host.Outcome.next (command_done _ _ p s _ _ ht ?_)
  rw [swSet_driven p s c cmd d hp present duty code driven, off]
  rfl

theorem swSet_on (on : 1 ≤ cmd) (may : ¬ stuck (begun 0x0602 p s) c) : exec (.swSet p) s =
    .next (finish (flightOf 0x0602 p s) [] (chanOn c (if cmd = 1 then 1000 else d) (unmapped (begun 0x0602 p s) c))) := by
  refine congrArg Host.Outcome.next (command_done _ _ p s _ _ ht ?_)
  rw [swSet_driven p s c cmd d hp present duty code driven]
  exact (if_neg (by omega)).trans (need_pos ((unstuck_iff _ c).2 may) ..)

theorem swSet_stuck (on : 1 ≤ cmd) (bars : stuck (begun 0x0602 p s) c) : exec (.swSet p) s =
    .next (complete (flightOf 0x0602 p s) 0x0201 [] (begun 0x0602 p s)) := by
  refine congrArg Host.Outcome.next (command_fail _ _ p s 0x0201 ht (by decide) ?_)
  rw [swSet_driven p s c cmd d hp present duty code driven]
  refine (if_neg (by omega)).trans (need_neg ?_ ..)
  rw [Bool.eq_false_iff, Ne, unstuck_iff]
  exact not_not_intro bars

end
end

/-! ### Channels commanded off and on (R255) -/

section
variable (c : Fin 24) (d : Nat) (s : State)

theorem chanOff_eq : chanOff c s = { s with sw.ch := vset s.sw.ch c { vget s.sw.ch c with
    st := if s.sw.uv = true ∧ (vget s.sw.ch c).st = .uvOff then .uvOff else .off, cmd := false, duty := 0, hold := 1000
    offAt := if (vget s.sw.ch c).st = .off then (vget s.sw.ch c).offAt else s.clk.mono } } := by
  simp [chanOff, modChan, vmod_eq_vset]

theorem chanOn_off (off : (vget s.sw.ch c).st = .off) (clear : latched s c = false) : chanOn c d s =
    { s with sw.ch := vset s.sw.ch c { vget s.sw.ch c with
      st := if s.sw.uv then .uvOff else .inrush, cmd := true, duty := d, hold := 1000, onAt := s.clk.mono } } := by
  simp [chanOn, modChan, vmod_eq_vset, off, clear]

theorem chanOn_stays (other : (vget s.sw.ch c).st ≠ .off) : chanOn c d s =
    { s with sw.ch := vset s.sw.ch c { vget s.sw.ch c with cmd := true, duty := d, hold := 1000 } } := by
  simp [chanOn, modChan, vmod_eq_vset, other]

end

theorem clearChan_eq (c : Fin 24) (s : State) : clearChan c s = e82 c.1 1 false (e82 c.1 0 false (e81 c { s with
    nvCh := vset s.nvCh c {}, sw.ch := vset s.sw.ch c { vget s.sw.ch c with olOff := false, olOn := false } })) := rfl

/-! ## SW_STATUS, SW_SENSE and SW_LOCK (R264, R265, R274, R276, R277) -/

section
variable (p : Pkt) (s : State)

theorem swStatus_channel (c : Fin 24) (ht : taken 0x0603 p s = true) (hp : p.payload = [BitVec.ofNat 8 c.1, 0, 0, 0])
    (present : hasChan s c.1 = true) : exec (.swStatus p) s =
      .next (finish (flightOf 0x0603 p s) (chStatus (begun 0x0603 p s) c) (begun 0x0603 p s)) := by
  have named : u8 0 p.payload = c.1 := hp ▸ u8_unit _ (by omega) _
  refine congrArg Host.Outcome.next (command_done _ _ p s _ _ ht ?_)
  rw [sized_eq _ _ _ _ (by simp [hp])]
  unfold swStatusBody
  simp only [flightOf_pkt, named, ix_val]
  exact need_pos (by rw [hasIndex_chan, begun_hasChan, present, hp]; rfl) ..

theorem swStatus_bridge (n : Fin 8) (ht : taken 0x0603 p s = true) (hp : p.payload = [BitVec.ofNat 8 (24 + n.1), 0, 0, 0])
    (present : hasPoint s n = true) : exec (.swStatus p) s =
      .next (finish (flightOf 0x0603 p s) (lkStatus (begun 0x0603 p s) n) (begun 0x0603 p s)) := by
  have named : u8 0 p.payload = 24 + n.1 := hp ▸ u8_unit _ (by omega) _
  refine congrArg Host.Outcome.next (command_done _ _ p s _ _ ht ?_)
  rw [sized_eq _ _ _ _ (by simp [hp])]
  unfold swStatusBody
  simp only [flightOf_pkt, named, (ix_bridge n).1, (ix_bridge n).2]
  exact need_pos (by rw [hasIndex_bridge, begun_hasPoint, present, hp]; rfl) ..

theorem swSense_selects (i : Fin 32) (ht : taken 0x0605 p s = true) (hp : p.payload = [BitVec.ofNat 8 i.1, 0, 0, 0])
    (present : hasIndex s i.1 = true) : exec (.swSense p) s =
      .next (finish (flightOf 0x0605 p s) [] { begun 0x0605 p s with sw.sense := i.1 }) := by
  have named : u8 0 p.payload = i.1 := hp ▸ u8_unit _ (by omega) _
  refine congrArg Host.Outcome.next (command_done _ _ p s _ _ ht ?_)
  rw [sized_eq _ _ _ _ (by simp [hp])]
  unfold swSenseBody
  simp only [flightOf_pkt, named]
  exact need_pos (by rw [begun_hasIndex, present, hp]; rfl) ..

theorem vset_vset {α : Type} {n : Nat} (v : Vector α n) (i : Fin n) (x y : α) : vset (vset v i x) i y = vset v i y := by simp [vset]

theorem modLock_modLock (n : Fin 8) (f g : Lock → Lock) : modLock n f (modLock n g s) = modLock n (fun l => f (g l)) s := by
  simp [modLock, vmod]

/-- A lock operation begins with its first drive (R263). -/
theorem startLock_eq (n : Fin 8) (op : Nat) : startLock n op s = { s with sw.lk := vset s.sw.lk n { vget s.sw.lk n with
    op, tries := 1, back := false, drive := op, brake := false, t0 := s.clk.mono, tripped := 0 } } :=
  modLock_modLock ..

theorem swLock_starts (n : Fin 8) (op : Fin 2) (ht : taken 0x0606 p s = true)
    (hp : p.payload = [BitVec.ofNat 8 (n.1 + 1), BitVec.ofNat 8 op.1, 0, 0]) (present : hasPoint s n = true) :
    let u := begun 0x0606 p s
    lkEn (lkB u n) = true → (nvp u n).lockFault = false → (vget u.sw.lk n).op = 0 → (vget u.sw.lk n).cmd = none → lockUp u = true →
    (op = 1 → unlockOk u n = true) → exec (.swLock p) s = .next { u with sw.lk := vset u.sw.lk n { vget u.sw.lk n with
      op := op.1 + 1, tries := 1, back := false, drive := op.1 + 1, brake := false, t0 := u.clk.mono, tripped := 0
      cmd := some (flightOf 0x0606 p s) } } := by
  intro u enabled sound idle free up may
  have point : u8 0 p.payload = n.1 + 1 := hp ▸ u8_pno n _
  have which : u8 1 p.payload = op.1 := hp ▸ u8_second _ _ (by omega) _
  have allowed : (op.1 == 0 || unlockOk u n) = true := by
    match op with
    | 0 => rfl
    | 1 => exact may rfl
  have ready : (lockUp u && !(nvp u n).lockFault && (vget u.sw.lk n).op == 0 && (vget u.sw.lk n).cmd.isNone &&
      (op.1 == 0 || unlockOk u n)) = true := by
    rw [up, sound, idle, free, allowed]
    rfl
  refine congrArg Host.Outcome.next (command_wait _ _ p s _ ht ?_)
  rw [sized_eq _ _ _ _ (by simp [hp])]
  unfold swLockBody
  simp only [flightOf_pkt, pointOf_begun 0x0606 p s n _ present point, which]
  rw [need_pos (by rw [decide_eq_true (by omega), hp]; rfl), need_pos enabled, need_pos ready]
  exact congrArg CmdOut.wait ((congrArg (modLock n _) (modLock_modLock ..)).trans (modLock_modLock ..))

end
end Sys2Proof.Laws

namespace Sys2Proof.Proofs

open Sys2Proof Sys2Proof.Machine Sys2Proof.Laws

/-- Settles O29: each command by its rules on the state that counts it, and what a channel commanded off or on becomes. -/
theorem switchCommandsComplete : Obligations.SwitchCommandsComplete := by
  refine ⟨swCommit_applies, ?_, fun c d s => ⟨chanOff_eq c s, chanOn_off c d s, chanOn_stays c d s⟩, ?_, ?_, ?_, ?_, ?_⟩
  · intro p s c cmd d ht hp present duty code f w u role st stuck
    refine ⟨?_, ?_, ?_, ?_, ?_, ?_, ?_⟩
    · rintro driven rfl
      exact swSet_off p s c 0 d ht hp present duty code (driven.imp (⟨·, by omega⟩) id) rfl
    · rintro driven rfl may
      exact swSet_on p s c 1 d ht hp present duty code (driven.imp (⟨·, le_rfl⟩) id) le_rfl may
    · rintro driven rfl may
      exact swSet_on p s c 2 d ht hp present duty code (.inr driven) (by omega) may
    · intro driven bars
      exact swSet_stuck p s c cmd d ht hp present duty code (driven.imp (fun ⟨r, e⟩ => ⟨r, e.le⟩) And.left)
        (driven.elim (fun ⟨_, e⟩ => e.ge) And.right) bars
    · exact swSet_dutyless p s c cmd d ht hp present duty code
    · exact swSet_denied p s c cmd d ht hp present duty code
    · exact swSet_unused p s c cmd d ht hp present duty code
  · intro p s c ht hp present u x
    have clock : s.clk.time = now u := by simp [now, u]
    rw [clock, swStatus_channel p s c ht hp present]
    rfl
  · intro p s n ht hp present u l
    have clock : s.clk.time = now u := by simp [now, u]
    rw [clock, swStatus_bridge p s n ht hp present]
    rfl
  · intro p s ht u normal
    have normal : s.sw.limp = false := by simpa [u] using normal
    refine ⟨fun c hp present => ?_, fun n hp present => ?_⟩
    · have named : u8 0 p.payload = c.1 := hp ▸ u8_unit _ (by omega) _
      rw [swClear_channel p s ht (by simp [hp]) (by simp [hp]; rfl) normal c named (by simpa [u] using present), clearChan_eq]
    · have named : u8 0 p.payload = 24 + n.1 := hp ▸ u8_unit _ (by omega) _
      obtain ⟨fault, oos⟩ := clearLock_nvp n u
      exact ⟨_, swClear_bridge p s ht (by simp [hp]) (by simp [hp]; rfl) normal n named (by simpa [u] using present), rfl,
        by rw [nvp_finish, fault], by rw [nvp_finish, oos]⟩
  · exact fun p s i ht hp present => swSense_selects p s i ht hp present
  · exact fun p s n op ht hp present => swLock_starts p s n op ht hp present

end Sys2Proof.Proofs

namespace Sys2Proof.Laws

open Sys2Proof Sys2Proof.Machine

/-! ## What the end of a session does to the switches (R19, R233, R255)

Only the opening of the contactor reaches them, and of them it changes the channel that drives the point's coil. -/

section
variable (n : Fin 8) (s : State)

@[simp] theorem setPhase_sw (p : HlcPhase) : (setPhase n p s).sw = s.sw := by
  unfold setPhase e55
  split
  · rfl
  · simp

@[simp] theorem markEnd_sw (r : EndReason) : (markEnd n r s).sw = s.sw := by
  unfold markEnd
  split
  · simp
  · rfl

@[simp] theorem weldPhase_sw : (weldPhase n s).sw = s.sw := by
  unfold weldPhase
  split
  · simp
  · rfl

@[simp] theorem closeValues_sw (r : EndReason) (flags : Nat) : (closeValues n r flags s).sw = s.sw := by
  unfold closeValues
  split
  · rfl
  · rw [setPhase_sw, of_offMeter State.sw (fun _ => rfl) (offMeter_boundary ..)]
    rfl

@[simp] theorem tryClose_sw (flags : Nat) : (tryClose n flags s).sw = s.sw := by
  unfold tryClose
  split
  · split
    · simp
    · rfl
  · rfl

@[simp] theorem leaveDc_sw : (leaveDc n s).sw = s.sw := by
  obtain ⟨h, eq⟩ := leaveDc_eq n s
  rw [eq]

theorem openCoil_sw : (openCoil n s).sw = s.sw ∨ ∃ c, coilOf s n = some c ∧ (openCoil n s).sw = (chanOff c s).sw := by
  unfold openCoil
  dsimp only
  split
  · exact .inl rfl
  · cases coil : coilOf s n with
    | none => exact .inl rfl
    | some c => exact .inr ⟨c, rfl, rfl⟩

theorem openCoil_lk : (openCoil n s).sw.lk = s.sw.lk := by
  rcases openCoil_sw n s with same | ⟨c, -, off⟩
  · rw [same]
  · rw [off]
    rfl

theorem endNow_lk (r : EndReason) : (endNow n r s).sw.lk = s.sw.lk := by
  unfold endNow
  split
  · simp [openCoil_lk]
  · rfl

theorem endSoft_lk (r : EndReason) : (endSoft n r s).sw.lk = s.sw.lk := by
  unfold endSoft
  split
  · simp
  · exact endNow_lk n s r

theorem setOos_lk (i : Nat) : (setOos n i s).sw.lk = s.sw.lk := by
  unfold setOos
  dsimp only
  split
  · rw [endSoft_lk, modNvPt_sw]
  · rfl

theorem setOos_port (i : Nat) : (setOos n i s).port.flights = s.port.flights :=
  of_offPoint (·.port.flights) (fun _ => rfl) (offPoint_setOos n i s)

theorem followSig_sw : (followSig n s).sw = s.sw := by
  have one (k : Fin 8) (t : State) : (followOne k t).sw = t.sw := by
    unfold followOne
    dsimp only
    repeat' split
    all_goals rfl
  unfold followSig
  split
  · exact foldl_keeps State.sw _ (fun t k => one k t) _ s
  · exact one n s

theorem inStateC_sw : (inStateC n s).sw = s.sw := by
  unfold inStateC
  split
  all_goals rfl

end

/-! ## Lock operations (R263, R264, R268) -/

section
variable (n : Fin 8) (s : State)

theorem modLock_eq (f : Lock → Lock) : modLock n f s = { s with sw.lk := vset s.sw.lk n (f (vget s.sw.lk n)) } := rfl

/-- A point that has a lock, idle and sound, starts the operation that is due while the application can work the locks (R264). -/
theorem lockOperation_starts (present : hasPoint s n = true) (enabled : lkEn (lkB s n) = true) (idle : (vget s.sw.lk n).op = 0)
    (sound : (nvp s n).lockFault = false) (up : lockUp s = true) :
    let l := vget s.sw.lk n
    exec (.lockOperation n) s = .next (if l.needLock then startLock n 1 s
      else if l.wantUnlock && unlockOk s n then startLock n 2 s
      else if l.repeatOp = 1 ∧ !l.lks then startLock n 1 (modLock n (fun l => { l with repeatOp := 0 }) s)
      else if l.repeatOp = 2 ∧ l.lks ∧ unlockOk s n then startLock n 2 (modLock n (fun l => { l with repeatOp := 0 }) s)
      else s) :=
  congrArg Host.Outcome.next (if_neg (by simp [present, enabled, idle, sound, up]))

theorem startLock_repeat (op : Nat) : startLock n op (modLock n (fun l => { l with repeatOp := 0 }) s) = { s with
    sw.lk := vset s.sw.lk n { vget s.sw.lk n with
      repeatOp := 0, op, tries := 1, back := false, drive := op, brake := false, t0 := s.clk.mono, tripped := 0 } } := by
  rw [startLock_eq, modLock_eq, vget_vset_same, vset_vset]

theorem holdUnlock_holds (unlocks : (vget s.sw.lk n).op = 2) (barred : unlockOk s n = false) : holdUnlock n s =
    { s with sw.lk := vset s.sw.lk n { vget s.sw.lk n with op := 0, drive := 0, brake := true, back := false, wantUnlock := true } } :=
  if_pos (by simp [unlocks, barred])

theorem lockDrive_waits (back : Bool) (unlocks : (vget s.sw.lk n).op = 2) (barred : unlockOk s n = false) : lockDrive n back s =
    { s with sw.lk := vset s.sw.lk n { vget s.sw.lk n with op := 0, drive := 0, brake := true, back := false, wantUnlock := true } } :=
  (if_pos (by simp [unlocks, barred])).trans (holdUnlock_holds n s unlocks barred)

theorem lockDrive_drives (back : Bool) (may : (vget s.sw.lk n).op ≠ 2 ∨ unlockOk s n = true) :
    let l := vget s.sw.lk n
    lockDrive n back s = { s with sw.lk := vset s.sw.lk n { l with
      back, tries := if back then l.tries else l.tries + 1, drive := if back then 3 - l.op else l.op, brake := false
      t0 := s.clk.mono, tripped := 0 } } := by
  have free : ¬ ((vget s.sw.lk n).op = 2 ∧ (!unlockOk s n) = true) := by
    rintro ⟨unlocks, barred⟩
    rcases may with locks | ok
    · exact locks unlocks
    · simp [ok] at barred
  refine (if_neg free).trans ?_
  cases back with
  | true => exact modLock_modLock ..
  | false => exact modLock_modLock ..

/-- The current of a motor has stayed above LK_STALL for 20 ms (R263). -/
def stalled (s : State) (n : Fin 8) (ma us : Nat) : Prop := lkMotor (lkB s n) = true ∧ lkStall (lkB s n) < ma ∧ 20000 ≤ us

theorem lockDriveEnd_ends (ma us : Nat) (drives : (vget s.sw.lk n).drive ≠ 0)
    (ended : stalled s n ma us ∨ (vget s.sw.lk n).t0 + lkPulse (lkB s n) * 1000 ≤ s.clk.mono) :
    exec (.lockDriveEnd n ma us) s = .next (if (vget s.sw.lk n).back then lockDrive n false s
      else modLock n (fun l => { l with drive := 0, brake := true, t0 := s.clk.mono, cur := ma }) s) := by
  refine congrArg Host.Outcome.next (if_pos ?_)
  rcases ended with ⟨motor, above, long⟩ | late
  · simp [drives, motor, above, long]
  · simp [drives, elapsed, late]

theorem lockDriveEnd_runs (ma us : Nat)
    (runs : (vget s.sw.lk n).drive = 0 ∨ (¬ stalled s n ma us ∧ s.clk.mono < (vget s.sw.lk n).t0 + lkPulse (lkB s n) * 1000)) :
    exec (.lockDriveEnd n ma us) s = .next s := by
  refine congrArg Host.Outcome.next (if_neg ?_)
  rcases runs with still | ⟨moves, early⟩
  · simp [still]
  · intro ends
    simp only [Bool.and_eq_true, Bool.or_eq_true, decide_eq_true_eq, elapsed] at ends
    obtain ⟨-, ⟨⟨motor, above⟩, long⟩ | late⟩ := ends
    · exact moves ⟨motor, above, long⟩
    · omega

/-! ### The position (R263, R264) -/

section
variable (high : Bool) (us : Nat)

theorem lockSense_clk : (lockSense n high us s).clk = s.clk := by
  unfold lockSense
  split
  all_goals rfl

theorem lockSense_lkB : lkB (lockSense n high us s) n = lkB s n := by
  unfold lockSense
  split
  all_goals rfl

/-- LOCK_CONFIRM by what the bridge does at the position taken (R263). -/
theorem lockConfirm_eq :
    let u := lockSense n high us s
    let l := vget u.sw.lk n
    exec (.lockConfirm n high us) s = .next (if l.op = 0 ∨ l.drive ≠ 0 then u
      else if l.back = false ∧ l.lks = (l.op == 1) ∧ s.clk.mono ≤ l.t0 + lkConf (lkB s n) * 1000 then lockDone n u
      else if s.clk.mono < l.t0 + lkConf (lkB s n) * 1000 then u
      else if l.back then lockDrive n false u
      else if l.tries ≤ lkRetry (lkB s n) then lockDrive n true u
      else lockFailed n u) := by
  show execLockConfirm n high us s = _
  unfold execLockConfirm
  simp [lockSense_clk, lockSense_lkB, elapsed]

end

/-! ### An operation that ends (R263, R264, R277) -/

/-- The state in which a lock command that waits has its answer. -/
def lockReplied (cmd : Option Flight) (pl : List Byte) (s : State) : State :=
  match cmd with
  | some f => finish f pl s
  | none => s

theorem lockReplied_sw (cmd : Option Flight) (pl : List Byte) : (lockReplied cmd pl s).sw = s.sw := by
  cases cmd with
  | none => rfl
  | some f => exact finish_sw f pl s

theorem lockReplied_nvp (cmd : Option Flight) (pl : List Byte) : nvp (lockReplied cmd pl s) n = nvp s n := by
  cases cmd with
  | none => rfl
  | some f => exact nvp_finish f pl s n

theorem lockReplied_flights (f g : Flight) (pl : List Byte) (running : g ∈ (lockReplied (some f) pl s).port.flights) :
    g ∈ s.port.flights ∧ g.no ≠ f.no := mem_flights_finish s f g pl running

/-- The bridge of an operation that has succeeded. -/
def lockEnded (l : Lock) : Lock := { l with
  op := 0, brake := false, lks := l.op == 1, cmd := none
  needLock := if l.op = 1 then false else l.needLock, wantUnlock := if l.op = 2 then false else l.wantUnlock }

/-- The state in which an operation has succeeded and is reported. -/
def lockTold (n : Fin 8) (s : State) : State :=
  pulse 85 (prm [(1, pno n), (1, b2n ((vget s.sw.lk n).op == 1))]) (modLock n lockEnded s)

/-- The state in which the point has responded to the lock. -/
def lockFollowed (n : Fin 8) (s : State) : State :=
  followSig n (if b2n ((vget s.sw.lk n).op == 1) = 1 ∧ (pil (lockTold n s) n).st = some .C then inStateC n (lockTold n s) else lockTold n s)

theorem lockDone_eq : lockDone n s =
    lockReplied (vget s.sw.lk n).cmd (le 1 (1 - b2n ((vget s.sw.lk n).op == 1)) ++ zeros 3) (lockFollowed n s) := rfl

theorem lockFollowed_sw : (lockFollowed n s).sw = { s.sw with lk := vset s.sw.lk n (lockEnded (vget s.sw.lk n)) } := by
  have told : (lockTold n s).sw = { s.sw with lk := vset s.sw.lk n (lockEnded (vget s.sw.lk n)) } := pulse_sw ..
  rw [lockFollowed, followSig_sw]
  split
  · rw [inStateC_sw, told]
  · exact told

theorem lockFollowed_flights : (lockFollowed n s).port.flights = s.port.flights := by
  have told : (lockTold n s).port.flights = s.port.flights := congrArg (·.flights) (pulse_port ..)
  rw [lockFollowed, of_offPoint (·.port.flights) (fun _ => rfl) (offPoint_followSig ..)]
  split
  · rw [← told]
    unfold inStateC
    split
    all_goals rfl
  · exact told

theorem lockDone_ends : ∃ t, lockDone n s = t ∧ (vget t.sw.lk n).op = 0 ∧ (vget t.sw.lk n).cmd = none ∧
    (vget t.sw.lk n).lks = ((vget s.sw.lk n).op == 1) ∧ ((vget s.sw.lk n).op = 1 → (vget t.sw.lk n).needLock = false) ∧
    ((vget s.sw.lk n).op = 2 → (vget t.sw.lk n).wantUnlock = false) ∧ ((vget s.sw.lk n).cmd = none → t.port.flights = s.port.flights) ∧
    (∀ f, (vget s.sw.lk n).cmd = some f → ∀ g ∈ t.port.flights, g ∈ s.port.flights ∧ g.no ≠ f.no) := by
  have bridge : vget (lockDone n s).sw.lk n = lockEnded (vget s.sw.lk n) := by
    rw [lockDone_eq, lockReplied_sw, lockFollowed_sw, vget_vset_same]
  refine ⟨lockDone n s, rfl, ?_⟩
  rw [bridge, ← lockFollowed_flights n s, lockDone_eq]
  refine ⟨rfl, rfl, rfl, fun locks => by simp [lockEnded, locks], fun unlocks => by simp [lockEnded, unlocks], fun unasked => ?_,
    fun f asks g running => ?_⟩
  · rw [unasked]
    rfl
  · rw [asks] at running
    exact lockReplied_flights _ f g _ running

/-- The state in which the last attempt has failed, before the command is answered. -/
def lockFaulted (n : Fin 8) (s : State) : State :=
  setOos n 5 (setLockFault n true (modLock n (fun l => { l with op := 0, brake := false, cmd := none }) s))

theorem lockFailed_eq : lockFailed n s = lockReplied (vget s.sw.lk n).cmd (le 1 2 ++ zeros 3) (lockFaulted n s) := rfl

/-- A lock fault puts its point out of service (R263, R264, R468). -/
theorem lockFault_latches : (nvp (setOos n 5 (setLockFault n true s)) n).lockFault = true ∧
    (nvp (setOos n 5 (setLockFault n true s)) n).oos.getLsbD 5 = true := by
  rw [setOos_nvp, setLockFault_nvp]
  simp

theorem lockFailed_fails : ∃ t, lockFailed n s = t ∧ (nvp t n).lockFault = true ∧ (nvp t n).oos.getLsbD 5 = true ∧
    (vget t.sw.lk n).op = 0 ∧ (∀ f, (vget s.sw.lk n).cmd = some f → ∀ g ∈ t.port.flights, g ∈ s.port.flights ∧ g.no ≠ f.no) := by
  have flights : (lockFaulted n s).port.flights = s.port.flights :=
    (setOos_port ..).trans (congrArg (·.flights) (level_port ..))
  have bridge : vget (lockFaulted n s).sw.lk n = { vget s.sw.lk n with op := 0, brake := false, cmd := none } := by
    rw [lockFaulted, setOos_lk, setLockFault_sw]
    exact vget_vset_same ..
  obtain ⟨fault, oos⟩ := lockFault_latches n (modLock n (fun l => { l with op := 0, brake := false, cmd := none }) s)
  refine ⟨_, lockFailed_eq n s, ?_, ?_, ?_, fun f asks g running => ?_⟩
  · rw [lockReplied_nvp]
    exact fault
  · rw [lockReplied_nvp]
    exact oos
  · rw [lockReplied_sw, bridge]
  · rw [asks] at running
    rw [← flights]
    exact lockReplied_flights _ f g _ running

theorem lockLost_faults (high : Bool) (us : Nat) (long : 100000 ≤ us) : ∃ t, exec (.lockLost n high us) s = .next t ∧
    (hasPoint s n = true → lkEn (lkB s n) = true → (saf s n).closed = true → high ≠ snsPol (lkB s n) → (nvp s n).lockFault = false →
      t = setOos n 5 (setLockFault n true (lockSense n high us s)) ∧ (nvp t n).lockFault = true ∧ (nvp t n).oos.getLsbD 5 = true) ∧
    (hasPoint s n = false ∨ lkEn (lkB s n) = false ∨ (saf s n).closed = false ∨ high = snsPol (lkB s n) ∨ (nvp s n).lockFault = true →
      t = lockSense n high us s) := by
  have sensed : lockSense n high us s = modLock n (fun l => { l with lks := high == snsPol (lkB s n) }) s := if_neg (by omega)
  have position : (vget (lockSense n high us s).sw.lk n).lks = (high == snsPol (lkB s n)) := by
    rw [sensed, modLock_eq]
    exact congrArg Lock.lks (vget_vset_same ..)
  have lost : exec (.lockLost n high us) s = .next (if hasPoint s n && lkEn (lkB s n) && (saf s n).closed && !(high == snsPol (lkB s n)) &&
      decide (100000 ≤ us) && !(nvp s n).lockFault then setOos n 5 (setLockFault n true (lockSense n high us s)) else lockSense n high us s) := by
    rw [← position]
    show execLockLost n high us s = _
    unfold execLockLost
    rw [sensed]
    rfl
  refine ⟨_, lost, fun present enabled closed unlocked sound => ?_, fun spared => if_neg ?_⟩
  · rw [if_pos (by simp [present, enabled, closed, unlocked, sound, long])]
    exact ⟨rfl, lockFault_latches n _⟩
  · rcases spared with h | h | h | h | h
    all_goals simp [h]

end
end Sys2Proof.Laws

namespace Sys2Proof.Laws

open Sys2Proof Sys2Proof.Machine

/-! ## Limp-home (R266, R267) -/

/-- A state that agrees with another when quiet, but for new switches, differs from it by these and by events. -/
theorem only_sw_of_quiet {s t : State} {sw : Switch} (same : quiet t = quiet { s with sw }) :
    t = { s with sw := t.sw, ev := t.ev, led := t.led, p100 := t.p100 } ∧ t.sw = sw := by
  have switches : t.sw = sw := of_quiet State.sw (fun _ => rfl) same
  have events : OnlyEvents { s with sw } t := onlyEvents_of_quiet _ _ same
  rw [← switches] at events
  exact ⟨events, switches⟩

theorem quiet_with_sw {s t : State} {old : Switch} (sw : Switch) (same : quiet t = quiet { s with sw := old }) :
    quiet { t with sw } = quiet { s with sw } :=
  of_quiet (fun x => quiet { x with sw }) (fun _ => rfl) (s := { s with sw := old }) same

/-- What limp-home does to one channel: it follows its inputs where the map names it. -/
def lhStep (t : State) (c : Fin 24) : State :=
  if !inLimpMap t c.1 then t
  else
    let on := lhOn t c.1
    let t := { t with sw.lhMapped := t.sw.lhMapped ||| BitVec.ofNat 24 (2 ^ c.1) }
    if on = (vget t.sw.ch c).cmd then t else if on then chanOn c 1000 t else chanOff c t

/-- The switches without the channels and the mark of those that limp-home has set. -/
def limpView (s : State) : Switch := { s.sw with ch := Vector.replicate 24 {}, lhMapped := 0 }

theorem of_limpView {α : Type} (f : Switch → α) (blind : ∀ w, f { w with ch := Vector.replicate 24 {}, lhMapped := 0 } = f w) {s t : State}
    (same : limpView t = limpView s) : f t.sw = f s.sw := by
  rw [← blind t.sw, ← blind s.sw]
  exact congrArg f same

section
variable {s t : State} (same : limpView t = limpView s)
include same

theorem inLimpMap_of_limpView (c : Nat) : inLimpMap t c = inLimpMap s c :=
  of_limpView (fun w => w.lhMap.any fun x => x.testBit c) (fun _ => rfl) same

theorem lhOn_of_limpView (c : Nat) : lhOn t c = lhOn s c :=
  of_limpView (fun w => (units 4).any fun k => let x := w.lhMap.getD k.1 0; x.testBit c && (vget w.lhIn k != x.testBit 24)) (fun _ => rfl) same

end

section
variable (t : State) (c : Fin 24)

/-- The ways a step of limp-home ends: the channel stays as it is, or it is commanded on or off as its inputs ask. -/
theorem lhStep_cases : (inLimpMap t c.1 = false ∧ lhStep t c = t) ∨ (inLimpMap t c.1 = true ∧ ∃ x mapped, x.cmd = lhOn t c.1 ∧
    lhStep t c = { t with sw.ch := vset t.sw.ch c x, sw.lhMapped := mapped }) := by
  unfold lhStep
  cases named : inLimpMap t c.1 with
  | false => exact .inl ⟨rfl, rfl⟩
  | true =>
    refine .inr ⟨rfl, ?_⟩
    have stays : vset t.sw.ch c (vget t.sw.ch c) = t.sw.ch := by simp [vset, vget]
    simp only [Bool.not_true, Bool.false_eq_true, if_false]
    split
    next asked => exact ⟨vget t.sw.ch c, _, asked.symm, by rw [stays]⟩
    next =>
      split
      next on => exact ⟨_, _, on.symm, rfl⟩
      next off => exact ⟨_, _, (Bool.eq_false_iff.2 off).symm, rfl⟩

theorem limpView_lhStep : limpView (lhStep t c) = limpView t := by
  rcases lhStep_cases t c with ⟨-, eq⟩ | ⟨-, x, mapped, -, eq⟩
  · rw [eq]
  · rw [eq]
    rfl

theorem lhStep_own : (vget (lhStep t c).sw.ch c).cmd = if inLimpMap t c.1 = true then lhOn t c.1 else (vget t.sw.ch c).cmd := by
  rcases lhStep_cases t c with ⟨named, eq⟩ | ⟨named, x, mapped, cmd, eq⟩
  · rw [eq, named]
    rfl
  · rw [eq, named, if_pos rfl, ← cmd]
    exact congrArg Chan.cmd (vget_vset_same ..)

theorem lhStep_other (j : Fin 24) (other : j ≠ c) : vget (lhStep t c).sw.ch j = vget t.sw.ch j := by
  rcases lhStep_cases t c with ⟨-, eq⟩ | ⟨-, x, mapped, -, eq⟩
  · rw [eq]
  · rw [eq]
    exact vget_vset_other _ _ _ _ other

end

section
variable (s : State)

/-- The state without the switches. -/
def unswitched (s : State) : State := { s with sw := {} }

/-- A state that agrees with another but for the switches differs from it by them alone. -/
theorem only_sw {s t : State} (same : unswitched t = unswitched s) : t = { s with sw := t.sw } := congrArg (fun u => { u with sw := t.sw }) same

theorem unswitched_lhStep (t : State) (c : Fin 24) : unswitched (lhStep t c) = unswitched t := by
  rcases lhStep_cases t c with ⟨-, eq⟩ | ⟨-, x, mapped, -, eq⟩
  · rw [eq]
  · rw [eq]
    rfl

section
variable (cs : List (Fin 24)) (c : Fin 24)

/-- A channel that the map does not name is commanded as before. -/
theorem lhSteps_unnamed (unnamed : inLimpMap s c.1 = false) : (vget (cs.foldl lhStep s).sw.ch c).cmd = (vget s.sw.ch c).cmd := by
  induction cs generalizing s with
  | nil => rfl
  | cons j cs ih =>
    rw [List.foldl_cons, ih _ (by rw [inLimpMap_of_limpView (limpView_lhStep s j), unnamed])]
    by_cases own : c = j
    · rw [← own, lhStep_own, unnamed]
      rfl
    · rw [lhStep_other s j c own]

/-- A channel that the map names, once reached, is commanded as its inputs ask. -/
theorem lhSteps_named (named : inLimpMap s c.1 = true) (mem : c ∈ cs) : (vget (cs.foldl lhStep s).sw.ch c).cmd = lhOn s c.1 := by
  have obeys (t : State) (same : limpView t = limpView s) : (vget (lhStep t c).sw.ch c).cmd = lhOn s c.1 := by
    rw [lhStep_own, inLimpMap_of_limpView same, named, lhOn_of_limpView same]
    rfl
  have stays (t : State) (j : Fin 24) (same : limpView t = limpView s) : limpView (lhStep t j) = limpView s := (limpView_lhStep t j).trans same
  have keeps (t : State) (j : Fin 24) (reached : limpView t = limpView s ∧ (vget t.sw.ch c).cmd = lhOn s c.1) :
      limpView (lhStep t j) = limpView s ∧ (vget (lhStep t j).sw.ch c).cmd = lhOn s c.1 := by
    refine ⟨stays t j reached.1, ?_⟩
    by_cases own : c = j
    · exact own ▸ obeys t reached.1
    · rw [lhStep_other t j c own, reached.2]
  exact (foldl_reaches _ (limpView · = limpView s) lhStep c keeps stays (fun t same => ⟨stays t c same, obeys t same⟩) cs s mem rfl).2

end

theorem lhDrive_eq : lhDrive s = (units 24).foldl lhStep s := rfl

theorem lhDrive_only : lhDrive s = { s with sw := (lhDrive s).sw } := by
  refine only_sw ?_
  rw [lhDrive_eq]
  exact foldl_keeps unswitched lhStep unswitched_lhStep (units 24) s

theorem limpView_lhDrive : limpView (lhDrive s) = limpView s := by
  rw [lhDrive_eq]
  exact foldl_keeps limpView lhStep limpView_lhStep (units 24) s

/-- In limp-home every channel of the map is commanded as its inputs ask, and the others stay as they are (R267). -/
theorem lhDrive_commands (c : Fin 24) : (vget (lhDrive s).sw.ch c).cmd = if inLimpMap s c.1 = true then lhOn s c.1 else (vget s.sw.ch c).cmd := by
  rw [lhDrive_eq]
  cases named : inLimpMap s c.1 with
  | false => exact lhSteps_unnamed s _ c named
  | true => exact lhSteps_named s _ c named (List.mem_finRange c)

/-- A bridge brakes at the entry into limp-home, and its operation is repeated (R266, R268). -/
def limpBraked (l : Lock) : Lock := if l.op = 0 then l else { l with op := 0, drive := 0, brake := true, repeatOp := l.op }

/-- The state in which limp-home has taken the bridges and the channels. -/
def limpEntered (s : State) : State := lhDrive { s with sw.lk := s.sw.lk.map limpBraked }

theorem limpEntered_only : limpEntered s = { s with sw := (limpEntered s).sw } := lhDrive_only _

theorem limpEntered_limp : (limpEntered s).sw.limp = s.sw.limp := by
  rw [limpEntered, of_limpView Switch.limp (fun _ => rfl) (limpView_lhDrive _)]

theorem limpEntered_lk : (limpEntered s).sw.lk = s.sw.lk.map limpBraked := by
  rw [limpEntered, of_limpView Switch.lk (fun _ => rfl) (limpView_lhDrive _)]

theorem limpEntered_commands (c : Fin 24) :
    (vget (limpEntered s).sw.ch c).cmd = if inLimpMap s c.1 = true then lhOn s c.1 else (vget s.sw.ch c).cmd := by
  rw [limpEntered, lhDrive_commands]
  rfl

theorem followLimp_stays (same : (s.sw.lhEn && appAway s) = s.sw.limp) : followLimp s = s := if_pos same

/-- Limp-home entered or left is reported, and entered it takes the bridges and the channels (R266, R278). -/
theorem followLimp_changes (change : (s.sw.lhEn && appAway s) ≠ s.sw.limp) : ∃ u, quiet u = quiet { s with sw.limp := s.sw.lhEn && appAway s } ∧
    followLimp s = if s.sw.lhEn && appAway s then limpEntered u else u :=
  ⟨level 87 0 _ _ { s with sw.limp := s.sw.lhEn && appAway s }, quiet_level .., if_neg change⟩

theorem followLimp_follows : ∃ t, followLimp s = t ∧ t = { s with sw := t.sw, ev := t.ev, led := t.led, p100 := t.p100 } ∧
    t.sw.limp = (s.sw.lhEn && appAway s) ∧ (t.sw.limp = s.sw.limp → t = s) ∧
    (t.sw.limp = true → s.sw.limp = false → (∀ c : Fin 24, (vget t.sw.ch c).cmd =
        if inLimpMap s c.1 = true then lhOn s c.1 else (vget s.sw.ch c).cmd) ∧
      ∀ n : Fin 8, vget t.sw.lk n = if (vget s.sw.lk n).op = 0 then vget s.sw.lk n else
        { vget s.sw.lk n with op := 0, drive := 0, brake := true, repeatOp := (vget s.sw.lk n).op }) ∧
    (t.sw.limp = false → t.sw = { s.sw with limp := false }) := by
  refine ⟨followLimp s, rfl, ?_⟩
  by_cases same : (s.sw.lhEn && appAway s) = s.sw.limp
  · rw [followLimp_stays s same]
    exact ⟨rfl, same.symm, fun _ => rfl, fun on off => by simp [on] at off, fun off => by rw [← off]⟩
  obtain ⟨u, quieted, eq⟩ := followLimp_changes s same
  obtain ⟨events, sw⟩ := only_sw_of_quiet quieted
  rw [eq]
  cases on : s.sw.lhEn && appAway s with
  | false =>
    rw [on] at sw same
    have limp : u.sw.limp = false := congrArg Switch.limp sw
    exact ⟨events, limp, fun stays => absurd (limp.symm.trans stays) same, fun entered => by simp [limp] at entered, fun _ => sw⟩
  | true =>
    rw [on] at sw same
    rw [if_pos rfl]
    have limp : (limpEntered u).sw.limp = true := (limpEntered_limp u).trans (congrArg Switch.limp sw)
    have apart : quiet (limpEntered u) = quiet { s with sw := (limpEntered u).sw } :=
      (congrArg quiet (limpEntered_only u)).trans (quiet_with_sw _ quieted)
    have view : limpView u = limpView { s with sw.limp := true } := by rw [limpView, sw, limpView]
    refine ⟨(only_sw_of_quiet apart).1, limp, fun stays => absurd (limp.symm.trans stays) same, fun _ _ => ⟨fun c => ?_, fun n => ?_⟩,
      fun off => by simp [limp] at off⟩
    · rw [limpEntered_commands, inLimpMap_of_limpView view, lhOn_of_limpView view, sw]
      rfl
    · rw [limpEntered_lk, vget_map, sw]
      rfl

/-- In limp-home the channels of the map follow a changed input (R266, R267). -/
theorem lhInputChange_follows (k : Fin 4) (high : Bool) : ∃ t, exec (.lhInputChange k high) s = .next t ∧ t = { s with sw := t.sw } ∧
    t.sw.lhIn = vset s.sw.lhIn k high ∧ (s.sw.limp = false → t = { s with sw.lhIn := t.sw.lhIn }) ∧
    (s.sw.limp = true → ∀ c : Fin 24, (vget t.sw.ch c).cmd = if inLimpMap s c.1 = true then lhOn t c.1 else (vget s.sw.ch c).cmd) := by
  let u : State := { s with sw.lhIn := vset s.sw.lhIn k high }
  have view : limpView (lhDrive u) = limpView u := limpView_lhDrive u
  have follows : exec (.lhInputChange k high) s = .next (if s.sw.limp then lhDrive u else u) := rfl
  rw [follows]
  cases limp : s.sw.limp with
  | false => exact ⟨u, rfl, rfl, rfl, fun _ => rfl, nofun⟩
  | true =>
    refine ⟨lhDrive u, rfl, lhDrive_only u, of_limpView Switch.lhIn (fun _ => rfl) view, nofun, fun _ c => ?_⟩
    rw [lhDrive_commands, lhOn_of_limpView view]
    rfl

theorem appRefreshTimeout_follows (running : s.pwr.appRunning = true) (cold : s.pwr.inWarm = false) (unreset : s.pwr.appResetAt = none)
    (awake : s.pwr.pstate = .run) : exec .appRefreshTimeout s = .next (followLimp { s with sw.stale := true }) :=
  congrArg Host.Outcome.next (if_pos (by simp [running, cold, unreset, awake]))

end
end Sys2Proof.Laws

namespace Sys2Proof.Proofs

open Sys2Proof Sys2Proof.Machine Sys2Proof.Laws

/-- Settles O28: each event of a lock by the case of its rule, and limp-home by what it does to the bridges and to each channel. -/
theorem locksAndLimpHomeComplete : Obligations.LocksAndLimpHomeComplete := by
  refine ⟨?_, ?_, fun _ _ _ _ => rfl, ?_, fun n back s may => lockDrive_drives n s back may, lockDone_ends, lockFailed_fails,
    fun n high us s long => lockLost_faults n s high us long, fun _ _ _ => rfl, followLimp_follows, appRefreshTimeout_follows,
    fun k high s => lhInputChange_follows s k high⟩
  · intro n s present enabled idle sound up l go
    rw [lockOperation_starts n s present enabled idle sound up]
    refine ⟨fun need => ?_, fun free asks may => ?_, fun free unasked again unlocked => ?_, fun free unasked again locked may => ?_⟩
    · simp only [l] at need
      simp [need, startLock_eq, go, l]
    · simp only [l] at free asks
      simp [free, asks, may, startLock_eq, go, l]
    · simp only [l] at free unasked again unlocked
      simp [free, unasked, again, unlocked, startLock_repeat, go, l]
    · simp only [l] at free unasked again locked
      simp [free, unasked, again, locked, may, startLock_repeat, go, l]
  · intro n ma us s l stalls
    refine ⟨fun drives ended => ?_, lockDriveEnd_runs n s ma us⟩
    rw [lockDriveEnd_ends n s ma us drives ended]
    refine ⟨fun first => ?_, fun back may => ?_, fun back unlocks barred => ?_⟩
    · exact congrArg Host.Outcome.next (if_neg (by simpa using first))
    · exact congrArg Host.Outcome.next ((if_pos back).trans (lockDrive_drives n s false may))
    · exact congrArg Host.Outcome.next ((if_pos back).trans (lockDrive_waits n s false unlocks barred))
  · intro n high us s u l good
    rw [lockConfirm_eq]
    refine ⟨fun idle => congrArg Host.Outcome.next (if_pos idle), fun runs stopped shows => ?_, fun runs stopped fails early => ?_,
      fun runs stopped fails late => ?_⟩
    all_goals rw [if_neg (not_or.2 ⟨runs, not_not_intro stopped⟩)]
    · exact congrArg Host.Outcome.next (if_pos shows)
    · exact congrArg Host.Outcome.next ((if_neg fails).trans (if_pos early))
    · rw [if_neg (show ¬ good from fails), if_neg (show ¬ s.clk.mono < l.t0 + lkConf (lkB s n) * 1000 by omega)]
      refine ⟨fun back => congrArg Host.Outcome.next (if_pos back), fun first again => ?_, fun first last => ?_⟩
      all_goals rw [if_neg (by simpa using first)]
      · exact congrArg Host.Outcome.next (if_pos again)
      · exact congrArg Host.Outcome.next (if_neg (Nat.not_le.2 last))

end Sys2Proof.Proofs

namespace Sys2Proof.Laws

open Sys2Proof Sys2Proof.Machine

/-! ## What a trip of a point reaches (R233, R234, R238) -/

section
variable (n : Fin 8) (s : State) (causes latch : BitVec 32)

/-- Ending a session whose contactor is commanded open already leaves the switches. -/
theorem endNow_sw_of_idle (r : EndReason) (idle : Idle n s) : (endNow n r s).sw = s.sw := by
  obtain ⟨coil, path⟩ := idle_of_gates n (gates_markEnd n r s) idle
  unfold endNow
  split
  · simp [openCoil_idle n _ coil path]
  · rfl

/-- The state in which a trip is recorded, before the contactor is commanded open. -/
def tripRecorded : State :=
  let fourth := resetMode (spB s n) == 0 && decide (3 ≤ autoResets s n)
  let same := (saf s n).tripAt.any fun t => decide (s.clk.mono < t + 100)
  let s := modNvPt n (fun x => { x with
    trip := if same then x.trip ||| causes else causes, tTrip := if same then x.tTrip else now s
    await := x.await ||| latch, tripped := x.tripped || latch != 0
    latch4 := x.latch4 || (latch != 0 && fourth) }) s
  let s := leaveDc n s
  let s := if same then s else e74 n causes 0xFF (modSafe n (fun x => { x with tripAt := some s.clk.mono }) s)
  modSafe n (fun x => { x with reqClose := false }) s

theorem tripPoint_ends : tripPoint n causes latch s = endNow n .safetyTrip (dropCut n (openCoil n (tripRecorded n s causes latch))) := rfl

theorem tripRecorded_sw : (tripRecorded n s causes latch).sw = s.sw := by
  unfold tripRecorded e74
  dsimp only
  split
  all_goals simp

theorem offPoint_tripRecorded : offPoint (tripRecorded n s causes latch) = offPoint s := by
  unfold tripRecorded
  dsimp only
  split
  all_goals simp

/-- A trip changes of the switches the channel that drives the point's coil, which goes off. -/
theorem tripPoint_sw : (tripPoint n causes latch s).sw = s.sw ∨
    ∃ c, coilOf s n = some c ∧ (tripPoint n causes latch s).sw = (chanOff c s).sw := by
  have clk := of_offPoint State.clk (fun _ => rfl) (offPoint_tripRecorded n s causes latch)
  have coil := of_offPoint (coilOf · n) (fun _ => rfl) (offPoint_tripRecorded n s causes latch)
  have idle : Idle n (dropCut n (openCoil n (tripRecorded n s causes latch))) := idle_of_gates n (gates_dropCut n _) (idle_openCoil n _)
  have opened : (tripPoint n causes latch s).sw = (openCoil n (tripRecorded n s causes latch)).sw := by
    rw [tripPoint_ends, endNow_sw_of_idle n _ _ idle, dropCut, modSafe_sw]
  rw [opened, ← coil]
  rcases openCoil_sw n (tripRecorded n s causes latch) with same | ⟨c, drives, off⟩
  · exact .inl (same.trans (tripRecorded_sw ..))
  · refine .inr ⟨c, drives, off.trans ?_⟩
    rw [chanOff_eq, chanOff_eq]
    simp only [tripRecorded_sw, clk]

theorem beyond_tripPoint : beyond n (tripPoint n causes latch s) = beyond n s := by
  have recorded : beyond n (tripRecorded n s causes latch) = beyond n s := by
    unfold tripRecorded
    dsimp only
    split
    all_goals simp
  rw [tripPoint_ends, beyond_endNow, dropCut, beyond_modSafe, beyond_openCoil, recorded]

theorem tripPoint_nvp_tripped : (nvp (tripPoint n causes latch s) n).tripped = ((nvp s n).tripped || latch != 0) := by
  unfold tripPoint
  dsimp only
  split
  all_goals simp [dropCut, nvp]

theorem tripPoint_nvp_other (k : Fin 8) (other : k ≠ n) : nvp (tripPoint n causes latch s) k = nvp s k := by
  unfold tripPoint
  dsimp only
  split
  all_goals simp [dropCut, nvp, e74, vget_vmod_other _ _ _ _ other]

/-- A trip with CLOSE_FAIL shows it, stands, and has the contactor commanded open. -/
theorem tripPoint_closeFail : (nvp (tripPoint n (cause 10) (cause 10) s) n).trip.getLsbD 10 = true ∧
    (nvp (tripPoint n (cause 10) (cause 10) s) n).tripped = true ∧ (saf (tripPoint n (cause 10) (cause 10) s) n).coil = false := by
  have shows : (cause 10).getLsbD 10 = true := by decide
  refine ⟨?_, ?_, (idle_tripPoint n s _ _).1⟩
  · rw [tripPoint_nvp_trip]
    split
    · rw [BitVec.getLsbD_or, shows, Bool.or_true]
    · exact shows
  · rw [tripPoint_nvp_tripped]
    exact Bool.or_eq_true_iff.2 (.inr (by decide))

end

/-! ## Events of the channels (R278) -/

@[simp] theorem quiet_e81 (c : Fin 24) (s : State) : quiet (e81 c s) = quiet s := by simp [e81]
@[simp] theorem quiet_e82 (i which : Nat) (on : Bool) (s : State) : quiet (e82 i which on s) = quiet s := quiet_level ..

/-! ## A coil channel's own finding (R252, R258) -/

section
variable (c : Fin 24) (s : State)

theorem coilOf_of_pointOfCoil {n : Fin 8} (drives : pointOfCoil s c = some n) : coilOf s n = some c := by
  simpa using List.find?_some drives

theorem ppGo_sw (m : Fin 9) (st : PpState) : (ppGo m st s).sw = s.sw := by
  unfold ppGo
  dsimp only
  repeat' split
  all_goals simp

theorem ppGo_bill (m : Fin 9) (st : PpState) : (ppGo m st s).bill = s.bill := by
  unfold ppGo
  dsimp only
  repeat' split
  all_goals simp

theorem ppGo_safe (m : Fin 9) (st : PpState) : (ppGo m st s).safe = s.safe := by
  unfold ppGo
  dsimp only
  repeat' split
  all_goals simp

theorem ppGo_nvPt (m : Fin 9) (st : PpState) : (ppGo m st s).nvPt = s.nvPt := by
  unfold ppGo
  dsimp only
  repeat' split
  all_goals simp

theorem coilFail_supply (supply : isSupply s c.1 = true) : coilFail c s = ppGo 0 .ppFault (chanOff c { s with bill.supOn := false }) := if_pos supply

theorem coilFail_point {n : Fin 8} (own : isSupply s c.1 = false) (drives : pointOfCoil s c = some n) :
    coilFail c s = tripPoint n (cause 10) (cause 10) s := by
  rw [coilFail, if_neg (by simp [own]), drives]

theorem coilFail_unused (own : isSupply s c.1 = false) (none : pointOfCoil s c = none) : coilFail c s = s := by
  rw [coilFail, if_neg (by simp [own]), none]

@[simp] theorem offPoint_coilFail : offPoint (coilFail c s) = offPoint s := by
  unfold coilFail
  split
  · simp
  · split
    · simp
    · rfl

/-- A finding of a coil channel changes of the switches this channel alone, which goes off. -/
theorem coilFail_sw : (coilFail c s).sw = s.sw ∨ (coilFail c s).sw = (chanOff c s).sw := by
  cases supply : isSupply s c.1 with
  | true =>
    rw [coilFail_supply c s supply, ppGo_sw]
    exact .inr rfl
  | false =>
    cases drives : pointOfCoil s c with
    | none => exact .inl (by rw [coilFail_unused c s supply drives])
    | some n =>
      rw [coilFail_point c s supply drives]
      refine (tripPoint_sw ..).imp id ?_
      rintro ⟨d, coil, off⟩
      obtain rfl : d = c := Option.some.inj (coil.symm.trans (coilOf_of_pointOfCoil c s drives))
      exact off

/-- A finding of a coil channel leaves every point whose contactor it does not drive. -/
theorem coilFail_other (k : Fin 8) (other : coilOf s k ≠ some c) :
    nvp (coilFail c s) k = nvp s k ∧ saf (coilFail c s) k = saf s k := by
  cases supply : isSupply s c.1 with
  | true =>
    rw [coilFail_supply c s supply, nvp, saf, ppGo_nvPt, ppGo_safe]
    exact ⟨rfl, rfl⟩
  | false =>
    cases drives : pointOfCoil s c with
    | none => simp [coilFail_unused c s supply drives]
    | some n =>
      rw [coilFail_point c s supply drives]
      have apart : k ≠ n := fun same => other (same ▸ coilOf_of_pointOfCoil c s drives)
      exact ⟨tripPoint_nvp_other n s _ _ k apart, saf_of_beyond n k apart (beyond_tripPoint n s _ _)⟩

/-- A coil's finding latches LATCH_COIL before its point or the prepayment responds. -/
theorem coilFinding_eq : ∃ u, quiet u = quiet { s with nvCh := vset s.nvCh c { vget s.nvCh c with coil := true } } ∧
    coilFinding c s = coilFail c u := ⟨_, quiet_e81 .., rfl⟩

theorem coilFinding_nvCh : (coilFinding c s).nvCh = vset s.nvCh c { vget s.nvCh c with coil := true } := by
  obtain ⟨u, quieted, eq⟩ := coilFinding_eq c s
  rw [eq, of_offPoint State.nvCh (fun _ => rfl) (offPoint_coilFail c u), of_quiet State.nvCh (fun _ => rfl) quieted]

/-- A finding of a contactor's coil trips its point with CLOSE_FAIL (R258). -/
theorem coilFinding_trips (n : Fin 8) (own : isSupply s c.1 = false) (drives : pointOfCoil s c = some n) :
    (vget (coilFinding c s).nvCh c).coil = true ∧ (nvp (coilFinding c s) n).trip.getLsbD 10 = true ∧
    (nvp (coilFinding c s) n).tripped = true ∧ (saf (coilFinding c s) n).coil = false := by
  refine ⟨by rw [coilFinding_nvCh, vget_vset_same], ?_⟩
  obtain ⟨u, quieted, eq⟩ := coilFinding_eq c s
  have own' : isSupply u c.1 = false := (of_quiet (isSupply · c.1) (fun _ => rfl) quieted).trans own
  have drives' : pointOfCoil u c = some n := (of_quiet (pointOfCoil · c) (fun _ => rfl) quieted).trans drives
  rw [eq, coilFail_point c u own' drives']
  exact tripPoint_closeFail n u

/-- A finding of the supply contactor's coil keeps it commanded off, and the prepayment takes PP_FAULT (R258; log entry 1103). -/
theorem coilFinding_supply (supply : isSupply s c.1 = true) : (vget (coilFinding c s).nvCh c).coil = true ∧
    (coilFinding c s).bill.supOn = false ∧ (vget (coilFinding c s).sw.ch c).cmd = false ∧
    (vget (coilFinding c s).p100.m 0).ppState = .ppFault := by
  refine ⟨by rw [coilFinding_nvCh, vget_vset_same], ?_⟩
  obtain ⟨u, quieted, eq⟩ := coilFinding_eq c s
  have supply' : isSupply u c.1 = true := (of_quiet (isSupply · c.1) (fun _ => rfl) quieted).trans supply
  rw [eq, coilFail_supply c u supply', ppGo_bill, ppGo_sw]
  exact ⟨rfl, by simp [chanOff], ppGo_ppState ..⟩

/-! ## A detector switches a channel off (R254, R257, R258) -/

section
variable (det ma : Nat)

/-- The switches once a detector has switched the channel off. -/
def detected (c : Fin 24) (det ma : Nat) (s : State) : Switch :=
  { s.sw with ch := vset s.sw.ch c { vget s.sw.ch c with st := .tripped, offAt := s.clk.mono, det, cur := ma, hold := 1000 } }

/-- The latches of a channel that a detector has switched off, its counter risen by 1 up to 15. -/
def counted (c : Fin 24) (det : Nat) (s : State) : NvChan :=
  let x := vget s.nvCh c
  { x with
    retry := satAdd 4 x.retry 1, sc := x.sc || (det == 1 && scLatch (chP s c.1)), therm := x.therm || (det == 3 && thermLatch (chP s c.1)) }

theorem channelTrip_idle (off : conducts s c = false) : channelTrip c det ma s = s := if_pos (by simp [off])

/-- A conducting channel goes off, counted and reported; on a coil the finding follows. -/
theorem channelTrip_eq (on : conducts s c = true) :
    ∃ u, quiet u = quiet { s with sw := detected c det ma s, nvCh := vset s.nvCh c (counted c det s) } ∧
      channelTrip c det ma s = if chRole (chP s c.1) = 2 then coilFinding c u else u := by
  refine ⟨_, ?_, if_neg (by simp [on])⟩
  split
  all_goals simp; rfl

end
end
end Sys2Proof.Laws

namespace Sys2Proof.Laws

open Sys2Proof Sys2Proof.Machine

/-- A state that agrees with another when quiet, but for new switches and latches, differs from it by these and by events. -/
theorem only_channels_of_quiet {s t : State} {sw : Switch} {nvCh : Vector NvChan 24} (same : quiet t = quiet { s with sw, nvCh }) :
    t = { s with sw := t.sw, nvCh := t.nvCh, ev := t.ev, led := t.led, p100 := t.p100 } ∧ t.sw = sw ∧ t.nvCh = nvCh := by
  have switches : t.sw = sw := of_quiet State.sw (fun _ => rfl) same
  have latches : t.nvCh = nvCh := of_quiet State.nvCh (fun _ => rfl) same
  have events : OnlyEvents { s with sw, nvCh } t := onlyEvents_of_quiet _ _ same
  rw [← switches, ← latches] at events
  exact ⟨events, switches, latches⟩

/-! ## Detectors (R254, R255, R257, R258) -/

section
variable (c : Fin 24) (det ma : Nat) (s : State) (on : conducts s c = true)
include on

theorem channelTrip_nvCh : ∃ coil, (channelTrip c det ma s).nvCh = vset s.nvCh c { counted c det s with coil } := by
  obtain ⟨u, quieted, eq⟩ := channelTrip_eq c s det ma on
  have nvCh : u.nvCh = vset s.nvCh c (counted c det s) := of_quiet State.nvCh (fun _ => rfl) quieted
  rw [eq]
  split
  · exact ⟨true, by rw [coilFinding_nvCh, nvCh, vget_vset_same, vset_vset]⟩
  · exact ⟨_, nvCh⟩

theorem channelTrip_trips : ∃ t, channelTrip c det ma s = t ∧
    (vget t.nvCh c).retry = satAdd 4 (vget s.nvCh c).retry 1 ∧ (vget t.nvCh c).sc = ((vget s.nvCh c).sc || (det == 1 && scLatch (chP s c.1))) ∧
    (vget t.nvCh c).therm = ((vget s.nvCh c).therm || (det == 3 && thermLatch (chP s c.1))) ∧
    (chRole (chP s c.1) ≠ 2 → t = { s with sw := t.sw, nvCh := t.nvCh, ev := t.ev, led := t.led, p100 := t.p100 } ∧
      t.sw = { s.sw with ch := vset s.sw.ch c { vget s.sw.ch c with st := .tripped, offAt := s.clk.mono, det, cur := ma, hold := 1000 } } ∧
      ∀ j, j ≠ c → vget t.nvCh j = vget s.nvCh j) ∧
    (∀ n, chRole (chP s c.1) = 2 → isSupply s c.1 = false → pointOfCoil s c = some n →
      (vget t.nvCh c).coil = true ∧ (nvp t n).trip.getLsbD 10 = true ∧ (nvp t n).tripped = true ∧ (saf t n).coil = false) ∧
    (chRole (chP s c.1) = 2 → isSupply s c.1 = true →
      (vget t.nvCh c).coil = true ∧ t.bill.supOn = false ∧ (vget t.sw.ch c).cmd = false ∧ (vget t.p100.m 0).ppState = .ppFault) := by
  obtain ⟨coil, nvCh⟩ := channelTrip_nvCh c det ma s on
  obtain ⟨u, quieted, eq⟩ := channelTrip_eq c s det ma on
  refine ⟨_, rfl, ?_, ?_, ?_, fun driven => ?_, fun n role own drives => ?_, fun role supply => ?_⟩
  · rw [nvCh, vget_vset_same]
    rfl
  · rw [nvCh, vget_vset_same]
    rfl
  · rw [nvCh, vget_vset_same]
    rfl
  · obtain ⟨events, sw, latches⟩ := only_channels_of_quiet quieted
    rw [eq, if_neg driven]
    exact ⟨events, sw, fun j other => by rw [latches, vget_vset_other _ _ _ _ other]⟩
  · rw [eq, if_pos role]
    exact coilFinding_trips c u n ((of_quiet (isSupply · c.1) (fun _ => rfl) quieted).trans own)
      ((of_quiet (pointOfCoil · c) (fun _ => rfl) quieted).trans drives)
  · rw [eq, if_pos role]
    exact coilFinding_supply c u ((of_quiet (isSupply · c.1) (fun _ => rfl) quieted).trans supply)

end

/-! ### Short circuit, over-current and junction temperature (R254, R259) -/

theorem shortCircuit_channel (c : Fin 32) (k : Fin 24) (ma : Nat) (s : State) (named : chanOf s c.1 = some k) (above : chIsc c.1 < ma) :
    exec (.shortCircuit c ma) s = .next (channelTrip k 1 ma s) := by
  refine congrArg Host.Outcome.next ((if_neg (by omega)).trans ?_)
  rw [named]

theorem channelThermal_channel (c : Fin 32) (k : Fin 24) (temp : Int) (s : State) (named : chanOf s c.1 = some k) (hot : 16500 ≤ temp) :
    exec (.channelThermal c temp) s = .next (channelTrip k 3 (vget s.sw.ch k).cur.natAbs (modChan k (fun x => { x with temp }) s)) := by
  refine congrArg Host.Outcome.next ((if_neg (by omega)).trans ?_)
  rw [named]

/-- The channel index of a point's lock bridge. -/
def bridge (n : Fin 8) : Fin 32 := ⟨24 + n.1, by omega⟩

theorem chanOf_bridge (s : State) (n : Fin 8) : chanOf s (bridge n).1 = none := by
  have outside : ix 24 (bridge n).1 = none := dif_neg (by simp [bridge])
  rw [chanOf, outside, ite_self]

theorem lockPoint_bridge (n : Fin 8) : lockPoint (bridge n) = n := Fin.ext (Nat.add_sub_cancel_left 24 n.1)

section
variable (n : Fin 8) (s : State)

theorem bridgeTrip_idle (det ma : Nat) (still : (vget s.sw.lk n).drive = 0) : bridgeTrip n det ma s = s := if_pos still

/-- A bridge that drives stops, reported (R254, R263; log entry 1105). -/
theorem bridgeTrip_stops (det ma : Nat) (drives : (vget s.sw.lk n).drive ≠ 0) : quiet (bridgeTrip n det ma s) = quiet { s with
    sw.lk := vset s.sw.lk n { vget s.sw.lk n with drive := 0, brake := true, tripped := det, cur := 0, t0 := s.clk.mono } } := by
  rw [bridgeTrip, if_neg drives, quiet_pulse, modLock_eq]

theorem shortCircuit_bridge (ma : Nat) : exec (.shortCircuit (bridge n) ma) s =
    .next (if ma ≤ chIsc (bridge n).1 then s else bridgeTrip n 1 ma s) := by
  show execShortCircuit (bridge n) ma s = _
  rw [execShortCircuit, chanOf_bridge, lockPoint_bridge]
  exact congrArg (fun u => Host.Outcome.next (if ma ≤ chIsc (bridge n).1 then s else u)) (if_pos (Nat.le_add_right 24 n.1))

theorem channelThermal_bridge (temp : Int) : exec (.channelThermal (bridge n) temp) s =
    .next (if temp < 16500 then s else bridgeTrip n 3 0 (modLock n (fun l => { l with temp }) s)) := by
  show execChannelThermal (bridge n) temp s = _
  rw [execChannelThermal, chanOf_bridge, lockPoint_bridge]
  exact congrArg (fun u => Host.Outcome.next (if temp < 16500 then s else u)) (if_pos (Nat.le_add_right 24 n.1))

/-- What a detector does to a point's bridge: a drive stops, and one that does not drive is left. -/
theorem bridge_detected (ma : Nat) (temp : Int) :
    let off := fun (det : Nat) (l : Lock) (t : State) => t = { s with sw := t.sw, ev := t.ev, led := t.led, p100 := t.p100 } ∧
      t.sw = { s.sw with lk := vset s.sw.lk n { l with drive := 0, brake := true, tripped := det, cur := 0, t0 := s.clk.mono } }
    ((vget s.sw.lk n).drive ≠ 0 → chIsc (bridge n).1 < ma → ∃ t, exec (.shortCircuit (bridge n) ma) s = .next t ∧ off 1 (vget s.sw.lk n) t) ∧
    ((vget s.sw.lk n).drive = 0 → exec (.shortCircuit (bridge n) ma) s = .next s) ∧
    (16500 ≤ temp → (vget s.sw.lk n).drive ≠ 0 →
      ∃ t, exec (.channelThermal (bridge n) temp) s = .next t ∧ off 3 { vget s.sw.lk n with temp } t) ∧
    (16500 ≤ temp → (vget s.sw.lk n).drive = 0 → exec (.channelThermal (bridge n) temp) s = .next (modLock n (fun l => { l with temp }) s)) := by
  intro off
  have warmed : vget (modLock n (fun l => { l with temp }) s).sw.lk n = { vget s.sw.lk n with temp } := vget_vset_same ..
  rw [shortCircuit_bridge, channelThermal_bridge]
  refine ⟨fun drives above => ?_, fun still => ?_, fun hot drives => ?_, fun hot still => ?_⟩
  · rw [if_neg (by omega)]
    exact ⟨_, rfl, only_sw_of_quiet (bridgeTrip_stops n s 1 ma drives)⟩
  · rw [bridgeTrip_idle n s 1 ma still, ite_self]
  · rw [if_neg (by omega)]
    have stops := bridgeTrip_stops n (modLock n (fun l => { l with temp }) s) 3 0 (by rw [warmed]; exact drives)
    rw [warmed] at stops
    exact ⟨_, rfl, only_sw_of_quiet (stops.trans (by rw [modLock_eq, vset_vset]))⟩
  · rw [if_neg (by omega), bridgeTrip_idle _ _ _ _ (by rw [warmed]; exact still)]

end

section
variable (c : Fin 24) (ma us : Nat) (s : State)

theorem channelOvercurrent_trips (on : (vget s.sw.ch c).st = .on) (above : ocLim c.1 (chP s c.1) < ma) (long : ocT (chP s c.1) * 1000 ≤ us) :
    exec (.channelOvercurrent c ma us) s = .next (channelTrip c 2 ma s) :=
  congrArg Host.Outcome.next (if_pos (by simp [on, above, long]))

theorem channelOvercurrent_spares (spared : (vget s.sw.ch c).st ≠ .on ∨ ma ≤ ocLim c.1 (chP s c.1) ∨ us < ocT (chP s c.1) * 1000) :
    exec (.channelOvercurrent c ma us) s = .next s := by
  refine congrArg Host.Outcome.next (if_neg ?_)
  rcases spared with off | below | short
  · simp [off]
  · simp [Nat.not_lt.2 below]
  · simp [Nat.not_le.2 short]

/-! ### Inrush, restart and the retry counter (R255, R256, R257) -/

theorem inrushWindowEnd_ends (inrush : (vget s.sw.ch c).st = .inrush) (over' : (vget s.sw.ch c).onAt + inrushT (chP s c.1) * 1000 ≤ s.clk.mono) :
    exec (.inrushWindowEnd c) s = .next { s with sw.ch := vset s.sw.ch c { vget s.sw.ch c with st := .on, goodAt := s.clk.mono } } :=
  congrArg Host.Outcome.next (if_pos (by simp [inrush, elapsed, over']))

/-- A channel that RETRY_MAX or a latch bit keeps off (R256, R257). -/
def barred (s : State) (c : Fin 24) : Prop := retryMax (chP s c.1) ≤ (vget s.nvCh c).retry ∨ latched s c = true

/-- A channel that may restart at an evaluation (R256). -/
def mayRestart (s : State) (c : Fin 24) (temp : Int) : Prop :=
  autoRestart (chP s c.1) = true ∧ chRole (chP s c.1) ≠ 2 ∧ (vget s.sw.ch c).cmd = true ∧ temp ≤ 14500 ∧ ¬ barred s c ∧ s.sw.uv = false

theorem restartEvaluation_evaluates (temp : Int) (off : (vget s.sw.ch c).st = .tripped ∨ (vget s.sw.ch c).st = .blocked)
    (due : (vget s.sw.ch c).offAt + retryT (chP s c.1) * 1000 ≤ s.clk.mono) :
    let x := vget s.sw.ch c
    (mayRestart s c temp → exec (.restartEvaluation c temp) s = .next (pulse 80 (prm [(1, c.1), (1, x.det), (4, x.cur.natAbs)])
      { s with sw.ch := vset s.sw.ch c { x with st := .inrush, onAt := s.clk.mono, temp } })) ∧
    (barred s c → exec (.restartEvaluation c temp) s = .next
      { s with sw.ch := vset s.sw.ch c { x with st := .blocked, offAt := s.clk.mono, temp } }) ∧
    (¬ mayRestart s c temp → ¬ barred s c → exec (.restartEvaluation c temp) s = .next
      { s with sw.ch := vset s.sw.ch c { x with offAt := s.clk.mono, temp } }) := by
  intro x
  have bars : (decide (retryMax (chP s c.1) ≤ (vget s.nvCh c).retry) || latched s c) = true ↔ barred s c := by simp [barred]
  have restarts : (autoRestart (chP s c.1) && chRole (chP s c.1) != 2 && x.cmd && decide (temp ≤ 14500) &&
      !(decide (retryMax (chP s c.1) ≤ (vget s.nvCh c).retry) || latched s c) && !s.sw.uv) = true ↔ mayRestart s c temp := by
    rw [mayRestart, ← bars]
    simp [and_assoc, x]
  have evaluated : exec (.restartEvaluation c temp) s = .next (
      if autoRestart (chP s c.1) && chRole (chP s c.1) != 2 && x.cmd && decide (temp ≤ 14500) &&
          !(decide (retryMax (chP s c.1) ≤ (vget s.nvCh c).retry) || latched s c) && !s.sw.uv then
        pulse 80 (prm [(1, c.1), (1, x.det), (4, x.cur.natAbs)]) (modChan c (fun x => { x with st := .inrush, onAt := s.clk.mono, temp }) s)
      else modChan c (fun x => { x with
        st := if decide (retryMax (chP s c.1) ≤ (vget s.nvCh c).retry) || latched s c then .blocked else x.st, offAt := s.clk.mono, temp }) s) :=
    congrArg Host.Outcome.next (if_pos (by rcases off with st | st <;> simp [st, elapsed, due]))
  rw [evaluated]
  refine ⟨fun may => congrArg Host.Outcome.next (if_pos (restarts.2 may)), fun bar => ?_, fun not free => ?_⟩
  · rw [if_neg (fun may => by obtain ⟨-, -, -, -, free, -⟩ := restarts.1 may; exact free bar), bars.2 bar]
    rfl
  · rw [if_neg (mt restarts.1 not), Bool.eq_false_iff.2 (mt bars.1 free)]
    rfl

theorem retryCounterDecay_lowers (on : (vget s.sw.ch c).st = .on) (good : (vget s.sw.ch c).goodAt + 10000000 ≤ s.clk.mono) :
    exec (.retryCounterDecay c) s = .next { s with
      sw.ch := vset s.sw.ch c { vget s.sw.ch c with goodAt := s.clk.mono }
      nvCh := vset s.nvCh c { vget s.nvCh c with retry := (vget s.nvCh c).retry - 1 } } :=
  congrArg Host.Outcome.next (if_pos (by simp [on, elapsed, good]))

end
end Sys2Proof.Laws

namespace Sys2Proof.Laws

open Sys2Proof Sys2Proof.Machine

/-! ## Folds over channels -/

section
variable {α β γ : Type} (w : State → β) (f : State → γ) (g : State → α → State) (b : α) (s : State)
    (keep : ∀ t c, w (g t c) = w t) (others : ∀ t c, w t = w s → c ≠ b → f (g t c) = f t)
include keep others

/-- Steps for others than `b` keep what only its own step changes. -/
theorem foldl_others (l : List α) (t : State) (same : w t = w s) (away : b ∉ l) : w (l.foldl g t) = w s ∧ f (l.foldl g t) = f t :=
  List.foldlRecOn (motive := fun u => w u = w s ∧ f u = f t) l g ⟨same, rfl⟩ fun u kept c mem =>
    ⟨(keep u c).trans kept.1, (others u c kept.1 fun eq => away (eq ▸ mem)).trans kept.2⟩

/-- A fold does to what belongs to `b` what the step for `b` does. -/
theorem foldl_own (l : List α) (nodup : l.Nodup) (mem : b ∈ l) : ∃ u, w u = w s ∧ f u = f s ∧ f (l.foldl g s) = f (g u b) := by
  obtain ⟨before, after, rfl⟩ := List.append_of_mem mem
  obtain ⟨-, own, apart⟩ := List.nodup_append.1 nodup
  obtain ⟨kept, untouched⟩ := foldl_others w f g b s keep others before s rfl fun mem => apart b mem b (List.mem_cons_self ..) rfl
  refine ⟨before.foldl g s, kept, untouched, ?_⟩
  rw [List.foldl_append, List.foldl_cons]
  exact (foldl_others w f g b s keep others after _ ((keep ..).trans kept) (List.nodup_cons.1 own).1).2

end

theorem nodup_units (n : Nat) : (units n).Nodup := List.nodup_finRange n

theorem mem_units {n : Nat} (i : Fin n) : i ∈ units n := List.mem_finRange i

/-! ## Under-voltage (R254, R255, R258) -/

section
variable (c : Fin 24) (s : State)

theorem uvChannel_idle (off : conducts s c = false) : uvChannel c s = s := if_pos (by simp [off])

theorem uvChannel_free (on : conducts s c = true) (free : chRole (chP s c.1) ≠ 2) :
    uvChannel c s = modChan c (fun x => { x with st := .uvOff, offAt := s.clk.mono, det := 4, hold := 1000 }) s := by
  simp [uvChannel, on, free]

theorem uvChannel_coil (on : conducts s c = true) (role : chRole (chP s c.1) = 2) : uvChannel c s =
    coilFail c (modChan c (fun x => { x with st := .uvOff, offAt := s.clk.mono, det := 4, hold := 1000, cmd := false }) s) := by
  simp [uvChannel, on, role, modChan, vmod]

/-- What the response to under-voltage does to a channel's switches: nothing, UV_OFF, or, of a coil, off. -/
theorem uvChannel_sw : (conducts s c = false ∧ uvChannel c s = s) ∨
    (∃ x : Chan, x.st = .uvOff ∧ (uvChannel c s).sw = { s.sw with ch := vset s.sw.ch c x }) ∨
    ∃ x : Chan, x.st = .uvOff ∧ (uvChannel c s).sw = (chanOff c { s with sw.ch := vset s.sw.ch c x }).sw := by
  cases on : conducts s c with
  | false => exact .inl ⟨rfl, uvChannel_idle c s on⟩
  | true =>
    refine .inr ?_
    by_cases role : chRole (chP s c.1) = 2
    · rw [uvChannel_coil c s on role]
      exact (coilFail_sw ..).imp (fun same => ⟨_, rfl, same⟩) (fun off => ⟨_, rfl, off⟩)
    · rw [uvChannel_free c s on role]
      exact .inl ⟨_, rfl, rfl⟩

@[simp] theorem offPoint_uvChannel : offPoint (uvChannel c s) = offPoint s := by
  unfold uvChannel
  dsimp only
  repeat' split
  all_goals simp

@[simp] theorem uvChannel_uv : (uvChannel c s).sw.uv = s.sw.uv := by
  rcases uvChannel_sw c s with ⟨-, same⟩ | ⟨x, -, sw⟩ | ⟨x, -, sw⟩
  · rw [same]
  · rw [sw]
  · rw [sw, chanOff_eq]

theorem uvChannel_other (j : Fin 24) (other : j ≠ c) : vget (uvChannel c s).sw.ch j = vget s.sw.ch j := by
  rcases uvChannel_sw c s with ⟨-, same⟩ | ⟨x, -, sw⟩ | ⟨x, -, sw⟩
  · rw [same]
  · rw [sw, vget_vset_other _ _ _ _ other]
  · rw [sw, chanOff_eq, vget_vset_other _ _ _ _ other, vget_vset_other _ _ _ _ other]

theorem uvChannel_off : conducts (uvChannel c s) c = false := by
  rcases uvChannel_sw c s with ⟨off, same⟩ | ⟨x, off, sw⟩ | ⟨x, -, sw⟩
  · rw [same, off]
  · rw [conducts, sw, vget_vset_same, off]
    rfl
  · rw [conducts, sw, chanOff_eq, vget_vset_same]
    dsimp only
    split
    all_goals rfl

/-- A point whose contactor the channel does not drive is left. -/
theorem uvChannel_apart (n : Fin 8) (other : coilOf s n ≠ some c) :
    nvp (uvChannel c s) n = nvp s n ∧ saf (uvChannel c s) n = saf s n := by
  cases on : conducts s c with
  | false => simp [uvChannel_idle c s on]
  | true =>
    by_cases role : chRole (chP s c.1) = 2
    · rw [uvChannel_coil c s on role]
      exact coilFail_other c _ n other
    · rw [uvChannel_free c s on role]
      exact ⟨rfl, rfl⟩

theorem uvChannel_trips (n : Fin 8) (on : conducts s c = true) (role : chRole (chP s c.1) = 2) (own : isSupply s c.1 = false)
    (drives : pointOfCoil s c = some n) :
    (nvp (uvChannel c s) n).trip.getLsbD 10 = true ∧ (saf (uvChannel c s) n).coil = false := by
  rw [uvChannel_coil c s on role]
  generalize eq : modChan c _ s = u
  rw [coilFail_point c u (by rw [← eq]; exact own) (by rw [← eq]; exact drives)]
  obtain ⟨shown, -, opened⟩ := tripPoint_closeFail n u
  exact ⟨shown, opened⟩

end

section
variable (cs : List (Fin 24)) (nodup : cs.Nodup) (c : Fin 24) (mem : c ∈ cs) (s : State)
include nodup mem

theorem uvChannels_own : ∃ u, offPoint u = offPoint s ∧ vget u.sw.ch c = vget s.sw.ch c ∧
    vget (cs.foldl (fun t c => uvChannel c t) s).sw.ch c = vget (uvChannel c u).sw.ch c :=
  foldl_own offPoint (fun t => vget t.sw.ch c) (fun t c => uvChannel c t) c s (fun t d => offPoint_uvChannel d t)
    (fun t d _ other => uvChannel_other d t c (Ne.symm other)) cs nodup mem

theorem uvChannels_off : conducts (cs.foldl (fun t c => uvChannel c t) s) c = false := by
  obtain ⟨u, -, -, own⟩ := uvChannels_own cs nodup c mem s
  rw [conducts, own]
  exact uvChannel_off c u

theorem uvChannels_free (on : conducts s c = true) (free : chRole (chP s c.1) ≠ 2) :
    vget (cs.foldl (fun t c => uvChannel c t) s).sw.ch c =
      { vget s.sw.ch c with st := .uvOff, offAt := s.clk.mono, det := 4, hold := 1000 } := by
  obtain ⟨u, kept, same, own⟩ := uvChannels_own cs nodup c mem s
  have on' : conducts u c = true := by rw [conducts, same]; exact on
  have free' : chRole (chP u c.1) ≠ 2 := by rw [of_offPoint (fun t => chP t c.1) (fun _ => rfl) kept]; exact free
  have clk := of_offPoint State.clk (fun _ => rfl) kept
  rw [own, uvChannel_free c u on' free', ← same, ← clk]
  exact vget_vmod_same ..

theorem uvChannels_trip (n : Fin 8) (on : conducts s c = true) (role : chRole (chP s c.1) = 2) (own : isSupply s c.1 = false)
    (drives : pointOfCoil s c = some n) :
    (nvp (cs.foldl (fun t c => uvChannel c t) s) n).trip.getLsbD 10 = true ∧ (saf (cs.foldl (fun t c => uvChannel c t) s) n).coil = false := by
  have apart : ∀ t d, offPoint t = offPoint s → d ≠ c →
      (vget (uvChannel d t).sw.ch c, nvp (uvChannel d t) n, saf (uvChannel d t) n) = (vget t.sw.ch c, nvp t n, saf t n) := by
    intro t d kept other
    have coil : coilOf t n = some c := (of_offPoint (coilOf · n) (fun _ => rfl) kept).trans (coilOf_of_pointOfCoil c s drives)
    obtain ⟨nv, safe⟩ := uvChannel_apart d t n (by rw [coil]; exact fun same => other (Option.some.inj same).symm)
    rw [uvChannel_other d t c (Ne.symm other), nv, safe]
  obtain ⟨u, kept, same, reached⟩ := foldl_own offPoint (fun t => (vget t.sw.ch c, nvp t n, saf t n)) (fun t c => uvChannel c t) c s
    (fun t d => offPoint_uvChannel d t) apart cs nodup mem
  obtain ⟨same, -⟩ := Prod.mk.inj same
  obtain ⟨-, reached⟩ := Prod.mk.inj reached
  obtain ⟨nv, safe⟩ := Prod.mk.inj reached
  rw [nv, safe]
  exact uvChannel_trips c u n (by rw [conducts, same]; exact on) (by rw [of_offPoint (fun t => chP t c.1) (fun _ => rfl) kept]; exact role)
    ((of_offPoint (isSupply · c.1) (fun _ => rfl) kept).trans own) ((of_offPoint (pointOfCoil · c) (fun _ => rfl) kept).trans drives)

end

section
variable (mv us : Nat) (s : State)

/-- The state in which the channels take the response to under-voltage: it is in force and reported. -/
theorem supplyUnderVoltage_responds (low : mv < 15000) (long : 50 ≤ us) (fresh : s.sw.uv = false) :
    ∃ u, quiet u = quiet { s with sw.uv := true } ∧
      exec (.supplyUnderVoltage mv us) s = .next ((units 24).foldl (fun t c => uvChannel c t) u) :=
  ⟨_, quiet_level .., congrArg Host.Outcome.next (if_pos ⟨low, long, by simp [fresh]⟩)⟩

theorem supplyUnderVoltage_switches (low : mv < 15000) (long : 50 ≤ us) (fresh : s.sw.uv = false) :
    ∃ t, exec (.supplyUnderVoltage mv us) s = .next t ∧ t.sw.uv = true ∧ t.nvCh = s.nvCh ∧
      (∀ c, conducts s c = true → chRole (chP s c.1) ≠ 2 →
        vget t.sw.ch c = { vget s.sw.ch c with st := .uvOff, offAt := s.clk.mono, det := 4, hold := 1000 }) ∧
      (∀ c, conducts t c = false) ∧
      (∀ c n, conducts s c = true → chRole (chP s c.1) = 2 → isSupply s c.1 = false → pointOfCoil s c = some n →
        (nvp t n).trip.getLsbD 10 = true ∧ (saf t n).coil = false) := by
  obtain ⟨u, quieted, done⟩ := supplyUnderVoltage_responds mv us s low long fresh
  have read {α : Type} (f : State → α) (blind : ∀ t, f (quiet t) = f t) : f u = f { s with sw.uv := true } := of_quiet f blind quieted
  have on : ∀ c, conducts u c = conducts s c := fun c => read (conducts · c) (fun _ => rfl)
  have set : ∀ c, chP u c = chP s c := fun c => read (chP · c) (fun _ => rfl)
  refine ⟨_, done, ?_, ?_, fun c conducting free => ?_, fun c => uvChannels_off _ (nodup_units 24) c (mem_units c) u,
    fun c n conducting role own drives => ?_⟩
  · rw [foldl_keeps (·.sw.uv) _ (fun t c => uvChannel_uv c t)]
    exact read (·.sw.uv) (fun _ => rfl)
  · rw [foldl_keeps (·.nvCh) _ (fun t c => of_offPoint State.nvCh (fun _ => rfl) (offPoint_uvChannel c t))]
    exact read State.nvCh (fun _ => rfl)
  · have state : vget u.sw.ch c = vget s.sw.ch c := read (fun t => vget t.sw.ch c) (fun _ => rfl)
    have clk : u.clk = s.clk := read State.clk (fun _ => rfl)
    rw [uvChannels_free _ (nodup_units 24) c (mem_units c) u (by rw [on, conducting]) (by rw [set]; exact free), state, clk]
  · exact uvChannels_trip _ (nodup_units 24) c (mem_units c) u n (by rw [on, conducting]) (by rw [set, role])
      ((read (isSupply · c.1) (fun _ => rfl)).trans own) ((read (pointOfCoil · c) (fun _ => rfl)).trans drives)

theorem supplyUnderVoltage_spares (spared : 15000 ≤ mv ∨ us < 50 ∨ s.sw.uv = true) : exec (.supplyUnderVoltage mv us) s = .next s := by
  refine congrArg Host.Outcome.next (if_neg fun ⟨low, long, fresh⟩ => ?_)
  rcases spared with high | short | standing
  · omega
  · omega
  · simp [standing] at fresh

end
end Sys2Proof.Laws

namespace Sys2Proof.Laws

open Sys2Proof Sys2Proof.Machine

section
variable (c : Fin 24) (s : State)

/-- A channel in UV_OFF when the response ends: a commanded one in INRUSH, another off (R255). -/
def uvRelease (t : State) (c : Fin 24) : State :=
  if (vget t.sw.ch c).st = .uvOff then
    modChan c (fun x => { x with st := if x.cmd then .inrush else .off, onAt := if x.cmd then t.clk.mono else x.onAt }) t
  else t

theorem uvRelease_frame (chs : Vector Chan 24) : { uvRelease s c with sw.ch := chs } = { s with sw.ch := chs } := by
  unfold uvRelease
  split
  all_goals rfl

theorem uvRelease_clk : (uvRelease s c).clk = s.clk := by
  unfold uvRelease
  split
  all_goals rfl

theorem uvRelease_other (j : Fin 24) (other : j ≠ c) : vget (uvRelease s c).sw.ch j = vget s.sw.ch j := by
  unfold uvRelease
  split
  · exact vget_vmod_other _ _ _ _ other
  · rfl

theorem uvRelease_own : vget (uvRelease s c).sw.ch c = if (vget s.sw.ch c).st ≠ .uvOff then vget s.sw.ch c else if (vget s.sw.ch c).cmd then
    { vget s.sw.ch c with st := .inrush, onAt := s.clk.mono } else { vget s.sw.ch c with st := .off } := by
  unfold uvRelease
  by_cases down : (vget s.sw.ch c).st = .uvOff
  · rw [if_pos down, if_neg (not_not.2 down)]
    refine (vget_vmod_same ..).trans ?_
    split
    all_goals rfl
  · rw [if_neg down, if_pos down]

end

section
variable (cs : List (Fin 24)) (s : State)

theorem uvReleases_frame (chs : Vector Chan 24) : { cs.foldl uvRelease s with sw.ch := chs } = { s with sw.ch := chs } :=
  foldl_keeps (fun t => { t with sw.ch := chs }) uvRelease (fun t c => uvRelease_frame c t chs) cs s

theorem uvReleases_own (c : Fin 24) (nodup : cs.Nodup) (mem : c ∈ cs) : vget (cs.foldl uvRelease s).sw.ch c =
    if (vget s.sw.ch c).st ≠ .uvOff then vget s.sw.ch c else if (vget s.sw.ch c).cmd then
      { vget s.sw.ch c with st := .inrush, onAt := s.clk.mono } else { vget s.sw.ch c with st := .off } := by
  obtain ⟨u, clk, same, own⟩ := foldl_own State.clk (fun t => vget t.sw.ch c) uvRelease c s (fun t d => uvRelease_clk d t)
    (fun t d _ other => uvRelease_other d t c (Ne.symm other)) cs nodup mem
  rw [own, uvRelease_own, same, clk]

end

section
variable (mv us : Nat) (s : State)

theorem underVoltageRelease_releases (high : 16000 ≤ mv) (long : 1000 ≤ us) (inForce : s.sw.uv = true) :
    ∃ t, exec (.underVoltageRelease mv us) s = .next t ∧
      t = { s with sw := t.sw, ev := t.ev, led := t.led, p100 := t.p100 } ∧ t.sw = { s.sw with uv := false, ch := t.sw.ch } ∧
      ∀ c, vget t.sw.ch c = if (vget s.sw.ch c).st ≠ .uvOff then vget s.sw.ch c else if (vget s.sw.ch c).cmd then
        { vget s.sw.ch c with st := .inrush, onAt := s.clk.mono } else { vget s.sw.ch c with st := .off } := by
  let u := level 83 0 false (prm [(2, mv)]) { s with sw.uv := false }
  have quieted : quiet u = quiet { s with sw.uv := false } := quiet_level ..
  have done : exec (.underVoltageRelease mv us) s = .next ((units 24).foldl uvRelease u) :=
    congrArg Host.Outcome.next (if_pos ⟨high, long, inForce⟩)
  generalize folded : (units 24).foldl uvRelease u = t at done
  have frame : quiet t = quiet { s with sw := { s.sw with uv := false, ch := t.sw.ch } } := by
    calc quiet t = quiet { (units 24).foldl uvRelease u with sw.ch := t.sw.ch } := by rw [folded]
      _ = quiet { u with sw.ch := t.sw.ch } := by rw [uvReleases_frame]
      _ = _ := of_quiet (fun y => quiet { y with sw.ch := t.sw.ch }) (fun _ => rfl) quieted
  obtain ⟨only, sw⟩ := only_sw_of_quiet frame
  refine ⟨t, done, only, sw, fun c => ?_⟩
  have ch : vget u.sw.ch c = vget s.sw.ch c := (of_quiet (fun y => vget y.sw.ch c) (fun _ => rfl) quieted :)
  have clk : u.clk = s.clk := (of_quiet State.clk (fun _ => rfl) quieted :)
  rw [← folded, uvReleases_own _ u c (nodup_units 24) (mem_units c), ch, clk]

theorem underVoltageRelease_spares (spared : mv < 16000 ∨ us < 1000 ∨ s.sw.uv = false) : exec (.underVoltageRelease mv us) s = .next s := by
  refine congrArg Host.Outcome.next (if_neg fun ⟨high, long, inForce⟩ => ?_)
  rcases spared with low | short | none
  · omega
  · omega
  · simp [none] at inForce

end

/-! ## Open-load tests (R260) -/

section
variable (mv mvB : Nat) (s : State)

theorem offStateTest_channel (c : Fin 32) (k : Fin 24) (named : chanOf s c.1 = some k) :
    (offTestRuns s k = true → exec (.offStateTest c mv mvB) s = .next (e82 c.1 0 (decide (2000 < mv))
      { s with sw.ch := vset s.sw.ch k { vget s.sw.ch k with olOff := decide (2000 < mv) } })) ∧
    (offTestRuns s k = false → exec (.offStateTest c mv mvB) s = .next s) := by
  have channel : ¬ 24 ≤ c.1 := by
    intro bridge
    have none : chanOf s c.1 = none := by rw [chanOf, show ix 24 c.1 = none from dif_neg (by omega), ite_self]
    rw [none] at named
    cases named
  have tested : exec (.offStateTest c mv mvB) s = .next (if offTestRuns s k then
      e82 c.1 0 (decide (2000 < mv)) (modChan k (fun x => { x with olOff := decide (2000 < mv) }) s) else s) := by
    show execOffStateTest c mv mvB s = _
    simp only [execOffStateTest, named, decide_eq_false channel, Bool.false_and, Bool.or_false]
  rw [tested]
  exact ⟨fun runs => congrArg Host.Outcome.next (if_pos runs), fun held => congrArg Host.Outcome.next (if_neg (by simp [held]))⟩

theorem offStateTest_bridge (n : Fin 8) (present : hasPoint s n = true) (still : (vget s.sw.lk n).drive = 0) :
    exec (.offStateTest (bridge n) mv mvB) s = .next (e82 (24 + n.1) 0 (decide (2000 < mv) || decide (2000 < mvB))
      { s with sw.lk := vset s.sw.lk n { vget s.sw.lk n with olOff := decide (2000 < mv) || decide (2000 < mvB) } }) := by
  have beyond : 24 ≤ (bridge n).1 := Nat.le_add_right 24 n.1
  show execOffStateTest (bridge n) mv mvB s = _
  simp only [execOffStateTest, chanOf_bridge, lockPoint_bridge, decide_eq_true beyond, Bool.true_and]
  exact congrArg Host.Outcome.next (if_pos ⟨beyond, still, present⟩)

end

section
variable (c : Fin 24) (ma us : Nat) (s : State)

theorem onStateOpenLoad_finds :
    let low := ma < if c.1 < 16 then 20 else 5
    let u := fun (on : Bool) => e82 c.1 1 on { s with sw.ch := vset s.sw.ch c { vget s.sw.ch c with olOn := on, cur := ma } }
    (onTestRuns s c = true → low → 1000000 ≤ us →
      exec (.onStateOpenLoad c ma us) s = .next (if chRole (chP s c.1) = 2 then coilFinding c (u true) else u true)) ∧
    (onTestRuns s c = true → ¬ low → exec (.onStateOpenLoad c ma us) s = .next (u false)) ∧
    (onTestRuns s c = false ∨ (low ∧ us < 1000000) → exec (.onStateOpenLoad c ma us) s = .next s) := by
  intro low u
  have settings : chP (u true) c.1 = chP s c.1 :=
    (of_quiet (fun t => chP t c.1) (fun _ => rfl) (quiet_e82 c.1 1 true
      { s with sw.ch := vset s.sw.ch c { vget s.sw.ch c with olOn := true, cur := ma } }) :)
  have tested : exec (.onStateOpenLoad c ma us) s = .next (if !onTestRuns s c then s
      else if decide low && decide (1000000 ≤ us) then if chRole (chP (u true) c.1) = 2 then coilFinding c (u true) else u true
      else if !decide low then u false else s) := rfl
  rw [settings] at tested
  refine ⟨fun runs below long => ?_, fun runs above => ?_, fun spared => ?_⟩
  · rw [tested, if_neg (by simp [runs]), if_pos (by simp [below, long])]
  · rw [tested, if_neg (by simp [runs]), if_neg (by simp [above]), if_pos (by simp [above])]
  · rcases spared with held | ⟨below, short⟩
    · rw [tested, if_pos (by simp [held])]
    · have notDue : ¬ (decide low && decide (1000000 ≤ us)) = true := by simp [short]
      have notAbove : ¬ (!decide low) = true := by simp [below]
      rw [tested, if_neg notDue, if_neg notAbove, ite_self]

/-! ## Economiser and feedback (R261, R262) -/

theorem economiserUpdate_holds (mv : Nat) (role : chRole (chP s c.1) = 2) (on : conducts s c = true)
    (pulled : (vget s.sw.ch c).onAt + tPull (chP s c.1) * 1000 ≤ s.clk.mono) (asked : holdV (chP s c.1) ≠ 0) (supplied : 0 < mv) :
    let short := decide (mv < holdV (chP s c.1))
    let u := { s with sw.ch := vset s.sw.ch c { vget s.sw.ch c with hold := min 1000 (convN (holdV (chP s c.1) * 1000) mv), e88 := short } }
    exec (.economiserUpdate c mv) s = .next (if short = true ∧ (vget s.sw.ch c).e88 = false then pulse 88 (prm [(1, c.1), (2, mv)]) u else u) := by
  intro short u
  have updated : exec (.economiserUpdate c mv) s = .next (if short && !(vget s.sw.ch c).e88 then pulse 88 (prm [(1, c.1), (2, mv)]) u else u) :=
    congrArg Host.Outcome.next (if_pos (by simp [role, on, elapsed, pulled, asked, supplied]))
  rw [updated]
  simp only [Bool.and_eq_true, Bool.not_eq_true']

end

section
variable (k : Fin 16) (high : Bool) (us0 us1 : Nat) (s : State)

/-- The feedback levels as each core takes them. -/
def fedBack (k : Fin 16) (high : Bool) (us0 us1 : Nat) (s : State) : Switch := { s.sw with
  fb := if fbSettled s k.1 us0 then vset s.sw.fb k high else s.sw.fb
  fb1 := if fbSettled s k.1 us1 then vset s.sw.fb1 k high else s.sw.fb1 }

/-- Report a coil channel whose auxiliary contact reads otherwise. -/
def e84Step (high : Bool) (s t u : State) (c : Fin 24) : State :=
  if auxOf t c.1 == auxOf s c.1 then u else pulse 84 (prm [(1, c.1), (1, b2n high)]) u

theorem quiet_e84Step (t u : State) (c : Fin 24) : quiet (e84Step high s t u c) = quiet u := by
  unfold e84Step
  split
  · rfl
  · exact quiet_pulse ..

theorem feedbackChange_takes : ∃ t, exec (.feedbackChange k high us0 us1) s = .next t ∧
    t = { s with sw := t.sw, ev := t.ev, led := t.led, p100 := t.p100 } ∧ t.sw = fedBack k high us0 us1 s ∧
    ((∀ c ∈ coilsOfFb s k.1, auxOf t c.1 = auxOf s c.1) → t.ev = s.ev) ∧
    (∀ c, coilsOfFb s k.1 = [c] → auxOf t c.1 ≠ auxOf s c.1 → t = pulse 84 (prm [(1, c.1), (1, b2n high)]) { s with sw := t.sw }) := by
  let u : State := { s with sw := fedBack k high us0 us1 s }
  have done : exec (.feedbackChange k high us0 us1) s = .next ((coilsOfFb s k.1).foldl (e84Step high s u) u) := rfl
  generalize folded : (coilsOfFb s k.1).foldl (e84Step high s u) u = t at done
  have quieted : quiet t = quiet u := by
    rw [← folded]
    exact foldl_keeps quiet _ (quiet_e84Step high s u) _ u
  have aux : ∀ c, auxOf t c = auxOf u c := fun c => of_quiet (auxOf · c) (fun _ => rfl) quieted
  obtain ⟨only, sw⟩ := only_sw_of_quiet quieted
  refine ⟨t, done, only, sw, fun same => ?_, fun c single changed => ?_⟩
  · have fixed : ∀ c ∈ coilsOfFb s k.1, e84Step high s u u c = u := fun c mem => if_pos (by rw [← aux, same c mem, beq_self_eq_true])
    rw [← folded, foldl_fixed_of_mem _ _ u fixed]
  · rw [aux] at changed
    rw [sw, ← folded, single]
    exact if_neg (by simp [changed])

end
end Sys2Proof.Laws

namespace Sys2Proof.Proofs

open Sys2Proof Sys2Proof.Machine Sys2Proof.Laws

/-- Settles O27, from what each detector, timer and test does to its channel. -/
theorem channelProtectionCompletes : Obligations.ChannelProtectionCompletes :=
  ⟨channelTrip_trips, fun c det ma s => channelTrip_idle c s det ma,
    fun c k ma temp s named => ⟨shortCircuit_channel c k ma s named, channelThermal_channel c k temp s named⟩,
    fun n ma temp s => bridge_detected n s ma temp,
    fun _ _ _ _ => ⟨fun below => congrArg Host.Outcome.next (if_pos below), fun cool => congrArg Host.Outcome.next (if_pos cool)⟩,
    fun c ma us s => ⟨channelOvercurrent_trips c ma us s, channelOvercurrent_spares c ma us s⟩,
    fun mv us s => ⟨supplyUnderVoltage_switches mv us s, supplyUnderVoltage_spares mv us s⟩,
    fun mv us s => ⟨underVoltageRelease_releases mv us s, underVoltageRelease_spares mv us s⟩,
    inrushWindowEnd_ends, fun c temp s => restartEvaluation_evaluates c s temp, retryCounterDecay_lowers,
    fun c k mv mvB s => offStateTest_channel mv mvB s c k, fun n mv mvB s => offStateTest_bridge mv mvB s n, onStateOpenLoad_finds,
    fun c n s own drives => ⟨_, rfl, (coilFinding_trips c s n own drives).imp_right fun ⟨shown, _, opened⟩ => ⟨shown, opened⟩⟩,
    fun c mv s => economiserUpdate_holds c s mv, feedbackChange_takes⟩

end Sys2Proof.Proofs
